-- ==== Sys2Proof/Word.lean ====
section
/-! DEFINITION. The word types of the module: a byte, and the 16, 32 and 64-bit words the spec's
registers, instructions and messages are made of (R9: bit 0 is the least significant bit). -/

namespace Sys2Proof

/-- One byte. -/
abbrev Byte := BitVec 8
/-- A 16-bit word. -/
abbrev Half := BitVec 16
/-- A 32-bit word. -/
abbrev Word := BitVec 32
/-- A 64-bit word. -/
abbrev Long := BitVec 64

end Sys2Proof
end

