-- ==== Sys2Proof/Syntax.lean ====
section
/-! DEFINITION. The commands of the block: one constructor of `Instr` per row of
spec/opcode_table.json, in the table's order, and the data their operands carry. -/

namespace Sys2Proof

/-- The fields of a CVT instruction (R193). -/
structure CvtArgs where
  tfmt : BitVec 4
  src : BitVec 4
  dst : BitVec 4
  rnd : Bool
  scale : Bool
  gather : Bool
  slot : BitVec 4
  retain : Bool
  ra : BitVec 4
  sfmt : BitVec 4
  deriving DecidableEq, Repr

/-- A unit that sends requests on the message plane (R324, R349): a core, a port engine, a field controller, the wafer
supervisor or its standby (true), or a router, which reports its faults. -/
inductive Requester where
  | core (c : Nat)
  | port (n : Nat)
  | fieldController (f : Nat)
  | supervisor (standby : Bool)
  | router (k : Nat)
  deriving DecidableEq, Repr

/-- The two ends of a control request (R349): a unit sends it, or the packet with a number has reached its
destination. -/
inductive CtlStep (α : Type) where
  | send (a : α)
  | arrive (id : Nat)
  deriving DecidableEq, Repr

/-- A defect that the built-in test finds in a physical unit of a field (spec/14). -/
inductive TestFail where
  | core (cl slot : Nat)
  | schedRouter (cl : Nat)
  | msgRouter (cl : Nat)
  | clusterMemory (cl : Nat)
  | loader (cl : Nat)
  deriving DecidableEq, Repr

/-- What training a stitch crossing reached: the latency (`none`: it did not train) and the spare
lanes each lane group took (R307). -/
structure CrossingResult where
  latency : Option Nat
  spares : List Nat
  deriving DecidableEq, Repr

/-- What training a DRAM channel found (spec/14). -/
structure ChannelResult where
  ok : Bool
  rows : List Nat
  deriving DecidableEq, Repr

/-- Why a crossing requests retraining (R310). -/
inductive RetrainWhy where
  | margin (group v : Nat)
  | thirdSpare
  | laneFaults
  | linkDown
  deriving DecidableEq, Repr

/-- What a received IP packet carries (R480): a UDP datagram to a port, whose checksum is good (`none`: it
is zero), or anything else. -/
inductive Layer4 where
  | udp (port : BitVec 16) (checksum : Option Bool)
  | icmp
  | other
  deriving DecidableEq, Repr

/-- What a received frame carries (R479, R480, R518): IP packets with their destination, and whether they have options, extension
headers or are fragments. -/
inductive Layer3 where
  | arp
  | ipv4 (dst : BitVec 32) (options fragment : Bool) (up : Layer4)
  | ipv6 (dst : BitVec 128) (extension : Bool) (up : Layer4)
  | ptp
  | pause
  | other
  deriving DecidableEq, Repr

/-- A received Ethernet frame (R465, R479): destination address, bytes from it to the FCS, whether the FCS
is good, the VLAN tag if any, and what it carries. -/
structure Frame where
  dst : BitVec 48
  len : Nat
  fcsOk : Bool
  tag : Option (BitVec 12)
  body : Layer3
  deriving DecidableEq, Repr

/-- An interface: MGT-A or MGT-B (true), a port, or the in-band management VLAN of a port (R517, R518). -/
inductive Iface where
  | mgt (b : Bool)
  | port (n : Nat)
  | inband (n : Nat)
  deriving DecidableEq, Repr
/-- A PTP Announce (R483): domain, the sender's port identity, the grandmaster's data set that the default
algorithm compares, the steps removed, and the TAI-UTC offset. -/
structure AnnounceMsg where
  domain : BitVec 8
  source : BitVec 64
  priority1 : BitVec 8
  clockClass : BitVec 8
  accuracy : BitVec 8
  variance : BitVec 16
  priority2 : BitVec 8
  grandmaster : BitVec 64
  steps : BitVec 16
  taiUtc : BitVec 32
  deriving DecidableEq, Repr

/-- Where an HWT datagram comes from (R489): address and UDP port. -/
structure SegFrom where
  v6 : Bool
  ip : BitVec 128
  udp : BitVec 16
  deriving DecidableEq, Repr

/-- Where an HDP datagram comes from (R516): interface, MAC address, IP address and UDP port. -/
structure HdpSource where
  ifc : Iface
  mac : BitVec 48
  ip : BitVec 128
  udp : BitVec 16
  deriving DecidableEq, Repr

/-- What the MSC's ML-KEM operations and its random source give a hello (R526): both shared secrets, the
ciphertext for the client, the module random and the session id. -/
structure KemResult where
  ss1 : List (BitVec 8)
  ss2 : List (BitVec 8)
  ctC : List (BitVec 8)
  random : List (BitVec 8)
  sid : BitVec 32
  deriving DecidableEq, Repr

/-- An object reference (R531, R540), with the last two bytes of its eight. -/
structure ObjRef where
  scope : BitVec 8
  inst : BitVec 16
  num : BitVec 16
  ext : BitVec 16
  deriving DecidableEq, Repr

/-- An entry of a write request (R543). -/
structure WriteEntry where
  ref : ObjRef
  value : List (BitVec 8)
  deriving DecidableEq, Repr

/-- A reference source in the order of R555. -/
inductive RefSource where
  | primary
  | alternate
  | onModule
  deriving DecidableEq, Repr

/-- A unit that holds latched counts (R580). -/
inductive MarkUnit where
  | core (c : Nat)
  | schedRouter (k : Nat)
  | msgRouter (k : Nat)
  | clusterMemory (k : Nat)
  | channel (f ch : Nat)
  | regulator (r : Nat)
  | msc
  deriving DecidableEq, Repr

/-- The coolant sensors: inlet and outlet in degrees and flow in L/min, as FP32 words (R613, R627). -/
structure CoolantReading where
  inlet : BitVec 32
  outlet : BitVec 32
  flow : BitVec 32
  deriving DecidableEq, Repr

/-- The commands, one per row of spec/opcode_table.json. -/
inductive Instr where
  /-- AUX_INPUT_APPLIED -/
  | auxInputApplied (sigA : Bool) (sigB : Bool) (seedTime : Bool)
  /-- MODULE_RESET_WARM -/
  | moduleResetWarm
  /-- MODULE_RESET_COLD -/
  | moduleResetCold (sigA : Bool) (sigB : Bool)
  /-- PLANE_RECOVERED -/
  | planeRecovered
  /-- BOOT_RETRY -/
  | bootRetry (sigA : Bool) (sigB : Bool)
  /-- REGION_BANK_SWITCH_ON -/
  | regionBankSwitchOn (r : Nat)
  /-- RAIL_CHECK -/
  | railCheck (r : Nat) (ok : Bool)
  /-- CONTROL_IMAGE_LOAD -/
  | controlImageLoad (attempts : List (List Byte)) (licOk : List Bool)
  /-- BUILT_IN_TEST -/
  | builtInTest (f : Nat) (crcOk : Bool) (fails : List TestFail)
  /-- SPARING_SELECT -/
  | sparingSelect (f : Nat) (hops : BitVec 4)
  /-- STITCH_TRAINING -/
  | stitchTraining (f : Nat) (edge : Nat) (idx : Nat) (seen : Option (Bool × Nat)) (trained : CrossingResult)
  /-- DRAM_TRAINING -/
  | dramTraining (f : Nat) (ch : Nat) (r : ChannelResult)
  /-- FIRMWARE_BROADCAST -/
  | firmwareBroadcast (image : List Byte)
  /-- BROADCAST_ROUND -/
  | broadcastRound
  /-- ROUND_BITMAP_TIMEOUT -/
  | roundBitmapTimeout (f : Nat)
  /-- ROUND_BITMAP_FALLBACK -/
  | roundBitmapFallback (f : Nat) (silent : List Nat)
  /-- CHUNK_UNICAST_CHECK -/
  | chunkUnicastCheck (k : Nat) (chunk : Nat)
  /-- MANIFEST_PART -/
  | manifestPart (k : Nat)
  /-- CHUNK -/
  | chunk (k : Nat)
  /-- ROUND_END -/
  | roundEnd (k : Nat)
  /-- INSTALL -/
  | install (k : Nat)
  /-- CHUNK_DONE -/
  | chunkDone (k : Nat) (idx : Nat)
  /-- START_COMPLETE -/
  | startComplete (ms : BitVec 32)
  /-- FW_UPDATE_OPEN -/
  | fwUpdateOpen (len : BitVec 32)
  /-- FW_UPDATE_DATA -/
  | fwUpdateData (data : List Byte)
  /-- FW_UPDATE_COMMIT -/
  | fwUpdateCommit (v : BitVec 8) (sigOk : Bool)
  /-- LICENCE_INSTALL -/
  | licenceInstall (data : List Byte) (sigOk : Bool)
  /-- LICENCE_REMOVE -/
  | licenceRemove (licId : BitVec 64)
  /-- PARTITION_SPLIT -/
  | partitionSplit (v : BitVec 16)
  /-- GRAPH_LOAD -/
  | graphLoad (p : Nat) (addr : BitVec 64)
  /-- GRAPH_LOAD_RUN -/
  | graphLoadRun (p : Nat) (silent : List Nat)
  /-- GRAPH_UNLOAD -/
  | graphUnload (p : Nat) (v : BitVec 8)
  /-- ALTERNATE_INSTALL -/
  | alternateInstall (p : Nat) (silent : List Nat)
  /-- PARTITION_RESET_KEEP -/
  | partitionResetKeep (p : Nat)
  /-- PARTITION_RESET_REMOVE -/
  | partitionResetRemove (p : Nat)
  /-- PARTITION_RESET_RUN -/
  | partitionResetRun (p : Nat)
  /-- CLUSTER_RESET -/
  | clusterReset (k : Nat) (v : BitVec 8)
  /-- FIRING_START -/
  | firingStart (c : Nat)
  /-- END_COMPLETE -/
  | endComplete (c : Nat)
  /-- FIRING_OVERRUN -/
  | firingOverrun (c : Nat) (cycles : Nat)
  /-- FAULT_LOG_CLEAR -/
  | faultLogClear (c : Nat) (v : BitVec 32)
  /-- SEQ_CTRL_WRITE -/
  | seqCtrlWrite (c : Nat) (v : BitVec 32)
  /-- RETAIN_CTRL_WRITE -/
  | retainCtrlWrite (c : Nat) (v : BitVec 32)
  /-- CACHE_CONFIG_WRITE -/
  | cacheConfigWrite (k : Nat) (off : Nat) (v : BitVec 32)
  /-- REGISTER_WRITE -/
  | registerWrite (k : Nat) (off : Nat) (v : BitVec 32)
  /-- SMOULDER_ENTRY -/
  | smoulderEntry (c : Nat) (idle : Nat)
  /-- KINDLE -/
  | kindle (c : Nat)
  /-- KINDLE_PERMIT_GRANT -/
  | kindlePermitGrant (r : Nat) (waited : Nat)
  /-- PERMIT_REFILL -/
  | permitRefill (r : Nat)
  /-- ISSUE_STALL_RELEASE -/
  | issueStallRelease (c : Nat) (cycles : Nat)
  /-- RESERVED_INSTRUCTION -/
  | reservedInstruction (c : Nat) (w : BitVec 32)
  /-- NOP -/
  | nop (c : Nat)
  /-- END -/
  | endFiring (c : Nat)
  /-- JR -/
  | jr (c : Nat) (ra : BitVec 4)
  /-- SEED -/
  | seed (c : Nat) (ra : BitVec 4)
  /-- TIME -/
  | time (c : Nat) (rd : BitVec 4)
  /-- ACCT -/
  | acct (c : Nat) (a : BitVec 2)
  /-- TRAP -/
  | trap (c : Nat) (imm : BitVec 16)
  /-- ADD -/
  | add (c : Nat) (rd : BitVec 4) (ra : BitVec 4) (rb : BitVec 4)
  /-- SUB -/
  | sub (c : Nat) (rd : BitVec 4) (ra : BitVec 4) (rb : BitVec 4)
  /-- AND -/
  | and (c : Nat) (rd : BitVec 4) (ra : BitVec 4) (rb : BitVec 4)
  /-- OR -/
  | or (c : Nat) (rd : BitVec 4) (ra : BitVec 4) (rb : BitVec 4)
  /-- XOR -/
  | xor (c : Nat) (rd : BitVec 4) (ra : BitVec 4) (rb : BitVec 4)
  /-- SLL -/
  | sll (c : Nat) (rd : BitVec 4) (ra : BitVec 4) (rb : BitVec 4)
  /-- SRL -/
  | srl (c : Nat) (rd : BitVec 4) (ra : BitVec 4) (rb : BitVec 4)
  /-- SRA -/
  | sra (c : Nat) (rd : BitVec 4) (ra : BitVec 4) (rb : BitVec 4)
  /-- MUL -/
  | mul (c : Nat) (rd : BitVec 4) (ra : BitVec 4) (rb : BitVec 4)
  /-- MULHU -/
  | mulhu (c : Nat) (rd : BitVec 4) (ra : BitVec 4) (rb : BitVec 4)
  /-- SLT -/
  | slt (c : Nat) (rd : BitVec 4) (ra : BitVec 4) (rb : BitVec 4)
  /-- SLTU -/
  | sltu (c : Nat) (rd : BitVec 4) (ra : BitVec 4) (rb : BitVec 4)
  /-- MIN -/
  | min (c : Nat) (rd : BitVec 4) (ra : BitVec 4) (rb : BitVec 4)
  /-- MAX -/
  | max (c : Nat) (rd : BitVec 4) (ra : BitVec 4) (rb : BitVec 4)
  /-- MINU -/
  | minu (c : Nat) (rd : BitVec 4) (ra : BitVec 4) (rb : BitVec 4)
  /-- MAXU -/
  | maxu (c : Nat) (rd : BitVec 4) (ra : BitVec 4) (rb : BitVec 4)
  /-- ADDI -/
  | addi (c : Nat) (rd : BitVec 4) (ra : BitVec 4) (imm : BitVec 16)
  /-- ANDI -/
  | andi (c : Nat) (rd : BitVec 4) (ra : BitVec 4) (imm : BitVec 16)
  /-- ORI -/
  | ori (c : Nat) (rd : BitVec 4) (ra : BitVec 4) (imm : BitVec 16)
  /-- XORI -/
  | xori (c : Nat) (rd : BitVec 4) (ra : BitVec 4) (imm : BitVec 16)
  /-- SLLI -/
  | slli (c : Nat) (rd : BitVec 4) (ra : BitVec 4) (sh : BitVec 5)
  /-- SRLI -/
  | srli (c : Nat) (rd : BitVec 4) (ra : BitVec 4) (sh : BitVec 5)
  /-- SRAI -/
  | srai (c : Nat) (rd : BitVec 4) (ra : BitVec 4) (sh : BitVec 5)
  /-- SLTI -/
  | slti (c : Nat) (rd : BitVec 4) (ra : BitVec 4) (imm : BitVec 16)
  /-- SLTIU -/
  | sltiu (c : Nat) (rd : BitVec 4) (ra : BitVec 4) (imm : BitVec 16)
  /-- LUI -/
  | lui (c : Nat) (rd : BitVec 4) (imm : BitVec 16)
  /-- BEQ -/
  | beq (c : Nat) (ra : BitVec 4) (rb : BitVec 4) (target : BitVec 11)
  /-- BNE -/
  | bne (c : Nat) (ra : BitVec 4) (rb : BitVec 4) (target : BitVec 11)
  /-- BLT -/
  | blt (c : Nat) (ra : BitVec 4) (rb : BitVec 4) (target : BitVec 11)
  /-- BGE -/
  | bge (c : Nat) (ra : BitVec 4) (rb : BitVec 4) (target : BitVec 11)
  /-- BLTU -/
  | bltu (c : Nat) (ra : BitVec 4) (rb : BitVec 4) (target : BitVec 11)
  /-- BGEU -/
  | bgeu (c : Nat) (ra : BitVec 4) (rb : BitVec 4) (target : BitVec 11)
  /-- J -/
  | j (c : Nat) (target : BitVec 11)
  /-- JAL -/
  | jal (c : Nat) (ra : BitVec 4) (target : BitVec 11)
  /-- LW -/
  | lw (c : Nat) (rd : BitVec 4) (ra : BitVec 4) (off : BitVec 18)
  /-- SW -/
  | sw (c : Nat) (rd : BitVec 4) (ra : BitVec 4) (off : BitVec 18)
  /-- LBU -/
  | lbu (c : Nat) (rd : BitVec 4) (ra : BitVec 4) (off : BitVec 18)
  /-- SB -/
  | sb (c : Nat) (rd : BitVec 4) (ra : BitVec 4) (off : BitVec 18)
  /-- CSET -/
  | cset (c : Nat) (cn : BitVec 4) (imm : BitVec 16)
  /-- CADD -/
  | cadd (c : Nat) (cn : BitVec 4) (imm : BitVec 16)
  /-- CRD -/
  | crd (c : Nat) (cn : BitVec 4) (ra : BitVec 4)
  /-- CWR -/
  | cwr (c : Nat) (cn : BitVec 4) (ra : BitVec 4)
  /-- LOOP -/
  | loop (c : Nat) (cn : BitVec 4) (target : BitVec 11)
  /-- CWAIT -/
  | cwait (c : Nat) (cn : BitVec 4) (imm : BitVec 16)
  /-- TLD -/
  | tld (c : Nat) (t : BitVec 3) (ra : BitVec 4) (rb : BitVec 4) (fmt : BitVec 4)
  /-- TST -/
  | tst (c : Nat) (t : BitVec 3) (ra : BitVec 4) (rb : BitVec 4) (fmt : BitVec 4)
  /-- TLDL -/
  | tldl (c : Nat) (t : BitVec 3) (ra : BitVec 4) (rb : BitVec 4) (fmt : BitVec 4) (rc : BitVec 4)
  /-- TMUL -/
  | tmul (c : Nat) (acc : BitVec 2) (ta : BitVec 3) (tb : BitVec 3) (ovw : Bool) (sp : BitVec 3)
  /-- CVT -/
  | cvt (c : Nat) (a : CvtArgs)
  /-- RETAIN_STALL_RESUME -/
  | retainStallResume (c : Nat)
  /-- VADD -/
  | vadd (c : Nat) (vd : BitVec 4) (va : BitVec 4) (vb : BitVec 4) (sr : BitVec 4) (nfmt : Bool)
  /-- VSUB -/
  | vsub (c : Nat) (vd : BitVec 4) (va : BitVec 4) (vb : BitVec 4) (sr : BitVec 4) (nfmt : Bool)
  /-- VMUL -/
  | vmul (c : Nat) (vd : BitVec 4) (va : BitVec 4) (vb : BitVec 4) (sr : BitVec 4) (nfmt : Bool)
  /-- VFMA -/
  | vfma (c : Nat) (vd : BitVec 4) (va : BitVec 4) (vb : BitVec 4) (vc : BitVec 4) (sr : BitVec 4) (nfmt : Bool)
  /-- VMIN -/
  | vmin (c : Nat) (vd : BitVec 4) (va : BitVec 4) (vb : BitVec 4) (sr : BitVec 4) (nfmt : Bool)
  /-- VMAX -/
  | vmax (c : Nat) (vd : BitVec 4) (va : BitVec 4) (vb : BitVec 4) (sr : BitVec 4) (nfmt : Bool)
  /-- VCMPLT -/
  | vcmplt (c : Nat) (vd : BitVec 4) (va : BitVec 4) (vb : BitVec 4) (sr : BitVec 4) (nfmt : Bool)
  /-- VCMPLE -/
  | vcmple (c : Nat) (vd : BitVec 4) (va : BitVec 4) (vb : BitVec 4) (sr : BitVec 4) (nfmt : Bool)
  /-- VCMPEQ -/
  | vcmpeq (c : Nat) (vd : BitVec 4) (va : BitVec 4) (vb : BitVec 4) (sr : BitVec 4) (nfmt : Bool)
  /-- VSEL -/
  | vsel (c : Nat) (vd : BitVec 4) (va : BitVec 4) (vb : BitVec 4) (vc : BitVec 4) (sr : BitVec 4) (nfmt : Bool)
  /-- VABS -/
  | vabs (c : Nat) (vd : BitVec 4) (va : BitVec 4) (sr : BitVec 4) (nfmt : Bool)
  /-- VNEG -/
  | vneg (c : Nat) (vd : BitVec 4) (va : BitVec 4) (sr : BitVec 4) (nfmt : Bool)
  /-- VRECIP -/
  | vrecip (c : Nat) (vd : BitVec 4) (va : BitVec 4) (sr : BitVec 4) (nfmt : Bool)
  /-- VRSQRT -/
  | vrsqrt (c : Nat) (vd : BitVec 4) (va : BitVec 4) (sr : BitVec 4) (nfmt : Bool)
  /-- VEXP2 -/
  | vexp2 (c : Nat) (vd : BitVec 4) (va : BitVec 4) (sr : BitVec 4) (nfmt : Bool)
  /-- VLOG2 -/
  | vlog2 (c : Nat) (vd : BitVec 4) (va : BitVec 4) (sr : BitVec 4) (nfmt : Bool)
  /-- VRSUM -/
  | vrsum (c : Nat) (vd : BitVec 4) (va : BitVec 4) (sr : BitVec 4) (nfmt : Bool)
  /-- VRMAX -/
  | vrmax (c : Nat) (vd : BitVec 4) (va : BitVec 4) (sr : BitVec 4) (nfmt : Bool)
  /-- VTRANS -/
  | vtrans (c : Nat) (vd : BitVec 4) (va : BitVec 4)
  /-- VMOV -/
  | vmov (c : Nat) (vd : BitVec 4) (va : BitVec 4) (sr : BitVec 4) (nfmt : Bool)
  /-- VIOTR -/
  | viotr (c : Nat) (vd : BitVec 4) (sr : BitVec 4) (nfmt : Bool)
  /-- VIOTC -/
  | viotc (c : Nat) (vd : BitVec 4) (sr : BitVec 4) (nfmt : Bool)
  /-- TPOP -/
  | tpop (c : Nat) (q : BitVec 3) (t : BitVec 3)
  /-- TPUSH -/
  | tpush (c : Nat) (q : BitVec 3) (t : BitVec 3)
  /-- WSEND -/
  | wsend (c : Nat) (q : BitVec 3) (reg : BitVec 4) (n : BitVec 2)
  /-- WRECV -/
  | wrecv (c : Nat) (q : BitVec 3) (reg : BitVec 4) (n : BitVec 2)
  /-- DROPR -/
  | dropr (c : Nat) (q : BitVec 4)
  /-- TSTAT -/
  | tstat (c : Nat) (t : BitVec 3) (rd : BitVec 4)
  /-- GET -/
  | get (c : Nat) (ra : BitVec 4) (rb : BitVec 4) (rc : BitVec 4) (cn : BitVec 4) (cnt : Bool)
  /-- PUT -/
  | put (c : Nat) (ra : BitVec 4) (rb : BitVec 4) (rc : BitVec 4) (cn : BitVec 4) (cnt : Bool)
  /-- LDG -/
  | ldg (c : Nat) (ra : BitVec 4) (rc : BitVec 4)
  /-- STG -/
  | stg (c : Nat) (ra : BitVec 4) (rb : BitVec 4) (cn : BitVec 4) (cnt : Bool)
  /-- AMO -/
  | amo (c : Nat) (ra : BitVec 4) (rb : BitVec 4) (rc : BitVec 4) (op : BitVec 3)
  /-- ACQ -/
  | acq (c : Nat) (ra : BitVec 4) (rb : BitVec 4) (all : Bool)
  /-- ACQUIRE_COMPLETE -/
  | acquireComplete (c : Nat)
  /-- FENCE -/
  | fence (c : Nat)
  /-- CFGRD -/
  | cfgrd (c : Nat) (rd : BitVec 4) (off : BitVec 12)
  /-- REKINDLE_FETCH_RESPONSE -/
  | rekindleFetchResponse (id : Nat) (cycle : Nat)
  /-- REKINDLE_MULTIPLY -/
  | rekindleMultiply (c : Nat) (cycle : Nat)
  /-- RETAINED_COPY_FETCH -/
  | retainedCopyFetch (id : Nat)
  /-- MORDANT_COMMIT -/
  | mordantCommit (e : CtlStep Nat)
  /-- MORDANT_DISCARD -/
  | mordantDiscard (e : CtlStep Nat)
  /-- MORDANT_SLOT_PROCESS -/
  | mordantSlotProcess (c : Nat)
  /-- MORDANT_ACK_TIMEOUT -/
  | mordantAckTimeout (c : Nat)
  /-- PERIOD_START_COMMAND -/
  | periodStartCommand (e : CtlStep Nat)
  /-- PERIOD_RESTART -/
  | periodRestart (e : CtlStep Nat)
  /-- RESTART_ACK_TIMEOUT -/
  | restartAckTimeout (c : Nat)
  /-- ACKNOWLEDGE -/
  | acknowledge (e : CtlStep Nat) (ns : BitVec 32)
  /-- FAULT_REPORT -/
  | faultReport (e : CtlStep Requester)
  /-- DROP_CYCLE -/
  | dropCycle (e : CtlStep Nat)
  /-- CONFIGURATION_READ -/
  | configurationRead (e : CtlStep (Requester × BitVec 64 × Nat))
  /-- CONFIGURATION_WRITE -/
  | configurationWrite (e : CtlStep (Requester × BitVec 64 × List Byte))
  /-- CONTROL_RESPONSE -/
  | controlResponse (id : Nat)
  /-- SLOT_DEPARTURE -/
  | slotDeparture (k : Nat) (e : Nat) (n : BitVec 64)
  /-- SLOT_MISS -/
  | slotMiss (k : Nat) (e : Nat) (n : BitVec 64)
  /-- BEAT_ARRIVAL -/
  | beatArrival (id : Nat) (fixed : Nat) (bad : Bool)
  /-- MERGE_ROUND_COMPLETE -/
  | mergeRoundComplete (k : Nat) (st : Nat)
  /-- TUPLE_DEPARTURE -/
  | tupleDeparture (k : Nat) (e : Nat) (n : BitVec 64)
  /-- TUPLE_ARRIVAL -/
  | tupleArrival (id : Nat) (fixed : Nat) (bad : Bool)
  /-- CREDIT_FLIT_SEND -/
  | creditFlitSend (k : Nat) (e : Nat) (n : BitVec 64)
  /-- CREDIT_ARRIVAL -/
  | creditArrival (id : Nat) (fixed : Nat) (bad : Bool)
  /-- COMBINE_CONTRIBUTION -/
  | combineContribution (k : Nat) (q : Nat)
  /-- COMBINE_RESULT_DEPARTURE -/
  | combineResultDeparture (k : Nat) (e : Nat) (n : BitVec 64)
  /-- ROUTER_PERIOD_START -/
  | routerPeriodStart (k : Nat) (n : BitVec 64)
  /-- PERIOD_START_WRITE -/
  | periodStartWrite (k : Nat) (s0 : BitVec 64)
  /-- DROP_WINDOW_START -/
  | dropWindowStart (k : Nat) (n : BitVec 64)
  /-- SOOT_ADVANCE -/
  | sootAdvance (k : Nat) (v : BitVec 32)
  /-- TELEM_ADVANCE -/
  | telemAdvance (k : Nat) (v : BitVec 32)
  /-- LANE_REPAIR -/
  | laneRepair (f : Nat) (edge : Nat) (idx : Nat) (group : Nat) (lane : Nat) (corrected : Nat)
  /-- STITCH_RETRAIN_REQUEST -/
  | stitchRetrainRequest (f : Nat) (edge : Nat) (idx : Nat) (why : RetrainWhy)
  /-- STITCH_RETRAIN -/
  | stitchRetrain (f : Nat) (v : BitVec 16)
  /-- STITCH_RETRAIN_COMPLETE -/
  | stitchRetrainComplete (f : Nat) (edge : Nat) (idx : Nat) (r : CrossingResult)
  /-- PACKET_INJECT -/
  | packetInject (id : Nat)
  /-- PACKET_HOP -/
  | packetHop (k : Nat) (q : Nat)
  /-- FLIT_NAK -/
  | flitNak (k : Nat) (port : Nat) (err : BitVec 303)
  /-- LINK_DOWN -/
  | linkDown (k : Nat) (port : Nat) (n : BitVec 64)
  /-- READ_REQUEST -/
  | readRequest (id : Nat)
  /-- WRITE_REQUEST -/
  | writeRequest (id : Nat)
  /-- ATOMIC_REQUEST -/
  | atomicRequest (id : Nat)
  /-- READ_RESPONSE -/
  | readResponse (id : Nat)
  /-- WRITE_RESPONSE -/
  | writeResponse (id : Nat)
  /-- ATOMIC_RESPONSE -/
  | atomicResponse (id : Nat)
  /-- INBOX_DELIVERY -/
  | inboxDelivery (id : Nat)
  /-- REQUEST_TIMEOUT -/
  | requestTimeout (u : Requester) (txn : Nat)
  /-- HAZARD_RELEASE -/
  | hazardRelease (u : Requester) (waited : Nat)
  /-- SCRUB_READ -/
  | scrubRead (f : Nat) (ch : Nat)
  /-- DRAM_TEMPERATURE_READ -/
  | dramTemperatureRead (f : Nat) (ch : Nat) (temp : BitVec 8)
  /-- REFRESH_COMMAND -/
  | refreshCommand (f : Nat) (ch : Nat)
  /-- CHANNEL_FAILURE -/
  | channelFailure (f : Nat) (ch : Nat)
  /-- STREAM_OPEN -/
  | streamOpen (n : Nat) (a : Nat)
  /-- PROMPT_SUBMISSION -/
  | promptSubmission (n : Nat) (a : Nat)
  /-- CREDIT_GRANT -/
  | creditGrant (n : Nat) (a : Nat)
  /-- STREAM_CLOSE_REQUEST -/
  | streamCloseRequest (n : Nat) (a : Nat)
  /-- STREAM_CLOSE -/
  | streamClose (sid : Nat) (v : BitVec 8)
  /-- CLASS0_LIMIT_WRITE -/
  | class0LimitWrite (p : Nat) (ctx : Bool) (v : BitVec 32)
  /-- POOL_ENTRIES_WRITE -/
  | poolEntriesWrite (n : Nat) (v : BitVec 32)
  /-- POOL_BASE_WRITE -/
  | poolBaseWrite (n : Nat) (v : BitVec 64)
  /-- ADMISSION -/
  | admission (p : Nat) (at_ : BitVec 64)
  /-- PLANNED_START -/
  | plannedStart (p : Nat) (at_ : BitVec 64) (s0 : BitVec 64) (hz : BitVec 64)
  /-- DONE_POLL -/
  | donePoll (p : Nat) (at_ : BitVec 64)
  /-- COMMIT_POINT -/
  | commitPoint (p : Nat) (at_ : BitVec 64)
  /-- DEADLINE -/
  | deadline (p : Nat) (at_ : BitVec 64)
  /-- DROP_CAUSE_ARRIVAL -/
  | dropCauseArrival (p : Nat) (cause : Nat) (at_ : BitVec 64) (kc : BitVec 64)
  /-- PERIOD_COMMIT -/
  | periodCommit (n : Nat)
  /-- PERIOD_DROP -/
  | periodDrop (n : Nat)
  /-- ENERGY_APPORTION -/
  | energyApportion (p : Nat)
  /-- PORT_MODE -/
  | portMode (n : Nat) (v : BitVec 8)
  /-- PORT_RETRAIN -/
  | portRetrain (n : Nat) (v : BitVec 8)
  /-- PORT_RETRAIN_TRIGGER -/
  | portRetrainTrigger (n : Nat) (uncorrectable : Nat) (aligned : Bool)
  /-- PORT_TRAINING_START -/
  | portTrainingStart (n : Nat)
  /-- TRAINING_FRAME -/
  | trainingFrame (n : Nat) (lane : Nat) (symbols : List Nat)
  /-- TRAINING_PHASE_TIMEOUT -/
  | trainingPhaseTimeout (n : Nat) (ber : List Nat) (uncorrectable : Nat)
  /-- PORT_TRAINING_END -/
  | portTrainingEnd (n : Nat)
  /-- PORT_DARK_RETRY -/
  | portDarkRetry (n : Nat)
  /-- PORT_DOWN -/
  | portDown (n : Nat)
  /-- FRAME_RECEIVE -/
  | frameReceive (n : Nat) (fr : Frame)
  /-- ARP_REQUEST -/
  | arpRequest (ifc : Iface) (mac : BitVec 48) (ip : BitVec 32) (target : BitVec 32)
  /-- NEIGHBOUR_SOLICITATION -/
  | neighbourSolicitation (ifc : Iface) (mac : BitVec 48) (ip : BitVec 128) (target : BitVec 128)
  /-- ECHO_REQUEST -/
  | echoRequest (ifc : Iface) (mac : BitVec 48) (v6 : Bool) (src : BitVec 128) (dst : BitVec 128) (data : List Byte)
  /-- ANNOUNCE -/
  | announce (n : Nat) (a : AnnounceMsg)
  /-- SYNC -/
  | sync (n : Nat) (seq : BitVec 16) (domain : BitVec 8) (source : BitVec 64) (twoStep : Bool) (origin : BitVec 64) (at_ : BitVec 64)
  /-- FOLLOW_UP -/
  | followUp (n : Nat) (seq : BitVec 16) (domain : BitVec 8) (source : BitVec 64) (origin : BitVec 64)
  /-- DELAY_RESP -/
  | delayResp (n : Nat) (seq : BitVec 16) (domain : BitVec 8) (source : BitVec 64) (received : BitVec 64)
  /-- DELAY_REQ_SEND -/
  | delayReqSend (n : Nat) (at_ : BitVec 64)
  /-- SYNC_TIMEOUT -/
  | syncTimeout
  /-- DATA_SEGMENT -/
  | dataSegment (n : Nat) (src : SegFrom) (dg : List Byte) (ce : Bool)
  /-- ACKNOWLEDGEMENT_SEGMENT -/
  | acknowledgementSegment (n : Nat) (src : SegFrom) (dg : List Byte)
  /-- SYNC_SEGMENT -/
  | syncSegment (n : Nat) (src : SegFrom) (dg : List Byte)
  /-- SYNC_SEND -/
  | syncSend (n : Nat) (a : Nat) (seq : BitVec 32)
  /-- ACK_TIMER -/
  | ackTimer (n : Nat) (a : Nat)
  /-- RESEND_TIMEOUT -/
  | resendTimeout (n : Nat) (a : Nat) (seq : BitVec 32)
  /-- RATE_UPDATE -/
  | rateUpdate (n : Nat) (a : Nat)
  /-- REMOTE_WRITE -/
  | remoteWrite (n : Nat) (a : Nat)
  /-- REMOTE_WRITE_COMPLETE -/
  | remoteWriteComplete (n : Nat) (op : Nat)
  /-- WRITE_COMPLETION -/
  | writeCompletion (n : Nat) (a : Nat)
  /-- REMOTE_READ -/
  | remoteRead (n : Nat) (a : Nat)
  /-- REMOTE_READ_RESPONSE -/
  | remoteReadResponse (n : Nat) (a : Nat)
  /-- NACK -/
  | nack (n : Nat) (a : Nat)
  /-- ASSOC_WRITE -/
  | assocWrite (n : Nat) (a : Nat) (data : List Byte)
  /-- WINDOW_WRITE -/
  | windowWrite (n : Nat) (w : Nat) (data : List Byte)
  /-- HDP_FRAGMENT -/
  | hdpFragment (src : HdpSource) (data : List Byte) (at_ : BitVec 64)
  /-- FRAGMENT_TIMEOUT -/
  | fragmentTimeout (src : HdpSource) (sid : BitVec 32) (reqId : BitVec 32) (mtype : BitVec 8)
  /-- IDENTITY_REQUEST -/
  | identityRequest (src : HdpSource) (reqId : BitVec 32)
  /-- HELLO -/
  | hello (src : HdpSource) (reqId : BitVec 32) (body : List Byte) (kem : KemResult)
  /-- FINISH -/
  | finish (sid : BitVec 32) (reqId : BitVec 32) (proof : List Byte)
  /-- PENDING_SESSION_TIMEOUT -/
  | pendingSessionTimeout (sid : BitVec 32)
  /-- READ -/
  | read (sid : BitVec 32) (reqId : BitVec 32) (refs : List ObjRef)
  /-- WRITE -/
  | write (sid : BitVec 32) (reqId : BitVec 32) (entries : List WriteEntry)
  /-- LIST -/
  | list (sid : BitVec 32) (reqId : BitVec 32) (ref : ObjRef)
  /-- DESCRIBE -/
  | describe (sid : BitVec 32) (reqId : BitVec 32) (ref : ObjRef)
  /-- CLOSE -/
  | close (sid : BitVec 32) (reqId : BitVec 32)
  /-- SESSION_IDLE_TIMEOUT -/
  | sessionIdleTimeout (sid : BitVec 32)
  /-- SESSION_KILL -/
  | sessionKill (sid : BitVec 32)
  /-- CRED_KEY -/
  | credKey (ix : Nat) (key : List Byte)
  /-- CRED_ROLE -/
  | credRole (ix : Nat) (v : BitVec 8)
  /-- CONFIG_SAVE -/
  | configSave (v : BitVec 8)
  /-- CONFIG_CLEAR -/
  | configClear (v : BitVec 8)
  /-- REF_SOURCE_INVALID -/
  | refSourceInvalid (src : RefSource)
  /-- REF_REVERT -/
  | refRevert (src : RefSource) (held : Nat)
  /-- REFERENCE_LOST -/
  | referenceLost
  /-- REFERENCE_RELOCK -/
  | referenceRelock (src : RefSource)
  /-- DIVIDER_STEP -/
  | dividerStep (ix : Nat) (n : BitVec 64)
  /-- MARKER_SEND -/
  | markerSend (f : Nat) (n : BitVec 64)
  /-- MARKER -/
  | marker (f : Nat) (count : BitVec 64) (wt : BitVec 64) (own : BitVec 64)
  /-- FORWARDED_INPUT_LOST -/
  | forwardedInputLost (f : Nat) (working : List Nat)
  /-- OSCILLATOR_CHECK -/
  | oscillatorCheck (ppm : Int)
  /-- FREQ_MEASURE -/
  | freqMeasure (f : Nat) (v : BitVec 32)
  /-- FREQUENCY_COUNT_DONE -/
  | frequencyCountDone (f : Nat) (edges : BitVec 64)
  /-- FREQUENCY_COUNT_LOST -/
  | frequencyCountLost (f : Nat)
  /-- MODULE_MARK -/
  | moduleMark (m : BitVec 64)
  /-- SAMPLE_MARK -/
  | sampleMark (lead : BitVec 32)
  /-- MARK_LATCH -/
  | markLatch (which : Bool) (u : MarkUnit)
  /-- MARK_COMPLETE -/
  | markComplete (which : Bool)
  /-- MARK_ABANDON -/
  | markAbandon (which : Bool)
  /-- GOVERNOR_TICK -/
  | governorTick (watts : List Nat) (aux : Nat) (stepSlot : Bool)
  /-- BOOST_TIMEOUT -/
  | boostTimeout (why : Nat)
  /-- RECOVERY_END -/
  | recoveryEnd
  /-- LEASE_GRANT -/
  | leaseGrant (data : List Byte)
  /-- LEASE_TICK -/
  | leaseTick
  /-- WEAR_TICK -/
  | wearTick (r : Nat) (watts : Nat) (tj : Int)
  /-- WEAR_STORE -/
  | wearStore
  /-- THERMAL_SAMPLE -/
  | thermalSample (r : Nat) (stackC : List Nat) (junctionC : List Nat) (coolant : CoolantReading)
  /-- AWAKE_CEILING_STEP -/
  | awakeCeilingStep (r : Nat)
  /-- COOLANT_SHUTDOWN -/
  | coolantShutdown (inlet : Bool)
  /-- FUSE_OPEN -/
  | fuseOpen (r : Nat) (cause : Nat)
  /-- FLASH_INHIBIT_SET -/
  | flashInhibitSet (planeMv : Nat) (auxMv : Nat)
  /-- FLASH_INHIBIT_CLEAR -/
  | flashInhibitClear (planeMv : Nat) (auxMv : Nat)
  /-- FEED_LOST -/
  | feedLost (b : Bool)
  /-- FEED_SUPPLYING -/
  | feedSupplying (b : Bool)
  /-- PLANE_HOLD -/
  | planeHold
  /-- AUX_INPUT_LOW -/
  | auxInputLow (sigA : Bool) (sigB : Bool)
  /-- COEF_TABLE -/
  | coefTable (data : List Byte)
  /-- CORE_DEAD -/
  | coreDead (c : Nat)
  /-- HEARTBEAT -/
  | heartbeat
  /-- HEARTBEAT_TIMEOUT -/
  | heartbeatTimeout
  /-- FAULT_RECORD -/
  | faultRecord (src : Nat)
  /-- AVAILABILITY_TICK -/
  | availabilityTick
  /-- AVAIL_CLEAR -/
  | availClear (v : BitVec 8)
  /-- ATTEST_REQUEST -/
  | attestRequest (nonce : List Byte)
  /-- ATTEST_SIGNED -/
  | attestSigned (sig : List Byte)
  /-- SVN_COMMIT -/
  | svnCommit (v : BitVec 8)
  /-- SLOT_ACCEPT -/
  | slotAccept (v : BitVec 8)
  /-- DECOMMISSION -/
  | decommission (digest : List Byte) (sigA : Bool) (sigB : Bool)
  /-- INTERLOCK_CHANGE -/
  | interlockChange (closed : Bool)
  /-- SHED_ASSERT -/
  | shedAssert
  /-- SHED_RELEASE -/
  | shedRelease
  /-- ROUTER_FAILED_IN_SERVICE -/
  | routerFailedInService (k : Nat) (msg : Bool)
  /-- REGISTER_FILE_PARITY_ERROR -/
  | registerFileParityError (c : Nat) (unit : BitVec 64)
  /-- MSC_WATCHDOG_HOLD -/
  | mscWatchdogHold
  /-- MGT_LINK_CHANGE -/
  | mgtLinkChange (b : Bool) (up : Bool)
  deriving DecidableEq, Repr

end Sys2Proof
end

