-- ==== Sys2Proof/Decode.lean ====
section
/-! DEFINITION. Commands spelt as words. The table of this block gives no row any bits: a command has operands and no
encoding, so no word spells one. -/

namespace Sys2Proof

/-- The command that a word spells by the table's bits: none, since no row of the table has bits. -/
def decodeTableWord (_nbits _w : Nat) : Option Instr := none

end Sys2Proof
end

