-- ==== Sys2Proof/Machine/Bits.lean ====
section
/-! DEFINITION. Bit fields, byte order, sorted maps and sparse words: the plain data helpers every
other file of the machine uses. R9, R10 (little-endian memory), R11 (big-endian headers). -/

namespace Sys2Proof.Machine

/-- The field of `len` bits of the number `v` whose lowest bit is bit `lo`. -/
def nfld (v lo len : Nat) : Nat := (v >>> lo) % 2 ^ len

/-- `v` with its field of `len` bits at `lo` replaced by the low bits of `x`. -/
def nset (v lo len x : Nat) : Nat :=
  v - (nfld v lo len) <<< lo + (x % 2 ^ len) <<< lo

/-- The field of `len` bits at `lo` of a word. -/
def fld {n : Nat} (w : BitVec n) (lo len : Nat) : Nat := nfld w.toNat lo len

/-- The word `w` with its field of `len` bits at `lo` replaced by the low bits of `x`. -/
def setFld {n : Nat} (w : BitVec n) (lo len x : Nat) : BitVec n :=
  BitVec.ofNat n (nset w.toNat lo len x)

/-- Bit `k` of a number. -/
def nbit (v k : Nat) : Bool := v.testBit k

/-- 1 for true, 0 for false. -/
def b2n (b : Bool) : Nat := if b then 1 else 0

/-- `a - b` on natural numbers is zero below zero; the count of set bits of `v` below bit `n`. -/
def popCount (v : Nat) : Nat → Nat
  | 0 => 0
  | n + 1 => b2n (v.testBit n) + popCount v n

/-- The `n` bytes of `v`, least significant first (R10). -/
def leBytes : Nat → Nat → List Byte
  | 0, _ => []
  | n + 1, v => BitVec.ofNat 8 v :: leBytes n (v / 256)

/-- The number whose bytes, least significant first, are given (R10). -/
def ofLe : List Byte → Nat
  | [] => 0
  | b :: r => b.toNat + 256 * ofLe r

/-- The `n` bytes of `v`, most significant first (R11). -/
def beBytes (n v : Nat) : List Byte := (leBytes n v).reverse

/-- The number whose bytes, most significant first, are given (R11). -/
def ofBe (l : List Byte) : Nat := l.foldl (fun a b => a * 256 + b.toNat) 0

/-- Bytes `off` to `off + len - 1` of a list, zeros standing for bytes past its end. -/
def sliceB (l : List Byte) (off len : Nat) : List Byte :=
  let d := (l.drop off).take len
  d ++ List.replicate (len - d.length) 0#8

/-- The little-endian number in bytes `off` to `off + len - 1` of a list. -/
def leAt (l : List Byte) (off len : Nat) : Nat := ofLe (sliceB l off len)

/-- The big-endian number in bytes `off` to `off + len - 1` of a list. -/
def beAt (l : List Byte) (off len : Nat) : Nat := ofBe (sliceB l off len)

/-- A list cut or padded with zero bytes to exactly `n` bytes. -/
def padTo (n : Nat) (l : List Byte) : List Byte := sliceB l 0 n

/-- A list with the bytes from `off` on replaced by `d` (the list keeps its length). -/
def patchB (l : List Byte) (off : Nat) (d : List Byte) : List Byte :=
  (l.take off ++ d ++ l.drop (off + d.length)).take l.length

/-- A finite map from numbers to values, held as a list of pairs whose keys strictly rise. -/
abbrev SMap (α : Type) := List (Nat × α)

variable {α β : Type}

/-- The value at a key, if the map lists one. -/
def SMap.look (m : SMap α) (k : Nat) : Option α :=
  match m with
  | [] => none
  | (k', v) :: r => if k = k' then some v else SMap.look r k

/-- The value at a key, or `d` where the map lists none. -/
def SMap.get (m : SMap α) (d : α) (k : Nat) : α := (m.look k).getD d

/-- The map with the value at a key set. -/
def SMap.put (m : SMap α) (k : Nat) (v : α) : SMap α :=
  match m with
  | [] => [(k, v)]
  | (k', v') :: r =>
    if k < k' then (k, v) :: (k', v') :: r
    else if k = k' then (k, v) :: r
    else (k', v') :: SMap.put r k v

/-- The map without a key. -/
def SMap.del (m : SMap α) (k : Nat) : SMap α := m.filter (fun p => p.1 ≠ k)

/-- The map with the value at a key changed by `f` (from `d` where it lists none). -/
def SMap.mod (m : SMap α) (d : α) (k : Nat) (f : α → α) : SMap α := m.put k (f (m.get d k))

/-- The map with every value changed. -/
def SMap.mapV (m : SMap α) (f : α → β) : SMap β := m.map (fun p => (p.1, f p.2))

/-- The keys a map lists. -/
def SMap.keys (m : SMap α) : List Nat := m.map (·.1)

/-- Whether a map lists a key. -/
def SMap.has (m : SMap α) (k : Nat) : Bool := (m.look k).isSome

/-- The least number not among the keys from `n` on: a free key. -/
def SMap.fresh (m : SMap α) : Nat := m.foldl (fun a p => max a (p.1 + 1)) 0

/-- A number of a list, once. -/
def addOnce (l : List Nat) (c : Nat) : List Nat := if l.contains c then l else l ++ [c]

/-- The keys strictly rise. -/
def SMap.wf (m : SMap α) : Bool :=
  match m with
  | [] => true
  | [_] => true
  | (k, _) :: (k', v') :: r => decide (k < k') && SMap.wf ((k', v') :: r)

/-- Words by address, an address that is not listed reading as zero: the canonical form lists
addresses in strictly rising order and lists no zero. -/
abbrev Sparse (w : Nat) := List (Nat × BitVec w)

/-- The word at an address. -/
def Sparse.rd {w : Nat} (m : Sparse w) (a : Nat) : BitVec w :=
  match m with
  | [] => 0
  | (a', v) :: r => if a = a' then v else Sparse.rd r a

/-- The words with the one at an address written; a zero is not listed. -/
def Sparse.wr {w : Nat} (m : Sparse w) (a : Nat) (x : BitVec w) : Sparse w :=
  if x = 0 then m.filter (fun p => p.1 ≠ a) else SMap.put m a x

/-- The canonical form: addresses strictly rise, and no listed word is zero. -/
def Sparse.wf {w : Nat} (m : Sparse w) : Bool :=
  SMap.wf m && m.all (fun p => p.2 ≠ 0)

/-- Byte memory: the bytes by address, an unlisted address reading as zero. -/
abbrev Mem := Sparse 8

/-- `n` words from address `a` on. -/
def Sparse.rdN {w : Nat} (m : Sparse w) (a : Nat) : Nat → List (BitVec w)
  | 0 => []
  | n + 1 => m.rd a :: Sparse.rdN m (a + 1) n

/-- Writes words from address `a` on. -/
def Sparse.wrN {w : Nat} (m : Sparse w) (a : Nat) : List (BitVec w) → Sparse w
  | [] => m
  | x :: r => Sparse.wrN (m.wr a x) (a + 1) r

/-- The sparse form of words placed from address `a` on. -/
def Sparse.ofList {w : Nat} (a : Nat) : List (BitVec w) → Sparse w
  | [] => []
  | x :: r => if x = 0 then Sparse.ofList (a + 1) r else (a, x) :: Sparse.ofList (a + 1) r

/-- `n` words from address `a` on, of a sparse form, by one walk of it. -/
def Sparse.dense {w : Nat} (m : Sparse w) (a : Nat) : Nat → List (BitVec w)
  | 0 => []
  | n + 1 =>
    match m.dropWhile (fun p => p.1 < a) with
    | [] => List.replicate (n + 1) 0
    | (a', v) :: r =>
      if a' = a then v :: Sparse.dense r (a + 1) n
      else 0 :: Sparse.dense ((a', v) :: r) (a + 1) n

/-- Writes words from address `a` on by one walk: every listed word in the range is replaced. -/
def Sparse.blit {w : Nat} (m : Sparse w) (a : Nat) (l : List (BitVec w)) : Sparse w :=
  m.filter (fun p => p.1 < a) ++ Sparse.ofList a l ++ m.filter (fun p => a + l.length ≤ p.1)

/-- The little-endian number in `n` bytes of memory from `a` on (R10). -/
def Mem.rdLe (m : Mem) (a n : Nat) : Nat := ofLe (Sparse.rdN m a n)

/-- Writes the `n` little-endian bytes of `v` from `a` on (R10). -/
def Mem.wrLe (m : Mem) (a n v : Nat) : Mem := Sparse.wrN m a (leBytes n v)

/-- The canonical form of a byte memory. -/
def Memory.wf (m : Mem) : Bool := Sparse.wf m

/-- The 16-bit count, saturating at `cap`. -/
def satAdd (a b cap : Nat) : Nat := if cap < a + b then cap else a + b

/-- The value `v` of `w` bits read as two's complement. -/
def toSInt (w v : Nat) : Int := if v % 2 ^ w < 2 ^ (w - 1) then (v % 2 ^ w : Nat) else (v % 2 ^ w : Nat) - (2 ^ w : Nat)

/-- The `w` low bits of an integer, as a number. -/
def ofSInt (w : Nat) (x : Int) : Nat := (x % (2 ^ w : Nat)).toNat

end Sys2Proof.Machine
end

