-- ==== Sys2Proof/Machine/Crypto.lean ====
section
/-! DEFINITION. The digests and check codes that the spec names: SHA-256, HMAC and HKDF over it (R522, R527,
R646), CRC-32C (R32, R487, R636, R638) and CRC-16 (R316, R472). -/

namespace Sys2Proof.Machine

/-! ### SHA-256 -/

/-- Round constants 0 to 15, the first in the highest 32 bits. -/
def shaRow0 : Nat :=
  0x428A2F9871374491B5C0FBCFE9B5DBA53956C25B59F111F1923F82A4AB1C5ED5D807AA9812835B01243185BE550C7DC372BE5D7480DEB1FE9BDC06A7C19BF174
/-- Round constants 16 to 31, the first in the highest 32 bits. -/
def shaRow1 : Nat :=
  0xE49B69C1EFBE47860FC19DC6240CA1CC2DE92C6F4A7484AA5CB0A9DC76F988DA983E5152A831C66DB00327C8BF597FC7C6E00BF3D5A7914706CA635114292967
/-- Round constants 32 to 47, the first in the highest 32 bits. -/
def shaRow2 : Nat :=
  0x27B70A852E1B21384D2C6DFC53380D13650A7354766A0ABB81C2C92E92722C85A2BFE8A1A81A664BC24B8B70C76C51A3D192E819D6990624F40E3585106AA070
/-- Round constants 48 to 63, the first in the highest 32 bits. -/
def shaRow3 : Nat :=
  0x19A4C1161E376C082748774C34B0BCB5391C0CB34ED8AA4A5B9CCA4F682E6FF3748F82EE78A5636F84C878148CC7020890BEFFFAA4506CEBBEF9A3F7C67178F2

/-- The sixteen words of a row. -/
def shaWords (row : Nat) : List Word := (List.range 16).map (fun j => BitVec.ofNat 32 (row >>> (32 * (15 - j))))

/-- The round constants. -/
def shaK : List Word := [shaRow0, shaRow1, shaRow2, shaRow3].flatMap shaWords

/-- The working variables of SHA-256. -/
structure Sha where
  a : Word
  b : Word
  c : Word
  d : Word
  e : Word
  f : Word
  g : Word
  h : Word
  deriving DecidableEq, Repr

/-- The initial hash value. -/
def Sha.init : Sha :=
  ⟨0x6A09E667#32, 0xBB67AE85#32, 0x3C6EF372#32, 0xA54FF53A#32,
   0x510E527F#32, 0x9B05688C#32, 0x1F83D9AB#32, 0x5BE0CD19#32⟩

def Sha.add (x y : Sha) : Sha :=
  ⟨x.a + y.a, x.b + y.b, x.c + y.c, x.d + y.d, x.e + y.e, x.f + y.f, x.g + y.g, x.h + y.h⟩

/-- One round. -/
def Sha.round (x : Sha) (kw : Word) : Sha :=
  let s1 := x.e.rotateRight 6 ^^^ x.e.rotateRight 11 ^^^ x.e.rotateRight 25
  let ch := (x.e &&& x.f) ^^^ (~~~x.e &&& x.g)
  let t1 := x.h + s1 + ch + kw
  let s0 := x.a.rotateRight 2 ^^^ x.a.rotateRight 13 ^^^ x.a.rotateRight 22
  let mj := (x.a &&& x.b) ^^^ (x.a &&& x.c) ^^^ (x.b &&& x.c)
  ⟨t1 + (s0 + mj), x.a, x.b, x.c, x.d + t1, x.e, x.f, x.g⟩

/-- The message schedule: the last 16 words slide along, `n` more words are made. -/
def shaSchedule : Nat → List Word → List Word
  | 0, w => w
  | n + 1, w =>
    match w with
    | [] => []
    | x :: r =>
      let w1 := (w[1]?).getD 0
      let w9 := (w[9]?).getD 0
      let w14 := (w[14]?).getD 0
      let s0 := w1.rotateRight 7 ^^^ w1.rotateRight 18 ^^^ (w1 >>> 3)
      let s1 := w14.rotateRight 17 ^^^ w14.rotateRight 19 ^^^ (w14 >>> 10)
      x :: shaSchedule n (r ++ [x + s0 + w9 + s1])

/-- One 64-byte block. -/
def Sha.block (x : Sha) (b : List Byte) : Sha :=
  let w := shaSchedule 48 ((List.range 16).map (fun j => BitVec.ofNat 32 (beAt b (4 * j) 4)))
  x.add ((shaK.zip w).foldl (fun y p => y.round (p.1 + p.2)) x)

/-- The blocks of a padded message; `n` bounds their number. -/
def shaBlocks : Nat → List Byte → Sha → Sha
  | 0, _, x => x
  | n + 1, l, x =>
    match l with
    | [] => x
    | _ => shaBlocks n (l.drop 64) (x.block (l.take 64))

/-- SHA-256 of a byte string. -/
def sha256 (l : List Byte) : List Byte :=
  let n := l.length
  let z := (119 - n % 64) % 64
  let m := l ++ [0x80#8] ++ List.replicate z 0#8 ++ beBytes 8 (8 * n)
  let x := shaBlocks (m.length / 64) m Sha.init
  [x.a, x.b, x.c, x.d, x.e, x.f, x.g, x.h].flatMap (fun w => beBytes 4 w.toNat)

/-! ### HMAC and HKDF -/

/-- HMAC-SHA-256 (R522). -/
def hmac (key msg : List Byte) : List Byte :=
  let k := padTo 64 (if 64 < key.length then sha256 key else key)
  sha256 (k.map (· ^^^ 0x5C#8) ++ sha256 (k.map (· ^^^ 0x36#8) ++ msg))

/-- HKDF-Extract (R527). -/
def hkdfExtract (salt ikm : List Byte) : List Byte := hmac salt ikm

/-- The blocks of HKDF-Expand: `n` of them from number `i`, after block `t`. -/
def hkdfBlocks (prk info : List Byte) : Nat → Nat → List Byte → List Byte
  | 0, _, _ => []
  | n + 1, i, t =>
    let t' := hmac prk (t ++ info ++ [BitVec.ofNat 8 i])
    t' ++ hkdfBlocks prk info n (i + 1) t'

/-- HKDF-Expand to `len` bytes (R527, R544). -/
def hkdfExpand (prk info : List Byte) (len : Nat) : List Byte :=
  (hkdfBlocks prk info ((len + 31) / 32) 1 []).take len

/-- The bytes of an ASCII text. -/
def ascii (t : String) : List Byte := t.toList.map (fun c => BitVec.ofNat 8 c.toNat)

/-! ### Check codes -/

/-- One byte into a right-shifting CRC register with the mask `poly`. -/
def crcStep (poly : Nat) (c : Nat) (b : Byte) : Nat :=
  (List.range 8).foldl (fun x _ => if x % 2 = 1 then (x / 2) ^^^ poly else x / 2) (c ^^^ b.toNat)

/-- CRC-32C (the Castagnoli polynomial, reflected, initial and final value all ones; PRESUMED). -/
def crc32c (l : List Byte) : Nat := (l.foldl (crcStep 0x82F63B78) 0xFFFFFFFF) ^^^ 0xFFFFFFFF

/-- CRC-16 with x^16 + x^12 + x^5 + 1 (R316), bits most significant first, from all zeros (PRESUMED). -/
def crc16 (bits : List Bool) : Nat :=
  bits.foldl (fun c b =>
    let top := nbit c 15 != b
    let s := (c * 2) % 65536
    if top then s ^^^ 0x1021 else s) 0

end Sys2Proof.Machine
end

