-- ==== Sys2Proof/Config.lean ====
section
/-! DEFINITION. The free values: constants with no body, so that no proof can see a value of one.
A free value is read at the counter `State.free`, which each use advances. -/

namespace Sys2Proof.Config

/-- A fresh 64-bit value for each number: random seeds (R86, R336) and values the spec leaves
open (DESIGN CHOICE; the assumption log says which). -/
opaque freeLong : Nat → BitVec 64

/-- A fresh natural number for each number: choices the spec leaves open. -/
opaque freeNat : Nat → Nat

/-- The free FP32 result of a vector operation at operands for which the spec states none: the
operation code and the operand's bits. -/
opaque freeF32 : Nat → BitVec 32 → BitVec 32

/-- What manufacture puts into the module certificate (R705), by the certificate's offset: the spec says `From
identity`. -/
opaque identity : Nat → BitVec 8

/-- The factory key of credential 1 (R552, R719), by byte. -/
opaque factoryKey : Nat → BitVec 8

/-- The stored form of a saved configuration, which the spec does not give (R713 `AR_CONFIG_DIGEST`). -/
opaque savedForm : List (Nat × Nat) → List (Nat × List (BitVec 8)) → List (BitVec 8)

/-- `LAST` of a beat that a steer or merge station sends (R264): the configuration image of the steering unit, the station's
entry in it, its output and the beat's `SEQ`. The content of the image is not published (R752). -/
opaque steerLast : List (Nat × BitVec 8) → Nat → Nat → Nat → Bool

/-- The identification of an IPv4 packet, or the flow label of an IPv6 one, by how many frames the module has sent before it. -/
opaque ipLabel : Nat → Nat

/-- The fraction of wafer time at an instant, in units of 2^-16 ns (R575): the commands name whole nanoseconds. -/
opaque wtFraction : Nat → Nat

/-- ML-KEM-768 with the module's certificate key (R526), which the spec does not give: the secret in a ciphertext. -/
opaque kemDecap : List (BitVec 8) → List (BitVec 8)

/-- ML-KEM-768 encapsulation to an encapsulation key (R526), whose random choice is a free value: the secret and the ciphertext. -/
opaque kemEncap : List (BitVec 8) → Nat → List (BitVec 8) × List (BitVec 8)

end Sys2Proof.Config
end

