-- ==== Sys2Proof/Machine/Formats.lean ====
section
/-! DEFINITION. The eleven number formats (spec/02_number_formats.md): values of elements, tile
images, rounding, and the conversion of one tile. Values are exact: a finite value is a sign and a
magnitude `m * 2^e` (R70). -/

namespace Sys2Proof.Machine

/-- The exact value of an element: NaN, an infinity, or a finite value with its sign, whose
magnitude is `m * 2^e` (R65, R69, R70). A zero keeps its sign. -/
inductive Val where
  | nan
  | inf (neg : Bool)
  | fin (neg : Bool) (m : Nat) (e : Int)
  deriving DecidableEq, Repr

/-- A magnitude as a fraction of naturals. -/
structure Frac where
  n : Nat
  d : Nat
  deriving DecidableEq, Repr

/-- `2^e` times a numerator over a denominator. -/
def Frac.scale (f : Frac) (e : Int) : Frac :=
  if 0 ≤ e then ⟨f.n * 2 ^ e.toNat, f.d⟩ else ⟨f.n, f.d * 2 ^ (-e).toNat⟩

/-- The fraction `m * 2^e`. -/
def Frac.ofDy (m : Nat) (e : Int) : Frac := Frac.scale ⟨m, 1⟩ e

def Frac.mul (a b : Frac) : Frac := ⟨a.n * b.n, a.d * b.d⟩
/-- The quotient of two fractions, the second not zero. -/
def Frac.div (a b : Frac) : Frac := ⟨a.n * b.d, a.d * b.n⟩
def Frac.lt (a b : Frac) : Bool := a.n * b.d < b.n * a.d
def Frac.le (a b : Frac) : Bool := a.n * b.d ≤ b.n * a.d
/-- The sum of two fractions. -/
def Frac.add (a b : Frac) : Frac := ⟨a.n * b.d + b.n * a.d, a.d * b.d⟩
/-- The difference of two fractions, zero below zero. -/
def Frac.sub (a b : Frac) : Frac := ⟨a.n * b.d - b.n * a.d, a.d * b.d⟩
/-- The lesser of two fractions. -/
def Frac.min (a b : Frac) : Frac := if Frac.lt a b then a else b
def Frac.max (a b : Frac) : Frac := if Frac.lt a b then b else a

/-- The largest integer `k` with `2^k` at or below a fraction that is not zero. -/
def Frac.log2 (f : Frac) : Int :=
  let a : Int := (f.n.log2 : Int) - (f.d.log2 : Int)
  if Frac.le (Frac.ofDy 1 a) f then a else a - 1

/-- Which special encodings a float layout has (R64, R66): an all-ones exponent for infinity and
NaN; NaN alone at all ones; or none. -/
inductive Specials where
  | ieee
  | nanOnly
  | none
  deriving DecidableEq, Repr

/-- A float layout (R64): exponent and mantissa widths, bias, special encodings, and the code of
the largest finite magnitude. -/
structure Layout where
  eb : Nat
  mb : Nat
  bias : Nat
  spec : Specials
  maxCode : Nat
  nanCode : Nat
  deriving DecidableEq, Repr

def Layout.fp32 : Layout := ⟨8, 23, 127, .ieee, 0x7F7FFFFF, 0x7FC00000⟩
def Layout.bf16 : Layout := ⟨8, 7, 127, .ieee, 0x7F7F, 0x7FC0⟩
def Layout.fp16 : Layout := ⟨5, 10, 15, .ieee, 0x7BFF, 0x7E00⟩
def Layout.e4m3 : Layout := ⟨4, 3, 7, .nanOnly, 0x7E, 0x7F⟩
def Layout.e5m2 : Layout := ⟨5, 2, 15, .ieee, 0x7B, 0x7E⟩
def Layout.e3m2 : Layout := ⟨3, 2, 3, .none, 0x1F, 0⟩
def Layout.e2m1 : Layout := ⟨2, 1, 1, .none, 0x7, 0⟩

/-- The exponent of the smallest normal magnitude. -/
def Layout.emin (L : Layout) : Int := 1 - (L.bias : Int)

/-- The magnitude of a code whose sign is taken away (R65). -/
def Layout.magFrac (L : Layout) (c : Nat) : Nat × Int :=
  let e := c / 2 ^ L.mb
  let m := c % 2 ^ L.mb
  if e = 0 then (m, L.emin - L.mb) else (2 ^ L.mb + m, (e : Int) - L.bias - L.mb)

/-- The value of a code of a float layout (R65, R66). -/
def Layout.decode (L : Layout) (code : Nat) : Val :=
  let neg := code.testBit (L.eb + L.mb)
  let c := code % 2 ^ (L.eb + L.mb)
  let e := c / 2 ^ L.mb
  let m := c % 2 ^ L.mb
  let ones := e = 2 ^ L.eb - 1
  match L.spec with
  | .ieee =>
    if ones then (if m = 0 then .inf neg else .nan)
    else .fin neg (L.magFrac c).1 (L.magFrac c).2
  | .nanOnly =>
    if ones ∧ m = 2 ^ L.mb - 1 then .nan else .fin neg (L.magFrac c).1 (L.magFrac c).2
  | .none => .fin neg (L.magFrac c).1 (L.magFrac c).2

/-- How a value between two representable ones is rounded: to nearest even (R82), by a 16-bit draw
(R83), or towards the larger magnitude (the derived scales, R95). -/
inductive Rnd where
  | nearest
  | stochastic (draw : Nat)
  | up
  deriving DecidableEq, Repr

/-- The integer chosen for the quotient `n / d`, by the rounding rule (R82, R83). -/
def Rnd.pick (r : Rnd) (n d : Nat) : Nat :=
  let q := n / d
  let rem := n % d
  match r with
  | .nearest => if 2 * rem < d then q else if d < 2 * rem then q + 1 else if q % 2 = 0 then q else q + 1
  | .stochastic draw => if draw < 65536 * rem / d then q + 1 else q
  | .up => if rem = 0 then q else q + 1

/-- A finite magnitude rounded into a float layout: its code without the sign, and whether it
overflowed (R82, R83, R88, R90). The code of an overflow is 0 and is not used. -/
def Layout.roundMag (L : Layout) (r : Rnd) (f : Frac) : Nat × Bool :=
  if f.n = 0 then (0, false)
  else
    let mx := Frac.ofDy (L.magFrac L.maxCode).1 (L.magFrac L.maxCode).2
    let thr := Frac.ofDy (2 * (L.magFrac L.maxCode).1 + 1) ((L.magFrac L.maxCode).2 - 1)
    let ovf : Bool := match r with
      | .nearest => Frac.le thr f
      | _ => Frac.lt mx f
    if ovf then (0, true)
    else
      let e := max f.log2 L.emin
      let g := f.scale (L.mb - e)
      let q := r.pick g.n g.d
      -- A magnitude just below a tie that rounds past the largest code cannot occur: `ovf` has it.
      (((e - L.emin).toNat) * 2 ^ L.mb + q, false)

/-- The sign bit of a layout's code. -/
def Layout.signBit (L : Layout) (neg : Bool) : Nat := if neg then 2 ^ (L.eb + L.mb) else 0

/-- An overflowing element of a float target (R89 items 1 to 3). -/
def Layout.overflow (L : Layout) (neg : Bool) : Nat :=
  match L.spec with
  | .ieee => L.signBit neg + (2 ^ L.eb - 1) * 2 ^ L.mb
  | .nanOnly => L.nanCode
  | .none => L.signBit neg + L.maxCode

/-- A value rounded into a float layout without block scales: its code and whether it overflowed
(R89, R90, R91). -/
def Layout.roundVal (L : Layout) (r : Rnd) (v : Val) : Nat × Bool :=
  match v with
  | .nan => (L.nanCode, false)
  | .inf neg => ((match L.spec with
      | .ieee => L.overflow neg
      | _ => L.nanCode), false)
  | .fin neg m e =>
    let p := L.roundMag r (Frac.ofDy m e)
    if p.2 then (L.overflow neg, true) else (L.signBit neg + p.1, false)

/-- The product of two values: NaN where R71 or R72 make it so, an exact product otherwise. The sign of a zero product is the
exclusive or of the signs: R69 and R70 give an exact real, which has no sign, so the sign of an INT8 or Umber element that is
zero under a negative tile scale is the model's (DESIGN CHOICE, log entry 150). -/
def Val.mul (a b : Val) : Val :=
  match a, b with
  | .fin s m e, .fin s' m' e' => .fin (xor s s') (m * m') (e + e')
  | _, _ => .nan

/-- A finite value as a signed integer times a power of two. -/
def Val.signed (neg : Bool) (m : Nat) : Int := if neg then -(m : Int) else (m : Int)

/-- Whether a value is finite. -/
def Val.isFin (v : Val) : Bool :=
  match v with
  | .fin _ _ _ => true
  | _ => false

/-- Whether a value is finite and not zero. -/
def Val.isFinNz (v : Val) : Bool :=
  match v with
  | .fin _ m _ => m ≠ 0
  | _ => false

/-- The magnitude of a finite value, zero of any other. -/
def Val.mag (v : Val) : Frac :=
  match v with
  | .fin _ m e => Frac.ofDy m e
  | _ => ⟨0, 1⟩

/-- The value of an E8M0 scale (R68): 2^(X - 127), or NaN at 0xFF. -/
def e8m0 (x : Nat) : Val := if x = 0xFF then .nan else .fin false 1 ((x : Int) - 127)

/-- The value of an FP32 word. -/
def f32 (w : Nat) : Val := Layout.fp32.decode w

/-- The value of an FP32 tile scale: NaN where it is NaN or infinite (R72). -/
def tileScale (w : Nat) : Val :=
  match f32 w with
  | .fin n m e => .fin n m e
  | _ => .nan

/-- A format code with its element layout (R54). -/
inductive Elem where
  | flt (L : Layout)
  | int (bitsN : Nat)
  deriving DecidableEq, Repr

/-- The element of a format that a tile image may have, and its width in bits (R54, R60). -/
def fmtElem (fmt : Nat) : Option (Elem × Nat) :=
  match fmt with
  | 0 => some (.flt .fp32, 32)
  | 1 => some (.flt .bf16, 16)
  | 2 => some (.flt .fp16, 16)
  | 3 => some (.flt .e4m3, 8)
  | 4 => some (.flt .e5m2, 8)
  | 5 => some (.int 8, 8)
  | 6 => some (.flt .e3m2, 6)
  | 7 => some (.flt .e2m1, 4)
  | 8 => some (.flt .e2m1, 4)
  | 9 => some (.int 4, 4)
  | _ => none

/-- The size of a tile image (R60); 0 for a format with no tile image. -/
def fmtSize (fmt : Nat) : Nat :=
  match fmt with
  | 0 => 4096
  | 1 | 2 => 2048
  | 3 | 4 => 1024
  | 5 => 1028
  | 6 => 800
  | 7 | 9 => 544
  | 8 => 580
  | _ => 0

/-- Where a format's block scales begin and how many there are (R60, R61). -/
def fmtBlocks (fmt : Nat) : Nat × Nat :=
  match fmt with
  | 6 => (0x300, 32)
  | 7 => (0x200, 32)
  | 8 => (0x200, 64)
  | 9 => (0x200, 32)
  | _ => (0, 0)

/-- Where a format's FP32 tile scale lies (R60). -/
def fmtTileScale (fmt : Nat) : Option Nat :=
  match fmt with
  | 5 => some 0x400
  | 8 => some 0x240
  | _ => none

/-- Whether a format is one a tile multiply takes, and whether it is in the 4-bit group (R54, R56). -/
def fmtMul (fmt : Nat) : Option Bool :=
  match fmt with
  | 1 | 2 | 3 | 4 | 5 | 6 => some false
  | 7 | 8 | 9 => some true
  | _ => none

/-- A format a tile register can hold: those that multiply (R62: FP32 and Lampblack never do). -/
def fmtTile (fmt : Nat) : Bool := (fmtMul fmt).isSome

/-- 4-bit codes of a byte list, the low nibble first (R59). -/
def unpack4 : List Byte → List Nat
  | [] => []
  | b :: r => (b.toNat % 16) :: (b.toNat / 16) :: unpack4 r

/-- 6-bit codes, four to three bytes (R59). -/
def unpack6 : List Byte → List Nat
  | a :: b :: c :: r =>
    let w := a.toNat + 256 * b.toNat + 65536 * c.toNat
    nfld w 0 6 :: nfld w 6 6 :: nfld w 12 6 :: nfld w 18 6 :: unpack6 r
  | _ => []

/-- 16-bit codes, little-endian. -/
def unpack16 : List Byte → List Nat
  | a :: b :: r => (a.toNat + 256 * b.toNat) :: unpack16 r
  | _ => []

/-- 32-bit codes, little-endian. -/
def unpack32 : List Byte → List Nat
  | a :: b :: c :: d :: r => ofLe [a, b, c, d] :: unpack32 r
  | _ => []

def pack4 : List Nat → List Byte
  | a :: b :: r => BitVec.ofNat 8 (a % 16 + 16 * (b % 16)) :: pack4 r
  | [a] => [BitVec.ofNat 8 (a % 16)]
  | [] => []

def pack6 : List Nat → List Byte
  | a :: b :: c :: d :: r =>
    leBytes 3 (a % 64 + 64 * (b % 64) + 4096 * (c % 64) + 262144 * (d % 64)) ++ pack6 r
  | _ => []

/-- The element codes of a tile image (R58, R59). -/
def elemCodes (fmt : Nat) (img : List Byte) : List Nat :=
  match fmt with
  | 0 => unpack32 (sliceB img 0 4096)
  | 1 | 2 => unpack16 (sliceB img 0 2048)
  | 3 | 4 | 5 => (sliceB img 0 1024).map (·.toNat)
  | 6 => unpack6 (sliceB img 0 768)
  | 7 | 8 | 9 => unpack4 (sliceB img 0 512)
  | _ => []

/-- Element codes packed into the element area of an image (R59). -/
def packCodes (fmt : Nat) (codes : List Nat) : List Byte :=
  match fmt with
  | 0 => codes.flatMap (leBytes 4)
  | 1 | 2 => codes.flatMap (leBytes 2)
  | 3 | 4 | 5 => codes.map (BitVec.ofNat 8)
  | 6 => pack6 codes
  | 7 | 8 | 9 => pack4 codes
  | _ => []

/-- The block scale codes of an image (R60, R61). -/
def blockCodes (fmt : Nat) (img : List Byte) : List Nat :=
  (sliceB img (fmtBlocks fmt).1 (fmtBlocks fmt).2).map (·.toNat)

/-- A list cut into rows of `k` (a fuel bounds the count of rows). -/
def rowsOf {α : Type} (k : Nat) : Nat → List α → List (List α)
  | 0, _ => []
  | n + 1, l => l.take k :: rowsOf k n (l.drop k)

/-- The value of an element code without its scales. -/
def Elem.decode (el : Elem) (c : Nat) : Val :=
  match el with
  | .flt L => L.decode c
  | .int w =>
    let q := toSInt w c
    .fin (q < 0) q.natAbs 0

/-- An element under an Umber block scale: a zero scale keeps the element's own sign (R73). -/
def umberBlock (el s : Val) : Val :=
  match el, s with
  | .fin ne m e, .fin ns sm se => .fin (if sm = 0 then ne else xor ne ns) (m * sm) (e + se)
  | _, _ => .nan

/-- An Umber element under its block scale `sc` and the tile scale `t` (R69, R71, R72); under a zero block scale it is a zero
of the element's own sign, whatever the sign of `t` (R73). -/
def umberVal (el sc t : Val) : Val :=
  match umberBlock el sc, sc, t with
  | .fin n m e, .fin _ 0 _, .fin _ _ _ => .fin n m e
  | v, _, t => v.mul t

/-- The exact values of the 1,024 elements of a tile image, row by row (R69, R71 to R74). -/
def tileVals (fmt : Nat) (img : List Byte) : List Val :=
  match fmtElem fmt with
  | none => []
  | some (el, _) =>
    let codes := (elemCodes fmt img).map el.decode
    match fmt with
    | 5 =>
      let t := tileScale (leAt img 0x400 4)
      codes.map (fun v => v.mul t)
    | 6 => ((rowsOf 32 32 codes).zip ((blockCodes 6 img).map e8m0)).flatMap (fun p => p.1.map (fun v => v.mul p.2))
    | 7 => ((rowsOf 32 32 codes).zip ((blockCodes 7 img).map e8m0)).flatMap (fun p => p.1.map (fun v => v.mul p.2))
    | 9 => ((rowsOf 32 32 codes).zip ((blockCodes 9 img).map e8m0)).flatMap (fun p => p.1.map (fun v => v.mul p.2))
    | 8 =>
      let t := tileScale (leAt img 0x240 4)
      ((rowsOf 16 64 codes).zip ((blockCodes 8 img).map Layout.e4m3.decode)).flatMap
        (fun p => p.1.map (fun v => umberVal v p.2 t))
    | _ => codes

/-- The three counts of a conversion census (R100). -/
structure Census where
  zero : Nat
  sat : Nat
  special : Nat
  deriving DecidableEq, Repr

/-- A given scale under `SCALE` = 1 (R97): an FP32 word for INT8 and Umber, an E8M0 code for the
others; `none` is `SCALE` = 0. -/
abbrev Given := Option Nat

/-- Whether a given scale makes the whole tile NaN (R99). -/
def givenBad (fmt g : Nat) : Bool :=
  if fmt = 5 ∨ fmt = 8 then
    match f32 g with
    | .fin neg m _ => neg || m = 0
    | _ => true
  else g % 256 = 0xFF

/-- One element divided by its scale and rounded into its target element: its code, whether it
overflowed (R81, R88 to R90). `sc` is the scale's magnitude and `r` the rounding. -/
def Elem.put (el : Elem) (r : Rnd) (sc : Frac) (v : Val) : Nat × Bool :=
  match v with
  | .fin neg m e =>
    let f := if m = 0 then ⟨0, 1⟩ else Frac.div (Frac.ofDy m e) sc
    match el with
    | .flt L =>
      let p := L.roundMag r f
      if p.2 then (L.overflow neg, true) else (L.signBit neg + p.1, false)
    | .int w =>
      let mx := 2 ^ (w - 1) - 1
      let ovf := match r with
        | .nearest => Frac.le ⟨2 * mx + 1, 2⟩ f
        | _ => Frac.lt ⟨mx, 1⟩ f
      let q := if ovf then mx else r.pick f.n f.d
      (ofSInt w (if neg then -(q : Int) else q), ovf)
  | _ => (0, false)

/-- The largest finite magnitude of some elements (the derived scales' amax, R95). Where no element is finite the spec gives
no amax and the model takes 0, so that a Umber tile of such sources gets T = 1.0 (DESIGN CHOICE, log entry 151). -/
def amaxOf (vs : List Val) : Frac := vs.foldl (fun a v => Frac.max a v.mag) ⟨0, 1⟩

/-- The smallest `k` with `a ≤ M * 2^k`, for an amax that is not zero (R95). -/
def e8Exp (m : Nat) (a : Frac) : Int :=
  let k := (Frac.div a ⟨m, 1⟩).log2
  if Frac.le a (Frac.ofDy m k) then k else k + 1

/-- The derived E8M0 code of a block and whether it overflowed (R95, R96). -/
def e8Derive (m : Nat) (a : Frac) : Nat × Bool :=
  if a.n = 0 then (127, false)
  else
    let x := 127 + e8Exp m a
    if x < 0 then (0, false) else if 254 < x then (0xFF, true) else (x.toNat, false)

/-- The derived FP32 tile scale (R95): amax over `k`, rounded upwards; 1.0 when amax is zero. A quotient above the largest
finite FP32 rounds upwards to infinity (DEDUCED, log entry 152). -/
def tDerive (k : Nat) (a : Frac) : Nat :=
  if a.n = 0 then 0x3F800000
  else
    let p := Layout.fp32.roundMag .up (Frac.div a ⟨k, 1⟩)
    if p.2 then Layout.fp32.overflow false else p.1

/-- Whether any element is NaN or infinite. -/
def hasSpecial (vs : List Val) : Bool := vs.any (fun v => !v.isFin)

/-- The converted elements of a block or tile: codes, and the census they add (R92, R100). -/
structure BlockOut where
  codes : List Nat
  scale : Nat
  cen : Census
  deriving DecidableEq, Repr

/-- Whether a code of an element is zero in value. -/
def Elem.isZero (el : Elem) (c : Nat) : Bool :=
  match el with
  | .flt L => c % 2 ^ (L.eb + L.mb) = 0
  | .int _ => c = 0

/-- The census of elements that were rounded one by one (R100). -/
def cenElems (el : Elem) (vs : List Val) (out : List (Nat × Bool)) : Census :=
  let z := (vs.zip out).countP (fun p => p.1.isFinNz && !p.2.2 && el.isZero p.2.1)
  ⟨z, out.countP (·.2), vs.countP (fun v => !v.isFin)⟩

/-- A block written NaN: scale `sc`, codes zero (R92, R98). For a block that R96 makes NaN the spec gives the scale 0xFF alone;
the model writes its codes as zero too (DESIGN CHOICE, log entry 153). `satAll` says that the scale overflowed, for which
every element counts in `CVT_SAT` (R100). -/
def nanBlock (sc : Nat) (vs : List Val) (satAll : Bool) : BlockOut :=
  ⟨vs.map (fun _ => 0), sc, ⟨0, if satAll then vs.length else 0, vs.countP (fun v => !v.isFin)⟩⟩

/-- A block whose elements are rounded under a scale of magnitude `sc`, coded `code`. -/
def scaledBlock (el : Elem) (sc : Frac) (code : Nat) (vs : List Val) (rs : List Rnd) : BlockOut :=
  let out := (vs.zip rs).map (fun p => el.put p.2 sc p.1)
  ⟨out.map (·.1), code, cenElems el vs out⟩

/-- The elements of an INT8 tile under its tile scale `t` (R95, R97). Under an infinite derived scale, where every element reads
as NaN by R72, each quotient is zero and no element counts (DEDUCED, log entry 152). -/
def int8Block (el : Elem) (t : Nat) (vs : List Val) (rs : List Rnd) : BlockOut :=
  if (f32 t).isFin then scaledBlock el (f32 t).mag t vs rs else ⟨vs.map (fun _ => 0), t, ⟨0, 0, 0⟩⟩

/-- One block of an MXFP6, MXFP4 or INT4 target (R92, R95 to R97). A given X is bits [7:0] of `COMMITTED`, whatever its other bits
hold (DESIGN CHOICE, log entry 211: R136 says that they are zero, not what a conversion takes where they are not). -/
def mxBlock (el : Elem) (m : Nat) (g : Given) (vs : List Val) (rs : List Rnd) : BlockOut :=
  let d : Nat × Bool := match g with
    | some x => (x % 256, false)
    | none => e8Derive m (amaxOf vs)
  if d.2 || hasSpecial vs then nanBlock 0xFF vs d.2
  else scaledBlock el (Frac.ofDy 1 ((d.1 : Int) - 127)) d.1 vs rs

/-- One block of an Umber target under the tile scale `t` (R92, R95, R98). -/
def umberOut (el : Elem) (t : Frac) (vs : List Val) (rs : List Rnd) : BlockOut :=
  let p := Layout.e4m3.roundMag .up (Frac.div (amaxOf vs) (Frac.mul ⟨6, 1⟩ t))
  if p.2 || hasSpecial vs then nanBlock 0x7F vs p.2
  else
    let s := Layout.e4m3.magFrac p.1
    scaledBlock el (Frac.mul (Frac.ofDy s.1 s.2) t) p.1 vs rs

def Census.add (a b : Census) : Census := ⟨a.zero + b.zero, a.sat + b.sat, a.special + b.special⟩

/-- Converted blocks joined into an image with their scales and an optional tile scale (R58). -/
def joinBlocks (fmt : Nat) (bs : List BlockOut) (t : List Byte) : List Byte × Census :=
  (packCodes fmt (bs.flatMap (·.codes)) ++ bs.map (fun b => BitVec.ofNat 8 b.scale) ++ t,
    bs.foldl (fun c b => c.add b.cen) ⟨0, 0, 0⟩)

/-- A whole tile made NaN by its given scale (R99). -/
def nanTile (fmt : Nat) : List Byte × Census :=
  let z := packCodes fmt (List.replicate 1024 0)
  let c : Census := ⟨0, 0, 1024⟩
  match fmt with
  | 5 => (z ++ leBytes 4 0x7FC00000, c)
  | 8 => (z ++ List.replicate 64 0#8 ++ leBytes 4 0x7FC00000, c)
  | _ => (z ++ List.replicate 32 0xFF#8, c)

/-- The conversion of 1,024 exact values into a target format's image, with its census (R81 to
R100). `rs` gives each element its rounding, `g` the given scale of `SCALE` = 1. -/
def cvtVals (fmt : Nat) (g : Given) (vs : List Val) (rs : List Rnd) : List Byte × Census :=
  match fmtElem fmt with
  | none => ([], ⟨0, 0, 0⟩)
  | some (el, _) =>
    if (5 ≤ fmt ∧ fmt ≤ 9) ∧ (g.any (givenBad fmt)) then nanTile fmt
    else
      match fmt with
      | 5 =>
        if hasSpecial vs then
          (packCodes 5 (vs.map (fun _ => 0)) ++ leBytes 4 0x7FC00000,
            ⟨0, 0, vs.countP (fun v => !v.isFin)⟩)
        else
          let t := match g with
            | some x => x
            | none => tDerive 127 (amaxOf vs)
          let b := int8Block el t vs rs
          (packCodes 5 b.codes ++ leBytes 4 t, b.cen)
      | 6 => joinBlocks 6 (((rowsOf 32 32 vs).zip (rowsOf 32 32 rs)).map (fun p => mxBlock el 28 g p.1 p.2)) []
      | 7 => joinBlocks 7 (((rowsOf 32 32 vs).zip (rowsOf 32 32 rs)).map (fun p => mxBlock el 6 g p.1 p.2)) []
      | 9 => joinBlocks 9 (((rowsOf 32 32 vs).zip (rowsOf 32 32 rs)).map (fun p => mxBlock el 7 g p.1 p.2)) []
      | 8 =>
        let t := match g with
          | some x => x
          | none => tDerive 2688 (amaxOf vs)
        joinBlocks 8 (((rowsOf 16 64 vs).zip (rowsOf 16 64 rs)).map
          (fun p => umberOut el (f32 t).mag p.1 p.2)) (leBytes 4 t)
      | _ =>
        match el with
        | .flt L =>
          let out := (vs.zip rs).map (fun p => L.roundVal p.2 p.1)
          (packCodes fmt (out.map (·.1)), cenElems el vs out)
        | .int _ => ([], ⟨0, 0, 0⟩)

/-- One step of a core's generator (R84): a right-shifting Galois LFSR. -/
def lfsrStep (g : Long) : Long :=
  let h := g >>> 1
  if g.getLsbD 0 then h ^^^ 0xD800000000000000#64 else h

/-- `n` steps of the generator. -/
def lfsrSteps : Nat → Long → Long
  | 0, g => g
  | n + 1, g => lfsrSteps n (lfsrStep g)

/-- A draw (R84): 16 steps, then the low 16 bits; the value and the state after it. -/
def lfsrDraw (g : Long) : Nat × Long :=
  let g' := lfsrSteps 16 g
  (g'.toNat % 65536, g')

/-- `n` draws in order, and the state after the last. -/
def lfsrDraws : Nat → Long → List Nat × Long
  | 0, g => ([], g)
  | n + 1, g =>
    let d := lfsrDraw g
    let r := lfsrDraws n d.2
    (d.1 :: r.1, r.2)

/-- A seed of zero becomes 1 (R86). -/
def seedOf (v : Long) : Long := if v = 0 then 1 else v

/-- Digit `n` of a Lampblack code byte as a trit code: 0, 1 or 2 for -1, 0 and +1 (R75). -/
def tritDigit (c n : Nat) : Nat := (c / 3 ^ n) % 3

/-- The value of a trit digit under an E8M0 exponent (R69). -/
def tritVal (d : Nat) (x : Nat) : Val :=
  match d with
  | 0 => .fin true 1 ((x : Int) - 127)
  | 1 => .fin false 0 ((x : Int) - 127)
  | _ => .fin false 1 ((x : Int) - 127)

/-- Whether a Lampblack block is NaN as a whole: an invalid code byte or a scale of 0xFF (R76). -/
def lampBad (blk : List Byte) : Bool :=
  (blk.take 32).any (fun b => 243 ≤ b.toNat) || leAt blk 32 1 = 0xFF

/-- 32 trit digits of a block from trit `t0` on (R75, R78). -/
def lampRow (blk : List Byte) (t0 : Nat) : List Nat :=
  (List.range 32).map (fun j => tritDigit (leAt blk ((t0 + j) / 5) 1) ((t0 + j) % 5))

/-- One tile row of an expansion into MXFP4: element codes and row scale (R79). -/
def lampMx (blk : List Byte) (t0 : Nat) : List Nat × Nat :=
  if lampBad blk then (List.replicate 32 0, 0xFF)
  else ((lampRow blk t0).map (fun d => match d with
    | 0 => 0xA
    | 1 => 0x0
    | _ => 0x2), leAt blk 32 1)

/-- One tile row of an expansion into BF16: element codes (R79). -/
def lampBf (blk : List Byte) (t0 : Nat) : List Nat :=
  if lampBad blk then List.replicate 32 0x7FC0
  else (lampRow blk t0).map (fun d => (Layout.bf16.roundVal .nearest (tritVal d (leAt blk 32 1))).1)

/-- A tile expanded from its 32 Lampblack blocks into MXFP4 (7) or BF16 (1) (R79). -/
def lampTile (fmt : Nat) (blks : List (List Byte)) (t0 : Nat) : List Byte :=
  if fmt = 7 then
    let rows := blks.map (fun b => lampMx b t0)
    packCodes 7 (rows.flatMap (·.1)) ++ rows.map (fun r => BitVec.ofNat 8 r.2)
  else packCodes 1 (blks.flatMap (fun b => lampBf b t0))

end Sys2Proof.Machine
end

