-- ==== Sys2Proof/Machine/State.lean ====
section
/-! DEFINITION. The state of the module as plain data: every register, queue, buffer, counter, mode
and pin the spec gives it, with the queue of waiting commands, and its value after reset. -/

namespace Sys2Proof.Machine

/-- Why the model stops. -/
inductive Fault where
  /-- Raised by every command that names a unit (a core, cluster, field, region, port or channel)
  outside the ranges of R20: no such unit exists. Safe: the hardware has no such unit to act on. -/
  | noSuchUnit
  deriving DecidableEq, Repr

/-- Why a command has no meaning here. -/
inductive Refusal where
  /-- Raised by `exec` alone, for a command not yet modelled. Safe. -/
  | notModelled (mnemonic : String)
  deriving DecidableEq, Repr

/-! ### Cores (spec/03, spec/04) -/

/-- A tile register: image, tag, `FMT` and `NULL` (R156, R158). -/
structure TileReg where
  img : Mem
  tag : Long
  fmt : Nat
  null : Bool
  deriving DecidableEq, Repr

/-- A tile register after core reset (R156). -/
def TileReg.reset : TileReg := ⟨[], 0, 1, false⟩

/-- A scale slot (R136 to R138): `COMMITTED`, `PROPOSED_AMAX`, `SLOT_CTRL` and the two counts of
`SLOT_STATS`. -/
structure ScaleSlot where
  committed : Word
  amax : Word
  ctrl : Word
  conversions : Nat
  satElements : Nat
  deriving DecidableEq, Repr

def ScaleSlot.reset : ScaleSlot := ⟨0, 0, 0, 0, 0⟩

/-- A retain ring slot (R121): `HELD` (0 free, 1 held by a tile not yet pushed, 2 held by a tile
that left the core), the generation, and for state 2 the output queues it left by, each with the
count of credited beats that commits it (R123). -/
structure RetSlot where
  held : Nat
  gen : Nat
  outs : List (Nat × Nat)
  deriving DecidableEq, Repr

def RetSlot.reset : RetSlot := ⟨0, 0, []⟩

/-- One beat of a tile queue: a tile or null beat with its `LAST` mark (R262, R263). -/
structure Beat where
  fmt : Nat
  null : Bool
  last : Bool
  tag : Long
  img : List Byte
  deriving DecidableEq, Repr

/-- An input tile queue. Its entries are a ring in core store (R279, R283): the index of the oldest whole
entry and how many whole entries are held. Then the beats received since the period started, `LAST` of the beat
last popped, whether the rest of a packet is being dropped, credits pending return, and credits to return at the
end of the firing (R265, R281, R284, R285). -/
structure InQ where
  rd : Nat
  n : Nat
  got : Nat
  lastPop : Option Bool
  dropping : Bool
  pend : Nat
  atEnd : Nat
  deriving DecidableEq, Repr

def InQ.reset : InQ := ⟨0, 0, 0, none, false, 0, 0⟩

/-- An output tile queue. Its entries are a ring in core store (R280): the index of the oldest waiting entry and
how many wait. Then the beats pushed and the beats sent (`SEQ`) since the period started, beats of the current
packet already sent, and by consumer the credit count, the consumer queue's depth and the credits returned since
the period started (R264, R282, R123). -/
structure OutQ where
  rd : Nat
  n : Nat
  pushN : Nat
  sentN : Nat
  pktN : Nat
  credits : List Nat
  depths : List Nat
  backs : List Nat
  deriving DecidableEq, Repr

def OutQ.reset : OutQ := ⟨0, 0, 0, 0, 0, [], [], []⟩

/-- An input word channel: held tuples and credits pending return (R287, R288). -/
structure InW where
  buf : List (List Word)
  pend : Nat
  deriving DecidableEq, Repr

def InW.reset : InW := ⟨[], 0⟩

/-- An output word channel: held tuples, the `ROUND` bit, the credits and depths of its consumers (R286, R292),
and whether it contributes to a combining queue, so that each period starts with its credits whole (R294). -/
structure OutW where
  buf : List (List Word)
  round : Bool
  credits : List Nat
  depths : List Nat
  comb : Bool
  deriving DecidableEq, Repr

def OutW.reset : OutW := ⟨[], false, [], [], false⟩

/-- A message inbox (R296, R297): the draining bank, the head packet's byte offset in it, and the
sizes of the packets in the draining and in the filling bank. The bytes stand in core store. -/
structure Inbox where
  drain : Bool
  head : Nat
  drainLens : List Nat
  fillLens : List Nat
  deriving DecidableEq, Repr

def Inbox.reset : Inbox := ⟨false, 0, [], []⟩

/-- What a message-plane operation of a core does (R202), and the operand of a rekindle fetch
(R126): false for A, true for B. -/
inductive OpKind where
  | get
  | put
  | ldg
  | stg
  | amo
  | fetch (b : Bool)
  deriving DecidableEq, Repr

/-- One request part (R342): its transaction number, address, length, whether its response has
come, and the data that came. -/
structure ReqPart where
  txn : Nat
  addr : Nat
  len : Nat
  done : Bool
  data : List Byte
  deriving DecidableEq, Repr

/-- A message-plane operation in progress: global address, core store address, length, result
register, completion counter, `COUNT`, and its parts; `failed` once a part was not answered with
success (R205). -/
structure MsgOp where
  kind : OpKind
  ga : Nat
  so : Nat
  len : Nat
  rc : Nat
  cn : Nat
  cnt : Bool
  parts : List ReqPart
  failed : Bool
  deriving DecidableEq, Repr

/-- A rekindle in progress (R126): the multiply's fields, the retained copies that have arrived for the two
operands, whether a fetch fell back (R129), was answered uncorrectable (R130) or timed out, the fetches still
open, and the latest response's cycle counted from issue. -/
structure Rekindle where
  acc : Nat
  ta : Nat
  tb : Nat
  ovw : Bool
  bufA : Option (List Byte)
  bufB : Option (List Byte)
  fellBack : Bool
  uncorrectable : Bool
  timedOut : Bool
  waitN : Nat
  lastCycle : Nat
  deriving DecidableEq, Repr

/-- The core's fault log (R211). -/
structure FaultLog where
  valid : Bool
  cls : Nat
  cause : Nat
  slot : Nat
  pc : Nat
  station : Nat
  detail : Nat
  deriving DecidableEq, Repr

def FaultLog.reset : FaultLog := ⟨false, 0, 0, 0, 0, 0, 0⟩

/-- Which fault a unit reports (R208, R225, R235, R265, R278). -/
inductive FaultKind where
  | core (cause : Nat)
  | slotMiss
  | mergeConflict
  | routeMismatch
  | seqFault
  | laneFault
  | startFault
  deriving DecidableEq, Repr

/-- A fault message on its way to the field controller (R209, R225, R266): the fault and the
`STATION_ID` or `CHECK_ID` it carries. -/
structure FaultMsg where
  kind : FaultKind
  id : Nat
  deriving DecidableEq, Repr

/-- An acquire in progress of one core (R399, R400): the whole cache, or the homes of a range. -/
structure Acq where
  all : Bool
  ga : Nat
  len : Nat
  deriving DecidableEq, Repr

/-- A logical core. `mordant` is a mordant command received and not yet acknowledged (R143), true for
commit; `kindle` is 1 from a kindle event until its detection and 2 while a permit is requested (R182);
`acks` are the commands whose acknowledgement is on its way; `held` is the instruction that waits at
issue, `begun` that the sequencer has started since the install (R250), `waitOp` the operation whose response the core waits for; `teBusy` is the accumulator and operands of the latest
tile multiply whose occupancy may still run (R154), `stayAwake` that a kindle event came during the idle delay
(R179), `since` and `sinceNs` the fabric cycle and the ns in which the core last entered or left smoulder (R162),
`logPosted` that the logged fault's record is posted, `restarted` that the core has acknowledged a period
restart since its last fault (R213), `between` that it has restarted and no period has started since (R147), and `gone` the
transaction numbers of `GET` and `PUT` parts that a restart abandoned (R342). `ueHour` keeps the wafer times of the two latest reports of an uncorrectable read, for each
word (R674). The 64-bit counts stand in `counts` by their configuration offset (R151, R162,
R177). -/
structure Core where
  regs : Sparse 32
  tiles : SMap TileReg
  accs : SMap (Sparse 32)
  cnt : Sparse 16
  pc : Nat
  acct : Nat
  pmem : Sparse 32
  pmemErr : SMap Bool
  store : Mem
  storeErr : SMap Bool
  gen : Long
  seqCtrl : Word
  lastStation : Nat
  curStation : Nat
  firing : Bool
  smoulder : Bool
  faulted : Bool
  restarting : Bool
  counts : Sparse 64
  thresh : SMap Half
  cinit : Sparse 16
  bind : Sparse 32
  stations : Sparse 32
  log : FaultLog
  profiles : SMap Long
  rkUsed : Sparse 16
  retainCtrl : Word
  ring : SMap RetSlot
  ringNext : Nat
  scale : SMap ScaleSlot
  restore : SMap (Word × Word)
  rk : Option Rekindle
  mordant : Option Bool
  ops : SMap MsgOp
  held : Option Instr
  retainStall : Bool
  ended : Bool
  waitOp : Option Nat
  acq : Option Acq
  inQ : SMap InQ
  outQ : SMap OutQ
  inW : SMap InW
  outW : SMap OutW
  inbox : SMap Inbox
  sent : List FaultMsg
  acks : List Nat
  kindle : Nat
  inReset : Bool
  dead : Bool
  ueHour : SMap (List Nat)
  begun : Bool
  teBusy : Option (Nat × Nat × Nat)
  stayAwake : Bool
  since : Nat
  sinceNs : Nat
  logPosted : Bool
  restarted : Bool
  between : Bool
  gone : List Nat
  deriving DecidableEq, Repr

/-- The generator after core reset with the seed `g` and the rest of a core after core reset
(R156, R162, R164, R165, R118, R136). -/
def Core.resetWith (g : Long) : Core :=
  { regs := [], tiles := [], accs := [], cnt := [], pc := 0, acct := 0, pmem := [], pmemErr := [],
    store := [], storeErr := [], gen := g, seqCtrl := 0x00004002#32, lastStation := 7,
    curStation := 0, firing := false, smoulder := false, faulted := false, restarting := false,
    counts := [], thresh := [], cinit := [], bind := [], stations := [], log := FaultLog.reset,
    profiles := [], rkUsed := [], retainCtrl := 0, ring := [], ringNext := 0, scale := [],
    restore := [], rk := none, mordant := none, ops := [], held := none, retainStall := false,
    ended := false, waitOp := none, acq := none, inQ := [], outQ := [], inW := [], outW := [],
    inbox := [], sent := [], acks := [], kindle := 0, inReset := false, dead := false, ueHour := [],
    begun := false, teBusy := none, stayAwake := false, since := 0, sinceNs := 0, logPosted := false,
    restarted := false, between := false, gone := [] }

/-- A core that nothing has touched since module reset; its generator holds 1 (DESIGN CHOICE). -/
def Core.reset : Core := Core.resetWith 1

/-! ### Clusters: routers, steering unit, cluster memory, loader (spec/05 to spec/08, spec/14) -/

/-- An item of an advisory queue with its sequence number (R300). -/
abbrev AdvItem := Nat × Long

/-- One bank of a combining queue (R292): contributions held and the combined words. -/
structure CombBank where
  count : Nat
  words : List Word
  deriving DecidableEq, Repr

def CombBank.reset : CombBank := ⟨0, []⟩

/-- A contribution that has arrived at a combining queue and is not yet combined (R292, R293): its
bank, its words, the fabric cycle and the port it came by. -/
structure Contribution where
  bank : Bool
  words : List Word
  cycle : Nat
  port : Nat
  deriving DecidableEq, Repr

/-- A combining queue (R291): the control word, rounds completed, the bank of the next result, the two
banks, contributions that wait to be combined, and credits pending return. -/
structure Combine where
  ctl : Word
  rounds : Long
  nextBank : Bool
  bank0 : CombBank
  bank1 : CombBank
  arrived : List Contribution
  pend : Nat
  deriving DecidableEq, Repr

def Combine.reset : Combine := ⟨0, 0, false, CombBank.reset, CombBank.reset, [], 0⟩

/-- A slot-table entry (R268, R269): its two words. -/
structure SlotEntry where
  w0 : Long
  w1 : Long
  deriving DecidableEq, Repr

def SlotEntry.reset : SlotEntry := ⟨0, 0⟩

/-- A steer or merge station in a steering unit (R220 to R235): the station number, its kind (2 steer, 3 merge),
the numbers of its branches or inputs, the route of each output, held beats by input, tokens of a steer that wait
for their tile, masks that have found their tile (one for each of the oldest held tiles), the outputs of a merge's
rounds that wait to depart (none for a round that raised a merge conflict), the number of the oldest held tile,
beats received by input and tokens received, beats sent by output, and by output and consumer the credits, the
queue depths and the credits returned since the period started; credits pending return by input, the input beats credited so far, and
how many beats have been counted as departed in a retry slot (R233), the slots that each output has missed, and the slots
for which a miss has been reported (R225). -/
structure Steer where
  station : Nat
  kind : Nat
  ways : List Nat
  routes : List Nat
  hold : SMap (List Beat)
  tokens : List Word
  masks : List Word
  out : List (Option Beat)
  base : Nat
  got : SMap Nat
  gotTok : Nat
  sentN : SMap Nat
  credits : SMap (List Nat)
  depths : SMap (List Nat)
  backs : SMap (List Nat)
  pend : SMap Nat
  owed : Nat
  retried : Nat
  lost : SMap Nat
  missed : Nat
  deriving DecidableEq, Repr

def Steer.reset : Steer :=
  { station := 0, kind := 0, ways := [], routes := [], hold := [], tokens := [], masks := [], out := [], base := 0,
    got := [], gotTok := 0, sentN := [], credits := [], depths := [], backs := [], pend := [], owed := 0,
    retried := 0, lost := [], missed := 0 }

/-- A line of the cluster memory cache (R394): the way of its set that it fills, its home's flat address, its 64 bytes, and
the errors of its eight 64-bit words (false correctable, true uncorrectable; R387). -/
structure CLine where
  way : Nat
  home : Nat
  data : List Byte
  errs : SMap Bool
  deriving DecidableEq, Repr

/-- A cacheable read sent to the home whose lines are to be installed (R395, R396): the core and
transaction, and the homes of the lines and whether their install is suppressed. -/
structure Fill where
  core : Nat
  txn : Nat
  lines : List (Nat × Bool)
  deriving DecidableEq, Repr

/-- The cluster loader (R656 and spec/14): reception, manifest and chunks. -/
structure Loader where
  receive : Bool
  reportEn : Bool
  state : Nat
  round : Nat
  nChunks : Nat
  manifestDigest : List Byte
  missing : List Nat
  fwDigest : List Byte
  hashFails : Long
  chunksReceived : Long
  parts : SMap (List Byte)
  installed : List Byte
  deriving DecidableEq, Repr

/-- The cluster loader after module reset (R656): the miss bitmap all ones. -/
def Loader.reset : Loader :=
  { receive := false, reportEn := false, state := 0, round := 0, nChunks := 0,
    manifestDigest := List.replicate 32 0#8, missing := List.range 256,
    fwDigest := List.replicate 32 0#8, hashFails := 0, chunksReceived := 0, parts := [], installed := [] }

/-- A logical cluster position: the scheduled-plane router (R275), the steering unit, the
message-plane router (R356), the cluster memory controller (R390) and the cluster loader. Counts
stand by their offset in the configuration window (R366); `descInit` is what a queue descriptor not listed reads (0 once an install has written all of them, R250), `invAt` is the S for which its period-start
invalidation (R401) has been done, `plru` by set the nodes of its pseudo-LRU tree, true where the lower half was used last (R394),
`peaks` the highest depths of each port since they were read (R360), and `mpFlips` the changes of `ENABLE` of `MP_CTRL`, newest
first, each by the place in the order of injection from which it holds (R357). -/
structure Cluster where
  spCtrl : Word
  frameLen : Nat
  turns : Nat
  periodStart : Nat
  dropAt : Nat
  discarding : Bool
  counts : Sparse 64
  soot : List AdvItem
  sootSeq : Nat
  telem : List AdvItem
  telemSeq : Nat
  combine : SMap Combine
  descInit : Long
  desc : SMap Long
  slots : SMap SlotEntry
  doneOcc : SMap Nat
  steer : SMap Steer
  steerImg : Mem
  mpCtrl : Word
  mpFlips : List Nat
  mpTimeout : Nat
  mpWindow : Long
  mpGen : Word
  cmemCtrl : Word
  ranges : Sparse 64
  cmem : Mem
  cmemErr : SMap Bool
  cache : SMap (List CLine)
  plru : SMap (SMap Bool)
  fills : List Fill
  ldr : Loader
  sent : List FaultMsg
  inReset : Bool
  invAt : Nat
  peaks : SMap Nat
  deriving DecidableEq, Repr

/-- `MP_WINDOW` after module reset (R359): partition 0 and island over columns 0 to 143. -/
def mpWindowReset : Long := 0x0008F008F0000000#64

/-- A cluster after module reset (R275, R356, R357, R390), its message-plane generator seeded with
`g` (R336). -/
def Cluster.resetWith (g : Word) : Cluster :=
  { spCtrl := 0, frameLen := 0, turns := 0, periodStart := 0, dropAt := 2 ^ 64 - 1,
    discarding := false, counts := [], soot := [], sootSeq := 0, telem := [], telemSeq := 0,
    combine := [], descInit := 0x10000, desc := [], slots := [], doneOcc := [], steer := [], steerImg := [],
    mpCtrl := 0x0008000E#32, mpFlips := [], mpTimeout := 1000, mpWindow := mpWindowReset, mpGen := g,
    cmemCtrl := 0, ranges := [], cmem := [], cmemErr := [],
    cache := [], plru := [], fills := [], ldr := Loader.reset, sent := [], inReset := false, invAt := 0,
    peaks := [] }

/-- A cluster that nothing has touched since module reset; its generator holds 1 (DESIGN CHOICE). -/
def Cluster.reset : Cluster := Cluster.resetWith 1

/-! ### The message plane and the planes' traffic (spec/06, spec/07) -/

/-- Which unit a packet comes from or goes to (R324): kind and unit number. -/
structure Endpoint where
  kind : Nat
  num : Nat
  deriving DecidableEq, Repr

/-- A message-plane packet (R322, R323) and where it stands: the node that its head has reached, whether it has been
injected and whether it has left the network whole at its destination, whether it was cut (R320), whether it is held at
its source behind an earlier request to a line (R341), its place in the order in which its unit sends (R340), for a
rekindle fetch the retain slot and generation it names (R126), whether it is a cacheable read whose lines are to be
installed (R395), and the attach link that a port engine chose for it (R354). -/
structure Packet where
  typ : Nat
  cls : Nat
  leg : Nat
  dstX : Nat
  dstY : Nat
  midX : Nat
  midY : Nat
  srcX : Nat
  srcY : Nat
  dst : Endpoint
  src : Endpoint
  status : Nat
  txn : Nat
  len : Nat
  amoOp : Nat
  part : Nat
  inbox : Nat
  addr : Nat
  auxA : Nat
  auxB : Nat
  payload : List Byte
  at_ : Nat
  injected : Bool
  landed : Bool
  cut : Bool
  held : Bool
  order : Nat
  fetch : Option (Nat × Nat)
  fill : Bool
  via : Nat
  deriving DecidableEq, Repr

/-- A flit of packet `id` (R316): its 256 bits, its virtual channel, and whether it is the header, the last one, or the
end of a cut packet. -/
structure Flit where
  id : Nat
  bits : BitVec 256
  vc : Nat
  head : Bool
  tail : Bool
  cut : Bool
  deriving DecidableEq, Repr

/-- The sending side of a link (R318, R331): the next sequence number, the replay buffer with the oldest flit first, the
place in it from which flits are being resent, how often its first flit has been resent, the fabric count of the last
`ACK`, the flits of each virtual channel that the receiver has not credited, the channel served last (R332), and why the
link is down (R360; 0 it is not). -/
structure LinkOut where
  seq : Nat
  replay : List Flit
  resend : Option Nat
  tries : Nat
  since : Nat
  used : SMap Nat
  last : Nat
  down : Nat
  deriving DecidableEq, Repr

/-- The receiving side of a link (R318, R331): the sequence number expected, whether it is discarding flits until that
one comes, whether a `NAK` is due, the credits to return, and the packet whose tail each virtual channel awaits. -/
structure LinkIn where
  expect : Nat
  bad : Bool
  nakDue : Bool
  freed : List Nat
  open_ : SMap Nat
  deriving DecidableEq, Repr

/-- Where a packet goes on from an input's virtual channel, from its header to its tail (R332): the output (4 a local unit,
5 nowhere: it is discarded), the virtual channel there, and the packet. -/
structure Route where
  out : Nat
  vc : Nat
  id : Nat
  deriving DecidableEq, Repr

/-- The broadcast buffer of a router (R352): the packet, the input port it comes by, the flits of it received, how many it has in
all, whether a cut has ended it (R320), the flits sent by each output of the tree, and whether the loader has still to take it. -/
structure BcBuf where
  id : Nat
  port : Nat
  got : Nat
  size : Nat
  cut : Bool
  outs : SMap Nat
  loader : Bool
  deriving DecidableEq, Repr

/-- A node of the message plane: a router, numbered as its cluster, or a port engine, numbered 8,064 + its port
(R353). Its links by port, its buffers and routes by 32 × input port + virtual channel, and by virtual channel the flits that its
units have injected and its local input has no room for (R331). -/
structure Node where
  outs : SMap LinkOut
  ins : SMap LinkIn
  bufs : SMap (List Flit)
  routes : SMap Route
  feed : SMap (List Flit)
  bc : Option BcBuf
  deriving DecidableEq, Repr

def LinkOut.reset : LinkOut := ⟨0, [], none, 0, 0, [], 0, 0⟩
def LinkIn.reset : LinkIn := ⟨0, false, false, [], []⟩
def Node.reset : Node := ⟨[], [], [], [], [], none⟩

/-- A control request that awaits its response (R345, R349): its sender, its transaction number, and the address and
length that it names, 0 where it names none. -/
structure CtlReq where
  sender : Requester
  txn : Nat
  addr : Nat
  len : Nat
  deriving DecidableEq, Repr

/-- What a scheduled-plane flight carries: the bytes of a tile-lane frame (R262, R263), or the 64-bit flits of a
token-lane train (R267). -/
inductive Cargo where
  | frame (bytes : List Byte)
  | token (flits : List Long)
  deriving DecidableEq, Repr

/-- A flit train between two routers (R258): the router it enters next, the port it enters by (4: it
leaves by the local output of the router that sent it), the cycle in which its head enters that crossbar,
whether it carries a lane fault (R266), and what it carries. -/
structure Flight where
  cluster : Nat
  port : Nat
  cycle : Nat
  faulty : Bool
  cargo : Cargo
  deriving DecidableEq, Repr

/-- The networks' traffic. -/
structure Net where
  packets : SMap Packet
  nextId : Nat
  flights : SMap Flight
  nextFlight : Nat
  nodes : SMap Node
  ctl : List CtlReq
  deriving DecidableEq, Repr

def Net.reset : Net := ⟨[], 0, [], 0, [], []⟩

/-! ### Bonded DRAM (spec/08) -/

/-- A DRAM channel's block (R384, R385): status fields, control, counts by offset, and the scrub's
next line. -/
structure Chan where
  temp : Nat
  refresh2x : Bool
  scrubbing : Bool
  chState : Nat
  scrubEn : Bool
  counts : Sparse 64
  scrubNext : Nat
  spared : List Nat
  rewrites : SMap Nat
  deriving DecidableEq, Repr

def Chan.reset : Chan := ⟨0, false, false, 0, true, [], 0, [], []⟩

/-- What a line's code finds (R375): one erroneous symbol of its 32, two of them, or a line of another channel address. -/
inductive LineErr where
  | symbol (j : Nat)
  | symbols (i j : Nat)
  | address
  deriving DecidableEq, Repr

/-- The bonded DRAM: bytes by home (R369, field, channel, channel address flattened), the errors of lines (R375), and the
channels by field * 24 + channel. -/
structure Dram where
  mem : Mem
  err : SMap LineErr
  chans : SMap Chan
  deriving DecidableEq, Repr

def Dram.reset : Dram := ⟨[], [], []⟩

/-! ### Fields (spec/01, spec/06, spec/14) -/

/-- A stitch crossing's working state beside its trained byte (R307 to R311): the margin of each receiving lane group that
differs from 48, spare lanes used by group, the wafer times of the latest lane faults (newest first), and whether it
is being retrained. -/
structure Crossing where
  margins : SMap Nat
  spares : Sparse 8
  laneFaults : List Nat
  retraining : Bool
  deriving DecidableEq, Repr

def Crossing.reset : Crossing := ⟨[], [], [], false⟩

/-- A soft-fuse record (R638): kind, whether it is applied, where, wafer time and cause. -/
structure SoftFuse where
  kind : Nat
  applied : Bool
  loc : Nat
  time : Nat
  cause : Nat
  deriving DecidableEq, Repr

/-- The factory fuse block of a field (R636): whether its CRC checks, defect bits [37:0] by physical
cluster, failing DRAM rows by channel, failing stitch lanes as crossing (the place of its stitch byte), group and lane, and the
trims as they are stored (DESIGN CHOICE, log entry 239). -/
structure FuseBlock where
  ok : Bool
  defects : SMap Nat
  rows : SMap (List Nat)
  lanes : List (Nat × Nat × Nat)
  trims : List Byte
  deriving DecidableEq, Repr

def FuseBlock.reset : FuseBlock := ⟨true, [], [], [], []⟩

/-- A field's defect map as it is built and rewritten (R32 to R38, R747): whether a record exists, its
generation, `COL_SPARE` by column, the core bypasses by physical cluster, cluster states by logical
cluster, stitch bytes (north 0 to 11, south 12 to 23, west 24 to 31, east 32 to 39), spare lanes by
edge, and the soft fuses as the record shows them. -/
structure DefectMap where
  built : Bool
  generation : Nat
  colSpare : SMap Nat
  coreByp : SMap (Nat × Nat)
  clState : Sparse 8
  stitch : Sparse 8
  spareUsed : Sparse 16
  deriving DecidableEq, Repr

def DefectMap.reset : DefectMap := ⟨false, 0, [], [], [], [], []⟩

/-- A field: fuse block, soft-fuse records in the MSC's flash (R639) and those that wait for the
flash-write inhibit to clear (R621), whether a record was refused for want of room, the defect map, the
MSC's copy of the latest record (R749), the physical units held in reset with their clocks gated, by physical cluster (bits 33 to 0
its cores, 34 its loader and cluster memory, 35 its routers; R24, R26), the crossings of its edges by the stitch byte's index,
the latest uncorrectable DRAM line (R418), the tuples that its
bring-up combining queue has delivered (R650), the mask of the forwarding hops that are absent (R566; N, E, S, W), and
whether the start has read its fuses (phase 3), and how far the fabric cycle count of its routers stands from the
module's fabric cycles (R259), the routers that its field controller has still to tell that it has moved (R350), and what the MSC
kept of its crossings at the last cold start: latency, spares by group and the sparing of the edge clusters (R642), and the channels that have failed in service (R382). -/
structure FieldSt where
  fuses : FuseBlock
  soft : List SoftFuse
  softWait : List SoftFuse
  softFull : Bool
  dm : DefectMap
  mscCopy : List Byte
  gated : SMap Nat
  crossings : SMap Crossing
  ueLast : Option (Nat × Nat)
  tuples : List (List Word)
  hops : Nat
  tested : Bool
  fabOff : Int
  toTell : List Nat
  kept : SMap (Option Nat × List Nat × Nat)
  dramBad : List Nat
  deriving DecidableEq, Repr

def FieldSt.reset : FieldSt := ⟨FuseBlock.reset, [], [], false, DefectMap.reset, [], [], [], none, [], 0, false, 0, [], [], []⟩

/-! ### Graphs (spec/05) -/

/-- A station record (R238). -/
structure Station where
  id : Nat
  kind : Nat
  acct : Nat
  limit : Nat
  latBound : Nat
  place : Nat
  nIn : Nat
  nOut : Nat
  retryCount : Nat
  retryStride : Nat
  progOff : Nat
  progLen : Nat
  entryPc : Nat
  deriving DecidableEq, Repr

/-- One consumer of an edge (R239): station, input index and `LATENCY`. -/
structure Consumer where
  station : Nat
  input : Nat
  latency : Nat
  deriving DecidableEq, Repr

/-- An edge record (R239). -/
structure Edge where
  id : Nat
  cls : Nat
  depth : Nat
  producer : Nat
  prodIndex : Nat
  interval : Nat
  consumers : List Consumer
  deriving DecidableEq, Repr

/-- A configuration record (R752): cluster, window offset and data. -/
structure CfgRec where
  cluster : Nat
  off : Nat
  data : List Byte
  deriving DecidableEq, Repr

/-- An alternate variant (R753): cluster, lost logical core, station records and configuration
records. -/
structure Variant where
  cluster : Nat
  lost : Nat
  stations : List Station
  recs : List CfgRec
  deriving DecidableEq, Repr

/-- A crossing of the stitch section (R237): field, edge, index and latency. -/
structure StitchUse where
  field : Nat
  edge : Nat
  idx : Nat
  latency : Nat
  deriving DecidableEq, Repr

/-- A graph package as the loader reads it (R236, R237). -/
structure Package where
  remote : Bool
  graphId : Nat
  span : Nat
  stations : List Station
  programs : List Byte
  edges : List Edge
  recs3 : List CfgRec
  recs4 : List CfgRec
  recs5 : List CfgRec
  stitch : List StitchUse
  variants : List Variant
  report : List Byte
  digest : List Byte
  deriving DecidableEq, Repr

/-! ### Dictionary objects (spec/11) -/

/-- The values of the dictionary's objects that differ from their defaults, by key: numbers, and byte
strings. -/
structure Dict where
  nums : SMap Nat
  blobs : SMap (List Byte)
  deriving DecidableEq, Repr

def Dict.reset : Dict := ⟨[], []⟩

/-! ### Streams and port engines (spec/09, spec/10) -/

/-- A stream table entry (R424), and the number of its last period whose window is still to be apportioned, 0 for none
(R461). -/
structure StreamEntry where
  state : Nat
  cls : Nat
  hold : Nat
  final : Bool
  closeReq : Bool
  inPeriod : Bool
  ctxLen : Nat
  tokenCount : Nat
  ctxMax : Nat
  kvRoot : Nat
  tokensBase : Nat
  pagesMapped : Nat
  credit : Nat
  generated : Nat
  wait : Nat
  dropRun : Nat
  periodLast : Nat
  batchRow : Nat
  rows : Nat
  hostTag : Nat
  openTime : Nat
  energyNj : Nat
  energyCoef : Nat
  committed : Nat
  dropped : Nat
  owed : Nat
  deriving DecidableEq, Repr

/-- A free slot. -/
def StreamEntry.reset : StreamEntry :=
  { state := 0, cls := 0, hold := 0, final := false, closeReq := false, inPeriod := false, ctxLen := 0,
    tokenCount := 0, ctxMax := 0, kvRoot := 0, tokensBase := 0, pagesMapped := 0, credit := 0,
    generated := 0, wait := 0, dropRun := 0, periodLast := 0, batchRow := 0, rows := 0, hostTag := 0,
    openTime := 0, energyNj := 0, energyCoef := 0, committed := 0, dropped := 0, owed := 0 }

/-- A message that waits to be cut into segments (R487, R497). -/
structure HwtMsg where
  opcode : Nat
  status : Nat
  msgId : Nat
  target : Nat
  payload : List Byte
  deriving DecidableEq, Repr

/-- A data segment sent and not yet acknowledged (R488, R492): its number, its message, where its payload
lies in the message, how long its payload is, how often it was resent, and the wafer time at which it last left (R492). -/
structure OutSeg where
  seq : Nat
  msg : HwtMsg
  off : Nat
  len : Nat
  resends : Nat
  sentAt : Nat
  deriving DecidableEq, Repr

/-- A ring record (R501 to R503): its offset in the ring and its size, the message, the payload offsets that
have come, whether it is a skip record, and its place among the arrivals of the port (R430). -/
structure RingRec where
  off : Nat
  size : Nat
  opcode : Nat
  msgId : Nat
  msgLen : Nat
  got : List (Nat × Nat)
  skip : Bool
  stamp : Nat
  deriving DecidableEq, Repr

/-- A message of another opcode that is being put together: opcode, length, target, and its segments. -/
structure Reasm where
  opcode : Nat
  msgLen : Nat
  target : Nat
  status : Nat
  segs : List (Nat × List Byte)
  deriving DecidableEq, Repr

/-- An association at work (R488 to R495): its own sync number and whether it is acknowledged, whether
the peer's sync was taken, the next number to send, segments in flight, segments waiting, the next
number expected, numbers held beyond it, segments accepted since the last acknowledgement and whether
one of them carried CE, messages under way, the ring, the next message number, the rate in Mb/s, α, the
acknowledgements since the last rate step and those with `CE_ECHO`, and the round-trip estimates in ns. -/
structure Assoc where
  ownSeq : Option Nat
  ownAcked : Bool
  peerTaken : Bool
  txSeq : Nat
  flight : List OutSeg
  queue : List OutSeg
  rxNext : Nat
  rxHeld : List Nat
  unacked : Nat
  ce : Bool
  reasm : SMap Reasm
  ring : List RingRec
  ringW : Nat
  ringD : Nat
  msgNext : Nat
  rate : Frac
  alpha : Frac
  acks : Nat
  acksCe : Nat
  srtt : Nat
  rttvar : Nat
  deriving DecidableEq, Repr

/-- An association that is not up and has done nothing. -/
def Assoc.reset : Assoc :=
  { ownSeq := none, ownAcked := false, peerTaken := false, txSeq := 0, flight := [], queue := [],
    rxNext := 0, rxHeld := [], unacked := 0, ce := false, reasm := [], ring := [], ringW := 0, ringD := 0,
    msgNext := 0, rate := ⟨0, 1⟩, alpha := ⟨1, 1⟩, acks := 0, acksCe := 0, srtt := 0, rttvar := 0 }

/-- An inbound remote write or read at work (R510, R512): the association and message, the window, its
offset and the length, the request parts, and the worst status so far. -/
structure PortOp where
  write : Bool
  assoc : Nat
  msgId : Nat
  window : Nat
  off : Nat
  len : Nat
  parts : List ReqPart
  statuses : List Nat
  deriving DecidableEq, Repr

/-- A core's request into space 0x8 that waits for the peer's answer (R509): the request packet, the
association and the message number. -/
structure OutReq where
  req : Packet
  assoc : Nat
  msgId : Nat
  deriving DecidableEq, Repr

/-- A training attempt (R473): the attempt (1 lane mode on four lanes, 2 standard on four lanes, 3 and 4
lane mode on lanes 0 and 1 and on 2 and 3, 5 and 6 standard on those pairs), its phase (0 discovery, 1
equalise, 2 ready, 3 verify, 4 abandon), the lanes offered, the lanes in use, the peer's last control block
by lane, taps by lane, what became of the peer's latest requests by lane (R472 `REQ_STATUS`), this side's equalised
lanes, the pairs that passed in step 3, and what training has reached: configuration and lanes. -/
structure Train where
  attempt : Nat
  phase : Nat
  offer : Nat
  lanes : Nat
  peer : SMap Nat
  taps : SMap Nat
  status : SMap Nat
  equalised : List Nat
  pair : Option Nat
  reached : Option (Nat × Nat)
  deriving DecidableEq, Repr

/-- A port engine: its Valiant generator (R354), streams by slot (R424), the ring positions of the next pop
and push of its page pool (R428), the values an admission replaced (R758: `PERIOD_LAST`, `BATCH_ROW`, `ROWS`,
`WAIT`), slots whose state a request changed since the last report (R462), the latest period's reports
due, associations, inbound operations, core requests out, message-plane messages ready to be handled
(with their association), training under way, whether the transmitter is dark, the second and number of the in-band frames passed to
the MSC (R518) and how many of its HDP datagrams the MSC has still to take, the arrivals of ring records counted (R430), the
closed streams whose close report has still to leave (slot, association and message; R461), the trained taps by lane (R476), the
last configuration and its lanes (R561), whether training under way was asked for by `PORT_RETRAIN` (R535), and the association that sent
last in the second and the third class of R496. -/
structure PortSt where
  gen : Word
  streams : SMap StreamEntry
  popAt : Nat
  pushAt : Nat
  saved : SMap (List Nat)
  changed : List Nat
  assocs : SMap Assoc
  ops : SMap PortOp
  outReqs : List OutReq
  ready : List (Nat × HwtMsg)
  train : Option Train
  dark : Bool
  inReset : Bool
  inband : Nat × Nat
  inbox : Nat
  came : Nat
  leaving : List (Nat × Nat × Nat)
  taps : SMap Nat
  lastCfg : Option (Nat × Nat)
  asked : Bool
  turn : Nat × Nat
  deriving DecidableEq, Repr

/-- A port engine after module reset, its generator at 1 (DESIGN CHOICE). -/
def PortSt.reset : PortSt :=
  { gen := 1, streams := [], popAt := 0, pushAt := 0, saved := [], changed := [], assocs := [],
    ops := [], outReqs := [], ready := [], train := none, dark := true, inReset := false,
    inband := (0, 0), inbox := 0, came := 0, leaving := [], taps := [], lastCfg := none, asked := false,
    turn := (63, 63) }

/-- How a datagram of a port engine is addressed (R482): the next hop's MAC, the 802.1Q tag (PCP and VID), the IP version
and addresses, the UDP source port, destination port and checksum (none for an echo reply), DSCP, ECN, don't-fragment
and TTL or hop limit. -/
structure Dgram where
  mac : Nat
  tag : Option Nat
  v6 : Bool
  src : Nat
  dst : Nat
  udp : Option (Nat × Nat × Nat)
  dscp : Nat
  ecn : Nat
  df : Bool
  ttl : Nat
  deriving DecidableEq, Repr

/-- A datagram or frame that the module has sent to the outside: the interface (0 to 23 a port, 24 MGT-A,
25 MGT-B, 32 and up the in-band VLAN of a port), what it is (1 HDP, 2 ARP reply, 3 neighbour advertisement, 4 echo reply, 5 HWT
acknowledgement, 6 HWT sync, 7 HWT data segment, 8 Delay_Req, 9 a training frame), whom it goes to (an association, a MAC
address, a session or a lane), its body (of HWT the whole datagram), how a port engine addressed it, and the bytes on the wire
from the destination address to the FCS (R465), of a training frame its symbols (R471). -/
structure Sent where
  via : Nat
  kind : Nat
  dst : Nat
  body : List Byte
  ip : Option Dgram
  wire : List Byte
  deriving DecidableEq, Repr

/-! ### Partitions (spec/05, spec/09, spec/15) -/

/-- How the latest period ended: not yet, committed, or dropped by a cause, with K in fabric cycles. -/
inductive PeriodEnd where
  | running
  | committed
  | dropped (cause kc : Nat)
  deriving DecidableEq, Repr

/-- The latest period of a partition (R435): its number, S in ns and in fabric cycles, fabric cycles in a
second at its start, the deadline, how it ended and when, the last value of the done word that a read
returned, the ports whose commit or drop is due, the causes that dropped it in order of arrival, and the
cores that have acknowledged the restart and the mordant command of its boundary, the cores that the field controllers
have sent these commands and the period start, whether the boundary is counted as complete (R155), the fabric cycle of the
deadline as `DROP_AT` took it, and the wafer time at which its start cycle comes (R565). -/
structure Period where
  no : Nat
  start : Nat
  start0 : Nat
  hz : Nat
  deadline : Nat
  ended : PeriodEnd
  endAt : Nat
  polled : Option Nat
  portsDue : List Nat
  causes : List Nat
  restarted : List Nat
  mordants : List Nat
  toldRestart : List Nat
  toldMordant : List Nat
  toldStart : List Nat
  closed : Bool
  drop0 : Nat
  began : Nat
  deriving DecidableEq, Repr

/-- An energy window (R454, R459): from the partition's mark `m0` on, the period (none for a gap) with its
valid rows as stream and position, `BATCH_ROWS` and `ATTN_SCALE`, and, once its closing mark is complete,
the units of the four account sets, the energy and the coefficient energy. -/
structure Window where
  m0 : Nat
  no : Option Nat
  rows : SMap (Nat × Nat)
  batchRows : Nat
  scale : Nat
  sums : Option (List Nat × Nat × Nat)
  deriving DecidableEq, Repr

/-- An admission that has run and whose period has not started (R441): rows taken, and the rows. -/
structure Admitted where
  no : Nat
  at_ : Nat
  rows : SMap (Nat × Nat)
  deriving DecidableEq, Repr

/-- A partition: the copied package of a load that runs (R240), the installed graph, the clusters that run
an alternate variant with the lost logical core of each, the cores lost since whose variant is not yet
installed (R253, R675), its latest period, the admission made for the next one, the next planned start in
ns, whether the boundary's mordant is done (R147), a reset that waits for the running period's end and
whether it removes the graph (R672), what stops periods (R679), the energy windows not yet apportioned, oldest
first, the crossings (field, edge, index) whose retraining must end before the next period (R448), and when a
period last committed (R690), and the drop causes on their way to the period controller (R452). -/
structure PartSt where
  copy : Option (List Byte)
  pkg : Option Package
  variants : SMap Nat
  lost : List Nat
  period : Option Period
  admitted : Option Admitted
  planned : Nat
  reset? : Option Bool
  late : List Nat
  windows : List Window
  holds : List (Nat × Nat × Nat)
  lastCommit : Nat
  onWay : List Nat
  deriving DecidableEq, Repr

def PartSt.reset : PartSt :=
  { copy := none, pkg := none, variants := [], lost := [], period := none, admitted := none, planned := 0,
    reset? := none, late := [], windows := [], holds := [], lastCommit := 0, onWay := [] }

/-! ### Clocks, wafer time and marks (spec/12) -/

/-- A field's clock unit (R585 to R587): the fabric, DRAM-interface and control dividers and the fabric
target, the parent and depth in the forwarding tree, the root, input-lost and slip bits, the
frequency counter (`gate` is N of the count under way), and how far the field's wafer-time counter stands from the MSC's (R576). -/
structure ClkSt where
  fabricD : Nat
  target : Nat
  dramD : Nat
  ctlD : Nat
  parent : Nat
  depth : Nat
  root : Bool
  inputLost : Bool
  slip : Bool
  fcCtrl : Word
  gate : Nat
  busy : Bool
  done : Bool
  lostFc : Bool
  result : Nat
  slips : Nat
  reparents : Nat
  wtOff : Int
  deriving DecidableEq, Repr

/-- A clock unit after module reset (R585, R586). -/
def ClkSt.reset : ClkSt :=
  { fabricD := 256, target := 256, dramD := 0, ctlD := 0, parent := 7, depth := 255, root := false,
    inputLost := false, slip := false, fcCtrl := 0x03000000#32, gate := 156250, busy := false,
    done := false, lostFc := false, result := 0, slips := 0, reparents := 0, wtOff := 0 }

/-- A PTP time transmitter that a port has heard (R483). -/
structure Heard where
  port : Nat
  msg : AnnounceMsg
  deriving DecidableEq, Repr

/-- The time receiver (R577): announces heard, the selected transmitter, a Sync that waits for its
Follow_Up (sequence number and arrival), the latest Sync's origin and arrival, the Delay_Req under way, the
measured path delay, whether the first offset is still due, and consecutive offsets below 100 ns. -/
structure Ptp where
  heard : List Heard
  chosen : Option Heard
  twoStep : Option (Nat × Nat)
  syncAt : Option (Nat × Nat)
  delayReq : Option (Nat × Nat × Nat)
  delay : Option Int
  first : Bool
  lockRun : Nat
  integral : Int
  deriving DecidableEq, Repr

def Ptp.reset : Ptp := ⟨[], none, none, none, none, none, true, 0, 0⟩

/-- A mark under way (R581, R582): M, the partition of a set-1 mark, the units that have latched, and the
coefficient table at its first latch (R626; empty before it). -/
structure Mark where
  m : Nat
  part : Nat
  latched : List MarkUnit
  tab : List Byte
  deriving DecidableEq, Repr

/-- One shadow of a unit (R580): the counts that its latest mark latched, those of the latest complete
mark, whether the unit's counts have begun anew since its latest mark, and whether they had when it was latched (R454). -/
structure Shadow where
  unit : MarkUnit
  m : Nat
  counts : Sparse 64
  before : Sparse 64
  anew : Bool
  fromZero : Bool
  deriving DecidableEq, Repr

/-- The module's clocks: the oscillators' health, the reference sources that are valid, the fraction of
wafer time, the rate, the pending marks of the two sets, the shadows of the two sets, how far the fabric cycle count of each column
of fields stands from that of the supervisor's island (R570), by clock root a fabric cycle with its wafer time in units of 1/1,536 ns, from which
starts are converted (R565), and the count and wafer time of the last marker that it sent (R567). -/
structure Clocks where
  units : SMap ClkSt
  oscFail : Bool
  backup : Bool
  validPrimary : Bool
  validAlt : Bool
  ptp : Ptp
  marks0 : List Mark
  marks1 : List Mark
  shadow0 : List Shadow
  shadow1 : List Shadow
  stepPending : Option Int
  lead : SMap Int
  ties : SMap (Nat × Nat)
  markers : SMap (Nat × Nat)
  deriving DecidableEq, Repr

def Clocks.reset : Clocks :=
  { units := [], oscFail := false, backup := false, validPrimary := false, validAlt := false,
    ptp := Ptp.reset, marks0 := [], marks1 := [], shadow0 := [], shadow1 := [], stepPending := none,
    lead := [], ties := [], markers := [] }

/-! ### Power (spec/13) -/

/-- A region's regulator controller and draught limiter (R591 to R614): permits in the bucket, cores that
hold a permit, the waiting requests by smoulder clock cycle of their arrival and core (R607), energy counts (0 input, 1 to 5 the rails, 6 ballast), wear by
tenths j of the exponent in units of 2^(j/10 - 64) / (1,000 · 2,200²) wear-seconds (R604), the wear stored in
flash and those whose store waits for it, the rows of R614 that hold, how long row 4 has been clear in ms, whether the bank is on, the free value
from which the generators of its cores, and those of its routers, were last seeded (R86, R336; 0 for none), the fabric cycle and
the ns of the last reset of all its cores (R162), and the input power
of the last microsecond in W (R610). -/
structure RegionSt where
  permits : Nat
  held : List Nat
  waiting : List (Nat × Nat)
  energy : Sparse 64
  wear : SMap Nat
  wearStored : SMap Nat
  wearWait : Option (SMap Nat)
  rows : Nat
  clearMs : Nat
  powered : Bool
  seedAt : Nat
  mpSeedAt : Nat
  sinceAt : Nat
  sinceNsAt : Nat
  lastW : Nat
  deriving DecidableEq, Repr

/-- A region's supply after module reset. -/
def RegionSt.reset : RegionSt :=
  { permits := 0, held := [], waiting := [], energy := [], wear := [], wearStored := [], wearWait := none, rows := 0,
    clearMs := 0, powered := false, seedAt := 0, mpSeedAt := 0, sinceAt := 0, sinceNsAt := 0,
    lastW := 0 }

/-- The governor and the lease (R594 to R603): permits halted, the divider of F_LIMIT, the power samples of
the last millisecond (newest first), those of the auxiliary input, how many microseconds p has stayed below 0.97 P_cap, the lease's
grant, boost grant, remaining 100 µs ticks, id and state, SHED_N low, the auxiliary energy count, the
coolant readings, the step that raised the divider's frequency in this microsecond, and whether a wear
store waits for the flash, the module-wide limit of R614, the shutdown of R616, and the coefficient tables in force
for the module's marks (0) and for those of partition p (1 + p) (R626), the latest samples of the power of feeds A and B
(R592), whether the 12 V auxiliary input is present (R727), and the plane's voltage in mV as last told (R612). -/
structure Power where
  halted : Bool
  limitD : Nat
  samples : List Nat
  auxSamples : List Nat
  lowUs : Nat
  grant : Nat
  boost : Nat
  ticks : Nat
  leaseId : Nat
  leaseState : Nat
  shed : Bool
  aux : Long
  inlet : Word
  outlet : Word
  flow : Word
  upStep : Bool
  wearDue : Bool
  hotModule : Bool
  shutdown : Bool
  coefTab : SMap (List Byte)
  feedW : Nat × Nat
  aux12 : Bool
  planeMv : Nat
  deriving DecidableEq, Repr

def Power.reset : Power :=
  { halted := false, limitD := 64, samples := [], auxSamples := [], lowUs := 0, grant := 0, boost := 0, ticks := 0,
    leaseId := 0, leaseState := 0, shed := false, aux := 0, inlet := 0, outlet := 0, flow := 0,
    upStep := false, wearDue := false, hotModule := false, shutdown := false, coefTab := [],
    feedW := (0, 0), aux12 := true, planeMv := 54000 }

/-! ### Management (spec/11) -/

/-- A session (R526 to R530): its id, credential and role, its source, whether it is pending, its three
keys, the client proof it must show, the highest `HDP_SEQ` accepted and those accepted among the 64 below
it, the next number it sends, the replies kept, and when it opened. -/
structure Session where
  id : Nat
  cred : Nat
  role : Nat
  src : HdpSource
  open_ : Bool
  kC2m : List Byte
  kM2c : List Byte
  kWrap : List Byte
  proof : List Byte
  rxTop : Option Nat
  rxSeen : List Nat
  txSeq : Nat
  replies : List (Nat × Nat × List Byte)
  since : Nat
  deriving DecidableEq, Repr

/-- A message that is being joined from fragments (R521), oldest first in the MSC's list. -/
structure HdpMsg where
  src : HdpSource
  sid : Nat
  reqId : Nat
  typ : Nat
  total : Nat
  count : Nat
  frags : SMap (List Byte)
  deriving DecidableEq, Repr

/-- The MSC's HDP server: sessions, incomplete messages, complete ones not yet executed (source, session,
request, type, body), the hellos handled in the running second (the second and how many; R529), the sessions opened so far, and of
the ids of ended sessions how many had then been opened (R530). -/
structure Hdp where
  sessions : List Session
  msgs : List HdpMsg
  ready : List (HdpSource × Nat × Nat × Nat × List Byte)
  hellos : Nat × Nat
  opened : Nat
  ended : SMap Nat
  deriving DecidableEq, Repr

def Hdp.reset : Hdp := ⟨[], [], [], (0, 0), 0, []⟩

/-- The server starts anew: every session ends (R530). -/
def Hdp.restart (x : Hdp) : Hdp :=
  { Hdp.reset with opened := x.opened, ended := x.sessions.foldl (fun l y => l.put y.id x.opened) x.ended }

/-! ### The MSC (spec/14 to spec/17) -/

/-- A boot bank (R659, R667): its state (0 empty, 1 valid, 2 invalid, 3 writing), and the image. -/
structure Bank where
  state : Nat
  version : Nat
  length : Nat
  image : List Byte
  deriving DecidableEq, Repr

def Bank.reset : Bank := ⟨0, 0, 0, []⟩

/-- An open firmware update (R659): the bank, the length, and the blocks by offset. -/
structure Update where
  bank : Nat
  len : Nat
  blocks : SMap (List Byte)
  deriving DecidableEq, Repr

/-- A stored licence (R662): its bytes 0x00 to 0x3F, and whether it verified at the last cold start or
install (R666). -/
structure Licence where
  body : List Byte
  valid : Bool
  deriving DecidableEq, Repr

/-- A fault record (R686). -/
structure FaultRec where
  time : Nat
  seq : Nat
  scope : Nat
  source : Nat
  inst : Nat
  cls : Nat
  cause : Nat
  action : Nat
  part : Nat
  detail : Nat
  deriving DecidableEq, Repr

/-- The firmware broadcast at work (R652): rounds run, chunks still missing, the fields that owe a bitmap,
the bitmaps that came by field, the round end sent, the unicasts tried by cluster and chunk, and the install
broadcast sent. -/
structure Bcast where
  rounds : Nat
  missing : List Nat
  waiting : List Nat
  maps : SMap (List Nat)
  sentEnd : Bool
  tries : List (Nat × Nat × Nat)
  install : Bool
  deriving DecidableEq, Repr

/-- The MSC: boot banks, the running image, whether the last cold start booted its second bank, an open
update and whether an abandonment is recorded in flash, the saved configuration, whether training records
are held, licences, fault records, those on their way (by source: a field, 84 + a region, 96 the MSC), the broadcast and the firmware it sends, a start under way (false warm),
the cold start's clock, whether the plane hold of R623 and the watchdog hold of R573 apply, the attestation
content being signed and when a report became ready, the accepted slot id, credential keys, whether a
standby supervisor has taken over, whether a heartbeat came, the resets that you requested and that run (R691: a
partition, or 100 for `MODULE_RESET`), and when the last start completed. -/
structure Msc where
  banks : SMap Bank
  image : List Byte
  second : Bool
  upd : Option Update
  updLost : Bool
  saved : Option Dict
  trained : Bool
  licences : List Licence
  records : List FaultRec
  posted : List (Nat × FaultRec)
  bcast : Option Bcast
  firmware : List Byte
  manifest : List Byte
  starting : Option Bool
  booted : Bool
  planeHeld : Bool
  watchdog : Bool
  attest : List Byte
  attestAt : Nat
  slotStored : Option Nat
  credKeys : SMap (List Byte)
  failedOver : Bool
  heartbeat : Bool
  asked : List Nat
  startedAt : Nat
  deriving DecidableEq, Repr

/-- The MSC right after module reset, with nothing in flash (DESIGN CHOICE for flash contents). -/
def Msc.reset : Msc :=
  { banks := [], image := [], second := false, upd := none, updLost := false, saved := none,
    trained := false, licences := [], records := [], posted := [], bcast := none, firmware := [], manifest := [],
    starting := none, booted := false, planeHeld := false, watchdog := false, attest := [], attestAt := 0,
    slotStored := none, credKeys := [], failedOver := false, heartbeat := false, asked := [], startedAt := 0 }

/-! ### The whole module -/

/-- The state of the module: the commands that wait, the number of free values given out (log entry 4), wafer time in ns
and its fraction in units of 2^-16 ns (R575), the cores (R156), clusters (R275), traffic between them (R257, R322), DRAM (R369), fields (R32), partitions (R46) and
port engines (R419, R465), what has left the module (R516), clocks (R553), the regions (R591), power (R594), the dictionary
protocol (R520), the management controller (R628), the fabric cycle count (R259), and the stored objects of the dictionary
(R531). A unit that a map does not list is as after reset. -/
structure State where
  pending : List Instr
  free : Nat
  wt : Nat
  wtFrac : Nat
  cores : SMap Core
  clusters : SMap Cluster
  net : Net
  dram : Dram
  fields : SMap FieldSt
  parts : SMap PartSt
  ports : SMap PortSt
  sent : List Sent
  clocks : Clocks
  regions : SMap RegionSt
  power : Power
  hdp : Hdp
  msc : Msc
  fabric : Nat
  dict : Dict
  deriving DecidableEq, Repr

/-- The module right after reset. -/
def State.reset : State :=
  { pending := [], free := 0, wt := 0, wtFrac := 0, cores := [], clusters := [], net := Net.reset, dram := Dram.reset,
    fields := [], parts := [], ports := [], sent := [], clocks := Clocks.reset, regions := [],
    power := Power.reset, hdp := Hdp.reset, msc := Msc.reset, fabric := 0, dict := Dict.reset }

/-- The outcome of a command. -/
abbrev Out := Host.Outcome State Fault Refusal

end Sys2Proof.Machine
end

