-- ==== Sys2Proof/Machine/Frames.lean ====
section
/-! DEFINITION. What travels on the lanes of a scheduled-plane link: frames of the tile lane (R262, R263) and
flits of the token lane (R267). -/

namespace Sys2Proof.Machine

/-! ### Frames -/

/-- L of a beat on the tile lane (R262). -/
def frameLanes (null : Bool) (fmt : Nat) : Nat := if null then 1 else (16 + fmtSize fmt + 63) / 64

def Beat.lanes (b : Beat) : Nat := frameLanes b.null b.fmt

/-- The 128 bits of a frame header (R263). -/
def frameHeader (route seq : Nat) (b : Beat) : Nat :=
  (if b.null then 0 else b.tag.toNat) + seq % 2 ^ 32 * 2 ^ 64 + b2n b.last * 2 ^ 110 + b2n b.null * 2 ^ 111 +
    b.fmt % 16 * 2 ^ 112 + route % 4096 * 2 ^ 116

/-- The frame of a beat: header, image, and zeros to the end of its last flit (R262). -/
def frameBytes (route seq : Nat) (b : Beat) : List Byte :=
  let body := leBytes 16 (frameHeader route seq b) ++ (if b.null then [] else sliceB b.img 0 (fmtSize b.fmt))
  body ++ List.replicate (64 * b.lanes - body.length) 0#8

/-- The header of a frame as it was received. -/
def frameHead (l : List Byte) : Nat := leAt l 0 16
def headRoute (h : Nat) : Nat := nfld h 116 12
def headFmt (h : Nat) : Nat := nfld h 112 4
def headNull (h : Nat) : Bool := nbit h 111
def headLast (h : Nat) : Bool := nbit h 110
def headSeq (h : Nat) : Nat := nfld h 64 32

/-- The beat that a frame carries. -/
def frameBeat (l : List Byte) : Beat :=
  let h := frameHead l
  ⟨headFmt h, headNull h, headLast h, BitVec.ofNat 64 h, if headNull h then [] else sliceB l 16 (fmtSize (headFmt h))⟩

/-! ### Flits of the token lane -/

/-- The continuation flits of a tuple (R267): two words each. -/
def tupleRest : List Word → List Long
  | [] => []
  | [w] => [BitVec.ofNat 64 w.toNat]
  | w :: w' :: r => BitVec.ofNat 64 (w.toNat + w'.toNat * 2 ^ 32) :: tupleRest r

/-- The flits of a tuple: its head with word 0, then its continuations (R267). -/
def tupleFlits (route : Nat) (round : Bool) (ws : List Word) : List Long :=
  match ws with
  | [] => []
  | w :: r =>
    BitVec.ofNat 64 (w.toNat + route % 4096 * 2 ^ 44 + b2n round * 2 ^ 59 + r.length % 4 * 2 ^ 60 + 2 ^ 62) :: tupleRest r

/-- A credit flit (R267). -/
def creditFlit (route consumer count : Nat) : Long :=
  BitVec.ofNat 64 (count % 65536 + route % 4096 * 2 ^ 44 + consumer % 8 * 2 ^ 59 + 2 * 2 ^ 62)

/-- The head flit of a token-lane train. -/
def tokenHead (l : List Long) : Nat := (l.head?.map (·.toNat)).getD 0
/-- `TYPE` of a head flit (R267): 0 idle, 1 tuple, 2 credit, 3 reserved. -/
def tokenType (l : List Long) : Nat := nfld (tokenHead l) 62 2
def tokenRoute (l : List Long) : Nat := nfld (tokenHead l) 44 12
def tokenRound (l : List Long) : Bool := nbit (tokenHead l) 59
def tokenConsumer (l : List Long) : Nat := nfld (tokenHead l) 59 3
def tokenCount (l : List Long) : Nat := nfld (tokenHead l) 0 16

/-- The words of a tuple, as its head and its continuations hold them. -/
def tokenWords (l : List Long) : List Word :=
  (BitVec.ofNat 32 (tokenHead l) ::
    (l.drop 1).flatMap (fun (f : Long) => [f.setWidth 32, (f >>> 32).setWidth 32])).take (nfld (tokenHead l) 60 2 + 1)

/-! ### Trains -/

/-- The lane of a train: 0 tile, 1 token (R257). -/
def Cargo.lane (c : Cargo) : Nat :=
  match c with
  | .frame _ => 0
  | .token _ => 1

/-- `ROUTE_ID` of a train's head. -/
def Cargo.route (c : Cargo) : Nat :=
  match c with
  | .frame l => headRoute (frameHead l)
  | .token l => tokenRoute l

/-- The flits of a train (R262, R267). -/
def Cargo.flits (c : Cargo) : Nat :=
  match c with
  | .frame l => (l.length + 63) / 64
  | .token l => l.length

/-- The first `n` flits of a train. -/
def Cargo.take (c : Cargo) (n : Nat) : Cargo :=
  match c with
  | .frame l => .frame (l.take (64 * n))
  | .token l => .token (l.take n)

/-- A token-lane train with an uncorrectable error (R257): its words, or the count of a credit, are the open value `v` (DESIGN
CHOICE, log entry 216). The content of such a frame is never delivered (R266). -/
def Cargo.garbled (c : Cargo) (v : Nat) : Cargo :=
  match c with
  | .frame l => .frame l
  | .token [] => .token []
  | .token (h :: r) =>
    .token (BitVec.ofNat 64 (h.toNat / 2 ^ 32 * 2 ^ 32 + v % 2 ^ 32) ::
      (List.range r.length).map (fun j => BitVec.ofNat 64 (v / 2 ^ (32 + 64 * j))))

/-- Whether a train's head is idle, or of the reserved `TYPE` (R267). -/
def Cargo.isIdle (c : Cargo) : Bool := match c with | .frame _ => false | .token l => tokenType l = 0
def Cargo.isReserved (c : Cargo) : Bool := match c with | .frame _ => false | .token l => tokenType l = 3

def Cargo.isFrame (c : Cargo) : Bool := c.lane = 0
def Cargo.isTuple (c : Cargo) : Bool := match c with | .frame _ => false | .token l => tokenType l ≠ 2
def Cargo.isCredit (c : Cargo) : Bool := match c with | .frame _ => false | .token l => tokenType l = 2

/-- The count that a train's forwarding advances (R275). -/
def Cargo.countAt (c : Cargo) : Nat := if c.isFrame then 0x80040 else if c.isCredit then 0x80050 else 0x80048

end Sys2Proof.Machine
end

