-- ==== Sys2Proof/Machine/Encode.lean ====
section
/-! DEFINITION. The 32-bit words of the core's instructions, written from the encoding tables of
spec/04_core_and_sequencer.md (R186 to R206), and which words are reserved (R185). A core command
runs only where program memory holds its word. -/

namespace Sys2Proof.Machine

/-- A word from its fields: value and lowest bit. -/
def wordOf (l : List (Nat × Nat)) : Word :=
  BitVec.ofNat 32 (l.foldl (fun a p => a + p.1 <<< p.2) 0)

/-- SYS, ALUI: class, operation, `RD`, `RA`, `IMM16` (R187). -/
def encImm (cls op : Nat) (rd ra : BitVec 4) (imm : Half) : Word :=
  wordOf [(cls, 28), (op, 24), (rd.toNat, 20), (ra.toNat, 16), (imm.toNat, 0)]

/-- ALU (R187). -/
def encAlu (op : Nat) (rd ra rb : BitVec 4) : Word :=
  wordOf [(1, 28), (op, 24), (rd.toNat, 20), (ra.toNat, 16), (rb.toNat, 12)]

/-- BR (R187). -/
def encBr (cond : Nat) (ra rb : BitVec 4) (target : BitVec 11) : Word :=
  wordOf [(4, 28), (cond, 25), (ra.toNat, 21), (rb.toNat, 17), (target.toNat, 0)]

/-- SMEM (R188). -/
def encSmem (op : Nat) (rd ra : BitVec 4) (off : BitVec 18) : Word :=
  wordOf [(5, 28), (op, 26), (rd.toNat, 22), (ra.toNat, 18), (off.toNat, 0)]

/-- CTR (R189). -/
def encCtr (op : Nat) (cn ra : BitVec 4) (imm : Half) : Word :=
  wordOf [(6, 28), (op, 24), (cn.toNat, 20), (ra.toNat, 16), (imm.toNat, 0)]

/-- TMEM (R190). -/
def encTmem (op : Nat) (t : BitVec 3) (ra rb fmt rc : BitVec 4) : Word :=
  wordOf [(7, 28), (op, 26), (t.toNat, 23), (ra.toNat, 19), (rb.toNat, 15), (fmt.toNat, 11), (rc.toNat, 7)]

/-- TMUL (R192). -/
def encTmul (acc : BitVec 2) (ta tb : BitVec 3) (ovw : Bool) (sp : BitVec 3) : Word :=
  wordOf [(8, 28), (acc.toNat, 26), (ta.toNat, 23), (tb.toNat, 20), (b2n ovw, 19), (sp.toNat, 16)]

/-- CVT (R193). -/
def encCvt (a : CvtArgs) : Word :=
  wordOf [(9, 28), (a.tfmt.toNat, 24), (a.src.toNat, 20), (a.dst.toNat, 16), (b2n a.rnd, 15),
    (b2n a.scale, 14), (b2n a.gather, 13), (a.slot.toNat, 9), (b2n a.retain, 8), (a.ra.toNat, 4),
    (a.sfmt.toNat, 0)]

/-- VEC (R197). -/
def encVec (vop : Nat) (vd va vb vc sr : BitVec 4) (nfmt : Bool) : Word :=
  wordOf [(10, 28), (vop, 23), (vd.toNat, 19), (va.toNat, 15), (vb.toNat, 11), (vc.toNat, 7),
    (sr.toNat, 3), (b2n nfmt, 2)]

/-- QUE (R199). -/
def encQue (op q reg n : Nat) : Word :=
  wordOf [(11, 28), (op, 24), (q, 20), (reg, 16), (n, 14)]

/-- MSG (R202). -/
def encMsg (op : Nat) (ra rb rc cn : BitVec 4) (imm : Nat) : Word :=
  wordOf [(12, 28), (op, 24), (ra.toNat, 20), (rb.toNat, 16), (rc.toNat, 12), (cn.toNat, 8), (imm, 0)]

/-- CFG (R206). -/
def encCfg (rd : BitVec 4) (off : BitVec 12) : Word :=
  wordOf [(13, 28), (rd.toNat, 20), (off.toNat, 0)]

/-- Whether a register pair field names an even register (R159). -/
def evenReg (k : Nat) : Bool := k % 2 = 0

/-- SYS words that are reserved (R185, R187). -/
def resSys (w : Nat) : Bool :=
  match nfld w 24 4 with
  | 0 => nfld w 0 24 ≠ 0
  | 1 => nfld w 0 24 ≠ 0
  | 2 => false
  | 3 => !evenReg (nfld w 16 4)
  | 4 => !evenReg (nfld w 20 4)
  | 5 => nfld w 2 14 ≠ 0
  | 6 => false
  | _ => true

/-- ALUI words that are reserved (R187). -/
def resAlui (w : Nat) : Bool :=
  match nfld w 24 4 with
  | 0 => false
  | 2 => false
  | 3 => false
  | 4 => false
  | 5 => nfld w 5 11 ≠ 0
  | 6 => nfld w 5 11 ≠ 0
  | 7 => nfld w 5 11 ≠ 0
  | 8 => false
  | 9 => false
  | 15 => nfld w 16 4 ≠ 0
  | _ => true

/-- BR words that are reserved: bits marked zero, `RB` of `J` and `JAL`, `RA` of `J` (R187). -/
def resBr (w : Nat) : Bool :=
  nfld w 11 6 ≠ 0 || (6 ≤ nfld w 25 3 && nfld w 17 4 ≠ 0) || (nfld w 25 3 = 6 && nfld w 21 4 ≠ 0)

/-- CTR words that are reserved: operations, and fields an operation does not use (R189). -/
def resCtr (w : Nat) : Bool :=
  match nfld w 24 4 with
  | 0 | 1 | 5 => nfld w 16 4 ≠ 0
  | 2 | 3 => nfld w 0 16 ≠ 0
  | 4 => nfld w 16 4 ≠ 0 || nfld w 11 5 ≠ 0
  | _ => true

/-- TMEM words that are reserved (R190). -/
def resTmem (w : Nat) : Bool :=
  nfld w 26 2 = 3 || nfld w 0 7 ≠ 0 || (nfld w 26 2 ≠ 2 && nfld w 7 4 ≠ 0)

/-- CVT words that are reserved (R193, R195): reserved operand codes, core store on both sides, and
fields that must be zero. -/
def resCvt (w : Nat) : Bool :=
  let src := nfld w 20 4
  let dst := nfld w 16 4
  12 < src || 8 < dst || (src = 12 && dst = 8) ||
    (src ≠ 12 && dst ≠ 8 && nfld w 4 4 ≠ 0) || (src ≠ 12 && nfld w 0 4 ≠ 0)

/-- How many source operands a vector operation has (R198). -/
def vecArity (vop : Nat) : Nat :=
  if vop ≤ 2 then 2 else if vop = 3 then 3 else if vop ≤ 8 then 2 else if vop = 9 then 3
  else if vop ≤ 0x13 then 1 else 0

/-- VEC words that are reserved (R185, R197, R198). R198 does not say whether `SR` (where no operand is coded 12 or 13) and `NFMT`
(where the destination is no tile register) must be zero: they may hold anything (DESIGN CHOICE, log entry 155). -/
def resVec (w : Nat) : Bool :=
  let vop := nfld w 23 5
  let vd := nfld w 19 4
  let va := nfld w 15 4
  let vb := nfld w 11 4
  let vc := nfld w 7 4
  let n := vecArity vop
  0x15 < vop || nfld w 0 2 ≠ 0 || vd = 12 || 13 < vd ||
    (if 1 ≤ n then 13 < va else va ≠ 0) || (if 2 ≤ n then 13 < vb else vb ≠ 0) ||
    (if 3 ≤ n then 13 < vc else vc ≠ 0) || (vop = 0x12 && (3 < vd || 3 < va))

/-- QUE words that are reserved (R199, R185). The table marks N zero for `DROPR` alone: `TPOP`, `TPUSH` and `TSTAT` ignore it
(DESIGN CHOICE, log entry 13). -/
def resQue (w : Nat) : Bool :=
  let q := nfld w 20 4
  let reg := nfld w 16 4
  let n := nfld w 14 2
  nfld w 0 14 ≠ 0 ||
  match nfld w 24 4 with
  | 0 => 7 < q || 7 < reg
  | 1 => 7 < q || 7 < reg
  | 2 => 7 < q || 15 < reg + n
  | 3 => 7 < q || 15 < reg + n
  | 4 => 11 < q || reg ≠ 0 || n ≠ 0
  | 5 => 7 < q
  | _ => true

/-- MSG words that are reserved: operations, and odd register pairs (R202, R185). Fields that an operation does not name may hold
anything (DESIGN CHOICE, log entry 13). -/
def resMsg (w : Nat) : Bool :=
  match nfld w 24 4 with
  | 0 | 1 | 2 | 3 | 4 => !evenReg (nfld w 20 4)
  | 5 => !nbit w 0 && !evenReg (nfld w 20 4)
  | 6 => false
  | _ => true

/-- Whether a word raises the illegal-instruction fault whatever the core's state (R185, R186). -/
def reservedWord (v : Word) : Bool :=
  let w := v.toNat
  match nfld w 28 4 with
  | 0 => resSys w
  | 1 => nfld w 0 12 ≠ 0
  | 2 => resAlui w
  | 4 => resBr w
  | 5 => false
  | 6 => resCtr w
  | 7 => resTmem w
  | 8 => nfld w 0 16 ≠ 0
  | 9 => resCvt w
  | 10 => resVec w
  | 11 => resQue w
  | 12 => resMsg w
  | 13 => nfld w 24 4 ≠ 0 || nfld w 12 8 ≠ 0
  | _ => true

end Sys2Proof.Machine
end

