-- ==== Sys2Proof/Machine/Objects.lean ====
section
/-! DEFINITION. The objects of the management dictionary: their keys, types, access, roles and
defaults, from the object tables of the spec's chapters (R53, R155, R216, R256, R315, R361, R418, R467,
R515, R551, R588, R626, R667, R694, R712, R745). -/

namespace Sys2Proof.Machine

/-- The key of an object: scope, instance, object number. -/
def okey (scope inst num : Nat) : Nat := (scope * 65536 + inst) * 65536 + num

/-- An object's type (spec/11). -/
inductive ObjType where
  | u8
  | u16
  | u32
  | u64
  | i32
  | bool
  | f32
  | time64
  | str
  | blob
  deriving DecidableEq, Repr

/-- An object's access (R14). -/
inductive ObjAccess where
  | ro
  | rw
  | wo
  | rc
  | cmd
  deriving DecidableEq, Repr

/-- A row of an object table: scope and object number, name, type, access, lowest role to write (0
none, 1 observer, 2 operator, 3 administrator, 4 custodian), and whether it is persistent and secret. -/
structure ObjRow where
  scope : Nat
  num : Nat
  name : String
  typ : ObjType
  acc : ObjAccess
  role : Nat
  persistent : Bool
  isSecret : Bool
  deriving DecidableEq, Repr

/-! ### Keys -/

def o0ClustersPresent : Nat := okey 0 0 0x0100
def o0PartitionSplit : Nat := okey 0 0 0x0120
def o1RegionState (r : Nat) : Nat := okey 1 r 0x0100
def o1RegionPartition (r : Nat) : Nat := okey 1 r 0x0101
def o2DefectMap (f : Nat) : Nat := okey 2 f 0x0100
def o2DefectMapGeneration (f : Nat) : Nat := okey 2 f 0x0101
def o2AbsentClusters (f : Nat) : Nat := okey 2 f 0x0102
def o2FieldState (f : Nat) : Nat := okey 2 f 0x0103
def o3ClusterState (k : Nat) : Nat := okey 3 k 0x0100
def o6PartitionRegions (p : Nat) : Nat := okey 6 p 0x0100
def o2TilesMultiplied (f : Nat) : Nat := okey 2 f 0x0200
def o2TilesFlagged (f : Nat) : Nat := okey 2 f 0x0201
def o2TilesRekindled (f : Nat) : Nat := okey 2 f 0x0202
def o2RkOverBudget (f : Nat) : Nat := okey 2 f 0x0203
def o2RkIneligible (f : Nat) : Nat := okey 2 f 0x0204
def o2RkFallback (f : Nat) : Nat := okey 2 f 0x0205
def o2RkCycles (f : Nat) : Nat := okey 2 f 0x0206
def o2AccOverflows (f : Nat) : Nat := okey 2 f 0x0207
def o6MordantCommits (p : Nat) : Nat := okey 6 p 0x0200
def o6MordantDiscards (p : Nat) : Nat := okey 6 p 0x0201
def o6MordantLastNs (p : Nat) : Nat := okey 6 p 0x0202
def o6MordantDeadCores (p : Nat) : Nat := okey 6 p 0x0203
def o2Firings (f : Nat) : Nat := okey 2 f 0x0300
def o2AwakeCycles (f : Nat) : Nat := okey 2 f 0x0301
def o2SmoulderTicks (f : Nat) : Nat := okey 2 f 0x0302
def o2Kindles (f : Nat) : Nat := okey 2 f 0x0303
def o2KindleWaitCycles (f : Nat) : Nat := okey 2 f 0x0304
def o2StationFaults (f : Nat) : Nat := okey 2 f 0x0305
def o2UncorrectableFaults (f : Nat) : Nat := okey 2 f 0x0306
def o2CoreFaults (f : Nat) : Nat := okey 2 f 0x0307
def o2CstoreCorrected (f : Nat) : Nat := okey 2 f 0x0308
def o2PmemCorrected (f : Nat) : Nat := okey 2 f 0x0309
def o3LastFault (k : Nat) : Nat := okey 3 k 0x0300
def o2SlotMisses (f : Nat) : Nat := okey 2 f 0x0400
def o2RetryDepartures (f : Nat) : Nat := okey 2 f 0x0401
def o2MergeConflicts (f : Nat) : Nat := okey 2 f 0x0402
def o2NullBeats (f : Nat) : Nat := okey 2 f 0x0403
def o6GraphState (p : Nat) : Nat := okey 6 p 0x0300
def o6GraphId (p : Nat) : Nat := okey 6 p 0x0301
def o6GraphLoad (p : Nat) : Nat := okey 6 p 0x0302
def o6GraphUnload (p : Nat) : Nat := okey 6 p 0x0303
def o6LoadResult (p : Nat) : Nat := okey 6 p 0x0304
def o6LoadDetail (p : Nat) : Nat := okey 6 p 0x0305
def o6AlternatesActive (p : Nat) : Nat := okey 6 p 0x0306
def o6LastSlotMiss (p : Nat) : Nat := okey 6 p 0x0307
def o2LaneCorrected (f : Nat) : Nat := okey 2 f 0x0500
def o2LaneUncorrectable (f : Nat) : Nat := okey 2 f 0x0501
def o2RouteMismatches (f : Nat) : Nat := okey 2 f 0x0502
def o2SeqFaults (f : Nat) : Nat := okey 2 f 0x0503
def o2DroppedBeats (f : Nat) : Nat := okey 2 f 0x0504
def o2AdvisoryLost (f : Nat) : Nat := okey 2 f 0x0505
def o2StitchRetrains (f : Nat) : Nat := okey 2 f 0x0506
def o2StitchLaneRepairs (f : Nat) : Nat := okey 2 f 0x0507
def o2StitchMarginMin (f : Nat) : Nat := okey 2 f 0x0508
def o2StitchRetrain (f : Nat) : Nat := okey 2 f 0x0509
def o3CombineRounds (k : Nat) : Nat := okey 3 k 0x0500
def o3SootLost (k : Nat) : Nat := okey 3 k 0x0501
def o6StitchDrops (p : Nat) : Nat := okey 6 p 0x0500
def o6FrameLen (p : Nat) : Nat := okey 6 p 0x0501
def o6Turns (p : Nat) : Nat := okey 6 p 0x0502
def o0MpNearHops : Nat := okey 0 0 0x0600
def o0MpValiant : Nat := okey 0 0 0x0601
def o0MpTimeout : Nat := okey 0 0 0x0602
def o2MpFlitsOut (f : Nat) : Nat := okey 2 f 0x0600
def o2MpStallCycles (f : Nat) : Nat := okey 2 f 0x0601
def o2MpReplays (f : Nat) : Nat := okey 2 f 0x0602
def o2MpCrcErrors (f : Nat) : Nat := okey 2 f 0x0603
def o2MpDetours (f : Nat) : Nat := okey 2 f 0x0604
def o2MpUnreachable (f : Nat) : Nat := okey 2 f 0x0605
def o2MpTimeouts (f : Nat) : Nat := okey 2 f 0x0606
def o2MpLinksDown (f : Nat) : Nat := okey 2 f 0x0607
def o2MpInboxOversize (f : Nat) : Nat := okey 2 f 0x0608
def o3MpPortCounts (k : Nat) : Nat := okey 3 k 0x0600
def o4AttachFlitsIn (n : Nat) : Nat := okey 4 n 0x0600
def o4AttachFlitsOut (n : Nat) : Nat := okey 4 n 0x0601
def o4AttachStallCycles (n : Nat) : Nat := okey 4 n 0x0602
def o4AttachDepthPeak (n : Nat) : Nat := okey 4 n 0x0603
def o4AttachLinksUp (n : Nat) : Nat := okey 4 n 0x0604
def o0DramScrubHours : Nat := okey 0 0 0x0700
def o2DramReadBytes (f : Nat) : Nat := okey 2 f 0x0700
def o2DramWriteBytes (f : Nat) : Nat := okey 2 f 0x0701
def o2DramAtomics (f : Nat) : Nat := okey 2 f 0x0702
def o2DramRmwWrites (f : Nat) : Nat := okey 2 f 0x0703
def o2DramCorrected (f : Nat) : Nat := okey 2 f 0x0704
def o2DramUncorrectable (f : Nat) : Nat := okey 2 f 0x0705
def o2DramUeLast (f : Nat) : Nat := okey 2 f 0x0706
def o2DramRefresh2x (f : Nat) : Nat := okey 2 f 0x0707
def o2DramChannelsReady (f : Nat) : Nat := okey 2 f 0x0708
def o3CacheHits (k : Nat) : Nat := okey 3 k 0x0700
def o3CacheMisses (k : Nat) : Nat := okey 3 k 0x0701
def o3FillsSuppressed (k : Nat) : Nat := okey 3 k 0x0702
def o3Acquires (k : Nat) : Nat := okey 3 k 0x0703
def o3CacheWays (k : Nat) : Nat := okey 3 k 0x0704
def o6PeriodNs (p : Nat) : Nat := okey 6 p 0x0900
def o6BoundaryNs (p : Nat) : Nat := okey 6 p 0x0901
def o6BatchRows (p : Nat) : Nat := okey 6 p 0x0902
def o6AttnBudget (p : Nat) : Nat := okey 6 p 0x0903
def o6PrefillChunkMax (p : Nat) : Nat := okey 6 p 0x0904
def o6DoneTarget (p : Nat) : Nat := okey 6 p 0x0905
def o6BatchTable (p : Nat) : Nat := okey 6 p 0x0906
def o6PageTokens (p : Nat) : Nat := okey 6 p 0x0907
def o6KvTokenBytes (p : Nat) : Nat := okey 6 p 0x0908
def o6AttnScale (p : Nat) : Nat := okey 6 p 0x0909
def o6Class0Max (p : Nat) : Nat := okey 6 p 0x090A
def o6Class0CtxMax (p : Nat) : Nat := okey 6 p 0x090B
def o6DropLimit (p : Nat) : Nat := okey 6 p 0x090C
def o6PeriodNo (p : Nat) : Nat := okey 6 p 0x090D
def o6PeriodsCommitted (p : Nat) : Nat := okey 6 p 0x090E
def o6DropCauses (p : Nat) : Nat := okey 6 p 0x090F
def o6PeriodsIdle (p : Nat) : Nat := okey 6 p 0x0910
def o6LastCommitNs (p : Nat) : Nat := okey 6 p 0x0911
def o6RowsLast (p : Nat) : Nat := okey 6 p 0x0912
def o6EnergyNj (p : Nat) : Nat := okey 6 p 0x0913
def o6UnattributedNj (p : Nat) : Nat := okey 6 p 0x0914
def o6EnergyCoefNj (p : Nat) : Nat := okey 6 p 0x0915
def o6StreamsOpen (p : Nat) : Nat := okey 6 p 0x0916
def o6UnattributedCoefNj (p : Nat) : Nat := okey 6 p 0x0917
def o4PoolBase (n : Nat) : Nat := okey 4 n 0x0900
def o4PoolEntries (n : Nat) : Nat := okey 4 n 0x0901
def o4PoolFree (n : Nat) : Nat := okey 4 n 0x0902
def o4PageStarved (n : Nat) : Nat := okey 4 n 0x0903
def o4StreamsOpen (n : Nat) : Nat := okey 4 n 0x0904
def o4OpensRefused (n : Nat) : Nat := okey 4 n 0x0905
def o5StreamEntry (sid : Nat) : Nat := okey 5 sid 0x0900
def o5StreamState (sid : Nat) : Nat := okey 5 sid 0x0901
def o5StreamClose (sid : Nat) : Nat := okey 5 sid 0x0902
def o4PortMode (n : Nat) : Nat := okey 4 n 0x0A00
def o4PortState (n : Nat) : Nat := okey 4 n 0x0A01
def o4PortRate (n : Nat) : Nat := okey 4 n 0x0A02
def o4PortConfig (n : Nat) : Nat := okey 4 n 0x0A03
def o4LanesUp (n : Nat) : Nat := okey 4 n 0x0A04
def o4PortMac (n : Nat) : Nat := okey 4 n 0x0A05
def o4PortIpv4 (n : Nat) : Nat := okey 4 n 0x0A06
def o4PortIpv6 (n : Nat) : Nat := okey 4 n 0x0A07
def o4HwtDscp (n : Nat) : Nat := okey 4 n 0x0A08
def o4PortRetrain (n : Nat) : Nat := okey 4 n 0x0A09
def o4PortTrains (n : Nat) : Nat := okey 4 n 0x0A0A
def o4FecCorrected (n : Nat) : Nat := okey 4 n 0x0A0B
def o4FecUncorrectable (n : Nat) : Nat := okey 4 n 0x0A0C
def o4PreFecBer (n : Nat) : Nat := okey 4 n 0x0A0D
def o4FramesRx (n : Nat) : Nat := okey 4 n 0x0A0E
def o4FramesTx (n : Nat) : Nat := okey 4 n 0x0A0F
def o4RxDropped (n : Nat) : Nat := okey 4 n 0x0A10
def o4PauseIgnored (n : Nat) : Nat := okey 4 n 0x0A11
def o4ReportAssoc (n : Nat) : Nat := okey 4 n 0x0A12
def o4HwtSegsTx (n : Nat) : Nat := okey 4 n 0x0A13
def o4HwtSegsRx (n : Nat) : Nat := okey 4 n 0x0A14
def o4HwtResends (n : Nat) : Nat := okey 4 n 0x0A15
def o4HwtDiscards (n : Nat) : Nat := okey 4 n 0x0A16
def o4HwtCeReceived (n : Nat) : Nat := okey 4 n 0x0A17
def o4HwtNacksSent (n : Nat) : Nat := okey 4 n 0x0A18
def o4HwtNacksReceived (n : Nat) : Nat := okey 4 n 0x0A19
def o4HwtRingWaits (n : Nat) : Nat := okey 4 n 0x0A1A
def o4HwtAssocDowns (n : Nat) : Nat := okey 4 n 0x0A1B
def o4PtpEnable (n : Nat) : Nat := okey 4 n 0x0A20
def o4PtpDomain (n : Nat) : Nat := okey 4 n 0x0A21
def o4PtpTransport (n : Nat) : Nat := okey 4 n 0x0A22
def o4RtoMinUs (n : Nat) : Nat := okey 4 n 0x0A30
def o4RateMin (n : Nat) : Nat := okey 4 n 0x0A31
def o4RateStep (n : Nat) : Nat := okey 4 n 0x0A32
def o0DictVersion : Nat := okey 0 0 0x0000
def o0PartNumber : Nat := okey 0 0 0x0001
def o0Serial : Nat := okey 0 0 0x0002
def o0HwRevision : Nat := okey 0 0 0x0003
def o0FirmwareVersion : Nat := okey 0 0 0x0004
def o0ModuleState : Nat := okey 0 0 0x0005
def o0WaferTime : Nat := okey 0 0 0x0006
def o0UptimeS : Nat := okey 0 0 0x0007
def o0LastStart : Nat := okey 0 0 0x0008
def o0ModuleReset : Nat := okey 0 0 0x0009
def o0ConfigSave : Nat := okey 0 0 0x000A
def o0ConfigClear : Nat := okey 0 0 0x000B
def o0ConfigSavedTime : Nat := okey 0 0 0x000C
def o0SessionsOpen : Nat := okey 0 0 0x0010
def o0SessionIdleS : Nat := okey 0 0 0x0011
def o0HdpAuthFailures : Nat := okey 0 0 0x0012
def o0HdpReplays : Nat := okey 0 0 0x0013
def o0HdpMalformed : Nat := okey 0 0 0x0014
def o0SessionList : Nat := okey 0 0 0x0015
def o0SessionKill : Nat := okey 0 0 0x0016
def o0MgtAIpv4 : Nat := okey 0 0 0x0020
def o0MgtAIpv6 : Nat := okey 0 0 0x0021
def o0MgtBIpv4 : Nat := okey 0 0 0x0022
def o0MgtBIpv6 : Nat := okey 0 0 0x0023
def o0MgtAMac : Nat := okey 0 0 0x0024
def o0MgtBMac : Nat := okey 0 0 0x0025
def o0MgtLink : Nat := okey 0 0 0x0026
def o0MgmtVlan : Nat := okey 0 0 0x0030
def o0MgmtInbandPorts : Nat := okey 0 0 0x0031
def o0MgmtInbandIpv4 : Nat := okey 0 0 0x0032
def o0MgmtInbandIpv6 : Nat := okey 0 0 0x0033
def o0InbandDropped : Nat := okey 0 0 0x0034
def o7CredKey (kk : Nat) : Nat := okey 7 kk 0x0000
def o7CredRole (kk : Nat) : Nat := okey 7 kk 0x0001
def o7CredName (kk : Nat) : Nat := okey 7 kk 0x0002
def o7CredLastUsed (kk : Nat) : Nat := okey 7 kk 0x0003
def o0RefPort : Nat := okey 0 0 0x0800
def o0RefPortAlt : Nat := okey 0 0 0x0801
def o0RefRevertS : Nat := okey 0 0 0x0802
def o0RefSource : Nat := okey 0 0 0x0803
def o0RefSwitches : Nat := okey 0 0 0x0804
def o0ClockFlags : Nat := okey 0 0 0x0805
def o0FabricKhz : Nat := okey 0 0 0x0806
def o0FabricMhzCeiling : Nat := okey 0 0 0x0807
def o0ClockRoots : Nat := okey 0 0 0x0808
def o0PtpPort : Nat := okey 0 0 0x0810
def o0TimeState : Nat := okey 0 0 0x0811
def o0PtpOffsetNs : Nat := okey 0 0 0x0812
def o0PtpRatePpb : Nat := okey 0 0 0x0813
def o0TimeSteps : Nat := okey 0 0 0x0814
def o0TaiUtcOffset : Nat := okey 0 0 0x0815
def o0GmIdentity : Nat := okey 0 0 0x0816
def o0MarkIntervalMs : Nat := okey 0 0 0x0820
def o0SampleMark : Nat := okey 0 0 0x0821
def o0MarkLast : Nat := okey 0 0 0x0822
def o0MarksIncomplete : Nat := okey 0 0 0x0823
def o2ClkStatus (f : Nat) : Nat := okey 2 f 0x0800
def o2ClkDepth (f : Nat) : Nat := okey 2 f 0x0801
def o2FreqMeasure (f : Nat) : Nat := okey 2 f 0x0802
def o2FreqGate (f : Nat) : Nat := okey 2 f 0x0803
def o2FreqResult (f : Nat) : Nat := okey 2 f 0x0804
def o2ClockSlips (f : Nat) : Nat := okey 2 f 0x0805
def o8InputPowerW (w : Nat) : Nat := okey 8 w 0x0B00
def o8InputNj (w : Nat) : Nat := okey 8 w 0x0B01
def o8RailNj (w : Nat) : Nat := okey 8 w 0x0B02
def o8FuseState (w : Nat) : Nat := okey 8 w 0x0B03
def o8FuseCause (w : Nat) : Nat := okey 8 w 0x0B04
def o8BulkReservePct (w : Nat) : Nat := okey 8 w 0x0B05
def o8WearS (w : Nat) : Nat := okey 8 w 0x0B06
def o8StackMaxC (w : Nat) : Nat := okey 8 w 0x0B07
def o8JunctionMaxC (w : Nat) : Nat := okey 8 w 0x0B08
def o8ThermalFlags (w : Nat) : Nat := okey 8 w 0x0B09
def o8AwakeCeiling (w : Nat) : Nat := okey 8 w 0x0B0A
def o8BallastNj (w : Nat) : Nat := okey 8 w 0x0B0B
def o8CoefNj (w : Nat) : Nat := okey 8 w 0x0B0C
def o8LeaseGrant : Nat := okey 8 12 0x0B10
def o8LeaseState : Nat := okey 8 12 0x0B11
def o8LeaseExpiries : Nat := okey 8 12 0x0B12
def o8PowerCapW : Nat := okey 8 12 0x0B13
def o8CapReason : Nat := okey 8 12 0x0B14
def o8PowerCeilingW : Nat := okey 8 12 0x0B15
def o8BoostState : Nat := okey 8 12 0x0B16
def o8Boosts : Nat := okey 8 12 0x0B17
def o8BoostEndCauses : Nat := okey 8 12 0x0B18
def o8BoostCeilingW : Nat := okey 8 12 0x0B19
def o8FeedV : Nat := okey 8 12 0x0B1A
def o8FeedsOk : Nat := okey 8 12 0x0B1B
def o8FlashInhibit : Nat := okey 8 12 0x0B1C
def o8Coolant : Nat := okey 8 12 0x0B1D
def o8CoolantTermW : Nat := okey 8 12 0x0B1E
def o8CoefTable : Nat := okey 8 12 0x0B20
def o8AuxV : Nat := okey 8 13 0x0B02
def o0BootBank : Nat := okey 0 0 0x0C00
def o0NextBootBank : Nat := okey 0 0 0x0C01
def o0FwBanks : Nat := okey 0 0 0x0C02
def o0FwFallbacks : Nat := okey 0 0 0x0C03
def o0FwUpdateOpen : Nat := okey 0 0 0x0C04
def o0FwUpdateData : Nat := okey 0 0 0x0C05
def o0FwUpdateCommit : Nat := okey 0 0 0x0C06
def o0FwUpdateResult : Nat := okey 0 0 0x0C07
def o0StartPhase : Nat := okey 0 0 0x0C08
def o0StartMs : Nat := okey 0 0 0x0C09
def o0BcastRounds : Nat := okey 0 0 0x0C0A
def o0BcastUnicasts : Nat := okey 0 0 0x0C0B
def o0ClusterFwVersion : Nat := okey 0 0 0x0C0C
def o0FieldsQuarantined : Nat := okey 0 0 0x0C0D
def o2StartResult (f : Nat) : Nat := okey 2 f 0x0C00
def o2SoftFuses (f : Nat) : Nat := okey 2 f 0x0C01
def o3LoaderStatus (k : Nat) : Nat := okey 3 k 0x0C00
def o7LicenceInstall : Nat := okey 7 0 0x0C00
def o7LicenceResult : Nat := okey 7 0 0x0C01
def o7LicenceList : Nat := okey 7 0 0x0C02
def o7LicenceRemove : Nat := okey 7 0 0x0C03
def o7Features : Nat := okey 7 0 0x0C04
def o7StreamTier : Nat := okey 7 0 0x0C05
def o7LicencesInvalid : Nat := okey 7 0 0x0C06
def o0RegionsServing : Nat := okey 0 0 0x0D00
def o0ServingMask : Nat := okey 0 0 0x0D01
def o0UnavailNs : Nat := okey 0 0 0x0D02
def o0ExcludedNs : Nat := okey 0 0 0x0D03
def o0AvailSince : Nat := okey 0 0 0x0D04
def o0AvailClear : Nat := okey 0 0 0x0D05
def o0Availability : Nat := okey 0 0 0x0D06
def o0FaultSeq : Nat := okey 0 0 0x0D10
def o0FaultRecords : Nat := okey 0 0 0x0D11
def o0FaultRecordsLost : Nat := okey 0 0 0x0D12
def o0WsPrimary : Nat := okey 0 0 0x0D13
def o0WsFailovers : Nat := okey 0 0 0x0D14
def o3ClusterReset (k : Nat) : Nat := okey 3 k 0x0D00
def o6PartitionReset (p : Nat) : Nat := okey 6 p 0x0D00
def o6PartitionState (p : Nat) : Nat := okey 6 p 0x0D01
def o6PartitionFaults (p : Nat) : Nat := okey 6 p 0x0D02
def o6DeadCores (p : Nat) : Nat := okey 6 p 0x0D03
def o0SlotId : Nat := okey 0 0 0x0E00
def o0SlotChanged : Nat := okey 0 0 0x0E01
def o0SlotAccept : Nat := okey 0 0 0x0E02
def o7IdCert : Nat := okey 7 0 0x0E00
def o7IdDigest : Nat := okey 7 0 0x0E01
def o7SvnCounter : Nat := okey 7 0 0x0E02
def o7SvnCommit : Nat := okey 7 0 0x0E03
def o7KeysRevoked : Nat := okey 7 0 0x0E04
def o7AttestRequest : Nat := okey 7 0 0x0E05
def o7AttestState : Nat := okey 7 0 0x0E06
def o7AttestReport : Nat := okey 7 0 0x0E07
def o7Attests : Nat := okey 7 0 0x0E08
def o7Decommission : Nat := okey 7 0 0x0E09
def o0InterlockClosed : Nat := okey 0 0 0x0F00
def o0ShedInput : Nat := okey 0 0 0x0F01
def o0ShedEvents : Nat := okey 0 0 0x0F02
def o0SlotRead : Nat := okey 0 0 0x0F03
def o0AlertOut : Nat := okey 0 0 0x0F04
def o0AirTempC : Nat := okey 0 0 0x0F05

/-! ### Rows -/

def objRows0p0 : List ObjRow := [
  ⟨0, 0x0100, "CLUSTERS_PRESENT", .u16, .ro, 0, false, false⟩,
  ⟨0, 0x0120, "PARTITION_SPLIT", .u16, .rw, 3, false, false⟩,
  ⟨0, 0x0600, "MP_NEAR_HOPS", .u8, .rw, 3, false, false⟩,
  ⟨0, 0x0601, "MP_VALIANT", .u8, .rw, 3, false, false⟩,
  ⟨0, 0x0602, "MP_TIMEOUT", .u16, .rw, 3, false, false⟩,
  ⟨0, 0x0700, "DRAM_SCRUB_HOURS", .u16, .rw, 3, false, false⟩,
  ⟨0, 0x0000, "DICT_VERSION", .u16, .ro, 0, false, false⟩,
  ⟨0, 0x0001, "PART_NUMBER", .str, .ro, 0, false, false⟩,
  ⟨0, 0x0002, "SERIAL", .str, .ro, 0, false, false⟩,
  ⟨0, 0x0003, "HW_REVISION", .u16, .ro, 0, false, false⟩,
  ⟨0, 0x0004, "FIRMWARE_VERSION", .str, .ro, 0, false, false⟩,
  ⟨0, 0x0005, "MODULE_STATE", .u8, .ro, 0, false, false⟩,
  ⟨0, 0x0006, "WAFER_TIME", .time64, .ro, 0, false, false⟩,
  ⟨0, 0x0007, "UPTIME_S", .u64, .ro, 0, false, false⟩,
  ⟨0, 0x0008, "LAST_START", .u8, .ro, 0, false, false⟩,
  ⟨0, 0x0009, "MODULE_RESET", .u8, .cmd, 3, false, false⟩,
  ⟨0, 0x000A, "CONFIG_SAVE", .u8, .cmd, 3, false, false⟩,
  ⟨0, 0x000B, "CONFIG_CLEAR", .u8, .cmd, 3, false, false⟩,
  ⟨0, 0x000C, "CONFIG_SAVED_TIME", .time64, .ro, 0, false, false⟩,
  ⟨0, 0x0010, "SESSIONS_OPEN", .u8, .ro, 0, false, false⟩,
  ⟨0, 0x0011, "SESSION_IDLE_S", .u16, .rw, 3, true, false⟩,
  ⟨0, 0x0012, "HDP_AUTH_FAILURES", .u64, .ro, 0, false, false⟩,
  ⟨0, 0x0013, "HDP_REPLAYS", .u64, .ro, 0, false, false⟩,
  ⟨0, 0x0014, "HDP_MALFORMED", .u64, .ro, 0, false, false⟩,
  ⟨0, 0x0015, "SESSION_LIST", .blob, .ro, 0, false, false⟩,
  ⟨0, 0x0016, "SESSION_KILL", .u32, .cmd, 4, false, false⟩,
  ⟨0, 0x0020, "MGT_A_IPV4", .u32, .rw, 3, true, false⟩,
  ⟨0, 0x0021, "MGT_A_IPV6", .blob, .rw, 3, true, false⟩,
  ⟨0, 0x0022, "MGT_B_IPV4", .u32, .rw, 3, true, false⟩,
  ⟨0, 0x0023, "MGT_B_IPV6", .blob, .rw, 3, true, false⟩]
def objRows0p1 : List ObjRow := [
  ⟨0, 0x0024, "MGT_A_MAC", .blob, .ro, 0, false, false⟩,
  ⟨0, 0x0025, "MGT_B_MAC", .blob, .ro, 0, false, false⟩,
  ⟨0, 0x0026, "MGT_LINK", .u8, .ro, 0, false, false⟩,
  ⟨0, 0x0030, "MGMT_VLAN", .u16, .rw, 3, true, false⟩,
  ⟨0, 0x0031, "MGMT_INBAND_PORTS", .u32, .rw, 3, true, false⟩,
  ⟨0, 0x0032, "MGMT_INBAND_IPV4", .u32, .rw, 3, true, false⟩,
  ⟨0, 0x0033, "MGMT_INBAND_IPV6", .blob, .rw, 3, true, false⟩,
  ⟨0, 0x0034, "INBAND_DROPPED", .u64, .ro, 0, false, false⟩,
  ⟨0, 0x0800, "REF_PORT", .u8, .rw, 3, false, false⟩,
  ⟨0, 0x0801, "REF_PORT_ALT", .u8, .rw, 3, false, false⟩,
  ⟨0, 0x0802, "REF_REVERT_S", .u16, .rw, 3, false, false⟩,
  ⟨0, 0x0803, "REF_SOURCE", .u8, .ro, 0, false, false⟩,
  ⟨0, 0x0804, "REF_SWITCHES", .u64, .ro, 0, false, false⟩,
  ⟨0, 0x0805, "CLOCK_FLAGS", .u16, .ro, 0, false, false⟩,
  ⟨0, 0x0806, "FABRIC_KHZ", .u32, .ro, 0, false, false⟩,
  ⟨0, 0x0807, "FABRIC_MHZ_CEILING", .u16, .rw, 3, false, false⟩,
  ⟨0, 0x0808, "CLOCK_ROOTS", .blob, .ro, 0, false, false⟩,
  ⟨0, 0x0810, "PTP_PORT", .u8, .rw, 3, false, false⟩,
  ⟨0, 0x0811, "TIME_STATE", .u8, .ro, 0, false, false⟩,
  ⟨0, 0x0812, "PTP_OFFSET_NS", .i32, .ro, 0, false, false⟩,
  ⟨0, 0x0813, "PTP_RATE_PPB", .i32, .ro, 0, false, false⟩,
  ⟨0, 0x0814, "TIME_STEPS", .u64, .ro, 0, false, false⟩,
  ⟨0, 0x0815, "TAI_UTC_OFFSET", .i32, .ro, 0, false, false⟩,
  ⟨0, 0x0816, "GM_IDENTITY", .blob, .ro, 0, false, false⟩,
  ⟨0, 0x0820, "MARK_INTERVAL_MS", .u32, .rw, 2, false, false⟩,
  ⟨0, 0x0821, "SAMPLE_MARK", .u32, .cmd, 2, false, false⟩,
  ⟨0, 0x0822, "MARK_LAST", .time64, .ro, 0, false, false⟩,
  ⟨0, 0x0823, "MARKS_INCOMPLETE", .u64, .ro, 0, false, false⟩,
  ⟨0, 0x0C00, "BOOT_BANK", .u8, .ro, 0, false, false⟩,
  ⟨0, 0x0C01, "NEXT_BOOT_BANK", .u8, .rw, 3, true, false⟩]
def objRows0p2 : List ObjRow := [
  ⟨0, 0x0C02, "FW_BANKS", .blob, .ro, 0, false, false⟩,
  ⟨0, 0x0C03, "FW_FALLBACKS", .u64, .ro, 0, false, false⟩,
  ⟨0, 0x0C04, "FW_UPDATE_OPEN", .u32, .cmd, 3, false, false⟩,
  ⟨0, 0x0C05, "FW_UPDATE_DATA", .blob, .wo, 3, false, false⟩,
  ⟨0, 0x0C06, "FW_UPDATE_COMMIT", .u8, .cmd, 3, false, false⟩,
  ⟨0, 0x0C07, "FW_UPDATE_RESULT", .u8, .ro, 0, false, false⟩,
  ⟨0, 0x0C08, "START_PHASE", .u8, .ro, 0, false, false⟩,
  ⟨0, 0x0C09, "START_MS", .u32, .ro, 0, false, false⟩,
  ⟨0, 0x0C0A, "BCAST_ROUNDS", .u8, .ro, 0, false, false⟩,
  ⟨0, 0x0C0B, "BCAST_UNICASTS", .u32, .ro, 0, false, false⟩,
  ⟨0, 0x0C0C, "CLUSTER_FW_VERSION", .u32, .ro, 0, false, false⟩,
  ⟨0, 0x0C0D, "FIELDS_QUARANTINED", .blob, .ro, 0, false, false⟩,
  ⟨0, 0x0D00, "REGIONS_SERVING", .u8, .ro, 0, false, false⟩,
  ⟨0, 0x0D01, "SERVING_MASK", .u16, .ro, 0, false, false⟩,
  ⟨0, 0x0D02, "UNAVAIL_NS", .u64, .ro, 0, false, false⟩,
  ⟨0, 0x0D03, "EXCLUDED_NS", .u64, .ro, 0, false, false⟩,
  ⟨0, 0x0D04, "AVAIL_SINCE", .time64, .ro, 0, false, false⟩,
  ⟨0, 0x0D05, "AVAIL_CLEAR", .u8, .cmd, 3, false, false⟩,
  ⟨0, 0x0D06, "AVAILABILITY", .f32, .ro, 0, false, false⟩,
  ⟨0, 0x0D10, "FAULT_SEQ", .u32, .ro, 0, false, false⟩,
  ⟨0, 0x0D11, "FAULT_RECORDS", .blob, .ro, 0, false, false⟩,
  ⟨0, 0x0D12, "FAULT_RECORDS_LOST", .u64, .ro, 0, false, false⟩,
  ⟨0, 0x0D13, "WS_PRIMARY", .u8, .ro, 0, false, false⟩,
  ⟨0, 0x0D14, "WS_FAILOVERS", .u32, .ro, 0, false, false⟩,
  ⟨0, 0x0E00, "SLOT_ID", .u32, .ro, 0, false, false⟩,
  ⟨0, 0x0E01, "SLOT_CHANGED", .bool, .ro, 0, false, false⟩,
  ⟨0, 0x0E02, "SLOT_ACCEPT", .u8, .cmd, 4, false, false⟩,
  ⟨0, 0x0F00, "INTERLOCK_CLOSED", .bool, .ro, 0, false, false⟩,
  ⟨0, 0x0F01, "SHED_INPUT", .bool, .ro, 0, false, false⟩,
  ⟨0, 0x0F02, "SHED_EVENTS", .u64, .ro, 0, false, false⟩]
def objRows0p3 : List ObjRow := [
  ⟨0, 0x0F03, "SLOT_READ", .u8, .ro, 0, false, false⟩,
  ⟨0, 0x0F04, "ALERT_OUT", .bool, .ro, 0, false, false⟩,
  ⟨0, 0x0F05, "AIR_TEMP_C", .f32, .ro, 0, false, false⟩]
/-- The objects of scope 0. -/
def objRows0 : List ObjRow := objRows0p0 ++ objRows0p1 ++ objRows0p2 ++ objRows0p3

def objRows1p0 : List ObjRow := [
  ⟨1, 0x0100, "REGION_STATE", .u8, .ro, 0, false, false⟩,
  ⟨1, 0x0101, "REGION_PARTITION", .u8, .ro, 0, false, false⟩]
/-- The objects of scope 1. -/
def objRows1 : List ObjRow := objRows1p0

def objRows2p0 : List ObjRow := [
  ⟨2, 0x0100, "DEFECT_MAP", .blob, .ro, 0, false, false⟩,
  ⟨2, 0x0101, "DEFECT_MAP_GENERATION", .u64, .ro, 0, false, false⟩,
  ⟨2, 0x0102, "ABSENT_CLUSTERS", .u16, .ro, 0, false, false⟩,
  ⟨2, 0x0103, "FIELD_STATE", .u8, .ro, 0, false, false⟩,
  ⟨2, 0x0200, "TILES_MULTIPLIED", .u64, .ro, 0, false, false⟩,
  ⟨2, 0x0201, "TILES_FLAGGED", .u64, .ro, 0, false, false⟩,
  ⟨2, 0x0202, "TILES_REKINDLED", .u64, .ro, 0, false, false⟩,
  ⟨2, 0x0203, "RK_OVER_BUDGET", .u64, .ro, 0, false, false⟩,
  ⟨2, 0x0204, "RK_INELIGIBLE", .u64, .ro, 0, false, false⟩,
  ⟨2, 0x0205, "RK_FALLBACK", .u64, .ro, 0, false, false⟩,
  ⟨2, 0x0206, "RK_CYCLES", .u64, .ro, 0, false, false⟩,
  ⟨2, 0x0207, "ACC_OVERFLOWS", .u64, .ro, 0, false, false⟩,
  ⟨2, 0x0300, "FIRINGS", .u64, .ro, 0, false, false⟩,
  ⟨2, 0x0301, "AWAKE_CYCLES", .u64, .ro, 0, false, false⟩,
  ⟨2, 0x0302, "SMOULDER_TICKS", .u64, .ro, 0, false, false⟩,
  ⟨2, 0x0303, "KINDLES", .u64, .ro, 0, false, false⟩,
  ⟨2, 0x0304, "KINDLE_WAIT_CYCLES", .u64, .ro, 0, false, false⟩,
  ⟨2, 0x0305, "STATION_FAULTS", .u64, .ro, 0, false, false⟩,
  ⟨2, 0x0306, "UNCORRECTABLE_FAULTS", .u64, .ro, 0, false, false⟩,
  ⟨2, 0x0307, "CORE_FAULTS", .u64, .ro, 0, false, false⟩,
  ⟨2, 0x0308, "CSTORE_CORRECTED", .u64, .ro, 0, false, false⟩,
  ⟨2, 0x0309, "PMEM_CORRECTED", .u64, .ro, 0, false, false⟩,
  ⟨2, 0x0400, "SLOT_MISSES", .u64, .ro, 0, false, false⟩,
  ⟨2, 0x0401, "RETRY_DEPARTURES", .u64, .ro, 0, false, false⟩,
  ⟨2, 0x0402, "MERGE_CONFLICTS", .u64, .ro, 0, false, false⟩,
  ⟨2, 0x0403, "NULL_BEATS", .u64, .ro, 0, false, false⟩,
  ⟨2, 0x0500, "LANE_CORRECTED", .u64, .ro, 0, false, false⟩,
  ⟨2, 0x0501, "LANE_UNCORRECTABLE", .u64, .ro, 0, false, false⟩,
  ⟨2, 0x0502, "ROUTE_MISMATCHES", .u64, .ro, 0, false, false⟩,
  ⟨2, 0x0503, "SEQ_FAULTS", .u64, .ro, 0, false, false⟩]
def objRows2p1 : List ObjRow := [
  ⟨2, 0x0504, "DROPPED_BEATS", .u64, .ro, 0, false, false⟩,
  ⟨2, 0x0505, "ADVISORY_LOST", .u64, .ro, 0, false, false⟩,
  ⟨2, 0x0506, "STITCH_RETRAINS", .u64, .ro, 0, false, false⟩,
  ⟨2, 0x0507, "STITCH_LANE_REPAIRS", .u64, .ro, 0, false, false⟩,
  ⟨2, 0x0508, "STITCH_MARGIN_MIN", .u8, .rc, 0, false, false⟩,
  ⟨2, 0x0509, "STITCH_RETRAIN", .u16, .cmd, 3, false, false⟩,
  ⟨2, 0x0600, "MP_FLITS_OUT", .u64, .ro, 0, false, false⟩,
  ⟨2, 0x0601, "MP_STALL_CYCLES", .u64, .ro, 0, false, false⟩,
  ⟨2, 0x0602, "MP_REPLAYS", .u64, .ro, 0, false, false⟩,
  ⟨2, 0x0603, "MP_CRC_ERRORS", .u64, .ro, 0, false, false⟩,
  ⟨2, 0x0604, "MP_DETOURS", .u64, .ro, 0, false, false⟩,
  ⟨2, 0x0605, "MP_UNREACHABLE", .u64, .ro, 0, false, false⟩,
  ⟨2, 0x0606, "MP_TIMEOUTS", .u64, .ro, 0, false, false⟩,
  ⟨2, 0x0607, "MP_LINKS_DOWN", .u16, .ro, 0, false, false⟩,
  ⟨2, 0x0608, "MP_INBOX_OVERSIZE", .u64, .ro, 0, false, false⟩,
  ⟨2, 0x0700, "DRAM_READ_BYTES", .u64, .ro, 0, false, false⟩,
  ⟨2, 0x0701, "DRAM_WRITE_BYTES", .u64, .ro, 0, false, false⟩,
  ⟨2, 0x0702, "DRAM_ATOMICS", .u64, .ro, 0, false, false⟩,
  ⟨2, 0x0703, "DRAM_RMW_WRITES", .u64, .ro, 0, false, false⟩,
  ⟨2, 0x0704, "DRAM_CORRECTED", .u64, .ro, 0, false, false⟩,
  ⟨2, 0x0705, "DRAM_UNCORRECTABLE", .u64, .ro, 0, false, false⟩,
  ⟨2, 0x0706, "DRAM_UE_LAST", .blob, .ro, 0, false, false⟩,
  ⟨2, 0x0707, "DRAM_REFRESH_2X", .bool, .ro, 0, false, false⟩,
  ⟨2, 0x0708, "DRAM_CHANNELS_READY", .u32, .ro, 0, false, false⟩,
  ⟨2, 0x0800, "CLK_STATUS", .u32, .ro, 0, false, false⟩,
  ⟨2, 0x0801, "CLK_DEPTH", .u8, .ro, 0, false, false⟩,
  ⟨2, 0x0802, "FREQ_MEASURE", .u32, .cmd, 2, false, false⟩,
  ⟨2, 0x0803, "FREQ_GATE", .u32, .rw, 2, false, false⟩,
  ⟨2, 0x0804, "FREQ_RESULT", .u64, .ro, 0, false, false⟩,
  ⟨2, 0x0805, "CLOCK_SLIPS", .u64, .ro, 0, false, false⟩]
def objRows2p2 : List ObjRow := [
  ⟨2, 0x0C00, "START_RESULT", .u8, .ro, 0, false, false⟩,
  ⟨2, 0x0C01, "SOFT_FUSES", .blob, .ro, 0, false, false⟩]
/-- The objects of scope 2. -/
def objRows2 : List ObjRow := objRows2p0 ++ objRows2p1 ++ objRows2p2

def objRows3p0 : List ObjRow := [
  ⟨3, 0x0100, "CLUSTER_STATE", .u8, .ro, 0, false, false⟩,
  ⟨3, 0x0300, "LAST_FAULT", .blob, .ro, 0, false, false⟩,
  ⟨3, 0x0500, "COMBINE_ROUNDS", .u64, .ro, 0, false, false⟩,
  ⟨3, 0x0501, "SOOT_LOST", .u64, .ro, 0, false, false⟩,
  ⟨3, 0x0600, "MP_PORT_COUNTS", .blob, .ro, 0, false, false⟩,
  ⟨3, 0x0700, "CACHE_HITS", .u64, .ro, 0, false, false⟩,
  ⟨3, 0x0701, "CACHE_MISSES", .u64, .ro, 0, false, false⟩,
  ⟨3, 0x0702, "FILLS_SUPPRESSED", .u64, .ro, 0, false, false⟩,
  ⟨3, 0x0703, "ACQUIRES", .u64, .ro, 0, false, false⟩,
  ⟨3, 0x0704, "CACHE_WAYS", .u8, .ro, 0, false, false⟩,
  ⟨3, 0x0C00, "LOADER_STATUS", .u32, .ro, 0, false, false⟩,
  ⟨3, 0x0D00, "CLUSTER_RESET", .u8, .cmd, 3, false, false⟩]
/-- The objects of scope 3. -/
def objRows3 : List ObjRow := objRows3p0

def objRows4p0 : List ObjRow := [
  ⟨4, 0x0600, "ATTACH_FLITS_IN", .u64, .ro, 0, false, false⟩,
  ⟨4, 0x0601, "ATTACH_FLITS_OUT", .u64, .ro, 0, false, false⟩,
  ⟨4, 0x0602, "ATTACH_STALL_CYCLES", .u64, .ro, 0, false, false⟩,
  ⟨4, 0x0603, "ATTACH_DEPTH_PEAK", .u8, .rc, 0, false, false⟩,
  ⟨4, 0x0604, "ATTACH_LINKS_UP", .u8, .ro, 0, false, false⟩,
  ⟨4, 0x0900, "POOL_BASE", .u64, .rw, 2, false, false⟩,
  ⟨4, 0x0901, "POOL_ENTRIES", .u32, .rw, 2, false, false⟩,
  ⟨4, 0x0902, "POOL_FREE", .u32, .ro, 0, false, false⟩,
  ⟨4, 0x0903, "PAGE_STARVED", .u64, .ro, 0, false, false⟩,
  ⟨4, 0x0904, "STREAMS_OPEN", .u16, .ro, 0, false, false⟩,
  ⟨4, 0x0905, "OPENS_REFUSED", .u64, .ro, 0, false, false⟩,
  ⟨4, 0x0A00, "PORT_MODE", .u8, .rw, 3, false, false⟩,
  ⟨4, 0x0A01, "PORT_STATE", .u8, .ro, 0, false, false⟩,
  ⟨4, 0x0A02, "PORT_RATE", .u16, .ro, 0, false, false⟩,
  ⟨4, 0x0A03, "PORT_CONFIG", .u8, .ro, 0, false, false⟩,
  ⟨4, 0x0A04, "LANES_UP", .u8, .ro, 0, false, false⟩,
  ⟨4, 0x0A05, "PORT_MAC", .blob, .ro, 0, false, false⟩,
  ⟨4, 0x0A06, "PORT_IPV4", .u32, .rw, 3, false, false⟩,
  ⟨4, 0x0A07, "PORT_IPV6", .blob, .rw, 3, false, false⟩,
  ⟨4, 0x0A08, "HWT_DSCP", .u8, .rw, 2, false, false⟩,
  ⟨4, 0x0A09, "PORT_RETRAIN", .u8, .cmd, 3, false, false⟩,
  ⟨4, 0x0A0A, "PORT_TRAINS", .u32, .ro, 0, false, false⟩,
  ⟨4, 0x0A0B, "FEC_CORRECTED", .u64, .ro, 0, false, false⟩,
  ⟨4, 0x0A0C, "FEC_UNCORRECTABLE", .u64, .ro, 0, false, false⟩,
  ⟨4, 0x0A0D, "PRE_FEC_BER", .f32, .ro, 0, false, false⟩,
  ⟨4, 0x0A0E, "FRAMES_RX", .u64, .ro, 0, false, false⟩,
  ⟨4, 0x0A0F, "FRAMES_TX", .u64, .ro, 0, false, false⟩,
  ⟨4, 0x0A10, "RX_DROPPED", .blob, .ro, 0, false, false⟩,
  ⟨4, 0x0A11, "PAUSE_IGNORED", .u64, .ro, 0, false, false⟩,
  ⟨4, 0x0A12, "REPORT_ASSOC", .u8, .rw, 2, false, false⟩]
def objRows4p1 : List ObjRow := [
  ⟨4, 0x0A13, "HWT_SEGS_TX", .u64, .ro, 0, false, false⟩,
  ⟨4, 0x0A14, "HWT_SEGS_RX", .u64, .ro, 0, false, false⟩,
  ⟨4, 0x0A15, "HWT_RESENDS", .u64, .ro, 0, false, false⟩,
  ⟨4, 0x0A16, "HWT_DISCARDS", .u64, .ro, 0, false, false⟩,
  ⟨4, 0x0A17, "HWT_CE_RECEIVED", .u64, .ro, 0, false, false⟩,
  ⟨4, 0x0A18, "HWT_NACKS_SENT", .u64, .ro, 0, false, false⟩,
  ⟨4, 0x0A19, "HWT_NACKS_RECEIVED", .u64, .ro, 0, false, false⟩,
  ⟨4, 0x0A1A, "HWT_RING_WAITS", .u64, .ro, 0, false, false⟩,
  ⟨4, 0x0A1B, "HWT_ASSOC_DOWNS", .u64, .ro, 0, false, false⟩,
  ⟨4, 0x0A20, "PTP_ENABLE", .bool, .rw, 3, false, false⟩,
  ⟨4, 0x0A21, "PTP_DOMAIN", .u8, .rw, 3, false, false⟩,
  ⟨4, 0x0A22, "PTP_TRANSPORT", .u8, .rw, 3, false, false⟩,
  ⟨4, 0x0A30, "RTO_MIN_US", .u16, .rw, 2, false, false⟩,
  ⟨4, 0x0A31, "RATE_MIN", .u16, .rw, 2, false, false⟩,
  ⟨4, 0x0A32, "RATE_STEP", .u16, .rw, 2, false, false⟩]
/-- The objects of scope 4. -/
def objRows4 : List ObjRow := objRows4p0 ++ objRows4p1

def objRows5p0 : List ObjRow := [
  ⟨5, 0x0900, "STREAM_ENTRY", .blob, .ro, 0, false, false⟩,
  ⟨5, 0x0901, "STREAM_STATE", .u8, .ro, 0, false, false⟩,
  ⟨5, 0x0902, "STREAM_CLOSE", .u8, .cmd, 2, false, false⟩]
/-- The objects of scope 5. -/
def objRows5 : List ObjRow := objRows5p0

def objRows6p0 : List ObjRow := [
  ⟨6, 0x0100, "PARTITION_REGIONS", .u16, .ro, 0, false, false⟩,
  ⟨6, 0x0200, "MORDANT_COMMITS", .u64, .ro, 0, false, false⟩,
  ⟨6, 0x0201, "MORDANT_DISCARDS", .u64, .ro, 0, false, false⟩,
  ⟨6, 0x0202, "MORDANT_LAST_NS", .u32, .ro, 0, false, false⟩,
  ⟨6, 0x0203, "MORDANT_DEAD_CORES", .u32, .ro, 0, false, false⟩,
  ⟨6, 0x0300, "GRAPH_STATE", .u8, .ro, 0, false, false⟩,
  ⟨6, 0x0301, "GRAPH_ID", .u64, .ro, 0, false, false⟩,
  ⟨6, 0x0302, "GRAPH_LOAD", .u64, .cmd, 2, false, false⟩,
  ⟨6, 0x0303, "GRAPH_UNLOAD", .u8, .cmd, 2, false, false⟩,
  ⟨6, 0x0304, "LOAD_RESULT", .u8, .ro, 0, false, false⟩,
  ⟨6, 0x0305, "LOAD_DETAIL", .blob, .ro, 0, false, false⟩,
  ⟨6, 0x0306, "ALTERNATES_ACTIVE", .u16, .ro, 0, false, false⟩,
  ⟨6, 0x0307, "LAST_SLOT_MISS", .u32, .ro, 0, false, false⟩,
  ⟨6, 0x0500, "STITCH_DROPS", .u32, .ro, 0, false, false⟩,
  ⟨6, 0x0501, "FRAME_LEN", .u32, .ro, 0, false, false⟩,
  ⟨6, 0x0502, "TURNS", .u16, .ro, 0, false, false⟩,
  ⟨6, 0x0900, "PERIOD_NS", .u32, .rw, 2, false, false⟩,
  ⟨6, 0x0901, "BOUNDARY_NS", .u32, .rw, 2, false, false⟩,
  ⟨6, 0x0902, "BATCH_ROWS", .u32, .rw, 2, false, false⟩,
  ⟨6, 0x0903, "ATTN_BUDGET", .u64, .rw, 2, false, false⟩,
  ⟨6, 0x0904, "PREFILL_CHUNK_MAX", .u16, .rw, 2, false, false⟩,
  ⟨6, 0x0905, "DONE_TARGET", .u32, .rw, 2, false, false⟩,
  ⟨6, 0x0906, "BATCH_TABLE", .u64, .rw, 2, false, false⟩,
  ⟨6, 0x0907, "PAGE_TOKENS", .u16, .rw, 2, false, false⟩,
  ⟨6, 0x0908, "KV_TOKEN_BYTES", .u32, .rw, 2, false, false⟩,
  ⟨6, 0x0909, "ATTN_SCALE", .u32, .rw, 2, false, false⟩,
  ⟨6, 0x090A, "CLASS0_MAX", .u32, .rw, 3, false, false⟩,
  ⟨6, 0x090B, "CLASS0_CTX_MAX", .u32, .rw, 3, false, false⟩,
  ⟨6, 0x090C, "DROP_LIMIT", .u16, .rw, 2, false, false⟩,
  ⟨6, 0x090D, "PERIOD_NO", .u64, .ro, 0, false, false⟩]
def objRows6p1 : List ObjRow := [
  ⟨6, 0x090E, "PERIODS_COMMITTED", .u64, .ro, 0, false, false⟩,
  ⟨6, 0x090F, "DROP_CAUSES", .blob, .ro, 0, false, false⟩,
  ⟨6, 0x0910, "PERIODS_IDLE", .u64, .ro, 0, false, false⟩,
  ⟨6, 0x0911, "LAST_COMMIT_NS", .u32, .ro, 0, false, false⟩,
  ⟨6, 0x0912, "ROWS_LAST", .u32, .ro, 0, false, false⟩,
  ⟨6, 0x0913, "ENERGY_NJ", .u64, .ro, 0, false, false⟩,
  ⟨6, 0x0914, "UNATTRIBUTED_NJ", .u64, .ro, 0, false, false⟩,
  ⟨6, 0x0915, "ENERGY_COEF_NJ", .u64, .ro, 0, false, false⟩,
  ⟨6, 0x0916, "STREAMS_OPEN", .u32, .ro, 0, false, false⟩,
  ⟨6, 0x0917, "UNATTRIBUTED_COEF_NJ", .u64, .ro, 0, false, false⟩,
  ⟨6, 0x0D00, "PARTITION_RESET", .u8, .cmd, 2, false, false⟩,
  ⟨6, 0x0D01, "PARTITION_STATE", .u8, .ro, 0, false, false⟩,
  ⟨6, 0x0D02, "PARTITION_FAULTS", .u32, .ro, 0, false, false⟩,
  ⟨6, 0x0D03, "DEAD_CORES", .u32, .ro, 0, false, false⟩]
/-- The objects of scope 6. -/
def objRows6 : List ObjRow := objRows6p0 ++ objRows6p1

def objRows7p0 : List ObjRow := [
  ⟨7, 0x0000, "CRED_KEY", .blob, .wo, 4, true, true⟩,
  ⟨7, 0x0001, "CRED_ROLE", .u8, .rw, 4, true, false⟩,
  ⟨7, 0x0002, "CRED_NAME", .str, .rw, 4, true, false⟩,
  ⟨7, 0x0003, "CRED_LAST_USED", .time64, .ro, 0, false, false⟩,
  ⟨7, 0x0C00, "LICENCE_INSTALL", .blob, .cmd, 3, false, false⟩,
  ⟨7, 0x0C01, "LICENCE_RESULT", .u8, .ro, 0, false, false⟩,
  ⟨7, 0x0C02, "LICENCE_LIST", .blob, .ro, 0, false, false⟩,
  ⟨7, 0x0C03, "LICENCE_REMOVE", .u64, .cmd, 4, false, false⟩,
  ⟨7, 0x0C04, "FEATURES", .u8, .ro, 0, false, false⟩,
  ⟨7, 0x0C05, "STREAM_TIER", .u32, .ro, 0, false, false⟩,
  ⟨7, 0x0C06, "LICENCES_INVALID", .u8, .ro, 0, false, false⟩,
  ⟨7, 0x0E00, "ID_CERT", .blob, .ro, 0, false, false⟩,
  ⟨7, 0x0E01, "ID_DIGEST", .blob, .ro, 0, false, false⟩,
  ⟨7, 0x0E02, "SVN_COUNTER", .u8, .ro, 0, false, false⟩,
  ⟨7, 0x0E03, "SVN_COMMIT", .u8, .cmd, 4, false, false⟩,
  ⟨7, 0x0E04, "KEYS_REVOKED", .u16, .ro, 0, false, false⟩,
  ⟨7, 0x0E05, "ATTEST_REQUEST", .blob, .cmd, 1, false, false⟩,
  ⟨7, 0x0E06, "ATTEST_STATE", .u8, .ro, 0, false, false⟩,
  ⟨7, 0x0E07, "ATTEST_REPORT", .blob, .ro, 0, false, false⟩,
  ⟨7, 0x0E08, "ATTESTS", .u64, .ro, 0, false, false⟩,
  ⟨7, 0x0E09, "DECOMMISSION", .blob, .cmd, 4, false, false⟩]
/-- The objects of scope 7. -/
def objRows7 : List ObjRow := objRows7p0

def objRows8p0 : List ObjRow := [
  ⟨8, 0x0B00, "INPUT_POWER_W", .f32, .ro, 0, false, false⟩,
  ⟨8, 0x0B01, "INPUT_NJ", .u64, .ro, 0, false, false⟩,
  ⟨8, 0x0B02, "RAIL_NJ", .blob, .ro, 0, false, false⟩,
  ⟨8, 0x0B03, "FUSE_STATE", .u8, .ro, 0, false, false⟩,
  ⟨8, 0x0B04, "FUSE_CAUSE", .u8, .ro, 0, false, false⟩,
  ⟨8, 0x0B05, "BULK_RESERVE_PCT", .u8, .ro, 0, false, false⟩,
  ⟨8, 0x0B06, "WEAR_S", .u64, .ro, 0, true, false⟩,
  ⟨8, 0x0B07, "STACK_MAX_C", .u8, .ro, 0, false, false⟩,
  ⟨8, 0x0B08, "JUNCTION_MAX_C", .u8, .ro, 0, false, false⟩,
  ⟨8, 0x0B09, "THERMAL_FLAGS", .u8, .ro, 0, false, false⟩,
  ⟨8, 0x0B0A, "AWAKE_CEILING", .u16, .ro, 0, false, false⟩,
  ⟨8, 0x0B0B, "BALLAST_NJ", .u64, .ro, 0, false, false⟩,
  ⟨8, 0x0B0C, "COEF_NJ", .u64, .ro, 0, false, false⟩,
  ⟨8, 0x0B10, "LEASE_GRANT", .blob, .cmd, 3, false, false⟩,
  ⟨8, 0x0B11, "LEASE_STATE", .blob, .ro, 0, false, false⟩,
  ⟨8, 0x0B12, "LEASE_EXPIRIES", .u64, .ro, 0, false, false⟩,
  ⟨8, 0x0B13, "POWER_CAP_W", .u32, .ro, 0, false, false⟩,
  ⟨8, 0x0B14, "CAP_REASON", .u8, .ro, 0, false, false⟩,
  ⟨8, 0x0B15, "POWER_CEILING_W", .u32, .rw, 3, true, false⟩,
  ⟨8, 0x0B16, "BOOST_STATE", .u8, .ro, 0, false, false⟩,
  ⟨8, 0x0B17, "BOOSTS", .u64, .ro, 0, false, false⟩,
  ⟨8, 0x0B18, "BOOST_END_CAUSES", .blob, .ro, 0, false, false⟩,
  ⟨8, 0x0B19, "BOOST_CEILING_W", .u32, .ro, 0, false, false⟩,
  ⟨8, 0x0B1A, "FEED_V", .blob, .ro, 0, false, false⟩,
  ⟨8, 0x0B1B, "FEEDS_OK", .u8, .ro, 0, false, false⟩,
  ⟨8, 0x0B1C, "FLASH_INHIBIT", .bool, .ro, 0, false, false⟩,
  ⟨8, 0x0B1D, "COOLANT", .blob, .ro, 0, false, false⟩,
  ⟨8, 0x0B1E, "COOLANT_TERM_W", .u32, .ro, 0, false, false⟩,
  ⟨8, 0x0B20, "COEF_TABLE", .blob, .rw, 3, true, false⟩,
  ⟨8, 0x0B02, "AUX_V", .f32, .ro, 0, false, false⟩]
/-- The objects of scope 8. -/
def objRows8 : List ObjRow := objRows8p0

/-- The objects of a scope. -/
def objRows (scope : Nat) : List ObjRow :=
  match scope with
  | 0 => objRows0
  | 1 => objRows1
  | 2 => objRows2
  | 3 => objRows3
  | 4 => objRows4
  | 5 => objRows5
  | 6 => objRows6
  | 7 => objRows7
  | 8 => objRows8
  | _ => []

/-- The row of an object. -/
def objRow (scope num : Nat) : Option ObjRow := (objRows scope).find? (fun r => r.num = num)

/-- Defaults of numeric objects that are not zero, by scope * 65,536 + object number. -/
def numDefaults : SMap Nat :=
  [(0, 1), (17, 300), (1536, 8), (1537, 7), (1538, 1000)] ++
    [(1792, 24), (2048, 255), (2049, 255), (2050, 10), (2054, 600000)] ++
    [(2055, 2400), (2064, 255), (2080, 1000), (3334, 1065353216), (3347, 41)] ++
    [(132360, 48), (133120, 2154823680), (133121, 255), (133123, 156250), (264738, 1)] ++
    [(264752, 100), (264753, 1000), (264754, 500), (393988, 255), (395520, 25000000)] ++
    [(395521, 100000), (395524, 64), (395527, 256), (395529, 4096), (395532, 16)] ++
    [(461825, 255), (461829, 6144), (527114, 21504), (527123, 18000), (527124, 1)] ++
    [(527125, 32000), (527129, 32000), (527134, 32000)]

/-- The default of a numeric object: `CRED_ROLE` of credential 1 is custodian. -/
def numDefault (key : Nat) : Nat :=
  if key = okey 7 1 1 then 4 else numDefaults.get 0 (key / 2 ^ 32 * 65536 + key % 65536)

/-- The default coefficient table: sixteen FP32 words (R625). -/
def coefDefaults : List Byte :=
  [0x4428C000, 0x4619999A, 0x46CCCCCD, 0x46EA6000, 0x40000000, 0x41400000, 0x41866666, 0x41900000,
    0x42200000, 0x43960000, 0x3F5BA5E3, 0x00000000, 0x00000000, 0x00000000, 0x00000000, 0x00000000].flatMap (leBytes 4)

/-- Defaults of byte-string objects that are not empty. -/
def blobDefaults : SMap (List Byte) :=
  [(1, [0x48#8, 0x4D#8, 0x2D#8, 0x4C#8, 0x56#8, 0x57#8, 0x38#8, 0x34#8]), (21, List.replicate 256 0#8), (33, List.replicate 16 0#8)] ++
    [(35, List.replicate 16 0#8), (51, List.replicate 16 0#8), (2056, 0x29#8 :: List.replicate 11 0xFF#8)] ++
    [(2070, List.replicate 8 0#8), (3074, List.replicate 32 0#8), (3085, List.replicate 11 0#8)] ++
    [(198144, List.replicate 320 0#8), (264711, List.replicate 16 0#8), (264720, List.replicate 64 0#8)] ++
    [(393989, List.replicate 24 0#8), (395535, List.replicate 128 0#8), (527106, List.replicate 40 0#8)] ++
    [(527121, List.replicate 20 0#8), (527128, List.replicate 56 0#8), (527130, List.replicate 8 0#8)] ++
    [(527133, List.replicate 12 0#8), (527136, coefDefaults)]

/-- The default of a byte-string object. -/
def blobDefault (key : Nat) : List Byte := blobDefaults.get [] (key / 2 ^ 32 * 65536 + key % 65536)

/-! ### Values -/

/-- The value of a numeric object (two's complement for a signed one, the bits of an F32). -/
def State.num (s : State) (key : Nat) : Nat := s.dict.nums.get (numDefault key) key
def State.setNum (s : State) (key v : Nat) : State :=
  { s with dict := { s.dict with nums := s.dict.nums.put key v } }
/-- A 64-bit count object grows; it wraps. -/
def State.addNum (s : State) (key n : Nat) : State := s.setNum key ((s.num key + n) % 2 ^ 64)
/-- The value of a byte-string object. -/
def State.blob (s : State) (key : Nat) : List Byte := s.dict.blobs.get (blobDefault key) key
def State.setBlob (s : State) (key : Nat) (v : List Byte) : State :=
  { s with dict := { s.dict with blobs := s.dict.blobs.put key v } }

/-! ### Partitions (R45, R46) -/

/-- The partition of region `r` under a split: its westmost region. -/
def partOf (split : Nat) : Nat → Nat
  | 0 => 0
  | r + 1 => if split.testBit r then r + 1 else partOf split r

/-- The partition a region is in. -/
def State.partOfRegion (s : State) (r : Nat) : Nat := partOf (s.num o0PartitionSplit % 2048) r
/-- Whether `p` is the id of a current partition. -/
def State.isPart (s : State) (p : Nat) : Bool := p < 12 && s.partOfRegion p = p
/-- The regions of a partition, west to east. -/
def State.partRegions (s : State) (p : Nat) : List Nat := (List.range 12).filter (fun r => s.partOfRegion r = p)
/-- The fields of a partition in ascending id (R369). -/
def State.partFields (s : State) (p : Nat) : List Nat :=
  (List.range 84).filter (fun f => s.partOfRegion (f % 12) = p)

end Sys2Proof.Machine
end

