-- ==== Sys2Proof/Machine/Ops.lean ====
section
/-! DEFINITION. The shared operations over the state: access to units, core registers and core
store, counters and events, raising a fault (R209), and the frame around every instruction (R183 to
R185). -/

namespace Sys2Proof.Machine

/-! ### Units -/

/-- The seed of a core's generator that nothing has touched since its last reset: 1 after module reset
(DESIGN CHOICE), and a free value after a reset of its region's cores (R86). -/
def State.seedFor (s : State) (c : Nat) : Long :=
  let b := (s.regions.get RegionSt.reset (c / 32 / 96 % 12)).seedAt
  if b = 0 then 1 else seedOf (Config.freeLong (b + c))
/-- A core that nothing has touched since its last reset. -/
def State.freshCore (s : State) (c : Nat) : Core :=
  let x := s.regions.get RegionSt.reset (c / 32 / 96 % 12)
  { Core.resetWith (s.seedFor c) with since := x.sinceAt, sinceNs := x.sinceNsAt }
def State.core (s : State) (c : Nat) : Core := s.cores.get (s.freshCore c) c
def State.setCore (s : State) (c : Nat) (k : Core) : State := { s with cores := s.cores.put c k }
def State.mpSeedFor (s : State) (k : Nat) : Word :=
  let b := (s.regions.get RegionSt.reset (k / 96 % 12)).mpSeedAt
  let w := BitVec.ofNat 32 (Config.freeLong (b + 260000 + k)).toNat
  if b = 0 ∨ w = 0 then 1 else w
def State.cluster (s : State) (k : Nat) : Cluster := s.clusters.get (Cluster.resetWith (s.mpSeedFor k)) k
def State.setCluster (s : State) (k : Nat) (x : Cluster) : State := { s with clusters := s.clusters.put k x }

/-- Bytes of the module certificate as manufacture wrote them (R705), and the MAC addresses in it (R517, R706). -/
def identityBytes (a n : Nat) : List Byte := (List.range n).map (fun j => Config.identity (a + j))
def mgtMac (b : Bool) : Nat := ofBe (identityBytes (if b then 0x50E else 0x508) 6)
def portMacOf (n : Nat) : Nat := (ofBe (identityBytes 0x514 6) + n) % 2 ^ 48

/-- The cluster of a core, its index in the cluster, and the field of a cluster (R20). -/
def clusterOf (c : Nat) : Nat := c / 32
def coreIdx (c : Nat) : Nat := c % 32
def fieldOf (k : Nat) : Nat := k / 96

/-- Wafer cluster coordinates (R20). -/
def clusterX (k : Nat) : Nat := (k / 96 % 12) * 12 + k % 96 % 12
def clusterY (k : Nat) : Nat := (k / 96 / 12) * 8 + k % 96 / 12

/-- The cluster at wafer coordinates (R20). -/
def clusterAt (x y : Nat) : Nat := ((y / 8) * 12 + x / 12) * 96 + (y % 8) * 12 + x % 12

/-- The region of a field and of a cluster: its column (R20). -/
def regionOfField (f : Nat) : Nat := f % 12
def regionOfCluster (k : Nat) : Nat := regionOfField (fieldOf k)
/-- The region of a core. -/
def coreRegion (c : Nat) : Nat := regionOfCluster (clusterOf c)

/-- A command on a core: a fault where no such core exists. -/
def onCore (c : Nat) (s : State) (f : State → State) : Out :=
  if c < 258048 then .next (f s) else .fault .noSuchUnit

/-- A command on a cluster. -/
def onCluster (k : Nat) (s : State) (f : State → State) : Out :=
  if k < 8064 then .next (f s) else .fault .noSuchUnit

/-- A command on a field. -/
def onField (f : Nat) (s : State) (g : State → State) : Out :=
  if f < 84 then .next (g s) else .fault .noSuchUnit

/-- A command on a region. -/
def onRegion (r : Nat) (s : State) (g : State → State) : Out :=
  if r < 12 then .next (g s) else .fault .noSuchUnit

/-- A command on a DRAM channel of a field. -/
def onChan (f ch : Nat) (s : State) (g : State → State) : Out :=
  if f < 84 ∧ ch < 24 then .next (g s) else .fault .noSuchUnit

/-- A command on an Ethernet port. -/
def onPort (n : Nat) (s : State) (g : State → State) : Out :=
  if n < 24 then .next (g s) else .fault .noSuchUnit

/-- The counts of the units that `sel` names begin anew: their next latch counts from zero (R454, R584). -/
def State.countsAnew (s : State) (sel : MarkUnit → Bool) : State :=
  let mark := fun (h : Shadow) => if sel h.unit then { h with anew := true } else h
  { s with clocks := { s.clocks with shadow0 := s.clocks.shadow0.map mark, shadow1 := s.clocks.shadow1.map mark } }

/-- A command on a partition. -/
def onPart (p : Nat) (s : State) (g : State → State) : Out :=
  if p < 12 then .next (g s) else .fault .noSuchUnit

/-- Changes a core. -/
def State.modCore (s : State) (c : Nat) (f : Core → Core) : State := s.setCore c (f (s.core c))
/-- Changes a cluster. -/
def State.modCluster (s : State) (k : Nat) (f : Cluster → Cluster) : State := s.setCluster k (f (s.cluster k))

/-- A free value: the counter's number, and the state with the counter advanced. -/
def State.draw (s : State) : Nat × State := (s.free, { s with free := s.free + 1 })

def State.clk (s : State) (f : Nat) : ClkSt := s.clocks.units.get ClkSt.reset f
def State.modClk (s : State) (f : Nat) (g : ClkSt → ClkSt) : State :=
  { s with clocks := { s.clocks with units := s.clocks.units.put f (g (s.clk f)) } }

/-- Wafer time is what a command that names an instant says it is, in whole ns; its fraction is a free value (R575). -/
def State.atTime (s : State) (t : Nat) : State := { s with wt := t, wtFrac := Config.wtFraction t % 65536 }

/-- The wafer-time counter of a field, integer ns (R187 `TIME`, R576). -/
def State.localTime (s : State) (f : Nat) : Nat := ((s.wt : Int) + (s.clk f).wtOff).toNat % 2 ^ 64

def State.field (s : State) (f : Nat) : FieldSt := s.fields.get FieldSt.reset f

/-- `FIELD_STATE` of a field and the state byte of a cluster (R35). -/
def State.fieldState (s : State) (f : Nat) : Nat := s.num (o2FieldState f)
def State.clusterState (s : State) (k : Nat) : Nat := (Sparse.rd (s.field (fieldOf k)).dm.clState (k % 96)).toNat

/-- Nothing serves a core's traffic (R25, R668, R674). -/
def State.coreGone (s : State) (c : Nat) : Bool :=
  s.clusterState (clusterOf c) = 1 || (s.core c).dead || (s.core c).inReset || (s.cluster (clusterOf c)).inReset

/-- The physical index of a cluster in its field, past the bypassed unit of its column (R20, R22, R34). -/
def State.physCluster (s : State) (k : Nat) : Nat :=
  let x := k % 12
  let y := k % 96 / 12
  let b := ((s.fields.get FieldSt.reset (fieldOf k)).dm.colSpare.get 0x1000 x) / 512 % 16
  (if y < b then y else y + 1) * 12 + x

/-- The physical index of a core in its cluster (R20, R22). -/
def State.physCore (s : State) (c : Nat) : Nat :=
  let p := (s.fields.get FieldSt.reset (fieldOf (c / 32))).dm.coreByp.get (16, 16) (s.physCluster (c / 32))
  let j := c % 16
  let b := if c % 32 < 16 then p.1 else p.2
  c % 32 / 16 * 17 + (if j < b then j else j + 1)

/-- The fabric cycle count of the island that holds a region: those of different islands are unrelated (R570). -/
def State.fabricIn (s : State) (r : Nat) : Nat := ((s.fabric : Int) + s.clocks.lead.get 0 r).toNat

/-- The fabric cycle count that a field's routers show (R259). -/
def State.fabricOf (s : State) (f : Nat) : Nat :=
  ((s.fabricIn (f % 12) : Int) + (s.fields.get FieldSt.reset f).fabOff).toNat % 2 ^ 64

/-- `CORE_PLACE` (R162): field id, physical cluster index and physical core index of a logical core. -/
def State.corePlace (s : State) (c : Nat) : Nat :=
  let k := c / 32
  fieldOf k <<< 13 + s.physCluster k <<< 6 + s.physCore c

/-! ### Counts -/

/-- Adds to a 64-bit count of a core, by its configuration offset; it wraps (R163). -/
def Core.bumpCount (k : Core) (off n : Nat) : Core :=
  { k with counts := Sparse.wr k.counts off (Sparse.rd k.counts off + BitVec.ofNat 64 n) }

/-- Adds to a 64-bit count of a cluster, by its window offset; it wraps (R275, R356, R390). -/
def Cluster.bump (x : Cluster) (off n : Nat) : Cluster :=
  { x with counts := Sparse.wr x.counts off (Sparse.rd x.counts off + BitVec.ofNat 64 n) }

/-! ### Core registers -/

/-- s(k); s0 reads as zero (R157). -/
def Core.s (k : Core) (r : Nat) : Word := if r = 0 then 0 else Sparse.rd k.regs r

/-- s(k) := v; a write of s0 is discarded (R157). -/
def Core.setS (k : Core) (r : Nat) (v : Word) : Core :=
  if r = 0 then k else { k with regs := Sparse.wr k.regs r v }

/-- A register pair, the even register holding the low word (R159). -/
def Core.pair (k : Core) (r : Nat) : Long := (k.s (r + 1)) ++ (k.s r)

/-- A register pair written (R159). -/
def Core.setPair (k : Core) (r : Nat) (v : Long) : Core :=
  (k.setS r (v.setWidth 32)).setS (r + 1) ((v >>> 32).setWidth 32)

def Core.tile (k : Core) (t : Nat) : TileReg := k.tiles.get TileReg.reset t
/-- A tile register written whole (R158). The write waited until no multiply that reads the register was within its
occupancy (R107). -/
def Core.setTile (k : Core) (t : Nat) (x : TileReg) : Core :=
  { k with tiles := k.tiles.put t x, teBusy := k.teBusy.filter (fun b => b.2.1 ≠ t && b.2.2 ≠ t) }
/-- An instruction that uses accumulator `a` waited for the multiplies that write it (R107). -/
def Core.useAcc (k : Core) (a : Nat) : Core := { k with teBusy := k.teBusy.filter (fun b => b.1 ≠ a) }

/-- The 1,024 words of an accumulator, row by row. -/
def Core.accWords (k : Core) (a : Nat) : List Word := Sparse.dense (k.accs.get [] a) 0 1024
def Core.setAcc (k : Core) (a : Nat) (l : List Word) : Core :=
  { k with accs := k.accs.put a (Sparse.ofList 0 l) }

def Core.thr (k : Core) (n : Nat) : Half := k.thresh.get 1 n

/-- Word `w` of station slot `j` (R171). -/
def Core.station (k : Core) (j w : Nat) : Word := Sparse.rd k.stations (4 * j + w)

def Core.profile (k : Core) (p : Nat) : Long := k.profiles.get 0x40 p
def Core.slotAt (k : Core) (j : Nat) : ScaleSlot := k.scale.get ScaleSlot.reset j
def Core.ringAt (k : Core) (j : Nat) : RetSlot := k.ring.get RetSlot.reset j
def Core.inq (k : Core) (q : Nat) : InQ := k.inQ.get InQ.reset q
def Core.outq (k : Core) (q : Nat) : OutQ := k.outQ.get OutQ.reset q
def Core.inw (k : Core) (q : Nat) : InW := k.inW.get InW.reset q
def Core.outw (k : Core) (q : Nat) : OutW := k.outW.get OutW.reset q
def Core.inboxAt (k : Core) (b : Nat) : Inbox := k.inbox.get Inbox.reset b

/-- `RETAIN_DEPTH` and `RETAIN_BASE` (R152). -/
def Core.retainDepth (k : Core) : Nat := fld k.retainCtrl 21 6
def Core.retainBase (k : Core) : Nat := fld k.retainCtrl 11 6

def Core.run (k : Core) : Bool := nbit k.seqCtrl.toNat 0

/-! ### Raising a fault (R208 to R211) -/

/-- The class of a cause (R208): 0 station fault, 1 uncorrectable error, 2 core fault. -/
def causeClass (cause : Nat) : Nat :=
  if cause < 0x10 then 0 else if cause < 0x20 then 1 else 2

/-- The log after a fault of class `cls` (R209 step 3, R210): written when empty or of lower class. -/
def FaultLog.take (l : FaultLog) (n : FaultLog) : FaultLog × Bool :=
  if !l.valid then (n, false) else if l.cls < n.cls then (n, true) else (l, true)

/-- The core raises a fault (R209): it stops issuing, logs, counts, and sends the fault message.
`FAULTS_TOTAL` and `FAULTS_SUPPRESSED` stand at 0x290 and 0x298; the field's counts by class are kept
beyond the block at 0x10000 + class. -/
def Core.raise (k : Core) (cause detail : Nat) : Core :=
  let cls := causeClass cause
  let st := (k.station k.curStation 2).toNat
  let p := k.log.take ⟨true, cls, cause, k.curStation, k.pc, st, detail⟩
  let k1 : Core := { k with
    logPosted := k.logPosted && k.log.valid && cls ≤ k.log.cls
    restarted := false
    log := p.1, faulted := true, sent := k.sent ++ [FaultMsg.mk (.core cause) st] }
  let k2 := (k1.bumpCount 0x290 1).bumpCount (0x10000 + cls) 1
  if p.2 then k2.bumpCount 0x298 1 else k2

/-- Whether of two faults of one cycle the first is logged before the second (R210): the higher class, and within a
class the lower cause. A command is a cycle of the core it acts on (DESIGN CHOICE, log entry 214): the faults of one cycle are those that one
command raises. -/
def faultBefore (a b : Nat × Nat) : Bool :=
  causeClass b.1 < causeClass a.1 || (causeClass a.1 = causeClass b.1 && a.1 ≤ b.1)

/-- A fault among faults in that order. -/
def insertFault (x : Nat × Nat) : List (Nat × Nat) → List (Nat × Nat)
  | [] => [x]
  | y :: r => if faultBefore x y then x :: y :: r else y :: insertFault x r

/-- The core raises the faults, cause and detail, of one cycle (R210): the log takes the first of them in the order
of `faultBefore`, and the others are counted as suppressed. -/
def Core.raiseAll (k : Core) (l : List (Nat × Nat)) : Core :=
  (l.foldr insertFault []).foldl (fun k f => k.raise f.1 f.2) k

/-! ### Counters and events (R167 to R169) -/

/-- Counter n set to an exact value within 0 to 0xFFFF, else stopped at the limit with cause 0x05. -/
def Core.setCnt (k : Core) (n : Nat) (x : Int) : Core :=
  if x < 0 then ({ k with cnt := Sparse.wr k.cnt n 0 }).raise 0x05 n
  else if 0xFFFF < x then ({ k with cnt := Sparse.wr k.cnt n 0xFFFF#16 }).raise 0x05 n
  else { k with cnt := Sparse.wr k.cnt n (BitVec.ofNat 16 x.toNat) }

/-- Whether an update would leave the counter's range. -/
def cntBad (x : Int) : Bool := x < 0 || 0xFFFF < x

/-- An update of counter n by `d` (R167). -/
def Core.addCnt (k : Core) (n : Nat) (d : Int) : Core := k.setCnt n ((Sparse.rd k.cnt n).toNat + d)

/-- Whether counter n is bound to an event (R169). -/
def Core.bound (k : Core) (n src idx : Nat) : Bool :=
  let b := Sparse.rd k.bind n
  fld b 0 4 = src && (src = 5 || fld b 4 4 = idx)

/-- Counter n moved by `d`, stopping at its limits (R167). -/
def Core.satCnt (k : Core) (n : Nat) (d : Int) : Core :=
  { k with cnt := Sparse.wr k.cnt n (BitVec.ofNat 16 (min 0xFFFF ((Sparse.rd k.cnt n).toNat + d)).toNat) }

/-- An event of R169 happens `m` times in one cycle: `m` is added to every counter bound to it, and the counters that
saturate raise cause 0x05 together (R167, R168, R210); the log takes the counter of lowest number (DESIGN CHOICE, log entry
210: R210 orders causes, and these are the same). -/
def Core.event (k : Core) (src idx m : Nat) : Core :=
  let ns := (List.range 16).filter (fun n => k.bound n src idx)
  let full := ns.filter (fun n => cntBad ((Sparse.rd k.cnt n).toNat + (m : Int)))
  (ns.foldl (fun k n => k.satCnt n m) k).raiseAll (full.map (fun n => (0x05, n)))

/-- Subtracts up to `m` from the counters bound to a queue's arrivals, stopping at 0 without a
fault (R285). -/
def Core.unEvent (k : Core) (src idx m : Nat) : Core :=
  (List.range 16).foldl (fun k n =>
    if k.bound n src idx then
      { k with cnt := Sparse.wr k.cnt n (BitVec.ofNat 16 ((Sparse.rd k.cnt n).toNat - m)) }
    else k) k

/-! ### Core store (R160) -/

/-- The 64-bit words an access of `n` bytes at `a` touches. -/
def wordsOf (a n : Nat) : List Nat :=
  if n = 0 then [] else (List.range ((a + n - 1) / 8 - a / 8 + 1)).map (· + a / 8)

/-- The first word of an access that holds an uncorrectable error. -/
def badWord (err : SMap Bool) (a n : Nat) : Option Nat :=
  (wordsOf a n).find? (fun w => err.look w = some true)

/-- How many words of an access hold a correctable error. -/
def softWords (err : SMap Bool) (a n : Nat) : Nat :=
  (wordsOf a n).countP (fun w => err.look w = some false)

/-- A read of core store: the core with `CSTORE_CORRECTED` advanced, and the bytes, or the address of
the first uncorrectable word (R160). -/
def Core.load (k : Core) (a n : Nat) : Core × Except Nat (List Byte) :=
  match badWord k.storeErr a n with
  | some w => (k, .error (8 * w))
  | none => (k.bumpCount 0x50 (softWords k.storeErr a n), .ok (Sparse.dense k.store a n))

/-- The words of an access that it covers only in part. -/
def partWords (a n : Nat) : List Nat :=
  (wordsOf a n).filter (fun w => 8 * w < a || a + n < 8 * w + 8)

/-- A write of core store: done, or the address of a partly written word with an uncorrectable
error, and then nothing is written (R160; DESIGN CHOICE for the access's other words). Errors of the words
it touches are cleared, correctable ones of partly written words counted. -/
def Core.storeBytes (k : Core) (a : Nat) (d : List Byte) : Core × Option Nat :=
  let ws := partWords a d.length
  match ws.find? (fun w => k.storeErr.look w = some true) with
  | some w => (k, some (8 * w))
  | none =>
    let soft := ws.countP (fun w => k.storeErr.look w = some false)
    let all := wordsOf a d.length
    (({ k with store := Sparse.blit k.store a d,
               storeErr := k.storeErr.filter (fun p => !all.contains p.1) }).bumpCount 0x50 soft, none)

/-- The size of a core's store. -/
def storeSize : Nat := 0x18000

/-! ### Issue of an instruction (R183 to R185) -/

/-- How an instruction ran: done and on to the next; a jump; it waits at issue on a queue, credit,
counter or response; a unit or register it needs is busy, so it has not issued; or a fault of a cause with
its detail, raised on the core given. -/
inductive Ran where
  | done (k : Core)
  | jump (k : Core) (pc : Nat)
  | wait
  | block
  | fault (k : Core) (cause detail : Nat)
  deriving DecidableEq, Repr

/-- Whether the core may issue the word `w` (under the mask `mask` of the bits its instruction
uses): a firing runs, no fault or restart has stopped it, nothing is held at issue, and program memory
holds the word at `PC` (R183). -/
def Core.canIssue (k : Core) (w mask : Word) : Bool :=
  k.firing && !k.faulted && !k.restarting && !k.smoulder && !k.inReset && !k.ended &&
    k.held.isNone && k.waitOp.isNone && (Sparse.rd k.pmem k.pc &&& mask) == (w &&& mask)

/-- The core after an instruction ran (R184, R209). -/
def Ran.finish (r : Ran) (k : Core) (i : Instr) : Core :=
  match r with
  | .done k' => { k' with pc := (k.pc + 1) % 2048 }
  | .jump k' pc => { k' with pc := pc }
  | .wait => { k with held := some i }
  | .block => k
  | .fault k' cause detail => k'.raise cause detail

/-- The fetch at `PC` (R161): an uncorrectable word raises cause 0x20, a correctable one is counted
in `PMEM_CORRECTED`. -/
def Core.fetch (k : Core) : Except Core Core :=
  match k.pmemErr.look k.pc with
  | some true => .error (k.raise 0x20 k.pc)
  | some false => .ok (k.bumpCount 0x58 1)
  | none => .ok k

/-- A core instruction whose effect stays in the core: the frame of every such meaning. -/
def issue (c : Nat) (i : Instr) (w mask : Word) (s : State) (f : Core → Ran) : Out :=
  onCore c s fun s =>
    let k := s.core c
    if k.canIssue w mask then
      match k.fetch with
      | .error k' => s.setCore c k'
      | .ok k' =>
        match f k' with
        | .block => s
        | r => s.setCore c (r.finish k' i)
    else s

/-- All 32 bits of the word count. -/
def fullMask : Word := 0xFFFFFFFF#32

/-- The same frame for an instruction that also acts outside its core: `f` gets the state and the
core and answers how it ran and the state with every other unit's change. -/
def issueS (c : Nat) (i : Instr) (w mask : Word) (s : State) (f : State → Core → State × Ran) : Out :=
  onCore c s fun s =>
    let k := s.core c
    if k.canIssue w mask then
      match k.fetch with
      | .error k' => s.setCore c k'
      | .ok k' =>
        match f s k' with
        | (_, .block) => s
        | (s', r) => s'.setCore c (r.finish k' i)
    else s

/-- An event that is no event where its condition does not hold: the state stays as it is
(DESIGN CHOICE: a command names something that has happened; where the spec's rules rule it out, nothing
happens). -/
def when' (b : Bool) (s t : State) : State := if b then t else s

end Sys2Proof.Machine
end

