-- ==== Sys2Proof/Machine/Operands.lean ====
section
/-! DEFINITION. The operand forms of the core's instructions: extended immediates, core store
addresses, tile arrays, vector operands (R188, R190, R197). -/

namespace Sys2Proof.Machine

/-- A 16-bit immediate with its sign extended. -/
def sext16 (i : Half) : Word := i.signExtend 32
/-- A 16-bit immediate with zeros above. -/
def zext16 (i : Half) : Word := i.setWidth 32

/-- The core store address of an SMEM operand (R188): the 32-bit sum of the base and the signed
offset. -/
def smemAddr (k : Core) (ra : BitVec 4) (off : BitVec 18) : Nat := (k.s ra.toNat + off.signExtend 32).toNat

/-- base(x): bits [5:0] cleared (R62, R190). -/
def tileBase (x : Word) : Nat := x.toNat / 64 * 64

/-- The address of tile `n` of an array (R190). -/
def tileAddr (k : Core) (ra rb : BitVec 4) (fmt : Nat) : Nat :=
  tileBase (k.s ra.toNat) + (k.s rb.toNat).toNat * fmtSize fmt

/-- A vector operand's FP32 words (R197, R198), or the cause and detail of the fault it raises. The
address of operand code 13 is `addr`; its image is read with the core store's code. -/
inductive VOperand where
  | words (l : List Word)
  | bad (cause detail : Nat)
  deriving DecidableEq, Repr

/-- The widened words of a BF16 or FP16 tile register. -/
def widenTile (t : TileReg) : List Word :=
  (tileVals t.fmt (Sparse.dense t.img 0 2048)).map
    (fun v => BitVec.ofNat 32 (Layout.fp32.roundVal .nearest v).1)

/-- The FP32 words of a core store image. -/
def imageWords (l : List Byte) : List Word := (unpack32 l).map (BitVec.ofNat 32)

/-- A source operand of a vector instruction. The spec does not say what a tile register whose `NULL` is 1 gives: its image is
read as data (DESIGN CHOICE, log entry 156). -/
def vSource (k : Core) (code : Nat) (sr : BitVec 4) : Core × VOperand :=
  if code < 4 then (k.useAcc code, .words (k.accWords code))
  else if code < 12 then
    let t := k.tile (code - 4)
    if t.fmt = 1 ∨ t.fmt = 2 then (k, .words (widenTile t)) else (k, .bad 0x02 (t.fmt * 16))
  else if code = 12 then (k, .words (List.replicate 1024 (k.s sr.toNat)))
  else
    let a := (k.s sr.toNat).toNat
    if a % 4 ≠ 0 ∨ storeSize < a + 4096 then (k, .bad 0x03 a)
    else
      match k.load a 4096 with
      | (k', .ok l) => (k', .words (imageWords l))
      | (k', .error w) => (k', .bad 0x10 w)

/-- Writes a vector result to its destination (R197, R198). -/
def vDest (k : Core) (code : Nat) (sr : BitVec 4) (nfmt : Bool) (l : List Word) : Ran :=
  if code < 4 then .done (k.setAcc code l)
  else if code < 12 then
    let fmt := if nfmt then 2 else 1
    let L := if nfmt then Layout.fp16 else Layout.bf16
    let codes := l.map (fun w => (L.roundVal .nearest (f32 w.toNat)).1)
    .done (k.setTile (code - 4) ⟨Sparse.ofList 0 (packCodes fmt codes), 0, fmt, false⟩)
  else
    let a := (k.s sr.toNat).toNat
    if a % 4 ≠ 0 ∨ storeSize < a + 4096 then .fault k 0x03 a
    else
      match k.storeBytes a (l.flatMap (fun w => leBytes 4 w.toNat)) with
      | (k', none) => .done k'
      | (k', some w) => .fault k' 0x10 w

end Sys2Proof.Machine
end

