-- ==== Sys2Proof/Machine/Flags.lean ====
section
/-! DEFINITION. The machine has no flags register. What a result reports beside its value stands
here: comparisons of branches (R187), the soot flags of a tile multiply (R117), and the tile tag's
fields (R115). -/

namespace Sys2Proof.Machine

/-- compare(COND, a, b) of the branch instructions (R187). -/
def brTaken (cond : Nat) (a b : Word) : Bool :=
  match cond with
  | 0 => a == b
  | 1 => a != b
  | 2 => BitVec.slt a b
  | 3 => !BitVec.slt a b
  | 4 => BitVec.ult a b
  | 5 => !BitVec.ult a b
  | _ => true

/-- The fields of a tile tag (R115). -/
def tagZero (t : Long) : Nat := fld t 0 11
def tagSat (t : Long) : Nat := fld t 11 11
def tagSpecial (t : Long) : Nat := fld t 22 11
def tagCore (t : Long) : Nat := fld t 35 18
def tagSlot (t : Long) : Nat := fld t 53 5
def tagGen (t : Long) : Nat := fld t 58 4
def tagSource (t : Long) : Nat := fld t 62 2

/-- A tag from its fields (R115). -/
def mkTag (source gen slot core special sat zero : Nat) : Long :=
  BitVec.ofNat 64 (zero % 2048 + (sat % 2048) <<< 11 + (special % 2048) <<< 22 +
    (core % 2 ^ 18) <<< 35 + (slot % 32) <<< 53 + (gen % 16) <<< 58 + (source % 4) <<< 62)

/-- A stored tile's tag with its census (R116). -/
def storedTag (c : Census) : Long := mkTag 0 0 0 0 c.special c.sat c.zero

/-- Whether an operand exceeds a limit of a soot profile (R117, R118). -/
def sootFlag (prof tag : Long) : Bool :=
  fld prof 0 11 < tagZero tag || fld prof 11 11 < tagSat tag || fld prof 22 11 < tagSpecial tag

end Sys2Proof.Machine
end

