-- ==== Sys2Proof/Machine/Scalar.lean ====
section
/-! DEFINITION. The scalar instructions: SYS, ALU, ALUI, BR, SMEM and CTR (R187 to R189), the
configuration read (R206), and the illegal-instruction fault (R185). -/

namespace Sys2Proof.Machine

/-! ### Shared operations -/

/-- s(RD) := s(RA) op s(RB) (R187). -/
def aluReg (rd ra rb : BitVec 4) (f : Word → Word → Word) (k : Core) : Ran :=
  .done (k.setS rd.toNat (f (k.s ra.toNat) (k.s rb.toNat)))

/-- s(RD) := s(RA) op immediate (R187). -/
def aluImm (rd ra : BitVec 4) (x : Word) (f : Word → Word → Word) (k : Core) : Ran :=
  .done (k.setS rd.toNat (f (k.s ra.toNat) x))

def opAdd (a b : Word) : Word := a + b
def opSub (a b : Word) : Word := a - b
def opAnd (a b : Word) : Word := a &&& b
def opOr (a b : Word) : Word := a ||| b
def opXor (a b : Word) : Word := a ^^^ b
/-- Shifts use the low five bits of their second operand (R187). -/
def opSll (a b : Word) : Word := a <<< (b.toNat % 32)
def opSrl (a b : Word) : Word := a >>> (b.toNat % 32)
def opSra (a b : Word) : Word := a.sshiftRight (b.toNat % 32)
def opMul (a b : Word) : Word := a * b
/-- The high 32 bits of the unsigned product (R187). -/
def opMulhu (a b : Word) : Word := BitVec.ofNat 32 ((a.toNat * b.toNat) / 2 ^ 32)
def opSlt (a b : Word) : Word := if BitVec.slt a b then 1 else 0
def opSltu (a b : Word) : Word := if BitVec.ult a b then 1 else 0
def opMin (a b : Word) : Word := if BitVec.slt a b then a else b
def opMax (a b : Word) : Word := if BitVec.slt a b then b else a
def opMinu (a b : Word) : Word := if BitVec.ult a b then a else b
def opMaxu (a b : Word) : Word := if BitVec.ult a b then b else a

/-- A conditional branch (R187). -/
def branch (cond : Nat) (ra rb : BitVec 4) (target : BitVec 11) (k : Core) : Ran :=
  if brTaken cond (k.s ra.toNat) (k.s rb.toNat) then .jump k target.toNat else .done k

/-- A counter instruction's new value: in range, or the limit with cause 0x05 (R167, R189). -/
def cntTo (n : Nat) (x : Int) (k : Core) : Ran :=
  if cntBad x then .fault { k with cnt := Sparse.wr k.cnt n (if x < 0 then 0 else 0xFFFF#16) } 0x05 n
  else .done { k with cnt := Sparse.wr k.cnt n (BitVec.ofNat 16 x.toNat) }

/-- A core store address out of range or misaligned (R188). -/
def smemBad (a n : Nat) : Bool := 0x17FFF < a || a % n ≠ 0

/-- A scalar load of `n` bytes (R188, R160). -/
def scalarLoad (n : Nat) (rd ra : BitVec 4) (off : BitVec 18) (k : Core) : Ran :=
  let a := smemAddr k ra off
  if smemBad a n then .fault k 0x03 a
  else
    match k.load a n with
    | (k', .ok l) => .done (k'.setS rd.toNat (BitVec.ofNat 32 (ofLe l)))
    | (k', .error w) => .fault k' 0x10 w

/-- A scalar store of the low `n` bytes of a register (R188, R160). -/
def scalarStore (n : Nat) (rd ra : BitVec 4) (off : BitVec 18) (k : Core) : Ran :=
  let a := smemAddr k ra off
  if smemBad a n then .fault k 0x03 a
  else
    match k.storeBytes a (leBytes n (k.s rd.toNat).toNat) with
    | (k', none) => .done k'
    | (k', some w) => .fault k' 0x10 w

/-! ### SYS -/

/-- Fetch of a word that R185 makes illegal: cause 0x01 with the word as detail. A legal word is no such event. -/
def execReservedInstruction (c : Nat) (w : Word) (s : State) : Out :=
  issue c (.reservedInstruction c w) w fullMask s fun k =>
    if reservedWord w then .fault k 0x01 w.toNat else .block

/-- `NOP` (R187): only `PC` advances. -/
def execNop (c : Nat) (s : State) : Out := issue c (.nop c) (encImm 0 0 0 0 0) fullMask s .done

/-- `END` (R177 step 1): the core issues nothing further; the firing ends with `END_COMPLETE`. -/
def execEndFiring (c : Nat) (s : State) : Out :=
  issue c (.endFiring c) (encImm 0 1 0 0 0) fullMask s fun k => .jump { k with ended := true } k.pc

/-- `JR` (R187): PC := s(RA)[10:0]. -/
def execJr (c : Nat) (ra : BitVec 4) (s : State) : Out :=
  issue c (.jr c ra) (encImm 0 2 0 ra 0) 0xFF0F0000#32 s fun k => .jump k ((k.s ra.toNat).toNat % 2048)

/-- `SEED` (R187, R86): a zero seed becomes 1. -/
def execSeed (c : Nat) (ra : BitVec 4) (s : State) : Out :=
  issue c (.seed c ra) (encImm 0 3 0 ra 0) 0xFF0F0000#32 s fun k =>
    if evenReg ra.toNat then .done { k with gen := seedOf (k.pair ra.toNat) }
    else .fault k 0x01 (Sparse.rd k.pmem k.pc).toNat

/-- `TIME` (R187): the local wafer time in ns, integer part. -/
def execTime (c : Nat) (rd : BitVec 4) (s : State) : Out :=
  issue c (.time c rd) (encImm 0 4 rd 0 0) 0xFFF00000#32 s fun k =>
    if evenReg rd.toNat then .done (k.setPair rd.toNat (BitVec.ofNat 64 (s.localTime (fieldOf (clusterOf c)))))
    else .fault k 0x01 (Sparse.rd k.pmem k.pc).toNat

/-- `ACCT` (R187): CUR_ACCT := IMM16[1:0]. -/
def execAcct (c : Nat) (a : BitVec 2) (s : State) : Out :=
  issue c (.acct c a) (encImm 0 5 0 0 (a.setWidth 16)) 0xFF00FFFF#32 s fun k => .done { k with acct := a.toNat }

/-- `TRAP` (R187): cause 0x07 with detail IMM16. -/
def execTrap (c : Nat) (imm : Half) (s : State) : Out :=
  issue c (.trap c imm) (encImm 0 6 0 0 imm) 0xFF00FFFF#32 s fun k => .fault k 0x07 imm.toNat

/-! ### ALU -/

/-- `ADD` (R187). -/
def execAdd (c : Nat) (rd ra rb : BitVec 4) (s : State) : Out :=
  issue c (.add c rd ra rb) (encAlu 0 rd ra rb) fullMask s (aluReg rd ra rb opAdd)
/-- `SUB` (R187). -/
def execSub (c : Nat) (rd ra rb : BitVec 4) (s : State) : Out :=
  issue c (.sub c rd ra rb) (encAlu 1 rd ra rb) fullMask s (aluReg rd ra rb opSub)
/-- `AND` (R187). -/
def execAnd (c : Nat) (rd ra rb : BitVec 4) (s : State) : Out :=
  issue c (.and c rd ra rb) (encAlu 2 rd ra rb) fullMask s (aluReg rd ra rb opAnd)
/-- `OR` (R187). -/
def execOr (c : Nat) (rd ra rb : BitVec 4) (s : State) : Out :=
  issue c (.or c rd ra rb) (encAlu 3 rd ra rb) fullMask s (aluReg rd ra rb opOr)
/-- `XOR` (R187). -/
def execXor (c : Nat) (rd ra rb : BitVec 4) (s : State) : Out :=
  issue c (.xor c rd ra rb) (encAlu 4 rd ra rb) fullMask s (aluReg rd ra rb opXor)
/-- `SLL` (R187). -/
def execSll (c : Nat) (rd ra rb : BitVec 4) (s : State) : Out :=
  issue c (.sll c rd ra rb) (encAlu 5 rd ra rb) fullMask s (aluReg rd ra rb opSll)
/-- `SRL` (R187). -/
def execSrl (c : Nat) (rd ra rb : BitVec 4) (s : State) : Out :=
  issue c (.srl c rd ra rb) (encAlu 6 rd ra rb) fullMask s (aluReg rd ra rb opSrl)
/-- `SRA` (R187). -/
def execSra (c : Nat) (rd ra rb : BitVec 4) (s : State) : Out :=
  issue c (.sra c rd ra rb) (encAlu 7 rd ra rb) fullMask s (aluReg rd ra rb opSra)
/-- `MUL` (R187). -/
def execMul (c : Nat) (rd ra rb : BitVec 4) (s : State) : Out :=
  issue c (.mul c rd ra rb) (encAlu 8 rd ra rb) fullMask s (aluReg rd ra rb opMul)
/-- `MULHU` (R187). -/
def execMulhu (c : Nat) (rd ra rb : BitVec 4) (s : State) : Out :=
  issue c (.mulhu c rd ra rb) (encAlu 9 rd ra rb) fullMask s (aluReg rd ra rb opMulhu)
/-- `SLT` (R187). -/
def execSlt (c : Nat) (rd ra rb : BitVec 4) (s : State) : Out :=
  issue c (.slt c rd ra rb) (encAlu 10 rd ra rb) fullMask s (aluReg rd ra rb opSlt)
/-- `SLTU` (R187). -/
def execSltu (c : Nat) (rd ra rb : BitVec 4) (s : State) : Out :=
  issue c (.sltu c rd ra rb) (encAlu 11 rd ra rb) fullMask s (aluReg rd ra rb opSltu)
/-- `MIN` (R187). -/
def execMin (c : Nat) (rd ra rb : BitVec 4) (s : State) : Out :=
  issue c (.min c rd ra rb) (encAlu 12 rd ra rb) fullMask s (aluReg rd ra rb opMin)
/-- `MAX` (R187). -/
def execMax (c : Nat) (rd ra rb : BitVec 4) (s : State) : Out :=
  issue c (.max c rd ra rb) (encAlu 13 rd ra rb) fullMask s (aluReg rd ra rb opMax)
/-- `MINU` (R187). -/
def execMinu (c : Nat) (rd ra rb : BitVec 4) (s : State) : Out :=
  issue c (.minu c rd ra rb) (encAlu 14 rd ra rb) fullMask s (aluReg rd ra rb opMinu)
/-- `MAXU` (R187). -/
def execMaxu (c : Nat) (rd ra rb : BitVec 4) (s : State) : Out :=
  issue c (.maxu c rd ra rb) (encAlu 15 rd ra rb) fullMask s (aluReg rd ra rb opMaxu)

/-! ### ALUI -/

/-- `ADDI` (R187). -/
def execAddi (c : Nat) (rd ra : BitVec 4) (imm : Half) (s : State) : Out :=
  issue c (.addi c rd ra imm) (encImm 2 0 rd ra imm) fullMask s (aluImm rd ra (sext16 imm) opAdd)
/-- `ANDI` (R187): the immediate with zeros above. -/
def execAndi (c : Nat) (rd ra : BitVec 4) (imm : Half) (s : State) : Out :=
  issue c (.andi c rd ra imm) (encImm 2 2 rd ra imm) fullMask s (aluImm rd ra (zext16 imm) opAnd)
/-- `ORI` (R187). -/
def execOri (c : Nat) (rd ra : BitVec 4) (imm : Half) (s : State) : Out :=
  issue c (.ori c rd ra imm) (encImm 2 3 rd ra imm) fullMask s (aluImm rd ra (zext16 imm) opOr)
/-- `XORI` (R187). -/
def execXori (c : Nat) (rd ra : BitVec 4) (imm : Half) (s : State) : Out :=
  issue c (.xori c rd ra imm) (encImm 2 4 rd ra imm) fullMask s (aluImm rd ra (zext16 imm) opXor)
/-- `SLLI` (R187). -/
def execSlli (c : Nat) (rd ra : BitVec 4) (sh : BitVec 5) (s : State) : Out :=
  issue c (.slli c rd ra sh) (encImm 2 5 rd ra (sh.setWidth 16)) fullMask s (aluImm rd ra (sh.setWidth 32) opSll)
/-- `SRLI` (R187). -/
def execSrli (c : Nat) (rd ra : BitVec 4) (sh : BitVec 5) (s : State) : Out :=
  issue c (.srli c rd ra sh) (encImm 2 6 rd ra (sh.setWidth 16)) fullMask s (aluImm rd ra (sh.setWidth 32) opSrl)
/-- `SRAI` (R187). -/
def execSrai (c : Nat) (rd ra : BitVec 4) (sh : BitVec 5) (s : State) : Out :=
  issue c (.srai c rd ra sh) (encImm 2 7 rd ra (sh.setWidth 16)) fullMask s (aluImm rd ra (sh.setWidth 32) opSra)
/-- `SLTI` (R187). -/
def execSlti (c : Nat) (rd ra : BitVec 4) (imm : Half) (s : State) : Out :=
  issue c (.slti c rd ra imm) (encImm 2 8 rd ra imm) fullMask s (aluImm rd ra (sext16 imm) opSlt)
/-- `SLTIU` (R187). -/
def execSltiu (c : Nat) (rd ra : BitVec 4) (imm : Half) (s : State) : Out :=
  issue c (.sltiu c rd ra imm) (encImm 2 9 rd ra imm) fullMask s (aluImm rd ra (sext16 imm) opSltu)
/-- `LUI` (R187): s(RD) := IMM16 * 65,536. -/
def execLui (c : Nat) (rd : BitVec 4) (imm : Half) (s : State) : Out :=
  issue c (.lui c rd imm) (encImm 2 15 rd 0 imm) fullMask s fun k => .done (k.setS rd.toNat (zext16 imm <<< 16))

/-! ### BR -/

/-- `BEQ` (R187). -/
def execBeq (c : Nat) (ra rb : BitVec 4) (target : BitVec 11) (s : State) : Out :=
  issue c (.beq c ra rb target) (encBr 0 ra rb target) fullMask s (branch 0 ra rb target)
/-- `BNE` (R187). -/
def execBne (c : Nat) (ra rb : BitVec 4) (target : BitVec 11) (s : State) : Out :=
  issue c (.bne c ra rb target) (encBr 1 ra rb target) fullMask s (branch 1 ra rb target)
/-- `BLT` (R187). -/
def execBlt (c : Nat) (ra rb : BitVec 4) (target : BitVec 11) (s : State) : Out :=
  issue c (.blt c ra rb target) (encBr 2 ra rb target) fullMask s (branch 2 ra rb target)
/-- `BGE` (R187). -/
def execBge (c : Nat) (ra rb : BitVec 4) (target : BitVec 11) (s : State) : Out :=
  issue c (.bge c ra rb target) (encBr 3 ra rb target) fullMask s (branch 3 ra rb target)
/-- `BLTU` (R187). -/
def execBltu (c : Nat) (ra rb : BitVec 4) (target : BitVec 11) (s : State) : Out :=
  issue c (.bltu c ra rb target) (encBr 4 ra rb target) fullMask s (branch 4 ra rb target)
/-- `BGEU` (R187). -/
def execBgeu (c : Nat) (ra rb : BitVec 4) (target : BitVec 11) (s : State) : Out :=
  issue c (.bgeu c ra rb target) (encBr 5 ra rb target) fullMask s (branch 5 ra rb target)
/-- `J` (R187). -/
def execJ (c : Nat) (target : BitVec 11) (s : State) : Out :=
  issue c (.j c target) (encBr 6 0 0 target) fullMask s fun k => .jump k target.toNat
/-- `JAL` (R187): the link register takes (PC + 1) mod 2,048. -/
def execJal (c : Nat) (ra : BitVec 4) (target : BitVec 11) (s : State) : Out :=
  issue c (.jal c ra target) (encBr 7 ra 0 target) fullMask s fun k =>
    .jump (k.setS ra.toNat (BitVec.ofNat 32 ((k.pc + 1) % 2048))) target.toNat

/-! ### SMEM -/

/-- `LW` (R188). -/
def execLw (c : Nat) (rd ra : BitVec 4) (off : BitVec 18) (s : State) : Out :=
  issue c (.lw c rd ra off) (encSmem 0 rd ra off) fullMask s (scalarLoad 4 rd ra off)
/-- `SW` (R188). -/
def execSw (c : Nat) (rd ra : BitVec 4) (off : BitVec 18) (s : State) : Out :=
  issue c (.sw c rd ra off) (encSmem 1 rd ra off) fullMask s (scalarStore 4 rd ra off)
/-- `LBU` (R188). -/
def execLbu (c : Nat) (rd ra : BitVec 4) (off : BitVec 18) (s : State) : Out :=
  issue c (.lbu c rd ra off) (encSmem 2 rd ra off) fullMask s (scalarLoad 1 rd ra off)
/-- `SB` (R188). -/
def execSb (c : Nat) (rd ra : BitVec 4) (off : BitVec 18) (s : State) : Out :=
  issue c (.sb c rd ra off) (encSmem 3 rd ra off) fullMask s (scalarStore 1 rd ra off)

/-! ### CTR -/

/-- `CSET` (R189). -/
def execCset (c : Nat) (cn : BitVec 4) (imm : Half) (s : State) : Out :=
  issue c (.cset c cn imm) (encCtr 0 cn 0 imm) fullMask s (cntTo cn.toNat imm.toNat)
/-- `CADD` (R189): out of range it stops at the limit with cause 0x05. -/
def execCadd (c : Nat) (cn : BitVec 4) (imm : Half) (s : State) : Out :=
  issue c (.cadd c cn imm) (encCtr 1 cn 0 imm) fullMask s fun k =>
    cntTo cn.toNat ((Sparse.rd k.cnt cn.toNat).toNat + imm.toInt) k
/-- `CRD` (R189). -/
def execCrd (c : Nat) (cn ra : BitVec 4) (s : State) : Out :=
  issue c (.crd c cn ra) (encCtr 2 cn ra 0) fullMask s fun k =>
    .done (k.setS ra.toNat (zext16 (Sparse.rd k.cnt cn.toNat)))
/-- `CWR` (R189). -/
def execCwr (c : Nat) (cn ra : BitVec 4) (s : State) : Out :=
  issue c (.cwr c cn ra) (encCtr 3 cn ra 0) fullMask s fun k =>
    cntTo cn.toNat (((k.s ra.toNat).toNat % 65536 : Nat) : Int) k
/-- `LOOP` (R189): a counter at 0 raises cause 0x05; else it falls by 1 and branches while not 0. -/
def execLoop (c : Nat) (cn : BitVec 4) (target : BitVec 11) (s : State) : Out :=
  issue c (.loop c cn target) (encCtr 4 cn 0 (target.setWidth 16)) fullMask s fun k =>
    let v := (Sparse.rd k.cnt cn.toNat).toNat
    if v = 0 then .fault k 0x05 cn.toNat
    else
      let k' := { k with cnt := Sparse.wr k.cnt cn.toNat (BitVec.ofNat 16 (v - 1)) }
      if v = 1 then .done k' else .jump k' target.toNat

/-- `CWAIT` on a core (R189): it issues when the counter has reached the value, and consumes
nothing. -/
def runCwait (cn : BitVec 4) (imm : Half) (k : Core) : Ran :=
  if imm.toNat ≤ (Sparse.rd k.cnt cn.toNat).toNat then .done k else .wait
/-- `CWAIT` (R189). -/
def execCwait (c : Nat) (cn : BitVec 4) (imm : Half) (s : State) : Out :=
  issue c (.cwait c cn imm) (encCtr 5 cn 0 imm) fullMask s (runCwait cn imm)

/-! ### CFG -/

/-- `SEQ_STATUS` (R165). -/
def Core.seqStatus (k : Core) : Nat :=
  k.pc % 2048 + (b2n k.restarting) <<< 16 + (b2n k.faulted) <<< 17 + (b2n k.smoulder) <<< 18 +
    (b2n k.firing) <<< 19 + (k.curStation % 8) <<< 20 + (k.lastStation % 8) <<< 23

/-- What a read of a core's configuration block takes from the module beside the core: its fabric cycles and wafer time
in ns, and whether the latest tile multiply's occupancy still runs (a free value, log entry 160). -/
structure CfgNow where
  cycles : Nat
  ns : Nat
  busy : Bool
  deriving DecidableEq, Repr

/-- What a read of a configuration block now takes from the module. -/
def State.cfgNow (s : State) (c : Nat) : CfgNow :=
  ⟨s.fabricIn (coreRegion c), s.wt, Config.freeNat s.free % 2 = 1⟩

/-- A rekindle that still waits for a fetch is within its occupancy, which ends no sooner than F + 64 (R105). -/
def Core.fetching (k : Core) : Bool := k.rk.any (fun r => 0 < r.waitN)

/-- `TE_STATUS` (R154). The occupancy of a rekindle ends 8 cycles before its latency, so that `BUSY` may read 0 while
`RK_ACTIVE` still reads 1 (R105). -/
def Core.teStatus (k : Core) (t : CfgNow) : Nat :=
  b2n k.retainStall + 2 * b2n (k.fetching || (k.teBusy.isSome && t.busy)) + 4 * b2n k.rk.isSome +
    8 * b2n k.mordant.isSome

/-- `AWAKE_CYCLES` (R162): those counted, and those since the core last left smoulder. -/
def Core.awakeCycles (k : Core) (cycles : Nat) : Long :=
  Sparse.rd k.counts 0x28 + BitVec.ofNat 64 (if k.smoulder || k.inReset then 0 else cycles - k.since)

/-- `SMOULDER_TICKS` (R162): those counted, and the edges of the 50 MHz clock since the core entered smoulder. -/
def Core.smoulderTicks (k : Core) (ns : Nat) : Long :=
  Sparse.rd k.counts 0x30 + BitVec.ofNat 64 (if k.smoulder then ns / 20 - k.sinceNs / 20 else 0)

/-- The counts of a core as they stand (R162, R580). -/
def Core.countsAt (k : Core) (cycles ns : Nat) : Sparse 64 :=
  Sparse.wr (Sparse.wr k.counts 0x28 (k.awakeCycles cycles)) 0x30 (k.smoulderTicks ns)

/-- A read of `TE_STATUS` that shows `BUSY` 0 ends the occupancy; the state moves on to its next free value. -/
def State.seeBusy (s : State) (c : Nat) : State :=
  let k := s.core c
  let s1 := s.draw.2
  if (s.cfgNow c).busy || k.fetching then s1 else s1.setCore c { k with teBusy := none }

/-- The words of `FAULT_LOG` (R211). -/
def FaultLog.word (l : FaultLog) (j : Nat) : Nat :=
  match j with
  | 0 => l.pc % 2048 + (l.slot % 8) <<< 11 + (l.cause % 256) <<< 16 + (l.cls % 4) <<< 29 + (b2n l.valid) <<< 31
  | 1 => l.station % 2 ^ 32
  | 2 => l.detail % 2 ^ 32
  | _ => l.detail / 2 ^ 32 % 2 ^ 32

/-- Half of a 64-bit value: the low word at an even word index. -/
def halfOf (v j : Nat) : Nat := if j % 2 = 0 then v % 2 ^ 32 else v / 2 ^ 32 % 2 ^ 32

/-- One word of a scale slot (R136). -/
def ScaleSlot.word (x : ScaleSlot) (j : Nat) : Nat :=
  match j with
  | 0 => x.committed.toNat
  | 1 => x.amax.toNat
  | 2 => x.ctrl.toNat
  | _ => x.satElements + x.conversions <<< 16

/-- The 32-bit word at a configuration offset of core `c`, physically placed at `place` (R162, R151).
Reserved offsets read zero. -/
def Core.cfgWord (k : Core) (c place : Nat) (t : CfgNow) (off : Nat) : Nat :=
  let j := off / 4
  if off = 0 then c
  else if off = 4 then place
  else if off = 8 then k.seqCtrl.toNat
  else if off = 0xC then k.seqStatus
  else if off < 0x18 then halfOf k.gen.toNat j
  else if off < 0x20 then 0
  else if 0x28 ≤ off ∧ off < 0x30 then halfOf (k.awakeCycles t.cycles).toNat j
  else if 0x30 ≤ off ∧ off < 0x38 then halfOf (k.smoulderTicks t.ns).toNat j
  else if off < 0x60 then halfOf (Sparse.rd k.counts (off / 8 * 8)).toNat j
  else if off < 0x80 then 0
  else if off < 0xC0 then (Sparse.rd k.cnt ((off - 0x80) / 4)).toNat
  else if off < 0xE0 then (k.thr ((off - 0xC0) / 2)).toNat + (k.thr ((off - 0xC0) / 2 + 1)).toNat <<< 16
  else if off < 0x100 then
    (Sparse.rd k.cinit ((off - 0xE0) / 2)).toNat + (Sparse.rd k.cinit ((off - 0xE0) / 2 + 1)).toNat <<< 16
  else if off < 0x140 then (Sparse.rd k.bind ((off - 0x100) / 4)).toNat
  else if off < 0x180 then 0
  else if off < 0x200 then (Sparse.rd k.stations ((off - 0x180) / 4)).toNat
  else if off < 0x280 then halfOf (Sparse.rd k.counts (off / 8 * 8)).toNat j
  else if off < 0x290 then k.log.word ((off - 0x280) / 4)
  else if off < 0x2A0 then halfOf (Sparse.rd k.counts (off / 8 * 8)).toNat j
  else if off < 0x400 then 0
  else if off < 0x440 then halfOf (k.profile ((off - 0x400) / 8)).toNat j
  else if off < 0x450 then
    (Sparse.rd k.rkUsed ((off - 0x440) / 2)).toNat + (Sparse.rd k.rkUsed ((off - 0x440) / 2 + 1)).toNat <<< 16
  else if off = 0x450 then k.retainCtrl.toNat
  else if off = 0x454 then k.teStatus t
  else if off < 0x460 then 0
  else if off < 0x4A0 then halfOf (Sparse.rd k.counts (off / 8 * 8)).toNat j
  else if off < 0x500 then 0
  else if off < 0x600 then (k.slotAt ((off - 0x500) / 16)).word ((off - 0x500) / 4 % 4)
  else if off < 0x2000 then 0
  else if off < 0x4000 then (Sparse.rd k.pmem ((off - 0x2000) / 4)).toNat
  else 0

/-- Whether `CFGRD` may read an offset (R206). -/
def cfgrdOk (off : Nat) : Bool := off % 4 = 0 && (off ≤ 0x2FF || (0x400 ≤ off && off ≤ 0x4FF))

/-- `CFGRD` (R206). -/
def execCfgrd (c : Nat) (rd : BitVec 4) (off : BitVec 12) (s : State) : Out :=
  issueS c (.cfgrd c rd off) (encCfg rd off) fullMask s fun s k =>
    if cfgrdOk off.toNat then
      let k' := k.setS rd.toNat (BitVec.ofNat 32 (k.cfgWord c (s.corePlace c) (s.cfgNow c) off.toNat))
      if off = 0x454 then (s.draw.2, .done (if (s.cfgNow c).busy || k.fetching then k' else { k' with teBusy := none }))
      else (s, .done k')
    else (s, .fault k 0x04 off.toNat)

end Sys2Proof.Machine
end

