-- ==== Sys2Proof/Machine/TileUnit.lean ====
section
/-! DEFINITION. Tile loads and stores (R190, R191), the tile multiply with soot counters and rekindle
(R103 to R133, R192), and the format converter's instruction (R193 to R196, R121 to R125, R134 to
R141). -/

namespace Sys2Proof.Machine

/-! ### Interlocks with a rekindle (R107, R183) -/

/-- A rekindle in progress uses this accumulator. -/
def Core.accBusy (k : Core) (a : Nat) : Bool := k.rk.any (fun r => r.acc == a)
/-- A rekindle in progress reads this tile register. -/
def Core.tileBusy (k : Core) (t : Nat) : Bool := k.rk.any (fun r => r.ta == t || r.tb == t)

/-! ### TMEM -/

/-- A tile register from an image: bytes beyond the image are zero (R63), with its census of special
elements (R116). -/
def loadedTile (fmt : Nat) (img : List Byte) : TileReg :=
  ⟨Sparse.ofList 0 img, storedTag ⟨0, 0, (tileVals fmt img).countP (fun v => !v.isFin)⟩, fmt, false⟩

/-- `TLD` on a core (R190, R191). -/
def runTld (t : BitVec 3) (ra rb fmt : BitVec 4) (k : Core) : Ran :=
  let f := fmt.toNat
  if !fmtTile f then .fault k 0x02 (f * 16 + f)
  else
    let a := tileAddr k ra rb f
    if storeSize < a + fmtSize f then .fault k 0x03 a
    else if k.tileBusy t.toNat then .block
    else
      match k.load a (fmtSize f) with
      | (k', .ok img) => .done (k'.setTile t.toNat (loadedTile f img))
      | (k', .error w) => .fault k' 0x10 w

/-- `TLD` (R190). -/
def execTld (c : Nat) (t : BitVec 3) (ra rb fmt : BitVec 4) (s : State) : Out :=
  issue c (.tld c t ra rb fmt) (encTmem 0 t ra rb fmt 0) fullMask s (runTld t ra rb fmt)

/-- `TST` on a core (R190): a null register writes nothing. -/
def runTst (t : BitVec 3) (ra rb fmt : BitVec 4) (k : Core) : Ran :=
  let f := fmt.toNat
  let x := k.tile t.toNat
  if f ≠ x.fmt then .fault k 0x02 (x.fmt * 16 + f)
  else if x.null then .done k
  else
    let a := tileAddr k ra rb f
    if storeSize < a + fmtSize f then .fault k 0x03 a
    else
      match k.storeBytes a (Sparse.dense x.img 0 (fmtSize f)) with
      | (k', none) => .done k'
      | (k', some w) => .fault k' 0x10 w

/-- `TST` (R190). -/
def execTst (c : Nat) (t : BitVec 3) (ra rb fmt : BitVec 4) (s : State) : Out :=
  issue c (.tst c t ra rb fmt) (encTmem 1 t ra rb fmt 0) fullMask s (runTst t ra rb fmt)

/-- The address of the Lampblack block of tile row i (R78, R190). -/
def lampAddr (k : Core) (ra rb rc : BitVec 4) (j : Nat) : Nat :=
  let x := (k.s rb.toNat).toNat
  let per := (k.s rc.toNat).toNat
  tileBase (k.s ra.toNat) + 33 * ((32 * (x % 65536) + j) * per + 32 * (x / 65536) / 160)

/-- Reads the 32 blocks of an expansion. -/
def loadBlocks (addr : Nat → Nat) : List Nat → Core → Core × Except Nat (List (List Byte))
  | [], k => (k, .ok [])
  | j :: r, k =>
    match k.load (addr j) 33 with
    | (k', .error w) => (k', .error w)
    | (k', .ok b) =>
      match loadBlocks addr r k' with
      | (k'', .error w) => (k'', .error w)
      | (k'', .ok bs) => (k'', .ok (b :: bs))

/-- `TLDL` on a core (R190, R79). -/
def runTldl (t : BitVec 3) (ra rb fmt rc : BitVec 4) (k : Core) : Ran :=
  let f := fmt.toNat
  if f ≠ 1 ∧ f ≠ 7 then .fault k 0x02 (0xA * 16 + f)
  else
    let addr := lampAddr k ra rb rc
    match (List.range 32).find? (fun j => storeSize < addr j + 33) with
    | some j => .fault k 0x03 (addr j)
    | none =>
      if k.tileBusy t.toNat then .block
      else
        match loadBlocks addr (List.range 32) k with
        | (k', .error w) => .fault k' 0x10 w
        | (k', .ok bs) =>
          let t0 := 32 * ((k.s rb.toNat).toNat / 65536) % 160
          let img := lampTile f bs t0
          let nan := 32 * bs.countP lampBad
          .done (k'.setTile t.toNat ⟨Sparse.ofList 0 img, storedTag ⟨0, 0, nan⟩, f, false⟩)

/-- `TLDL` (R190). -/
def execTldl (c : Nat) (t : BitVec 3) (ra rb fmt rc : BitVec 4) (s : State) : Out :=
  issue c (.tldl c t ra rb fmt rc) (encTmem 2 t ra rb fmt rc) fullMask s (runTldl t ra rb fmt rc)

/-! ### The tile multiply -/

/-- The exact dot product of two operand rows (R103, R110 rules 1 to 5). -/
inductive Dot where
  | nan
  | inf (neg : Bool)
  | fin (m : Int) (e : Int)
  deriving DecidableEq, Repr

/-- The sum of two exact numbers `m * 2^e`. -/
def dyAdd (a b : Int × Int) : Int × Int :=
  if a.1 = 0 then b
  else if b.1 = 0 then a
  else
    let e := min a.2 b.2
    (a.1 * 2 ^ (a.2 - e).toNat + b.1 * 2 ^ (b.2 - e).toNat, e)

/-- Adds one product to a dot product (R110 rules 2 to 4). -/
def dotStep (d : Dot) (a b : Val) : Dot :=
  match d, a, b with
  | .nan, _, _ => .nan
  | _, .nan, _ => .nan
  | _, _, .nan => .nan
  | d, .inf n, .inf n' => dotInf d (xor n n')
  | d, .inf n, .fin n' m _ => if m = 0 then .nan else dotInf d (xor n n')
  | d, .fin n m _, .inf n' => if m = 0 then .nan else dotInf d (xor n n')
  | .inf n, .fin _ _ _, .fin _ _ _ => .inf n
  | .fin m e, .fin n1 m1 e1, .fin n2 m2 e2 =>
    let r := dyAdd (m, e) (Val.signed (xor n1 n2) (m1 * m2), e1 + e2)
    .fin r.1 r.2
where
  dotInf (d : Dot) (neg : Bool) : Dot :=
    match d with
    | .nan => .nan
    | .inf n => if n = neg then .inf n else .nan
    | .fin _ _ => .inf neg

/-- D of two rows: NaN when either row holds NaN (R110 rule 1). -/
def dotRows (a b : List Val) : Dot := (a.zip b).foldl (fun d p => dotStep d p.1 p.2) (.fin 0 0)

/-- The exact number `m * 2^e` rounded once to FP32, to nearest even; an exact zero is +0 (R108,
R110 rules 5 to 7). -/
def roundDy (m e : Int) : Nat :=
  if m = 0 then 0 else (Layout.fp32.roundVal .nearest (.fin (m < 0) m.natAbs e)).1

/-- One accumulator element's update (R108, R110 rule 6): the previous word plus D. -/
def accUpdate (prev : Word) (d : Dot) : Word :=
  match f32 prev.toNat, d with
  | .nan, _ => 0x7FC00000#32
  | _, .nan => 0x7FC00000#32
  | .inf n, .inf n' => if n = n' then BitVec.ofNat 32 (Layout.fp32.overflow n) else 0x7FC00000#32
  | .inf n, .fin _ _ => BitVec.ofNat 32 (Layout.fp32.overflow n)
  | .fin _ _ _, .inf n => BitVec.ofNat 32 (Layout.fp32.overflow n)
  | .fin n m e, .fin dm de =>
    let t := dyAdd (Val.signed n m, e) (dm, de)
    BitVec.ofNat 32 (roundDy t.1 t.2)

/-- Whether an FP32 word is finite. -/
def finWord (w : Word) : Bool := (f32 w.toNat).isFin

/-- The 1,024 new words of an accumulator, and the elements turned from finite to not finite (R103,
R104, R111). -/
def mulTiles (va vb : List Val) (ovw : Bool) (acc : List Word) : List Word × Nat :=
  let ra := rowsOf 32 32 va
  let rb := rowsOf 32 32 vb
  let prev := if ovw then List.replicate 1024 0#32 else acc
  let ds := ra.flatMap (fun a => rb.map (fun b => dotRows a b))
  let out := (prev.zip ds).map (fun p => accUpdate p.1 p.2)
  (out, (prev.zip out).countP (fun p => finWord p.1 && !finWord p.2))

/-- Multiplies two lists of values into an accumulator of a core, counting `ACC_OVERFLOWS`. -/
def Core.mulInto (k : Core) (acc : Nat) (va vb : List Val) (ovw : Bool) : Core :=
  let r := mulTiles va vb ovw (k.accWords acc)
  (k.setAcc acc r.1).bumpCount 0x498 r.2

/-- The values of a tile register's elements. -/
def TileReg.vals (t : TileReg) : List Val := tileVals t.fmt (Sparse.dense t.img 0 2048)

/-- Adds to one of the four counts of the current account (R751, R177). -/
def Core.charge (k : Core) (off n : Nat) : Core := k.bumpCount (0x200 + 32 * k.acct + off) n

/-- A soot report (R120). -/
def sootReport (c sp outcome : Nat) (fa fb : Bool) (ta tb : Long) : Long :=
  BitVec.ofNat 64 (tagZero ta + tagZero tb + (tagSat ta + tagSat tb) <<< 12 +
    (tagSpecial ta + tagSpecial tb) <<< 24 + (b2n fb) <<< 38 + (b2n fa) <<< 39 +
    outcome <<< 40 + sp <<< 43 + c <<< 46)

/-- An item posted to an advisory queue of `cap` items (R300): the queue, its sequence, and whether
the oldest was overwritten. -/
def advPost (cap : Nat) (q : List AdvItem) (seq : Nat) (v : Long) : List AdvItem × Nat × Bool :=
  let n := (seq + 1) % 65536
  if q.length < cap then (q ++ [(n, v)], n, false) else (q.drop 1 ++ [(n, v)], n, true)

/-- A report posted to the cluster's soot queue (R120, R300). -/
def Cluster.postSoot (x : Cluster) (v : Long) : Cluster :=
  let p := advPost 512 x.soot x.sootSeq v
  let x' := { x with soot := p.1, sootSeq := p.2.1 }
  if p.2.2 then x'.bump 0x80090 1 else x'

/-- A record posted to the cluster's telemetry queue (R300, R302). -/
def Cluster.postTelem (x : Cluster) (ev port cycle : Nat) : Cluster :=
  let v := BitVec.ofNat 64 (ev <<< 56 + port <<< 53 + cycle % 2 ^ 48)
  let p := advPost 256 x.telem x.telemSeq v
  let x' := { x with telem := p.1, telemSeq := p.2.1 }
  if p.2.2 then x'.bump 0x80098 1 else x'

/-- The outcome of a flagged multiply (R119), 0 to 4: the order number less 1. -/
def sootOutcome (k : Core) (sp fmt : Nat) (ta tb : Long) : Nat :=
  let prof := k.profile sp
  let budget := fld prof 48 16
  if !nbit prof.toNat 33 then 0
  else if fmt = 1 then 1
  else if tagSource ta ≠ 1 ∧ tagSource tb ≠ 1 then 2
  else if budget ≠ 0xFFFF ∧ (Sparse.rd k.rkUsed sp).toNat = budget then 3
  else 4

/-- The counts of an outcome (R119). Under `RK_BUDGET` 0xFFFF `RK_USED` may pass 0xFFFF: its 16 bits wrap (DESIGN CHOICE,
log entry 157: the spec does not say). -/
def Core.countOutcome (k : Core) (sp o : Nat) : Core :=
  match o with
  | 0 => k
  | 1 => k.bumpCount 0x480 1
  | 2 => k.bumpCount 0x480 1
  | 3 => k.bumpCount 0x478 1
  | _ => { k with rkUsed := Sparse.wr k.rkUsed sp (Sparse.rd k.rkUsed sp + 1) }.bumpCount 0x470 1

/-- The transaction numbers of core `c` whose packets are still in the network, and of its control requests. -/
def State.netTxns (s : State) (c : Nat) : List Nat :=
  (s.net.packets.filter (fun (e : Nat × Packet) =>
    (e.2.src = ⟨0, coreIdx c⟩ && clusterAt e.2.srcX e.2.srcY = clusterOf c) ||
      (e.2.dst = ⟨0, coreIdx c⟩ && clusterAt e.2.dstX e.2.dstY = clusterOf c))).map (·.2.txn) ++
    (s.net.ctl.filter (fun q => q.sender = .core c)).map (·.txn)

/-- The lowest transaction number that is not in use: neither by a request of the core that awaits its response nor in
the list (R323). -/
def Core.txnFree (k : Core) (used : List Nat) : Nat :=
  let u := used ++ k.ops.flatMap (fun p => (p.2.parts.filter (fun q => !q.done)).map (·.txn))
  ((List.range 4096).find? (fun t => !u.contains t)).getD 0

/-- A new operation of a core. -/
def Core.addOp (k : Core) (o : MsgOp) : Core := { k with ops := k.ops.put k.ops.fresh o }

/-- A packet waiting at its source unit. -/
def State.addPacket (s : State) (p : Packet) : State :=
  { s with net := { s.net with packets := s.net.packets.put s.net.nextId p, nextId := s.net.nextId + 1 } }

/-- `PART_ID` of a cluster's router (R359). -/
def Cluster.part (x : Cluster) : Nat := fld x.mpWindow 60 4

/-- A packet from a unit of cluster `k`, not yet injected. -/
def State.mkPacket (s : State) (k : Nat) (src : Endpoint) (dk : Nat) (dst : Endpoint) (typ cls txn len addr : Nat) : Packet :=
  { typ := typ, cls := cls, leg := 1, dstX := clusterX dk, dstY := clusterY dk, midX := clusterX dk,
    midY := clusterY dk, srcX := clusterX k, srcY := clusterY k, dst := dst, src := src, status := 0,
    txn := txn, len := len, amoOp := 0, part := (s.cluster k).part, inbox := 0, addr := addr, auxA := 0,
    auxB := 0, payload := [], at_ := k, injected := false, landed := false, cut := false, held := false, order := s.net.nextId,
    fetch := none, fill := false, via := 4 }

/-- The space 0x2 address of offset `off` of a core's store (R362, R208). -/
def storeAddr (c off : Nat) : Nat := 2 * 2 ^ 60 + clusterOf c * 2 ^ 22 + coreIdx c * 2 ^ 17 + off

/-- Sends the rekindle fetch of one operand (R126 step 2): a read of 2,048 bytes of the retain slot
that its tag names. The header has no field for `RET_SLOT` and `RET_GEN` (R323), and `AUX_A` and `AUX_B` are zero (R325): the
packet carries them beside its header (DESIGN CHOICE, log entry 204). A number of a request abandoned with its firing is not used again while a packet bears it, so
that a late response finds no open request (R131). -/
def sendFetch (c : Nat) (b : Bool) (tag : Long) (s : State) (k : Core) : State × Core :=
  if tagSource tag = 1 then
    let rc := tagCore tag
    let t := k.txnFree (s.netTxns c)
    let a := storeAddr rc 0
    let p := { s.mkPacket (clusterOf c) ⟨0, coreIdx c⟩ (clusterOf rc) ⟨0, coreIdx rc⟩ 0 0 t 2048 a with
      fetch := some (tagSlot tag, tagGen tag) }
    (s.addPacket p, k.addOp ⟨.fetch b, a, 0, 2048, 0, 0, false, [⟨t, a, 2048, false, []⟩], false⟩)
  else (s, k)

/-- `TMUL` on a core (R192, R103 to R132): the state takes the soot report and the rekindle fetches. -/
def runTmul (c : Nat) (acc : BitVec 2) (ta tb : BitVec 3) (ovw : Bool) (sp : BitVec 3) (s : State)
    (k : Core) : State × Ran :=
  let a := k.tile ta.toNat
  let b := k.tile tb.toNat
  let k0 := { k with teBusy := some (acc.toNat, ta.toNat, tb.toNat) }
  if k.rk.isSome then (s, .block)
  else if a.null || b.null then (s, .done k)
  else if a.fmt ≠ b.fmt ∨ !fmtTile a.fmt then (s, .fault k 0x02 (a.fmt * 16 + b.fmt))
  else
    let four := fmtMul a.fmt == some true
    let prof := k.profile sp.toNat
    let fa := sootFlag prof a.tag
    let fb := sootFlag prof b.tag
    let k1 := (k0.bumpCount 0x460 1).charge (if four then 0 else 8) 1
    if fa || fb then
      let o := sootOutcome k sp.toNat a.fmt a.tag b.tag
      let k2 := (k1.bumpCount 0x468 1).countOutcome sp.toNat o
      let s1 := if nbit prof.toNat 34 then
          s.modCluster (clusterOf c) (fun x => x.postSoot (sootReport c sp.toNat o fa fb a.tag b.tag))
        else s
      if o = 4 then
        let p1 := sendFetch c false a.tag s1 (k2.charge 0x10 1)
        let p2 := sendFetch c true b.tag p1.1 p1.2
        let n := b2n (tagSource a.tag == 1) + b2n (tagSource b.tag == 1)
        (p2.1, .done { p2.2 with rk := some ⟨acc.toNat, ta.toNat, tb.toNat, ovw, none, none, false, false, false, n, 0⟩ })
      else (s1, .done (k2.mulInto acc.toNat a.vals b.vals ovw))
    else (s, .done (k1.mulInto acc.toNat a.vals b.vals ovw))

/-- `TMUL` (R192). -/
def execTmul (c : Nat) (acc : BitVec 2) (ta tb : BitVec 3) (ovw : Bool) (sp : BitVec 3) (s : State) : Out :=
  issueS c (.tmul c acc ta tb ovw sp) (encTmul acc ta tb ovw sp) fullMask s (runTmul c acc ta tb ovw sp)

/-- The values of a rekindle operand (R127): the retained BF16 copy, or the register's own image,
which its expansion and row factor hold exactly. -/
def rekindleVals (k : Core) (t : Nat) (buf : Option (List Byte)) : List Val :=
  match buf with
  | some l => tileVals 1 l
  | none => (k.tile t).vals

/-- The occupancy of the issued path (R105). -/
def issuedOccupancy (fmt : Nat) : Nat := if fmtMul fmt == some true then 64 else 256

/-- A rekindle whose fetches are all answered completes in cycle `f` of R105: by the rekindle path, or
by the issued path when a fetch fell back (R126 steps 4 and 5, R129, R132). With its latency its occupancy has ended too
(R105). -/
def Core.rekindleDone (k : Core) (r : Rekindle) (f : Nat) : Core :=
  let fmt := (k.tile r.ta).fmt
  let k0 := { k with rk := none, teBusy := none }
  if r.fellBack then
    ((k0.bumpCount 0x488 1).bumpCount 0x490 f).mulInto r.acc (k.tile r.ta).vals
      (k.tile r.tb).vals r.ovw
  else
    (k0.bumpCount 0x490 (f + 257 - issuedOccupancy fmt)).mulInto r.acc
      (rekindleVals k r.ta r.bufA) (rekindleVals k r.tb r.bufB) r.ovw

/-- Whether `f` is F (R105): the cycle in which the last operand data came, at least 32; or, for a multiply that falls
back, the cycle in which the last fetch was answered, or any from there on when the last of them timed out. -/
def Rekindle.ends (r : Rekindle) (f : Nat) : Bool :=
  if !r.fellBack then f = max 32 r.lastCycle else if r.timedOut then r.lastCycle ≤ f else f = r.lastCycle

/-- The multiply of a rekindle, F being `cycle` (R126 steps 4 and 5): every fetch is answered, and none uncorrectable
(R130). -/
def execRekindleMultiply (c cycle : Nat) (s : State) : Out :=
  onCore c s fun s =>
    let k := s.core c
    match k.rk with
    | some r =>
      when' (r.waitN = 0 && !r.uncorrectable && r.ends cycle) s
        (s.setCore c (k.rekindleDone r cycle))
    | none => s

/-! ### The format converter -/

/-- The `KIND` of a scale slot that a target takes (R135, R137); 0 for a target without scales. -/
def kindOf (fmt : Nat) : Nat :=
  match fmt with
  | 5 => 2
  | 6 => 3
  | 7 => 4
  | 8 => 1
  | 9 => 5
  | _ => 0

/-- The FP32 word that `PROPOSED_AMAX` takes for a magnitude (R136, R140): the magnitude itself where
FP32 holds it; else one of its two FP32 neighbours, a free choice (the spec states no rounding); and the largest
finite FP32 for a magnitude above it (DESIGN CHOICE, log entry 159). -/
def amaxWord (n : Nat) (f : Frac) : Word :=
  let up := Layout.fp32.roundMag .up f
  if up.2 then 0x7F7FFFFF#32
  else
    let v := Layout.fp32.magFrac up.1
    if Frac.le (Frac.ofDy v.1 v.2) f then BitVec.ofNat 32 up.1
    else if Config.freeNat n % 2 = 0 then BitVec.ofNat 32 up.1 else BitVec.ofNat 32 (up.1 - 1)

/-- A conversion gathers into its slot (R140, R138). -/
def ScaleSlot.gather (x : ScaleSlot) (n sat : Nat) (amax : Frac) : ScaleSlot :=
  { x with
    conversions := satAdd x.conversions 1 0xFFFF
    satElements := satAdd x.satElements sat 0xFFFF
    amax := if Frac.lt (f32 x.amax.toNat).mag amax then amaxWord n amax else x.amax }

/-- The source of a conversion: its format, or none where the code is reserved. -/
def cvtSrcFmt (k : Core) (a : CvtArgs) : Nat :=
  if a.src.toNat < 8 then (k.tile a.src.toNat).fmt else if a.src.toNat < 12 then 0 else a.sfmt.toNat

/-- Whether a conversion raises cause 0x02 (R195, R135, R102, R80). -/
def cvtFormatFault (k : Core) (a : CvtArgs) : Bool :=
  let sf := cvtSrcFmt k a
  let tf := a.tfmt.toNat
  9 < tf || 9 < sf || (tf = 0 && a.dst.toNat < 8) ||
    (a.scale && kindOf tf ≠ 0 && fld (k.slotAt a.slot.toNat).ctrl 28 4 ≠ kindOf tf)

/-- The image bytes of a conversion's source. -/
def cvtImage (k : Core) (a : CvtArgs) : Core × Except Nat (List Byte) :=
  if a.src.toNat < 8 then (k, .ok (Sparse.dense (k.tile a.src.toNat).img 0 2048))
  else if a.src.toNat < 12 then
    (k.useAcc (a.src.toNat - 8), .ok ((k.accWords (a.src.toNat - 8)).flatMap (fun w => leBytes 4 w.toNat)))
  else k.load (k.s a.ra.toNat).toNat (fmtSize a.sfmt.toNat)

/-- Whether the converter honours a retain request (R196, R125). -/
def cvtRetains (k : Core) (a : CvtArgs) : Bool :=
  let sf := cvtSrcFmt k a
  a.retain && (sf = 0 || sf = 1) && a.tfmt.toNat ≠ sf && a.dst.toNat < 8 && k.retainDepth ≠ 0

/-- A retained copy taken (R121): the next slot's generation grows, the slot is held, and the BF16 image of the values
stands in its place of core store. After a restart or a new depth the ring goes on where it stood, modulo the depth
(DESIGN CHOICE, log entry 158: the spec does not say where it goes on). -/
def Core.takeRetain (k : Core) (vs : List Val) : Core × Nat × Nat :=
  let j := k.ringNext % k.retainDepth
  let g := ((k.ringAt j).gen + 1) % 16
  let img := packCodes 1 (vs.map (fun v => (Layout.bf16.roundVal .nearest v).1))
  let k' := (k.storeBytes ((k.retainBase + j) * 2048) img).1
  ({ k' with ring := k'.ring.put j ⟨1, g, []⟩, ringNext := (j + 1) % k.retainDepth }, j, g)

/-- The conversion proper, when nothing stands in its way (R196). -/
def cvtGo (c : Nat) (a : CvtArgs) (n : Nat) (k : Core) (img : List Byte) : Ran :=
  let sf := cvtSrcFmt k a
  let tf := a.tfmt.toNat
  let slot := k.slotAt a.slot.toNat
  let vs := tileVals sf img
  let ds := if a.rnd then lfsrDraws 1024 k.gen else ([], k.gen)
  let rs : List Rnd := if a.rnd then ds.1.map Rnd.stochastic else List.replicate 1024 Rnd.nearest
  let out : List Byte × Census :=
    if sf = tf then (sliceB img 0 (fmtSize tf), ⟨0, 0, 0⟩)
    else cvtVals tf (if a.scale then some slot.committed.toNat else none) vs rs
  let k1 := { k with gen := ds.2, retainStall := false }
  let k2 := if a.scale || a.gather then
      { k1 with scale := k1.scale.put a.slot.toNat (slot.gather n out.2.sat (amaxOf vs)) }
    else k1
  if a.dst.toNat < 8 then
    if cvtRetains k a then
      let p := k2.takeRetain vs
      .done (p.1.setTile a.dst.toNat ⟨Sparse.ofList 0 out.1,
        mkTag 1 p.2.2 p.2.1 c out.2.special out.2.sat out.2.zero, tf, false⟩)
    else .done (k2.setTile a.dst.toNat ⟨Sparse.ofList 0 out.1, storedTag out.2, tf, false⟩)
  else
    match k2.storeBytes (k.s a.ra.toNat).toNat out.1 with
    | (k3, none) => .done k3
    | (k3, some w) => .fault k3 0x10 w

/-- `CVT` on a core (R193 to R196). `n` numbers the free value. -/
def runCvt (c : Nat) (a : CvtArgs) (n : Nat) (k : Core) : Ran :=
  let w := Sparse.rd k.pmem k.pc
  let addr := (k.s a.ra.toNat).toNat
  let mem := a.src.toNat = 12 ∨ a.dst.toNat = 8
  let size := if a.src.toNat = 12 then fmtSize a.sfmt.toNat else fmtSize a.tfmt.toNat
  if resCvt w.toNat then .fault k 0x01 w.toNat
  else if k.mordant.isSome then .block
  else if cvtFormatFault k a then .fault k 0x02 (cvtSrcFmt k a * 16 + a.tfmt.toNat)
  else if mem ∧ (addr % 4 ≠ 0 ∨ storeSize < addr + size) then .fault k 0x03 addr
  else if (8 ≤ a.src.toNat ∧ a.src.toNat < 12 ∧ k.accBusy (a.src.toNat - 8)) ∨
      (a.dst.toNat < 8 ∧ k.tileBusy a.dst.toNat) then .block
  else if a.src.toNat < 8 ∧ (k.tile a.src.toNat).null then
    if a.dst.toNat < 8 then
      .done (k.setTile a.dst.toNat { k.tile a.dst.toNat with null := true, fmt := a.tfmt.toNat })
    else .done k
  else if cvtRetains k a ∧ (k.ringAt (k.ringNext % k.retainDepth)).held ≠ 0 then .wait
  else
    match cvtImage k a with
    | (k', .ok img) => cvtGo c a n k' img
    | (k', .error e) => .fault k' 0x10 e

/-- A conversion that waits on a held retain slot sets `RETAIN_STALL` (R122, R154). -/
def markStall (r : Ran) (k : Core) (i : Instr) : Core :=
  match r with
  | .wait => { k with held := some i, retainStall := true }
  | r => r.finish k i

/-- `CVT` (R193). -/
def execCvt (c : Nat) (a : CvtArgs) (s : State) : Out :=
  onCore c s fun s =>
    let k := s.core c
    if k.canIssue (encCvt a) fullMask then
      match k.fetch with
      | .error k' => s.setCore c k'
      | .ok k' =>
        match runCvt c a s.free k' with
        | .block => s
        | r => s.draw.2.setCore c (markStall r k' (.cvt c a))
    else s

/-- A conversion that waited on a held retain slot resumes once the slot is free (R122). -/
def execRetainStallResume (c : Nat) (s : State) : Out :=
  onCore c s fun s =>
    let k := s.core c
    match k.held with
    | some (.cvt _ a) =>
      if k.retainStall ∧ !k.faulted ∧ !k.restarting ∧ k.firing then
        match runCvt c a s.free { k with held := none } with
        | .block => s
        | .wait => s
        | r => s.draw.2.setCore c (r.finish { k with held := none, retainStall := false } (.cvt c a))
      else s
    | _ => s

end Sys2Proof.Machine
end

