-- ==== Sys2Proof/Machine/Vector.lean ====
section
/-! DEFINITION. The vector unit (R57, R113, R114, R197, R198): IEEE 754 binary32 arithmetic to
nearest even with subnormals, every NaN the canonical one (R67). -/

namespace Sys2Proof.Machine

/-- The canonical FP32 NaN (R67). -/
def nan32 : Word := 0x7FC00000#32

/-- The word of a value, rounded to nearest even. -/
def word32 (v : Val) : Word := BitVec.ofNat 32 (Layout.fp32.roundVal .nearest v).1

/-- An infinity. -/
def inf32 (neg : Bool) : Word := BitVec.ofNat 32 (Layout.fp32.overflow neg)

/-- A NaN word becomes the canonical NaN (R57, R67). -/
def canon32 (w : Word) : Word := if f32 w.toNat = .nan then nan32 else w

/-- The sum of two values (IEEE 754): an exact zero of unlike signs is +0. -/
def valAdd (a b : Val) : Word :=
  match a, b with
  | .nan, _ => nan32
  | _, .nan => nan32
  | .inf n, .inf n' => if n = n' then inf32 n else nan32
  | .inf n, .fin _ _ _ => inf32 n
  | .fin _ _ _, .inf n => inf32 n
  | .fin n m e, .fin n' m' e' =>
    if m = 0 ∧ m' = 0 then word32 (.fin (n && n') 0 0)
    else
      let t := dyAdd (Val.signed n m, e) (Val.signed n' m', e')
      if t.1 = 0 then 0 else word32 (.fin (t.1 < 0) t.1.natAbs t.2)

/-- The exact product of two values, infinities included. -/
def valMul (a b : Val) : Val :=
  match a, b with
  | .nan, _ => .nan
  | _, .nan => .nan
  | .inf n, .inf n' => .inf (xor n n')
  | .inf n, .fin n' m _ => if m = 0 then .nan else .inf (xor n n')
  | .fin n m _, .inf n' => if m = 0 then .nan else .inf (xor n n')
  | .fin n m e, .fin n' m' e' => .fin (xor n n') (m * m') (e + e')

def neg32 (w : Word) : Word := canon32 (w ^^^ 0x80000000#32)
def abs32 (w : Word) : Word := canon32 (w &&& 0x7FFFFFFF#32)
def add32 (a b : Word) : Word := valAdd (f32 a.toNat) (f32 b.toNat)
def sub32 (a b : Word) : Word := valAdd (f32 a.toNat) (f32 (b ^^^ 0x80000000#32).toNat)
def mul32 (a b : Word) : Word := word32 (valMul (f32 a.toNat) (f32 b.toNat))
/-- a * b + c with one rounding. -/
def fma32 (a b c : Word) : Word := valAdd (valMul (f32 a.toNat) (f32 b.toNat)) (f32 c.toNat)

/-- a < b on values that are not NaN; both zeros are equal. -/
def valLt (a b : Val) : Bool :=
  match a, b with
  | .nan, _ => false
  | _, .nan => false
  | .inf n, .inf n' => n && !n'
  | .inf n, .fin _ _ _ => n
  | .fin _ _ _, .inf n => !n
  | .fin n m e, .fin n' m' e' => (dyAdd (Val.signed n m, e) (-(Val.signed n' m'), e')).1 < 0

/-- a = b on values that are not NaN. -/
def valEq (a b : Val) : Bool :=
  match a, b with
  | .nan, _ => false
  | _, .nan => false
  | a, b => !valLt a b && !valLt b a

def one32 : Word := 0x3F800000#32
def cmp32 (p : Bool) : Word := if p then one32 else 0
def lt32 (a b : Word) : Word := cmp32 (valLt (f32 a.toNat) (f32 b.toNat))
def eq32 (a b : Word) : Word := cmp32 (valEq (f32 a.toNat) (f32 b.toNat))
def le32 (a b : Word) : Word := cmp32 (valLt (f32 a.toNat) (f32 b.toNat) || valEq (f32 a.toNat) (f32 b.toNat))

/-- IEEE 754 minimum: NaN when either input is NaN, and -0 below +0. -/
def min32 (a b : Word) : Word :=
  let x := f32 a.toNat
  let y := f32 b.toNat
  if x = .nan ∨ y = .nan then nan32
  else if valLt x y then a else if valLt y x then b else a ||| b

/-- IEEE 754 maximum. -/
def max32 (a b : Word) : Word :=
  let x := f32 a.toNat
  let y := f32 b.toNat
  if x = .nan ∨ y = .nan then nan32
  else if valLt x y then b else if valLt y x then a else a &&& b

/-- a when c is neither zero nor NaN, else b. -/
def sel32 (a b c : Word) : Word :=
  let z := f32 c.toNat
  if z ≠ .nan ∧ c.toNat % 2 ^ 31 ≠ 0 then canon32 a else canon32 b

/-! ### Reciprocals, exponential and logarithm (R113, R114)

The spec bounds these results and does not fix them: a result is the correctly rounded value moved by a free number of units
in the last place, where it stays within the bound. The exact result is enclosed between two fractions. -/

/-- The unit in the last place of FP32 at a magnitude. -/
def ulp32 (x : Frac) : Frac :=
  Frac.ofDy 1 ((if x.n = 0 then Layout.fp32.emin else max x.log2 Layout.fp32.emin) - Layout.fp32.mb)

/-- Whether a magnitude lies within `b` units in the last place of an exact one. -/
def within (b : Nat) (x c : Frac) : Bool :=
  let d := Frac.mul ⟨b, 1⟩ (ulp32 x)
  Frac.le c (Frac.add x d) && Frac.le x (Frac.add c d)

/-- A finite FP32 word moved by `k` units in the last place, its sign kept: it stops at zero and at
infinity. -/
def ulpMove (w : Word) (k : Int) : Word :=
  let m : Int := (w.toNat % 2 ^ 31 : Nat)
  let x := m + k
  let y : Nat := if x < 0 then 0 else if 0x7F800000 < x then 0x7F800000 else x.toNat
  BitVec.ofNat 32 (y + w.toNat / 2 ^ 31 * 2 ^ 31)

/-- The magnitude of an FP32 word, infinity standing where the next binade would begin. -/
def wordMag (w : Word) : Frac := let p := Layout.fp32.magFrac (w.toNat % 2 ^ 31); Frac.ofDy p.1 p.2

/-- A free whole number from `-b` to `b`, numbered `n`. -/
def freeUlp (n b : Nat) : Int := (Config.freeNat n % (2 * b + 1) : Nat) - (b : Int)

/-- A result within `b` units in the last place of a magnitude that lies between `lo` and `hi` (R113): the rounded one, moved
by a free number of units where it stays within the bound. -/
def bounded (n b : Nat) (neg : Bool) (lo hi : Frac) : Word :=
  let p := Layout.fp32.roundMag .nearest lo
  let w := if p.2 then inf32 neg else BitVec.ofNat 32 (Layout.fp32.signBit neg + p.1)
  let m := ulpMove w (freeUlp n b)
  if within b lo (wordMag m) && within b hi (wordMag m) then m else w

/-- 1 / a within 1 ulp; 1 / 0 is an infinity (IEEE 754, R57). -/
def recip32 (n : Nat) (w : Word) : Word :=
  match f32 w.toNat with
  | .nan => nan32
  | .inf s => word32 (.fin s 0 0)
  | .fin s m e =>
    if m = 0 then inf32 s
    else
      let x := Frac.div ⟨1, 1⟩ (Frac.ofDy m e)
      bounded n 1 s x x

/-- The square root of a magnitude between two fractions, 50 bits below its unit apart. -/
def sqrtFrac (m : Nat) (e : Int) : Frac × Frac :=
  let e2 := if e % 2 = 0 then e else e - 1
  let m2 := if e % 2 = 0 then m else 2 * m
  let r := Nat.sqrt (m2 * 2 ^ 100)
  let up := if r * r = m2 * 2 ^ 100 then r else r + 1
  (Frac.scale ⟨r, 1⟩ (e2 / 2 - 50), Frac.scale ⟨up, 1⟩ (e2 / 2 - 50))

/-- 1 / √a within 1 ulp (R114: +0 gives +infinity, a negative gives NaN). R114 names no result for -0; IEEE 754, which
R57 names, gives -infinity (DEDUCED, log entry 154). -/
def rsqrt32 (n : Nat) (w : Word) : Word :=
  match f32 w.toNat with
  | .nan => nan32
  | .inf s => if s then nan32 else 0
  | .fin s m e =>
    if m = 0 then inf32 s
    else if s then nan32
    else
      let r := sqrtFrac m e
      bounded n 1 false (Frac.div ⟨1, 1⟩ r.1) (Frac.div ⟨1, 1⟩ r.2)

/-- 2^(2^-(j+1)) for j from 0, in units of 2^-64, by repeated square roots. -/
def expRoots : Nat → Nat → List Nat
  | 0, _ => []
  | n + 1, x => let r := Nat.sqrt (x * 2 ^ 64); r :: expRoots n r

/-- 2^f for the fraction whose bits below the point are the bits of `fbits` from bit 63 down, in
units of 2^-64, from below by less than 2^-40. -/
def expFrac (fbits : Nat) : Nat :=
  ((expRoots 48 (2 * 2 ^ 64)).zipIdx).foldl
    (fun a p => if fbits.testBit (63 - p.2) then a * p.1 / 2 ^ 64 else a) (2 ^ 64)

/-- 2^a within 2 ulp (R114: +0 below -149, +infinity from 128 on). -/
def exp2w (n : Nat) (w : Word) : Word :=
  match f32 w.toNat with
  | .nan => nan32
  | .inf s => if s then 0 else inf32 false
  | .fin s m e =>
    let v := Val.fin s m e
    if valLt v (.fin true 149 0) then 0
    else if !valLt v (.fin false 128 0) then inf32 false
    else
      -- a in units of 2^-64, rounded down
      let t : Int := Val.signed s m
      let x : Int := if 0 ≤ e + 64 then t * 2 ^ (e + 64).toNat else t / 2 ^ (-(e + 64)).toNat
      let whole := x / 2 ^ 64
      let fr := (x % 2 ^ 64).toNat
      let y := expFrac fr
      bounded n 2 false (Frac.ofDy y (whole - 64)) (Frac.ofDy (if fr = 0 then y else y + 2 ^ 24) (whole - 64))

/-- `k` bits of log2 of a number from 1 to 2 in units of 2^-64, most significant first. -/
def logBits : Nat → Nat → Nat → Nat
  | 0, _, acc => acc
  | n + 1, x, acc =>
    let y := x * x / 2 ^ 64
    if 2 ^ 65 ≤ y then logBits n (y / 2) (2 * acc + 1) else logBits n y (2 * acc)

/-- log2 a within 2 ulp (R114: +0 gives -infinity, a negative gives NaN). R114 names no result for -0; IEEE 754, which R57
names, gives -infinity (DEDUCED, log entry 154). -/
def log2w (n : Nat) (w : Word) : Word :=
  match f32 w.toNat with
  | .nan => nan32
  | .inf s => if s then nan32 else inf32 false
  | .fin s m e =>
    if m = 0 then inf32 true
    else if s then nan32
    else
      let k := m.log2
      let b := logBits 56 (m * 2 ^ 64 / 2 ^ k) 0
      -- the logarithm lies less than two units of 2^-56 above `t`, and at it for a power of two
      let t : Int := ((k : Int) + e) * 2 ^ 56 + b
      let u : Int := if m = 2 ^ k then t else t + 2
      if t = 0 ∧ m = 2 ^ k then 0
      else bounded n 2 (t < 0) (Frac.ofDy t.natAbs (-56)) (Frac.ofDy u.natAbs (-56))

/-! ### Rows -/

/-- The fixed pairwise tree of a row sum: element j meets j + 16, then 8, 4, 2, 1 (R113). -/
def rowSum : Nat → List Word → Word
  | 0, l => l.headD 0
  | n + 1, l =>
    let h := l.length / 2
    rowSum n (((l.take h).zip (l.drop h)).map (fun p => add32 p.1 p.2))

/-- The maximum of a row. -/
def rowMax (l : List Word) : Word :=
  match l with
  | [] => 0
  | a :: r => r.foldl max32 (canon32 a)

/-- A row operation, its result in every column of its row. -/
def byRow (f : List Word → Word) (l : List Word) : List Word :=
  (rowsOf 32 32 l).flatMap (fun r => List.replicate 32 (f r))

/-- The transpose of 32 rows of 32. -/
def transpose32 (l : List Word) : List Word :=
  (List.range 32).flatMap (fun j => (rowsOf 32 32 l).map (fun r => r.getD j 0))

/-- An unsigned number as FP32. -/
def natWord (n : Nat) : Word := word32 (.fin false n 0)

/-! ### Instructions -/

/-- The operand codes of a vector instruction: destination, sources, the scalar register and `NFMT`. -/
structure VecOps where
  vd : BitVec 4
  va : BitVec 4
  vb : BitVec 4
  vc : BitVec 4
  sr : BitVec 4
  nfmt : Bool
  deriving DecidableEq, Repr

/-- Reads the first `n` source operands in the order VA, VB, VC: their words, or the first fault. -/
def vSources (sr : BitVec 4) : List Nat → Core → Core × Except (Nat × Nat) (List (List Word))
  | [], k => (k, .ok [])
  | code :: r, k =>
    match vSource k code sr with
    | (k', .bad cause d) => (k', .error (cause, d))
    | (k', .words l) =>
      match vSources sr r k' with
      | (k'', .error e) => (k'', .error e)
      | (k'', .ok ls) => (k'', .ok (l :: ls))

/-- The first tile-register source whose format breaks R198, in the order VA, VB, VC (R746). -/
def vecFormatFault (k : Core) (codes : List Nat) : Option Nat :=
  (codes.find? (fun c => 4 ≤ c && c < 12 && (k.tile (c - 4)).fmt ≠ 1 && (k.tile (c - 4)).fmt ≠ 2)).map
    (fun c => (k.tile (c - 4)).fmt * 16)

/-- Whether a rekindle in progress holds back a vector instruction (R107). -/
def vecBusy (k : Core) (vd : Nat) (codes : List Nat) : Bool :=
  codes.any (fun c => c < 4 && k.accBusy c) || (vd < 4 && k.accBusy vd) ||
    (4 ≤ vd && vd < 12 && k.tileBusy (vd - 4))

/-- A vector instruction on a core (R197, R198): illegal codes first, then formats, then addresses;
`f` makes the result's words from the sources'. -/
def runVec (vop : Nat) (o : VecOps) (f : List (List Word) → List Word) (k : Core) : Ran :=
  let w := Sparse.rd k.pmem k.pc
  let codes := [o.va.toNat, o.vb.toNat, o.vc.toNat].take (vecArity vop)
  if resVec w.toNat then .fault k 0x01 w.toNat
  else
    match vecFormatFault k codes with
    | some d => .fault k 0x02 d
    | none =>
      if vecBusy k o.vd.toNat codes then .block
      else
        match vSources o.sr codes k with
        | (k', .error e) => .fault k' e.1 e.2
        | (k', .ok ls) => vDest k' o.vd.toNat o.sr o.nfmt (f ls)

/-- An elementwise function of one source. -/
def lane1 (f : Word → Word) (ls : List (List Word)) : List Word := (ls.getD 0 []).map f
/-- An elementwise function of two sources. -/
def lane2 (f : Word → Word → Word) (ls : List (List Word)) : List Word :=
  ((ls.getD 0 []).zip (ls.getD 1 [])).map (fun p => f p.1 p.2)
/-- An elementwise function of three sources. -/
def lane3 (f : Word → Word → Word → Word) (ls : List (List Word)) : List Word :=
  ((ls.getD 0 []).zip ((ls.getD 1 []).zip (ls.getD 2 []))).map (fun p => f p.1 p.2.1 p.2.2)
/-- An elementwise function of one source with a free value's number for each element. -/
def laneFree (n : Nat) (f : Nat → Word → Word) (ls : List (List Word)) : List Word :=
  (ls.getD 0 []).zipIdx.map (fun p => f (n + p.2) p.1)

/-- The frame of a vector instruction whose result is bounded and not fixed: it uses 1,024 free
values. -/
def issueFree (c : Nat) (i : Instr) (w : Word) (s : State) (f : Nat → Core → Ran) : Out :=
  issueS c i w fullMask s fun s k => ({ s with free := s.free + 1024 }, f s.free k)

/-- `VADD` (R198). -/
def execVadd (c : Nat) (vd va vb sr : BitVec 4) (nfmt : Bool) (s : State) : Out :=
  issue c (.vadd c vd va vb sr nfmt) (encVec 0 vd va vb 0 sr nfmt) fullMask s
    (runVec 0 ⟨vd, va, vb, 0, sr, nfmt⟩ (lane2 add32))
/-- `VSUB` (R198). -/
def execVsub (c : Nat) (vd va vb sr : BitVec 4) (nfmt : Bool) (s : State) : Out :=
  issue c (.vsub c vd va vb sr nfmt) (encVec 1 vd va vb 0 sr nfmt) fullMask s
    (runVec 1 ⟨vd, va, vb, 0, sr, nfmt⟩ (lane2 sub32))
/-- `VMUL` (R198). -/
def execVmul (c : Nat) (vd va vb sr : BitVec 4) (nfmt : Bool) (s : State) : Out :=
  issue c (.vmul c vd va vb sr nfmt) (encVec 2 vd va vb 0 sr nfmt) fullMask s
    (runVec 2 ⟨vd, va, vb, 0, sr, nfmt⟩ (lane2 mul32))
/-- `VMIN` (R198). -/
def execVmin (c : Nat) (vd va vb sr : BitVec 4) (nfmt : Bool) (s : State) : Out :=
  issue c (.vmin c vd va vb sr nfmt) (encVec 4 vd va vb 0 sr nfmt) fullMask s
    (runVec 4 ⟨vd, va, vb, 0, sr, nfmt⟩ (lane2 min32))
/-- `VMAX` (R198). -/
def execVmax (c : Nat) (vd va vb sr : BitVec 4) (nfmt : Bool) (s : State) : Out :=
  issue c (.vmax c vd va vb sr nfmt) (encVec 5 vd va vb 0 sr nfmt) fullMask s
    (runVec 5 ⟨vd, va, vb, 0, sr, nfmt⟩ (lane2 max32))
/-- `VCMPLT` (R198). -/
def execVcmplt (c : Nat) (vd va vb sr : BitVec 4) (nfmt : Bool) (s : State) : Out :=
  issue c (.vcmplt c vd va vb sr nfmt) (encVec 6 vd va vb 0 sr nfmt) fullMask s
    (runVec 6 ⟨vd, va, vb, 0, sr, nfmt⟩ (lane2 lt32))
/-- `VCMPLE` (R198). -/
def execVcmple (c : Nat) (vd va vb sr : BitVec 4) (nfmt : Bool) (s : State) : Out :=
  issue c (.vcmple c vd va vb sr nfmt) (encVec 7 vd va vb 0 sr nfmt) fullMask s
    (runVec 7 ⟨vd, va, vb, 0, sr, nfmt⟩ (lane2 le32))
/-- `VCMPEQ` (R198). -/
def execVcmpeq (c : Nat) (vd va vb sr : BitVec 4) (nfmt : Bool) (s : State) : Out :=
  issue c (.vcmpeq c vd va vb sr nfmt) (encVec 8 vd va vb 0 sr nfmt) fullMask s
    (runVec 8 ⟨vd, va, vb, 0, sr, nfmt⟩ (lane2 eq32))
/-- `VFMA` (R198). -/
def execVfma (c : Nat) (vd va vb vc sr : BitVec 4) (nfmt : Bool) (s : State) : Out :=
  issue c (.vfma c vd va vb vc sr nfmt) (encVec 3 vd va vb vc sr nfmt) fullMask s
    (runVec 3 ⟨vd, va, vb, vc, sr, nfmt⟩ (lane3 fma32))
/-- `VSEL` (R198). -/
def execVsel (c : Nat) (vd va vb vc sr : BitVec 4) (nfmt : Bool) (s : State) : Out :=
  issue c (.vsel c vd va vb vc sr nfmt) (encVec 9 vd va vb vc sr nfmt) fullMask s
    (runVec 9 ⟨vd, va, vb, vc, sr, nfmt⟩ (lane3 sel32))
/-- `VABS` (R198). -/
def execVabs (c : Nat) (vd va sr : BitVec 4) (nfmt : Bool) (s : State) : Out :=
  issue c (.vabs c vd va sr nfmt) (encVec 10 vd va 0 0 sr nfmt) fullMask s
    (runVec 10 ⟨vd, va, 0, 0, sr, nfmt⟩ (lane1 abs32))
/-- `VNEG` (R198). -/
def execVneg (c : Nat) (vd va sr : BitVec 4) (nfmt : Bool) (s : State) : Out :=
  issue c (.vneg c vd va sr nfmt) (encVec 11 vd va 0 0 sr nfmt) fullMask s
    (runVec 11 ⟨vd, va, 0, 0, sr, nfmt⟩ (lane1 neg32))
/-- `VRSUM` (R198). -/
def execVrsum (c : Nat) (vd va sr : BitVec 4) (nfmt : Bool) (s : State) : Out :=
  issue c (.vrsum c vd va sr nfmt) (encVec 16 vd va 0 0 sr nfmt) fullMask s
    (runVec 16 ⟨vd, va, 0, 0, sr, nfmt⟩ (fun ls => byRow (rowSum 5) (ls.getD 0 [])))
/-- `VRMAX` (R198). -/
def execVrmax (c : Nat) (vd va sr : BitVec 4) (nfmt : Bool) (s : State) : Out :=
  issue c (.vrmax c vd va sr nfmt) (encVec 17 vd va 0 0 sr nfmt) fullMask s
    (runVec 17 ⟨vd, va, 0, 0, sr, nfmt⟩ (fun ls => byRow rowMax (ls.getD 0 [])))
/-- `VMOV` (R198). -/
def execVmov (c : Nat) (vd va sr : BitVec 4) (nfmt : Bool) (s : State) : Out :=
  issue c (.vmov c vd va sr nfmt) (encVec 19 vd va 0 0 sr nfmt) fullMask s
    (runVec 19 ⟨vd, va, 0, 0, sr, nfmt⟩ (lane1 canon32))
/-- `VRECIP` (R198, R113, R114). -/
def execVrecip (c : Nat) (vd va sr : BitVec 4) (nfmt : Bool) (s : State) : Out :=
  issueFree c (.vrecip c vd va sr nfmt) (encVec 12 vd va 0 0 sr nfmt) s fun n =>
    runVec 12 ⟨vd, va, 0, 0, sr, nfmt⟩ (laneFree n recip32)
/-- `VRSQRT` (R198, R113, R114). -/
def execVrsqrt (c : Nat) (vd va sr : BitVec 4) (nfmt : Bool) (s : State) : Out :=
  issueFree c (.vrsqrt c vd va sr nfmt) (encVec 13 vd va 0 0 sr nfmt) s fun n =>
    runVec 13 ⟨vd, va, 0, 0, sr, nfmt⟩ (laneFree n rsqrt32)
/-- `VEXP2` (R198, R113, R114). -/
def execVexp2 (c : Nat) (vd va sr : BitVec 4) (nfmt : Bool) (s : State) : Out :=
  issueFree c (.vexp2 c vd va sr nfmt) (encVec 14 vd va 0 0 sr nfmt) s fun n =>
    runVec 14 ⟨vd, va, 0, 0, sr, nfmt⟩ (laneFree n exp2w)
/-- `VLOG2` (R198, R113, R114). -/
def execVlog2 (c : Nat) (vd va sr : BitVec 4) (nfmt : Bool) (s : State) : Out :=
  issueFree c (.vlog2 c vd va sr nfmt) (encVec 15 vd va 0 0 sr nfmt) s fun n =>
    runVec 15 ⟨vd, va, 0, 0, sr, nfmt⟩ (laneFree n log2w)
/-- `VTRANS` (R198): accumulators only. -/
def execVtrans (c : Nat) (vd va : BitVec 4) (s : State) : Out :=
  issue c (.vtrans c vd va) (encVec 18 vd va 0 0 0 false) 0xFFFFFF83#32 s
    (runVec 18 ⟨vd, va, 0, 0, 0, false⟩ (fun ls => (transpose32 (ls.getD 0 [])).map canon32))
/-- `VIOTR` (R198): the row number. -/
def execViotr (c : Nat) (vd sr : BitVec 4) (nfmt : Bool) (s : State) : Out :=
  issue c (.viotr c vd sr nfmt) (encVec 20 vd 0 0 0 sr nfmt) fullMask s
    (runVec 20 ⟨vd, 0, 0, 0, sr, nfmt⟩ (fun _ => (List.range 1024).map (fun j => natWord (j / 32))))
/-- `VIOTC` (R198): the column number. -/
def execViotc (c : Nat) (vd sr : BitVec 4) (nfmt : Bool) (s : State) : Out :=
  issue c (.viotc c vd sr nfmt) (encVec 21 vd 0 0 0 sr nfmt) fullMask s
    (runVec 21 ⟨vd, 0, 0, 0, sr, nfmt⟩ (fun _ => (List.range 1024).map (fun j => natWord (j % 32))))

end Sys2Proof.Machine
end

