-- ==== Sys2Proof/Machine/Queues.lean ====
section
/-! DEFINITION. The core's side of tile queues, word channels and inboxes: the QUE instructions
(R199 to R201) with `DROPR` (R284, R285, R299) and the inbox banks (R296, R297). -/

namespace Sys2Proof.Machine

/-! ### Queue descriptors (R279) -/

/-- The descriptor of queue `j` (0 to 35) of core index `i`; reset `PACKET_BEATS` 1. -/
def Cluster.descOf (x : Cluster) (i j : Nat) : Long := x.desc.get x.descInit (36 * i + j)
def descValid (d : Long) : Bool := nbit d.toNat 63
def descAdvisory (d : Long) : Bool := nbit d.toNat 62
def descDepth (d : Long) : Nat := fld d 56 6
def descRoute (d : Long) : Nat := fld d 44 12
def descBase (d : Long) : Nat := fld d 27 11 * 64
def descPacket (d : Long) : Nat := fld d 16 8
/-- The consumers of an output (R279). -/
def descConsumers (d : Long) : Nat := fld d 24 3 + 1
/-- The depth of an input tile queue: 0 encodes 64 (R279). -/
def inDepth (d : Long) : Nat := if descDepth d = 0 then 64 else descDepth d

/-- The descriptors of a core's queues by direction (R279). -/
def Cluster.inTile (x : Cluster) (i q : Nat) : Long := x.descOf i q
def Cluster.outTile (x : Cluster) (i q : Nat) : Long := x.descOf i (8 + q)
def Cluster.inWord (x : Cluster) (i q : Nat) : Long := x.descOf i (16 + q)
def Cluster.outWord (x : Cluster) (i q : Nat) : Long := x.descOf i (24 + q)
def Cluster.inboxDesc (x : Cluster) (i b : Nat) : Long := x.descOf i (32 + b)

/-- The number of entries of an output queue or channel: none when it does not exist (R279, `VALID`). -/
def outEntries (d : Long) : Nat := if descValid d then descDepth d else 0
/-- The size of a tile queue's entry in bytes (R279). -/
def descEntry (d : Long) : Nat := fld d 38 6 * 64
/-- Where entry `j` of a tile queue stands in core store (R279, R280). -/
def entryAt (d : Long) (j : Nat) : Nat := descBase d + j * descEntry d

/-! ### Tile queues -/

/-- Reads the frame that stands in an entry: its header, then its image (R262). -/
def Core.readEntry (k : Core) (a : Nat) : Core × Except Nat (List Byte) :=
  match k.load a 16 with
  | (k1, .error w) => (k1, .error w)
  | (k1, .ok h) =>
    let hd := frameHead h
    if headNull hd then (k1, .ok h)
    else
      match k1.load (a + 16) (fmtSize (headFmt hd)) with
      | (k2, .error w) => (k2, .error w)
      | (k2, .ok img) => (k2, .ok (h ++ img))

/-- The bank of an entry of an input tile queue (R283). -/
def entryBank (d : Long) (j : Nat) : Bool := (inDepth d + 1) / 2 ≤ j

/-- The oldest entry leaves a ring. -/
def nextEntry (d : Long) (rd : Nat) : Nat := (rd + 1) % inDepth d

/-- `TPOP` on a core whose queue has descriptor `d`: it waits for a beat, and an uncorrectable word of the entry raises
cause 0x10 (R160); the beat's credit returns at the end of the firing (R177, R199). A null beat brings no image: the
register's image is zero (log entry 28). `busy` is how many cycles the read waited for arrivals into its bank
(R283), counted in `STALL_CYCLES`. -/
def runTpop (d : Long) (busy : Nat) (q t : BitVec 3) (k : Core) : Ran :=
  let x := k.inq q.toNat
  if x.n = 0 ∨ !descValid d then .wait
  else if k.tileBusy t.toNat then .block
  else
    match k.readEntry (entryAt d x.rd) with
    | (k1, .error w) => .fault k1 0x10 w
    | (k1, .ok l) =>
      let b := frameBeat l
      let x' := { x with rd := nextEntry d x.rd, n := x.n - 1, lastPop := some b.last, atEnd := x.atEnd + 1 }
      .done (({ k1 with inQ := k1.inQ.put q.toNat x' }.bumpCount 0x48 busy).setTile t.toNat
        ⟨Sparse.ofList 0 b.img, b.tag, b.fmt, b.null⟩)

/-- The frames on their way into an input tile queue: those of the trains that the cluster's router delivers to it. -/
def State.comingTo (s : State) (k i q : Nat) : List Nat :=
  let x := s.cluster k
  (s.net.flights.filter (fun (f : Nat × Flight) => f.2.cluster = k && f.2.cargo.isFrame &&
    x.slots.any (fun (e : Nat × SlotEntry) => nbit e.2.w0.toNat 63 && fld e.2.w1 44 12 = f.2.cargo.route &&
      nbit e.2.w1.toNat 36 && fld e.2.w1 22 3 = 1 && fld e.2.w1 17 5 = i && fld e.2.w1 14 3 = q))).map (·.2.cargo.flits)

/-- The cycles that a `TPOP` waits for arrivals into its bank (R283): none unless a frame is being written there, and at
most one for each of its flits; how many of them fall on the read's cycles is a free value (log entry 161). -/
def State.bankWait (s : State) (c q : Nat) : Nat :=
  let d := (s.cluster (clusterOf c)).inTile (coreIdx c) q
  let x := (s.core c).inq q
  let most := if entryBank d ((x.rd + x.n) % inDepth d) = entryBank d x.rd then (s.comingTo (clusterOf c) (coreIdx c) q).sum
    else 0
  Config.freeNat s.free % (most + 1)

/-- The bits of `TPOP`, `TPUSH` and `TSTAT` that count: all but N, which these operations do not use (R199; log entry 13). Bits
[13:0] are zero, and a word in which they are not is illegal (R185). -/
def queMask : Word := 0xFFFF3FFF#32

/-- `TPOP` on a core, with what its router holds. -/
def runTpopS (c : Nat) (q t : BitVec 3) (s : State) (k : Core) : State × Ran :=
  (s.draw.2, runTpop ((s.cluster (clusterOf c)).inTile (coreIdx c) q.toNat) (s.bankWait c q.toNat) q t k)

/-- `TPOP` (R199). -/
def execTpop (c : Nat) (q t : BitVec 3) (s : State) : Out :=
  issueS c (.tpop c q t) (encQue 0 q.toNat t.toNat 0) queMask s (runTpopS c q t)

/-- A retained tile of this core that leaves by a queue is committed when the queue's consumers have
credited as many beats as have now been pushed (R123). -/
def Core.pushRetained (k : Core) (c : Nat) (tag : Long) (q n : Nat) : Core :=
  if tagSource tag = 1 ∧ tagCore tag = c then
    let x := k.ringAt (tagSlot tag)
    if x.held ≠ 0 ∧ x.gen = tagGen tag then
      { k with ring := k.ring.put (tagSlot tag) { x with held := 2, outs := x.outs ++ [(q, n)] } }
    else k
  else k

/-- The beat that `TPUSH` takes from a register: a null register goes as a null beat (R199, R263). -/
def TileReg.beat (r : TileReg) : Beat :=
  if r.null then ⟨r.fmt, true, false, 0, []⟩ else ⟨r.fmt, false, false, r.tag, Sparse.dense r.img 0 (fmtSize r.fmt)⟩

/-- `TPUSH` on a core whose queue has descriptor `d` (R201): the beat is written into the queue's next free entry in core
store (R280). Its route, sequence number and `LAST` are filled in as it leaves (R264). -/
def runTpush (c : Nat) (d : Long) (q t : BitVec 3) (k : Core) : Ran :=
  let x := k.outq q.toNat
  let n := outEntries d
  if n ≤ x.n then .wait
  else
    let r := k.tile t.toNat
    match k.storeBytes (entryAt d ((x.rd + x.n) % n)) (frameBytes 0 0 r.beat) with
    | (k1, some w) => .fault k1 0x10 w
    | (k1, none) =>
      let k2 := { k1 with outQ := k1.outQ.put q.toNat { x with n := x.n + 1, pushN := x.pushN + 1 } }
      .done (if r.null then k2 else k2.pushRetained c r.tag q.toNat (x.pushN + 1))

/-- The descriptor of an output tile queue, and of an output word channel, of a core. -/
def State.outDesc (s : State) (c q : Nat) : Long := (s.cluster (clusterOf c)).outTile (coreIdx c) q
def State.outWDesc (s : State) (c q : Nat) : Long := (s.cluster (clusterOf c)).outWord (coreIdx c) q

/-- `TPUSH` (R199). -/
def execTpush (c : Nat) (q t : BitVec 3) (s : State) : Out :=
  issue c (.tpush c q t) (encQue 1 q.toNat t.toNat 0) queMask s
    (runTpush c (s.outDesc c q.toNat) q t)

/-! ### Word channels -/

/-- The scalar registers of a tuple. -/
def Core.tupleRegs (k : Core) (reg n : Nat) : List Word := (List.range (n + 1)).map (fun j => k.s (reg + j))

/-- Writes a tuple's words to registers from `reg` on. -/
def Core.setRegs (k : Core) (reg : Nat) : List Word → Core
  | [] => k
  | w :: r => Core.setRegs (k.setS reg w) (reg + 1) r

/-- `WSEND` on a core (R199, R201): a run of registers past s15 is illegal (R185). On an advisory channel it never waits:
at a full buffer the tuple replaces the oldest, which counts as lost (R288; DEDUCED, log entry 162). The answer's
number is how many tuples were lost. -/
def runWsend (d : Long) (q : BitVec 3) (reg : BitVec 4) (n : BitVec 2) (k : Core) : Nat × Ran :=
  let x := k.outw q.toNat
  let put := fun (old : List (List Word)) =>
    Ran.done { k with outW := k.outW.put q.toNat { x with buf := old ++ [k.tupleRegs reg.toNat n.toNat] } }
  if 15 < reg.toNat + n.toNat then (0, .fault k 0x01 (Sparse.rd k.pmem k.pc).toNat)
  else if x.buf.length < outEntries d then (0, put x.buf)
  else if descAdvisory d && 0 < outEntries d then (1, put (x.buf.drop 1))
  else (0, .wait)

/-- `WSEND` on a core, with its router's count of lost tuples. -/
def runWsendS (c : Nat) (q : BitVec 3) (reg : BitVec 4) (n : BitVec 2) (s : State) (k : Core) : State × Ran :=
  let r := runWsend (s.outWDesc c q.toNat) q reg n k
  (if r.1 = 0 then s else s.modCluster (clusterOf c) (fun x => x.bump 0x80088 r.1), r.2)

/-- `WSEND` (R199). -/
def execWsend (c : Nat) (q : BitVec 3) (reg : BitVec 4) (n : BitVec 2) (s : State) : Out :=
  issueS c (.wsend c q reg n) (encQue 2 q.toNat reg.toNat n.toNat) fullMask s (runWsendS c q reg n)

/-- `WRECV` on a core (R199, R200, R287): a tuple of another length raises cause 0x0A and leaves the
registers unchanged; the tuple is taken and its credit returns. `advisory` channels return none (R288). -/
def runWrecv (advisory : Bool) (q : BitVec 3) (reg : BitVec 4) (n : BitVec 2) (k : Core) : Ran :=
  let x := k.inw q.toNat
  if 15 < reg.toNat + n.toNat then .fault k 0x01 (Sparse.rd k.pmem k.pc).toNat
  else
    match x.buf with
    | [] => .wait
    | t :: r =>
      let x' : InW := { x with buf := r, pend := if advisory then x.pend else x.pend + 1 }
      let k' := { k with inW := k.inW.put q.toNat x' }
      if t.length = n.toNat + 1 then .done (k'.setRegs reg.toNat t) else .fault k' 0x0A t.length

/-- Whether an input word channel is advisory (R288). -/
def State.inWAdvisory (s : State) (c q : Nat) : Bool :=
  descAdvisory ((s.cluster (clusterOf c)).inWord (coreIdx c) q)

/-- `WRECV` (R199). -/
def execWrecv (c : Nat) (q : BitVec 3) (reg : BitVec 4) (n : BitVec 2) (s : State) : Out :=
  issue c (.wrecv c q reg n) (encQue 3 q.toNat reg.toNat n.toNat) fullMask s
    (runWrecv (s.inWAdvisory c q.toNat) q reg n)

/-! ### Inboxes -/

/-- The bytes of a bank (R279, R280): 2^n. -/
def bankBytes (d : Long) : Nat := 2 ^ descDepth d

/-- Where a bank begins in core store (R296). -/
def bankAt (d : Long) (b : Bool) : Nat := descBase d + 64 + (if b then bankBytes d else 0)

/-- Writes the control word of an inbox (R296). It is part of a 64-bit word: one with an uncorrectable error stays as it
is, and the core logs cause 0x10 (R160). -/
def Core.inboxControl (k : Core) (d : Long) (x : Inbox) : Core :=
  match k.storeBytes (descBase d) (leBytes 4 ((b2n x.drain) <<< 31 + x.head / 8 % 2048)) with
  | (k', none) => k'
  | (k', some w) => k'.raise 0x10 w

/-- The banks swap when the draining bank is empty and the filling bank holds a packet; the packets
become readable, and each raises its event (R297, R169). -/
def Core.inboxSwap (k : Core) (d : Long) (b : Nat) : Core :=
  let x := k.inboxAt b
  if x.drainLens.isEmpty ∧ !x.fillLens.isEmpty then
    let x' : Inbox := ⟨!x.drain, 0, x.fillLens, []⟩
    (({ k with inbox := k.inbox.put b x' }).inboxControl d x').event 4 b x.fillLens.length
  else k

/-- The head packet is released (R299). -/
def Core.inboxRelease (k : Core) (d : Long) (b : Nat) : Core :=
  let x := k.inboxAt b
  match x.drainLens with
  | [] => k
  | n :: r =>
    let x' := { x with head := if r.isEmpty then 0 else x.head + n, drainLens := r }
    (({ k with inbox := k.inbox.put b x' }).inboxControl d x').inboxSwap d b

/-! ### DROPR -/

/-- How many of the `n` oldest held beats belong to the current packet, up to and with the one that carries `LAST`, and
whether that one is held. The look at `LAST` is no read under R160: it counts no correctable error and raises none
(DESIGN CHOICE, log entry 208: the spec does not say). -/
def Core.packetHead (k : Core) (d : Long) : Nat → Nat → Nat → Nat × Bool
  | 0, _, m => (m, false)
  | n + 1, j, m =>
    if headLast (frameHead (Sparse.dense k.store (entryAt d j) 16)) then (m + 1, true)
    else k.packetHead d n (nextEntry d j) (m + 1)

/-- `DROPR` on an input tile queue with descriptor `d` (R284, R285): the core, and how many beats it discarded. -/
def Core.dropTiles (k : Core) (d : Long) (q : Nat) : Core × Nat :=
  let x := k.inq q
  if x.lastPop = some false then
    let p := k.packetHead d x.n x.rd 0
    let x' := { x with rd := (x.rd + p.1) % inDepth d, n := x.n - p.1, atEnd := x.atEnd + p.1,
                       dropping := !p.2, lastPop := if p.2 then some true else x.lastPop }
    (({ k with inQ := k.inQ.put q x' }).unEvent 1 q p.1, p.1)
  else (k, 0)

/-- `DROPR` on a core. -/
def runDropr (c : Nat) (q : BitVec 4) (s : State) (k : Core) : State × Ran :=
  if 11 < q.toNat then (s, .fault k 0x01 (Sparse.rd k.pmem k.pc).toNat)
  else if q.toNat < 8 then
    let p := k.dropTiles ((s.cluster (clusterOf c)).inTile (coreIdx c) q.toNat) q.toNat
    (s.modCluster (clusterOf c) (fun x => x.bump 0x80078 p.2), .done p.1)
  else
    (s, .done (k.inboxRelease ((s.cluster (clusterOf c)).inboxDesc (coreIdx c) (q.toNat - 8)) (q.toNat - 8)))

/-- `DROPR` (R199). -/
def execDropr (c : Nat) (q : BitVec 4) (s : State) : Out :=
  issueS c (.dropr c q) (encQue 4 q.toNat 0 0) fullMask s (runDropr c q)

/-- `TSTAT` (R199): s(REG) := `FMT`, `NULL` and the tag's `SOURCE` of a tile register. -/
def execTstat (c : Nat) (t : BitVec 3) (rd : BitVec 4) (s : State) : Out :=
  issue c (.tstat c t rd) (encQue 5 t.toNat rd.toNat 0) queMask s fun k =>
    let x := k.tile t.toNat
    .done (k.setS rd.toNat (BitVec.ofNat 32 (x.fmt % 16 + (b2n x.null) <<< 4 + (tagSource x.tag) <<< 5)))

end Sys2Proof.Machine
end

