-- ==== Sys2Proof/Machine/AddressMap.lean ====
section
/-! DEFINITION. The global address map: which addresses exist (R362, R363), where each has its home
(R364, R355), and the home of a DRAM byte (R369). -/

namespace Sys2Proof.Machine

/-- The space of a global address. -/
def gaSpace (a : Nat) : Nat := a / 2 ^ 60

/-- Whether every byte of a request exists by R363 (for space 0x8 the window's own length is checked by
the port engine). -/
def State.gaValid (s : State) (a len : Nat) : Bool :=
  match gaSpace a with
  | 0 => nfld a 46 14 = 0 && nfld a 39 7 < 84 && nfld a 0 39 + len ≤ 0x1800000000
  | 1 => nfld a 34 26 = 0 && nfld a 21 13 < 8064 && nfld a 0 21 + len ≤ 0x200000
  | 2 => nfld a 35 25 = 0 && nfld a 22 13 < 8064 && nfld a 0 17 + len ≤ 0x18000
  | 3 => nfld a 36 24 = 0 && nfld a 23 13 < 8064 && nfld a 0 23 + len ≤ 0x800000
  | 4 => s.isPart (nfld a 56 4) &&
      nfld a 0 56 + len ≤ (s.partFields (nfld a 56 4)).length * 0x1800000000
  | 8 => nfld a 55 5 < 24 && nfld a 0 49 + len ≤ 2 ^ 49
  | _ => false

/-- The home of a DRAM byte: field, channel and channel address (R369). -/
def State.dramHome (s : State) (a : Nat) : Nat × Nat × Nat :=
  let fo : Nat × Nat :=
    if gaSpace a = 0 then (nfld a 39 7, nfld a 0 39)
    else
      let l := s.partFields (nfld a 56 4)
      let g := nfld a 0 56 / 4096
      ((l[g % l.length]?).getD 0, (g / l.length) * 4096 + nfld a 0 56 % 4096)
  let chunk := fo.2 / 2048
  (fo.1, chunk % 24, (chunk / 24) * 2048 + fo.2 % 2048)

/-- The flat address of a home: 2^32 bytes for each channel, 24 channels for each field. -/
def homeKey (f c ca : Nat) : Nat := (f * 24 + c) * 2 ^ 32 + ca

/-- The flat address of a DRAM byte's home. -/
def State.dramKey (s : State) (a : Nat) : Nat :=
  let h := s.dramHome a
  homeKey h.1 h.2.1 h.2.2

/-- The cluster that serves a channel address (R369). -/
def channelCluster (f c ca : Nat) : Nat :=
  f * 96 + (2 * (c / 6) + nfld ca 12 1) * 12 + 2 * (c % 6) + nfld ca 11 1

/-- The field that a port engine serves, and the row of its port clusters (R353). -/
def portField (n : Nat) : Nat := if n < 12 then n else n + 60
def portRow (n : Nat) : Nat := if n < 12 then 0 else 7

/-- The port cluster of a port engine in column `x` (R353). -/
def portClusterAt (n x : Nat) : Nat := portField n * 96 + portRow n * 12 + x

/-- The column of the port cluster nearest to wafer column `x`: the westmost outside the field (R355). -/
def portColumn (n x : Nat) : Nat :=
  let x0 := portField n % 12 * 12
  if x0 ≤ x ∧ x < x0 + 12 then 3 * ((x - x0) / 3) + 1 else 1

/-- The destination cluster of a packet for a port engine (R355). -/
def portCluster (n x : Nat) : Nat := portClusterAt n (portColumn n x)

/-- The home of an address for a request sent from wafer column `x` (R364): its cluster and unit. -/
def State.homeOf (s : State) (x a : Nat) : Nat × Endpoint :=
  match gaSpace a with
  | 1 => (nfld a 21 13, ⟨1, 0⟩)
  | 2 => (nfld a 22 13, ⟨0, nfld a 17 5⟩)
  | 3 => (nfld a 23 13, ⟨3, 0⟩)
  | 8 => (portCluster (nfld a 55 5) x, ⟨6, nfld a 55 5⟩)
  | _ =>
    let h := s.dramHome a
    (channelCluster h.1 h.2.1 h.2.2, ⟨2, h.2.1⟩)

/-- The logical core that a space 0x2 address names. -/
def storeCore (a : Nat) : Nat := nfld a 22 13 * 32 + nfld a 17 5

/-- A request cut at every 2,048-byte boundary of its global address (R342): the parts' addresses and
lengths. `n` bounds the number of parts. -/
def cutParts : Nat → Nat → Nat → List (Nat × Nat)
  | 0, _, _ => []
  | n + 1, a, len =>
    if len = 0 then []
    else
      let m := min len (2048 - a % 2048)
      (a, m) :: cutParts n (a + m) (len - m)

/-- The 64-byte lines that a range of global addresses touches. -/
def linesOf (a len : Nat) : List Nat :=
  if len = 0 then [] else (List.range ((a + len - 1) / 64 - a / 64 + 1)).map (fun j => (a / 64 + j) * 64)

end Sys2Proof.Machine
end

