-- ==== Sys2Proof/Machine/ClusterMemory.lean ====
section
/-! DEFINITION. Cluster memory as a cache of DRAM lines (R386 to R401). -/

namespace Sys2Proof.Machine

/-- `CACHE_WAYS` (R390). -/
def Cluster.ways (x : Cluster) : Nat := fld x.cmemCtrl 0 5

/-- Whether a whole access lies within one valid cacheable range (R389, R391). -/
def State.inRange (s : State) (x : Cluster) (a len : Nat) : Bool :=
  (List.range 4).any (fun j =>
    let lo := Sparse.rd x.ranges (2 * j)
    let hi := Sparse.rd x.ranges (2 * j + 1)
    let base := lo.toNat / 4096 * 4096
    let size := fld hi 0 32 * 4096
    nbit hi.toNat 63 && (gaSpace base = 0 || gaSpace base = 4) && s.gaValid base size &&
      base ≤ a && a + len ≤ base + size)

/-- Whether a read part or `LDG` from a core of the cluster is cacheable (R389). -/
def State.cacheable (s : State) (x : Cluster) (a len : Nat) : Bool :=
  x.ways ≠ 0 && (gaSpace a = 0 || gaSpace a = 4) && s.inRange x a len

/-- The set of a line (R394). -/
def cacheSet (key : Nat) : Nat := (nfld key 6 11) ^^^ ((key / 2 ^ 32) % 2048)

def Cluster.line? (x : Cluster) (key : Nat) : Option CLine :=
  (x.cache.get [] (cacheSet key)).find? (fun l => l.home = key)

/-- The cluster without the present lines that a test picks, counted in `LINES_INVALIDATED` (R390). -/
def Cluster.invalidate (x : Cluster) (p : Nat → Bool) : Cluster :=
  let n := (x.cache.map (fun e => e.2.countP (fun (l : CLine) => p l.home))).sum
  { x with cache := (x.cache.map (fun (e : Nat × List CLine) => (e.1, e.2.filter (fun (l : CLine) => !p l.home)))).filter (fun e => !e.2.isEmpty) }.bump
    0xA1078 n

/-- The node of a set's pseudo-LRU tree that divides the `n` ways from `lo` on into two halves, the lower one the larger. The
spec gives the tree no shape (DESIGN CHOICE, log entry 31). -/
def plruNode (lo n : Nat) : Nat := lo * 32 + n

/-- Way `v` is used: on its path every node notes the half that it lies in (true the lower). -/
def plruUse (v : Nat) : Nat → Nat → Nat → SMap Bool → SMap Bool
  | 0, _, _, t => t
  | fuel + 1, lo, n, t =>
    let h := (n + 1) / 2
    if n ≤ 1 then t
    else if v < lo + h then plruUse v fuel lo h (t.put (plruNode lo n) true)
    else plruUse v fuel (lo + h) (n - h) (t.put (plruNode lo n) false)

/-- The way that a fill replaces: at every node the half that was not used last. -/
def plruVictim (t : SMap Bool) : Nat → Nat → Nat → Nat
  | 0, lo, _ => lo
  | fuel + 1, lo, n =>
    let h := (n + 1) / 2
    if n ≤ 1 then lo
    else if t.get false (plruNode lo n) then plruVictim t fuel (lo + h) (n - h) else plruVictim t fuel lo h

/-- Way `v` of a set is its most recently used (R394). -/
def Cluster.useWay (x : Cluster) (set v : Nat) : Cluster :=
  { x with plru := x.plru.mod [] set (plruUse v 5 0 x.ways) }

/-- A present line is used. -/
def Cluster.touch (x : Cluster) (key : Nat) : Cluster :=
  match x.line? key with
  | some l => x.useWay (cacheSet key) l.way
  | none => x

/-- The flat homes of the lines that an access within one chunk touches. -/
def State.lineKeys (s : State) (a len : Nat) : List Nat :=
  let k0 := s.dramKey (a / 64 * 64)
  (List.range ((a + len - 1) / 64 - a / 64 + 1)).map (fun j => k0 + 64 * j)

/-- A lookup of a cacheable access (R395, R387): the cluster with its counts, and the bytes when every
line hits. -/
def Cluster.lookup (x : Cluster) (keys : List Nat) (off len : Nat) : Cluster × Option (List Byte) :=
  let bad := fun key => (x.line? key).any (fun l => l.errs.any (·.2))
  let x1 := x.invalidate (fun key => keys.contains key && bad key)
  if keys.all (fun key => (x1.line? key).isSome) then
    let ls := keys.filterMap (fun key => x1.line? key)
    let soft := (wordsOf off len).countP (fun w => (ls[w / 8]?).any (fun l => l.errs.look (w % 8) = some false))
    (((keys.foldl Cluster.touch x1).bump 0xA1050 1).bump 0xA1088 soft,
      some (sliceB (ls.flatMap (·.data)) off len))
  else (x1.bump 0xA1058 1, none)

/-- Installs a returned line that is not present (R394), in the lowest empty way of its set, or in place of the way that the
pseudo-LRU tree names. -/
def Cluster.install (x : Cluster) (key : Nat) (data : List Byte) : Cluster :=
  let set := cacheSet key
  let l := x.cache.get [] set
  if (x.line? key).isSome || x.ways = 0 then x
  else
    let v := ((List.range x.ways).find? (fun v => !l.any (fun e => e.way = v))).getD (plruVictim (x.plru.get [] set) 5 0 x.ways)
    ({ x with cache := x.cache.put set (⟨v, key, data, []⟩ :: l.filter (fun e => e.way ≠ v)) }.useWay set v).bump 0xA1060 1

/-- Marks open fills of lines that an acquire or a write of the cluster covers: they are not installed
(R396). -/
def Cluster.suppress (x : Cluster) (p : Nat → Bool) : Cluster :=
  { x with fills := x.fills.map (fun f => { f with lines := f.lines.map (fun l => (l.1, l.2 || p l.1)) }) }

/-- A write of bytes from home `key` on into a line. Of the words it touches, one that it covers whole takes a new code, and a
correctable error of one that it covers in part is corrected; an uncorrectable one stays (R387, read as R160; DEDUCED, log
entry 205). -/
def CLine.write (l : CLine) (key : Nat) (d : List Byte) : CLine :=
  let has := fun (j : Nat) => key ≤ l.home + j && l.home + j < key + d.length
  { l with
    data := (List.range 64).map (fun j => if has j then (d[l.home + j - key]?).getD 0 else (l.data[j]?).getD 0)
    errs := l.errs.filter (fun (e : Nat × Bool) =>
      let bytes := (List.range 8).map (fun j => has (8 * e.1 + j))
      !bytes.all id && (e.2 || !bytes.any id)) }

/-- The correctable errors of words that a write into a line covers in part: they are corrected and counted (R387). -/
def CLine.corrected (l : CLine) (key n : Nat) : Nat :=
  l.errs.countP (fun (e : Nat × Bool) =>
    let bytes := (List.range 8).map (fun j => decide (key ≤ l.home + 8 * e.1 + j ∧ l.home + 8 * e.1 + j < key + n))
    !e.2 && bytes.any id && !bytes.all id)

/-- A write of the cluster's own cores passes the controller (R397): present lines take the bytes. -/
def State.writeThrough (s : State) (x : Cluster) (a : Nat) (d : List Byte) : Cluster :=
  let key := s.dramKey a
  let keys := s.lineKeys a d.length
  let ls := keys.filterMap (fun k => x.line? k)
  let upd := fun (l : CLine) => if keys.contains l.home then l.write key d else l
  (({ x with cache := x.cache.map (fun (e : Nat × List CLine) => (e.1, e.2.map upd)) }.suppress (fun k => keys.contains k)).bump
    0xA1080 ls.length).bump 0xA1088 (ls.map (fun (l : CLine) => l.corrected key d.length)).sum

/-- The lines that an acquire covers (R399): all, or those whose home holds a byte of the range. -/
def State.acqCovers (s : State) (q : Acq) : Nat → Bool :=
  if q.all || 65536 < q.len then fun _ => true
  else
    let keys := ((linesOf q.ga q.len).filter (fun a =>
      (gaSpace a = 0 || gaSpace a = 4) && s.gaValid a 1)).map s.dramKey
    fun k => keys.contains k

/-- The address that a home has in the space of `base`: in space 0x4 that of the partition `base` names, if it holds
the home's field (R369, R373). -/
def State.addrIn (s : State) (base home : Nat) : Option Nat :=
  let z := home / 2 ^ 32 / 24 * 2 ^ 39 + (home % 2 ^ 32 / 2048 * 24 + home / 2 ^ 32 % 24) * 2048 + home % 2048
  if gaSpace base = 0 then some z
  else
    let q := nfld base 56 4
    let fs := s.partFields q
    let off := nfld z 0 39
    if fs.contains (nfld z 39 7) then
      some (4 * 2 ^ 60 + q * 2 ^ 56 + (off / 4096 * fs.length + fs.idxOf (nfld z 39 7)) * 4096 + off % 4096)
    else none

/-- The lines of the ranges of a cluster that have `PERIOD_INV` set (R391, R401). -/
def State.periodCovers (s : State) (x : Cluster) (home : Nat) : Bool :=
  (List.range 4).any (fun j =>
    let base := (Sparse.rd x.ranges (2 * j)).toNat / 4096 * 4096
    let hi := Sparse.rd x.ranges (2 * j + 1)
    let size := fld hi 0 32 * 4096
    nbit hi.toNat 63 && nbit hi.toNat 62 && (gaSpace base = 0 || gaSpace base = 4) && s.gaValid base size &&
      (s.addrIn base home).any (fun a => base ≤ a && a < base + size))

end Sys2Proof.Machine
end

