-- ==== Sys2Proof/Machine/MsgUnit.lean ====
section
/-! DEFINITION. The message interface of a core (R202 to R205): GET, PUT, LDG, STG, AMO, ACQ with its
completion, and FENCE. Each operation's packets wait at the core until `PACKET_INJECT`. -/

namespace Sys2Proof.Machine

/-- What `GET` and `PUT` check before anything is sent (R203): the offending value, if any. A misaligned
global address comes first, then the core store address with its length, for which s(RB) is the value (DESIGN CHOICE, log
entry 209: the spec does not say which of several values `FAULT_DETAIL` takes, nor which stands for a bad length). -/
def msgBad (ga so len : Nat) : Option Nat :=
  if ga % 4 ≠ 0 then some ga
  else if so % 4 ≠ 0 ∨ len % 4 ≠ 0 ∨ len < 4 ∨ 65536 < len ∨ storeSize < so + len then some so
  else none

/-- How many `GET`, `PUT` and `STG` operations a core has outstanding (R204). -/
def Core.outstanding (k : Core) : Nat :=
  k.ops.countP (fun p => p.2.kind = .get ∨ p.2.kind = .put ∨ p.2.kind = .stg)

/-- A request packet of core `c`, waiting at the core; its home is set at injection. -/
def State.request (s : State) (c typ cls txn len addr : Nat) : Packet :=
  let h := s.homeOf (clusterX (clusterOf c)) addr
  s.mkPacket (clusterOf c) ⟨0, coreIdx c⟩ h.1 h.2 typ cls txn len addr

/-- One read part (R389, R395): served from the cluster's cache, or sent, whole lines of it when it is
cacheable. `used` are the transaction numbers taken by the operation so far. -/
def readPart (c : Nat) (used : List Nat) (a len : Nat) (s : State) (k : Core) : State × ReqPart :=
  let x := s.cluster (clusterOf c)
  let t := k.txnFree (used ++ s.netTxns c)
  if s.cacheable x a len then
    match x.lookup (s.lineKeys a len) (a % 64) len with
    | (x', some d) => (s.setCluster (clusterOf c) x', ⟨t, a, len, true, d⟩)
    | (x', none) =>
      let a' := a / 64 * 64
      let n := (a + len + 63) / 64 * 64 - a'
      let p := { s.request c 0 0 t n a' with fill := true }
      ((s.setCluster (clusterOf c) x').addPacket p, ⟨t, a, len, false, []⟩)
  else (s.addPacket (s.request c 0 0 t len a), ⟨t, a, len, false, []⟩)

/-- Whether a write or an atomic of core `c` to a line of a cacheable access has not left the core yet: the access comes after
it in the order of issue (R183, R341, R410), and the cluster's copy does not show it before it passes the controller (R397). -/
def State.writeWaits (s : State) (c a len : Nat) : Bool :=
  s.cacheable (s.cluster (clusterOf c)) a len &&
    s.net.packets.any (fun (e : Nat × Packet) =>
      !e.2.injected && (e.2.typ = 1 || e.2.typ = 2) && e.2.src = ⟨0, coreIdx c⟩ &&
        clusterAt e.2.srcX e.2.srcY = clusterOf c && (gaSpace e.2.addr = 0 || gaSpace e.2.addr = 4) &&
        (s.lineKeys e.2.addr e.2.len).any (s.lineKeys a len).contains)

/-- The read parts of an operation. -/
def readParts (c : Nat) (k : Core) : List (Nat × Nat) → List ReqPart → State → State × List ReqPart
  | [], done, s => (s, done)
  | (a, n) :: r, done, s =>
    let p := readPart c (done.map (·.txn)) a n s k
    readParts c k r (done ++ [p.2]) p.1

/-- The write parts of an operation whose bytes are `d` (R325: at most 64 bytes go in the request class). -/
def writeParts (c : Nat) (k : Core) (d : List Byte) (a0 : Nat) :
    List (Nat × Nat) → List ReqPart → State → State × List ReqPart
  | [], done, s => (s, done)
  | (a, n) :: r, done, s =>
    let t := k.txnFree (done.map (·.txn) ++ s.netTxns c)
    let p := { s.request c 1 (if n ≤ 64 then 0 else 2) t n a with payload := sliceB d (a - a0) n }
    writeParts c k d a0 r (done ++ [⟨t, a, n, false, []⟩]) (s.addPacket p)

/-- An operation all of whose parts have their response takes effect (R202, R205): a failed one changes
nothing. -/
def Core.complete (k : Core) (o : MsgOp) : Core :=
  let data := o.parts.flatMap (·.data)
  let count := fun (k : Core) => if o.cnt then k.addCnt o.cn 1 else k
  if o.failed then k
  else
    match o.kind with
    | .get =>
      match k.storeBytes o.so data with
      | (k', none) => count k'
      | (k', some w) => k'.raise 0x10 w
    | .put => count k
    | .stg => count k
    | .ldg => k.setS o.rc (BitVec.ofNat 32 (ofLe data))
    | .amo => k.setS o.rc (BitVec.ofNat 32 (ofLe data))
    | .fetch _ => k

/-- The operation starts: it completes at once when the cache served all of it. -/
def Core.startOp (k : Core) (o : MsgOp) : Core :=
  if o.parts.all (·.done) then k.complete o else k.addOp o

/-- `GET` on a core (R202 to R204, R342, R400). -/
def runGet (c : Nat) (ra rb rc cn : BitVec 4) (cnt : Bool) (s : State) (k : Core) : State × Ran :=
  let ga := (k.pair ra.toNat).toNat
  let so := (k.s rb.toNat).toNat
  let len := (k.s rc.toNat).toNat
  if !evenReg ra.toNat then (s, .fault k 0x01 (Sparse.rd k.pmem k.pc).toNat)
  else
    match msgBad ga so len with
    | some d => (s, .fault k 0x03 d)
    | none =>
      if 16 ≤ k.outstanding ∨ k.acq.isSome then (s, .wait)
      else if (cutParts 34 ga len).any (fun q => s.writeWaits c q.1 q.2) then (s, .block)
      else
        let p := readParts c k (cutParts 34 ga len) [] s
        (p.1, .done (k.startOp ⟨.get, ga, so, len, rc.toNat, cn.toNat, cnt, p.2, false⟩))

/-- `PUT` on a core: its bytes are read from core store as it issues. -/
def runPut (c : Nat) (ra rb rc cn : BitVec 4) (cnt : Bool) (s : State) (k : Core) : State × Ran :=
  let ga := (k.pair ra.toNat).toNat
  let so := (k.s rb.toNat).toNat
  let len := (k.s rc.toNat).toNat
  if !evenReg ra.toNat then (s, .fault k 0x01 (Sparse.rd k.pmem k.pc).toNat)
  else
    match msgBad ga so len with
    | some d => (s, .fault k 0x03 d)
    | none =>
      if 16 ≤ k.outstanding then (s, .wait)
      else
        match k.load so len with
        | (k', .error w) => (s, .fault k' 0x10 w)
        | (k', .ok d) =>
          let p := writeParts c k' d ga (cutParts 34 ga len) [] s
          (p.1, .done (k'.addOp ⟨.put, ga, so, len, rc.toNat, cn.toNat, cnt, p.2, false⟩))

/-- `LDG` on a core: it waits for the response before the next instruction issues. -/
def runLdg (c : Nat) (ra rc : BitVec 4) (s : State) (k : Core) : State × Ran :=
  let ga := (k.pair ra.toNat).toNat
  if !evenReg ra.toNat then (s, .fault k 0x01 (Sparse.rd k.pmem k.pc).toNat)
  else if ga % 4 ≠ 0 then (s, .fault k 0x03 ga)
  else if k.acq.isSome then (s, .wait)
  else if s.writeWaits c ga 4 then (s, .block)
  else
    let p := readPart c [] ga 4 s k
    let o : MsgOp := ⟨.ldg, ga, 0, 4, rc.toNat, 0, false, [p.2], false⟩
    if p.2.done then (p.1, .done (k.complete o))
    else (p.1, .done { k.addOp o with waitOp := some k.ops.fresh })

/-- `STG` on a core. -/
def runStg (c : Nat) (ra rb cn : BitVec 4) (cnt : Bool) (s : State) (k : Core) : State × Ran :=
  let ga := (k.pair ra.toNat).toNat
  if !evenReg ra.toNat then (s, .fault k 0x01 (Sparse.rd k.pmem k.pc).toNat)
  else if ga % 4 ≠ 0 then (s, .fault k 0x03 ga)
  else if 16 ≤ k.outstanding then (s, .wait)
  else
    let p := writeParts c k (leBytes 4 (k.s rb.toNat).toNat) ga [(ga, 4)] [] s
    (p.1, .done (k.addOp ⟨.stg, ga, 0, 4, 0, cn.toNat, cnt, p.2, false⟩))

/-- `AMO` on a core. -/
def runAmo (c : Nat) (ra rb rc : BitVec 4) (op : BitVec 3) (s : State) (k : Core) : State × Ran :=
  let ga := (k.pair ra.toNat).toNat
  if !evenReg ra.toNat then (s, .fault k 0x01 (Sparse.rd k.pmem k.pc).toNat)
  else if ga % 4 ≠ 0 then (s, .fault k 0x03 ga)
  else if k.acq.isSome then (s, .wait)
  else
    let t := k.txnFree (s.netTxns c)
    let p := { s.request c 2 0 t 4 ga with
      amoOp := op.toNat, auxA := (k.s rb.toNat).toNat, auxB := (k.s rc.toNat).toNat }
    let o : MsgOp := ⟨.amo, ga, 0, 4, rc.toNat, 0, false, [⟨t, ga, 4, false, []⟩], false⟩
    (s.addPacket p, .done { k.addOp o with waitOp := some k.ops.fresh })

/-- `ACQ` on a core (R399): the lines go at issue, open fills of them are suppressed, and the core's next
lookups wait for its completion. An acquire behind one that is in progress waits. -/
def runAcq (c : Nat) (ra rb : BitVec 4) (all : Bool) (s : State) (k : Core) : State × Ran :=
  if !all && !evenReg ra.toNat then (s, .fault k 0x01 (Sparse.rd k.pmem k.pc).toNat)
  else if k.acq.isSome then (s, .wait)
  else
    let q : Acq := ⟨all, (k.pair ra.toNat).toNat, (k.s rb.toNat).toNat⟩
    let cov := s.acqCovers q
    (s.modCluster (clusterOf c) (fun x => (x.invalidate cov).suppress cov), .done { k with acq := some q })

/-- `FENCE` on a core: it waits until no `PUT` or `STG` is open. -/
def runFence (k : Core) : Ran :=
  if k.ops.any (fun p => p.2.kind = .put || p.2.kind = .stg) then .wait else .done k

/-- `GET` (R342). -/
def execGet (c : Nat) (ra rb rc cn : BitVec 4) (cnt : Bool) (s : State) : Out :=
  issueS c (.get c ra rb rc cn cnt) (encMsg 0 ra rb rc cn (b2n cnt)) 0xFFFFFF01#32 s (runGet c ra rb rc cn cnt)

/-- `PUT` (R342). -/
def execPut (c : Nat) (ra rb rc cn : BitVec 4) (cnt : Bool) (s : State) : Out :=
  issueS c (.put c ra rb rc cn cnt) (encMsg 1 ra rb rc cn (b2n cnt)) 0xFFFFFF01#32 s (runPut c ra rb rc cn cnt)

/-- `LDG` (R202). -/
def execLdg (c : Nat) (ra rc : BitVec 4) (s : State) : Out :=
  issueS c (.ldg c ra rc) (encMsg 2 ra 0 rc 0 0) 0xFFF0F000#32 s (runLdg c ra rc)

/-- `STG` (R202). -/
def execStg (c : Nat) (ra rb cn : BitVec 4) (cnt : Bool) (s : State) : Out :=
  issueS c (.stg c ra rb cn cnt) (encMsg 3 ra rb 0 cn (b2n cnt)) 0xFFFF0F01#32 s (runStg c ra rb cn cnt)

/-- `AMO` (R398, R202). -/
def execAmo (c : Nat) (ra rb rc : BitVec 4) (op : BitVec 3) (s : State) : Out :=
  issueS c (.amo c ra rb rc op) (encMsg 4 ra rb rc 0 op.toNat) 0xFFFFF007#32 s (runAmo c ra rb rc op)

/-- `ACQ` (R399). -/
def execAcq (c : Nat) (ra rb : BitVec 4) (all : Bool) (s : State) : Out :=
  issueS c (.acq c ra rb all) (encMsg 5 ra rb 0 0 (b2n all)) 0xFFFF0001#32 s (runAcq c ra rb all)

/-- An acquire completes (R399, R390): `ACQUIRES` grows and lookups of the core resume. -/
def execAcquireComplete (c : Nat) (s : State) : Out :=
  onCore c s fun s =>
    let k := s.core c
    when' k.acq.isSome s
      ((s.setCore c { k with acq := none }).modCluster (clusterOf c) (fun x => x.bump 0xA1070 1))

/-- `FENCE` (R202). -/
def execFence (c : Nat) (s : State) : Out :=
  issue c (.fence c) (encMsg 6 0 0 0 0 0) 0xFF000000#32 s runFence

end Sys2Proof.Machine
end

