-- ==== Sys2Proof/Machine/Sequencer.lean ====
section
/-! DEFINITION. The sequencer (R164 to R182), the release of instructions held at issue (R183), the
period restart of a core (R212 to R215) and mordant in a core (R143 to R145). -/

namespace Sys2Proof.Machine

/-! ### The firing rule -/

/-- The counters that a station slot's `MASK` names (R171). -/
def Core.maskOf (k : Core) (j : Nat) : List Nat :=
  (List.range 16).filter (fun n => nbit (k.station j 1).toNat n)

/-- Whether slot `j` is eligible (R173). -/
def Core.eligible (k : Core) (j : Nat) : Bool :=
  nbit (k.station j 0).toNat 31 &&
    (k.maskOf j).all (fun n => (k.thr n).toNat ≤ (Sparse.rd k.cnt n).toNat)

/-- The slot that the firing rule chooses: the search starts after the slot that fired last (R173). -/
def Core.choose (k : Core) : Option Nat :=
  ((List.range 8).map (fun j => (k.lastStation + 1 + j) % 8)).find? k.eligible

/-- The thresholds of a list of counters subtracted. -/
def Core.consume (k : Core) : List Nat → Core
  | [] => k
  | n :: r => Core.consume { k with cnt := Sparse.wr k.cnt n (Sparse.rd k.cnt n - k.thr n) } r

/-- The firing of slot `j` starts (R173). -/
def Core.fire (k : Core) (j : Nat) : Core :=
  let k1 := k.consume (k.maskOf j)
  let w0 := (k1.station j 0).toNat
  { k1 with
    curStation := j
    lastStation := j
    acct := nfld w0 29 2
    stations := Sparse.wr k1.stations (4 * j + 3) (k1.station j 3 + 1)
    pc := nfld w0 0 11
    firing := true
    ended := false
    held := none
    waitOp := none
    stayAwake := false }

/-- Whether the firing rule is applied at all (R173). -/
def Core.mayFire (k : Core) : Bool :=
  k.run && !k.faulted && !k.restarting && !k.firing && !k.inReset

/-! ### The end of a firing (R177) -/

/-- Every operation of the firing is complete (R177 step 2). -/
def Core.drained (k : Core) : Bool :=
  k.ops.isEmpty && k.rk.isNone && k.acq.isNone && k.outQ.all (fun p => p.2.n = 0) &&
    k.outW.all (fun p => p.2.buf.isEmpty)

/-- The credits of the firing's pops become due to their producers (R177 step 3, R285). -/
def InQ.settle (x : InQ) : InQ := { x with pend := x.pend + x.atEnd, atEnd := 0 }

/-- A tile that did not leave the core commits at the end of the producing firing (R123). -/
def RetSlot.settle (x : RetSlot) : RetSlot := if x.held = 1 then { x with held := 0, outs := [] } else x

/-- The firing ends (R177 steps 3 to 5). -/
def Core.endFiring (k : Core) : Core :=
  { k with
    inQ := k.inQ.mapV InQ.settle
    ring := k.ring.mapV RetSlot.settle
    firing := false
    ended := false
    teBusy := none }.bumpCount 0x20 1

/-- `END` completes (R177). -/
def execEndComplete (c : Nat) (s : State) : Out :=
  onCore c s fun s =>
    let k := s.core c
    when' (k.ended && k.firing && !k.faulted && k.drained) s (s.setCore c k.endFiring)

/-- A firing of more than `LIMIT` * 256 cycles raises cause 0x06 with the cycles elapsed (R175). -/
def execFiringOverrun (c cycles : Nat) (s : State) : Out :=
  onCore c s fun s =>
    let k := s.core c
    let limit := fld (k.station k.curStation 0) 16 11
    when' (k.firing && !k.faulted && limit ≠ 0 && limit * 256 < cycles) s (s.setCore c (k.raise 0x06 cycles))

/-! ### Register writes of the sequencer -/

/-- A write of the first word of `FAULT_LOG`: a 1 in `VALID` clears it (R211, R213). -/
def Core.writeLog (k : Core) (v : Word) : Core :=
  if nbit v.toNat 31 then { k with log := { k.log with valid := false } } else k

/-- The field controller clears the fault log by a write of 1 to `VALID` (R213): it has posted the fault's record, and the
core has acknowledged a restart since and raised no fault after it. The period that follows does not start before
(`State.logsClear`). -/
def execFaultLogClear (c : Nat) (v : Word) (s : State) : Out :=
  onCore c s fun s =>
    let k := s.core c
    when' (k.logPosted && k.restarted && !k.faulted) s (s.setCore c (k.writeLog v))

/-! ### Smoulder -/

/-- `IDLE_DELAY`, 0 behaving as 1 (R164). -/
def Core.idleDelay (k : Core) : Nat := max 1 (fld k.seqCtrl 8 8)

/-- What keeps a core awake (R178). A slot whose counters reach their thresholds while `RUN` is 0 is not eligible, since
the firing rule does not apply (DESIGN CHOICE, log entry 163: the spec does not say). -/
def Core.idleNow (k : Core) : Bool :=
  nbit k.seqCtrl.toNat 1 && !k.firing && !(k.run && k.choose.isSome) && k.rk.isNone && k.ops.isEmpty &&
    k.acq.isNone && k.mordant.isNone && !k.restarting && !k.smoulder && !k.inReset && !k.dead

/-- A kindle event (R181): a core in smoulder is to kindle, and one in its idle delay stays awake (R179): the entry that the
delay led to is refused. What ends the delay otherwise clears the mark: a firing, a command that is pending, and
`SMOULDER_EN` 0 (R178). -/
def Core.kindleEvent (k : Core) : Core :=
  if k.smoulder && k.kindle = 0 then { k with kindle := 1 } else { k with stayAwake := k.stayAwake || k.idleNow }

/-- Every counter takes its `COUNTER_INIT` (R170). -/
def Core.loadCounters (k : Core) : Core := { k with cnt := k.cinit }

/-- A write of `SEQ_CTRL` (R164, R12): reserved bits keep zero; `RUN` from 0 to 1 loads the counters
and kindles the core (R170, R181). -/
def Core.writeSeqCtrl (k : Core) (v : Word) : Core :=
  let k' := { k with seqCtrl := v &&& 0x0000FF03#32, stayAwake := k.stayAwake && nbit v.toNat 1 }
  if !k.run && k'.run then k'.loadCounters.kindleEvent else k'

/-- `SEQ_CTRL` written (R170). -/
def execSeqCtrlWrite (c : Nat) (v : Word) (s : State) : Out :=
  onCore c s fun s => when' (!s.coreGone c) s (s.setCore c ((s.core c).writeSeqCtrl v))

/-- A write of `RETAIN_CTRL` (R152, R153, R18): a depth above 32 or a base above 47 keeps the field;
nothing changes when the ring written or the ring that would result passes slot 48, or a slot is held. The spec gives the base
the range 0 to 47 and calls no value above it reserved: that such a base keeps the field is the model's (DESIGN CHOICE,
log entry 8). -/
def Core.writeRetainCtrl (k : Core) (v : Word) : Core :=
  let d := if 32 < fld v 21 6 then k.retainDepth else fld v 21 6
  let b := if 47 < fld v 11 6 then k.retainBase else fld v 11 6
  if 48 < fld v 11 6 + fld v 21 6 || 48 < b + d || k.ring.any (fun p => p.2.held ≠ 0) then k
  else { k with retainCtrl := BitVec.ofNat 32 (d <<< 21 + b <<< 11) }

/-- `RETAIN_CTRL` written (R153). -/
def execRetainCtrlWrite (c : Nat) (v : Word) (s : State) : Out :=
  onCore c s fun s => when' (!s.coreGone c) s (s.setCore c ((s.core c).writeRetainCtrl v))

/-- A core gives its kindle permit back (R608). -/
def State.freePermit (s : State) (c : Nat) : State :=
  let r := c / 32 / 96 % 12
  let x := s.regions.get RegionSt.reset r
  if x.held.contains c then { s with regions := s.regions.put r { x with held := x.held.filter (· ≠ c) } } else s

/-- A core enters smoulder in fabric cycle `cycles`, at `ns` of wafer time: its awake cycles are counted (R162). -/
def Core.toSmoulder (k : Core) (cycles ns : Nat) : Core :=
  { k with counts := Sparse.wr k.counts 0x28 (k.awakeCycles cycles), smoulder := true, kindle := 0, since := cycles,
           sinceNs := ns }

/-- A core leaves smoulder: its ticks are counted (R162). -/
def Core.leaveSmoulder (k : Core) (cycles ns : Nat) : Core :=
  { k with counts := Sparse.wr k.counts 0x30 (k.smoulderTicks ns), smoulder := false, kindle := 0, since := cycles,
           sinceNs := ns }

/-- After `IDLE_DELAY` idle cycles a core enters smoulder (R178), unless a kindle event came during the delay: then it
stays awake, and a new delay begins (R179). -/
def execSmoulderEntry (c idle : Nat) (s : State) : Out :=
  onCore c s fun s =>
    let k := s.core c
    if k.stayAwake then s.setCore c { k with stayAwake := false }
    else when' (k.idleNow && k.idleDelay ≤ idle) s ((s.setCore c (k.toSmoulder (s.fabricIn (coreRegion c)) s.wt)).freePermit c)

/-! ### Release of a held instruction (R183, R201) -/

/-- Runs the instruction that a core holds at issue again. -/
def rerun (c : Nat) (i : Instr) (s : State) (k : Core) : State × Ran :=
  match i with
  | .cwait _ cn imm => (s, runCwait cn imm k)
  | .tpop _ q t => runTpopS c q t s k
  | .tpush _ q t => (s, runTpush c (s.outDesc c q.toNat) q t k)
  | .wsend _ q reg n => runWsendS c q reg n s k
  | .wrecv _ q reg n => (s, runWrecv (s.inWAdvisory c q.toNat) q reg n k)
  | .get _ ra rb rc cn cnt => runGet c ra rb rc cn cnt s k
  | .put _ ra rb rc cn cnt => runPut c ra rb rc cn cnt s k
  | .ldg _ ra rc => runLdg c ra rc s k
  | .stg _ ra rb cn cnt => runStg c ra rb cn cnt s k
  | .amo _ ra rb rc op => runAmo c ra rb rc op s k
  | .acq _ ra rb all => runAcq c ra rb all s k
  | .fence _ => (s, runFence k)
  | _ => (s, .block)

/-- Whether the cycles a held instruction waited count in `STALL_CYCLES`: those on a queue, channel,
credit or message response, and not a `CWAIT`'s (R162). -/
def countsStall (i : Instr) : Bool :=
  match i with
  | .cwait _ _ _ => false
  | _ => true

/-- An instruction held at issue issues once its wait ends, having waited `cycles` (R183, R162); a core
that waits for a response goes on once it has come. -/
def execIssueStallRelease (c cycles : Nat) (s : State) : Out :=
  onCore c s fun s =>
    let k := s.core c
    if !k.firing || k.faulted || k.restarting || k.inReset then s
    else
      match k.held with
      | some i =>
        match rerun c i s { k with held := none } with
        | (_, .wait) => s
        | (_, .block) => s
        | (s', r) =>
          let k' := r.finish { k with held := none } i
          s'.setCore c (if countsStall i then k'.bumpCount 0x48 cycles else k')
      | none =>
        match k.waitOp with
        | some n =>
          when' (!k.ops.has n) s (s.setCore c ({ k with waitOp := none }.bumpCount 0x48 cycles))
        | none => s

/-- A register file or sequencer parity error: a core fault of cause 0x21 (R208). -/
def execRegisterFileParityError (c : Nat) (unit : Long) (s : State) : Out :=
  onCore c s fun s =>
    let k := s.core c
    when' (!k.inReset) s (s.setCore c (k.raise 0x21 unit.toNat))

/-! ### Period restart (R212 to R214) -/

/-- A core whose logged class is 2 ignores the restart (R214). -/
def Core.ignoresRestart (k : Core) : Bool := k.inReset || (k.faulted && k.log.valid && k.log.cls = 2)

/-- The `GET` and `PUT` operations, whose requests R342 counts. -/
def MsgOp.counted (o : MsgOp) : Bool := o.kind = .get || o.kind = .put

/-- The transaction numbers of the `GET` and `PUT` parts that a restart leaves abandoned (R342). -/
def Core.goneAfter (k : Core) : List Nat :=
  let txns := fun (many : Bool) => (k.ops.filter (fun o => o.2.counted = many)).flatMap (fun o =>
    (o.2.parts.filter (fun q => !q.done)).map (·.txn))
  (k.gone.filter (fun t => !(txns false).contains t) ++ txns true).eraseDups

/-- The restart of a core (R212): the firing and its operations are abandoned, counters load, held retain slots are released
with their generations, and `FAULTED` and `FIRING` clear. What waits in its outbound queues is discarded (R228). -/
def Core.restart (k : Core) : Core :=
  { k with
    rk := none
    gone := k.goneAfter
    ops := []
    held := none
    waitOp := none
    acq := none
    teBusy := none
    retainStall := false
    stayAwake := false
    between := true
    ended := false
    outQ := k.outQ.mapV (fun x => { x with n := 0, pushN := x.sentN, pktN := 0 })
    outW := k.outW.mapV (fun x => { x with buf := [] })
    cnt := k.cinit
    ring := k.ring.mapV (fun x => { x with held := 0, outs := [] })
    inQ := k.inQ.mapV (fun x => { x with atEnd := 0 })
    faulted := false
    firing := false
    restarting := false
    acks := k.acks ++ [0x04] }

/-! ### Mordant (R143 to R145) -/

def ScaleSlot.kind (x : ScaleSlot) : Nat := fld x.ctrl 28 4
def ScaleSlot.hmin (x : ScaleSlot) : Nat := fld x.ctrl 24 2
def ScaleSlot.hmax (x : ScaleSlot) : Nat := fld x.ctrl 22 2
def ScaleSlot.h (x : ScaleSlot) : Nat := fld x.ctrl 26 2
def ScaleSlot.quiet (x : ScaleSlot) : Nat := fld x.ctrl 18 4
def ScaleSlot.frozen (x : ScaleSlot) : Bool := nbit x.ctrl.toNat 17

/-- A slot with its headroom and quiet count set. -/
def ScaleSlot.setH (x : ScaleSlot) (h q : Nat) : ScaleSlot :=
  { x with ctrl := setFld (setFld x.ctrl 26 2 h) 18 4 q }

/-- The headroom step of a commit (R144). -/
def ScaleSlot.headroom (x : ScaleSlot) : ScaleSlot :=
  if 0 < x.satElements then x.setH (min (x.h + 1) x.hmax) 0
  else if 0 < x.conversions then
    if x.quiet + 1 = 8 then x.setH (max (x.h - 1) x.hmin) 0 else x.setH x.h (x.quiet + 1)
  else x

/-- A positive magnitude rounded upwards to FP32, at most the largest finite one. -/
def upFp32 (f : Frac) : Nat :=
  let r := Layout.fp32.roundMag .up f
  if r.2 then 0x7F7FFFFF else r.1

/-- The `COMMITTED` word of a slot with an FP32 scale (R144): the target, and not below half the old one. -/
def commitFp32 (q : Nat) (old : Word) (v : Frac) : Nat :=
  let o := if 0 < old.toNat ∧ old.toNat < 0x7F800000 then upFp32 (Frac.div (f32 old.toNat).mag ⟨2, 1⟩) else 0
  max (upFp32 (Frac.div v ⟨q, 1⟩)) o

/-- The `COMMITTED` word of a slot with an E8M0 scale (R144). -/
def commitE8 (m : Nat) (old : Word) (v : Frac) : Nat :=
  let t := (min (max (127 + e8Exp m v) 0) 254).toNat
  let o := if old.toNat ≤ 254 then old.toNat else 0
  max t (o - 1)

/-- The new scale of a slot (R144). -/
def ScaleSlot.rescale (x : ScaleSlot) : ScaleSlot :=
  let a := (f32 x.amax.toNat).mag
  if 0 < x.conversions ∧ a.n ≠ 0 then
    let v := a.scale x.h
    let w := match x.kind with
      | 1 => commitFp32 2688 x.committed v
      | 2 => commitFp32 127 x.committed v
      | 3 => commitE8 28 x.committed v
      | 4 => commitE8 6 x.committed v
      | 5 => commitE8 7 x.committed v
      | _ => x.committed.toNat
    { x with committed := BitVec.ofNat 32 w }
  else x

/-- The statistics of a slot cleared. -/
def ScaleSlot.clear (x : ScaleSlot) : ScaleSlot := { x with amax := 0, conversions := 0, satElements := 0 }

/-- A slot under a mordant command (R144, R145). A commit leaves a slot of `KIND` 0 alone. -/
def ScaleSlot.mordant (commit : Bool) (x : ScaleSlot) : ScaleSlot :=
  if !commit then x.clear
  else if x.kind = 0 then x
  else if x.frozen then x.clear
  else x.headroom.rescale.clear

/-- The core processes its slots, clears `RK_USED` and acknowledges (R143). -/
def Core.processSlots (k : Core) (commit : Bool) : Core :=
  { k with
    scale := k.scale.mapV (ScaleSlot.mordant commit)
    rkUsed := []
    mordant := none
    acks := k.acks ++ [if commit then 0x05 else 0x06] }

/-- Once its engines are idle, a core processes its slots (R143). A conversion that waits on a held retain slot does not keep the
format converter from being idle (DESIGN CHOICE, log entry 206: the spec does not say). -/
def execMordantSlotProcess (c : Nat) (s : State) : Out :=
  onCore c s fun s =>
    let k := s.core c
    match k.mordant with
    | some b => when' (k.rk.isNone && !k.smoulder && !k.inReset) s (s.setCore c (k.processSlots b))
    | none => s

end Sys2Proof.Machine
end

