-- ==== Sys2Proof/Machine/Sched.lean ====
section
/-! DEFINITION. The scheduled plane (R257 to R306): slot tables, departures, hops and sinks, credits,
combining queues, advisory queues, steering units (R217 to R235) and the drop window. -/

namespace Sys2Proof.Machine

/-! ### Units -/


def State.setField (s : State) (f : Nat) (x : FieldSt) : State := { s with fields := s.fields.put f x }
def State.modField (s : State) (f : Nat) (g : FieldSt → FieldSt) : State := s.setField f (g (s.field f))
def State.part (s : State) (p : Nat) : PartSt := s.parts.get PartSt.reset p
def State.setPart (s : State) (p : Nat) (x : PartSt) : State := { s with parts := s.parts.put p x }
def State.modPart (s : State) (p : Nat) (g : PartSt → PartSt) : State := s.setPart p (g (s.part p))

/-- The partition of a cluster. -/
def State.partOfCluster (s : State) (k : Nat) : Nat := s.partOfRegion (regionOfCluster k)


/-- Whether a cluster's scheduled-plane router works: its field is not lost or void (R27), and its routers are neither
failed nor failed in service (R24, R35). -/
def State.spRuns (s : State) (k : Nat) : Bool :=
  s.fieldState (fieldOf k) ≠ 2 && s.fieldState (fieldOf k) ≠ 3 && s.clusterState k ≠ 2 && s.clusterState k ≠ 4

/-! ### Fault records on their way, and partition faults (R677, R686) -/

/-- A fault record sets out for the MSC (R686): `src` is the field, or 84 + a region, or 96 for the MSC. -/
def State.post (s : State) (src scope source inst cls cause action part detail : Nat) : State :=
  let r : FaultRec := ⟨s.wt, 0, scope, source, inst, cls, cause, action, part, detail⟩
  { s with msc := { s.msc with posted := s.msc.posted ++ [(src, r)] } }

/-- A fault record of a field. -/
def State.postField (s : State) (f source cls cause action detail : Nat) : State :=
  s.post f 2 source f cls cause action (s.partOfRegion (f % 12)) detail

/-- A partition faults (R677): a partition reset that removes the graph waits for the running period's end. -/
def State.faultPart (s : State) (p : Nat) : State :=
  if s.num (o6PartitionState p) = 3 then s
  else
    ((s.setNum (o6PartitionState p) 3).addNum (o6PartitionFaults p) 1).modPart p (fun x => { x with reset? := some true })

/-- A region that carries traffic: neither out of service nor lost (R43). -/
def State.regionUp (s : State) (r : Nat) : Bool := s.num (o1RegionState r) ≠ 2 && s.num (o1RegionState r) ≠ 3

/-- How far an island reaches west, and east, of a region. -/
def State.west (s : State) : Nat → Nat
  | 0 => 0
  | r + 1 => if s.regionUp r then s.west r else r + 1
def State.east (s : State) (r : Nat) : Nat → Nat
  | 0 => r
  | n + 1 => if r < 11 && s.regionUp (r + 1) then s.east (r + 1) n else r

/-- The regions of a region's island: the westmost and the eastmost. A region that is not up stands alone. -/
def State.island (s : State) (r : Nat) : Nat × Nat := if s.regionUp r then (s.west r, s.east r 11) else (r, r)

/-- The islands, west to east. -/
def State.islands (s : State) : List (Nat × Nat) :=
  (List.range 12).filterMap (fun r => if s.regionUp r ∧ s.west r = r then some (s.island r) else none)

/-- The clock root of an island (R570). -/
def rootOf (i : Nat × Nat) : Nat :=
  if i.1 ≤ 5 ∧ 5 ≤ i.2 then 41
  else if i.1 ≤ 6 ∧ 6 ≤ i.2 then 42
  else if i.2 < 5 then 36 + i.2 else 36 + i.1

/-- The fields of an island. -/
def islandFields (i : Nat × Nat) : List Nat := (List.range 84).filter (fun f => i.1 ≤ f % 12 && f % 12 ≤ i.2)

/-- The island of the wafer supervisor. -/
def State.mainIsland (s : State) : Nat × Nat := s.island (s.num o0WsPrimary % 12)

/-- Whether a column is in an island. -/
def inIsland (i : Nat × Nat) (r : Nat) : Bool := i.1 ≤ r && r ≤ i.2

/-- The fabric cycles of an island run on by `d`, and those of no other (R570): `State.fabric` counts those of the supervisor's. -/
def State.runIsland (s : State) (i : Nat × Nat) (d : Int) : State :=
  let move := fun (here : Bool) (by_ : Int) =>
    (List.range 12).foldl (fun (l : SMap Int) r => if inIsland i r = here then l.put r (l.get 0 r + by_) else l) s.clocks.lead
  if inIsland i (s.num o0WsPrimary % 12) then
    { s with fabric := ((s.fabric : Int) + d).toNat, clocks := { s.clocks with lead := move false (-d) } }
  else { s with clocks := { s.clocks with lead := move true d } }

/-- Once a command names the cycle `n` of a cluster's router, the fabric cycles of its island have run so far that the router's
count is at least `n` (R259, R570). -/
def State.atFabric (s : State) (k n : Nat) : State :=
  s.runIsland (s.island (fieldOf k % 12)) (n - s.fabricOf (fieldOf k) : Nat)

/-! ### Crossings and neighbours -/

/-- The cluster across port `p` (0 north, 1 east, 2 south, 3 west) of a cluster, on the wafer. -/
def neighbour (k p : Nat) : Option Nat :=
  let x := clusterX k
  let y := clusterY k
  match p with
  | 0 => if y = 0 then none else some (clusterAt x (y - 1))
  | 1 => if x = 143 then none else some (clusterAt (x + 1) y)
  | 2 => if y = 55 then none else some (clusterAt x (y + 1))
  | 3 => if x = 0 then none else some (clusterAt (x - 1) y)
  | _ => none

/-- The port that faces a port. -/
def facing (p : Nat) : Nat := (p + 2) % 4

/-- The crossing of a field's edge that a cluster's port faces: the edge (0 north, 1 east, 2 south, 3
west) and column or row, or none inside the field (R755). -/
def crossingOf (k p : Nat) : Option (Nat × Nat) :=
  let x := k % 12
  let y := k % 96 / 12
  match p with
  | 0 => if y = 0 then some (0, x) else none
  | 1 => if x = 11 then some (1, y) else none
  | 2 => if y = 7 then some (2, x) else none
  | 3 => if x = 0 then some (3, y) else none
  | _ => none

/-- The index of a crossing's byte among the stitch bytes of its field (R32). -/
def stitchIdx (edge i : Nat) : Nat :=
  match edge with
  | 0 => i
  | 1 => 32 + i
  | 2 => 12 + i
  | _ => 24 + i

/-- Whether an edge has a column or row of this number. -/
def edgeOk (edge i : Nat) : Bool := if edge % 2 = 0 then i < 12 else edge < 4 && i < 8

/-- The field across an edge. -/
def fieldAcross (f edge : Nat) : Option Nat :=
  match edge with
  | 0 => if 12 ≤ f then some (f - 12) else none
  | 1 => if f % 12 < 11 then some (f + 1) else none
  | 2 => if f < 72 then some (f + 12) else none
  | 3 => if 0 < f % 12 then some (f - 1) else none
  | _ => none

/-- The cluster of a field at an edge's column or row. -/
def edgeCluster (f edge i : Nat) : Nat :=
  match edge with
  | 0 => f * 96 + i
  | 1 => f * 96 + i * 12 + 11
  | 2 => f * 96 + 84 + i
  | _ => f * 96 + i * 12

/-- The trained byte of a crossing (R37). -/
def State.stitchByte (s : State) (f edge i : Nat) : Nat := (Sparse.rd (s.field f).dm.stitch (stitchIdx edge i)).toNat

def FieldSt.crossing (x : FieldSt) (edge i : Nat) : Crossing := x.crossings.get Crossing.reset (stitchIdx edge i)

/-- The cycles from a router's crossbar to the next one's (R258): 6, or a crossing's trained latency. -/
def State.linkLatency (s : State) (k p : Nat) : Nat :=
  match crossingOf k p with
  | none => 6
  | some (e, i) => s.stitchByte (fieldOf k) e i % 128

/-- A neighbour across port `p` belongs to the same partition (R51). -/
def State.withinPart (s : State) (k p : Nat) : Bool := (neighbour k p).any (fun k' => s.partOfCluster k' = s.partOfCluster k)

/-- The scheduled-plane lanes of a crossing are clamped while it retrains (R311), and an untrained one or
one without a partner carries nothing (R37). Neither lane carries traffic across a partition's boundary (R51). -/
def State.laneUp (s : State) (k p : Nat) : Bool :=
  s.spRuns k && s.withinPart k p && match crossingOf k p with
  | none => true
  | some (e, i) =>
    let b := s.stitchByte (fieldOf k) e i
    b ≠ 0 && b < 128 && !((s.field (fieldOf k)).crossing e i).retraining

/-! ### Slot entries (R268 to R271) -/

def SlotEntry.valid (x : SlotEntry) : Bool := nbit x.w0.toNat 63
def SlotEntry.lane (x : SlotEntry) : Nat := fld x.w0 62 1
def SlotEntry.turnSel (x : SlotEntry) : Nat := fld x.w0 59 3
def SlotEntry.cycle (x : SlotEntry) : Nat := fld x.w0 37 22
def SlotEntry.rep (x : SlotEntry) : Nat := fld x.w0 25 12
def SlotEntry.stride (x : SlotEntry) : Nat := fld x.w0 13 12
def SlotEntry.len (x : SlotEntry) : Nat := fld x.w0 7 6
def SlotEntry.retries (x : SlotEntry) : Nat := fld x.w0 4 3
def SlotEntry.retryStride (x : SlotEntry) : Nat := fld x.w1 56 8
def SlotEntry.check (x : SlotEntry) : Nat := fld x.w1 44 12
def SlotEntry.inPort (x : SlotEntry) : Nat := fld x.w1 41 3
/-- Whether an entry's flit leaves by port `p` (0 north to 3 west, 4 local): bit 40 is north. -/
def SlotEntry.out (x : SlotEntry) (p : Nat) : Bool := nbit x.w1.toNat (40 - p)
def SlotEntry.srcKind (x : SlotEntry) : Nat := fld x.w1 33 3
def SlotEntry.srcUnit (x : SlotEntry) : Nat := fld x.w1 28 5
def SlotEntry.srcQ (x : SlotEntry) : Nat := fld x.w1 25 3
def SlotEntry.sinkKind (x : SlotEntry) : Nat := fld x.w1 22 3
def SlotEntry.sinkUnit (x : SlotEntry) : Nat := fld x.w1 17 5
def SlotEntry.sinkQ (x : SlotEntry) : Nat := fld x.w1 14 3

def Cluster.entry (x : Cluster) (e : Nat) : SlotEntry := x.slots.get SlotEntry.reset e

/-- Whether the entry's `TURN_SEL` names turn `t` of `n` (R260). -/
def turnOk (sel n t : Nat) : Bool :=
  match sel with
  | 0 => t < n
  | 1 => 1 ≤ t && t < n
  | 2 => t + 1 < n
  | 3 => t = 0
  | 4 => t + 1 = n
  | 5 => t = n
  | _ => false

/-- The primary cycle and the retry number with which an entry expects a head flit in fabric cycle `n`
(R260, R271): the primary cycle counted from S. After the tail turn no entry applies. -/
def Cluster.occurs (x : Cluster) (e : SlotEntry) (n : Nat) : Option (Nat × Nat) :=
  if n < x.periodStart ∨ x.frameLen = 0 ∨ x.turns < (n - x.periodStart) / x.frameLen then none
  else
    let d := n - x.periodStart
    let wraps := (e.cycle + e.rep * e.stride) / x.frameLen
    (List.range (e.retries + 1)).findSome? (fun r =>
      if d < r * e.retryStride then none
      else
        let y := d - r * e.retryStride
        (List.range (wraps + 1)).findSome? (fun w =>
          let t := y / x.frameLen - w
          let base := t * x.frameLen + e.cycle
          if y / x.frameLen < w ∨ y < base then none
          else
            let m := y - base
            let fits := if e.rep = 0 then m = 0
              else e.stride ≠ 0 && m % e.stride = 0 && m / e.stride ≤ e.rep
            if fits && turnOk e.turnSel x.turns t then some (y, r) else none))

/-- Whether cycle `n` lies in a drop window: from K to the next S (R303). -/
def Cluster.dropsAt (x : Cluster) (n : Nat) : Bool :=
  x.discarding || (x.dropAt ≤ n && !(x.dropAt < x.periodStart && x.periodStart ≤ n))

/-- How many flits of a train whose head is at the router in cycle `n` come before a drop window (R303). -/
def Cluster.before (x : Cluster) (n : Nat) (c : Cargo) : Nat :=
  ((List.range c.flits).find? (fun i => x.dropsAt (n + i))).getD c.flits

/-- Whether the router applies its entries in cycle `n`: `ENABLE`, and no drop window (R276, R303). -/
def Cluster.applies (x : Cluster) (n : Nat) : Bool := nbit x.spCtrl.toNat 0 && !x.dropsAt n

/-- The entries, by number, that name an input port and lane and have an occurrence in cycle `n`. -/
def Cluster.occurring (x : Cluster) (port lane n : Nat) : List (Nat × SlotEntry) :=
  if !x.applies n then []
  else x.slots.filter (fun p => p.2.valid && p.2.inPort = port && p.2.lane = lane && (x.occurs p.2 n).isSome)

/-- Of these, the entries whose occurrence has had no head flit yet (R271). -/
def Cluster.expecting (x : Cluster) (port lane n : Nat) : List (Nat × SlotEntry) :=
  (x.occurring port lane n).filter (fun p => (x.occurs p.2 n).any (fun o => x.doneOcc.get 0 p.1 ≤ o.1))

/-- The fan-out of a source entry in cycle `n` (R273): the entries of its lane and source that apply in this cycle. -/
def Cluster.fanOut (x : Cluster) (e : SlotEntry) (n : Nat) : List (Nat × SlotEntry) :=
  (x.expecting 4 e.lane n).filter (fun p =>
    p.2.srcKind = e.srcKind && p.2.srcUnit = e.srcUnit && p.2.srcQ = e.srcQ)

/-- An occurrence has had its head flit, or has passed, for every entry of a fan-out. -/
def Cluster.close (x : Cluster) (es : List (Nat × SlotEntry)) (n : Nat) : Cluster :=
  { x with doneOcc := es.foldl (fun m e => match x.occurs e.2 n with | some (d, _) => m.put e.1 (d + 1) | none => m) x.doneOcc }

/-! ### Faults of a router (R225, R235, R265, R266, R278) -/

def Cluster.report (x : Cluster) (kd : FaultKind) (id : Nat) : Cluster := { x with sent := x.sent ++ [⟨kd, id⟩] }

/-- The offset beyond the register block at which a field count without a register of its own is kept in
its cluster: slot misses, retry departures, merge conflicts, null beats (R256). -/
def slotMissCount : Nat := 0x10000000
def retryCount : Nat := 0x10000001
def mergeConflictCount : Nat := 0x10000002
def nullBeatCount : Nat := 0x10000003
/-- The retrainings of a cluster's crossings and the lane replacements on them (R315), kept in the same way. -/
def stitchRetrainCount : Nat := 0x10000004
def laneRepairCount : Nat := 0x10000005

/-! ### The installed graph's names (R238, R239) -/

/-- The edge that a producer's output belongs to, in the installed graph of a partition. -/
def State.edgeOf (s : State) (p place kind q : Nat) : Option Edge :=
  match (s.part p).pkg with
  | none => none
  | some g => g.edges.find? (fun e =>
      e.prodIndex = q && (e.cls < 2) = (kind = 1 || kind = 3) &&
        g.stations.any (fun t => t.id = e.producer && t.place = place && (2 ≤ t.kind && t.kind ≤ 3) = (kind = 3)))

/-- The `STATION_ID` that a slot miss of an output names (R225). -/
def State.producerId (s : State) (k : Nat) (e : SlotEntry) : Nat :=
  if e.srcKind = 3 then ((s.cluster k).steer.get Steer.reset e.srcUnit).station
  else ((s.edgeOf (s.partOfCluster k) (k * 32 + e.srcUnit) 1 e.srcQ).map (·.producer)).getD 0

/-- The consumer index by which a consumer's credits are known to the producer (R267): its place among
the consumers of the edge that feeds the input. Every input of a merge, and input 0 of a steer, is fed by a tile queue
(R270). A combining queue's contributors know it as consumer 0. -/
def State.consumerIdx (s : State) (k : Nat) (e : SlotEntry) : Nat :=
  match (s.part (s.partOfCluster k)).pkg with
  | none => 0
  | some g =>
    let isMe := fun (c : Consumer) =>
      c.input = e.srcQ && g.stations.any (fun t => t.id = c.station &&
        (if e.srcKind = 7 then
           e.srcUnit < 8 && t.id = ((s.cluster k).steer.get Steer.reset e.srcUnit).station
         else t.place = k * 32 + e.srcUnit && (t.kind < 2 || t.kind = 4)))
    ((g.edges.findSome? (fun d =>
      if (d.cls < 2) = (e.srcKind = 5 || (e.srcKind = 7 &&
          (e.srcQ = 0 || ((s.cluster k).steer.get Steer.reset e.srcUnit).kind = 3))) then d.consumers.findIdx? isMe else none))).getD 0

/-! ### Sending -/

/-- A flight added to the plane. -/
def State.addFlight (s : State) (f : Flight) : State :=
  { s with net := { s.net with flights := s.net.flights.put s.net.nextFlight f,
                               nextFlight := s.net.nextFlight + 1 } }

/-- A flit train leaves cluster `k` in cycle `n` by every output that the entries name (R258, R261): one
flight for each link that carries it. -/
def State.sendOut (s : State) (k n : Nat) (faulty : Bool) (cargo : Cargo) (es : List (Nat × SlotEntry)) : State :=
  [0, 1, 2, 3].foldl (fun s p =>
    if es.any (fun e => e.2.out p) && s.laneUp k p then
      match neighbour k p with
      | some k' => s.addFlight ⟨k', facing p, n + s.linkLatency k p, faulty, cargo⟩
      | none => s
    else s) s

/-- How many outputs the entries name. -/
def outCount (es : List (Nat × SlotEntry)) : Nat :=
  ([0, 1, 2, 3, 4]).countP (fun p => es.any (fun e => e.2.out p))

/-- A train enters the crossbar of its source router in cycle `n` (R258, R265): its head's route is compared with the
entries' `CHECK_ID`; then it takes its links and a local delivery, and each output counts it. Flits that a drop window
overtakes are not sent (R303). -/
def State.depart (s : State) (k n : Nat) (cargo : Cargo) (es : List (Nat × SlotEntry)) : State :=
  match es.find? (fun e => e.2.check ≠ cargo.route) with
  | some e => s.modCluster k (fun x => (x.bump 0x80068 1).report .routeMismatch e.2.check)
  | none =>
    let s1 := s.sendOut k n false (cargo.take ((s.cluster k).before n cargo)) es
    let s2 := if es.any (fun e => e.2.out 4) then s1.addFlight ⟨k, 4, n, false, cargo⟩ else s1
    s2.modCluster k (fun x => x.bump cargo.countAt (outCount es))

/-- Every credit count is non-zero (R224, R282). -/
def haveCredit (l : List Nat) : Bool := l.all (fun c => c ≠ 0)
/-- The counts of an output, one for each consumer that its descriptor's `CONSUMERS` gives (R279, R282). -/
def consumerCounts (d : Long) (l : List Nat) : List Nat := l.take (descConsumers d)
/-- One credit taken from each count. -/
def takeCredit (l : List Nat) : List Nat := l.map (fun c => c - 1)

/-- A core's output tile queue with descriptor `d` sends its oldest beat: the queue, `LAST` and `SEQ` (R264, R279). -/
def OutQ.send (x : OutQ) (d : Long) : OutQ × Bool × Nat :=
  let last := descPacket d ≤ x.pktN + 1
  ({ x with rd := (x.rd + 1) % outEntries d, n := x.n - 1, sentN := x.sentN + 1,
            pktN := if last then 0 else x.pktN + 1, credits := takeCredit x.credits }, last, x.sentN)

/-! ### Steer and merge stations (R224, R229 to R235) -/

def Steer.held (x : Steer) (j : Nat) : List Beat := x.hold.get [] j

/-- The next beat of a steer's branch or of a merge's output, if it is there: the tile goes to the branches its token
names, and a null beat to the others (R230). Its `LAST` is filled in as it leaves. -/
def Steer.ready (x : Steer) (b : Nat) : Option Beat :=
  if x.kind = 2 then
    let j := x.sentN.get 0 b - x.base
    match (x.held 0)[j]?, x.masks[j]? with
    | some t, some w => some (if nbit w.toNat b then t else ⟨t.fmt, true, t.last, 0, []⟩)
    | _, _ => none
  else
    match x.out with
    | some b :: _ => some b
    | _ => none

/-- A beat has left by branch `b`: a steer's tile leaves its queue once every branch has sent it. -/
def Steer.sent1 (x : Steer) (b : Nat) : Steer :=
  let x1 := { x with sentN := x.sentN.put b (x.sentN.get 0 b + 1),
                     credits := x.credits.put b (takeCredit (x.credits.get [] b)) }
  if x.kind = 2 then
    let low := x.ways.foldl (fun a j => min a (x1.sentN.get 0 j)) (x1.sentN.get 0 b)
    let d := low - x1.base
    { x1 with hold := x1.hold.put 0 ((x1.held 0).drop d), masks := x1.masks.drop d, base := x1.base + d }
  else { x1 with out := x1.out.drop 1 }

/-- Credits returned by the consumers of branch `b`: the tile credits that are due to the producers
grow to the beats that every consumer of every output has credited (R232). -/
def Steer.credit (x : Steer) (b consumer n : Nat) : Steer :=
  let x1 := { x with
    credits := x.credits.put b ((x.credits.get [] b).modify consumer (· + n))
    backs := x.backs.put b ((x.backs.get [] b).modify consumer (· + n)) }
  match x1.backs.flatMap (·.2) with
  | [] => x1
  | h :: t =>
    let low := t.foldl min h
    let d := low - x1.owed
    let ins := if x.kind = 2 then [0] else x.ways
    { x1 with owed := x1.owed + d, pend := ins.foldl (fun m j => m.mod 0 j (· + d)) x1.pend }

/-- The oldest waiting tokens are paired with the oldest tiles that have none, and each returns its credit (R287): the mask
goes with the tile, and the token leaves its holding queue (R222). -/
def Steer.pair (x : Steer) : Steer :=
  let n := min ((x.held 0).length - x.masks.length) x.tokens.length
  { x with masks := x.masks ++ x.tokens.take n, tokens := x.tokens.drop n, pend := x.pend.mod 0 1 (· + n) }

def Cluster.steerAt (x : Cluster) (j : Nat) : Steer := x.steer.get Steer.reset j
def Cluster.setSteer (x : Cluster) (j : Nat) (y : Steer) : Cluster := { x with steer := x.steer.put j y }

/-! ### Departures -/

/-- The occurrence that a source entry has in cycle `n` when it has not yet been taken: its primary cycle and the retry.
A router that does not work has none. -/
def State.open? (s : State) (k e n : Nat) : Option (Nat × Nat) :=
  let x := s.cluster k
  let y := x.entry e
  if s.spRuns k && x.applies n && y.valid && y.inPort = 4 then
    match x.occurs y n with
    | some (d, r) => if x.doneOcc.get 0 e ≤ d then some (d, r) else none
    | none => none
  else none

/-- The frame that a tile-lane source has ready with its credits, and the state once it has left; `error` with the core
for an entry of core store that holds an uncorrectable word (R160). A beat's `LAST` and `SEQ` are filled in here, by
the queue's descriptor, or by the steering unit's configuration, whose content is not published (R264, R752; a free
function of the image, log entry 165). -/
def State.takeBeat (s : State) (k : Nat) (e : SlotEntry) : Option (Except State (List Byte × State)) :=
  if e.srcKind = 1 then
    let c := k * 32 + e.srcUnit
    let core := s.core c
    let q := core.outq e.srcQ
    let d := (s.cluster k).outTile e.srcUnit e.srcQ
    if haveCredit (consumerCounts d q.credits) && 0 < q.n && descValid d then
      match core.readEntry (entryAt d q.rd) with
      | (k1, .error w) => some (.error (s.setCore c (k1.raise 0x10 w)))
      | (k1, .ok l) =>
        let r := q.send d
        some (.ok (frameBytes (descRoute d) r.2.2 { frameBeat l with last := r.2.1 },
          s.setCore c { k1 with outQ := k1.outQ.put e.srcQ r.1 }))
    else none
  else if e.srcKind = 3 then
    let x := s.cluster k
    let st := x.steerAt e.srcUnit
    if haveCredit (st.credits.get [] e.srcQ) then
      match st.ready e.srcQ with
      | some b =>
        let n := st.sentN.get 0 e.srcQ
        let b' := { b with last := Config.steerLast x.steerImg e.srcUnit e.srcQ n }
        some (.ok (frameBytes ((st.routes[e.srcQ]?).getD 0) n b',
          s.setCluster k ((x.setSteer e.srcUnit (st.sent1 e.srcQ)).bump nullBeatCount (b2n b.null))))
      | none => none
    else none
  else none

/-- Beat `idx` of a source entry left in retry slot `r` (R233, R302): the branches of one beat of a steer count once. -/
def Cluster.noteRetry (x : Cluster) (e : SlotEntry) (r n idx : Nat) : Cluster :=
  let st := x.steerAt e.srcUnit
  if r = 0 then x
  else if e.srcKind ≠ 3 then (x.bump retryCount 1).postTelem 2 4 n
  else if st.retried ≤ idx then
    ((x.setSteer e.srcUnit { st with retried := idx + 1 }).bump retryCount 1).postTelem 2 4 n
  else x

/-- A beat departs in a slot cycle of its occurrence (R224): entry `e` of cluster `k`, fabric cycle `n`. -/
def execSlotDeparture (k e : Nat) (n : Long) (s : State) : Out :=
  onCluster k s fun s =>
    let x := s.cluster k
    let y := x.entry e
    match s.open? k e n.toNat with
    | none => s
    | some (_, r) =>
      if y.lane ≠ 0 then s
      else
        let es := x.fanOut y n.toNat
        let idx := (x.steerAt y.srcUnit).sentN.get 0 y.srcQ
        match s.takeBeat k y with
        | none => s
        | some (.error s1) => s1
        | some (.ok (l, s1)) =>
          let s2 := s1.modCluster k (fun x => (x.noteRetry y r n.toNat idx).close es n.toNat)
          (s2.depart k n.toNat (.frame l) es).atFabric k n.toNat

/-- A slot-miss fault of a source entry (R225): one for the station, which `id` names. The slots of a steer's branches for one
beat raise one fault together (DEDUCED, log entry 213). -/
def Cluster.missSlot (x : Cluster) (e : SlotEntry) (id : Nat) : Cluster :=
  let x1 := fun (x : Cluster) => (x.bump slotMissCount 1).report .slotMiss id
  if e.srcKind ≠ 3 then x1 x
  else
    let st := x.steerAt e.srcUnit
    let idx := st.sentN.get 0 e.srcQ + st.lost.get 0 e.srcQ
    let y := x.setSteer e.srcUnit { st with lost := st.lost.mod 0 e.srcQ (· + 1), missed := max st.missed (idx + 1) }
    if idx < st.missed then y else x1 y

/-- The last slot cycle passes without a departure (R225): a slot-miss fault; but none for the round of a merge whose
conflict was reported (R235). -/
def execSlotMiss (k e : Nat) (n : Long) (s : State) : Out :=
  onCluster k s fun s =>
    let x := s.cluster k
    let y := x.entry e
    match s.open? k e n.toNat with
    | none => s
    | some (_, r) =>
      if y.lane ≠ 0 ∨ r ≠ y.retries ∨ (s.takeBeat k y).isSome then s
      else
        let s1 := (s.modCluster k (fun x => x.close (x.fanOut y n.toNat) n.toNat)).atFabric k n.toNat
        let st := x.steerAt y.srcUnit
        if y.srcKind = 3 && st.out.head? = some none then
          s1.modCluster k (fun x => x.setSteer y.srcUnit { st with out := st.out.drop 1 })
        else s1.modCluster k (fun x => x.missSlot y (s.producerId k y))

/-! ### Sinks -/

/-- A frame that arrives at an input tile queue of a core, with descriptor `d` (R265, R283 to R285): it is written into the
next entry of the ring, or discarded when the rest of its packet is being dropped. The answer's number is how many
beats were discarded. A frame for a queue that does not exist or has no free entry finds no place (no run with the
credits of R282 reaches it; log entry 166). -/
def Core.takeArrival (k : Core) (d : Long) (q : Nat) (l : List Byte) : Core × Nat :=
  let x := k.inq q
  if x.dropping then
    let last := headLast (frameHead l)
    ({ k with inQ := k.inQ.put q { x with got := x.got + 1, pend := x.pend + 1, dropping := !last,
                                          lastPop := if last then some true else x.lastPop } }, 1)
  else if !descValid d || inDepth d ≤ x.n then ({ k with inQ := k.inQ.put q { x with got := x.got + 1 } }, 0)
  else
    let k1 := (k.storeBytes (entryAt d ((x.rd + x.n) % inDepth d)) l).1
    ({ k1 with inQ := k1.inQ.put q { x with got := x.got + 1, n := x.n + 1 } }.event 1 q 1, 0)

/-- A sequence fault at a sink (R265): `SEQ` differs from the beats received. -/
def State.checkSeq (s : State) (k : Nat) (e : SlotEntry) (seq got : Nat) : State :=
  if seq = got % 2 ^ 32 then s else s.modCluster k (fun x => (x.bump 0x80070 1).report .seqFault e.check)

/-- A frame delivered to one sink (R261, R265). A core in reset takes nothing (R668). -/
def State.sinkFrame (s : State) (k : Nat) (e : SlotEntry) (l : List Byte) : State :=
  let seq := headSeq (frameHead l)
  if e.sinkKind = 1 then
    let c := k * 32 + e.sinkUnit
    let core := s.core c
    if core.inReset then s
    else
      let r := core.takeArrival ((s.cluster k).inTile e.sinkUnit e.sinkQ) e.sinkQ l
      ((s.setCore c r.1).modCluster k (fun x => x.bump 0x80078 r.2)).checkSeq k e seq (core.inq e.sinkQ).got
  else if e.sinkKind = 3 then
    let x := s.cluster k
    let st := x.steerAt e.sinkUnit
    (s.setCluster k (x.setSteer e.sinkUnit
      ({ st with hold := st.hold.put e.sinkQ (st.held e.sinkQ ++ [frameBeat l]),
                 got := st.got.put e.sinkQ (st.got.get 0 e.sinkQ + 1) }.pair))).checkSeq k e seq (st.got.get 0 e.sinkQ)
  else s

/-- A tuple delivered to one sink (R287, R288, R292, R650). -/
def State.sinkTuple (s : State) (k n port : Nat) (e : SlotEntry) (round : Bool) (ws : List Word) : State :=
  if e.sinkKind = 2 then
    let c := k * 32 + e.sinkUnit
    let core := s.core c
    let d := (s.cluster k).inWord e.sinkUnit e.sinkQ
    let x := core.inw e.sinkQ
    if core.inReset || !descValid d then s
    else if descAdvisory d && descDepth d ≤ x.buf.length then
      (s.setCore c (({ core with inW := core.inW.put e.sinkQ { x with buf := x.buf.drop 1 ++ [ws] } }).event 3 e.sinkQ 1)).modCluster
        k (fun y => y.bump 0x80088 1)
    else s.setCore c (({ core with inW := core.inW.put e.sinkQ { x with buf := x.buf ++ [ws] } }).event 3 e.sinkQ 1)
  else if e.sinkKind = 3 then
    let x := s.cluster k
    let st := x.steerAt e.sinkUnit
    -- 16 tokens (R222); a token that finds them full is not taken, which the credits rule out (R231, log entry 166)
    if 16 ≤ st.tokens.length then s
    else s.setCluster k (x.setSteer e.sinkUnit
      ({ st with tokens := st.tokens ++ ws.take 1, gotTok := st.gotTok + 1 }.pair))
  else if e.sinkKind = 4 then
    s.modCluster k (fun x =>
      let q := x.combine.get Combine.reset e.sinkUnit
      { x with combine := x.combine.put e.sinkUnit { q with arrived := q.arrived ++ [⟨round, ws, n, port⟩] } })
  else if e.sinkKind = 0 && (k % 96 = 41 || k % 96 = 54) then s.modField (fieldOf k) (fun f => { f with tuples := f.tuples ++ [ws] })
  else s

/-- Whether the credits of an output queue with descriptor `d` now commit a retained tile's departures (R123). -/
def OutQ.committed (x : OutQ) (d : Long) (n : Nat) : Bool := (consumerCounts d x.backs).all (fun b => n ≤ b)

/-- Retain slots whose every departure is credited by every consumer are released (R123). -/
def Core.releaseCommitted (k : Core) (descs : Nat → Long) : Core :=
  { k with ring := k.ring.mapV (fun r =>
      if r.held = 2 && r.outs.all (fun o => (k.outq o.1).committed (descs o.1) o.2) then { r with held := 0, outs := [] } else r) }

/-- The smallest of a list of counts, zero for none. -/
def lowest (l : List Nat) : Nat :=
  match l with
  | [] => 0
  | h :: t => t.foldl min h

/-- A credit delivered to one sink (R282, R294). -/
def State.sinkCredit (s : State) (k : Nat) (e : SlotEntry) (consumer n : Nat) : State :=
  let c := k * 32 + e.sinkUnit
  let core := s.core c
  if e.sinkKind = 5 then
    if core.inReset then s
    else
      let x := core.outq e.sinkQ
      let cr := x.credits.modify consumer (· + n)
      let x1 : OutQ := { x with credits := cr, backs := x.backs.modify consumer (· + n) }
      let k1 := { core with outQ := core.outQ.put e.sinkQ x1 }
      let descs := (s.cluster k).outTile e.sinkUnit
      let low := fun l => lowest (consumerCounts (descs e.sinkQ) l)
      s.setCore c ((k1.event 2 e.sinkQ (low cr - low x.credits)).releaseCommitted descs)
  else if e.sinkKind = 6 then
    if core.inReset then s
    else
      let x := core.outw e.sinkQ
      let x1 : OutW := { x with credits := x.credits.modify consumer (· + n) }
      s.setCore c { core with outW := core.outW.put e.sinkQ x1 }
  else if e.sinkKind = 7 then
    let x := s.cluster k
    s.setCluster k (x.setSteer e.sinkUnit ((x.steerAt e.sinkUnit).credit e.sinkQ consumer n))
  else s

/-- What a train delivers to one sink. -/
def State.sink (s : State) (k n port : Nat) (cargo : Cargo) (e : SlotEntry) : State :=
  match cargo with
  | .frame l => s.sinkFrame k e l
  | .token l =>
    match tokenType l with
    | 1 => s.sinkTuple k n port e (tokenRound l) (tokenWords l)
    | 2 => s.sinkCredit k e (tokenConsumer l) (tokenCount l)
    | _ => s

/-! ### Arrivals -/

/-- A lane fault that arrives over a crossing counts toward its retraining (R310), with its time. -/
def State.countLaneFault (s : State) (k port : Nat) : State :=
  match crossingOf k port with
  | none => s
  | some (e, i) =>
    s.modField (fieldOf k) (fun f =>
      let c := f.crossing e i
      { f with crossings := f.crossings.put (stitchIdx e i) { c with laneFaults := (s.wt :: c.laneFaults).take 4 } })

/-- Delivers a train to the local sinks of its entries, in table order, 8 at most (R273). -/
def State.sinkAll (s : State) (k n port : Nat) (cargo : Cargo) (es : List (Nat × SlotEntry)) : State :=
  ((es.filter (fun e => e.2.out 4)).take 8).foldl (fun s e => s.sink k n port cargo e.2) s

/-- The check groups of an arriving train (R257): `fixed` of them were corrected, which telemetry records (R302), and `bad`
says that one held an uncorrectable error, which is a lane fault (R265). `id` is the `CHECK_ID` reported. -/
def State.checkLanes (s : State) (f : Flight) (fixed : Nat) (bad : Bool) (id : Nat) : State :=
  let s1 := s.modCluster f.cluster (fun x =>
    let x1 := x.bump 0x80058 fixed
    if fixed = 0 then x1 else x1.postTelem 1 f.port f.cycle)
  if bad then
    (s1.modCluster f.cluster (fun x => (x.bump 0x80060 1).report .laneFault id)).countLaneFault f.cluster f.port
  else s1

/-- A train enters a router (R257, R261, R265, R266, R303). A head of the reserved `TYPE` 3, and one whose route differs from
`CHECK_ID`, is a route mismatch; such a train goes no further (DESIGN CHOICE, log entry 164). Where no entry applies
the `CHECK_ID` reported is a free value. An idle head is no train. A lane fault withholds a frame from its sinks, and nothing
else (R261, R266). Of a train that a drop window overtakes, the flits from K on are discarded and counted (R303), and it reaches
no sink. -/
def State.arrive (s : State) (f : Flight) (fixed : Nat) (bad : Bool) : State :=
  let k := f.cluster
  let x := s.cluster k
  if !s.spRuns k then s
  else if x.dropsAt f.cycle then s.modCluster k (fun x => x.bump 0x80080 f.cargo.flits)
  else if f.port = 4 then
    s.sinkAll k f.cycle 4 f.cargo ((x.occurring 4 f.cargo.lane f.cycle).filter (fun e => e.2.check = f.cargo.route))
  else if f.cargo.isIdle then s
  else
    match x.expecting f.port f.cargo.lane f.cycle with
    | [] =>
      let p := s.draw
      let id := Config.freeNat p.1 % 4096
      (p.2.checkLanes f fixed bad id).modCluster k (fun x => (x.bump 0x80068 1).report .routeMismatch id)
    | (j, e) :: r =>
      let es := (j, e) :: r
      let s1 := (s.checkLanes f fixed bad e.check).modCluster k (fun x => x.close es f.cycle)
      if e.check ≠ f.cargo.route || f.cargo.isReserved then
        s1.modCluster k (fun x => (x.bump 0x80068 1).report .routeMismatch e.check)
      else
        let v := s1.draw
        let s2 := if bad then v.2 else s1
        let c := if bad then f.cargo.garbled (Config.freeNat v.1) else f.cargo
        let m := x.before f.cycle c
        let s3 := (s2.sendOut k f.cycle (f.faulty || bad) (c.take m) es).modCluster k (fun x =>
          (x.bump c.countAt (outCount es)).bump 0x80080 (c.flits - m))
        if m < c.flits || ((f.faulty || bad) && c.isFrame) then s3 else s3.sinkAll k f.cycle f.port c es

/-- The arrival of flight `id` when what it carries is of the kind that the command names. -/
def arrival (id fixed : Nat) (bad : Bool) (ok : Cargo → Bool) (s : State) : Out :=
  match s.net.flights.look id with
  | some f =>
    if ok f.cargo then
      .next (({ s with net := { s.net with flights := s.net.flights.del id } }.arrive f fixed bad).atFabric f.cluster f.cycle)
    else .next s
  | none => .next s

/-- A tile-lane frame arrives at a hop or a sink (R265). -/
def execBeatArrival (id fixed : Nat) (bad : Bool) (s : State) : Out := arrival id fixed bad Cargo.isFrame s
/-- A tuple arrives (R287). -/
def execTupleArrival (id fixed : Nat) (bad : Bool) (s : State) : Out := arrival id fixed bad Cargo.isTuple s
/-- A credit flit arrives (R282). -/
def execCreditArrival (id fixed : Nat) (bad : Bool) (s : State) : Out := arrival id fixed bad Cargo.isCredit s

/-- A merge round is complete (R234, R235): its output waits to depart, or the round raises a merge conflict and leaves its
slot without a beat. -/
def execMergeRoundComplete (k st : Nat) (s : State) : Out :=
  onCluster k s fun s =>
    let x := s.cluster k
    let y := x.steerAt st
    let heads := y.ways.map (fun j => (y.held j).head?)
    if x.steer.has st && y.kind = 3 && !y.ways.isEmpty && heads.all Option.isSome then
      let bs := heads.filterMap id
      let y1 := { y with hold := y.hold.mapV (fun l => l.drop 1), base := y.base + 1 }
      match bs.filter (fun b => !b.null) with
      | [] =>
        let b0 := (((y.held 0).head?).orElse (fun _ => bs.head?)).getD ⟨0, true, false, 0, []⟩
        s.setCluster k (x.setSteer st { y1 with out := y1.out ++ [some { b0 with null := true, tag := 0, img := [] }] })
      | [b] => s.setCluster k (x.setSteer st { y1 with out := y1.out ++ [some b] })
      | _ =>
        s.setCluster k (((x.setSteer st { y1 with out := y1.out ++ [none] }).bump mergeConflictCount 1).report
          .mergeConflict y.station)
    else s

/-! ### Word channels and credits -/

/-- A tuple leaves its output word channel (R286, R288, R292): its `ROUND` bit inverts after it. -/
def execTupleDeparture (k e : Nat) (n : Long) (s : State) : Out :=
  onCluster k s fun s =>
    let x := s.cluster k
    let y := x.entry e
    match s.open? k e n.toNat with
    | none => s
    | some _ =>
      if y.lane ≠ 1 ∨ y.srcKind ≠ 2 then s
      else
        let c := k * 32 + y.srcUnit
        let core := s.core c
        let w := core.outw y.srcQ
        let desc := x.outWord y.srcUnit y.srcQ
        match w.buf with
        | [] => s
        | t :: r =>
          if descValid desc && (descAdvisory desc || haveCredit (consumerCounts desc w.credits)) then
            let w' : OutW := { w with
              buf := r
              round := !w.round
              credits := if descAdvisory desc then w.credits else takeCredit w.credits }
            let es := x.fanOut y n.toNat
            let s1 := (s.setCore c { core with outW := core.outW.put y.srcQ w' }).modCluster k (fun x => x.close es n.toNat)
            (s1.depart k n.toNat (.token (tupleFlits (descRoute desc) w.round t)) es).atFabric k n.toNat
          else s

/-- The credits pending for a credit source, and the state without them (R281). -/
def State.takeCredits (s : State) (k : Nat) (e : SlotEntry) : Nat × State :=
  let c := k * 32 + e.srcUnit
  let core := s.core c
  let x := s.cluster k
  if e.srcKind = 5 then
    let q := core.inq e.srcQ
    (q.pend, s.setCore c { core with inQ := core.inQ.put e.srcQ { q with pend := 0 } })
  else if e.srcKind = 6 then
    let q := core.inw e.srcQ
    (q.pend, s.setCore c { core with inW := core.inW.put e.srcQ { q with pend := 0 } })
  else if e.srcKind = 7 then
    if e.srcUnit < 8 then
      let y := x.steerAt e.srcUnit
      (y.pend.get 0 e.srcQ, s.setCluster k (x.setSteer e.srcUnit { y with pend := y.pend.put e.srcQ 0 }))
    else
      let q := x.combine.get Combine.reset (e.srcUnit - 8)
      (q.pend, s.setCluster k { x with combine := x.combine.put (e.srcUnit - 8) { q with pend := 0 } })
  else (0, s)

/-- At a credit slot every pending credit of the input goes in one flit; with none pending nothing is
sent (R281). -/
def execCreditFlitSend (k e : Nat) (n : Long) (s : State) : Out :=
  onCluster k s fun s =>
    let x := s.cluster k
    let y := x.entry e
    match s.open? k e n.toNat with
    | none => s
    | some _ =>
      if y.lane ≠ 1 then s
      else
        let p := s.takeCredits k y
        let es := x.fanOut y n.toNat
        if p.1 = 0 then s
        else
          let s1 := p.2.modCluster k (fun x => x.close es n.toNat)
          (s1.depart k n.toNat (.token [creditFlit y.check (s.consumerIdx k y) p.1]) es).atFabric k n.toNat

/-! ### Combining queues (R290 to R295) -/

def Combine.valid (q : Combine) : Bool := nbit q.ctl.toNat 31
def Combine.op (q : Combine) : Nat := fld q.ctl 28 3
def Combine.words (q : Combine) : Nat := fld q.ctl 26 2 + 1
def Combine.route (q : Combine) : Nat := fld q.ctl 12 12
def Combine.contributors (q : Combine) : Nat := fld q.ctl 0 12
def Combine.bank (q : Combine) (b : Bool) : CombBank := if b then q.bank1 else q.bank0
def Combine.setBank (q : Combine) (b : Bool) (x : CombBank) : Combine :=
  if b then { q with bank1 := x } else { q with bank0 := x }

/-- FP32 addition under R57, and FP32 maximum (R290). -/
def combineWord (op : Nat) (a b : Word) : Word :=
  match op with
  | 0 => add32 a b
  | 1 => a + b
  | 2 => a ||| b
  | 3 => max32 a b
  | 4 => if BitVec.slt a b then b else a
  | _ => a

/-- The contribution that is combined next: the one that came first, and of one cycle in the order north,
east, south, west, local (R293). -/
def nextContribution : List Contribution → Option (Contribution × List Contribution)
  | [] => none
  | c :: r =>
    match nextContribution r with
    | none => some (c, [])
    | some (d, r') =>
      if c.cycle < d.cycle ∨ (c.cycle = d.cycle ∧ c.port ≤ d.port) then some (c, d :: r')
      else some (d, c :: r')

/-- A contribution is copied or combined into the bank that its `ROUND` bit names (R292); one of another
length, or past `CONTRIBUTORS`, is a route mismatch (R295). -/
def execCombineContribution (k q : Nat) (s : State) : Out :=
  onCluster k s fun s =>
    let x := s.cluster k
    let y := x.combine.get Combine.reset q
    match nextContribution y.arrived with
    | none => s
    | some (c, r) =>
      let y1 := { y with arrived := r }
      let b := y.bank c.bank
      if !y.valid || c.words.length ≠ y.words || y.contributors ≤ b.count then
        s.setCluster k (({ x with combine := x.combine.put q y1 }.bump 0x80068 1).report .routeMismatch y.route)
      else
        let ws := if b.count = 0 then c.words else (b.words.zip c.words).map (fun p => combineWord y.op p.1 p.2)
        let y2 := y1.setBank c.bank ⟨b.count + 1, ws⟩
        let y3 := if b.count + 1 = y.contributors then { y2 with rounds := y2.rounds + 1 } else y2
        s.setCluster k { x with combine := x.combine.put q y3 }

/-- A round's result departs at the result entry, its bank empties, and one credit is due to the
contributors (R292, R294). -/
def execCombineResultDeparture (k e : Nat) (n : Long) (s : State) : Out :=
  onCluster k s fun s =>
    let x := s.cluster k
    let y := x.entry e
    match s.open? k e n.toNat with
    | none => s
    | some _ =>
      let q := x.combine.get Combine.reset y.srcUnit
      let b := q.bank q.nextBank
      if y.lane ≠ 1 ∨ y.srcKind ≠ 4 ∨ !q.valid ∨ b.count ≠ q.contributors ∨ q.contributors = 0 then s
      else
        let q' := { q.setBank q.nextBank CombBank.reset with nextBank := !q.nextBank, pend := q.pend + 1 }
        let es := x.fanOut y n.toNat
        let s1 := s.setCluster k ({ x with combine := x.combine.put y.srcUnit q' }.close es n.toNat)
        (s1.depart k n.toNat (.token (tupleFlits y.check q.nextBank b.words)) es).atFabric k n.toNat

/-! ### Period start and drop window -/

/-- Sequence counts and round bits start again with a period (R263, R292, R284), and a contributor to a combining queue
starts it with its two credits (R294). -/
def Core.startPeriod (k : Core) : Core :=
  { k with
    inQ := k.inQ.mapV (fun x => { x with got := 0, lastPop := none, dropping := false })
    outQ := k.outQ.mapV (fun x => { x with sentN := 0 })
    outW := k.outW.mapV (fun x => { x with round := false, credits := if x.comb then x.depths else x.credits }) }

/-- Changes every listed core of a cluster. -/
def State.modCores (s : State) (k : Nat) (g : Core → Core) : State :=
  { s with cores := s.cores.map (fun p => if clusterOf p.1 = k then (p.1, g p.2) else p) }

/-- The fabric cycle count reaches `PERIOD_START` (R260): the drop window ends and the sequence counts
start again. -/
def execRouterPeriodStart (k : Nat) (n : Long) (s : State) : Out :=
  onCluster k s fun s =>
    let x := s.cluster k
    if nbit x.spCtrl.toNat 0 && n.toNat = x.periodStart then
      let x' := { x with
        discarding := false, doneOcc := []
        steer := x.steer.mapV (fun y => { y with
          got := [], sentN := [], base := 0, gotTok := 0, owed := 0, retried := 0, lost := [], missed := 0,
          backs := y.backs.mapV (fun l => l.map (fun _ => 0)) })
        combine := x.combine.mapV (fun q => { q with nextBank := false }) }
      ((s.setCluster k x').modCores k Core.startPeriod).atFabric k n.toNat
    else s

/-- A write of `PERIOD_START` that names a count already passed is ignored and reported (R278). -/
def State.writePeriodStart (s : State) (k v : Nat) : State :=
  s.modCluster k (fun x => if v < s.fabricOf (fieldOf k) then x.report .startFault 0 else { x with periodStart := v })

/-- A write of `PERIOD_START` (R278). -/
def execPeriodStartWrite (k : Nat) (s0 : Long) (s : State) : Out :=
  onCluster k s fun s => s.writePeriodStart k s0.toNat

/-- The scheduled-plane state of a core cleared by a drop (R304): queues empty, credits at the depths. -/
def Core.clearPlane (k : Core) (descs : Nat → Long) : Core :=
  let k1 := { k with
    inQ := []
    outQ := k.outQ.mapV (fun x => { OutQ.reset with
      credits := x.depths, depths := x.depths, backs := x.depths.map (fun _ => 0) })
    inW := []
    outW := k.outW.mapV (fun x => { OutW.reset with credits := x.depths, depths := x.depths, comb := x.comb }) }
  k1.inbox.foldl (fun k p =>
    let x : Inbox := ⟨p.2.drain, 0, [], []⟩
    ({ k with inbox := k.inbox.put p.1 x }).inboxControl (descs p.1) x) k1

/-- A steering station cleared (R228, R304). -/
def Steer.clear (y : Steer) : Steer :=
  { y with hold := [], tokens := [], masks := [], out := [], base := 0, got := [], gotTok := 0, sentN := [],
           credits := y.depths, backs := y.depths.mapV (fun l => l.map (fun _ => 0)), pend := [], owed := 0,
           retried := 0, lost := [], missed := 0 }

/-- A router's state cleared by a drop (R304): the advisory queues and the counts stay. -/
def Cluster.clearPlane (x : Cluster) : Cluster :=
  { x with
    doneOcc := []
    steer := x.steer.mapV Steer.clear
    combine := x.combine.mapV (fun q =>
      { q with bank0 := CombBank.reset, bank1 := CombBank.reset, arrived := [], pend := 0, nextBank := false }) }

/-- Clears one cluster's plane: router, steering unit and the queues of its cores. -/
def State.clearPlane (s : State) (k : Nat) : State :=
  let x := s.cluster k
  let s1 := s.setCluster k x.clearPlane
  { s1 with cores := s1.cores.map (fun p =>
      if clusterOf p.1 = k then (p.1, p.2.clearPlane (x.inboxDesc (coreIdx p.1))) else p) }

/-- The fabric cycle count reaches `DROP_AT` (R303, R304). -/
def execDropWindowStart (k : Nat) (n : Long) (s : State) : Out :=
  onCluster k s fun s =>
    let x := s.cluster k
    when' (x.dropsAt n.toNat && !x.discarding) s
      (((s.modCluster k (fun x => { x with discarding := true })).clearPlane k).atFabric k n.toNat)

/-- K of a partition's latest period, when it was dropped (R303). -/
def State.dropK (s : State) (p : Nat) : Option Nat :=
  match (s.part p).period with
  | some q => (match q.ended with | .dropped _ kc => some kc | _ => none)
  | none => none

/-! ### Advisory queues (R301) -/

/-- Removes the head when the value names its sequence number. -/
def advance (q : List AdvItem) (v : Word) : List AdvItem :=
  match q with
  | [] => []
  | (n, d) :: r => if v.toNat % 65536 = n then r else (n, d) :: r

/-- A write of `SOOT_ADVANCE` (R301). -/
def execSootAdvance (k : Nat) (v : Word) (s : State) : Out :=
  onCluster k s fun s => s.modCluster k (fun x => { x with soot := advance x.soot v })
/-- A write of `TELEM_ADVANCE` (R301). -/
def execTelemAdvance (k : Nat) (v : Word) (s : State) : Out :=
  onCluster k s fun s => s.modCluster k (fun x => { x with telem := advance x.telem v })

end Sys2Proof.Machine
end

