-- ==== Sys2Proof/Machine/DefectMap.lean ====
section
/-! DEFINITION. The defect map of a field (R32 to R38, R747 to R749): the record, its rewrites, and the copy that the MSC
keeps. -/

namespace Sys2Proof.Machine

/-- The defect bits [37:0] that a soft-fuse record of kinds 1 to 5 sets, for physical cluster `q` (R36). -/
def whereMask (kind loc q : Nat) : Nat :=
  if kind = 1 then (if loc / 64 % 128 = q then 2 ^ (loc % 64) else 0)
  else if 2 ≤ kind ∧ kind ≤ 5 ∧ loc % 128 = q then 2 ^ (32 + kind) else 0

/-- Every record of a field, stored or waiting for the flash. -/
def FieldSt.records (x : FieldSt) : List SoftFuse := x.soft ++ x.softWait

/-- A `CLUSTER_DEFECT` entry (R36, R747, R748). -/
def FieldSt.defectEntry (x : FieldSt) (q : Nat) : Nat :=
  let plain := 16 * 2 ^ 45 + 16 * 2 ^ 40
  if !x.fuses.ok then plain
  else
    let named := x.records.filter (fun r => whereMask r.kind r.loc q ≠ 0)
    let bits := named.foldl (fun m r => m ||| whereMask r.kind r.loc q) (x.fuses.defects.get 0 q)
    let mark := match named.getLast? with
      | some r => if r.applied then 2 else 3
      | none => if bits = 0 then 0 else 1
    let b := x.dm.coreByp.get (16, 16) q
    mark * 2 ^ 50 + b.2 * 2 ^ 45 + b.1 * 2 ^ 40 + bits % 2 ^ 38

/-- A logical position of a field is void (R27). -/
def DefectMap.void (d : DefectMap) : Bool := d.clState.any (fun (e : Nat × Byte) => e.2 = 2#8)

/-- Logical positions whose state is not present. -/
def FieldSt.absent (x : FieldSt) : Nat := ((List.range 96).filter (fun j => Sparse.rd x.dm.clState j ≠ 0#8)).length

/-- `FIELD_FLAGS` as a field controller writes it (R33): `REGION_LOST` is the MSC's to set. -/
def State.fieldFlags (s : State) (f : Nat) : Nat :=
  let x := s.field f
  b2n (s.num (o2FieldState f) = 2) + 2 * b2n x.dm.void + 4 * b2n (x.records.any (fun r => !r.applied))

/-- A record's bytes up to its CRC, and the record. -/
def sealMap (body : List Byte) : List Byte := body ++ leBytes 4 (crc32c body)

/-- The record of a field (R32): nothing before bring-up. -/
def State.fieldRecord (s : State) (f : Nat) : List Byte :=
  let x := s.field f
  if !x.dm.built then []
  else
    sealMap (leBytes 2 1 ++ leBytes 1 f ++ leBytes 1 (s.fieldFlags f) ++ leBytes 2 x.absent ++
      leBytes 2 x.records.length ++ leBytes 8 x.dm.generation ++
      (List.range 12).flatMap (fun c => leBytes 2 (x.dm.colSpare.get 0x1000 c)) ++
      (List.range 96).map (fun j => Sparse.rd x.dm.clState j) ++
      (List.range 108).flatMap (fun q => leBytes 8 (x.defectEntry q)) ++
      (List.range 40).map (fun j => Sparse.rd x.dm.stitch j) ++
      (List.range 4).flatMap (fun e => leBytes 2 (Sparse.rd x.dm.spareUsed e).toNat) ++ List.replicate 36 0#8)

/-- A field controller sends its record to the MSC (R749). -/
def State.sendMap (s : State) (f : Nat) : State :=
  s.modField f (fun x => { x with mscCopy := s.fieldRecord f })

/-- A field controller rewrites its record (R38): the generation counts the rewrite, and the MSC gets the new record. A
record that no start has built is changed only in what the next build takes over. The controller of a field that is lost
with its region no longer answers, and rewrites nothing (R749). -/
def State.rewriteMap (s : State) (f : Nat) (g : FieldSt → FieldSt) : State :=
  if s.num (o2FieldState f) = 3 then s else
  let s1 := s.modField f g
  if (s1.field f).dm.built then
    (s1.modField f (fun x => { x with dm := { x.dm with generation := x.dm.generation + 1 } })).sendMap f
  else s1

/-- What `DEFECT_MAP` returns (R53, R749): for a field lost with its region, the MSC's copy with `REGION_LOST` set and the
CRC computed again. -/
def State.defectMap (s : State) (f : Nat) : List Byte :=
  if s.num (o2FieldState f) = 3 then
    let m := (s.field f).mscCopy
    if m.isEmpty then [] else sealMap (patchB (m.take 0x43C) 3 (leBytes 1 (leAt m 3 1 ||| 8)))
  else s.fieldRecord f

/-- Sets the state of a logical cluster in its defect map (R29, R30). -/
def State.setClusterState (s : State) (k v : Nat) : State :=
  s.rewriteMap (fieldOf k) (fun x => { x with dm := { x.dm with
    clState := Sparse.wr x.dm.clState (k % 96) (BitVec.ofNat 8 v) } })

/-- A soft fuse of a field is recorded (R639): it stands applied or pending, and is held back while the flash is inhibited
(R621); with 64 records there is no room. -/
def State.recordFuse (s : State) (applied : Bool) (f kind loc cause : Nat) : State :=
  let x := s.field f
  let r : SoftFuse := ⟨kind, applied, loc, s.localTime f, cause⟩
  s.rewriteMap f (fun y =>
    if 64 ≤ x.soft.length + x.softWait.length then { y with softFull := true }
    else if s.num o8FlashInhibit = 1 then { y with softWait := y.softWait ++ [r] }
    else { y with soft := y.soft ++ [r] })

/-- A soft fuse recorded in service is pending until the next start. -/
def State.softFuse (s : State) (f kind loc cause : Nat) : State := s.recordFuse false f kind loc cause

/-! ### Crossings that no longer exist (R37) -/

/-- The stitch bytes of one edge read zero. -/
def DefectMap.clearEdge (d : DefectMap) (edge : Nat) : DefectMap :=
  { d with stitch := ((List.range 12).filter (edgeOk edge)).foldl (fun m i => Sparse.wr m (stitchIdx edge i) 0#8) d.stitch }

/-- The neighbour across an edge of a field shows no crossing towards it any more. -/
def State.forgetEdge (s : State) (f edge : Nat) : State :=
  match fieldAcross f edge with
  | some n => s.rewriteMap n (fun x => { x with dm := x.dm.clearEdge ((edge + 2) % 4) })
  | none => s

/-- A field is clamped (R27, R37): both sides of its four edges show no crossing. -/
def State.clampField (s : State) (f : Nat) : State :=
  let s1 := s.rewriteMap f (fun x => { x with dm := { x.dm with stitch := [] } })
  (List.range 4).foldl (fun s e => s.forgetEdge f e) s1

/-- The neighbours east and west of a lost region show no crossing towards it (R37). -/
def State.clampRegion (s : State) (r : Nat) : State :=
  (List.range 7).foldl (fun s j => (s.forgetEdge (12 * j + r) 1).forgetEdge (12 * j + r) 3) s

end Sys2Proof.Machine
end

