-- ==== Sys2Proof/Machine/Dram.lean ====
section
/-! DEFINITION. The DRAM channels (R369 to R385): reads, writes and atomics at the home of a byte, the line
code, the patrol scrub, refresh, temperature and failure. -/

namespace Sys2Proof.Machine

/-- The channel of a flat home address: field * 24 + channel. -/
def chanOf (key : Nat) : Nat := key / 2 ^ 32
def State.chan (s : State) (ch : Nat) : Chan := s.dram.chans.get Chan.reset ch
def State.modChan (s : State) (ch : Nat) (g : Chan → Chan) : State :=
  { s with dram := { s.dram with chans := s.dram.chans.put ch (g (s.chan ch)) } }
def Chan.bump (x : Chan) (off n : Nat) : Chan :=
  { x with counts := Sparse.wr x.counts off (Sparse.rd x.counts off + BitVec.ofNat 64 n) }

/-- The space 0x0 address of a home (R369, R384 `UE_ADDR`). -/
def spaceZero (key : Nat) : Nat :=
  let f := chanOf key / 24
  let c := chanOf key % 24
  let ca := key % 2 ^ 32
  f * 2 ^ 39 + (ca / 2048 * 24 + c) * 2048 + ca % 2048

/-- The row of a home: its channel and row number (R750). -/
def rowKey (key : Nat) : Nat := key / 8192

/-- The lines, by flat address, that an access of `n` bytes at a home touches. -/
def homeLines (key n : Nat) : List Nat :=
  if n = 0 then [] else (List.range ((key + n - 1) / 64 - key / 64 + 1)).map (fun j => (key / 64 + j) * 64)

/-- Where a soft fuse of a DRAM row stands (R638). -/
def rowLoc (key : Nat) : Nat := chanOf key % 24 * 2 ^ 24 + rowKey key % 2 ^ 19

/-- Whether an uncorrectable error of a row is one that its latest two whole-line rewrites did not help, and no soft fuse of the row
is recorded (R381; DEDUCED: the count is of rewrites of the row since its first uncorrectable error). -/
def State.rowWorn (s : State) (key : Nat) : Bool :=
  let x := s.field (chanOf key / 24)
  ((s.chan (chanOf key)).rewrites.look (rowKey key)).any (2 ≤ ·) &&
    !(x.soft ++ x.softWait).any (fun r => r.kind = 6 && r.loc = rowLoc key)

/-- The soft fuse of a DRAM row that stays uncorrectable (R381). -/
def State.rowFuse (s : State) (key : Nat) : State :=
  if s.rowWorn key then s.softFuse (chanOf key / 24) 6 (rowLoc key) 0x11
  else if (s.chan (chanOf key)).rewrites.has (rowKey key) then s
  else s.modChan (chanOf key) (fun x => { x with rewrites := x.rewrites.put (rowKey key) 0 })

/-- An uncorrectable line is reported (R377, R380): its address and time, the count at `off`, and one record, which names the soft
fuse of its row where one is recorded (R381, R689). -/
def State.lineError (s : State) (line off : Nat) : State :=
  let ch := chanOf line
  let f := ch / 24
  let s1 := s.modChan ch (fun x =>
    let y := x.bump off 1
    let c1 := Sparse.wr y.counts 0x58 (BitVec.ofNat 64 (spaceZero line))
    { y with counts := Sparse.wr c1 0x60 (BitVec.ofNat 64 (s.localTime f)) })
  ((s1.modField f (fun x => { x with ueLast := some (spaceZero line, s.localTime f) })).postField f 4 1 0x11
    (if s.rowWorn line then 2 else 0) (spaceZero line)).rowFuse line

/-- Whether an error is beyond the code (R375): it corrects any one erroneous symbol and detects any two, and a line read from
the wrong address reads as uncorrectable. -/
def LineErr.uncorrectable (e : LineErr) : Bool :=
  match e with
  | .symbol _ => false
  | .symbols i j => i ≠ j
  | .address => true

/-- What the code of a line finds: nothing, an error that it corrects (false) or one that it only detects (true). -/
def Dram.mark (x : Dram) (line : Nat) : Option Bool := (x.err.look line).map LineErr.uncorrectable

/-- The lines of a list that hold a correctable error are corrected and written back, counted at `off`
(R376). -/
def State.correct (s : State) (lines : List Nat) (off : Nat) : State :=
  match lines with
  | [] => s
  | l :: _ =>
    let n := lines.countP (fun k => s.dram.mark k = some false)
    let e : SMap LineErr := s.dram.err.filter (fun (p : Nat × LineErr) => !lines.contains p.1 || p.2.uncorrectable)
    let s1 := { s with dram := { s.dram with err := e } }
    s1.modChan (chanOf l) (fun x => x.bump off n)

/-- A read at a home (R376, R377): the bytes, or none for the whole request where a line is uncorrectable; the lines that are
correctable are corrected either way. -/
def State.dramRead (s : State) (key n : Nat) : State × Option (List Byte) :=
  let lines := homeLines key n
  match lines.filter (fun l => s.dram.mark l = some true) with
  | b :: r => ((b :: r).foldl (fun s l => s.lineError l 0x38) (s.correct lines 0x30), none)
  | [] =>
    ((s.correct lines 0x30).modChan (chanOf key) (fun x => x.bump 0x10 n), some (Sparse.dense s.dram.mem key n))

/-- The part of a write that falls in one line. -/
def inLine (key n line : Nat) : Nat × Nat := (max key line, min (key + n) (line + 64))

/-- A write of one line's share (R378, R379): done, or refused where the line is uncorrectable and only
part of it is written. -/
def State.dramLine (s : State) (key : Nat) (d : List Byte) (line : Nat) : State × Bool :=
  let p := inLine key d.length line
  let bytes := sliceB d (p.1 - key) (p.2 - p.1)
  let put := fun (s : State) =>
    let m := Sparse.blit s.dram.mem p.1 bytes
    { s with dram := { s.dram with mem := m, err := s.dram.err.del line } }
  let count := fun (s : State) (part : Nat) =>
    s.modChan (chanOf line) (fun x => (x.bump 0x18 (p.2 - p.1)).bump 0x28 part)
  if p.2 - p.1 = 64 then
    let s1 := put s
    ((count s1 0).modChan (chanOf line) (fun x =>
      if x.rewrites.has (rowKey line) then { x with rewrites := x.rewrites.mod 0 (rowKey line) (· + 1) } else x), true)
  else if s.dram.mark line = some true then (s.lineError line 0x38, false)
  else (count (put (s.correct [line] 0x30)) 1, true)

/-- The lines of a write one after the other. -/
def State.dramLines (s : State) (key : Nat) (d : List Byte) : List Nat → Bool → State × Bool
  | [], ok => (s, ok)
  | l :: r, ok =>
    let p := s.dramLine key d l
    p.1.dramLines key d r (ok && p.2)

/-- A write at a home (R378, R379, R407): whether every line took it. -/
def State.dramWrite (s : State) (key : Nat) (d : List Byte) : State × Bool :=
  s.dramLines key d (homeLines key d.length) true

/-- The result of an atomic operation (R202). -/
def amoResult (op : Nat) (old a b : Word) : Word :=
  match op with
  | 0 => old + a
  | 1 => old &&& a
  | 2 => old ||| a
  | 3 => old ^^^ a
  | 4 => if BitVec.slt a old then a else old
  | 5 => if BitVec.slt old a then a else old
  | 6 => a
  | _ => if old = b then a else old

/-! ### Accesses of the module's own engines -/

/-- A failed channel answers a request with status uncorrectable (R382): at the first such answer the partition faults (R682). -/
def State.channelDown (s : State) (key : Nat) : State :=
  let f := chanOf key / 24
  let p := s.partOfRegion (f % 12)
  if s.num (o6PartitionState p) = 3 then s else (s.postField f 4 1 0x11 4 (spaceZero key)).faultPart p

/-- A read of a channel by an engine of the module: a failed channel returns nothing (R382). -/
def State.engineRead (s : State) (key n : Nat) : State × Option (List Byte) :=
  if (s.chan (chanOf key)).chState = 3 then (s.channelDown key, none) else s.dramRead key n

/-- Bytes of DRAM by global address, as an engine of the module reads them for its own tables. The part that a read does not
return, because a line of it is uncorrectable, is a free value (DESIGN CHOICE, log entry 182). -/
def State.gaRead (s : State) (a n : Nat) : State × List Byte :=
  (cutParts (n / 2048 + 2) a n).foldl (fun x p =>
    let r := x.1.engineRead (x.1.dramKey p.1) p.2
    match r.2 with
    | some d => (r.1, x.2 ++ d)
    | none => (r.1.draw.2, x.2 ++ leBytes p.2 (Config.freeNat r.1.draw.1))) (s, [])

/-- A write of an engine of the module by global address. -/
def State.gaWrite (s : State) (a : Nat) (d : List Byte) : State :=
  (cutParts (d.length / 2048 + 2) a d.length).foldl
    (fun s p =>
      let key := s.dramKey p.1
      if (s.chan (chanOf key)).chState = 3 then s.channelDown key else (s.dramWrite key (sliceB d (p.1 - a) p.2)).1) s

/-! ### What the channels do by themselves -/

/-- The patrol scrub reads its next line (R380). -/
def execScrubRead (f ch : Nat) (s : State) : Out :=
  onChan f ch s fun s =>
    let c := f * 24 + ch
    let x := s.chan c
    if x.scrubEn && x.chState = 2 then
      let line := c * 2 ^ 32 + x.scrubNext * 64
      let next := (x.scrubNext + 1) % 2 ^ 26
      let s1 := s.modChan c (fun x => { x with scrubNext := next, scrubbing := next ≠ 0 })
      match s1.dram.mark line with
      | some true => s1.lineError line 0x48
      | _ => s1.correct [line] 0x40
    else s

/-- A channel reads its temperature (R383, R384). -/
def execDramTemperatureRead (f ch : Nat) (temp : BitVec 8) (s : State) : Out :=
  onChan f ch s fun s =>
    s.modChan (f * 24 + ch) (fun x => { x with
      temp := temp.toNat
      refresh2x := if 85 < temp.toNat then true else if temp.toNat < 83 then false else x.refresh2x })

/-- A refresh command (R383, R384). -/
def execRefreshCommand (f ch : Nat) (s : State) : Out :=
  onChan f ch s fun s => s.modChan (f * 24 + ch) (fun x => x.bump 0x50 1)

/-- A channel fails in service (R382): the next start quarantines its field. -/
def execChannelFailure (f ch : Nat) (s : State) : Out :=
  onChan f ch s fun s =>
    (s.modChan (f * 24 + ch) (fun x => { x with chState := 3 })).modField f (fun x => { x with dramBad := addOnce x.dramBad ch })

end Sys2Proof.Machine
end

