-- ==== Sys2Proof/Machine/Links.lean ====
section
/-! DEFINITION. The links of the message plane (R316 to R322, R331, R353): which links are up, packets as flits,
flit and sideband on the wire, the retry of each link, and links that go down. -/

namespace Sys2Proof.Machine

/-! ### Nodes and links -/

/-- The node of a port engine; a router's node is its cluster (R353). -/
def engineNode (n : Nat) : Nat := 8064 + n

def State.node (s : State) (k : Nat) : Node := s.net.nodes.get Node.reset k
def State.setNode (s : State) (k : Nat) (x : Node) : State :=
  { s with net := { s.net with nodes := s.net.nodes.put k x } }
def State.modNode (s : State) (k : Nat) (g : Node → Node) : State := s.setNode k (g (s.node k))

def Node.out (x : Node) (q : Nat) : LinkOut := x.outs.get LinkOut.reset q
def Node.in_ (x : Node) (q : Nat) : LinkIn := x.ins.get LinkIn.reset q
def Node.setOut (x : Node) (q : Nat) (o : LinkOut) : Node := { x with outs := x.outs.put q o }
def Node.setIn (x : Node) (q : Nat) (i : LinkIn) : Node := { x with ins := x.ins.put q i }
/-- The buffer of an input's virtual channel. -/
def Node.buf (x : Node) (port vc : Nat) : List Flit := x.bufs.get [] (32 * port + vc)
def Node.setBuf (x : Node) (port vc : Nat) (l : List Flit) : Node :=
  { x with bufs := if l.isEmpty then x.bufs.del (32 * port + vc) else x.bufs.put (32 * port + vc) l }

/-- The port engine attached to a cluster's port (R353). -/
def attachOf (k p : Nat) : Option Nat :=
  let x := k % 12
  let f := fieldOf k
  if x % 3 = 1 then
    if p = 0 ∧ f < 12 ∧ k % 96 / 12 = 0 then some f
    else if p = 2 ∧ 72 ≤ f ∧ k % 96 / 12 = 7 then some (f - 60)
    else none
  else none

/-- The outer port of a port's clusters (R353): north for ports 0 to 11, south for 12 to 23. -/
def outerPort (n : Nat) : Nat := if n < 12 then 0 else 2

/-- The other end of a node's link: the node and its port. A port engine's links are numbered 0 to 3 from the west. -/
def linkPeer (k q : Nat) : Option (Nat × Nat) :=
  if 8064 ≤ k then (if q < 4 then some (portClusterAt (k - 8064) (3 * q + 1), outerPort (k - 8064)) else none)
  else
    match neighbour k q with
    | some k' => some (k', facing q)
    | none => (attachOf k q).map (fun n => (engineNode n, k % 12 / 3))

/-- Whether a cluster's message-plane router works (R319): its field is in service, and its routers have not failed. -/
def State.routerOk (s : State) (k : Nat) : Bool :=
  s.fieldState (fieldOf k) = 1 && s.clusterState k ≠ 2 && s.clusterState k ≠ 4

/-- Whether a router forwards a packet (R357): `ENABLE` as it stood when the packet was injected. -/
def Cluster.forwards (x : Cluster) (p : Packet) : Bool :=
  nbit x.mpCtrl.toNat 0 != decide (x.mpFlips.countP (fun n => p.order < n) % 2 = 1)

/-- Whether a node forwards a packet; a port engine does. -/
def State.forwards (s : State) (k id : Nat) : Bool :=
  8064 ≤ k || match s.net.packets.look id with
    | some p => (s.cluster k).forwards p
    | none => true

/-- Why a router's link is down (R360): 0 it is up, 1 resend limit, 2 acknowledgement time-out, 3 clamped, 4 no
working neighbour. -/
def State.linkReason (s : State) (k p : Nat) : Nat :=
  let own := ((s.node k).out p).down
  if own ≠ 0 then own
  else
    match neighbour k p with
    | none => if (attachOf k p).isSome then 0 else 4
    | some k' =>
      if !s.routerOk k' then 4
      else
        match crossingOf k p with
        | none => 0
        | some (e, i) =>
          let b := s.stitchByte (fieldOf k) e i
          if b = 0 ∨ 128 ≤ b then 4
          else if ((s.field (fieldOf k)).crossing e i).retraining then 3 else 0

/-- Whether a node's link is up. -/
def State.linkUp (s : State) (k p : Nat) : Bool :=
  if 8064 ≤ k then
    match linkPeer k p with
    | some r => s.routerOk r.1 && s.linkReason r.1 r.2 = 0
    | none => false
  else s.routerOk k && s.linkReason k p = 0

/-- A router of a port cluster (R353). -/
def portRouter (k : Nat) : Bool := (attachOf k 0).isSome || (attachOf k 2).isSome

/-- The depth in flits of an input's virtual channel (R331); of the local inputs, a port cluster's only has one (`localDepth`). -/
def bufDepth (k port vc : Nat) : Nat :=
  if 2 ≤ vc % 5 then 4
  else if 8064 ≤ k || portRouter k then 32
  else if (crossingOf k port).isSome then 16 else 8

/-! ### Packets as flits (R322, R323) -/

/-- The flits of a packet. -/
def Packet.flits (p : Packet) : Nat := 1 + (p.payload.length + 31) / 32

/-- `LENGTH` of a header (R323): an atomic request has no payload (R325). -/
def Packet.headLen (p : Packet) : Nat := if p.typ = 2 then 0 else p.len

/-- The fields of the header flit: lowest bit, width and value (R323). -/
def Packet.headerFields (p : Packet) : List (Nat × Nat × Nat) :=
  [(14, 6, p.srcY), (20, 8, p.srcX), (28, 6, p.midY), (34, 8, p.midX), (42, 6, p.dstY), (48, 8, p.dstX)] ++
  [(56, 2, p.leg), (58, 2, p.cls), (60, 4, p.typ), (72, 2, p.inbox), (74, 4, p.part), (78, 3, p.amoOp)] ++
  [(81, 13, p.headLen), (94, 12, p.txn), (106, 4, p.status), (110, 5, p.src.num), (115, 4, p.src.kind)] ++
  [(119, 5, p.dst.num), (124, 4, p.dst.kind), (128, 64, p.addr), (192, 32, p.auxB), (224, 32, p.auxA)]

/-- The header flit (R323). -/
def Packet.header (p : Packet) : BitVec 256 :=
  BitVec.ofNat 256 ((p.headerFields.map (fun f => f.2.2 % 2 ^ f.2.1 * 2 ^ f.1)).sum)

/-- The bits of flit `i` (R322): the header, then the payload in 32-byte pieces, the last one filled with zeros. -/
def Packet.flitBits (p : Packet) (i : Nat) : BitVec 256 :=
  if i = 0 then p.header else BitVec.ofNat 256 (ofLe ((p.payload.drop (32 * (i - 1))).take 32))

/-- The flits of packet `id` on a virtual channel. -/
def Packet.toFlits (p : Packet) (id vc : Nat) : List Flit :=
  (List.range p.flits).map (fun i => ⟨id, p.flitBits i, vc, i = 0, i + 1 = p.flits, false⟩)

/-- The end of a cut packet (R320). -/
def cutFlit (id vc : Nat) : Flit := ⟨id, 0, vc, false, true, true⟩

/-- A header that a router discards as malformed (R330, R349): a reserved `TYPE`, `DST_KIND` or control command, or a
`LENGTH` above 4,096; `CLASS` has no reserved code. -/
def malformed (h : BitVec 256) (vc : Nat) : Bool :=
  9 < fld h 60 4 || 8 < fld h 124 4 || 4096 < fld h 81 13 || 20 < vc ||
    (fld h 60 4 = 7 && (fld h 224 8 = 0 || 9 < fld h 224 8))

def State.setPacket (s : State) (id : Nat) (p : Packet) : State :=
  { s with net := { s.net with packets := s.net.packets.put id p } }
def State.dropPacket (s : State) (id : Nat) : State :=
  { s with net := { s.net with packets := s.net.packets.del id } }
def State.modPacket (s : State) (id : Nat) (g : Packet → Packet) : State :=
  match s.net.packets.look id with
  | some p => s.setPacket id (g p)
  | none => s

/-- Whether a node holds a flit of a packet. -/
def Node.holds (x : Node) (id : Nat) : Bool :=
  x.bufs.any (fun b => b.2.any (fun f => f.id = id)) || x.feed.any (fun b => b.2.any (fun f => f.id = id)) || x.outs.any (fun o => o.2.replay.any (fun f => f.id = id)) ||
    x.bc.any (fun b => b.id = id)

/-- A packet of which no node holds a flit is gone, unless it waits at its source or stands at its destination. -/
def State.collect (s : State) (id : Nat) : State :=
  match s.net.packets.look id with
  | some p => if p.injected && !p.landed && !s.net.nodes.any (fun x => x.2.holds id) then s.dropPacket id else s
  | none => s

/-- The buffer is free when every output of the tree and the loader have taken the packet (R352), or what a cut left of it
(R320). -/
def BcBuf.finished (b : BcBuf) : Bool := b.size ≤ b.got && !b.loader && b.outs.all (fun o => b.size ≤ o.2)

/-- The broadcast buffer is freed once it is finished; the last router to do so forgets the packet. -/
def State.freeBc (s : State) (k : Nat) : State :=
  match (s.node k).bc with
  | none => s
  | some b => if b.finished then (s.modNode k (fun x => { x with bc := none })).collect b.id else s

/-! ### The wire (R316) -/

/-- What a link carries in a cycle: a flit and its sideband. -/
structure LinkWord where
  flit : BitVec 256
  side : BitVec 47
  deriving DecidableEq, Repr

/-- The virtual channel code of an idle flit: a reserved code (DESIGN CHOICE, log entry 170). -/
def vcIdle : Nat := 31

/-- The bits that the link's `CRC` covers, highest first: the flit, then sideband bits [30:0] (R316; the order of the bits is
a DESIGN CHOICE, log entry 170). -/
def crcOver (flit : BitVec 256) (low : Nat) : List Bool :=
  (List.range 256).map (fun i => nbit flit.toNat (255 - i)) ++ (List.range 31).map (fun i => nbit low (30 - i))

/-- A flit, or none for an idle one, with its sideband: the sequence number, the acknowledgement, and the credit. -/
def linkWord (f : Option Flit) (seq ack : Nat) (nak : Bool) (credit : Option Nat) : LinkWord :=
  let bits := match f with | some x => x.bits | none => 0
  let what := match f with
    | some x => x.vc % 32 * 2 ^ 9 + b2n x.head * 2 ^ 8 + b2n x.tail * 2 ^ 7 + b2n x.cut * 2 ^ 6
    | none => vcIdle * 2 ^ 9
  let back := match credit with | some v => v % 32 * 2 + 1 | none => 0
  let low := seq % 256 * 2 ^ 23 + ack % 256 * 2 ^ 15 + b2n nak * 2 ^ 14 + what + back
  ⟨bits, BitVec.ofNat 47 (crc16 (crcOver bits low) * 2 ^ 31 + low)⟩

def LinkWord.crcOk (w : LinkWord) : Bool := crc16 (crcOver w.flit (fld w.side 0 31)) = fld w.side 31 16
def LinkWord.seq (w : LinkWord) : Nat := fld w.side 23 8
def LinkWord.ack (w : LinkWord) : Nat := fld w.side 15 8
def LinkWord.nak (w : LinkWord) : Bool := nbit w.side.toNat 14
def LinkWord.vc (w : LinkWord) : Nat := fld w.side 9 5
def LinkWord.idle (w : LinkWord) : Bool := w.vc = vcIdle
def LinkWord.credit (w : LinkWord) : Option Nat := if nbit w.side.toNat 0 then some (fld w.side 1 5) else none

/-- A word with bits inverted on its way: the pattern's bits [302:47] on the flit, [46:0] on the sideband. -/
def LinkWord.hit (w : LinkWord) (err : BitVec 303) : LinkWord :=
  ⟨w.flit ^^^ err.extractLsb' 47 256, w.side ^^^ err.extractLsb' 0 47⟩

/-! ### The sending side (R318) -/

/-- The link's side takes an acknowledgement at fabric count `now`: flits before `ack` leave the replay buffer, and a
`NAK` has the rest sent again. -/
def LinkOut.takeAck (o : LinkOut) (ack : Nat) (nak : Bool) (now : Nat) : LinkOut :=
  let n := (ack + o.replay.length + 256 - o.seq % 256) % 256
  let o1 := if n ≤ o.replay.length then
      { o with replay := o.replay.drop n, since := now, tries := if n = 0 then o.tries else 0,
               resend := o.resend.map (fun j => j - n) }
    else { o with since := now }
  if nak && !o1.replay.isEmpty then { o1 with resend := some 0 } else o1

/-- A credit comes back (R331). -/
def LinkOut.takeCredit (o : LinkOut) (vc : Nat) : LinkOut := { o with used := o.used.mod 0 vc (fun n => n - 1) }

/-- A new flit goes into the replay buffer and takes a credit of its channel. -/
def LinkOut.push (o : LinkOut) (f : Flit) (now : Nat) : LinkOut :=
  { o with seq := (o.seq + 1) % 256, replay := o.replay ++ [f], used := o.used.mod 0 f.vc (· + 1),
           since := if o.replay.isEmpty then now else o.since }

/-! ### The receiving side (R318, R331, R352, R360) -/

/-- The flits of each class held at an input of a router (R360): control, response, request and bulk from the
highest byte down. -/
def State.depthNow (s : State) (k port : Nat) : Nat :=
  let x := s.node k
  let n := fun (c : Nat) => min 255 (((List.range 5).map (fun j => (x.buf port (5 * c + j)).length)).sum)
  n 3 * 2 ^ 24 + n 1 * 2 ^ 16 + n 0 * 2 ^ 8 + n 2

/-- The greater of two depths, class by class. -/
def depthMax (a b : Nat) : Nat :=
  ((List.range 4).map (fun j => max (nfld a (8 * j) 8) (nfld b (8 * j) 8) * 2 ^ (8 * j))).sum

/-- The peak of an input follows its depth (R360). -/
def State.notePeak (s : State) (k port : Nat) : State :=
  let d := s.depthNow k port
  s.modCluster k (fun x => { x with peaks := x.peaks.mod 0 port (depthMax d) })

/-- A count of a router's port block (R360); a port engine has none. -/
def State.portCount (s : State) (k port off n : Nat) : State :=
  if 8064 ≤ k then s else s.modCluster k (fun x => x.bump (0xA0100 + 64 * port + off) n)

/-- The outputs of the broadcast tree at a router (R351): along the row away from the input and both ways along the
column, straight on along a column; the tree ends at the island's edges and at links that are down (DESIGN CHOICE, log
entry 171). -/
def State.treeOuts (s : State) (k port : Nat) : List Nat :=
  let x := s.cluster k
  let go := match port with
    | 0 => [2]
    | 2 => [0]
    | 1 => [0, 2, 3]
    | 3 => [0, 1, 2]
    | _ => [0, 1, 2, 3]
  go.filter (fun q => s.linkUp k q && (neighbour k q).isSome && (q ≠ 1 || clusterX k < fld x.mpWindow 28 8) &&
    (q ≠ 3 || fld x.mpWindow 36 8 < clusterX k))

/-- A router takes the header of a broadcast packet into its empty buffer (R351, R352): its loader takes a copy where
the region mask has its region's bit and the cluster is not hollow; one of a reserved kind it discards (R648). -/
def State.bcHead (s : State) (k port id : Nat) : State :=
  let p := s.net.packets.look id
  let mask := (p.map (·.auxA)).getD 0
  let mine := nbit mask (regionOfCluster k) && nfld mask 12 4 < 4 && (s.clusterState k = 0 || s.clusterState k = 3)
  s.modNode k (fun x => { x with bc := some ⟨id, port, 1, (p.map (·.flits)).getD 1, false,
    (s.treeOuts k port).map (fun q => (q, 0)), mine⟩ })

/-- The packet in a router's broadcast buffer ends here, cut (R320): its loader, as a destination, discards and counts it, and
the outputs send it on with its cut end. -/
def State.cutBc (s : State) (k : Nat) : State :=
  match (s.node k).bc with
  | none => s
  | some b =>
    let s1 := s.modNode k (fun x => { x with bc := some { b with got := b.got + 1, size := b.got + 1, cut := true, loader := false } })
    (if b.loader then s1.modCluster k (fun x => x.bump 0xA0078 1) else s1).freeBc k

/-- A flit is accepted at an input (R318). -/
def State.accept (s : State) (k port : Nat) (f : Flit) : State :=
  let s1 := s.portCount k port 8 1
  if f.vc = 20 then
    if f.head then s1.bcHead k port f.id
    else if f.cut then s1.cutBc k
    else s1.modNode k (fun x => { x with bc := x.bc.map (fun b => { b with got := b.got + 1 }) })
  else
    let s2 := s1.modNode k (fun x =>
      let i := x.in_ port
      (x.setBuf port f.vc (x.buf port f.vc ++ [f])).setIn port
        { i with open_ := if f.tail then i.open_.del f.vc else i.open_.put f.vc f.id })
    let s3 := if f.head then s2.modPacket f.id (fun p => { p with at_ := k }) else s2
    if 8064 ≤ k then s3 else s3.notePeak k port

/-- A word reaches a node's input at fabric count `now` (R316, R318): `f` is the flit sent in it. One whose `CRC` fails is
discarded and counted; the acknowledgement and the credit of a good one count for the node's own output; a flit
that is not the next one expected is discarded. The first flit discarded, and each whose `CRC` fails, draws a `NAK`. -/
def State.takeWord (s : State) (k port : Nat) (w : LinkWord) (f : Option Flit) (now : Nat) : State :=
  if !w.crcOk then
    (s.portCount k port 0x20 1).modNode k (fun x => x.setIn port { x.in_ port with bad := true, nakDue := true })
  else
    let s1 := s.modNode k (fun x =>
      let o := (x.out port).takeAck w.ack w.nak now
      x.setOut port (match w.credit with | some v => o.takeCredit v | none => o))
    let i := (s1.node k).in_ port
    match f with
    | none => s1
    | some g =>
      if w.seq = i.expect then
        (s1.modNode k (fun x => x.setIn port { i with expect := (i.expect + 1) % 256, bad := false })).accept k port g
      else s1.modNode k (fun x => x.setIn port { i with bad := true, nakDue := i.nakDue || !i.bad })

/-- A node's output sends a word, with a flit or idle, and the other end takes it (R316, R318): the sideband carries the
acknowledgement and a credit of the reverse direction; both count as sent once the word is taken whole (DESIGN
CHOICE, log entry 170). -/
def State.transmit (s : State) (k q : Nat) (f : Option (Flit × Nat)) (err : BitVec 303) (now : Nat) : State :=
  match linkPeer k q with
  | none => s
  | some (k', port') =>
    let i := (s.node k).in_ q
    let w := (linkWord (f.map (·.1)) ((f.map (·.2)).getD ((s.node k).out q).seq) i.expect i.nakDue i.freed.head?).hit err
    let s1 := if w.crcOk then
        s.modNode k (fun x => x.setIn q { i with nakDue := false, freed := i.freed.tail })
      else s
    s1.takeWord k' port' w (f.map (·.1)) now

/-! ### Links that go down (R319, R320) -/

/-- The packets that an input awaits the rest of end there, cut (R320). -/
def State.endCut (s : State) (k port : Nat) : State :=
  let i := (s.node k).in_ port
  let s1 := i.open_.foldl (fun s e =>
    (s.modNode k (fun x => x.setBuf port e.1 (x.buf port e.1 ++ [cutFlit e.2 e.1]))).modPacket e.2
      (fun p => { p with cut := true, payload := [] })) s
  let s2 := s1.modNode k (fun x => x.setIn port { LinkIn.reset with freed := [] })
  let s3 := if k < 8064 then s2.notePeak k port else s2
  if (s3.node k).bc.any (fun b => b.port = port && b.got < b.size) then s3.cutBc k else s3

/-- One direction of a link goes down: the sender discards what remains of each packet that it has sent in part, its
flits that the receiver had not taken are lost, and the receiver ends those packets. The link starts afresh when it
comes up again: the flits that still stand in the receiver's buffers hold their credits. -/
def State.cutLink (s : State) (k q k' port' why : Nat) : State :=
  let lost := ((s.node k).out q).replay.map (·.id)
  let s1 := s.modNode k (fun x => { x with
    routes := x.routes.map (fun e => if e.2.out = q then (e.1, { e.2 with out := 5 }) else e)
    outs := x.outs.put q { LinkOut.reset with down := why }
    bc := x.bc.map (fun b => { b with outs := b.outs.del q }) })
  let s2 := s1.endCut k' port'
  let held := (List.range 20).map (fun v => (v, ((s2.node k').buf port' v).length))
  let s3 := s2.modNode k (fun x => x.setOut q { x.out q with used := held.filter (fun e => e.2 ≠ 0) })
  lost.foldl (fun s id => s.collect id) (s3.freeBc k)

/-- The record of a link that fails (R687): an attach link, or one between two routers. -/
def State.postLink (s : State) (k k' : Nat) : State :=
  let c := if k < 8064 then k else k'
  s.post (fieldOf c) 3 3 c 3 (if 8064 ≤ k ∨ 8064 ≤ k' then 5 else 3) 0 (s.partOfCluster c) 0

/-- Both directions of a node's link go down for a reason of R360; one that fails by itself is reported. -/
def State.downLink (s : State) (k q why : Nat) : State :=
  match linkPeer k q with
  | none => s
  | some (k', port') =>
    let s1 := (s.cutLink k q k' port' why).cutLink k' port' k q why
    if why = 1 ∨ why = 2 then s1.postLink k k' else s1

/-- The region of a node: a port engine's is that of the region it serves (R353). -/
def nodeRegion (k : Nat) : Nat := if k < 8064 then regionOfCluster k else (k - 8064) % 12

/-- A node stops working: its links cut what crosses them, and what it holds is lost (R319, R320). The links' state at the
working ends is that of a link without a neighbour, which `linkReason` answers. -/
def State.loseNode (s : State) (k : Nat) : State :=
  let s1 := (List.range 4).foldl (fun s q => s.downLink k q 0) s
  let ids := (s1.node k).bufs.flatMap (fun b => b.2.map (·.id)) ++ (s1.node k).feed.flatMap (fun b => b.2.map (·.id)) ++
    ((s1.node k).bc.map (·.id)).toList
  ids.foldl (fun s id => s.collect id) { s1 with net := { s1.net with nodes := s1.net.nodes.del k } }

/-- The routers of a field carry no traffic (R27). -/
def State.loseField (s : State) (f : Nat) : State := (List.range 96).foldl (fun s j => s.loseNode (f * 96 + j)) s

/-- A region's routers and port engines are lost, with the packets that wait in them (R618). -/
def State.loseRegionNodes (s : State) (r : Nat) : State :=
  let s1 := (List.range 7).foldl (fun s j => s.loseField (12 * j + r)) s
  let s2 := (s1.loseNode (engineNode r)).loseNode (engineNode (r + 12))
  { s2 with net := { s2.net with
      packets := s2.net.packets.filter (fun e => nodeRegion e.2.at_ ≠ r || (e.2.injected && !e.2.landed)) } }

end Sys2Proof.Machine
end

