-- ==== Sys2Proof/WellFormed.lean ====
section
/-! DEFINITION. Which commands are well formed: every unit that a command names exists (R20). -/

namespace Sys2Proof

/-- What is wrong with an ill-formed command: the kind of unit it names that does not exist. -/
inductive IllFormed where
  | core
  | cluster
  | field
  | region
  | channel
  | port
  | partition
  | interface
  | credential
  | domain
  | sender
  | markUnit
  deriving DecidableEq, Repr

/-- A check: `none` where it holds. -/
def refuse (why : IllFormed) (ok : Bool) : Option IllFormed := if ok then none else some why

/-- 258,048 logical cores (R20). -/
def needCore (c : Nat) : Option IllFormed := refuse .core (c < 258048)
/-- 8,064 logical clusters (R20). -/
def needCluster (k : Nat) : Option IllFormed := refuse .cluster (k < 8064)
/-- 84 fields (R20). -/
def needField (f : Nat) : Option IllFormed := refuse .field (f < 84)
/-- 12 regions (R20). -/
def needRegion (r : Nat) : Option IllFormed := refuse .region (r < 12)
/-- 24 DRAM channels a field (R20). -/
def needChan (f ch : Nat) : Option IllFormed := refuse .channel (decide (f < 84) && decide (ch < 24))
/-- 24 Ethernet ports (R20). -/
def needPort (n : Nat) : Option IllFormed := refuse .port (n < 24)
/-- Partitions are numbered as regions (R44). -/
def needPart (p : Nat) : Option IllFormed := refuse .partition (p < 12)
/-- Credentials 1 to 32 (R531). -/
def needCred (i : Nat) : Option IllFormed := refuse .credential (decide (1 ≤ i) && decide (i ≤ 32))
/-- Three clock domains of 84 fields. -/
def needDomain (ix : Nat) : Option IllFormed := refuse .domain (ix < 252)
/-- The interface's port exists. -/
def needIfc (i : Iface) : Option IllFormed :=
  match i with
  | .mgt _ => none
  | .port n => refuse .interface (n < 24)
  | .inband n => refuse .interface (n < 24)
/-- Whether a unit that sends requests exists. -/
def Requester.exists_ (h : Requester) : Bool :=
  match h with
  | .core c => c < 258048
  | .port n => n < 24
  | .fieldController f => f < 84
  | .supervisor _ => true
  | .router k => k < 8064
/-- The sender of a request exists. -/
def needSender (h : Requester) : Option IllFormed := refuse .sender h.exists_
/-- What a control request's sender names exists; a packet that has arrived is named by its number. -/
def CtlStep.need {α : Type} (e : CtlStep α) (f : α → Option IllFormed) : Option IllFormed :=
  match e with
  | .send a => f a
  | .arrive _ => none
/-- A node of the message plane (R353): a router, or a port engine after the 8,064 routers. -/
def needNode (k : Nat) : Option IllFormed := refuse .cluster (k < 8088)
/-- The unit of a mark exists. -/
def needUnit (u : MarkUnit) : Option IllFormed :=
  match u with
  | .core c => refuse .markUnit (c < 258048)
  | .schedRouter k => refuse .markUnit (k < 8064)
  | .msgRouter k => refuse .markUnit (k < 8064)
  | .clusterMemory k => refuse .markUnit (k < 8064)
  | .channel f ch => refuse .markUnit (decide (f < 84) && decide (ch < 24))
  | .regulator r => refuse .markUnit (r < 12)
  | .msc => none

/-- The check of a command. -/
def Instr.check (i : Instr) : Option IllFormed :=
  match i with
  | .auxInputApplied _ _ _ => none
  | .moduleResetWarm => none
  | .moduleResetCold _ _ => none
  | .planeRecovered => none
  | .bootRetry _ _ => none
  | .regionBankSwitchOn r => needRegion r
  | .railCheck r _ => needRegion r
  | .controlImageLoad _ _ => none
  | .builtInTest f _ _ => needField f
  | .sparingSelect f _ => needField f
  | .stitchTraining f _ _ _ _ => needField f
  | .dramTraining f ch _ => needChan f ch
  | .firmwareBroadcast _ => none
  | .broadcastRound => none
  | .roundBitmapTimeout f => needField f
  | .roundBitmapFallback f _ => needField f
  | .chunkUnicastCheck k _ => needCluster k
  | .manifestPart k => needCluster k
  | .chunk k => needCluster k
  | .roundEnd k => needCluster k
  | .install k => needCluster k
  | .chunkDone k _ => needCluster k
  | .startComplete _ => none
  | .fwUpdateOpen _ => none
  | .fwUpdateData _ => none
  | .fwUpdateCommit _ _ => none
  | .licenceInstall _ _ => none
  | .licenceRemove _ => none
  | .partitionSplit _ => none
  | .graphLoad p _ => needPart p
  | .graphLoadRun p _ => needPart p
  | .graphUnload p _ => needPart p
  | .alternateInstall p _ => needPart p
  | .partitionResetKeep p => needPart p
  | .partitionResetRemove p => needPart p
  | .partitionResetRun p => needPart p
  | .clusterReset k _ => needCluster k
  | .firingStart c => needCore c
  | .endComplete c => needCore c
  | .firingOverrun c _ => needCore c
  | .faultLogClear c _ => needCore c
  | .seqCtrlWrite c _ => needCore c
  | .retainCtrlWrite c _ => needCore c
  | .cacheConfigWrite k _ _ => needCluster k
  | .registerWrite k _ _ => needCluster k
  | .smoulderEntry c _ => needCore c
  | .kindle c => needCore c
  | .kindlePermitGrant r _ => needRegion r
  | .permitRefill r => needRegion r
  | .issueStallRelease c _ => needCore c
  | .reservedInstruction c _ => needCore c
  | .nop c => needCore c
  | .endFiring c => needCore c
  | .jr c _ => needCore c
  | .seed c _ => needCore c
  | .time c _ => needCore c
  | .acct c _ => needCore c
  | .trap c _ => needCore c
  | .add c _ _ _ => needCore c
  | .sub c _ _ _ => needCore c
  | .and c _ _ _ => needCore c
  | .or c _ _ _ => needCore c
  | .xor c _ _ _ => needCore c
  | .sll c _ _ _ => needCore c
  | .srl c _ _ _ => needCore c
  | .sra c _ _ _ => needCore c
  | .mul c _ _ _ => needCore c
  | .mulhu c _ _ _ => needCore c
  | .slt c _ _ _ => needCore c
  | .sltu c _ _ _ => needCore c
  | .min c _ _ _ => needCore c
  | .max c _ _ _ => needCore c
  | .minu c _ _ _ => needCore c
  | .maxu c _ _ _ => needCore c
  | .addi c _ _ _ => needCore c
  | .andi c _ _ _ => needCore c
  | .ori c _ _ _ => needCore c
  | .xori c _ _ _ => needCore c
  | .slli c _ _ _ => needCore c
  | .srli c _ _ _ => needCore c
  | .srai c _ _ _ => needCore c
  | .slti c _ _ _ => needCore c
  | .sltiu c _ _ _ => needCore c
  | .lui c _ _ => needCore c
  | .beq c _ _ _ => needCore c
  | .bne c _ _ _ => needCore c
  | .blt c _ _ _ => needCore c
  | .bge c _ _ _ => needCore c
  | .bltu c _ _ _ => needCore c
  | .bgeu c _ _ _ => needCore c
  | .j c _ => needCore c
  | .jal c _ _ => needCore c
  | .lw c _ _ _ => needCore c
  | .sw c _ _ _ => needCore c
  | .lbu c _ _ _ => needCore c
  | .sb c _ _ _ => needCore c
  | .cset c _ _ => needCore c
  | .cadd c _ _ => needCore c
  | .crd c _ _ => needCore c
  | .cwr c _ _ => needCore c
  | .loop c _ _ => needCore c
  | .cwait c _ _ => needCore c
  | .tld c _ _ _ _ => needCore c
  | .tst c _ _ _ _ => needCore c
  | .tldl c _ _ _ _ _ => needCore c
  | .tmul c _ _ _ _ _ => needCore c
  | .cvt c _ => needCore c
  | .retainStallResume c => needCore c
  | .vadd c _ _ _ _ _ => needCore c
  | .vsub c _ _ _ _ _ => needCore c
  | .vmul c _ _ _ _ _ => needCore c
  | .vfma c _ _ _ _ _ _ => needCore c
  | .vmin c _ _ _ _ _ => needCore c
  | .vmax c _ _ _ _ _ => needCore c
  | .vcmplt c _ _ _ _ _ => needCore c
  | .vcmple c _ _ _ _ _ => needCore c
  | .vcmpeq c _ _ _ _ _ => needCore c
  | .vsel c _ _ _ _ _ _ => needCore c
  | .vabs c _ _ _ _ => needCore c
  | .vneg c _ _ _ _ => needCore c
  | .vrecip c _ _ _ _ => needCore c
  | .vrsqrt c _ _ _ _ => needCore c
  | .vexp2 c _ _ _ _ => needCore c
  | .vlog2 c _ _ _ _ => needCore c
  | .vrsum c _ _ _ _ => needCore c
  | .vrmax c _ _ _ _ => needCore c
  | .vtrans c _ _ => needCore c
  | .vmov c _ _ _ _ => needCore c
  | .viotr c _ _ _ => needCore c
  | .viotc c _ _ _ => needCore c
  | .tpop c _ _ => needCore c
  | .tpush c _ _ => needCore c
  | .wsend c _ _ _ => needCore c
  | .wrecv c _ _ _ => needCore c
  | .dropr c _ => needCore c
  | .tstat c _ _ => needCore c
  | .get c _ _ _ _ _ => needCore c
  | .put c _ _ _ _ _ => needCore c
  | .ldg c _ _ => needCore c
  | .stg c _ _ _ _ => needCore c
  | .amo c _ _ _ _ => needCore c
  | .acq c _ _ _ => needCore c
  | .acquireComplete c => needCore c
  | .fence c => needCore c
  | .cfgrd c _ _ => needCore c
  | .rekindleFetchResponse _ _ => none
  | .rekindleMultiply c _ => needCore c
  | .retainedCopyFetch _ => none
  | .mordantCommit e => e.need needCore
  | .mordantDiscard e => e.need needCore
  | .mordantSlotProcess c => needCore c
  | .mordantAckTimeout c => needCore c
  | .periodStartCommand e => e.need needCore
  | .periodRestart e => e.need needCore
  | .restartAckTimeout c => needCore c
  | .acknowledge e _ => e.need needCore
  | .faultReport e => e.need needSender
  | .dropCycle e => e.need needCluster
  | .configurationRead e => e.need (fun a => needSender a.1)
  | .configurationWrite e => e.need (fun a => needSender a.1)
  | .controlResponse _ => none
  | .slotDeparture k _ _ => needCluster k
  | .slotMiss k _ _ => needCluster k
  | .beatArrival _ _ _ => none
  | .mergeRoundComplete k _ => needCluster k
  | .tupleDeparture k _ _ => needCluster k
  | .tupleArrival _ _ _ => none
  | .creditFlitSend k _ _ => needCluster k
  | .creditArrival _ _ _ => none
  | .combineContribution k _ => needCluster k
  | .combineResultDeparture k _ _ => needCluster k
  | .routerPeriodStart k _ => needCluster k
  | .periodStartWrite k _ => needCluster k
  | .dropWindowStart k _ => needCluster k
  | .sootAdvance k _ => needCluster k
  | .telemAdvance k _ => needCluster k
  | .laneRepair f _ _ _ _ _ => needField f
  | .stitchRetrainRequest f _ _ _ => needField f
  | .stitchRetrain f _ => needField f
  | .stitchRetrainComplete f _ _ _ => needField f
  | .packetInject _ => none
  | .packetHop k _ => needNode k
  | .flitNak k _ _ => needNode k
  | .linkDown k _ _ => needNode k
  | .readRequest _ => none
  | .writeRequest _ => none
  | .atomicRequest _ => none
  | .readResponse _ => none
  | .writeResponse _ => none
  | .atomicResponse _ => none
  | .inboxDelivery _ => none
  | .requestTimeout u _ => needSender u
  | .hazardRelease u _ => needSender u
  | .scrubRead f ch => needChan f ch
  | .dramTemperatureRead f ch _ => needChan f ch
  | .refreshCommand f ch => needChan f ch
  | .channelFailure f ch => needChan f ch
  | .streamOpen n _ => needPort n
  | .promptSubmission n _ => needPort n
  | .creditGrant n _ => needPort n
  | .streamCloseRequest n _ => needPort n
  | .streamClose sid _ => needPort (sid / 1024)
  | .class0LimitWrite p _ _ => needPart p
  | .poolEntriesWrite n _ => needPort n
  | .poolBaseWrite n _ => needPort n
  | .admission p _ => needPart p
  | .plannedStart p _ _ _ => needPart p
  | .donePoll p _ => needPart p
  | .commitPoint p _ => needPart p
  | .deadline p _ => needPart p
  | .dropCauseArrival p _ _ _ => needPart p
  | .periodCommit n => needPort n
  | .periodDrop n => needPort n
  | .energyApportion p => needPart p
  | .portMode n _ => needPort n
  | .portRetrain n _ => needPort n
  | .portRetrainTrigger n _ _ => needPort n
  | .portTrainingStart n => needPort n
  | .trainingFrame n _ _ => needPort n
  | .trainingPhaseTimeout n _ _ => needPort n
  | .portTrainingEnd n => needPort n
  | .portDarkRetry n => needPort n
  | .portDown n => needPort n
  | .frameReceive n _ => needPort n
  | .arpRequest ifc _ _ _ => needIfc ifc
  | .neighbourSolicitation ifc _ _ _ => needIfc ifc
  | .echoRequest ifc _ _ _ _ _ => needIfc ifc
  | .announce n _ => needPort n
  | .sync n _ _ _ _ _ _ => needPort n
  | .followUp n _ _ _ _ => needPort n
  | .delayResp n _ _ _ _ => needPort n
  | .delayReqSend n _ => needPort n
  | .syncTimeout => none
  | .dataSegment n _ _ _ => needPort n
  | .acknowledgementSegment n _ _ => needPort n
  | .syncSegment n _ _ => needPort n
  | .syncSend n _ _ => needPort n
  | .ackTimer n _ => needPort n
  | .resendTimeout n _ _ => needPort n
  | .rateUpdate n _ => needPort n
  | .remoteWrite n _ => needPort n
  | .remoteWriteComplete n _ => needPort n
  | .writeCompletion n _ => needPort n
  | .remoteRead n _ => needPort n
  | .remoteReadResponse n _ => needPort n
  | .nack n _ => needPort n
  | .assocWrite n _ _ => needPort n
  | .windowWrite n _ _ => needPort n
  | .hdpFragment src _ _ => needIfc src.ifc
  | .fragmentTimeout _ _ _ _ => none
  | .identityRequest src _ => needIfc src.ifc
  | .hello src _ _ _ => needIfc src.ifc
  | .finish _ _ _ => none
  | .pendingSessionTimeout _ => none
  | .read _ _ _ => none
  | .write _ _ _ => none
  | .list _ _ _ => none
  | .describe _ _ _ => none
  | .close _ _ => none
  | .sessionIdleTimeout _ => none
  | .sessionKill _ => none
  | .credKey ix _ => needCred ix
  | .credRole ix _ => needCred ix
  | .configSave _ => none
  | .configClear _ => none
  | .refSourceInvalid _ => none
  | .refRevert _ _ => none
  | .referenceLost => none
  | .referenceRelock _ => none
  | .dividerStep ix _ => needDomain ix
  | .markerSend f _ => needField f
  | .marker f _ _ _ => needField f
  | .forwardedInputLost f _ => needField f
  | .oscillatorCheck _ => none
  | .freqMeasure f _ => needField f
  | .frequencyCountDone f _ => needField f
  | .frequencyCountLost f => needField f
  | .moduleMark _ => none
  | .sampleMark _ => none
  | .markLatch _ u => needUnit u
  | .markComplete _ => none
  | .markAbandon _ => none
  | .governorTick _ _ _ => none
  | .boostTimeout _ => none
  | .recoveryEnd => none
  | .leaseGrant _ => none
  | .leaseTick => none
  | .wearTick r _ _ => needRegion r
  | .wearStore => none
  | .thermalSample r _ _ _ => needRegion r
  | .awakeCeilingStep r => needRegion r
  | .coolantShutdown _ => none
  | .fuseOpen r _ => needRegion r
  | .flashInhibitSet _ _ => none
  | .flashInhibitClear _ _ => none
  | .feedLost _ => none
  | .feedSupplying _ => none
  | .planeHold => none
  | .auxInputLow _ _ => none
  | .coefTable _ => none
  | .coreDead c => needCore c
  | .heartbeat => none
  | .heartbeatTimeout => none
  | .faultRecord _ => none
  | .availabilityTick => none
  | .availClear _ => none
  | .attestRequest _ => none
  | .attestSigned _ => none
  | .svnCommit _ => none
  | .slotAccept _ => none
  | .decommission _ _ _ => none
  | .interlockChange _ => none
  | .shedAssert => none
  | .shedRelease => none
  | .routerFailedInService k _ => needCluster k
  | .registerFileParityError c _ => needCore c
  | .mscWatchdogHold => none
  | .mgtLinkChange _ _ => none

/-- A command is well formed when nothing is wrong with it. -/
def Instr.wf (i : Instr) : Bool := i.check.isNone

end Sys2Proof
end

