-- ==== Sys2Proof/Machine/Network.lean ====
section
/-! DEFINITION. The message plane (R316 to R361): routing and detours, the routers' arbiters, injection, the line
hazard, and delivery. -/

namespace Sys2Proof.Machine

/-! ### Packets -/

/-- The cluster a packet is bound for, and the one it came from. -/
def Packet.home (p : Packet) : Nat := clusterAt p.dstX p.dstY
def Packet.origin (p : Packet) : Nat := clusterAt p.srcX p.srcY

/-- Requests are answered (R325); an inbox delivery is posted (R329). -/
def Packet.isRequest (p : Packet) : Bool := p.typ ≤ 2 || p.typ = 7

/-- The response to a packet (R325, R327): it starts at cluster `k` from the unit that was asked. -/
def State.responseTo (s : State) (k : Nat) (p : Packet) (status : Nat) (payload : List Byte) (auxB : Nat) : Packet :=
  let dk := if p.src.kind = 6 then portCluster p.src.num (clusterX k) else p.origin
  let t := if p.typ = 6 then 4 else if p.typ = 7 then 8 else p.typ + 3
  { s.mkPacket k p.dst dk p.src t 1 p.txn payload.length p.addr with
    status := status, payload := payload, auxA := if p.typ = 7 then p.auxA else 0,
    auxB := if p.typ = 7 then p.auxB else auxB }

/-- A response sent from cluster `k`. -/
def State.respond (s : State) (k : Nat) (p : Packet) (status : Nat) (payload : List Byte) (auxB : Nat) : State :=
  s.addPacket (s.responseTo k p status payload auxB)

/-- The source router's own answer to a request that it does not send (R363): the response is at its source
at once. -/
def State.localAnswer (s : State) (id : Nat) (p : Packet) (status : Nat) : State :=
  let k := p.origin
  let r := s.responseTo k p status [] 0
  s.setPacket id { r with at_ := k, dstX := p.srcX, dstY := p.srcY, injected := true, landed := true }

/-! ### Routing (R334 to R338) -/

/-- One step of the Valiant generator (R336). -/
def mpStep (g : Word) : Word :=
  let h := g >>> 1
  if nbit g.toNat 0 then h ^^^ 0x80200003#32 else h

/-- 32 steps. -/
def mpDraw (g : Word) : Word := (List.range 32).foldl (fun g _ => mpStep g) g

def Cluster.partX0 (x : Cluster) : Nat := fld x.mpWindow 52 8
def Cluster.partX1 (x : Cluster) : Nat := fld x.mpWindow 44 8
def Cluster.islandX0 (x : Cluster) : Nat := fld x.mpWindow 36 8
def Cluster.islandX1 (x : Cluster) : Nat := fld x.mpWindow 28 8

/-- The distance between two numbers. -/
def dist (a b : Nat) : Nat := (a - b) + (b - a)

/-- Whether a packet routes by Valiant from cluster `k` (R334). -/
def Cluster.valiant (x : Cluster) (k : Nat) (p : Packet) : Bool :=
  let on := match p.cls with
    | 0 => nbit x.mpCtrl.toNat 1
    | 1 => nbit x.mpCtrl.toNat 2
    | 2 => nbit x.mpCtrl.toNat 3
    | _ => false
  on && p.typ ≠ 6 && fld x.mpCtrl 16 8 < dist p.dstX (clusterX k) + dist p.dstY (clusterY k)

/-- The intermediate that a generator state gives (R336). -/
def Cluster.mid (x : Cluster) (g : Word) : Nat × Nat :=
  (x.partX0 + (fld g 16 16) * (x.partX1 - x.partX0 + 1) / 65536, (fld g 0 16) * 56 / 65536)

/-- The port towards a target by X first or by Y first; none at the target. -/
def towardX (x tx : Nat) : Nat := if x < tx then 1 else 3
def towardY (y ty : Nat) : Nat := if y < ty then 2 else 0
def xFirst (x y tx ty : Nat) : Option Nat :=
  if x ≠ tx then some (towardX x tx) else if y ≠ ty then some (towardY y ty) else none
def yFirst (x y tx ty : Nat) : Option Nat :=
  if y ≠ ty then some (towardY y ty) else if x ≠ tx then some (towardX x tx) else none

/-- The hop that a packet takes next by its leg (R335, R338). -/
def Packet.next (p : Packet) : Option Nat :=
  let x := clusterX p.at_
  let y := clusterY p.at_
  match p.leg with
  | 0 => xFirst x y p.midX p.midY
  | 2 => yFirst x y p.dstX p.dstY
  | _ => xFirst x y p.dstX p.dstY

/-- A leg-1 packet at its intermediate goes on in leg 2 (R337). -/
def Packet.atMid (p : Packet) : Packet :=
  if p.leg = 0 ∧ clusterX p.at_ = p.midX ∧ clusterY p.at_ = p.midY then { p with leg := 1 } else p

/-- The sidestep of a blocked hop (R338): its port, if it lies within the window. -/
def State.sidestep (s : State) (p : Packet) (blocked : Nat) : Option Nat :=
  let x := clusterX p.at_
  let y := clusterY p.at_
  let c := s.cluster p.at_
  let lo := if p.cls = 3 then c.islandX0 else c.partX0
  let hi := if p.cls = 3 then c.islandX1 else c.partX1
  let inX := fun (q : Nat) => if q = 1 then x + 1 ≤ hi else lo + 1 ≤ x
  if blocked % 2 = 0 then
    let q := if x ≠ p.dstX then towardX x p.dstX else if x + 1 ≤ hi then 1 else 3
    if inX q then some q else none
  else
    some (if y ≠ p.dstY then towardY y p.dstY else if y = 55 then 0 else 2)

/-! ### What a router does with a header (R330, R335 to R339) -/

/-- What becomes of a header at a node: it is discarded as malformed or unreachable, it has arrived, or it goes on by an
output on a virtual channel, with what it then holds and the output that a detour avoids. -/
inductive Plan where
  | malformed
  | unreachable
  | land
  | go (q vc : Nat) (p : Packet) (avoid : Option Nat)
  deriving DecidableEq, Repr

/-- The virtual channel of a packet outside a sidestep (R326): 5 × its class + the set of its leg. -/
def Packet.vc (p : Packet) : Nat := 5 * p.cls + (if p.leg < 2 then p.leg else p.leg + 1)

/-- A header at a router's input (R335 to R339, R355): a packet for a port engine leaves by the attach link of its
port cluster; where that link is down it is unreachable (DESIGN CHOICE, log entry 172). -/
def State.routerPlan (s : State) (k vc : Nat) (p0 : Packet) : Plan :=
  let p := { p0 with at_ := k }.atMid
  if malformed p.header vc then .malformed
  else
    match p.next with
    | none =>
      if p.dst.kind = 6 then
        let q := outerPort p.dst.num
        if attachOf k q = some p.dst.num && s.linkUp k q then .go q p.vc p none else .unreachable
      else .land
    | some q =>
      if s.linkUp k q then .go q p.vc p none
      else if 2 ≤ p.leg then .unreachable
      else
        match s.sidestep p q with
        | none => .unreachable
        | some q' =>
          if s.linkUp k q' then .go q' (5 * p.cls + 2) { p with leg := if q % 2 = 0 then 2 else 3 } (some q)
          else .unreachable

/-- The attach link that a port engine's packet takes (R354): the working one nearest to column `x`, the
further west at an equal distance. -/
def State.attachFor (s : State) (n x : Nat) : Option Nat :=
  ((List.range 4).filter (fun i => s.linkUp (engineNode n) i)).foldl (fun best i =>
    match best with
    | none => some i
    | some b =>
      if dist (clusterX (portClusterAt n (3 * i + 1))) x < dist (clusterX (portClusterAt n (3 * b + 1))) x then some i
      else best) none

/-- A packet of port engine `n` goes by attach link `i`, whose port cluster it names as its source (R354). -/
def Packet.byLink (p : Packet) (n i : Nat) : Packet :=
  let k := portClusterAt n (3 * i + 1)
  { p with via := i, srcX := clusterX k, srcY := clusterY k }

/-- A header at a node's input. A port engine sends what its units inject on the attach link that R354 gives as the header
leaves, and takes what comes by its links. -/
def State.plan (s : State) (k port vc : Nat) (p : Packet) : Plan :=
  if k < 8064 then s.routerPlan k vc p
  else if port = 4 then
    let p1 := p.byLink (k - 8064) ((s.attachFor (k - 8064) p.midX).getD p.via)
    .go p1.via p.vc p1 none
  else .land

/-- Where the flit at the front of an input's virtual channel wants to go: the output, the channel there, and for a header
what it then holds. Output 4 is the node's local side, where packets land and are discarded. A packet lands only when the
one before it on its channel has been taken (R297, R333). -/
def State.wants (s : State) (k port vc : Nat) : Option (Nat × Nat × Option Plan) :=
  let x := s.node k
  match x.buf port vc with
  | [] => none
  | f :: _ =>
    match x.routes.look (32 * port + vc) with
    | some r => if f.head then none else some (min r.out 4, r.vc, none)
    | none =>
      match s.net.packets.look f.id with
      | none => some (4, vc, some .unreachable)
      | some p =>
        match s.plan k port vc p with
        | .go q v p' a => some (q, v, some (.go q v p' a))
        | pl => some (4, vc, some pl)

/-- Whether a link's channel takes a flit now (R331, R332): it has a credit, and for a header no packet holds it. -/
def State.takes (s : State) (k q vc : Nat) (header : Bool) : Bool :=
  match linkPeer k q with
  | none => false
  | some (k', port') =>
    let x := s.node k
    (x.out q).used.get 0 vc < bufDepth k' port' vc &&
      !(header && x.routes.any (fun e => e.2.out = q && e.2.vc = vc))

/-- Inputs and virtual channels of a node: 5 ports of 20. -/
def inputVcs : List (Nat × Nat) := (List.range 100).map (fun i => (i % 5, i / 5))

/-- The flits that stand before an output: input, its channel, the channel at the output. -/
def State.before (s : State) (k q : Nat) : List (Nat × Nat × Nat) :=
  inputVcs.filterMap (fun i =>
    match s.wants k i.1 i.2 with
    | some w => if w.1 = q then some (i.1, i.2, w.2.1) else none
    | none => none)

/-- The flit of the broadcast buffer that an output sends next (R351, R352): a packet goes on whole, to a router whose
buffer is empty. -/
def State.bcNext (s : State) (k q : Nat) : Option Flit :=
  match (s.node k).bc with
  | none => none
  | some b =>
    match s.net.packets.look b.id, b.outs.look q, linkPeer k q with
    | some p, some n, some r =>
      if b.got < b.size || b.size ≤ n || (n = 0 && (!s.forwards k b.id || (s.node r.1).bc.isSome)) then none
      else if b.cut && n + 1 = b.size then some (cutFlit b.id 20)
      else some ⟨b.id, p.flitBits n, 20, n = 0, n + 1 = b.size, false⟩
    | _, _, _ => none

/-- The arbiter's order (R332): the control class first, then the channel that comes next after the one served last. -/
def rank (last vc : Nat) : Nat := if 15 ≤ vc then vc - 15 else 100 + (vc + 100 - last - 1) % 100

/-- Whether the flit at the front of an input's channel may go by an output now: a header that the router forwards (R357),
and a flit that the link takes. -/
def State.goes (s : State) (k q : Nat) (c : Nat × Nat × Nat) : Bool :=
  match (s.node k).buf c.1 c.2.1 with
  | [] => false
  | f :: _ => (!f.head || s.forwards k f.id) && (q = 4 || s.takes k q c.2.2 f.head)

/-- What an arbiter grants: the flit that stands first in its order, among those that the output takes; of two headers
for one channel the one at the lower port goes first (DESIGN CHOICE, log entry 173). -/
def State.arbiter (s : State) (k q : Nat) : Option (Nat × Nat × Nat) :=
  let ready := (s.before k q).filter (s.goes k q)
  let last := ((s.node k).out q).last
  ready.foldl (fun best c =>
    match best with
    | none => some c
    | some b => if rank last c.2.2 < rank last b.2.2 then some c else some b) none

/-- Whether an input holds a header behind a packet that the local side has not taken yet (R333). -/
def State.heldBack (s : State) (k i : Nat) : Bool :=
  (List.range 20).any (fun vc => !((s.node k).buf i vc).isEmpty && (s.wants k i vc).isNone)

/-- Each other input that holds a flit for the output had no grant in this cycle (R360); what stands behind an untaken packet
counts as held for the local output. -/
def State.stallOthers (s : State) (k q : Nat) (won : Option Nat) : State :=
  if 8064 ≤ k then s
  else
    let ports := (List.range 5).filter (fun i => some i ≠ won &&
      ((s.before k q).any (fun c => c.1 = i) || (q = 4 && s.heldBack k i)))
    ports.foldl (fun s i => s.portCount k i 0x10 1) s

/-- The depth of a local input's channel: R331 limits it at a port cluster (elsewhere DESIGN CHOICE, log entry 175). -/
def localDepth (k vc : Nat) : Option Nat := if k < 8064 && portRouter k then some (bufDepth k 4 vc) else none

/-- Flits that a node's units have injected enter its local input as far as it has room, and are counted (R331, R360). -/
def State.refill (s : State) (k vc : Nat) : State :=
  let x := s.node k
  let fs := x.feed.get [] vc
  let room := match localDepth k vc with
    | some d => d - (x.buf 4 vc).length
    | none => fs.length
  if room = 0 || fs.isEmpty then s
  else
    let rest := fs.drop room
    let s1 := s.modNode k (fun x => { x.setBuf 4 vc (x.buf 4 vc ++ fs.take room) with
      feed := if rest.isEmpty then x.feed.del vc else x.feed.put vc rest })
    if 8064 ≤ k then s1 else (s1.portCount k 4 8 (fs.take room).length).notePeak k 4

/-- A flit leaves an input's buffer: a link's input returns its credit, and the local one takes more (R331). -/
def State.popFlit (s : State) (k port vc : Nat) : State :=
  let s1 := s.modNode k (fun x =>
    let y := x.setBuf port vc (x.buf port vc).tail
    if port < 4 then
      let i := y.in_ port
      y.setIn port { i with freed := i.freed ++ [vc] }
    else y)
  if port = 4 then s1.refill k vc else s1

/-- The route of a flit's packet from its input: set by the header, gone with the tail. -/
def Node.setRoute (x : Node) (port vc : Nat) (f : Flit) (out vc' : Nat) : Node :=
  { x with routes := if f.tail then x.routes.del (32 * port + vc) else x.routes.put (32 * port + vc) ⟨out, vc', f.id⟩ }

/-- A header takes its output (R337, R338): the packet holds its new leg, and a detour is counted at the output that it
avoids. -/
def State.takePlan (s : State) (k : Nat) (id : Nat) (pl : Option Plan) : State :=
  match pl with
  | some (.go _ _ p a) =>
    let s1 := s.setPacket id p
    match a with
    | some q => s1.portCount k q 0x18 1
    | none => s1
  | _ => s

/-- The flit as it goes on: a header carries the packet's leg as this router sets it. -/
def Flit.onward (f : Flit) (vc : Nat) (pl : Option Plan) : Flit :=
  match pl with
  | some (.go _ _ p _) => { f with vc := vc, bits := p.header }
  | _ => { f with vc := vc }

/-- Flit `j` of the replay buffer is sent again; `tries` counts the resends of its first flit (R319). -/
def LinkOut.nextResend (o : LinkOut) (j : Nat) : LinkOut :=
  { o with resend := if j + 1 < o.replay.length then some (j + 1) else none, tries := if j = 0 then o.tries + 1 else o.tries }

/-- The round robin goes on from channel `vc`; the control class takes no turn in it (R332). -/
def LinkOut.served (o : LinkOut) (vc : Nat) : LinkOut := if vc < 15 then { o with last := vc } else o

/-- A granted flit of an input's virtual channel leaves its buffer for a link (R332). -/
def State.takeFlit (s : State) (k q port vc : Nat) : State × Option Flit :=
  match (s.node k).buf port vc, s.wants k port vc with
  | f :: _, some (_, vc', pl) =>
    let g := f.onward vc' pl
    let s1 := (s.takePlan k f.id pl).popFlit k port vc
    (s1.modNode k (fun x => (x.setRoute port vc f q vc').setOut q (((x.out q).push g (s.fabricIn (regionOfCluster k))).served vc')), some g)
  | _, _ => (s, none)

/-- An output of the tree has sent one more flit. -/
def Node.bcSent (x : Node) (q : Nat) : Node :=
  { x with bc := x.bc.map (fun (b : BcBuf) => { b with outs := b.outs.mod 0 q (· + 1) }) }

/-- A flit of the broadcast packet leaves the broadcast buffer for a link (R352). -/
def State.takeBc (s : State) (k q : Nat) (f : Flit) : State × Option Flit :=
  (s.modNode k (fun x => (x.bcSent q).setOut q ((x.out q).push f (s.fabricIn (regionOfCluster k)))), some f)

/-- A new flit for a link's output: the arbiter's, the control class and the broadcast channel first (R332). -/
def State.newFlit (s : State) (k q : Nat) : State × Option Flit :=
  let stalled := s.stallOthers k q none
  match s.arbiter k q, s.bcNext k q with
  | some c, some f => if 15 ≤ c.2.2 then (s.stallOthers k q (some c.1)).takeFlit k q c.1 c.2.1 else stalled.takeBc k q f
  | some c, none => (s.stallOthers k q (some c.1)).takeFlit k q c.1 c.2.1
  | none, some f => stalled.takeBc k q f
  | none, none => (stalled, none)

/-- What a link's output sends in a cycle (R318): the next flit of those that it resends; nothing new, which counts as a
stall, while its replay buffer is full; else a new flit. The flit comes with its sequence number. -/
def State.nextFlit (s : State) (k q : Nat) : State × Option (Flit × Nat) :=
  let o := (s.node k).out q
  match o.resend.bind (fun j => (o.replay[j]?).map (fun f => (j, f))) with
  | some (j, f) =>
    let s1 := (s.modNode k (fun x => x.setOut q (o.nextResend j))).stallOthers k q none
    (s1.portCount k q 0x28 1, some (f, (o.seq + 256 - o.replay.length + j) % 256))
  | none =>
    if 32 ≤ o.replay.length then ((s.portCount k q 0x10 1).stallOthers k q none, none)
    else
      let r := s.newFlit k q
      match r.2 with
      | some f => (r.1.portCount k q 0 1, some (f, o.seq))
      | none => (r.1, none)

/-- A cycle of a node's link output (R316, R318): a flit, or an idle one, which carries the acknowledgement and a credit. -/
def State.linkCycle (s : State) (k q : Nat) : State :=
  let r := s.nextFlit k q
  (r.1.transmit k q r.2 0 (s.fabricIn (regionOfCluster k))).freeBc k

/-- A partition that cannot reach a cluster of its own channels faults at the first answer that says so (R682). -/
def State.channelCut (s : State) (p : Packet) : State :=
  let q := s.partOfCluster p.home
  if p.isRequest && p.dst.kind = 2 && s.partOfCluster p.origin = q && s.num (o6GraphState q) = 2 then s.faultPart q else s

/-- `UNREACHABLE` grows, and a request draws a response with that status (R339). -/
def State.unreachable (s : State) (k : Nat) (p : Packet) : State :=
  let s1 := (s.channelCut p).modCluster k (fun x => x.bump 0xA0030 1)
  if p.isRequest && !p.cut then s1.respond k p 5 [] 0 else s1

/-- The header of a packet that a node discards (R330, R339), or that lands. -/
def State.localHead (s : State) (k : Nat) (id : Nat) (pl : Option Plan) : State :=
  match pl, s.net.packets.look id with
  | some .malformed, _ => s.modCluster k (fun x => x.bump 0xA0070 1)
  | some .unreachable, some p => s.unreachable k p
  | _, _ => s

/-- The last flit of a packet at its destination (R320, R356): a whole packet waits for its unit; a cut one is only
counted. -/
def State.localTail (s : State) (k port vc id : Nat) : State :=
  match s.net.packets.look id with
  | none => s
  | some p =>
    if p.cut then ((s.modNode k (fun x => { x with routes := x.routes.del (32 * port + vc) })).dropPacket id).modCluster p.home
        (fun x => x.bump 0xA0078 1)
    else
      let s1 := s.setPacket id { p with landed := true }
      if 8064 ≤ k then s1 else s1.modCluster k (fun x => x.bump 0xA0028 1)

/-- A flit goes to the node's local side (R356, R360): a landing packet's to its unit, a discarded one's nowhere. The
route of a landing packet stays until the unit has taken it. -/
def State.localFlit (s : State) (k port vc : Nat) : State :=
  match (s.node k).buf port vc, s.wants k port vc with
  | f :: _, some (_, _, pl) =>
    let lands : Bool := match pl with
      | some .land => true
      | some _ => false
      | none => ((s.node k).routes.look (32 * port + vc)).any (fun r => r.out = 4)
    let s1 := (s.localHead k f.id pl).popFlit k port vc
    let s2 := s1.modNode k (fun x => { x with routes := x.routes.put (32 * port + vc) ⟨if lands then 4 else 5, vc, f.id⟩ }.setOut 4
      ((x.out 4).served vc))
    if lands then
      let s3 := s2.portCount k 4 0 1
      if f.tail then s3.localTail k port vc f.id else s3
    else if f.tail then
      (s2.modNode k (fun x => { x with routes := x.routes.del (32 * port + vc) })).collect f.id
    else s2
  | _, _ => s

/-- A cycle of a node's local output. -/
def State.localCycle (s : State) (k : Nat) : State :=
  match s.arbiter k 4 with
  | some c => (s.stallOthers k 4 (some c.1)).localFlit k c.1 c.2.1
  | none => s.stallOthers k 4 none

/-- A command on a node of the message plane. -/
def onNode (k : Nat) (s : State) (f : State → State) : Out :=
  if k < 8088 then .next (f s) else .fault .noSuchUnit

/-- A router forwards a flit: one cycle of an output of a node, 4 its local side (R332, R335). A link that is down
sends nothing. -/
def execPacketHop (k q : Nat) (s : State) : Out :=
  onNode k s fun s => if q = 4 then s.localCycle k else when' (s.linkUp k q) s (s.linkCycle k q)

/-! ### Link errors and links that go down (R318 to R321) -/

/-- Whether the word in which a flit is sent fails a check of the receiver (R318). -/
def State.fails (s : State) (k q k' port' : Nat) (f : Flit × Nat) (err : BitVec 303) : Bool :=
  let i := (s.node k).in_ q
  let w := (linkWord (some f.1) f.2 i.expect i.nakDue i.freed.head?).hit err
  !w.crcOk || w.seq ≠ ((s.node k').in_ port').expect

/-- The flit that reaches a node's input next fails its check (R318): bits inverted on its way make its `CRC` fail, or
its `SEQ` is not the one expected. A flit that passes both is not this command. -/
def execFlitNak (k port : Nat) (err : BitVec 303) (s : State) : Out :=
  onNode k s fun s =>
    match linkPeer k port with
    | none => s
    | some (k0, q0) =>
      let r := s.nextFlit k0 q0
      match r.2 with
      | none => s
      | some f => when' (s.linkUp k0 q0 && r.1.fails k0 q0 k port f err) s ((r.1.transmit k0 q0 r.2 err (s.fabricIn (regionOfCluster k0))).freeBc k0)

/-! ### Injection -/

def State.port (s : State) (n : Nat) : PortSt := s.ports.get PortSt.reset n
def State.setPort (s : State) (n : Nat) (x : PortSt) : State := { s with ports := s.ports.put n x }
def State.modPort (s : State) (n : Nat) (g : PortSt → PortSt) : State := s.setPort n (g (s.port n))

/-- The logical core that a packet's source unit of kind 0 is. -/
def Packet.srcCore (p : Packet) : Nat := p.origin * 32 + p.src.num

/-- The cluster at which a field controller and a wafer supervisor of its field receive (R350). -/
def State.controllerAt (s : State) (f : Nat) : Nat :=
  if s.clusterState (f * 96 + 41) = 4 then f * 96 + 54 else f * 96 + 41

/-- Where a unit that sends requests stands: its cluster and its kind and number (R324). A router's fault reports come from its
configuration space (DESIGN CHOICE, log entry 174: the spec gives a router no unit kind). -/
def State.senderOf (s : State) (h : Requester) : Nat × Endpoint :=
  match h with
  | .core c => (clusterOf c, ⟨0, coreIdx c⟩)
  | .port n => (portClusterAt n 1, ⟨6, n⟩)
  | .fieldController f => (s.controllerAt f, ⟨7, f % 32⟩)
  | .supervisor b => (s.controllerAt (if b then 42 else 41), ⟨8, b2n b⟩)
  | .router k => (k, ⟨3, 0⟩)

/-- Whether a packet comes from a unit: a port engine's packets name the port cluster of the link taken. -/
def State.sentBy (s : State) (h : Requester) (p : Packet) : Bool :=
  let u := s.senderOf h
  p.src = u.2 && (u.2.kind = 6 || p.origin = u.1)

/-- The requests of a unit that await their response, by age: the operation's number, or for control requests their place,
with transaction number, address and length (R341, R345). A rekindle fetch stands apart. -/
def State.openParts (s : State) (h : Requester) : List (Nat × List ReqPart) :=
  let own := match h with
    | .core c =>
      ((s.core c).ops.filter (fun o => match o.2.kind with | .fetch _ => false | _ => true)).map
        (fun o => (o.1, o.2.parts.filter (fun q => !q.done)))
    | .port n => (s.port n).ops.map (fun o => (o.1, o.2.parts.filter (fun q => !q.done)))
    | _ => []
  let ctl := (s.net.ctl.filter (fun q => q.sender = h && q.len ≠ 0)).map (fun q => ⟨q.txn, q.addr, q.len, false, []⟩)
  own ++ (ctl.zipIdx.map (fun e => (2 ^ 40 + e.2, [e.1])))

/-- Whether two ranges share a 64-byte line. -/
def shareLine (a n b m : Nat) : Bool := a / 64 ≤ (b + m - 1) / 64 && b / 64 ≤ (a + n - 1) / 64

/-- The unit that sent a packet. -/
def Packet.requester (p : Packet) : Requester :=
  match p.src.kind with
  | 0 => .core p.srcCore
  | 6 => .port p.src.num
  | 7 => .fieldController (fieldOf p.origin)
  | 8 => .supervisor (p.src.num = 1)
  | _ => .router p.origin

/-- An earlier request of the same unit to a line of this one awaits its response (R341). -/
def State.hazard (s : State) (p : Packet) : Bool :=
  let l := s.openParts (p.requester)
  match l.find? (fun o => o.2.any (fun q => q.txn = p.txn)) with
  | none => false
  | some own => l.any (fun o => o.1 < own.1 && o.2.any (fun q => shareLine q.addr q.len p.addr p.len))

/-- The open operation of a core that holds a transaction. -/
def Core.opOf (k : Core) (txn : Nat) : Option (Nat × MsgOp) :=
  k.ops.find? (fun o => o.2.parts.any (fun q => !q.done && q.txn = txn))


/-- Whether a transaction of a core is one that R342 counts: of an open operation, or of one that a restart abandoned. -/
def Core.countsTxn (k : Core) (t : Nat) : Bool :=
  match k.opOf t with
  | some o => o.2.counted
  | none => k.gone.contains t

/-- `GET` and `PUT` parts of a core that are in flight (R342): open or abandoned by a restart, and no longer waiting at the
core; an abandoned one as long as its request or its response is on its way. -/
def State.inFlight (s : State) (c : Nat) : Nat :=
  let k := s.core c
  let waiting := (s.net.packets.filter (fun e =>
    !e.2.injected && e.2.typ ≤ 1 && e.2.src.kind = 0 && e.2.srcCore = c)).map (·.2.txn)
  let moving := fun (t : Nat) => s.net.packets.any (fun e => e.2.txn = t &&
    ((e.2.typ ≤ 1 && e.2.src.kind = 0 && e.2.srcCore = c) || ((e.2.typ = 3 || e.2.typ = 4) && e.2.dst = ⟨0, coreIdx c⟩ &&
      e.2.home = clusterOf c)))
  ((k.ops.filter (fun o => o.2.counted)).map
    (fun o => o.2.parts.countP (fun q => !q.done && !waiting.contains q.txn))).sum +
    k.gone.countP (fun t => (k.opOf t).isNone && !waiting.contains t && moving t)

/-- Two packets that must stay in order (R340): one class, one source unit, one destination unit. -/
def Packet.sameFlow (p q : Packet) : Bool :=
  p.cls = q.cls && p.srcX = q.srcX && p.srcY = q.srcY && p.src = q.src && p.dstX = q.dstX &&
    p.dstY = q.dstY && p.dst = q.dst

/-- Whether an earlier packet of the same flow still waits at its source (R340). -/
def State.behind (s : State) (p : Packet) : Bool :=
  s.net.packets.any (fun e => e.2.order < p.order && !e.2.injected && !e.2.held && e.2.sameFlow p)

/-- The port cluster nearest to a column, whatever its links do. -/
def portNearest (n x : Nat) : Nat :=
  ((List.range 4).map (fun i => portClusterAt n (3 * i + 1))).foldl (fun b k =>
    if dist (clusterX k) x < dist (clusterX b) x then k else b) (portClusterAt n 1)

/-- Whether the source of a packet takes it: a router that forwards, with its broadcast buffer empty for a broadcast
(R352, R357), or a port engine with a link that is up (R354). -/
def State.sourceReady (s : State) (p : Packet) : Bool :=
  if p.src.kind = 6 then (s.attachFor p.src.num p.dstX).isSome
  else s.routerOk p.at_ && nbit (s.cluster p.at_).mpCtrl.toNat 0 && (p.typ ≠ 9 || (s.node p.at_).bc.isNone)

/-- A packet may be injected now: its source takes it, no earlier one of its flow waits, and a part of a `GET` or `PUT` has
a request slot (R340, R342). -/
def State.mayInject (s : State) (p : Packet) : Bool :=
  !p.injected && !p.held && !s.behind p && s.sourceReady p &&
    !(p.src.kind = 0 && p.typ ≤ 1 && (s.core p.srcCore).countsTxn p.txn && 32 ≤ s.inFlight p.srcCore)

/-- What the source cluster's memory controller does as it sends a core's request (R395, R397, R398). -/
def State.passController (s : State) (p : Packet) : State :=
  let k := p.origin
  if p.src.kind ≠ 0 ∨ ¬(gaSpace p.addr = 0 ∨ gaSpace p.addr = 4) then s
  else if p.typ = 0 then
    if p.fill then
      s.modCluster k (fun x => { x with fills :=
        (x.fills.filter (fun f => !(f.core = p.srcCore && f.txn = p.txn))) ++
          [⟨p.srcCore, p.txn, (s.lineKeys p.addr p.len).map (fun l => (l, false))⟩] })
    else s
  else if p.typ = 1 then s.setCluster k (s.writeThrough (s.cluster k) p.addr p.payload)
  else if p.typ = 2 then
    let keys := s.lineKeys p.addr 4
    s.modCluster k (fun x => x.invalidate (fun l => keys.contains l))
  else s

/-- A packet's flits go to the input of the local side of a node, in order, as that takes them (R331). -/
def State.enter (s : State) (k id : Nat) (p : Packet) : State :=
  ((s.modNode k (fun x => { x with feed := x.feed.put p.vc (x.feed.get [] p.vc ++ p.toFlits id p.vc) })).refill k p.vc).setPacket id
    { p with injected := true }

/-- A packet enters the network from a unit of its cluster: by the Valiant draw of its router, or minimally (R334, R336). -/
def State.injectLocal (s : State) (id : Nat) (p : Packet) : State :=
  let k := p.at_
  let x := s.cluster k
  let go := fun (x : Cluster) (p : Packet) =>
    ((s.setCluster k (x.bump 0xA0020 1)).enter k id p).passController p
  if x.valiant k p then
    let g := mpDraw x.mpGen
    let m := x.mid g
    go { x with mpGen := g } { p with leg := 0, midX := m.1, midY := m.2 }
  else go x { p with leg := 1, midX := p.dstX, midY := p.dstY }

/-- A broadcast packet of the wafer supervisor enters its router's broadcast buffer whole (R351, R352). -/
def State.injectBroadcast (s : State) (id : Nat) (p : Packet) : State :=
  let k := p.at_
  let s1 := (s.setPacket id { p with injected := true }).modCluster k (fun x => (x.bump 0xA0020 1).bump 0xA0208 p.flits)
  ((s1.bcHead k 4 id).modNode k (fun x => { x with bc := x.bc.map (fun b => { b with got := p.flits }) })).freeBc k

/-- A port engine injects its packet (R354): it draws with its own generator, in the window of its port clusters, and
takes an attach link. -/
def State.injectPort (s : State) (id : Nat) (p : Packet) : State :=
  let n := p.src.num
  let k0 := portNearest n p.dstX
  let x := s.cluster k0
  let v := x.valiant k0 p
  let g := mpDraw (s.port n).gen
  let m := if v then x.mid g else (p.dstX, p.dstY)
  match s.attachFor n m.1 with
  | none => s
  | some i =>
    let s1 := if v then s.modPort n (fun y => { y with gen := g }) else s
    s1.enter (engineNode n) id { p.byLink n i with at_ := engineNode n, leg := if v then 0 else 1, midX := m.1, midY := m.2 }

/-- A request for an address: its destination is found, and its address checked, by its source router (R363, R364). -/
def Packet.addressed (p : Packet) : Bool := p.typ ≤ 2 && p.fetch.isNone

/-- The destination of a request, found by the source router (R364). -/
def State.aim (s : State) (p : Packet) : Packet :=
  if p.addressed then
    let h := s.homeOf (clusterX p.at_) p.addr
    { p with dstX := clusterX h.1, dstY := clusterY h.1, dst := h.2 }
  else p

/-- A configuration read or write names an address too (R349). -/
def Packet.configures (p : Packet) : Bool := p.typ = 7 && (p.auxA % 256 = 1 || p.auxA % 256 = 2)

/-- Why the source router answers a request with the status absent itself (R363, R366). -/
def State.absentHere (s : State) (p : Packet) : Bool :=
  (p.addressed && !s.gaValid p.addr p.len) ||
    (p.configures && !(gaSpace p.addr = 3 && s.gaValid p.addr p.len))

/-- The source router takes a packet (R334, R339, R341, R363); its place in the order of injection tells which `MP_CTRL` it
goes by (R357). -/
def State.inject (s : State) (id : Nat) (p0 : Packet) : State :=
  let s' := { s with net := { s.net with nextId := s.net.nextId + 1 } }
  let p1 := { p0 with order := s.net.nextId }
  if s.absentHere p0 then s.localAnswer id p0 1
  else if (p0.addressed || p0.configures) && s.hazard p0 then s.setPacket id { p0 with held := true }
  else if p0.typ = 9 then s'.injectBroadcast id p1
  else
    let p := s.aim p1
    let x := s.cluster p.at_
    if p.dstX < x.islandX0 ∨ x.islandX1 < p.dstX then
      let s1 := s.modCluster p.at_ (fun x => x.bump 0xA0030 1)
      if p.isRequest then s1.localAnswer id p 5 else s1.dropPacket id
    else if p.src.kind = 6 then s'.injectPort id p
    else s'.injectLocal id p

/-- The source router or port engine injects a packet (R334). -/
def execPacketInject (id : Nat) (s : State) : Out :=
  match s.net.packets.look id with
  | some p => if s.mayInject p then .next (s.inject id p) else .next s
  | none => .next s

/-- A command of a unit that sends requests. -/
def onRequester (u : Requester) (s : State) (f : State → State) : Out :=
  if u.exists_ then .next (f s) else .fault .noSuchUnit

/-- A held request of a unit goes once no earlier request holds its lines (R341): it counts as sent now (R340). The cycles
that it waited are counted in the unit's router. -/
def execHazardRelease (u : Requester) (waited : Nat) (s : State) : Out :=
  onRequester u s fun s =>
    match s.net.packets.find? (fun e => e.2.held && e.2.requester = u && !s.hazard e.2) with
    | some (id, p) =>
      let s1 := s.setPacket id { p with held := false, order := s.net.nextId }
      { s1 with net := { s1.net with nextId := s1.net.nextId + 1 } }.modCluster p.origin (fun x => x.bump 0xA0058 waited)
    | none => s

/-! ### Control requests (R325, R345, R349) -/

/-- The transaction numbers that a unit may not use now: those of its open requests, and those of packets that still bear
its name (R323). -/
def State.usedTxns (s : State) (h : Requester) : List Nat :=
  let parts := match h with
    | .core c => (s.core c).ops.flatMap (fun o => (o.2.parts.filter (fun q => !q.done)).map (·.txn))
    | .port n => (s.port n).ops.flatMap (fun o => (o.2.parts.filter (fun q => !q.done)).map (·.txn))
    | _ => []
  let u := s.senderOf h
  let mine := s.net.packets.filter (fun e =>
    s.sentBy h e.2 || (e.2.dst = u.2 && (u.2.kind = 6 || e.2.home = u.1)))
  parts ++ (s.net.ctl.filter (fun q => q.sender = h)).map (·.txn) ++ mine.map (·.2.txn)

/-- A unit sends a control request (R349): the packet waits at its router, and the request awaits its response. With every
transaction number in use it sends none. -/
def State.sendCtl (s : State) (h : Requester) (k : Nat) (dst : Endpoint) (cmd addr len : Nat) (d : List Byte) : State :=
  let u := s.senderOf h
  let used := s.usedTxns h
  match (List.range 4096).find? (fun t => !used.contains t) with
  | none => s
  | some t =>
    let p := { s.mkPacket u.1 u.2 k dst 7 3 t len addr with auxA := cmd, payload := d }
    let s1 := s.addPacket p
    { s1 with net := { s1.net with ctl := s1.net.ctl ++ [⟨h, t, addr, if cmd ≤ 2 then len else 0⟩] } }

/-! ### Delivery -/

/-- A packet of the named types that stands whole at its destination leaves the network for its unit, which frees its
virtual channel for the next. -/
def deliver (id : Nat) (s : State) (ok : Packet → Bool) (f : State → Packet → State) : Out :=
  match s.net.packets.look id with
  | some p =>
    if p.landed && ok p then
      .next (f ((s.modNode p.at_ (fun x => { x with routes := x.routes.filter (fun r => r.2.id ≠ id) })).dropPacket id) p)
    else .next s
  | none => .next s

end Sys2Proof.Machine
end

