-- ==== Sys2Proof/Machine/Wire.lean ====
section
/-! DEFINITION. What leaves the module on a wire (R465, R481 to R483, R516 to R518): Ethernet frames with their padding and FCS,
IP packets, UDP datagrams, and the answers to ARP, neighbour solicitation and echo. -/

namespace Sys2Proof.Machine

/-! ### Frames (R465) -/

/-- The FCS of a frame (PRESUMED: CRC-32 of IEEE 802.3, log entry 217). -/
def fcs32 (l : List Byte) : Nat := (l.foldl (crcStep 0xEDB88320) 0xFFFFFFFF) ^^^ 0xFFFFFFFF

/-- A frame from its destination address to its FCS (R465): at most one 802.1Q tag, and at least 64 bytes. -/
def etherFrame (dst src : Nat) (tag : Option Nat) (etherType : Nat) (payload : List Byte) : List Byte :=
  let head := beBytes 6 dst ++ beBytes 6 src ++
    (match tag with | some t => beBytes 2 0x8100 ++ beBytes 2 t | none => []) ++ beBytes 2 etherType
  let d := head ++ payload
  let e := d ++ List.replicate (60 - d.length) 0#8
  e ++ leBytes 4 (fcs32 e)

/-! ### Sums (R465; PRESUMED: RFC 768, RFC 1071 and RFC 8200, log entry 217) -/

/-- The 16-bit words of a list of bytes, the first byte the high one, a missing last byte zero. -/
def words16 : List Byte → List Nat
  | a :: b :: r => (a.toNat * 256 + b.toNat) :: words16 r
  | [a] => [a.toNat * 256]
  | [] => []

/-- The complement of the ones' complement sum of words whose plain sum is `v`. -/
def onesSum (v : Nat) : Nat := 0xFFFF - (if v = 0 then 0 else (v - 1) % 0xFFFF + 1)

/-- The words that a checksum takes from an IP header: the addresses, the protocol and the length. -/
def pseudoSum (v6 : Bool) (src dst proto len : Nat) : Nat :=
  let n := if v6 then 16 else 4
  (words16 (beBytes n src ++ beBytes n dst)).sum + proto + len

/-- The UDP checksum (R465): 0 is sent as 0xFFFF. -/
def udpSum (v6 : Bool) (src dst sport dport : Nat) (body : List Byte) : Nat :=
  let len := 8 + body.length
  let c := onesSum (pseudoSum v6 src dst 17 len + (words16 body).sum + len + sport + dport)
  if c = 0 then 0xFFFF else c

/-! ### Packets -/

/-- An IP packet around `t`, of protocol `proto` (R465, R482). `label` is the identification, or the flow label, which the spec
leaves open. -/
def Dgram.packet (d : Dgram) (label proto : Nat) (t : List Byte) : List Byte :=
  if d.v6 then
    beBytes 4 (6 * 2 ^ 28 + (4 * d.dscp + d.ecn) % 256 * 2 ^ 20 + label % 2 ^ 20) ++ beBytes 2 t.length ++
      beBytes 1 proto ++ beBytes 1 d.ttl ++ beBytes 16 d.src ++ beBytes 16 d.dst ++ t
  else
    let a := beBytes 1 0x45 ++ beBytes 1 ((4 * d.dscp + d.ecn) % 256) ++ beBytes 2 (20 + t.length) ++ beBytes 2 label ++
      beBytes 2 (if d.df then 0x4000 else 0) ++ beBytes 1 d.ttl ++ beBytes 1 proto
    let b := beBytes 4 d.src ++ beBytes 4 d.dst
    a ++ beBytes 2 (onesSum (words16 (a ++ b)).sum) ++ b ++ t

/-- A UDP datagram by its ports and checksum. -/
def udpBytes (u : Nat × Nat × Nat) (body : List Byte) : List Byte :=
  beBytes 2 u.1 ++ beBytes 2 u.2.1 ++ beBytes 2 (8 + body.length) ++ beBytes 2 u.2.2 ++ body

/-- An ICMP message of type `t`: what follows the checksum is `rest`. -/
def icmpBytes (v6 : Bool) (src dst t : Nat) (rest : List Byte) : List Byte :=
  let pseudo := if v6 then pseudoSum true src dst 58 (4 + rest.length) else 0
  beBytes 1 t ++ [0#8] ++ beBytes 2 (onesSum (pseudo + t * 256 + (words16 rest).sum)) ++ rest

/-- An echo reply: its identifier, sequence number and data are those of the request (R481). -/
def Dgram.echo (d : Dgram) (data : List Byte) : List Byte := icmpBytes d.v6 d.src d.dst (if d.v6 then 129 else 0) data

/-- A neighbour advertisement of `target` at a MAC address (R481; PRESUMED: RFC 4861, solicited and overriding). -/
def Dgram.advertisement (d : Dgram) (target mac : Nat) : List Byte :=
  icmpBytes true d.src d.dst 136 (beBytes 4 (3 * 2 ^ 29) ++ beBytes 16 target ++ [2#8, 1#8] ++ beBytes 6 mac)

/-- An ARP reply (R481; PRESUMED: RFC 826). -/
def arpReply (mac ip toMac toIp : Nat) : List Byte :=
  beBytes 2 1 ++ beBytes 2 0x0800 ++ [6#8, 4#8] ++ beBytes 2 2 ++ beBytes 6 mac ++ beBytes 4 ip ++ beBytes 6 toMac ++ beBytes 4 toIp

/-! ### Sending -/

/-- The MAC address of a port. -/
def State.portMac (_s : State) (n : Nat) : Nat := portMacOf n
def State.portV6 (s : State) (n : Nat) : Nat := ofBe (padTo 16 (s.blob (o4PortIpv6 n)))

/-- Something that leaves the module; a frame of a port, of its in-band VLAN too (from 32), is counted (R467). -/
def State.emit (s : State) (x : Sent) : State :=
  let t := { s with sent := s.sent ++ [x] }
  if x.via < 24 ∨ 32 ≤ x.via then t.addNum (o4FramesTx (x.via % 32)) 1 else t

/-- How a port engine addresses a datagram (R482): TTL or hop limit 64, don't fragment, `HWT_DSCP`, and the UDP source port
for a destination `dport`. -/
def State.dgram (s : State) (n mac : Nat) (tag : Option Nat) (v6 : Bool) (dst : Nat) (udp : Option (Nat × Nat)) (ecn : Nat)
    (body : List Byte) : Dgram :=
  let src := if v6 then s.portV6 n else s.num (o4PortIpv4 n)
  { mac := mac, tag := tag, v6 := v6, src := src, dst := dst
    udp := udp.map (fun u => (u.1, u.2, udpSum v6 src dst u.1 u.2 body))
    dscp := s.num (o4HwtDscp n), ecn := ecn, df := !v6, ttl := 64 }

/-- The frame of a datagram from a MAC address: its body under UDP, or the ICMP message `icmp`. -/
def State.ipWire (s : State) (src : Nat) (d : Dgram) (body icmp : List Byte) : List Byte :=
  let t := match d.udp with
    | some u => (17, udpBytes u body)
    | none => (if d.v6 then 58 else 1, icmp)
  etherFrame d.mac src d.tag (if d.v6 then 0x86DD else 0x0800) (d.packet (Config.ipLabel s.sent.length) t.1 t.2)

/-- An IP datagram leaves by interface `via`, whose MAC address is `src` (R465, R482). -/
def State.emitIp (s : State) (via kind to_ src : Nat) (body icmp : List Byte) (d : Dgram) : State :=
  s.emit ⟨via, kind, to_, body, some d, s.ipWire src d body icmp⟩

end Sys2Proof.Machine
end

