-- ==== Sys2Proof/Machine/Hwt.lean ====
section
/-! DEFINITION. The wafer transport (R485 to R514): associations, segments, receive rings, and remote
windows. -/

namespace Sys2Proof.Machine

/-! ### Segments (R487) -/

/-- The 52-byte HWT header (R487). -/
structure SegHeader where
  version : BitVec 8
  kind : BitVec 8
  assoc : BitVec 16
  flags : BitVec 16
  opcode : BitVec 8
  status : BitVec 8
  seq : BitVec 32
  ackSeq : BitVec 32
  sack : BitVec 64
  msgId : BitVec 32
  msgLen : BitVec 32
  segOffset : BitVec 32
  reserved : BitVec 32
  target : BitVec 64
  crc : BitVec 32
  deriving DecidableEq, Repr

/-- The header's bytes before its CRC (R487). -/
def segHeadBytes (h : SegHeader) : List Byte :=
  [h.version, h.kind] ++ beBytes 2 h.assoc.toNat ++ beBytes 2 h.flags.toNat ++ [h.opcode, h.status] ++
    beBytes 4 h.seq.toNat ++ beBytes 4 h.ackSeq.toNat ++ beBytes 8 h.sack.toNat ++ beBytes 4 h.msgId.toNat ++
    beBytes 4 h.msgLen.toNat ++ beBytes 4 h.segOffset.toNat ++ beBytes 4 h.reserved.toNat ++
    beBytes 8 h.target.toNat

/-- A datagram: the header with its CRC, and the segment payload. -/
def segBytes (h : SegHeader) (data : List Byte) : List Byte :=
  segHeadBytes h ++ beBytes 4 (crc32c (segHeadBytes h ++ data)) ++ data

/-- A field of a datagram's header. -/
def dgField (dg : List Byte) (off n w : Nat) : BitVec w := BitVec.ofNat w (beAt dg off n)

/-- The header of a received datagram of at least 52 bytes. -/
def segHeader (dg : List Byte) : SegHeader :=
  { version := dgField dg 0 1 8, kind := dgField dg 1 1 8, assoc := dgField dg 2 2 16, flags := dgField dg 4 2 16
    opcode := dgField dg 6 1 8, status := dgField dg 7 1 8, seq := dgField dg 8 4 32, ackSeq := dgField dg 0xC 4 32
    sack := dgField dg 0x10 8 64, msgId := dgField dg 0x18 4 32, msgLen := dgField dg 0x1C 4 32
    segOffset := dgField dg 0x20 4 32, reserved := dgField dg 0x24 4 32, target := dgField dg 0x28 8 64
    crc := dgField dg 0x30 4 32 }

/-! ### Association entries and windows (R485, R508) -/

def assocKey (n a : Nat) : Nat := okey 4 n (0xA40 + a)
def windowKey (n w : Nat) : Nat := okey 4 n (0xA80 + w)

def State.assocBytes (s : State) (n a : Nat) : List Byte := s.dict.blobs.get (List.replicate 48 0) (assocKey n a)
def State.windowBytes (s : State) (n w : Nat) : List Byte := s.dict.blobs.get (List.replicate 48 0) (windowKey n w)

def aEnable (b : List Byte) : Bool := nbit (leAt b 0 1) 7
def aPeerModule (b : List Byte) : Bool := nbit (leAt b 0 1) 3
def aHost (b : List Byte) : Bool := nbit (leAt b 0 1) 2
def aIpv6 (b : List Byte) : Bool := nbit (leAt b 0 1) 0
def aRingLog2 (b : List Byte) : Nat := leAt b 1 1
def aSegMax (b : List Byte) : Nat := leAt b 8 2
def aPeerMax (b : List Byte) : Nat := leAt b 0xC 4
def aRingBase (b : List Byte) : Nat := leAt b 0x28 8

def wOutValid (b : List Byte) : Bool := nbit (leAt b 0 1) 0
def wInValid (b : List Byte) : Bool := nbit (leAt b 0 1) 1
def wInWrite (b : List Byte) : Bool := nbit (leAt b 0 1) 2
def wInRead (b : List Byte) : Bool := nbit (leAt b 0 1) 3
def wNotify (b : List Byte) : Bool := nbit (leAt b 0 1) 4
def wOutAssoc (b : List Byte) : Nat := leAt b 1 1
def wOutWindow (b : List Byte) : Nat := leAt b 2 1
def wInbox (b : List Byte) : Nat := leAt b 4 4
def wInBase (b : List Byte) : Nat := leAt b 8 8
def wInLength (b : List Byte) : Nat := leAt b 0x10 8
def wOutLength (b : List Byte) : Nat := leAt b 0x18 8
def wMask (b : List Byte) : Nat := leAt b 0x20 8

/-- The region of a port, and its partition (R41, R420). -/
def portRegion (n : Nat) : Nat := n % 12
def State.portPart (s : State) (n : Nat) : Nat := s.partOfRegion (portRegion n)

/-- Whether the multi-module transport licence is present (R664). -/
def State.multiModule (s : State) : Bool := nbit (s.num o7Features) 3

/-- A range within space 0x4 of a partition (R362). -/
def State.inSpace4 (s : State) (p a len : Nat) : Bool :=
  gaSpace a = 4 && nfld a 56 4 = p && s.gaValid a len

/-- A range in space 0x0 or 0x4 of a partition. -/
def State.inPartDram (s : State) (p a len : Nat) : Bool :=
  s.inSpace4 p a len || (gaSpace a = 0 && s.gaValid a len && s.partOfRegion (regionOfField (nfld a 39 7)) = p)

def Assoc.up (x : Assoc) : Bool := x.ownAcked && x.peerTaken
def PortSt.assoc (x : PortSt) (a : Nat) : Assoc := x.assocs.get Assoc.reset a
def State.assoc (s : State) (n a : Nat) : Assoc := (s.port n).assoc a
def State.modAssoc (s : State) (n a : Nat) (g : Assoc → Assoc) : State :=
  s.modPort n (fun x => { x with assocs := x.assocs.put a (g (x.assoc a)) })

/-- Whether an association is enabled and up (R490). -/
def State.assocUp (s : State) (n a : Nat) : Bool := aEnable (s.assocBytes n a) && (s.assoc n a).up

/-! ### Ports up and down, and the report path (R477, R507) -/

/-- A port is down (R477). -/
def State.portDown (s : State) (n : Nat) : Bool :=
  s.num (o4PortState n) ≠ 2 || (s.attachFor n 0).isNone || s.num (o1RegionState (portRegion n)) = 2 ||
    s.num (o1RegionState (portRegion n)) = 3

/-- The report path of a port: it is up, and so is the association of `REPORT_ASSOC`. -/
def State.reportUp (s : State) (n : Nat) : Bool := !s.portDown n && s.assocUp n (s.num (o4ReportAssoc n))

/-- A stream under R507, by whether the report path is up. -/
def StreamEntry.path (e : StreamEntry) (up : Bool) : StreamEntry :=
  if up then
    if e.state = 3 ∧ e.hold = 7 then { e with state := if e.final then 2 else 1, hold := 0 } else e
  else if (e.state = 1 ∨ e.state = 2) ∧ !e.inPeriod then { e with state := 3, hold := 7 } else e

/-- R507 applied to every stream of a port. -/
def State.applyPath (s : State) (n : Nat) : State :=
  let up := s.reportUp n
  s.modPort n (fun x => { x with streams := x.streams.mapV (fun e => e.path up) })

/-! ### Sending messages (R488, R496, R497) -/

/-- Whether an opcode goes in the second priority class of R496. -/
def urgentOp (op : Nat) : Bool := op ≠ 7 && op ≠ 0xA

/-- The segments of a message (R487, R489). -/
def segmentsOf (m : HwtMsg) (segMax : Nat) : List OutSeg :=
  if m.payload.isEmpty || segMax = 0 then [⟨0, m, 0, m.payload.length, 0, 0⟩]
  else
    (List.range ((m.payload.length + segMax - 1) / segMax)).map (fun j =>
      ⟨0, m, j * segMax, min segMax (m.payload.length - j * segMax), 0, 0⟩)

/-- Segments enter the queue of an association by priority (R496). -/
def enqueue (q l : List OutSeg) (urgent : Bool) : List OutSeg :=
  if urgent then q.takeWhile (fun x => urgentOp x.msg.opcode) ++ l ++ q.dropWhile (fun x => urgentOp x.msg.opcode)
  else q ++ l

/-- The UDP port of the wafer transport. -/
def hwtPort : Nat := 47190

/-- An HWT datagram leaves on an association (R482, R485): ECT(0), and the association's tag when `TAGGED` is set. -/
def State.emitHwt (s : State) (n a kind : Nat) (body : List Byte) : State :=
  let b := s.assocBytes n a
  let tag := if nbit (leAt b 0 1) 1 then some (leAt b 2 2) else none
  s.emitIp n kind a (s.portMac n) body [] (s.dgram n (beAt b 0x20 6) tag (aIpv6 b) (beAt b 0x10 16)
    (some (hwtPort, leAt b 4 2)) 2 body)

/-- The datagram of a data segment (R487): it carries no acknowledgement, which leaves in a segment of its own (DESIGN CHOICE,
log entry 184). -/
def OutSeg.datagram (g : OutSeg) (peer : Nat) : List Byte :=
  segBytes
    { version := 1, kind := 0, assoc := BitVec.ofNat 16 peer, flags := 0, opcode := BitVec.ofNat 8 g.msg.opcode
      status := BitVec.ofNat 8 g.msg.status, seq := BitVec.ofNat 32 g.seq, ackSeq := 0, sack := 0
      msgId := BitVec.ofNat 32 g.msg.msgId, msgLen := BitVec.ofNat 32 g.msg.payload.length
      segOffset := BitVec.ofNat 32 g.off, reserved := 0, target := BitVec.ofNat 64 g.msg.target, crc := 0 }
    (sliceB g.msg.payload g.off g.len)

/-- A data segment leaves; one sent again counts too (R515). -/
def State.sendSeg (s : State) (n a : Nat) (g : OutSeg) : State :=
  (s.emitHwt n a 7 (g.datagram (leAt (s.assocBytes n a) 6 2))).addNum (o4HwtSegsTx n) 1

/-- The next segment of an association leaves, while fewer than 1,024 are unacknowledged (R492): it takes the next `SEQ`
(R488). -/
def Assoc.sendHead (x : Assoc) (now : Nat) : Option (OutSeg × Assoc) :=
  match x.queue with
  | g :: r =>
    if x.flight.length < 1024 then
      let h := { g with seq := x.txSeq, sentAt := now }
      some (h, { x with flight := x.flight ++ [h], queue := r, txSeq := (x.txSeq + 1) % 2 ^ 32 })
    else none
  | [] => none

/-- The class of the segment that an association would send next (R496): true for the second class. -/
def Assoc.nextClass (x : Assoc) : Option Bool :=
  if x.flight.length < 1024 then x.queue.head?.map (fun g => urgentOp g.msg.opcode) else none

/-- The association that sends next (R496): the second class before the third, and within a class the associations in turn. -/
def PortSt.nextSender (x : PortSt) : Option Nat :=
  let ask := fun (urgent : Bool) (last : Nat) =>
    ((List.range 64).map (fun j => (last + 1 + j) % 64)).find? (fun a => (x.assoc a).nextClass = some urgent)
  match ask true x.turn.1 with
  | some a => some a
  | none => ask false x.turn.2

/-- One data segment of a port leaves. -/
def State.sendNext (s : State) (n : Nat) : State :=
  match (s.port n).nextSender with
  | none => s
  | some a =>
    match (s.assoc n a).sendHead s.wt with
    | none => s
    | some (g, y) =>
      ((s.modAssoc n a (fun _ => y)).modPort n (fun x => { x with
        turn := if urgentOp g.msg.opcode then (a, x.turn.2) else (x.turn.1, a) })).sendSeg n a g

/-- The segments that wait in a port. -/
def PortSt.waiting (x : PortSt) : Nat := (x.assocs.map (fun e => e.2.queue.length)).sum

/-- Pushes a page back, never more than the ring holds. -/
def State.pushPage (s : State) (n a : Nat) : State :=
  let k := s.num (o4PoolEntries n)
  let at_ := (s.port n).pushAt
  if k ≤ s.num (o4PoolFree n) then s
  else
    ((s.gaWrite (s.num (o4PoolBase n) + 8 * at_) (leBytes 8 a)).modPort n (fun x =>
      { x with pushAt := (at_ + 1) % k })).setNum (o4PoolFree n) (s.num (o4PoolFree n) + 1)

/-- Gives back the pages of a stream that closes, in ascending order of its table, and clears the table. -/
def State.unmapPages (s : State) (n : Nat) (e : StreamEntry) : State :=
  (List.range e.pagesMapped).foldl (fun s j =>
    let r := s.gaRead (e.kvRoot + 8 * j) 8
    (r.1.pushPage n (ofLe r.2)).gaWrite (e.kvRoot + 8 * j) (leBytes 8 0)) s

/-- A close report has left: no segment of it waits any more. -/
def PortSt.reported (x : PortSt) (q : Nat × Nat × Nat) : Bool :=
  !((x.assoc q.2.1).queue.any (fun g => g.msg.opcode = 6 && g.msg.msgId = q.2.2))

/-- Streams whose close report has left are free (R461, R428): their pages return, and nothing of them is kept for a void
admission (R758). -/
def State.sweep (s : State) (n : Nat) : State :=
  let x := s.port n
  let l := (x.leaving.filter x.reported).map (·.1)
  if l.isEmpty then s
  else
    (l.foldl (fun s j => s.unmapPages n ((s.port n).streams.get StreamEntry.reset j)) s).modPort n (fun x => { x with
      streams := x.streams.filter (fun e => !l.contains e.1)
      saved := x.saved.filter (fun e => !l.contains e.1)
      changed := x.changed.filter (fun j => !l.contains j)
      leaving := x.leaving.filter (fun q => !l.contains q.1) })

/-- Sends what a port may send; a port that is down sends nothing (R477). -/
def State.pump (s : State) (n : Nat) : State :=
  if s.portDown n then s
  else ((List.range (s.port n).waiting).foldl (fun s _ => s.sendNext n) s).sweep n

/-- A message for a peer (R497); one that falls due while the association is not up is dropped (R506). -/
def State.queueMsg (s : State) (n a : Nat) (m : HwtMsg) : State :=
  if s.assocUp n a then
    let q := enqueue (s.assoc n a).queue (segmentsOf m (aSegMax (s.assocBytes n a))) (urgentOp m.opcode)
    (s.modAssoc n a (fun x => { x with queue := q })).pump n
  else s

/-- A message with the next number of its association. -/
def State.sendMsg (s : State) (n a opcode status target : Nat) (payload : List Byte) : State :=
  if s.assocUp n a then
    let id := (s.assoc n a).msgNext
    (s.modAssoc n a (fun x => { x with msgNext := id + 1 })).queueMsg n a ⟨opcode, status, id % 2 ^ 32, target, payload⟩
  else s

/-- The answer to message `id` of a peer, whose number it carries (DESIGN CHOICE, log entry 185). -/
def State.sendAnswer (s : State) (n a opcode status id : Nat) (payload : List Byte) : State :=
  s.queueMsg n a ⟨opcode, status, id, 0, payload⟩

/-- A NACK (R500). -/
def State.sendNack (s : State) (n a msgId code opcode : Nat) : State :=
  (s.sendMsg n a 0xF 0 0 (leBytes 4 msgId ++ [BitVec.ofNat 8 code, BitVec.ofNat 8 opcode, 0#8, 0#8])).addNum
    (o4HwtNacksSent n) 1

/-! ### Association up and down (R490, R493) -/

/-- The rate of a port in Mb/s. -/
def State.portRateMb (s : State) (n : Nat) : Nat := s.num (o4PortRate n) * 1000

/-- An association comes up once both syncs are done (R490, R494): streams held for the path return. -/
def State.tryUp (s : State) (n a : Nat) (was : Bool) : State :=
  let x := s.assoc n a
  if x.up && !was then
    let r := s.portRateMb n
    (s.modAssoc n a (fun x => { x with rate := ⟨r, 1⟩, alpha := ⟨1, 1⟩, txSeq := x.ownSeq.getD 0,
                                       acks := 0, acksCe := 0 })).applyPath n
  else s

/-- The bytes of a ring record's header (R501). -/
def recHeader (skip : Bool) (len opcode msgId : Nat) : List Byte :=
  leBytes 4 (len + (if skip then 2 ^ 31 else 0)) ++ [BitVec.ofNat 8 opcode, 0#8, 0#8, 0#8] ++ leBytes 4 msgId ++
    List.replicate 52 0#8

/-- Whether every byte of a record's message has come. -/
def RingRec.complete (r : RingRec) : Bool := !r.skip && (r.got.map (·.2)).sum = r.msgLen && !r.got.isEmpty

/-- D after the records that remain: the oldest one that is no skip record (R503). -/
def ringTrim (ring : List RingRec) : List RingRec := ring.dropWhile (·.skip)

/-- The ring after its records are `ring`. -/
def Assoc.setRing (x : Assoc) (ring : List RingRec) : Assoc :=
  let r := ringTrim ring
  { x with ring := r, ringD := match r with | [] => x.ringW | h :: _ => h.off }

/-- The bytes that a ring holds. -/
def Assoc.ringHeld (x : Assoc) : Nat := (x.ringW + 2 ^ 64 - x.ringD) % 2 ^ 64

/-- Where a record lies in DRAM. -/
def State.ringAt (s : State) (n a : Nat) (off : Nat) : Nat :=
  let b := s.assocBytes n a
  aRingBase b + off % 2 ^ aRingLog2 b

/-- An association goes down (R493). -/
def State.assocDown (s : State) (n a : Nat) : State :=
  let x := s.assoc n a
  let lost := x.ring.filter (fun r => !r.complete && !r.skip)
  let s1 := lost.foldl (fun s r => s.gaWrite (s.ringAt n a r.off) (recHeader true (r.size - 64) 0 0)) s
  let ring := x.ring.map (fun r => if r.complete then r else { r with skip := true })
  let y := { Assoc.reset with ringW := x.ringW, ringD := x.ringD, msgNext := x.msgNext }.setRing ring
  let s2 := (s1.modAssoc n a (fun _ => y)).addNum (o4HwtAssocDowns n) 1
  let hit := (s2.port n).outReqs.filter (fun q => q.assoc = a)
  let s3 := s2.modPort n (fun p => { p with
    outReqs := p.outReqs.filter (fun q => q.assoc ≠ a)
    ready := p.ready.filter (fun q => q.1 ≠ a) })
  ((hit.foldl (fun s q => s.respond q.req.home q.req 5 [] 0) s3).sweep n).applyPath n

/-! ### Segments received (R489, R491) -/

/-- Whether a segment's source is the association's (R489). -/
def fromPeer (b : List Byte) (src : SegFrom) : Bool :=
  aIpv6 b = src.v6 && beAt b 0x10 16 = src.ip.toNat && leAt b 4 2 = src.udp.toNat

/-- The checks of R489 that every segment passes. -/
def State.segOk (s : State) (n : Nat) (src : SegFrom) (dg : List Byte) : Bool :=
  let h := segHeader dg
  let data := dg.drop 52
  let a := h.assoc.toNat
  let b := s.assocBytes n a
  let window := h.kind = 0 && (h.opcode = 7 || h.opcode = 9)
  52 ≤ dg.length && h.crc.toNat = crc32c (dg.take 0x30 ++ data) && h.version = 1 && h.kind.toNat ≤ 2 && a ≤ 63 && aEnable b &&
    fld h.flags 0 14 = 0 && h.reserved = 0 && fld h.msgLen 21 11 = 0 && fld h.segOffset 21 11 = 0 &&
    (if window then fld h.target 55 9 = 0 else h.target = 0) && (h.kind = 0 || h.opcode = 0) &&
    (h.status = 0 || (h.kind = 0 && (h.opcode = 8 || h.opcode = 0xA))) && fromPeer b src &&
    data.length ≤ aSegMax b && (h.kind = 0 || data.isEmpty) &&
    h.segOffset.toNat + data.length ≤ h.msgLen.toNat &&
    (h.segOffset.toNat + data.length = h.msgLen.toNat || data.length % 64 = 0)

/-- Whether number `q` lies before `e` modulo 2^32. -/
def seqBefore (q e : Nat) : Bool := (e + 2 ^ 32 - q) % 2 ^ 32 ≠ 0 && (e + 2 ^ 32 - q) % 2 ^ 32 ≤ 2 ^ 31

/-- An acknowledgement arrives (R491, R494, R490): covered segments leave, and its own sync is
acknowledged. -/
def Assoc.takeAck (x : Assoc) (h : SegHeader) : Assoc :=
  if nbit h.flags.toNat 15 then
    let e := h.ackSeq.toNat
    let covered := fun (q : Nat) => seqBefore q e ||
      (let d := (q + 2 ^ 32 - e) % 2 ^ 32; 1 ≤ d && d ≤ 64 && nbit h.sack.toNat (d - 1))
    { x with
      ownAcked := x.ownAcked || x.ownSeq = some e
      flight := x.flight.filter (fun g => !covered g.seq)
      acks := x.acks + 1
      acksCe := x.acksCe + b2n (nbit h.flags.toNat 14) }
  else x

/-- The next number to send (R487): before the association is up its own first number, a free value while none is drawn. -/
def State.nextSeq (s : State) (n a : Nat) : Nat :=
  let x := s.assoc n a
  if x.up then x.txSeq else x.ownSeq.getD (Config.freeNat s.free % 2 ^ 32)

/-- The acknowledgement of an association as it is now (R491, R495): `ACK_SEQ`, `SACK`, `CE_ECHO`. -/
def State.ackBody (s : State) (n a : Nat) : List Byte :=
  let x := s.assoc n a
  let b := s.assocBytes n a
  let sack := ((List.range 64).map (fun j => if x.rxHeld.contains ((x.rxNext + 1 + j) % 2 ^ 32) then 2 ^ j else 0)).sum
  let ce := x.ce || (aHost b && 3 * 2 ^ aRingLog2 b < 4 * x.ringHeld)
  let h : SegHeader := ⟨1, 1, BitVec.ofNat 16 (leAt b 6 2), BitVec.ofNat 16 (2 ^ 15 + (if ce then 2 ^ 14 else 0)), 0, 0,
    BitVec.ofNat 32 (s.nextSeq n a), BitVec.ofNat 32 x.rxNext, BitVec.ofNat 64 sack, 0, 0, 0, 0, 0, 0⟩
  segBytes h []

/-- An acknowledgement segment leaves. -/
def State.sendAck (s : State) (n a : Nat) : State :=
  (s.draw.2.emitHwt n a 5 (s.ackBody n a)).modAssoc n a (fun x => { x with unacked := 0, ce := false })

/-- 8 µs after data, or at 16 segments, the acknowledgement is sent (R491). -/
def execAckTimer (n a : Nat) (s : State) : Out :=
  onPort n s fun s => when' (s.assocUp n a && (s.assoc n a).unacked ≠ 0) s (s.sendAck n a)

/-- The number is accepted: what was held behind it follows (R491). -/
def rxAdvance : Nat → Nat → List Nat → Nat × List Nat
  | 0, e, l => (e, l)
  | n + 1, e, l => if l.contains e then rxAdvance n ((e + 1) % 2 ^ 32) (l.filter (· ≠ e)) else (e, l)

/-- A data segment is accepted in its direction. -/
def State.acceptSeg (s : State) (n a seq : Nat) (ce : Bool) : State :=
  (s.modAssoc n a (fun x =>
    let p := rxAdvance 1025 x.rxNext (x.rxHeld ++ [seq])
    { x with rxNext := p.1, rxHeld := p.2, unacked := x.unacked + 1, ce := x.ce || ce })).addNum (o4HwtSegsRx n) 1

/-- At 16 unacknowledged segments the acknowledgement leaves at once (R491). -/
def State.ackIfDue (s : State) (n a : Nat) : State := if 16 ≤ (s.assoc n a).unacked then s.sendAck n a else s

/-- Whether a message of an opcode and length fits its layout (R504, R510, R512, R500). -/
def lenOk (op len : Nat) : Bool :=
  match op with
  | 1 => 40 ≤ len && len % 4 = 0
  | 2 => 16 ≤ len && len % 4 = 0
  | 3 => len = 16
  | 4 => len = 16
  | 8 => len = 0
  | 9 => len = 4
  | 0xF => len = 8
  | _ => true

/-- Why a message is refused as soon as a segment names it (R497, R498, R499); 0 for no reason. -/
def State.msgRefused (s : State) (n a op len : Nat) : Nat :=
  let b := s.assocBytes n a
  if len = 0x1FFFFF then 1
  else if op = 0 ∨ (0xA < op ∧ op ≠ 0xF) then 5
  else if (op ≤ 4 ∧ !aHost b) ∨ op = 5 ∨ op = 6 then 7
  else if !lenOk op len then 6
  else if op ≤ 4 ∧ 2 ^ aRingLog2 b < 64 + 64 * ((len + 63) / 64) then 2
  else 0

/-- Marks a message as refused: its segments are acknowledged and none of it is kept. -/
def refusedMark : Nat := 256

/-- The ring space of a message (R502): the association with its record reserved, `stamp` its place among the arrivals, and the
skip record it wrote, or none while it waits. -/
def Assoc.reserve (x : Assoc) (log op msgId len stamp : Nat) : Option (Assoc × Option RingRec) :=
  let size := 2 ^ log
  let need := 64 + 64 * ((len + 63) / 64)
  let tail := size - x.ringW % size
  let x1 := if x.ringW = x.ringD ∧ tail < need then
      { x with ringW := (x.ringW + tail) % 2 ^ 64, ringD := (x.ringW + tail) % 2 ^ 64 } else x
  let tail1 := size - x1.ringW % size
  let free := size - x1.ringHeld
  let add := fun (y : Assoc) (skip : Option RingRec) =>
    let r : RingRec := ⟨y.ringW, need, op, msgId, len, [], false, stamp⟩
    some ({ y with ring := y.ring ++ skip.toList ++ [r], ringW := (y.ringW + need) % 2 ^ 64 }, skip)
  if tail1 < need then
    if free < tail1 + need then none
    else
      let sk : RingRec := ⟨x1.ringW, tail1, 0, 0, 0, [], true, stamp⟩
      add { x1 with ringW := (x1.ringW + tail1) % 2 ^ 64 } (some sk)
  else if free < need then none
  else add x1 none

/-- The record of a ring message that is still incomplete. -/
def Assoc.openRec (x : Assoc) (id : Nat) : Option RingRec := x.ring.find? (fun r => !r.skip && r.msgId = id && !r.complete)

/-- Segments of one message disagree (R498): its record turns into a skip record, the message is refused, and a NACK with code 6
names opcode `op`. -/
def State.spoilRing (s : State) (n a : Nat) (r : RingRec) (len op : Nat) : State :=
  ((s.gaWrite (s.ringAt n a r.off) (recHeader true (r.size - 64) 0 0)).modAssoc n a (fun x =>
    let ring := x.ring.map (fun (q : RingRec) => if q.off = r.off then { q with skip := true } else q)
    { x with reasm := x.reasm.put r.msgId ⟨refusedMark, len, 0, 0, []⟩ }.setRing ring)).sendNack n a r.msgId 6 op

/-- A ring record is begun (R501, R502): reserved, with its header and the skip record before it written; none while its space is
lacking. -/
def State.beginRec (s : State) (n a op id len : Nat) : Option State :=
  match (s.assoc n a).reserve (aRingLog2 (s.assocBytes n a)) op id len (s.port n).came with
  | none => none
  | some (y, skip) =>
    let s1 := (s.modAssoc n a (fun _ => y)).modPort n (fun x => { x with came := x.came + 1 })
    let s2 := match skip with
      | some k => s1.gaWrite (s1.ringAt n a k.off) (recHeader true (k.size - 64) 0 0)
      | none => s1
    match y.openRec id with
    | some r => some (s2.gaWrite (s2.ringAt n a r.off) (recHeader false len op id))
    | none => some s2

/-- A segment of a ring message (R499, R501 to R504): accepted, or waiting for ring space. -/
def State.ringSegment (s : State) (n a : Nat) (h : SegHeader) (data : List Byte) (ce : Bool) : State :=
  let op := h.opcode.toNat
  let id := h.msgId.toNat
  let len := h.msgLen.toNat
  let begun := if ((s.assoc n a).openRec id).isSome then some s else s.beginRec n a op id len
  match begun with
  | none => s.addNum (o4HwtRingWaits n) 1
  | some s1 =>
    match (s1.assoc n a).openRec id with
    | none => s1
    | some r =>
      if r.opcode ≠ op ∨ r.msgLen ≠ len then (s1.acceptSeg n a h.seq.toNat ce).spoilRing n a r len op
      else
        let s2 := if data.isEmpty then s1 else s1.gaWrite (s1.ringAt n a (r.off + 64 + h.segOffset.toNat)) data
        (s2.modAssoc n a (fun x => { x with ring := x.ring.map (fun q =>
          if q.off = r.off && !(q.got.any (fun g => g.1 = h.segOffset.toNat)) then
            { q with got := q.got ++ [(h.segOffset.toNat, data.length)] } else q) })).acceptSeg n a h.seq.toNat ce

/-- Where a message is put together: write completions and read responses carry numbers of this side. -/
def reasmKey (op id : Nat) : Nat := if op = 8 ∨ op = 0xA then 2 ^ 32 + id else id

/-- The bytes of a message's segments, in order of their offsets. -/
def joinSegs (segs : List (Nat × List Byte)) (len : Nat) : List Byte :=
  segs.foldl (fun d g => patchB d g.1 g.2) (List.replicate len 0#8)

/-- A segment of another message: once whole, it is ready to be handled. -/
def State.plainSegment (s : State) (n a : Nat) (h : SegHeader) (data : List Byte) (ce : Bool) : State :=
  let op := h.opcode.toNat
  let key := reasmKey op h.msgId.toNat
  let x := s.assoc n a
  let r := x.reasm.get ⟨op, h.msgLen.toNat, h.target.toNat, h.status.toNat, []⟩ key
  let s1 := s.acceptSeg n a h.seq.toNat ce
  if r.opcode = refusedMark then s1
  else if r.opcode ≠ op ∨ r.msgLen ≠ h.msgLen.toNat then
    (s1.modAssoc n a (fun x => { x with reasm := x.reasm.put key { r with opcode := refusedMark, segs := [] } })).sendNack
      n a h.msgId.toNat 6 op
  else
    let segs := if r.segs.any (fun g => g.1 = h.segOffset.toNat) then r.segs else r.segs ++ [(h.segOffset.toNat, data)]
    if (segs.map (fun g => g.2.length)).sum = r.msgLen then
      (s1.modAssoc n a (fun x => { x with reasm := x.reasm.del key })).modPort n (fun p =>
        { p with ready := p.ready ++ [(a, ⟨op, r.status, h.msgId.toNat, r.target, joinSegs segs r.msgLen⟩)] })
    else s1.modAssoc n a (fun x => { x with reasm := x.reasm.put key { r with segs := segs } })

/-- Inbound reads in progress (R512). -/
def PortSt.reads (x : PortSt) : Nat :=
  x.ops.countP (fun o => !o.2.write) + x.ready.countP (fun q => q.2.opcode = 9)

/-- A data segment is taken by an association that is up. -/
def State.dataSegment (s : State) (n a : Nat) (h : SegHeader) (data : List Byte) (ce : Bool) : State :=
  let s0 := ((s.modAssoc n a (fun x => x.takeAck h)).pump n).addNum (o4HwtCeReceived n) (b2n ce)
  let x := s0.assoc n a
  let q := h.seq.toNat
  let d := (q + 2 ^ 32 - x.rxNext) % 2 ^ 32
  let op := h.opcode.toNat
  let id := h.msgId.toNat
  let key := reasmKey op id
  if seqBefore q x.rxNext || x.rxHeld.contains q then
    s0.modAssoc n a (fun x => { x with unacked := x.unacked + 1, ce := x.ce || ce })
  else if 1024 < d then s0
  else if (x.reasm.get ⟨0, 0, 0, 0, []⟩ key).opcode = refusedMark then s0.acceptSeg n a q ce
  else
    let why := s0.msgRefused n a op h.msgLen.toNat
    if why ≠ 0 then
      ((s0.modAssoc n a (fun x => { x with reasm := x.reasm.put key ⟨refusedMark, h.msgLen.toNat, 0, 0, []⟩ })).acceptSeg
        n a q ce).sendNack n a id why op
    else if op ≤ 4 then
      -- the message has segments of another kind (R498)
      if x.reasm.has key then
        ((s0.modAssoc n a (fun x => { x with reasm := x.reasm.put key ⟨refusedMark, h.msgLen.toNat, 0, 0, []⟩ })).acceptSeg
          n a q ce).sendNack n a id 6 op
      else s0.ringSegment n a h data ce
    else if key = id ∧ (x.openRec id).isSome then
      match x.openRec id with
      | some r => (s0.acceptSeg n a q ce).spoilRing n a r h.msgLen.toNat op
      | none => s0
    else if op = 9 ∧ 256 ≤ (s0.port n).reads then s0.addNum (o4HwtRingWaits n) 1
    else s0.plainSegment n a h data ce

/-- A datagram of the wafer transport arrives at a port (R489): discarded and counted, or handled; `kind` says which it is. -/
def onSegment (n kind : Nat) (src : SegFrom) (dg : List Byte) (s : State) (f : State → SegHeader → State) : Out :=
  onPort n s fun s =>
    let h := segHeader dg
    let k := if h.kind = 1 || h.kind = 2 then h.kind.toNat else 0
    if s.portDown n || k ≠ kind then s
    else if s.segOk n src dg then f s h
    else s.addNum (o4HwtDiscards n) 1

/-- A data segment arrives (R489 to R503). -/
def execDataSegment (n : Nat) (src : SegFrom) (dg : List Byte) (ce : Bool) (s : State) : Out :=
  onSegment n 0 src dg s fun s h =>
    when' (s.assocUp n h.assoc.toNat) s
      ((s.dataSegment n h.assoc.toNat h (dg.drop 52) ce).ackIfDue n h.assoc.toNat)

/-- An acknowledgement segment (R491, R492): the round-trip estimates that it gives are free values (the
spec names them without their rule; DESIGN CHOICE). -/
def execAcknowledgementSegment (n : Nat) (src : SegFrom) (dg : List Byte) (s : State) : Out :=
  onSegment n 1 src dg s fun s h =>
    let a := h.assoc.toNat
    let x := s.assoc n a
    let d := s.draw
    let fresh := x.flight.any (fun g => g.resends = 0 && seqBefore g.seq h.ackSeq.toNat)
    let s1 := d.2.draw.2.modAssoc n a (fun x =>
      let y := x.takeAck h
      if fresh then { y with srtt := Config.freeNat d.1 % 2 ^ 32, rttvar := Config.freeNat (d.1 + 1) % 2 ^ 32 } else y)
    (s1.tryUp n a x.up).pump n

/-- A sync segment (R490). -/
def execSyncSegment (n : Nat) (src : SegFrom) (dg : List Byte) (s : State) : Out :=
  onSegment n 2 src dg s fun s h =>
    let a := h.assoc.toNat
    let s1 := if s.assocUp n a then s.assocDown n a else s
    let was := (s1.assoc n a).up
    let s2 := s1.modAssoc n a (fun x =>
      { x.takeAck h with rxNext := h.seq.toNat, rxHeld := [], peerTaken := true })
    (s2.sendAck n a).tryUp n a was

/-- The datagram of a sync (R487, R490). -/
def syncDatagram (peer seq : Nat) : List Byte :=
  segBytes { version := 1, kind := 2, assoc := BitVec.ofNat 16 peer, flags := 0, opcode := 0, status := 0
             seq := BitVec.ofNat 32 seq, ackSeq := 0, sack := 0, msgId := 0, msgLen := 0, segOffset := 0, reserved := 0
             target := 0, crc := 0 } []

/-- An enabled association that is not up sends its sync (R490): `seq` is the number drawn for it. -/
def execSyncSend (n a : Nat) (seq : BitVec 32) (s : State) : Out :=
  onPort n s fun s =>
    if s.portDown n || !aEnable (s.assocBytes n a) || (s.assoc n a).up || 63 < a then s
    else
      let q := (s.assoc n a).ownSeq.getD seq.toNat
      (s.emitHwt n a 6 (syncDatagram (leAt (s.assocBytes n a) 6 2) q)).modAssoc n a (fun x => { x with ownSeq := some q })

/-- The resend time of a segment in ns (R492): from the round-trip estimates, at least `RTO_MIN_US`, doubled with each resend, and at
most 64 ms. -/
def State.resendTime (s : State) (n a : Nat) (g : OutSeg) : Nat :=
  let x := s.assoc n a
  min 64000000 (max (1000 * s.num (o4RtoMinUs n)) (x.srtt + 4 * x.rttvar) * 2 ^ g.resends)

/-- The resend time of a segment expires (R492, R494): wafer time is then at least that much after the segment last left. -/
def execResendTimeout (n a : Nat) (seq : BitVec 32) (s : State) : Out :=
  onPort n s fun s =>
    if s.portDown n then s
    else
      match (s.assoc n a).flight.find? (fun g => g.seq = seq.toNat) with
      | none => s
      | some g =>
        let t := s.atTime (max s.wt (g.sentAt + s.resendTime n a g))
        if 16 ≤ g.resends then t.assocDown n a
        else
          let lo : Frac := ⟨t.num (o4RateMin n), 1⟩
          let s1 := t.modAssoc n a (fun x => { x with
            flight := x.flight.map (fun y =>
              if y.seq = seq.toNat then { y with resends := y.resends + 1, sentAt := t.wt } else y)
            rate := Frac.max (Frac.mul x.rate ⟨1, 2⟩) lo })
          (s1.sendSeg n a g).addNum (o4HwtResends n) 1

/-- The sender's rate step (R494). -/
def Assoc.rateStep (x : Assoc) (lo step top : Nat) : Assoc :=
  let f : Frac := if x.acks = 0 then ⟨0, 1⟩ else ⟨x.acksCe, x.acks⟩
  let al := Frac.add (Frac.mul x.alpha ⟨15, 16⟩) (Frac.mul f ⟨1, 16⟩)
  let r := if f.n = 0 then Frac.min (Frac.add x.rate ⟨step, 1⟩) ⟨top, 1⟩
    else Frac.max (Frac.mul x.rate (Frac.sub ⟨1, 1⟩ (Frac.mul al ⟨1, 2⟩))) ⟨lo, 1⟩
  { x with alpha := al, rate := r, acks := 0, acksCe := 0 }

/-- Every 50 µs the rate moves (R494). -/
def execRateUpdate (n a : Nat) (s : State) : Out :=
  onPort n s fun s =>
    when' (s.assocUp n a) s
      (s.modAssoc n a (fun x => x.rateStep (s.num (o4RateMin n)) (s.num (o4RateStep n)) (s.portRateMb n)))

/-! ### Writes of the tables (R486, R760) -/

/-- Why an association entry is refused (R486): the status, 0 for accepted. -/
def State.assocRefused (s : State) (n : Nat) (b : List Byte) : Nat :=
  if b.length ≠ 48 then 6
  else if !aEnable b then 0
  else if aPeerModule b && !s.multiModule then 0xB
  else
    let log := aRingLog2 b
    let ringOk := if aHost b then 16 ≤ log && log ≤ 26 && aRingBase b % 2 ^ log = 0 &&
        s.inSpace4 (s.portPart n) (aRingBase b) (2 ^ log) && 32800 ≤ aPeerMax b
      else log = 0
    if ringOk && nfld (leAt b 0 1) 4 3 = 0 && nfld (leAt b 2 2) 12 1 = 0 && leAt b 6 2 ≤ 63 &&
        1024 ≤ aSegMax b && aSegMax b ≤ 8192 && aSegMax b % 64 = 0 && leAt b 0xA 2 = 0 &&
        64 ≤ aPeerMax b && aPeerMax b ≤ 2097150 && leAt b 0x26 2 = 0 &&
        (aIpv6 b || beAt b 0x10 12 = 0) then 0
    else 7

/-- A write of `ASSOC[a]` (R486): the state and the status. -/
def State.writeAssoc (s : State) (n a : Nat) (b : List Byte) : State × Nat :=
  let st := s.assocRefused n b
  if st ≠ 0 then (s, st)
  else
    let s1 := if s.assocUp n a then s.assocDown n a else s
    let s2 := s1.setBlob (assocKey n a) b
    (((s2.modAssoc n a (fun x => { Assoc.reset with msgNext := x.msgNext })).sweep n).applyPath n, 0)

/-- A write of an association entry. -/
def execAssocWrite (n a : Nat) (data : List Byte) (s : State) : Out :=
  onPort n s fun s => if a ≤ 63 then (s.writeAssoc n a data).1 else s

/-- Why a window descriptor is refused (R760). -/
def State.windowRefused (s : State) (n : Nat) (b : List Byte) : Nat :=
  if b.length ≠ 48 then 6
  else
    let p := s.portPart n
    let res := nfld (leAt b 0 1) 5 3 = 0 && leAt b 3 1 = 0 && leAt b 0x28 8 = 0
    let out := !wOutValid b || (wOutAssoc b ≤ 63 && wOutLength b ≤ 2 ^ 49)
    let box := !wNotify b || (nfld (wInbox b) 0 12 = 0 && nfld (wInbox b) 19 13 < 8064 &&
      s.partOfRegion (regionOfCluster (nfld (wInbox b) 19 13)) = p)
    let inn := !wInValid b || (wInBase b % 4096 = 0 && wInLength b ≠ 0 && wInLength b % 4096 = 0 &&
      wInLength b ≤ 2 ^ 49 && s.inPartDram p (wInBase b) (wInLength b) && box)
    if res && out && inn then 0 else 7

/-- A write of `WINDOW[w]` (R760). -/
def State.writeWindow (s : State) (n w : Nat) (b : List Byte) : State × Nat :=
  let st := s.windowRefused n b
  if st ≠ 0 then (s, st) else (s.setBlob (windowKey n w) b, 0)

/-- A write of a window descriptor. -/
def execWindowWrite (n w : Nat) (data : List Byte) (s : State) : Out :=
  onPort n s fun s => if w ≤ 63 then (s.writeWindow n w data).1 else s

/-- A new partition layout closes the inbound windows that lie outside (R514). -/
def State.closeWindows (s : State) (n : Nat) : State :=
  (List.range 64).foldl (fun s w =>
    let b := s.windowBytes n w
    if wInValid b && !s.inPartDram (s.portPart n) (wInBase b) (wInLength b) then
      s.setBlob (windowKey n w) (BitVec.ofNat 8 (leAt b 0 1 &&& 0xFD) :: b.drop 1)
    else s) s

/-! ### Remote windows (R508 to R513) -/

/-- The oldest message of an opcode that waits on an association is handled. Where `f` cannot take it yet, it waits on. -/
def onReady (n a op : Nat) (s : State) (f : State → HwtMsg → Option State) : Out :=
  onPort n s fun s =>
    match (s.port n).ready.find? (fun q => q.1 = a && q.2.opcode = op) with
    | some q => (f (s.modPort n (fun p => { p with ready := p.ready.erase q })) q.2).getD s
    | none => s

/-- Why an inbound window refuses an operation (R499, R500): the NACK code, 0 for none. -/
def windowNack (b : List Byte) (a off len : Nat) (write : Bool) : Nat :=
  if !wInValid b || !(if write then wInWrite b else wInRead b) || !nbit (wMask b) a then 4
  else if wInLength b < off + len then 3 else 0

/-- The transaction numbers of a port engine that are in use. -/
def State.portTxns (s : State) (n : Nat) : List Nat :=
  ((s.port n).ops.flatMap (fun o => (o.2.parts.filter (fun q => !q.done)).map (·.txn))) ++
    (s.net.packets.filter (fun e => e.2.src = ⟨6, n⟩ || e.2.dst = ⟨6, n⟩)).map (·.2.txn)

/-- A transaction number that a port engine may use now. -/
def State.portTxn (s : State) (n : Nat) (more : List Nat) : Nat :=
  let used := s.portTxns n ++ more
  ((List.range 4096).find? (fun t => !used.contains t)).getD 0

/-- The requests of a port engine for the parts of a message (R510, R512): writes of the bytes `d` from `a0` on, or reads. -/
def portParts (n a0 : Nat) (write : Bool) (d : List Byte) : List (Nat × Nat) → List ReqPart → State → State × List ReqPart
  | [], done, s => (s, done)
  | (a, len) :: r, done, s =>
    let t := s.portTxn n (done.map (·.txn))
    let k := portClusterAt n 1
    let h := s.homeOf (clusterX k) a
    let p := if write then
        { s.mkPacket k ⟨6, n⟩ h.1 h.2 1 (if len ≤ 64 then 0 else 2) t len a with payload := sliceB d (a - a0) len }
      else s.mkPacket k ⟨6, n⟩ h.1 h.2 0 0 t len a
    portParts n a0 write d r (done ++ [⟨t, a, len, false, []⟩]) (s.addPacket p)

/-- An inbound operation begins, once the port engine has a transaction number for each of its parts. -/
def State.startPortOp (s : State) (n a : Nat) (m : HwtMsg) (write : Bool) (len : Nat) (data : List Byte) : Option State :=
  let w := nfld m.target 49 6
  let off := nfld m.target 0 49
  let base := wInBase (s.windowBytes n w) + off
  let parts := cutParts 1026 base len
  if 4096 < (s.portTxns n).eraseDups.length + parts.length then none
  else
    let p := portParts n base write data parts [] s
    some (p.1.modPort n (fun x => { x with ops := x.ops.put x.ops.fresh ⟨write, a, m.msgId, w, off, len, p.2, []⟩ }))

/-- The worst status of a list (R510). -/
def worstStatus (l : List Nat) : Nat := (([3, 5, 2, 1, 4].find? (fun x => l.contains x))).getD 0

/-- A remote write into an inbound window (R510). -/
def execRemoteWrite (n a : Nat) (s : State) : Out :=
  onReady n a 7 s fun s m =>
    let why := windowNack (s.windowBytes n (nfld m.target 49 6)) a (nfld m.target 0 49) m.payload.length true
    if why ≠ 0 then some (s.sendNack n a m.msgId why 7) else s.startPortOp n a m true m.payload.length m.payload

/-- The completion packet of a remote write (R511). -/
def State.notify (s : State) (n : Nat) (o : PortOp) : State :=
  let b := s.windowBytes n o.window
  if wNotify b then
    let k := portClusterAt n 1
    let box := wInbox b
    let body := leBytes 8 o.off ++ leBytes 4 o.len ++ [BitVec.ofNat 8 o.assoc, BitVec.ofNat 8 n, 0#8, 0#8]
    s.addPacket { s.mkPacket k ⟨6, n⟩ (nfld box 19 13) ⟨4, nfld box 14 5⟩ 6 2 (s.portTxn n []) 16 0 with
      payload := body, inbox := nfld box 12 2, auxA := o.window }
  else s

/-- Every part of an inbound write is answered (R510). -/
def execRemoteWriteComplete (n op : Nat) (s : State) : Out :=
  onPort n s fun s =>
    match (s.port n).ops.look op with
    | none => s
    | some o =>
      if o.write && o.parts.all (·.done) then
        ((s.modPort n (fun x => { x with ops := x.ops.del op })).notify n o).sendAnswer n o.assoc 8
          (worstStatus o.statuses) o.msgId []
      else s

/-- An inbound read whose parts are all answered is answered (R512): with the data, or with the failing status. -/
def State.finishRead (s : State) (n key : Nat) : State :=
  match (s.port n).ops.look key with
  | none => s
  | some o =>
    if !o.write && o.parts.all (·.done) then
      let st := worstStatus o.statuses
      (s.modPort n (fun x => { x with ops := x.ops.del key })).sendAnswer n o.assoc 0xA st o.msgId
        (if st = 0 then o.parts.flatMap (·.data) else [])
    else s

/-- A remote read of an inbound window (R512): its parts go as read requests. -/
def execRemoteRead (n a : Nat) (s : State) : Out :=
  onReady n a 9 s fun s m =>
    let len := leAt m.payload 0 4
    let why := if 2097150 < len then 6 else if aPeerMax (s.assocBytes n a) < len then 2
      else windowNack (s.windowBytes n (nfld m.target 49 6)) a (nfld m.target 0 49) len false
    if why ≠ 0 then some (s.sendNack n a m.msgId why 9)
    else
      let key := (s.port n).ops.fresh
      (s.startPortOp n a m false len []).map (fun t => t.finishRead n key)

/-- A core's request that used an association, answered by message number (R509). -/
def State.answerOut (s : State) (n a msgId : Nat) (typ status : Nat) (data : List Byte) : State :=
  match (s.port n).outReqs.find? (fun q => q.assoc = a && q.msgId = msgId && (typ = 9 || q.req.typ = typ)) with
  | none => s.addNum (o4HwtDiscards n) 1
  | some q =>
    (s.modPort n (fun p => { p with outReqs := p.outReqs.erase q })).respond q.req.home q.req status
      (if q.req.typ = 0 && status = 0 then data else []) 0

/-- A write completion (R509). -/
def execWriteCompletion (n a : Nat) (s : State) : Out :=
  onReady n a 8 s fun s m => some (s.answerOut n a m.msgId 1 m.status [])

/-- A read response from a peer (R509). -/
def execRemoteReadResponse (n a : Nat) (s : State) : Out :=
  onReady n a 0xA s fun s m => some (s.answerOut n a m.msgId 0 m.status m.payload)

/-- The status that a NACK gives a core (R500). -/
def nackStatus (code : Nat) : Nat :=
  match code with
  | 2 => 4
  | 3 => 4
  | 4 => 2
  | 7 => 2
  | _ => 1

/-- A NACK from a peer (R500). -/
def execNack (n a : Nat) (s : State) : Out :=
  onReady n a 0xF s fun s m =>
    let id := leAt m.payload 0 4
    let s0 := s.addNum (o4HwtNacksReceived n) 1
    some (
      if (s.port n).outReqs.any (fun q => q.assoc = a && q.msgId = id) then
        s0.answerOut n a id 9 (nackStatus (leAt m.payload 4 1)) []
      else if (s.assoc n a).msgNext ≤ id then s0.addNum (o4HwtDiscards n) 1
      else s0)

/-- A core's request into space 0x8 reaches the port engine (R365, R509): refused, or sent on as a remote
write or read. -/
def State.windowRequest (s : State) (p : Packet) : State :=
  let n := p.dst.num
  let w := nfld p.addr 49 6
  let off := nfld p.addr 0 49
  let b := s.windowBytes n w
  let a := wOutAssoc b
  if p.part ≠ s.portPart n then s.respond p.home p 2 [] 0
  else if !wOutValid b || wOutLength b < off + p.len || !s.multiModule then s.respond p.home p 1 [] 0
  else if !s.assocUp n a || !aPeerModule (s.assocBytes n a) then s.respond p.home p 5 [] 0
  else
    let id := (s.assoc n a).msgNext % 2 ^ 32
    let tgt := wOutWindow b * 2 ^ 49 + off
    let s1 := s.modPort n (fun x => { x with outReqs := x.outReqs ++ [⟨p, a, id⟩] })
    if p.typ = 0 then s1.sendMsg n a 9 0 tgt (leBytes 4 p.len) else s1.sendMsg n a 7 0 tgt p.payload

/-! ### Attach links and the report path (R477, R507) -/

/-- R507 after a link of a node has changed: the port engine that the node is, or is attached to, may have gone down. -/
def State.checkPath (s : State) (k : Nat) : State :=
  let ports := if 8064 ≤ k then [k - 8064] else (attachOf k 0).toList ++ (attachOf k 2).toList
  ports.foldl State.applyPath s

/-- A node declares its link down at fabric count `n` (R319, R320, R507): it has resent one flit 16 times, or it has held
unacknowledged flits for 4,096 cycles without an `ACK`. -/
def execLinkDown (k port : Nat) (n : BitVec 64) (s : State) : Out :=
  onNode k s fun s =>
    let o := (s.node k).out port
    if !s.linkUp k port then s
    else if 16 ≤ o.tries then (s.downLink k port 1).checkPath k
    else if !o.replay.isEmpty && o.since + 4096 ≤ n.toNat then (s.downLink k port 2).checkPath k
    else s

end Sys2Proof.Machine
end

