-- ==== Sys2Proof/Machine/Responses.lean ====
section
/-! DEFINITION. The responses of the message plane that reach their units, and the requests that time out (R205, R342, R345,
R346, R395, R510, R512). -/

namespace Sys2Proof.Machine

/-! ### Responses to a core (R205, R342, R346) -/

/-- The cause and detail that a status raises in a core (R205, R347); none for success. -/
def statusCause (st : Nat) : Option Nat :=
  match st with
  | 0 => none
  | 2 => some 0x09
  | 3 => some 0x11
  | _ => some 0x08

/-- The part of an operation with an open transaction. -/
def MsgOp.part (o : MsgOp) (txn : Nat) : ReqPart :=
  ((o.parts.find? (fun q => !q.done && q.txn = txn))).getD ⟨txn, 0, 0, true, []⟩

/-- One part is answered; the operation completes with its last part. `FAULT_DETAIL` of causes 0x08 and 0x09 is the
address of the part too, as R208 has it for cause 0x11 (DESIGN CHOICE, log entry 168). -/
def Core.answerPart (k : Core) (key : Nat) (o : MsgOp) (txn status : Nat) (data : List Byte) : Core :=
  let q := o.part txn
  let o1 := { o with
    parts := o.parts.map (fun r => if !r.done && r.txn = txn then { r with done := true, data := data } else r)
    failed := o.failed || status ≠ 0 }
  let k1 := match statusCause status with
    | some c => k.raise c q.addr
    | none => k
  if o1.parts.all (·.done) then { k1 with ops := k1.ops.del key }.complete o1
  else { k1 with ops := k1.ops.put key o1 }

/-- A rekindle fetch of address `ga` is answered in `cycle` of its multiply (R126): on success its copy fills the operand's
buffer; on the status uncorrectable the station faults and the multiply is not completed (R130); on any other the
multiply falls back (R129). A fetch answered after another's time-out is the one that ends F (R105). -/
def Core.answerFetch (k : Core) (key ga : Nat) (b : Bool) (status : Nat) (d : List Byte) (cycle : Nat) : Core :=
  let k1 := { k with ops := k.ops.del key }
  match k1.rk with
  | none => k1
  | some r =>
    let r1 := { r with waitN := r.waitN - 1, lastCycle := max r.lastCycle cycle, timedOut := false }
    match status with
    | 0 => { k1 with rk := some (if b then { r1 with bufB := some d } else { r1 with bufA := some d }) }.charge 0x18 d.length
    | 3 => { k1 with rk := some { r1 with uncorrectable := true } }.raise 0x11 ga
    | _ => { k1 with rk := some { r1 with fellBack := true } }

/-- A rekindle fetch times out: its multiply falls back (R129). -/
def Core.fetchTimeout (k : Core) (key : Nat) : Core :=
  let k1 := { k with ops := k.ops.del key }
  { k1 with rk := k1.rk.map (fun r => { r with waitN := r.waitN - 1, fellBack := true, timedOut := true }) }

def MsgOp.isFetch (o : MsgOp) : Bool := match o.kind with | .fetch _ => true | _ => false

/-- The lines of a cacheable read come back (R395, R396): each is installed unless it was suppressed. -/
def Cluster.fillLines (x : Cluster) (data : List Byte) : Nat → List (Nat × Bool) → Cluster
  | _, [] => x
  | j, (key, sup) :: r =>
    let x1 := if sup then x.bump 0xA1068 1 else x.install key (sliceB data (64 * j) 64)
    x1.fillLines data (j + 1) r

/-- The controller takes the response of a cacheable read of a core. -/
def State.takeFill (s : State) (c txn status : Nat) (data : List Byte) : State :=
  let k := clusterOf c
  match (s.cluster k).fills.find? (fun f => f.core = c && f.txn = txn) with
  | none => s
  | some f =>
    let s1 := s.modCluster k (fun x => { x with fills := x.fills.filter (fun g => !(g.core = c && g.txn = txn)) })
    if status = 0 then s1.modCluster k (fun x => x.fillLines data 0 f.lines) else s1

/-- A response that matches no open request of its unit (R346). -/
def State.late (s : State) (k : Nat) : State := s.modCluster k (fun x => x.bump 0xA0040 1)

/-- The requested bytes of a read response: a cacheable read was widened to whole lines (R395). -/
def readBytes (q : ReqPart) (p : Packet) : List Byte :=
  if p.payload.length = q.len then p.payload else sliceB p.payload (q.addr % 64) q.len

/-- A response of a core's request takes effect. -/
def State.coreResponse (s : State) (p : Packet) : State :=
  let c := p.home * 32 + p.dst.num
  let core := s.core c
  let s1 := if p.typ = 3 then s.takeFill c p.txn p.status p.payload else s
  match core.opOf p.txn with
  | none => s1.late p.home
  | some (key, o) =>
    let d := if p.typ = 3 then readBytes (o.part p.txn) p else if p.typ = 5 then leBytes 4 p.auxB else []
    s1.setCore c (core.answerPart key o p.txn p.status d)

/-- A part of a port engine's operation is answered with a status (R510, R512). -/
def PortOp.answer (o : PortOp) (txn status : Nat) (d : List Byte) : PortOp :=
  { o with
    parts := o.parts.map (fun q => if !q.done && q.txn = txn then { q with done := true, data := d } else q)
    statuses := o.statuses ++ [status] }

/-- The open operation of a port engine that holds a transaction. -/
def PortSt.opOf (x : PortSt) (txn : Nat) : Option (Nat × PortOp) :=
  x.ops.find? (fun o => o.2.parts.any (fun q => !q.done && q.txn = txn))

/-- A response of a port engine's own request. -/
def State.portResponse (s : State) (p : Packet) : State :=
  let n := p.dst.num
  let x := s.port n
  match x.opOf p.txn with
  | none => s.late p.home
  | some (key, o) => (s.setPort n { x with ops := x.ops.put key (o.answer p.txn p.status p.payload) }).finishRead n key

/-- A response reaches its unit. -/
def State.takeResponse (s : State) (p : Packet) : State :=
  if p.dst.kind = 0 then s.coreResponse p else if p.dst.kind = 6 then s.portResponse p else s.late p.home

/-- Whether a response belongs to a rekindle fetch. -/
def State.forFetch (s : State) (p : Packet) : Bool :=
  p.dst.kind = 0 && ((s.core (p.home * 32 + p.dst.num)).opOf p.txn).any (fun o => o.2.isFetch)

/-- A read response (R205, R395). -/
def execReadResponse (id : Nat) (s : State) : Out :=
  deliver id s (fun p => p.typ = 3 && !s.forFetch p) State.takeResponse

/-- A write response (R342). -/
def execWriteResponse (id : Nat) (s : State) : Out := deliver id s (fun p => p.typ = 4) State.takeResponse

/-- An atomic response (R202). -/
def execAtomicResponse (id : Nat) (s : State) : Out := deliver id s (fun p => p.typ = 5) State.takeResponse

/-- A rekindle fetch response, in a cycle counted from the issue of the multiply (R126, R130). -/
def execRekindleFetchResponse (id cycle : Nat) (s : State) : Out :=
  deliver id s (fun p => p.typ = 3 && s.forFetch p) (fun s p =>
    let c := p.home * 32 + p.dst.num
    let core := s.core c
    match core.opOf p.txn with
    | some (key, o) =>
      match o.kind with
      | .fetch b => s.setCore c (core.answerFetch key o.ga b p.status p.payload cycle)
      | _ => s
    | none => s.late p.home)

/-- The unit that a response is for. -/
def Packet.receiver (p : Packet) : Requester :=
  { p with src := p.dst, srcX := p.dstX, srcY := p.dstY : Packet }.requester

/-- A control request of a unit is answered: it is open no longer. -/
def State.closeCtl (s : State) (h : Requester) (txn : Nat) : State :=
  { s with net := { s.net with ctl := s.net.ctl.filter (fun q => !(q.sender = h && q.txn = txn)) } }
def State.ctlOpen (s : State) (h : Requester) (txn : Nat) : Bool := s.net.ctl.any (fun q => q.sender = h && q.txn = txn)

/-- A control response reaches the unit that sent the request (R325); one for no open request is late (R346). -/
def execControlResponse (id : Nat) (s : State) : Out :=
  deliver id s (fun p => p.typ = 8) (fun s p =>
    let h := p.receiver
    if s.ctlOpen h p.txn then s.closeCtl h p.txn else s.late p.home)

/-- A unit's request was sent: it no longer waits at its source. -/
def State.wasSent (s : State) (u : Requester) (txn : Nat) : Bool :=
  !(s.net.packets.any (fun e => !e.2.injected && e.2.isRequest && e.2.txn = txn && e.2.requester = u))

/-- What a unit does with a request that it gives up (R345): a core's or port engine's counts as answered with
unreachable, a control request is closed. None where the unit has no such request. -/
def State.giveUp (s : State) (u : Requester) (txn : Nat) : Option State :=
  if s.ctlOpen u txn then some (s.closeCtl u txn)
  else
    match u with
    | .core c =>
      let core := s.core c
      (core.opOf txn).map (fun o =>
        s.setCore c (if o.2.isFetch then core.fetchTimeout o.1 else core.answerPart o.1 o.2 txn 5 []))
    | .port n =>
      let x := s.port n
      (x.opOf txn).map (fun o => (s.setPort n { x with ops := x.ops.put o.1 (o.2.answer txn 5 []) }).finishRead n o.1)
    | _ => none

/-- No response came in `MP_TIMEOUT` after the request was sent (R345): it counts as answered with unreachable. -/
def execRequestTimeout (u : Requester) (txn : Nat) (s : State) : Out :=
  onRequester u s fun s =>
    if s.wasSent u txn then
      match s.giveUp u txn with
      | some t => t.modCluster (s.senderOf u).1 (fun x => x.bump 0xA0038 1)
      | none => s
    else s

end Sys2Proof.Machine
end

