-- ==== Sys2Proof/Machine/Streams.lean ====
section
/-! DEFINITION. Streams, their pages, the period clock, admission, commit and drop, and the energy windows
(R419 to R464). -/

namespace Sys2Proof.Machine

/-! ### Entries and parameters (R419 to R429, R439) -/

def PortSt.entry (x : PortSt) (slot : Nat) : StreamEntry := x.streams.get StreamEntry.reset slot
def State.entry (s : State) (n slot : Nat) : StreamEntry := (s.port n).entry slot
def State.setEntry (s : State) (n slot : Nat) (e : StreamEntry) : State :=
  s.modPort n (fun x => { x with streams := x.streams.put slot e })

/-- The 128 bytes of an entry (R424, R425). -/
def StreamEntry.bytes (e : StreamEntry) : List Byte :=
  [BitVec.ofNat 8 e.state, BitVec.ofNat 8 e.cls, BitVec.ofNat 8 e.hold,
    BitVec.ofNat 8 (b2n e.final + 2 * b2n e.closeReq + 4 * b2n e.inPeriod)] ++
  leBytes 4 e.ctxLen ++ leBytes 4 e.tokenCount ++ leBytes 4 e.ctxMax ++ leBytes 8 e.kvRoot ++
  leBytes 8 e.tokensBase ++ leBytes 4 e.pagesMapped ++ leBytes 4 e.credit ++ leBytes 4 e.generated ++
  leBytes 2 e.wait ++ leBytes 2 e.dropRun ++ leBytes 8 e.periodLast ++ leBytes 4 e.batchRow ++
  leBytes 2 e.rows ++ leBytes 2 0 ++ leBytes 8 e.hostTag ++ leBytes 8 e.openTime ++ leBytes 8 e.energyNj ++
  leBytes 8 e.energyCoef ++ leBytes 4 e.committed ++ leBytes 4 e.dropped ++ List.replicate 24 0#8

/-- The ports of a partition, ascending (R420). -/
def State.partPorts (s : State) (p : Nat) : List Nat := (List.range 24).filter (fun n => s.portPart n = p)

/-- Open streams of a port, and of a partition. -/
def State.openOf (s : State) (n : Nat) : Nat := (s.port n).streams.countP (fun e => e.2.state ≠ 0)
def State.openIn (s : State) (p : Nat) : Nat := ((s.partPorts p).map s.openOf).sum

/-- The size of one batch table (R444). -/
def batchSize (rows : Nat) : Nat := (64 + 32 * rows + 4095) / 4096 * 4096

/-- The parameters of a partition are valid (R439). -/
def State.paramsOk (s : State) (p : Nat) : Bool :=
  s.num (o6BatchRows p) ≠ 0 && s.num (o6DoneTarget p) ≠ 0 && s.num (o6KvTokenBytes p) ≠ 0 &&
    s.num (o6AttnBudget p) ≠ 0 && s.num (o6BatchTable p) % 4096 = 0 &&
    s.inSpace4 p (s.num (o6BatchTable p)) (2 * batchSize (s.num (o6BatchRows p))) &&
    s.num (o6BoundaryNs p) ≤ s.num (o6PeriodNs p) / 4

/-- The partition may run periods (R438). -/
def State.partReady (s : State) (p : Nat) : Bool := s.num (o6GraphState p) = 2 && s.paramsOk p

/-- A quotient rounded upwards. -/
def ceilDiv (a b : Nat) : Nat := (a + b - 1) / b

/-! ### The page pool (R428) -/

/-- Pops a page. -/
def State.popPage (s : State) (n : Nat) : State × Nat :=
  let k := s.num (o4PoolEntries n)
  let at_ := (s.port n).popAt
  let r := s.gaRead (s.num (o4PoolBase n) + 8 * at_) 8
  ((r.1.modPort n (fun x => { x with popAt := (at_ + 1) % k })).setNum (o4PoolFree n) (s.num (o4PoolFree n) - 1), ofLe r.2)

/-- Maps up to `m` more pages of a stream, while the pool has any (R427, R434, R441 step 5): the entry comes
back with its pages. -/
def State.mapPages (n : Nat) : Nat → StreamEntry → State → State × StreamEntry
  | 0, e, s => (s, e)
  | m + 1, e, s =>
    if s.num (o4PoolFree n) = 0 then (s, e)
    else
      let q := s.popPage n
      let s1 := q.1.gaWrite (e.kvRoot + 8 * e.pagesMapped) (leBytes 8 q.2)
      State.mapPages n m { e with pagesMapped := e.pagesMapped + 1 } s1

/-! ### Reports (R462, R463) -/

/-- The record of a stream in a report. -/
def reportRecord (n slot event token : Nat) (e : StreamEntry) : List Byte :=
  leBytes 2 (n * 1024 + slot) ++ [BitVec.ofNat 8 event, BitVec.ofNat 8 e.hold] ++ leBytes 4 token ++
    leBytes 4 e.ctxLen ++ leBytes 4 e.generated ++ leBytes 8 e.hostTag ++ leBytes 8 e.energyNj

/-- A report with its records (R462), on the association of `REPORT_ASSOC`. -/
def State.sendReport (s : State) (n no end_ outcome : Nat) (recs : List (List Byte)) : State :=
  let head := leBytes 8 no ++ leBytes 8 end_ ++ [BitVec.ofNat 8 (s.portPart n), BitVec.ofNat 8 n,
    BitVec.ofNat 8 outcome, 0#8] ++ leBytes 4 recs.length ++ leBytes 8 0
  s.sendMsg n (s.num (o4ReportAssoc n)) 6 0 0 (head ++ recs.flatten)

/-- A closing stream that awaits no window and whose close report is not under way (R461). -/
def PortSt.mayClose (x : PortSt) (e : Nat × StreamEntry) : Bool :=
  e.2.state = 4 && e.2.owed = 0 && !(x.leaving.any (fun q => q.1 = e.1))

/-- Closing streams whose last window is apportioned are reported closed (R461, R463); once the report has left, or was dropped
because its association is not up (R506), their pages return and their slots are free. -/
def State.freeClosed (s : State) (n : Nat) : State :=
  let x := s.port n
  let l := x.streams.filter x.mayClose
  if l.isEmpty then s
  else
    let a := s.num (o4ReportAssoc n)
    let id := (x.assoc a).msgNext % 2 ^ 32
    let s1 := s.modPort n (fun x => { x with leaving := x.leaving ++ l.map (fun e => (e.1, a, id)) })
    (s1.sendReport n 0 s.wt 0 (l.map (fun e => reportRecord n e.1 4 0 e.2))).sweep n

/-! ### Requests (R430, R431, R504 to R506) -/

/-- No record of another association of the port came earlier (R430, R503). -/
def PortSt.firstCome (x : PortSt) (stamp : Nat) : Bool :=
  x.assocs.all (fun e => match e.2.ring.find? (fun r => !r.skip) with
    | some r => stamp ≤ r.stamp
    | none => true)

/-- The record at the head of a ring is applied once its message is complete (R503), in order of arrival on the port (R430): its
payload is read from the ring, and its space is freed. A payload whose length differs from what it states draws NACK code 6 (R504). -/
def onRecord (n a op : Nat) (s : State) (lenOf : List Byte → Nat) (f : State → Nat → List Byte → State) : Out :=
  onPort n s fun s =>
    match (s.assoc n a).ring.find? (fun r => !r.skip) with
    | some r =>
      if r.opcode = op && r.complete && (s.port n).firstCome r.stamp then
        let d := s.gaRead (s.ringAt n a (r.off + 64)) r.msgLen
        let s1 := d.1.modAssoc n a (fun x => x.setRing (x.ring.filter (fun q => q.skip || q.off ≠ r.off)))
        if d.2.length = lenOf d.2 then f s1 r.msgId d.2 else s1.sendNack n a r.msgId 6 op
      else s
    | none => s

/-- The stream reply (R506). -/
def State.reply (s : State) (n a tag msgId opcode result sid tokens ctx : Nat) : State :=
  s.sendMsg n a 5 0 0 (leBytes 8 tag ++ leBytes 4 msgId ++ [BitVec.ofNat 8 opcode, BitVec.ofNat 8 result] ++
    leBytes 2 sid ++ leBytes 4 tokens ++ leBytes 4 ctx)

/-- The entry as the path of reports leaves it (R507), stored, and noted as changed when its state or hold
differs. -/
def State.putEntry (s : State) (n slot : Nat) (e : StreamEntry) : State :=
  let old := s.entry n slot
  let e' := e.path (s.reportUp n)
  let s1 := s.setEntry n slot e'
  if (old.state ≠ e'.state ∨ old.hold ≠ e'.hold) ∧ e'.state ≠ 4 then
    s1.modPort n (fun x => { x with changed := x.changed.filter (· ≠ slot) ++ [slot] })
  else s1

/-- The lowest free slot within the limit of R421. -/
def State.freeSlot (s : State) (n : Nat) : Option Nat :=
  if s.num o7StreamTier / 24 ≤ s.openOf n then none
  else (List.range 1024).find? (fun j => (s.entry n j).state = 0)

/-- Open class-0 streams of a partition. -/
def State.openClass0 (s : State) (p : Nat) : Nat :=
  ((s.partPorts p).map (fun n => (s.port n).streams.countP (fun e => e.2.state ≠ 0 && e.2.cls = 0))).sum

/-- The payload of a stream open (R504). -/
structure OpenReq where
  hostTag : Nat
  kvRoot : Nat
  tokensBase : Nat
  ctxMax : Nat
  credit : Nat
  cls : Nat
  final : Bool
  tokens : List Byte
  deriving DecidableEq, Repr

/-- A stream open as its payload has it (R504). -/
def openReq (d : List Byte) : OpenReq :=
  { hostTag := leAt d 0 8, kvRoot := leAt d 8 8, tokensBase := leAt d 0x10 8, ctxMax := leAt d 0x18 4
    credit := leAt d 0x1C 4, cls := leAt d 0x20 1, final := nbit (leAt d 0x21 1) 0, tokens := d.drop 0x28 }

/-- The result of a stream open (R431): 0 it opens. -/
def State.openResult (s : State) (n : Nat) (q : OpenReq) : Nat :=
  let p := s.portPart n
  let pages := ceilDiv q.ctxMax (s.num (o6PageTokens p))
  if !s.partReady p then 1
  else if (s.freeSlot n).isNone then 2
  else if q.ctxMax = 0 ∨ 2097152 < q.ctxMax ∨ q.ctxMax < q.tokens.length / 4 then 3
  else if q.kvRoot % 64 ≠ 0 ∨ q.tokensBase % 64 ≠ 0 ∨ !s.inSpace4 p q.kvRoot (8 * pages) ∨
      !s.inSpace4 p q.tokensBase (4 * q.ctxMax) then 4
  else if q.cls = 0 ∧ (s.num (o6Class0Max p) ≤ s.openClass0 p ∨ s.num (o6Class0CtxMax p) < q.ctxMax ∨
      s.num (o4PoolFree n) < pages) then 5
  else 0

/-- The entry of a stream as it opens. -/
def OpenReq.entry (q : OpenReq) (now : Nat) : StreamEntry :=
  { StreamEntry.reset with
    state := if q.final then 2 else 1
    cls := q.cls
    final := q.final
    tokenCount := q.tokens.length / 4
    ctxMax := q.ctxMax
    kvRoot := q.kvRoot
    tokensBase := q.tokensBase
    credit := q.credit
    hostTag := q.hostTag
    openTime := now }

/-- A stream open takes effect (R431, R434). -/
def State.openStream (s : State) (n a msgId : Nat) (q : OpenReq) : State :=
  let why := s.openResult n q
  if why ≠ 0 then (s.addNum (o4OpensRefused n) 1).reply n a q.hostTag msgId 1 why 0xFFFF 0 0
  else
    let slot := (s.freeSlot n).getD 0
    let e := q.entry s.wt
    let s1 := s.gaWrite e.tokensBase q.tokens
    let pages := if q.cls = 0 then ceilDiv e.ctxMax (s.num (o6PageTokens (s.portPart n))) else 0
    let r := State.mapPages n pages e s1
    (r.1.putEntry n slot r.2).reply n a e.hostTag msgId 1 0 (n * 1024 + slot) e.tokenCount 0

/-- A stream open (R431, R504). A class above 3 draws NACK code 6 (DESIGN CHOICE, log entry 183). -/
def execStreamOpen (n a : Nat) (s : State) : Out :=
  onRecord n a 1 s (fun d => 40 + 4 * leAt d 0x24 4) fun s msgId d =>
    if 3 < leAt d 0x20 1 then s.sendNack n a msgId 6 1 else s.openStream n a msgId (openReq d)

/-- The slot of a request that names an open stream of this port with its host tag (R505). -/
def State.slotOf (s : State) (n sid tag : Nat) : Option Nat :=
  if sid / 1024 = n ∧ (s.entry n (sid % 1024)).state ≠ 0 ∧ (s.entry n (sid % 1024)).hostTag = tag then
    some (sid % 1024)
  else none

/-- A request on an open stream (R505): its tag and stream id lead the payload; `f` answers the new state and the result. -/
def State.streamRequest (s : State) (n a op msgId : Nat) (d : List Byte) (f : State → Nat → State × Nat) : State :=
  let tag := leAt d 0 8
  let sid := leAt d 8 2
  match s.slotOf n sid tag with
  | none => s.reply n a tag msgId op 7 sid 0 0
  | some slot =>
    let r := f s slot
    let e := r.1.entry n slot
    r.1.reply n a tag msgId op r.2 sid e.tokenCount e.ctxLen

/-- Tokens appended to a stream (R431). -/
def State.submit (s : State) (n slot : Nat) (fin : Bool) (tokens : List Byte) : State × Nat :=
  let e := s.entry n slot
  let k := tokens.length / 4
  if !(e.state = 1 || (e.state = 3 && e.hold = 2)) then (s, 6)
  else if e.ctxMax < e.tokenCount + k then (s, 3)
  else
    let s1 := s.gaWrite (e.tokensBase + 4 * e.tokenCount) tokens
    (s1.putEntry n slot { e with
      tokenCount := e.tokenCount + k
      final := fin
      state := if fin then 2 else 1
      hold := 0 }, 0)

/-- A prompt submission (R431, R504, R505). -/
def execPromptSubmission (n a : Nat) (s : State) : Out :=
  onRecord n a 2 s (fun d => 16 + 4 * leAt d 0xC 4) fun s msgId d =>
    s.streamRequest n a 2 msgId d (fun s slot => s.submit n slot (nbit (leAt d 0xA 1) 0) (d.drop 0x10))

/-- Credit added (R431): no limit stays, and a limited credit stops at 0xFFFF_FFFE. -/
def State.grant (s : State) (n slot credit : Nat) : State × Nat :=
  let e := s.entry n slot
  if e.state = 4 then (s, 6)
  else
    let c := if e.credit = 0xFFFFFFFF then e.credit else min 0xFFFFFFFE (e.credit + credit)
    let e1 := { e with credit := c }
    (s.putEntry n slot (if e.state = 3 ∧ e.hold = 1 then { e1 with state := 2, hold := 0 } else e1), 0)

/-- A credit grant (R431, R504). -/
def execCreditGrant (n a : Nat) (s : State) : Out :=
  onRecord n a 3 s (fun _ => 16) fun s msgId d =>
    s.streamRequest n a 3 msgId d (fun s slot => s.grant n slot (leAt d 0xC 4))

/-- A close (R431): it waits for the period's end, or the stream is closing. -/
def State.closeStream (s : State) (n slot : Nat) : State :=
  let e := s.entry n slot
  if e.inPeriod then s.setEntry n slot { e with closeReq := true }
  else s.setEntry n slot { e with state := 4, hold := 0 }

/-- A stream-close request (R431, R504): what may close at once does so after the reply. -/
def execStreamCloseRequest (n a : Nat) (s : State) : Out :=
  onRecord n a 4 s (fun _ => 16) fun s msgId d =>
    (s.streamRequest n a 4 msgId d (fun s slot => (s.closeStream n slot, 0))).freeClosed n

/-- A write of `STREAM_CLOSE` (R464): the state and the status. -/
def State.writeStreamClose (s : State) (sid v : Nat) : State × Nat :=
  if v ≠ 1 then (s, 7)
  else if (s.entry (sid / 1024) (sid % 1024)).state = 0 then (s, 8)
  else ((s.closeStream (sid / 1024) (sid % 1024)).freeClosed (sid / 1024), 0)

/-- A write of `STREAM_CLOSE`. -/
def execStreamClose (sid : Nat) (v : BitVec 8) (s : State) : Out :=
  onPort (sid / 1024) s fun s => (s.writeStreamClose sid v.toNat).1

/-- A write of `CLASS0_MAX`, or of `CLASS0_CTX_MAX` (R433, R464): the state and the status. -/
def State.writeClass0 (s : State) (p : Nat) (ctx : Bool) (v : Nat) : State × Nat :=
  let m := if ctx then s.num (o6Class0Max p) else v
  let c := if ctx then v else s.num (o6Class0CtxMax p)
  if s.openIn p ≠ 0 then (s, 8)
  else if m ≤ s.num (o6BatchRows p) ∧ m * (c + 1) ≤ s.num (o6AttnBudget p) then
    (s.setNum (if ctx then o6Class0CtxMax p else o6Class0Max p) v, 0)
  else (s, 8)

/-- A write of a class-0 limit. -/
def execClass0LimitWrite (p : Nat) (ctx : Bool) (v : BitVec 32) (s : State) : Out :=
  onPart p s fun s => (s.writeClass0 p ctx v.toNat).1

/-- Whether a number is a power of two. -/
def powerOfTwo (v : Nat) : Bool := v ≠ 0 && 2 ^ (Nat.log2 v) = v

/-- A write of `POOL_ENTRIES` (R428, R464). -/
def State.writePoolEntries (s : State) (n v : Nat) : State × Nat :=
  if !(powerOfTwo v && 1024 ≤ v && v ≤ 16777216) then (s, 7)
  else if s.openOf n ≠ 0 then (s, 8)
  else (((s.setNum (o4PoolEntries n) v).setNum (o4PoolFree n) v).modPort n (fun x =>
    { x with popAt := 0, pushAt := 0 }), 0)

/-- A write of `POOL_ENTRIES`. -/
def execPoolEntriesWrite (n : Nat) (v : BitVec 32) (s : State) : Out :=
  onPort n s fun s => (s.writePoolEntries n v.toNat).1

/-- A write of `POOL_BASE` (R428, R464). -/
def State.writePoolBase (s : State) (n v : Nat) : State × Nat :=
  if s.openOf n ≠ 0 then (s, 8) else (s.setNum (o4PoolBase n) v, 0)

/-- A write of `POOL_BASE`. -/
def execPoolBaseWrite (n : Nat) (v : BitVec 64) (s : State) : Out :=
  onPort n s fun s => (s.writePoolBase n v.toNat).1

/-! ### Admission (R440 to R445) -/

/-- A stream is eligible (R440). -/
def StreamEntry.eligible (e : StreamEntry) : Bool :=
  (e.state = 1 || (e.state = 2 && 1 ≤ e.credit)) && e.ctxLen < e.tokenCount && !e.closeReq

def StreamEntry.pendingN (e : StreamEntry) : Nat := e.tokenCount - e.ctxLen
/-- The kind is decode. -/
def StreamEntry.decode (e : StreamEntry) : Bool := e.pendingN = 1 && e.state = 2
/-- The tier, 0 to 7, in the order of R441. -/
def StreamEntry.tier (e : StreamEntry) : Nat := 2 * e.cls + (if e.decode then 0 else 1)
/-- The demand in rows. -/
def StreamEntry.demand (e : StreamEntry) (chunk : Nat) : Nat := if e.decode then 1 else min e.pendingN chunk
/-- The cost of `r` rows. -/
def StreamEntry.cost (e : StreamEntry) (r : Nat) : Nat := r * e.ctxLen + r * (r + 1) / 2

/-- The rows and the cost that a port asks for in a tier. -/
def tierDemand (es : List StreamEntry) (chunk t : Nat) : Nat × Nat :=
  let l := es.filter (fun e => e.eligible && e.tier = t)
  ((l.map (fun e => e.demand chunk)).sum, (l.map (fun e => e.cost (e.demand chunk))).sum)

/-- The controller's grants (R441 step 2), tier after tier: by tier, the rows and cost of each port. -/
def grantTiers : List (List (Nat × Nat)) → Nat → Nat → List (List (Nat × Nat))
  | [], _, _ => []
  | d :: rest, rl, cl =>
    let r := (d.map (·.1)).sum
    let a := (d.map (·.2)).sum
    if r = 0 then d.map (fun _ => (0, 0)) :: grantTiers rest rl cl
    else if r ≤ rl ∧ a ≤ cl then d :: grantTiers rest (rl - r) (cl - a)
    else d.map (fun q => (rl * q.1 / r, if a = 0 then 0 else cl * q.2 / a)) :: rest.map (fun l => l.map (fun _ => (0, 0)))

/-- The largest number of rows, at most `r`, that fits a grant. -/
def StreamEntry.fit (e : StreamEntry) (rows cost : Nat) : Nat → Nat
  | 0 => 0
  | r + 1 => if r + 1 ≤ rows ∧ e.cost (r + 1) ≤ cost then r + 1 else e.fit rows cost r

/-- Whether one stream stands before another in a port's order (R441 step 4). -/
def streamBefore (a b : Nat × StreamEntry) : Bool :=
  a.2.tier < b.2.tier || (a.2.tier = b.2.tier && (b.2.wait < a.2.wait || (b.2.wait = a.2.wait && a.1 ≤ b.1)))

/-- A stream put in its place of the order. -/
def insertStream (x : Nat × StreamEntry) : List (Nat × StreamEntry) → List (Nat × StreamEntry)
  | [] => [x]
  | y :: r => if streamBefore x y then x :: y :: r else y :: insertStream x r

/-- The address of row `k` of the batch table of period `no` (R444). -/
def State.rowAddr (s : State) (p no k : Nat) : Nat :=
  s.num (o6BatchTable p) + no % 2 * batchSize (s.num (o6BatchRows p)) + 64 + 32 * k

/-- The rows of a stream in the batch table (R444): `TOKEN_OUT` is left to the graph. -/
def State.writeRows (s : State) (p no sid row r : Nat) (e : StreamEntry) : State :=
  (List.range r).foldl (fun s i =>
    let a := s.rowAddr p no (row + i)
    let sample := i + 1 = r && e.state = 2 && r = e.pendingN
    let tok := s.gaRead (e.tokensBase + 4 * (e.ctxLen + i)) 4
    (tok.1.gaWrite a (leBytes 4 (2 ^ 31 + (if sample then 2 ^ 30 else 0) + sid) ++ leBytes 4 (e.ctxLen + i) ++
      tok.2 ++ leBytes 4 (r * 65536 + i) ++ leBytes 8 e.kvRoot)).gaWrite (a + 28) (leBytes 4 0)) s

/-- What is carried through a port's admission: the next row, what is left of the tiers' grants, and the rows
given, each with its stream and position. -/
structure AdmitAcc where
  s : State
  row : Nat
  left : SMap (Nat × Nat)
  rows : SMap (Nat × Nat)

/-- One stream's turn (R441 steps 4 and 5, R442). -/
def admitOne (p no n chunk pageTokens : Nat) (x : AdmitAcc) (q : Nat × StreamEntry) : AdmitAcc :=
  let e := q.2
  let g := x.left.get (0, 0) e.tier
  let r0 := e.fit g.1 g.2 (e.demand chunk)
  let need := ceilDiv (e.ctxLen + r0) pageTokens - e.pagesMapped
  let m := if r0 = 0 then (x.s, e) else State.mapPages n need e x.s
  let covered := m.2.pagesMapped * pageTokens - e.ctxLen
  let starved := r0 ≠ 0 && covered < r0
  let r := min r0 covered
  let s1 := if starved then m.1.addNum (o4PageStarved n) 1 else m.1
  if r = 0 then { x with s := s1.setEntry n q.1 { m.2 with wait := min 0xFFFF (e.wait + 1) } }
  else
    let sid := n * 1024 + q.1
    let e1 := { m.2 with wait := 0, inPeriod := true, periodLast := no, batchRow := x.row, rows := r }
    { s := (s1.writeRows p no sid x.row r e).setEntry n q.1 e1
      row := x.row + r
      left := x.left.put e.tier (g.1 - r, g.2 - e.cost r)
      rows := x.rows ++ (List.range r).map (fun i => (x.row + i, (sid, e.ctxLen + i))) }

/-- A port engine's part of an admission: its run of rows starts at `row0`. -/
def admitPort (p no chunk pageTokens : Nat) (x : AdmitAcc) (n row0 : Nat) (grants : List (Nat × Nat)) : AdmitAcc :=
  let es := (x.s.port n).streams.filter (fun (e : Nat × StreamEntry) => e.2.eligible)
  let order := es.foldr insertStream []
  let saved := es.map (fun e => (e.1, [e.2.periodLast, e.2.batchRow, e.2.rows, e.2.wait]))
  let s1 := x.s.modPort n (fun y => { y with saved := saved })
  let left := (List.range 8).map (fun t => (t, (grants[t]?).getD (0, 0)))
  order.foldl (admitOne p no n chunk pageTokens) { x with s := s1, row := row0, left := left }

/-- The ports in ascending order, each with its run (R441 step 3). -/
def admitPorts (p no chunk pageTokens : Nat) : List (Nat × List (Nat × Nat)) → Nat → AdmitAcc → AdmitAcc
  | [], _, x => x
  | (n, g) :: rest, row0, x =>
    admitPorts p no chunk pageTokens rest (row0 + (g.map (·.1)).sum) (admitPort p no chunk pageTokens x n row0 g)

/-- The header and the padding rows of the batch table (R444). -/
def State.writeBatch (s : State) (p no start deadline : Nat) (rows : SMap (Nat × Nat)) : State :=
  let pad := (List.range (s.num (o6BatchRows p))).filter (fun k => !rows.has k)
  let s1 := pad.foldl (fun s k => s.gaWrite (s.rowAddr p no k) (List.replicate 32 0#8)) s
  s1.gaWrite (s.rowAddr p no 0 - 64) (leBytes 8 no ++ leBytes 4 0 ++ leBytes 4 rows.length ++ leBytes 8 start ++
    leBytes 8 deadline ++ List.replicate 32 0#8)

/-- The clock root of the island that holds a partition's westmost region (R570). -/
def State.partRoot (s : State) (p : Nat) : Nat := rootOf (s.island ((s.partRegions p).headD 0))

/-- The fabric cycle count of a partition's island. -/
def State.partCycle (s : State) (p : Nat) : Nat := s.fabricIn ((s.partRegions p).headD 0)

/-- The wafer time in ns of a fabric cycle of the island of a clock root, rounded upwards, at the divider in force (R564, R565): a
cycle is D / 153.6 ns. -/
def State.nsAt (s : State) (root cycle : Nat) : Nat :=
  let t := s.clocks.ties.get (0, 0) root
  (((t.2 : Int) + (((cycle : Int) - t.1) * (10 * (s.clk root).fabricD : Nat)) + 1535) / 1536).toNat

/-- The first fabric cycle of the island of a clock root at or after a wafer time, at the divider in force (R565). -/
def State.cycleAt (s : State) (root ns : Nat) : Nat :=
  let t := s.clocks.ties.get (0, 0) root
  let d := 10 * (s.clk root).fabricD
  ((t.1 : Int) + ((1536 * ns : Nat) - (t.2 : Int) + (d - 1 : Nat)) / (d : Nat)).toNat

/-- The fabric cycles in a second at a clock root, rounded downwards. -/
def State.rootHz (s : State) (root : Nat) : Nat := 153600000000 / (s.clk root).fabricD

/-- Whether the latest period of a partition has ended in every port engine. -/
def PartSt.boundary (x : PartSt) : Bool :=
  match x.period with
  | none => true
  | some q => q.ended ≠ .running && q.portsDue.isEmpty

/-- The next planned start (R436, R437): kept, in its phase where it has passed meanwhile, or after an early drop set from K
and from the end of the admission; before any period it lies `BOUNDARY_NS` after the admission (DESIGN CHOICE). -/
def State.nextStart (s : State) (p at_ : Nat) : Nat :=
  let x := s.part p
  let len := s.num (o6PeriodNs p)
  if x.planned ≠ 0 then x.planned + ceilDiv (at_ - x.planned) len * len
  else
    match x.period with
    | some q =>
      match q.ended with
      | .dropped _ kc => max (s.nsAt (s.partRoot p) (kc + 4096)) (at_ + 20000)
      | _ => q.start + s.num (o6PeriodNs p)
    | none => at_ + s.num (o6BoundaryNs p)

/-- The cores of the present clusters of a partition that are not dead. -/
def State.liveCores (s : State) (p : Nat) : Nat :=
  let fs := (s.partFields p).filter (fun f => s.fieldState f ≠ 2 && s.fieldState f ≠ 3)
  let all := (fs.map (fun f => 3072 - 32 * ((s.field f).dm.clState.countP (fun e => e.2 ≠ 0 && e.2 ≠ 3)))).sum
  all - s.cores.countP (fun c => c.2.dead && fs.contains (fieldOf (clusterOf c.1)))

/-- Every core of a partition that is not dead is in a list of cores. -/
def State.allIn (s : State) (p : Nat) (l : List Nat) : Bool :=
  s.liveCores p ≤ l.countP (fun c => !(s.core c).dead)

/-- Every core has acknowledged the restart and the mordant command of the boundary (R147, R453). -/
def State.boundaryDone (s : State) (p : Nat) : Bool :=
  match (s.part p).period with
  | none => true
  | some q => s.allIn p q.restarted && s.allIn p q.mordants

/-- After a drop, admission comes behind the restart and the mordant command of every core (R453); after a commit it may
come before them. -/
def State.mayAdmit (s : State) (p : Nat) : Bool :=
  let x := s.part p
  s.isPart p && s.partReady p && x.boundary && x.admitted.isNone &&
    (match x.period with
     | some q => q.ended = .committed || s.boundaryDone p
     | none => true)

/-- An admission (R441 to R445, R437): `at_` is when it ends. -/
def execAdmission (p : Nat) (at_ : BitVec 64) (s : State) : Out :=
  onPart p s fun s =>
    if s.mayAdmit p then
      let s0 := s.atTime at_.toNat
      let no := s0.num (o6PeriodNo p) + 1
      let start := s0.nextStart p at_.toNat
      let deadline := start + s0.num (o6PeriodNs p) - s0.num (o6BoundaryNs p)
      let chunk := s0.num (o6PrefillChunkMax p)
      let ports := s0.partPorts p
      let demand := (List.range 8).map (fun t =>
        ports.map (fun n => tierDemand ((s0.port n).streams.map (·.2)) chunk t))
      let g := grantTiers demand (s0.num (o6BatchRows p)) (s0.num (o6AttnBudget p))
      let byPort := (List.range ports.length).map (fun j => g.map (fun l => (l[j]?).getD (0, 0)))
      let r := admitPorts p no chunk (s0.num (o6PageTokens p)) (ports.zip byPort) 0 ⟨s0, 0, [], []⟩
      let s1 := if r.rows.isEmpty then r.s.addNum (o6PeriodsIdle p) 1 else r.s.writeBatch p no start deadline r.rows
      s1.modPart p (fun x => { x with admitted := some ⟨no, at_.toNat, r.rows⟩, planned := start })
    else s

/-! ### Starts (R435 to R438, R453, R758) -/

/-- A partition mark (R581): it closes the energy window under way and opens the next. -/
def State.placeMark (s : State) (p m : Nat) (w : Window) : State :=
  ({ s with clocks := { s.clocks with marks1 := s.clocks.marks1 ++ [Mark.mk m p [] []] } }).modPart p (fun x =>
    { x with windows := x.windows ++ [{ w with m0 := m }] })

/-- A gap between windows: its energy is unattributed. -/
def gapWindow : Window := ⟨0, none, [], 0, 1, none⟩

/-- No period follows at once (R453, R454): the window of the last period ends. -/
def State.endWindow (s : State) (p at_ : Nat) : State :=
  match (s.part p).windows.getLast? with
  | some w => if w.no.isSome then s.placeMark p (max at_ (w.m0 + s.num (o6PeriodNs p))) gapWindow else s
  | none => s

/-- An admission is void (R758). -/
def State.voidAdmission (s : State) (p : Nat) : State :=
  match (s.part p).admitted with
  | none => s
  | some _ =>
    let s1 := (s.partPorts p).foldl (fun s n =>
      let back := fun (slot : Nat) (e : StreamEntry) =>
        match (s.port n).saved.look slot with
        | some [l, b, r, w] =>
          let e1 := { e with inPeriod := false, periodLast := l, batchRow := b, rows := r, wait := w }
          if e1.closeReq then { e1 with state := 4, hold := 0 } else e1
        | _ => e
      ((s.modPort n (fun x => { x with
        streams := x.streams.map (fun q => (q.1, back q.1 q.2))
        saved := [] })).applyPath n).freeClosed n) s
    s1.modPart p (fun x => { x with admitted := none })

/-- The boundary after a period is a commit (R146, R306, R452): the period committed, or every cause that dropped it is a
missed deadline or a slot miss. -/
def Period.commits (q : Period) : Bool :=
  match q.ended with
  | .committed => true
  | _ => q.causes.all (fun c => c = 1 || c = 2)

/-- A region of the partition is in thermal hold (R614). -/
def State.thermalHold (s : State) (p : Nat) : Bool :=
  (s.partRegions p).any (fun r => nbit (s.regions.get RegionSt.reset r).rows 4)

/-- No core of the partition that has restarted still shows a fault in its log (R213): the field controllers have cleared them. -/
def State.logsClear (s : State) (p : Nat) : Bool :=
  s.cores.all (fun e => s.partOfRegion (regionOfCluster (clusterOf e.1)) ≠ p || !e.2.log.valid || e.2.faulted || e.2.dead)

/-- The start may pass (R213, R305, R438, R448, R453, R614, R677). -/
def State.startPasses (s : State) (p s0 : Nat) : Bool :=
  let x := s.part p
  s.partReady p && s.boundaryDone p && s.logsClear p && !s.thermalHold p && x.late.isEmpty && x.holds.isEmpty && x.lost.isEmpty &&
    x.reset?.isNone && s.partCycle p ≤ s0 &&
    (match x.period with
     | some q => (match q.ended with | .dropped _ kc => kc + 4096 ≤ s0 | _ => q.drop0 + 4096 ≤ s0)
     | none => true)

/-- The ranges of a cluster with `PERIOD_INV` lose their lines once for each S (R401, R390), as by an acquire (R396). -/
def State.periodInvalidate (s : State) (k s0 : Nat) : State :=
  let x := s.cluster k
  if x.invAt = s0 then s
  else
    let cov := s.periodCovers x
    s.setCluster k (({ x with invAt := s0 }.invalidate cov).suppress cov |>.bump 0xA1070 1)

/-- Writes `PERIOD_START` and `DROP_AT` in every router of a partition (R435, R453 step 5), whose caches invalidate at S
(R401, R453 step 6). -/
def State.writeRouters (s : State) (p s0 drop : Nat) : State :=
  (s.partFields p).foldl (fun s f => (List.range 96).foldl (fun s j =>
    (s.modCluster (f * 96 + j) (fun x => { x with periodStart := s0, dropAt := drop })).periodInvalidate (f * 96 + j) s0) s) s

/-- The period starts (R435, R453, R454). -/
def State.startPeriod (s : State) (p s0 hz : Nat) (ad : Admitted) : State :=
  let start := (s.part p).planned
  let len := s.num (o6PeriodNs p)
  let deadline := start + len - s.num (o6BoundaryNs p)
  let root := s.partRoot p
  let drop := s.cycleAt root deadline
  let q : Period := ⟨ad.no, start, s0, hz, deadline, .running, 0, none, [], [], [], [], [], [], [], false, drop, start⟩
  let s1 := (s.writeRouters p s0 drop).modPart p (fun x =>
    { x with period := some q, admitted := none, planned := 0 })
  let s2 := (s1.setNum (o6PeriodNo p) ad.no).setNum (o6RowsLast p) ad.rows.length
  let s3 := (s2.partPorts p).foldl (fun s n => s.modPort n (fun x => { x with
    saved := []
    streams := x.streams.mapV (fun e => if e.inPeriod then { e with owed := ad.no } else e) })) s2
  s3.placeMark p start ⟨start, some ad.no, ad.rows, s.num (o6BatchRows p), s.num (o6AttnScale p), none⟩

/-- A planned start (R437, R438, R758): the period starts, the admission admitted no row, or it is void.
`s0` is S in fabric cycles and `hz` the fabric clock, as the controller converts them at the frequency in force (R565). -/
def execPlannedStart (p : Nat) (at_ s0 hz : BitVec 64) (s : State) : Out :=
  onPart p s fun s =>
    let x := s.part p
    match x.admitted with
    | none => s
    | some ad =>
      let root := s.partRoot p
      if at_.toNat = x.planned ∧ s0.toNat = s.cycleAt root x.planned ∧ hz.toNat = s.rootHz root then
        let t := s.atTime at_.toNat
        let later := fun (s : State) => (s.endWindow p at_.toNat).modPart p (fun x =>
          { x with admitted := none, planned := x.planned + s.num (o6PeriodNs p) })
        if ad.rows.isEmpty then later t
        else if t.startPasses p s0.toNat then t.startPeriod p s0.toNat hz.toNat ad
        else later (t.voidAdmission p)
      else s

/-! ### Completion, commit and drop (R446 to R452) -/

/-- The address of the done word of a period. -/
def State.doneAddr (s : State) (p no : Nat) : Nat := s.rowAddr p no 0 - 56

/-- Changes the latest period of a partition. -/
def State.modPeriod (s : State) (p : Nat) (g : Period → Period) : State :=
  s.modPart p (fun x => { x with period := x.period.map g })

/-- The controller reads the done word (R447): a failed or uncorrectable read observes nothing. -/
def execDonePoll (p : Nat) (at_ : BitVec 64) (s : State) : Out :=
  onPart p s fun s =>
    match (s.part p).period with
    | some q =>
      if q.ended = .running ∧ at_.toNat ≤ q.deadline then
        let r := (s.atTime at_.toNat).engineRead (s.dramKey (s.doneAddr p q.no)) 4
        match r.2 with
        | some d => r.1.modPeriod p (fun q => { q with polled := some (ofLe d) })
        | none => r.1
      else s
    | none => s

/-- The commit point (R448, R449). -/
def execCommitPoint (p : Nat) (at_ : BitVec 64) (s : State) : Out :=
  onPart p s fun s =>
    match (s.part p).period with
    | some q =>
      if q.ended = .running ∧ at_.toNat ≤ q.deadline ∧ s.num (o6DoneTarget p) ≤ q.polled.getD 0 then
        let s1 := (s.atTime at_.toNat).modPeriod p (fun q =>
          { q with ended := .committed, endAt := at_.toNat, portsDue := s.partPorts p })
        ((s1.modPart p (fun x => { x with
          planned := q.start + s.num (o6PeriodNs p), lastCommit := at_.toNat })).addNum
          (o6PeriodsCommitted p) 1).setNum (o6LastCommitNs p) (at_.toNat - q.began)
      else s
    | none => s

/-- A drop cause is counted (R452). -/
def State.countDrop (s : State) (p cause : Nat) : State :=
  let b := s.blob (o6DropCauses p)
  s.setBlob (o6DropCauses p) (patchB b (8 * cause) (leBytes 8 (leAt b (8 * cause) 8 + 1)))

/-- The running period of a partition drops (R448, R451). -/
def State.dropPeriod (s : State) (p cause at_ kc planned : Nat) : State :=
  (s.modPeriod p (fun q => { q with ended := .dropped cause kc, endAt := at_, portsDue := s.partPorts p })).modPart p
    (fun x => { x with planned := planned })

/-- The deadline passes without a commit point (R447, R452). -/
def execDeadline (p : Nat) (at_ : BitVec 64) (s : State) : Out :=
  onPart p s fun s =>
    match (s.part p).period with
    | some q =>
      if q.ended = .running ∧ q.deadline ≤ at_.toNat then
        (((s.atTime at_.toNat).countDrop p 1).modPeriod p (fun q => { q with causes := q.causes ++ [1] })).dropPeriod p 1
          q.deadline q.drop0 (q.start + s.num (o6PeriodNs p))
      else s
    | none => s

/-- A drop cause arrives at the controller of a partition (R448, R452): before the commit point it drops the
period; every cause is counted, and those that come before the boundary's mordant decide it (R306). K is the cycle `kc`. -/
def State.dropCause (s : State) (p cause kc : Nat) : State :=
  let s1 := (s.countDrop p cause).modPeriod p (fun q =>
    { q with causes := if q.toldMordant.isEmpty then q.causes ++ [cause] else q.causes })
  match (s1.part p).period with
  | some q =>
    if q.ended = .running then
      let s2 := if cause = 6 then s1.addNum (o6StitchDrops p) 1 else s1
      s2.dropPeriod p cause (s.nsAt (s.partRoot p) kc) kc 0
    else s1
  | none => s1

/-- A drop cause sets out for the period controller of a partition (R448, R452). -/
def State.pushCause (s : State) (p cause : Nat) : State :=
  s.modPart p (fun x => { x with onWay := x.onWay ++ [cause] })

/-- A drop cause that is on its way to the controller arrives (R448): the wafer supervisor chooses K (R303). -/
def execDropCauseArrival (p cause : Nat) (at_ kc : BitVec 64) (s : State) : Out :=
  onPart p s fun s =>
    when' ((s.part p).onWay.contains cause) s
      (((s.atTime at_.toNat).modPart p (fun x => { x with onWay := x.onWay.erase cause })).dropCause p cause kc.toNat)

/-- A stream's commit (R449): its entry, and the event and token of its record. `b` is its last row. -/
def StreamEntry.commit (e : StreamEntry) (b : List Byte) : StreamEntry × Nat × Nat :=
  let e1 := { e with
    ctxLen := e.ctxLen + e.rows, committed := e.committed + 1, dropRun := 0, inPeriod := false }
  let hold := fun (e : StreamEntry) (r : Nat) => { e with state := 3, hold := r }
  let r := if nbit (leAt b 0 4) 30 then
      if !nbit (leAt b 28 4) 31 then (hold e1 6, 1, 0)
      else
        let e2 := { e1 with
          tokenCount := e1.tokenCount + 1, generated := e1.generated + 1,
          credit := if e1.credit = 0xFFFFFFFF then e1.credit else e1.credit - 1 }
        let e3 := if nbit (leAt b 28 4) 0 then hold e2 2
          else if e2.tokenCount = e2.ctxMax then hold e2 3
          else if e2.credit = 0 then hold e2 1 else e2
        (e3, 0, leAt b 24 4)
    else (e1, 1, 0)
  if e.closeReq then ({ r.1 with state := 4, hold := 0 }, r.2) else r

/-- The commit of one stream: its token is written, its entry updated (R449). -/
def commitOne (p no n : Nat) (x : State × List (Nat × List Byte)) (q : Nat × StreamEntry) :
    State × List (Nat × List Byte) :=
  let e := q.2
  if e.inPeriod then
    let b := x.1.gaRead (x.1.rowAddr p no (e.batchRow + e.rows - 1)) 32
    let r := e.commit b.2
    let s1 := if r.2.1 = 0 then b.1.gaWrite (e.tokensBase + 4 * e.tokenCount) (leBytes 4 r.2.2) else b.1
    (s1.setEntry n q.1 r.1, x.2 ++ [(q.1, reportRecord n q.1 r.2.1 r.2.2 r.1)])
  else if (x.1.port n).changed.contains q.1 then (x.1, x.2 ++ [(q.1, reportRecord n q.1 3 0 e)])
  else x

/-- A stream of a dropped period (R451). -/
def StreamEntry.drop (e : StreamEntry) (limit : Nat) : StreamEntry :=
  let e1 := { e with inPeriod := false, dropped := e.dropped + 1, dropRun := min 0xFFFF (e.dropRun + 1) }
  if e.closeReq then { e1 with state := 4, hold := 0 }
  else if limit ≠ 0 ∧ limit ≤ e1.dropRun then { e1 with state := 3, hold := 4 } else e1

/-- The drop of one stream (R451). -/
def dropOne (limit n : Nat) (x : State × List (Nat × List Byte)) (q : Nat × StreamEntry) :
    State × List (Nat × List Byte) :=
  let e := q.2
  if e.inPeriod then
    let e1 := e.drop limit
    (x.1.setEntry n q.1 e1, x.2 ++ [(q.1, reportRecord n q.1 2 0 e1)])
  else if (x.1.port n).changed.contains q.1 then (x.1, x.2 ++ [(q.1, reportRecord n q.1 3 0 e)])
  else x

/-- A port engine ends its part of a period (R449, R451, R463, R507): the report leaves, and closing streams
that await nothing are freed. -/
def State.endPort (p n no endAt outcome : Nat) (r : State × List (Nat × List Byte)) : State :=
  let s1 := (r.1.modPort n (fun x => { x with changed := [] })).modPeriod p (fun q =>
    { q with portsDue := q.portsDue.filter (· ≠ n) })
  let s2 := if r.2.isEmpty then s1 else s1.sendReport n no endAt outcome (r.2.map (·.2))
  (s2.applyPath n).freeClosed n

/-- A port engine commits its streams (R449, R450). -/
def execPeriodCommit (n : Nat) (s : State) : Out :=
  onPort n s fun s =>
    let p := s.portPart n
    match (s.part p).period with
    | some q =>
      if q.ended = .committed ∧ q.portsDue.contains n then
        State.endPort p n q.no q.endAt 0 ((s.port n).streams.foldl (commitOne p q.no n) (s, []))
      else s
    | none => s

/-- A port engine rolls a dropped period back (R451). -/
def execPeriodDrop (n : Nat) (s : State) : Out :=
  onPort n s fun s =>
    let p := s.portPart n
    match (s.part p).period with
    | some q =>
      match q.ended with
      | .dropped cause _ =>
        if q.portsDue.contains n then
          State.endPort p n q.no q.endAt cause
            ((s.port n).streams.foldl (dropOne (s.num (o6DropLimit p)) n) (s, []))
        else s
      | _ => s
    | none => s

/-! ### Energy accounts (R454 to R461) -/

/-- The rows of quarter `k` (R456). -/
def quarterRows (batchRows k : Nat) : List Nat :=
  (List.range batchRows).filter (fun r => k * batchRows / 4 ≤ r ∧ r < (k + 1) * batchRows / 4)

/-- The weight of a row (R457). -/
def Window.weight (w : Window) (r : Nat) : Nat :=
  match w.rows.look r with
  | some q => w.scale + q.2 + 1
  | none => w.scale

/-- The energy of the four sets (R455). -/
def setEnergy (units : List Nat) (e : Nat) : List Nat :=
  if units.sum = 0 then [e / 4, e / 4, e / 4, e / 4] else units.map (fun u => e * u / units.sum)

/-- The energy of each valid row (R457): stream and energy. -/
def Window.shares (w : Window) (units : List Nat) (e : Nat) : List (Nat × Nat) :=
  let es := setEnergy units e
  (List.range 4).flatMap (fun k =>
    let rs := quarterRows w.batchRows k
    let total := (rs.map w.weight).sum
    rs.filterMap (fun r => (w.rows.look r).map (fun q =>
      (q.1, if total = 0 then 0 else (es[k]?).getD 0 * w.weight r / total))))

/-- The oldest window of a partition whose sums are known is apportioned (R458 to R461). -/
def State.apportion (s : State) (p : Nat) (w : Window) (units : List Nat) (e c : Nat) : State :=
  let a := w.shares units e
  let b := w.shares units c
  let credit := fun (s : State) (q : Nat × Nat) (coef : Bool) =>
    let x := s.entry (q.1 / 1024) (q.1 % 1024)
    if x.state = 0 then s
    else s.setEntry (q.1 / 1024) (q.1 % 1024)
      (if coef then { x with energyCoef := (x.energyCoef + q.2) % 2 ^ 64 }
       else { x with energyNj := (x.energyNj + q.2) % 2 ^ 64 })
  let s1 := a.foldl (fun s q => credit s q false) s
  let s2 := b.foldl (fun s q => credit s q true) s1
  let s3 := (s2.addNum (o6UnattributedNj p) (e - (a.map (·.2)).sum)).addNum (o6UnattributedCoefNj p) (c - (b.map (·.2)).sum)
  let s4 := (s3.addNum (o6EnergyNj p) e).addNum (o6EnergyCoefNj p) c
  let s5 := s4.modPart p (fun x => { x with windows := x.windows.drop 1 })
  match w.no with
  | none => s5
  | some no =>
    (s5.partPorts p).foldl (fun s n =>
      (s.modPort n (fun x => { x with
        streams := x.streams.mapV (fun y => if y.owed = no then { y with owed := 0 } else y) })).freeClosed n) s5

/-- The controller apportions a window (R459). -/
def execEnergyApportion (p : Nat) (s : State) : Out :=
  onPart p s fun s =>
    match (s.part p).windows with
    | w :: _ =>
      match w.sums with
      | some (units, e, c) => s.apportion p w units e c
      | none => s
    | [] => s

end Sys2Proof.Machine
end

