-- ==== Sys2Proof/Machine/Homes.lean ====
section
/-! DEFINITION. Requests at their home (R343, R344, R365, R367, R403 to R409): core store, cluster memory,
DRAM channels, remote windows, inboxes and retained copies. -/

namespace Sys2Proof.Machine

/-! ### Checks at the destination router (R344, R25, R386) -/

/-- Whether the router refuses a packet of another partition (R344, R365, R367). -/
def State.refused (s : State) (p : Packet) : Bool :=
  p.cls ≤ 2 && p.src.kind ≠ 8 && (p.dst.kind ≤ 2 || p.dst.kind = 4) && p.part ≠ (s.cluster p.home).part

/-- A protected packet is counted (R356). -/
def State.protect (s : State) (p : Packet) : State := s.modCluster p.home (fun x => x.bump 0xA0048 1)
/-- A packet for a hollow cluster or an absent inbox is counted (R356, R25). -/
def State.absent (s : State) (p : Packet) : State :=
  if s.clusterState p.home = 1 || p.dst.kind = 4 then s.modCluster p.home (fun x => x.bump 0xA0050 1) else s

/-- The core that a packet is bound for. -/
def Packet.dstCore (p : Packet) : Nat := p.home * 32 + p.dst.num


/-- An offset of cluster memory that space 0x1 does not reach (R386). -/
def Cluster.notScratch (x : Cluster) (off len : Nat) : Bool :=
  off < x.ways * 0x20000 || (!x.steer.isEmpty && 0x1C0000 < off + len)

/-- Why a request draws the status absent at its home. -/
def State.absentAt (s : State) (p : Packet) : Bool :=
  match p.dst.kind with
  | 0 => s.coreGone p.dstCore || p.typ = 2
  | 1 => s.clusterState p.home = 1 || (s.cluster p.home).notScratch (nfld p.addr 0 21) p.len
  | 4 => s.coreGone p.dstCore || !descValid ((s.cluster p.home).inboxDesc p.dst.num p.inbox)
  | 5 => s.clusterState p.home = 1
  | 3 => p.typ = 2
  | 6 => p.typ = 2 && p.part = s.portPart p.dst.num
  | _ => false

/-- The checks of a request, then its service. -/
def State.serve (s : State) (p : Packet) (f : State → State) : State :=
  if s.refused p then (s.protect p).respond p.home p 2 [] 0
  else if s.absentAt p then (s.absent p).respond p.home p 1 [] 0
  else if p.dst.kind = 3 then (s.protect p).respond p.home p 2 [] 0
  else f s

/-! ### Cluster memory scratch (R387, R390) -/

/-- A read of scratch: the bytes, or none where a word is uncorrectable. -/
def Cluster.scratchRead (x : Cluster) (off len : Nat) : Cluster × Option (List Byte) :=
  match badWord x.cmemErr off len with
  | some _ => (x.bump 0xA1090 1, none)
  | none => (x.bump 0xA1088 (softWords x.cmemErr off len), some (Sparse.dense x.cmem off len))

/-- A write of scratch; a word partly written that is uncorrectable refuses it (R387 as R160; DEDUCED). -/
def Cluster.scratchWrite (x : Cluster) (off : Nat) (d : List Byte) : Cluster × Bool :=
  let ws := partWords off d.length
  if ws.any (fun w => x.cmemErr.look w = some true) then (x, false)
  else
    let soft := ws.countP (fun w => x.cmemErr.look w = some false)
    let all := wordsOf off d.length
    ({ x with
        cmem := Sparse.blit x.cmem off d
        cmemErr := x.cmemErr.filter (fun (e : Nat × Bool) => !all.contains e.1) }.bump 0xA1088 soft, true)

/-! ### Requests -/

/-- A read request is served (R408, R376, R160). -/
def State.serveRead (s : State) (p : Packet) : State :=
  let k := p.home
  match p.dst.kind with
  | 0 =>
    let r := (s.core p.dstCore).load (nfld p.addr 0 17) p.len
    match r.2 with
    | .ok d => (s.setCore p.dstCore r.1).respond k p 0 d 0
    | .error w => (s.setCore p.dstCore (r.1.raise 0x10 w)).respond k p 3 [] 0
  | 1 =>
    let r := (s.cluster k).scratchRead (nfld p.addr 0 21) p.len
    match r.2 with
    | some d => (s.setCluster k r.1).respond k p 0 d 0
    | none => (s.setCluster k r.1).respond k p 3 [] 0
  | 2 =>
    if (s.chan (chanOf (s.dramKey p.addr))).chState = 3 then (s.channelDown (s.dramKey p.addr)).respond k p 3 [] 0
    else
      let r := s.dramRead (s.dramKey p.addr) p.len
      match r.2 with
      | some d => r.1.respond k p 0 d 0
      | none => r.1.respond k p 3 [] 0
  | 6 => s.windowRequest p
  | _ => s

/-- A write request is served (R407, R378, R160). -/
def State.serveWrite (s : State) (p : Packet) : State :=
  let k := p.home
  match p.dst.kind with
  | 0 =>
    match (s.core p.dstCore).storeBytes (nfld p.addr 0 17) p.payload with
    | (c, none) => (s.setCore p.dstCore c).respond k p 0 [] 0
    | (c, some w) => (s.setCore p.dstCore (c.raise 0x10 w)).respond k p 3 [] 0
  | 1 =>
    let r := (s.cluster k).scratchWrite (nfld p.addr 0 21) p.payload
    (s.setCluster k r.1).respond k p (if r.2 then 0 else 3) [] 0
  | 2 =>
    if (s.chan (chanOf (s.dramKey p.addr))).chState = 3 then (s.channelDown (s.dramKey p.addr)).respond k p 3 [] 0
    else
      let r := s.dramWrite (s.dramKey p.addr) p.payload
      r.1.respond k p (if r.2 then 0 else 3) [] 0
  | 6 => s.windowRequest p
  | _ => s

/-- An atomic in DRAM (R403, R406): the old word, or none. -/
def State.dramAtomic (s : State) (key op a b : Nat) : State × Option Nat :=
  let line := key / 64 * 64
  if s.dram.mark line = some true then (s.lineError line 0x38, none)
  else
    let s1 := s.correct [line] 0x30
    let old := ofLe (Sparse.dense s1.dram.mem key 4)
    let new := amoResult op (BitVec.ofNat 32 old) (BitVec.ofNat 32 a) (BitVec.ofNat 32 b)
    let m := Sparse.blit s1.dram.mem key (leBytes 4 new.toNat)
    (({ s1 with dram := { s1.dram with mem := m } }).modChan (chanOf key) (fun x => x.bump 0x20 1), some old)

/-- An atomic request is served (R403 to R406). -/
def State.serveAtomic (s : State) (p : Packet) : State :=
  let k := p.home
  match p.dst.kind with
  | 1 =>
    let off := nfld p.addr 0 21
    let x := s.cluster k
    if (badWord x.cmemErr off 4).isSome then s.respond k p 3 [] 0
    else
      let old := ofLe (Sparse.dense x.cmem off 4)
      let new := amoResult p.amoOp (BitVec.ofNat 32 old) (BitVec.ofNat 32 p.auxA) (BitVec.ofNat 32 p.auxB)
      let y := (x.scratchWrite off (leBytes 4 new.toNat)).1
      (s.setCluster k (y.bump 0xA1098 1)).respond k p 0 [] old
  | 2 =>
    if (s.chan (chanOf (s.dramKey p.addr))).chState = 3 then (s.channelDown (s.dramKey p.addr)).respond k p 3 [] 0
    else
      let r := s.dramAtomic (s.dramKey p.addr) p.amoOp p.auxA p.auxB
      match r.2 with
      | some old => r.1.respond k p 0 [] old
      | none => r.1.respond k p 3 [] 0
  | 6 => s.respond k p 2 [] 0
  | _ => s

/-- A read request at its home (R408). -/
def execReadRequest (id : Nat) (s : State) : Out :=
  deliver id s (fun p => p.typ = 0 && p.fetch.isNone) (fun s p => s.serve p (fun s => s.serveRead p))

/-- A write request at its home (R407). -/
def execWriteRequest (id : Nat) (s : State) : Out :=
  deliver id s (fun p => p.typ = 1) (fun s p => s.serve p (fun s => s.serveWrite p))

/-- An atomic request at its home (R403). -/
def execAtomicRequest (id : Nat) (s : State) : Out :=
  deliver id s (fun p => p.typ = 2) (fun s p => s.serve p (fun s => s.serveAtomic p))

/-! ### Retained copies (R126, R129) -/

/-- The producing core answers a rekindle fetch: the copy, or absent on another generation. -/
def State.serveFetch (s : State) (p : Packet) (slot gen : Nat) : State :=
  let c := p.dstCore
  let k := s.core c
  if k.retainDepth ≤ slot ∨ (k.ringAt slot).gen ≠ gen then s.respond p.home p 1 [] 0
  else
    let r := k.load ((k.retainBase + slot) * 2048) 2048
    match r.2 with
    | .ok d => (s.setCore c r.1).respond p.home p 0 d 0
    | .error w => (s.setCore c (r.1.raise 0x10 w)).respond p.home p 3 [] 0

/-- A rekindle fetch reaches the producing core (R129). -/
def execRetainedCopyFetch (id : Nat) (s : State) : Out :=
  deliver id s (fun p => p.typ = 0 && p.fetch.isSome) (fun s p =>
    s.serve p (fun s => match p.fetch with | some (slot, gen) => s.serveFetch p slot gen | none => s))

/-! ### Inbox deliveries (R296 to R298, R328, R329) -/

/-- The size of a packet in an inbox bank. -/
def inboxSize (len : Nat) : Nat := 8 + (len + 7) / 8 * 8

/-- The record that precedes a packet's payload (R296, R328). -/
def inboxRecord (p : Packet) : List Byte :=
  leBytes 8 (p.typ % 16 * 2 ^ 60 + p.status % 16 * 2 ^ 56 + p.txn % 4096 * 2 ^ 44 + p.auxA % 4096 * 2 ^ 32 +
    p.payload.length % 65536)

/-- Whether the filling bank has room for a packet, so that it need not wait (R297). -/
def State.inboxRoom (s : State) (p : Packet) : Bool :=
  let d := (s.cluster p.home).inboxDesc p.dst.num p.inbox
  let x := (s.core p.dstCore).inboxAt p.inbox
  x.fillLens.sum + inboxSize p.payload.length ≤ bankBytes d || bankBytes d < inboxSize p.payload.length

/-- A packet is written whole into the filling bank (R297), as any write of core store (R160): the core, and the status of
the delivery, uncorrectable where a word written in part has an uncorrectable error. -/
def Core.inboxPut (k : Core) (d : Long) (b : Nat) (p : Packet) : Core × Nat :=
  let x := k.inboxAt b
  let at_ := bankAt d (!x.drain) + x.fillLens.sum
  let body := inboxRecord p ++ p.payload ++
    List.replicate (inboxSize p.payload.length - 8 - p.payload.length) 0#8
  match k.storeBytes at_ body with
  | (k1, none) =>
    ({ k1 with inbox := k1.inbox.put b { x with fillLens := x.fillLens ++ [inboxSize p.payload.length] } }.inboxSwap d b, 0)
  | (k1, some w) => (k1.raise 0x10 w, 3)

/-- An inbox delivery at its destination. -/
def State.serveInbox (s : State) (p : Packet) : State :=
  let d := (s.cluster p.home).inboxDesc p.dst.num p.inbox
  if s.refused p then (s.protect p).respond p.home p 2 [] 0
  else if s.absentAt p then (s.absent p).respond p.home p 1 [] 0
  else if bankBytes d < inboxSize p.payload.length then
    (s.modCluster p.home (fun x => x.bump 0xA0060 1)).respond p.home p 4 [] 0
  else
    let r := (s.core p.dstCore).inboxPut d p.inbox p
    let s1 := s.setCore p.dstCore r.1
    if r.2 = 0 then s1 else s1.respond p.home p r.2 [] 0

/-- Whether a delivery need not wait. -/
def State.inboxReady (s : State) (p : Packet) : Bool := s.refused p || s.absentAt p || s.inboxRoom p

/-- An inbox delivery (R297): while the filling bank lacks space it waits, and the cycles that it waits are a
free value. -/
def execInboxDelivery (id : Nat) (s : State) : Out :=
  match s.net.packets.look id with
  | some p =>
    if p.typ = 6 && p.landed && !s.inboxReady p then
      let d := s.draw
      .next (d.2.modCluster p.home (fun x => x.bump 0xA0068 (Config.freeNat d.1)))
    else deliver id s (fun p => p.typ = 6) State.serveInbox
  | none => .next s

end Sys2Proof.Machine
end

