-- ==== Sys2Proof/Machine/ClusterLoader.lean ====
section
/-! DEFINITION. The cluster loaders (R646 to R658): manifest, chunks, round ends and install. -/

namespace Sys2Proof.Machine

/-- The manifest that a loader has received (R646). -/
def Loader.manifest (x : Loader) : List Byte := x.parts.flatMap (·.2)
def mfChunks (m : List Byte) : Nat := leAt m 6 2
def mfLength (m : List Byte) : Nat := leAt m 8 4
def mfVersion (m : List Byte) : Nat := leAt m 0xC 4
def mfImage (m : List Byte) : List Byte := sliceB m 0x10 32
def mfHash (m : List Byte) (k : Nat) : List Byte := sliceB m (0x40 + 32 * k) 32
/-- The bytes of chunk `k`: the last one may be shorter. -/
def mfChunkLen (m : List Byte) (k : Nat) : Nat := min 4096 (mfLength m - 4096 * k)

/-- `LDR_STATUS` (R658). -/
def Loader.status (x : Loader) : Nat := x.nChunks % 512 + x.round % 256 * 2 ^ 16 + x.state % 16 * 2 ^ 24

/-- `LDR_CTRL` (R657). -/
def Loader.ctrl (x : Loader) : Nat := b2n x.receive + 2 * b2n x.reportEn

/-- `MISS_BITMAP` (R656). -/
def Loader.bitmap (x : Loader) : List Byte :=
  (List.range 32).map (fun b =>
    BitVec.ofNat 8 (((List.range 8).map (fun j => if x.missing.contains (8 * b + j) then 2 ^ j else 0)).sum))

/-- A write of `LDR_CTRL`: a loader that starts to receive awaits its manifest. -/
def Loader.setCtrl (x : Loader) (v : Nat) : Loader :=
  let on := nbit v 0
  { x with receive := on, reportEn := nbit v 1, state := if on && x.state = 0 then 1 else x.state }

/-- The loader has taken a manifest. -/
def Loader.taken (x : Loader) : Bool := 2 ≤ x.state && x.state ≤ 4

/-- A manifest part (R649): parts come in order; with the last one the digest is compared. -/
def Loader.takePart (x : Loader) (idx : Nat) (data : List Byte) : Loader :=
  let next := if idx = 0 then some [(0, data)] else if x.parts.length = idx then some (x.parts ++ [(idx, data)]) else none
  match next with
  | none => x
  | some ps =>
    let y := { x with parts := ps }
    let m := y.manifest
    if m.length < 64 + 32 * mfChunks m then y
    else if sha256 m = x.manifestDigest then
      let miss := x.missing.filter (· < mfChunks m)
      { y with nChunks := mfChunks m, missing := miss, state := if miss.isEmpty then 3 else 2 }
    else { y with state := 5 }

/-- The broadcast packet that stands whole in a router's buffer for its loader. -/
def State.bcFor (s : State) (k : Nat) : Option Packet :=
  match (s.node k).bc with
  | none => none
  | some b =>
    match s.net.packets.look b.id with
    | some p => if b.loader && b.size ≤ b.got && s.forwards k b.id then some p else none
    | none => none

/-- A loader takes the broadcast of a kind that stands in its router's buffer (R351, R352, R648), which counts as delivered
(R356, R360); with `RECEIVE` at 0 it does nothing with a manifest part or a chunk (R657). -/
def onLoader (k kind : Nat) (s : State) (f : State → Packet → State) : Out :=
  onCluster k s fun s =>
    match s.bcFor k with
    | none => s
    | some p =>
      if nfld p.auxA 12 4 = kind then
        let s1 := s.modNode k (fun x => { x with bc := x.bc.map (fun (b : BcBuf) => { b with loader := false }) })
        let s2 := s1.modCluster k (fun x => (x.bump 0xA0028 1).bump 0xA0200 p.flits)
        (if 2 ≤ kind || (s.cluster k).ldr.receive then f s2 p else s2).freeBc k
      else s

def State.modLdr (s : State) (k : Nat) (g : Loader → Loader) : State :=
  s.modCluster k (fun x => { x with ldr := g x.ldr })

/-- A manifest part broadcast (R648, R649). -/
def execManifestPart (k : Nat) (s : State) : Out :=
  onLoader k 0 s fun s p => when' (p.auxB ≤ 2) s (s.modLdr k (fun x => x.takePart p.auxB p.payload))

/-- The staging place of a chunk in cluster memory. -/
def stagingAt (j : Nat) : Nat := 0x100000 + 4096 * j

/-- A chunk lies in staging: it is hashed, and its bit clears on a match (R649). -/
def State.hashChunk (s : State) (k j : Nat) : State :=
  let x := s.cluster k
  let m := x.ldr.manifest
  let r := x.scratchRead (stagingAt j) (mfChunkLen m j)
  let ok := match r.2 with | some d => sha256 d = mfHash m j | none => false
  s.setCluster k { r.1 with ldr := { r.1.ldr with
    chunksReceived := r.1.ldr.chunksReceived + 1
    hashFails := if ok then r.1.ldr.hashFails else r.1.ldr.hashFails + 1
    missing := if ok then r.1.ldr.missing.filter (· ≠ j) else r.1.ldr.missing
    state := if ok && (r.1.ldr.missing.filter (· ≠ j)).isEmpty && r.1.ldr.state = 2 then 3 else r.1.ldr.state } }

/-- A chunk broadcast (R649): before its manifest, or with its bit clear, it is ignored. -/
def execChunk (k : Nat) (s : State) : Out :=
  onLoader k 1 s fun s p =>
    let x := s.cluster k
    when' (x.ldr.taken && x.ldr.missing.contains p.auxB) s
      ((s.setCluster k (x.scratchWrite (stagingAt p.auxB) p.payload).1).hashChunk k p.auxB)

/-- A write of `CHUNK_DONE` (R649, R656). -/
def State.chunkDone (s : State) (k j : Nat) : State :=
  let x := s.cluster k
  if x.ldr.taken && x.ldr.missing.contains j then s.hashChunk k j else s

/-- `CHUNK_DONE` written. -/
def execChunkDone (k idx : Nat) (s : State) : Out :=
  onCluster k s fun s => when' (!(s.cluster k).inReset) s (s.chunkDone k idx)

/-- The words of half a bitmap (R651). -/
def bitmapWords (b : List Byte) (half : Nat) : List Word :=
  (List.range 4).map (fun w => BitVec.ofNat 32 (leAt b (16 * half + 4 * w) 4))

/-- A round end (R651): the loader reports its bitmap as two tuples to combining queue 7 of its controller's
router, over the bring-up routes of R650. -/
def execRoundEnd (k : Nat) (s : State) : Out :=
  onLoader k 2 s fun s p =>
    let s1 := s.modLdr k (fun x => { x with round := ofLe p.payload % 256 })
    let x := (s1.cluster k).ldr
    if x.reportEn then
      let b := x.bitmap
      s1.modCluster (s1.controllerAt (fieldOf k)) (fun y =>
        let q := y.combine.get Combine.reset 7
        { y with combine := y.combine.put 7 { q with arrived := q.arrived ++
          [⟨false, bitmapWords b 0, s1.fabricOf (fieldOf k), 4⟩, ⟨true, bitmapWords b 1, s1.fabricOf (fieldOf k), 4⟩] } })
    else s1

/-- The firmware that lies in staging. -/
def Cluster.staged (x : Cluster) : List Byte := Sparse.dense x.cmem (stagingAt 0) (mfLength x.ldr.manifest)

/-- The bring-up routes of a router go (R654): what combining queue 7 counts stays. -/
def Cluster.clearRoutes (x : Cluster) : Cluster :=
  { x with
    spCtrl := 0
    slots := []
    combine := x.combine.mod Combine.reset 7 (fun q => { Combine.reset with rounds := q.rounds }) }

/-- The install broadcast (R654): a loader with nothing missing installs, checks the image and clears its
staging range; the field controller clears the bring-up routes of its router and of the one that gathered the tuples. -/
def execInstall (k : Nat) (s : State) : Out :=
  onLoader k 3 s fun s _ =>
    let x := s.cluster k
    let fw := x.staged
    if x.ldr.taken && x.ldr.missing.isEmpty && sha256 fw = mfImage x.ldr.manifest then
      let y := { x.clearRoutes with
        cmem := Sparse.blit x.cmem (stagingAt 0) (List.replicate fw.length 0#8)
        ldr := { x.ldr with fwDigest := sha256 fw, state := 4, installed := fw } }
      ((s.setCluster k y).modCluster (s.controllerAt (fieldOf k)) Cluster.clearRoutes).setNum o0ClusterFwVersion
        (mfVersion x.ldr.manifest)
    else s

end Sys2Proof.Machine
end

