-- ==== Sys2Proof/Machine/Control.lean ====
section
/-! DEFINITION. Configuration space (R366 to R368): reads and writes of every block, control requests and
their responses (R349, R350), the period start, acknowledgements and fault reports. -/

namespace Sys2Proof.Machine

/-! ### Reads (R162, R275, R356, R384, R390, R656) -/

/-- `SP_STATUS` (R277, R260) at fabric count `n`. -/
def Cluster.spStatus (x : Cluster) (n : Nat) : Nat :=
  let on := nbit x.spCtrl.toNat 0 && x.frameLen ≠ 0
  let t := (n - x.periodStart) / x.frameLen
  let going := on && x.periodStart ≤ n && t ≤ x.turns
  b2n (nbit x.spCtrl.toNat 0 && n < x.periodStart) + 2 * b2n going + 4 * b2n (going && t = x.turns) +
    8 * b2n x.discarding + (if going then t % 65536 else 0) * 65536

/-- An advisory queue's head and state words (R275, R300). -/
def headOf (q : List AdvItem) : Nat := match q with | [] => 0 | (_, d) :: _ => d.toNat
def stateOf (q : List AdvItem) : Nat := match q with | [] => 0 | (n, _) :: _ => n % 65536 * 65536 + q.length % 1024

/-- A word of a combining queue's block (R291). -/
def Combine.word (q : Combine) (j : Nat) : Nat :=
  match j with
  | 0 => q.ctl.toNat
  | 1 => q.bank0.count % 4096 + q.bank1.count % 4096 * 4096
  | 2 => halfOf q.rounds.toNat 0
  | 3 => halfOf q.rounds.toNat 1
  | _ => 0

/-- A word of the scheduled-plane router block, by its offset in the block (R275). -/
def State.spWord (s : State) (k off : Nat) : Nat :=
  let x := s.cluster k
  let j := off / 4
  if off = 0 then k
  else if off = 4 then x.spCtrl.toNat
  else if off = 8 then x.spStatus (s.fabricOf (fieldOf k))
  else if off = 0xC then x.frameLen
  else if off = 0x10 then x.turns
  else if off < 0x18 then 0
  else if off < 0x20 then halfOf x.periodStart j
  else if off < 0x28 then halfOf x.dropAt j
  else if off < 0x30 then halfOf (s.fabricOf (fieldOf k)) j
  else if off < 0x40 then 0
  else if off < 0xA0 then halfOf (Sparse.rd x.counts (0x80000 + off / 8 * 8)).toNat j
  else if off < 0xA8 then halfOf (headOf x.soot) j
  else if off = 0xA8 then stateOf x.soot
  else if off < 0xB0 then 0
  else if off < 0xB8 then halfOf (headOf x.telem) j
  else if off = 0xB8 then stateOf x.telem
  else if off < 0x200 then 0
  else if off < 0x300 then (x.combine.get Combine.reset ((off - 0x200) / 32)).word (off / 4 % 8)
  else if off < 0x1000 then 0
  else if off < 0x3400 then halfOf (x.desc.get x.descInit ((off - 0x1000) / 8)).toNat j
  else if off < 0x10000 then 0
  else
    let e := x.entry ((off - 0x10000) / 16)
    if off % 16 < 8 then halfOf e.w0.toNat j else halfOf e.w1.toNat j

/-- `LINK_STATE` of a port (R360): 0 as long as the router does not work, as after reset. -/
def State.linkState (s : State) (k p : Nat) : Nat :=
  if !s.routerOk k then 0
  else if p = 4 then 2
  else
    let r := s.linkReason k p
    r * 16 + (if r = 0 then 2 else if r = 3 then 1 else 0)

/-- `MP_STATUS` (R358). -/
def State.mpStatus (s : State) (k : Nat) : Nat :=
  ((List.range 5).map (fun p => if s.linkState k p = 2 then 2 ^ p else 0)).sum

/-- A word of the message-plane router block (R356, R358, R360). -/
def State.mpWord (s : State) (k off : Nat) : Nat :=
  let x := s.cluster k
  let j := off / 4
  if off = 0 then k
  else if off = 4 then x.mpCtrl.toNat
  else if off = 8 then s.mpStatus k
  else if off = 0xC then x.mpTimeout
  else if off < 0x18 then halfOf x.mpWindow.toNat j
  else if off = 0x18 then x.mpGen.toNat
  else if off < 0x20 then 0
  else if off < 0x80 then halfOf (Sparse.rd x.counts (0xA0000 + off / 8 * 8)).toNat j
  else if off < 0x100 then 0
  else if off < 0x240 then
    let o := off % 64
    let p := (off - 0x100) / 64
    if o < 0x30 then halfOf (Sparse.rd x.counts (0xA0000 + off / 8 * 8)).toNat j
    else if o = 0x30 then s.depthNow k p
    else if o = 0x34 then x.peaks.get 0 p
    else if o = 0x38 then s.linkState k p else 0
  else 0

/-- A word of the cluster memory controller block (R390, R391). -/
def State.cmWord (s : State) (k off : Nat) : Nat :=
  let x := s.cluster k
  let j := off / 4
  if off = 0 then x.cmemCtrl.toNat
  else if off = 4 then b2n (s.cores.any (fun (c : Nat × Core) => clusterOf c.1 = k && c.2.acq.isSome))
  else if off < 0x10 then 0
  else if off < 0x50 then halfOf (Sparse.rd x.ranges ((off - 0x10) / 8)).toNat j
  else if off < 0xA0 then halfOf (Sparse.rd x.counts (0xA1000 + off / 8 * 8)).toNat j
  else 0

/-- A word of the cluster loader block (R656). -/
def State.ldrWord (s : State) (k off : Nat) : Nat :=
  let x := (s.cluster k).ldr
  if off = 0 then k
  else if off = 4 then x.ctrl
  else if off = 8 then x.status
  else if off < 0x10 then 0
  else if off < 0x30 then leAt x.manifestDigest (off - 0x10) 4
  else if off < 0x50 then leAt x.bitmap (off - 0x30) 4
  else if off < 0x70 then leAt x.fwDigest (off - 0x50) 4
  else if off = 0x70 then x.hashFails.toNat % 2 ^ 32
  else if off = 0x74 then x.chunksReceived.toNat % 2 ^ 32
  else 0

/-- The DRAM channel whose block stands in a cluster's window (R366): field * 24 + channel. -/
def blockChan (k : Nat) : Option Nat :=
  let x := k % 12
  let y := k % 96 / 12
  if x % 2 = 0 ∧ y % 2 = 0 then some (fieldOf k * 24 + y / 2 * 6 + x / 2) else none

/-- A word of a DRAM channel block (R384, R385). -/
def State.chWord (s : State) (ch off : Nat) : Nat :=
  let x := s.chan ch
  if off = 0 then ch % 24 * 256 + ch / 24
  else if off = 4 then x.chState % 4 + 4 * b2n x.scrubbing + 8 * b2n x.refresh2x + x.temp % 256 * 256
  else if off = 8 then b2n x.scrubEn
  else if off < 0x10 then 0
  else if off < 0x68 then halfOf (Sparse.rd x.counts (off / 8 * 8)).toNat (off / 4)
  else 0

/-- The word at an offset of a cluster's configuration window (R366). -/
def State.cfgWord (s : State) (k off : Nat) : Nat :=
  if off < 0x80000 then
    let c := k * 32 + off / 0x4000
    (s.core c).cfgWord c (s.corePlace c) (s.cfgNow c) (off % 0x4000)
  else if off < 0xA0000 then s.spWord k (off - 0x80000)
  else if off < 0xA1000 then s.mpWord k (off - 0xA0000)
  else if off < 0xA2000 then s.cmWord k (off - 0xA1000)
  else if off < 0xA3000 then 0
  else if off < 0xA4000 then s.ldrWord k (off - 0xA3000)
  else if off < 0xA5000 then
    match blockChan k with
    | some ch => s.chWord ch (off - 0xA4000)
    | none => 0
  else 0

/-- What a read changes: it clears `DEPTH_PEAK` (R360, R14, R16), and one of `TE_STATUS` sees whether the engine is still
busy (R154). -/
def State.cfgClear (s : State) (k off : Nat) : State :=
  if off < 0x80000 ∧ off % 0x4000 = 0x454 then s.seeBusy (k * 32 + off / 0x4000)
  else if 0xA0100 ≤ off ∧ off < 0xA0240 ∧ off % 64 = 0x34 then
    s.modCluster k (fun x => { x with peaks := x.peaks.del ((off - 0xA0100) / 64) })
  else s

/-- The words that a range touches. -/
def cfgWords (off len : Nat) : List Nat :=
  if len = 0 then [] else (List.range ((off + len - 1) / 4 - off / 4 + 1)).map (fun j => (off / 4 + j) * 4)

/-- The bytes of a range of a window. -/
def State.cfgBytes (s : State) (k off len : Nat) : List Byte :=
  sliceB ((cfgWords off len).flatMap (fun o => leBytes 4 (s.cfgWord k o))) (off % 4) len

/-! ### Writes -/

/-- A 64-bit value with one of its words replaced. -/
def setHalf (v j w : Nat) : Nat :=
  if j % 2 = 0 then v / 2 ^ 32 * 2 ^ 32 + w % 2 ^ 32 else v % 2 ^ 32 + w % 2 ^ 32 * 2 ^ 32

/-- A write of a `COUNTER_BIND` word: a reserved `SOURCE` keeps the field (R169, R18). -/
def bindWrite (old : Word) (v : Nat) : Word :=
  BitVec.ofNat 32 (nfld v 4 4 * 16 + (if 5 < nfld v 0 4 then fld old 0 4 else nfld v 0 4))

/-- A write of a `SLOT_CTRL` word: a reserved `KIND`, and a `QUIET` above 8, keep the field (R137, R18). -/
def slotCtrlWrite (old : Word) (v : Nat) : Word :=
  let kd := if 5 < nfld v 28 4 then fld old 28 4 else nfld v 28 4
  let qt := if 8 < nfld v 18 4 then fld old 18 4 else nfld v 18 4
  BitVec.ofNat 32 (kd * 2 ^ 28 + nfld v 22 6 * 2 ^ 22 + qt * 2 ^ 18 + nfld v 17 1 * 2 ^ 17)

/-- A write of a word of a core's configuration block (R162, R151, R171). -/
def Core.writeCfg (k : Core) (off v : Nat) : Core :=
  let w := BitVec.ofNat 32 v
  if off = 8 then k.writeSeqCtrl w
  else if 0x80 ≤ off ∧ off < 0xC0 then { k with cnt := Sparse.wr k.cnt ((off - 0x80) / 4) (BitVec.ofNat 16 v) }
  else if 0xC0 ≤ off ∧ off < 0xE0 then
    let n := (off - 0xC0) / 2
    { k with thresh := (k.thresh.put n (BitVec.ofNat 16 v)).put (n + 1) (BitVec.ofNat 16 (v / 65536)) }
  else if 0xE0 ≤ off ∧ off < 0x100 then
    let n := (off - 0xE0) / 2
    { k with cinit := Sparse.wr (Sparse.wr k.cinit n (BitVec.ofNat 16 v)) (n + 1) (BitVec.ofNat 16 (v / 65536)) }
  else if 0x100 ≤ off ∧ off < 0x140 then
    let n := (off - 0x100) / 4
    { k with bind := Sparse.wr k.bind n (bindWrite (Sparse.rd k.bind n) v) }
  else if 0x180 ≤ off ∧ off < 0x200 then
    let mask := match off / 4 % 4 with | 0 => 0xE7FF07FF#32 | 1 => 0xFFFF#32 | _ => 0xFFFFFFFF#32
    if off / 4 % 4 = 3 then k else { k with stations := Sparse.wr k.stations ((off - 0x180) / 4) (w &&& mask) }
  else if off = 0x280 then k.writeLog w
  else if 0x400 ≤ off ∧ off < 0x440 then
    let p := (off - 0x400) / 8
    let d := BitVec.ofNat 64 (setHalf (k.profile p).toNat (off / 4) v) &&& 0xFFFF0007FFFFFFFF#64
    { k with profiles := k.profiles.put p d }
  else if off = 0x450 then k.writeRetainCtrl w
  else if 0x500 ≤ off ∧ off < 0x600 then
    let j := (off - 0x500) / 16
    let x := k.slotAt j
    match off / 4 % 4 with
    | 0 => { k with scale := k.scale.put j { x with committed := w } }
    | 2 => { k with scale := k.scale.put j { x with ctrl := slotCtrlWrite x.ctrl v } }
    | _ => k
  else k

/-- Word 1 of a slot entry as written (R269): its reserved bits read zero, and a reserved `IN_PORT` keeps the field
(R18). -/
def slotWord1 (old new : Long) : Long :=
  let w := new &&& 0xFFFFFFFFFFFFC000#64
  if 4 < SlotEntry.inPort ⟨0, w⟩ then setFld w 41 3 (SlotEntry.inPort ⟨0, old⟩) else w

/-- A write of a word of the scheduled-plane router block (R275 to R279, R291). -/
def State.writeSp (s : State) (k off v : Nat) : State :=
  let x := s.cluster k
  let off' := nbit x.spCtrl.toNat 0
  if off = 4 then s.setCluster k { x with spCtrl := BitVec.ofNat 32 (v % 2) }
  else if off = 0xC then
    when' (!off' && 64 ≤ v % 2 ^ 22) s (s.setCluster k { x with frameLen := v % 2 ^ 22 })
  else if off = 0x10 then
    when' (!off' && 1 ≤ v % 65536) s (s.setCluster k { x with turns := v % 65536 })
  else if off = 0x18 ∨ off = 0x1C then s.writePeriodStart k (setHalf x.periodStart (off / 4) v)
  else if off = 0x20 ∨ off = 0x24 then s.setCluster k { x with dropAt := setHalf x.dropAt (off / 4) v }
  else if off = 0xAC then s.setCluster k { x with soot := advance x.soot (BitVec.ofNat 32 v) }
  else if off = 0xBC then s.setCluster k { x with telem := advance x.telem (BitVec.ofNat 32 v) }
  else if 0x200 ≤ off ∧ off < 0x300 then
    let q := (off - 0x200) / 32
    let y := x.combine.get Combine.reset q
    if off / 4 % 8 = 0 then
      let op := if 4 < nfld v 28 3 then fld y.ctl 28 3 else nfld v 28 3
      s.setCluster k { x with combine := x.combine.put q { y with
        ctl := BitVec.ofNat 32 (nfld v 31 1 * 2 ^ 31 + op * 2 ^ 28 + nfld v 26 2 * 2 ^ 26 + v % 2 ^ 24) } }
    else s
  else if 0x1000 ≤ off ∧ off < 0x3400 then
    let j := (off - 0x1000) / 8
    let d := BitVec.ofNat 64 (setHalf (x.desc.get x.descInit j).toNat (off / 4) v) &&& 0xFFFFFFFFFFFF0000#64
    when' (!off') s (s.setCluster k { x with desc := x.desc.put j d })
  else if 0x10000 ≤ off then
    let j := (off - 0x10000) / 16
    let e := x.entry j
    let e1 := if off % 16 < 8 then
        { e with w0 := BitVec.ofNat 64 (setHalf e.w0.toNat (off / 4) v) &&& 0xFFFFFFFFFFFFFFF0#64 }
      else { e with w1 := slotWord1 e.w1 (BitVec.ofNat 64 (setHalf e.w1.toNat (off / 4) v)) }
    when' (!off') s (s.setCluster k { x with slots := x.slots.put j e1 })
  else s

/-- `MP_CTRL` takes a value; a change of `ENABLE` is for packets whose place in the order of injection is `now` or later
(R357). -/
def Cluster.setMpCtrl (x : Cluster) (v : Word) (now : Nat) : Cluster :=
  { x with mpCtrl := v, mpFlips := if nbit v.toNat 0 = nbit x.mpCtrl.toNat 0 then x.mpFlips else now :: x.mpFlips }

/-- A write of a word of the message-plane router block (R356, R357, R359). -/
def Cluster.writeMp (x : Cluster) (off v now : Nat) : Cluster :=
  if off = 4 then x.setMpCtrl (BitVec.ofNat 32 v &&& 0x00FF000F#32) now
  else if off = 0xC then { x with mpTimeout := v % 65536 }
  else if off = 0x10 ∨ off = 0x14 then
    { x with mpWindow := BitVec.ofNat 64 (setHalf x.mpWindow.toNat (off / 4) v) &&& 0xFFFFFFFFF0000000#64 }
  else x

/-- Whether every core of a cluster has `RUN` at 0 (R393). -/
def State.coresStopped (s : State) (k : Nat) : Bool :=
  !(s.cores.any (fun (c : Nat × Core) => clusterOf c.1 = k && c.2.run))

/-- A write of a word of the cluster memory controller block (R390, R391, R393): an accepted one empties the
cache. -/
def State.writeCm (s : State) (k off v : Nat) : State :=
  let x := s.cluster k
  if !s.coresStopped k then s
  else if off = 0 then
    let w := if 16 < v % 32 then x.ways else v % 32
    s.setCluster k { x with cmemCtrl := BitVec.ofNat 32 w, cache := [], plru := [] }
  else if 0x10 ≤ off ∧ off < 0x50 then
    let j := (off - 0x10) / 8
    let mask := if j % 2 = 0 then 0xFFFFFFFFFFFFF000#64 else 0xC0000000FFFFFFFF#64
    let d := BitVec.ofNat 64 (setHalf (Sparse.rd x.ranges j).toNat (off / 4) v) &&& mask
    s.setCluster k { x with ranges := Sparse.wr x.ranges j d, cache := [], plru := [] }
  else s

/-- A write of a word of the cluster loader block (R656, R657). -/
def State.writeLdr (s : State) (k off v : Nat) : State :=
  if off = 4 then s.modLdr k (fun x => x.setCtrl v)
  else if off = 0xC then s.chunkDone k v
  else if 0x10 ≤ off ∧ off < 0x30 then
    s.modLdr k (fun x => { x with manifestDigest := patchB x.manifestDigest (off - 0x10) (leBytes 4 v) })
  else s

/-- A write of the word at an offset of a cluster's window. -/
def State.writeCfgWord (s : State) (k off v : Nat) : State :=
  if off < 0x80000 then s.modCore (k * 32 + off / 0x4000) (fun c => c.writeCfg (off % 0x4000) v)
  else if off < 0xA0000 then s.writeSp k (off - 0x80000) v
  else if off < 0xA1000 then s.modCluster k (fun x => x.writeMp (off - 0xA0000) v s.net.nextId)
  else if off < 0xA2000 then s.writeCm k (off - 0xA1000) v
  else if off < 0xA3000 then s
  else if off < 0xA4000 then s.writeLdr k (off - 0xA3000) v
  else if off = 0xA4008 then
    match blockChan k with
    | some ch => s.modChan ch (fun x => { x with scrubEn := nbit v 0 })
    | none => s
  else s

/-- The words of a write one after the other; `PERIOD_START` is taken whole when both its words are there. -/
def State.writeCfgWords (s : State) (k : Nat) : List (Nat × Nat) → State
  | [] => s
  | [(o, v)] => s.writeCfgWord k o v
  | (o, v) :: (o', v') :: r =>
    if o = 0x80018 then (s.writePeriodStart k (v + v' * 2 ^ 32)).writeCfgWords k r
    else (s.writeCfgWord k o v).writeCfgWords k ((o', v') :: r)

/-- What the bytes of a word that a write leaves out count as: what they read, but zeros in a word whose bits clear by a
1 (R14). -/
def State.keptWord (s : State) (k o : Nat) : Nat :=
  if o < 0x80000 ∧ o % 0x4000 = 0x280 then 0 else s.cfgWord k o

/-- A write of bytes into a window: words that it covers in part keep their other bytes. -/
def State.writeCfg (s : State) (k off : Nat) (d : List Byte) : State :=
  let os := cfgWords off d.length
  let whole := patchB (os.flatMap (fun o => leBytes 4 (s.keptWord k o))) (off % 4) d
  s.writeCfgWords k (os.map (fun o => (o, leAt whole (o - off / 4 * 4) 4)))

/-- Whether the block at an offset answers absent (R368, R674). -/
def State.blockAbsent (s : State) (k off : Nat) : Bool :=
  let hollow := s.clusterState k = 1
  if off < 0x80000 then s.coreGone (k * 32 + off / 0x4000)
  else hollow && ((0xA1000 ≤ off && off < 0xA2000) || (0xA3000 ≤ off && off < 0xA4000))

/-- A write of one register (R14): one of a block that does not answer (R368) writes nothing. -/
def execRegisterWrite (k off : Nat) (v : BitVec 32) (s : State) : Out :=
  onCluster k s fun s => when' (off % 4 = 0 && off < 0x800000 && !s.blockAbsent k off) s (s.writeCfgWord k off v.toNat)

/-- A write of `CMEM_CTRL` or of a `CACHE_RANGE` word, at its offset in the controller's block (R393). -/
def execCacheConfigWrite (k off : Nat) (v : BitVec 32) (s : State) : Out :=
  onCluster k s fun s =>
    when' (off % 4 = 0 && off < 0x1000 && !s.blockAbsent k (0xA1000 + off)) s (s.writeCm k off v.toNat)

/-! ### Control requests (R349, R367, R368) -/

/-- Why a control request draws the status absent at its destination: a block or a core that does not answer. -/
def State.ctlAbsent (s : State) (p : Packet) : Bool :=
  if p.configures then s.blockAbsent p.home (nfld p.addr 0 23)
  else p.dst.kind = 0 && s.coreGone p.dstCore

/-- A control request of a command reaches its destination (R349): `f` answers the state and the data of the response. -/
def ctlArrive (cmd id : Nat) (s : State) (f : State → Packet → State × List Byte) : Out :=
  deliver id s (fun p => p.typ = 7 && p.auxA % 256 = cmd) (fun s p =>
    if s.ctlAbsent p then (s.absent p).respond p.home p 1 [] 0
    else
      let r := f s p
      r.1.respond p.home p 0 r.2 0)

/-- The two ends of a control request. -/
def ctlStep {α : Type} (e : CtlStep α) (cmd : Nat) (s : State) (need : α → Bool) (send : State → α → State)
    (f : State → Packet → State × List Byte) : Out :=
  match e with
  | .send a => if need a then .next (send s a) else .fault .noSuchUnit
  | .arrive id => ctlArrive cmd id s f

/-- Units that read and write configuration space (R349, R367): cores, field controllers and wafer supervisors. -/
def mayConfigure (h : Requester) : Bool :=
  match h with
  | .port _ => false
  | .router _ => false
  | _ => true

/-- Where a router is told that a field controller has moved (R350): the spec gives no register, so that the write falls in a
reserved word and changes nothing else (DESIGN CHOICE, log entry 178). -/
def announceOff : Nat := 0xA0240

/-- A unit sends a configuration read or write of an address (R349): 4 to 256 bytes. A field controller that has moved thus
tells the routers of its island (R350). -/
def State.sendCfg (s : State) (h : Requester) (cmd addr len : Nat) (d : List Byte) : State :=
  let k := nfld addr 23 13
  let s1 := match h with
    | .fieldController f =>
      if cmd = 2 ∧ nfld addr 0 23 = announceOff then
        { s with fields := s.fields.mod FieldSt.reset f (fun x => { x with toTell := x.toTell.filter (fun j => j ≠ k) }) }
      else s
    | _ => s
  when' (mayConfigure h && 4 ≤ len && len ≤ 256) s (s1.sendCtl h k ⟨3, 0⟩ cmd addr len d)

/-- A configuration read (R349): the bytes return in the control response. -/
def execConfigurationRead (e : CtlStep (Requester × BitVec 64 × Nat)) (s : State) : Out :=
  ctlStep e 1 s (fun a => a.1.exists_) (fun s a => s.sendCfg a.1 1 a.2.1.toNat a.2.2 []) (fun s p =>
    let off := nfld p.addr 0 23
    ((cfgWords off p.len).foldl (fun s o => s.cfgClear p.home o) s, s.cfgBytes p.home off p.len))

/-- A configuration write (R349). -/
def execConfigurationWrite (e : CtlStep (Requester × BitVec 64 × List Byte)) (s : State) : Out :=
  ctlStep e 2 s (fun a => a.1.exists_) (fun s a => s.sendCfg a.1 2 a.2.1.toNat a.2.2.length a.2.2) (fun s p =>
    (s.writeCfg p.home (nfld p.addr 0 23) p.payload, []))

/-! ### Period commands, acknowledgements, fault reports -/


/-- The partition of a core. -/
def State.coresPart (s : State) (c : Nat) : Nat := s.partOfRegion (regionOfCluster (clusterOf c))

/-- Whether the installed graph places a station on a core (R250, R757). -/
def State.placed (s : State) (c : Nat) : Bool :=
  match (s.part (s.coresPart c)).pkg with
  | some g => g.stations.any (fun t => t.place = c && (t.kind < 2 || t.kind = 4))
  | none => false

/-- The field controller of a core's field sends the core a control request (R349). -/
def State.tellCore (s : State) (c cmd : Nat) (d : List Byte) : State :=
  s.sendCtl (.fieldController (fieldOf (clusterOf c))) (clusterOf c) ⟨0, coreIdx c⟩ cmd 0 d.length d

/-- The cores that the commands of a boundary go to: those of present clusters (R142). -/
def State.inPresent (s : State) (c : Nat) : Bool :=
  (s.clusterState (clusterOf c) = 0 || s.clusterState (clusterOf c) = 3) && !(s.core c).dead

/-- The fabric count from which the routers discard after a period: K, or T_p after a commit (R453 step 1). -/
def Period.dropAt (q : Period) : Nat :=
  match q.ended with
  | .dropped _ kc => kc
  | _ => q.drop0

/-- The period-start command of a running period goes to a core (R435, R453 step 6): its payload is S. -/
def State.sendPeriodStart (s : State) (c : Nat) : State :=
  let p := s.coresPart c
  match (s.part p).period with
  | some q =>
    when' (q.ended = .running && !q.toldStart.contains c && s.inPresent c) s
      ((s.modPeriod p (fun q => { q with toldStart := q.toldStart ++ [c] })).tellCore c 3 (leBytes 8 q.start0))
  | none => s

/-- The period-start command reaches a core (R349, R169, R181, R401). A sequencer that the install left with `RUN` at 0
starts at the first one (R250). -/
def State.beginPeriod (s : State) (c s0 : Nat) : State :=
  let k := s.core c
  let k1 := if !k.begun && s.placed c then
      { k with begun := true }.writeSeqCtrl (k.seqCtrl ||| 1#32) else k
  (s.periodInvalidate (clusterOf c) s0).setCore c ({ k1 with between := false }.event 5 0 1).kindleEvent

/-- The period-start command (R349). -/
def execPeriodStartCommand (e : CtlStep Nat) (s : State) : Out :=
  ctlStep e 3 s (· < 258048) State.sendPeriodStart (fun s p => (s.beginPeriod p.dstCore (ofLe p.payload), []))

/-- The period-restart command goes to a core after the period's end, once the routers discard (R453 step 2). -/
def State.sendRestart (s : State) (c : Nat) : State :=
  let p := s.coresPart c
  match (s.part p).period with
  | some q =>
    when' (q.ended ≠ .running && q.dropAt ≤ s.fabricIn (coreRegion c) && !q.toldRestart.contains c && s.inPresent c) s
      ((s.modPeriod p (fun q => { q with toldRestart := q.toldRestart ++ [c] })).tellCore c 4 [])
  | none => s

/-- A period-restart command reaches a core (R212): one with a logged core fault ignores it (R214). -/
def State.restartCore (s : State) (c : Nat) : State :=
  let k := s.core c
  when' (!k.ignoresRestart) s
    (s.setCore c (let k1 := k.restart; if k1.smoulder && k1.kindle = 0 then { k1 with kindle := 1 } else k1))

/-- The period-restart command (R349). -/
def execPeriodRestart (e : CtlStep Nat) (s : State) : Out :=
  ctlStep e 4 s (· < 258048) State.sendRestart (fun s p => (s.restartCore p.dstCore, []))

/-- The mordant command goes to a core that has restarted (R142, R215, R453 step 3): commit or discard as the period ended
(R146, R306). -/
def State.sendMordant (s : State) (c : Nat) (commit : Bool) : State :=
  let p := s.coresPart c
  match (s.part p).period with
  | some q =>
    when' (q.ended ≠ .running && q.restarted.contains c && !q.toldMordant.contains c && q.commits = commit && s.inPresent c) s
      ((s.modPeriod p (fun q => { q with toldMordant := q.toldMordant ++ [c] })).tellCore c (if commit then 5 else 6) [])
  | none => s

/-- A mordant command reaches a core (R143). -/
def State.takeMordant (s : State) (c : Nat) (commit : Bool) : State :=
  s.setCore c { s.core c with mordant := some commit, stayAwake := false }.kindleEvent

/-- `Mordant commit` (R144, R349). -/
def execMordantCommit (e : CtlStep Nat) (s : State) : Out :=
  ctlStep e 5 s (· < 258048) (fun s c => s.sendMordant c true) (fun s p => (s.takeMordant p.dstCore true, []))
/-- `Mordant discard` (R145, R349). -/
def execMordantDiscard (e : CtlStep Nat) (s : State) : Out :=
  ctlStep e 6 s (· < 258048) (fun s c => s.sendMordant c false) (fun s p => (s.takeMordant p.dstCore false, []))

/-- A partition between the restart of a core and the end of its boundary starts no firing on it (R147): what the core would fire
is of the next period, since its restart has loaded the counters. -/
def State.betweenPeriods (s : State) (c : Nat) : Bool :=
  let p := s.coresPart c
  match (s.part p).period with
  | some q => q.ended ≠ .running && (s.core c).between && !s.boundaryDone p
  | none => false

/-- The sequencer finds an eligible slot and starts a firing (R173), not before its partition's boundary is complete
(R147). -/
def execFiringStart (c : Nat) (s : State) : Out :=
  onCore c s fun s =>
    let k := s.core c
    match k.choose with
    | some j => when' (k.mayFire && !s.betweenPeriods c) s (s.setCore c (k.fire j))
    | none => s

/-- The boundary of a partition's latest period is complete: it is counted once, with the time since the boundary
(R147, R155). -/
def State.closeBoundary (s : State) (p ns : Nat) : State :=
  match (s.part p).period with
  | some q =>
    if !q.closed && !q.toldMordant.isEmpty && s.allIn p q.mordants then
      ((s.modPeriod p (fun q => { q with closed := true })).addNum
        (if q.commits then o6MordantCommits p else o6MordantDiscards p) 1).setNum (o6MordantLastNs p) ns
    else s
  | none => s

/-- A core's acknowledgement reaches its field controller (R143, R212, R147): `ns` is the time since the boundary. -/
def State.takeAck (s : State) (c command ns : Nat) : State :=
  let p := s.coresPart c
  if command = 4 then
    (s.modCore c (fun k => { k with restarted := true })).modPeriod p (fun q => { q with restarted := addOnce q.restarted c })
  else (s.modPeriod p (fun q => { q with mordants := addOnce q.mordants c })).closeBoundary p ns

/-- A core sends its oldest acknowledgement to its field controller. -/
def State.sendCoreAck (s : State) (c : Nat) : State :=
  let k := s.core c
  let f := fieldOf (clusterOf c)
  match k.acks with
  | [] => s
  | a :: r => (s.setCore c { k with acks := r }).sendCtl (.core c) (s.controllerAt f) ⟨7, f % 32⟩ 7 0 4 (leBytes 4 a)

/-- An acknowledgement (R349). -/
def execAcknowledge (e : CtlStep Nat) (ns : BitVec 32) (s : State) : Out :=
  ctlStep e 7 s (· < 258048) State.sendCoreAck (fun s p => (s.takeAck p.srcCore (ofLe p.payload) ns.toNat, []))

/-- The class, cause and source of a fault kind (R687), and the drop cause that it raises (R452). -/
def FaultKind.record : FaultKind → Nat × Nat × Nat × Nat
  | .core c => (causeClass c, c, 1, if causeClass c = 0 then 3 else if causeClass c = 1 then 4 else 5)
  | .routeMismatch => (0, 0x30, 2, 7)
  | .seqFault => (0, 0x31, 2, 7)
  | .laneFault => (1, 0x32, 2, 7)
  | .slotMiss => (0, 0x33, 2, 2)
  | .mergeConflict => (0, 0x34, 2, 3)
  | .startFault => (0, 0x35, 2, 7)

/-- The bytes of a core's fault log (R211). -/
def FaultLog.bytes (l : FaultLog) : List Byte := (List.range 4).flatMap (fun j => leBytes 4 (l.word j))

/-- The cause of a router's fault (R687) and back. -/
def routerFault (cause : Nat) : FaultKind :=
  match cause with
  | 0x30 => .routeMismatch
  | 0x31 => .seqFault
  | 0x32 => .laneFault
  | 0x33 => .slotMiss
  | 0x34 => .mergeConflict
  | _ => .startFault

/-- The payload of a fault report (R349): a core's `FAULT_LOG`, or a router's fault and `CHECK_ID`, each as 8 bytes (DESIGN
CHOICE, log entry 176: the spec gives no places in the 16 bytes). The message of a suppressed fault carries the log too, as it
stands when the message leaves (DESIGN CHOICE, log entry 207: R209 gives the message the fault's own cause, R349 the log). -/
def State.reportBytes (s : State) (u : Requester) (m : FaultMsg) : List Byte :=
  match u with
  | .core c => (s.core c).log.bytes
  | _ => leBytes 8 m.kind.record.2.1 ++ leBytes 8 m.id

/-- Whether two reports came within an hour, the later first (R674). -/
def withinHour : List Nat → Bool
  | [t1, t0] => t1 ≤ t0 + 3600 * 10 ^ 9
  | _ => false

/-- The times of the two latest reports of uncorrectable reads of core store, by word, after a report (R674). -/
def hoursAfter (m : SMap (List Nat)) (log : List Byte) (now : Nat) : SMap (List Nat) :=
  if leAt log 2 1 = 0x10 then m.mod [] (leAt log 8 8) (fun l => (now :: l).take 2) else m

/-- Whether a report makes its core dead (R674): its one record is then that of the death, whose action is wider (R689). -/
def Core.lethal (k : Core) (log : List Byte) (now : Nat) : Bool :=
  causeClass (leAt log 2 1) = 2 ||
    (leAt log 2 1 = 0x10 && withinHour ((hoursAfter k.ueHour log now).get [] (leAt log 8 8)))

/-- A core's fault report reaches its field controller: the cluster's `LAST_FAULT`, the fault record and the drop cause (R216,
R349, R686). The time of a report of an uncorrectable read of core store is kept by its word (R674). -/
def State.reportCore (s : State) (c : Nat) (log : List Byte) : State :=
  let k := clusterOf c
  let r := (FaultKind.core (leAt log 2 1)).record
  let p := s.coresPart c
  let s1 := s.setBlob (o3LastFault k) (BitVec.ofNat 8 (coreIdx c) :: log)
  let s2 := if (s.core c).lethal log s.wt then s1
    else s1.post (fieldOf k) 3 r.2.2.1 k r.1 r.2.1 1 p (leAt log 8 8)
  (s2.pushCause p r.2.2.2).modCore c (fun x => { x with
    logPosted := true, ueHour := hoursAfter x.ueHour log s.wt })

/-- A router's fault report reaches its field controller (R209, R225, R266, R349, R686). -/
def State.reportRouter (s : State) (k : Nat) (d : List Byte) : State :=
  let p := s.partOfRegion (regionOfCluster k)
  let kind := routerFault (leAt d 0 8)
  let r := kind.record
  let s1 := if kind = .slotMiss then s.setNum (o6LastSlotMiss p) (leAt d 8 8) else s
  (s1.post (fieldOf k) 3 r.2.2.1 k r.1 r.2.1 1 p (leAt d 8 8)).pushCause p r.2.2.2

/-- A core or a router sends its oldest fault to its field controller (R209, R266). -/
def State.sendFault (s : State) (u : Requester) : State :=
  let go := fun (s : State) (k : Nat) (d : List Byte) =>
    let f := fieldOf k
    s.sendCtl u (s.controllerAt f) ⟨7, f % 32⟩ 8 0 16 d
  match u with
  | .core c =>
    match (s.core c).sent with
    | m :: r => go (s.modCore c (fun x => { x with sent := r })) (clusterOf c) (s.reportBytes u m)
    | [] => s
  | .router k =>
    match (s.cluster k).sent with
    | m :: r => go (s.modCluster k (fun x => { x with sent := r })) k (s.reportBytes u m)
    | [] => s
  | _ => s

/-- A fault report (R349): the field controller posts the record and raises the drop cause, which reaches the period
controller by `DROP_CAUSE_ARRIVAL`. That of a core in reset is discarded (R673). -/
def execFaultReport (e : CtlStep Requester) (s : State) : Out :=
  ctlStep e 8 s Requester.exists_ State.sendFault (fun s p =>
    (if p.src.kind ≠ 0 then s.reportRouter p.origin p.payload
     else if s.coreGone p.srcCore then s
     else s.reportCore p.srcCore p.payload, []))

/-- The field controller of a router's field sends it the drop cycle K of its partition (R303). -/
def State.sendDropCycle (s : State) (k : Nat) : State :=
  match s.dropK (s.partOfRegion (regionOfCluster k)) with
  | some kc => s.sendCtl (.fieldController (fieldOf k)) k ⟨3, 0⟩ 9 0 8 (leBytes 8 kc)
  | none => s

/-- The drop cycle (R303, R349): K is written to `DROP_AT`. -/
def execDropCycle (e : CtlStep Nat) (s : State) : Out :=
  ctlStep e 9 s (· < 8064) State.sendDropCycle (fun s p =>
    (s.modCluster p.home (fun x => { x with dropAt := ofLe p.payload }), []))

end Sys2Proof.Machine
end

