-- ==== Sys2Proof/Machine/Faults.lean ====
section
/-! DEFINITION. Losses in service (R29, R30, R42, R149, R668, R673 to R689): dead cores, failed routers,
partition faults, regions out of service, the forwarding tree, supervisor failover and fault records. -/

namespace Sys2Proof.Machine

/-! ### Partition faults (R677, R679) -/

/-- Open streams of a partition are held with reason 5, and its home ports report them (R669 step 6). -/
def State.holdPart (s : State) (p : Nat) : State :=
  (s.partPorts p).foldl (fun s n =>
    let l := (s.port n).streams.filter (fun e => 1 ≤ e.2.state && e.2.state ≤ 3)
    if l.isEmpty then s
    else
      let held := fun (e : StreamEntry) => if 1 ≤ e.state ∧ e.state ≤ 3 then { e with state := 3, hold := 5 } else e
      let s1 := s.modPort n (fun x => { x with
        streams := x.streams.mapV held
        changed := x.changed.filter (fun j => !(l.any (fun e => e.1 = j))) })
      s1.sendReport n 0 s1.wt 0 (l.map (fun e => reportRecord n e.1 3 0 (held e.2)))) s

/-! ### The forwarding tree (R566, R569, R570) -/

/-- Whether the forwarding hop from a field in a direction is there, on both sides (R566). -/
def State.hopOk (s : State) (g d : Nat) : Bool :=
  match fieldAcross g d with
  | some n => !nbit (s.field g).hops d && !nbit (s.field n).hops ((d + 2) % 4)
  | none => false

/-- One round of the tree (R569): the neighbours of the frontier that have no depth yet get one. -/
def growTree (ok : Nat → Bool) (hop : Nat → Nat → Bool) (frontier : List Nat) (tree : SMap (Nat × Nat)) : List Nat × SMap (Nat × Nat) :=
  frontier.foldl (fun a g =>
    (List.range 4).foldl (fun (a : List Nat × SMap (Nat × Nat)) d =>
      match fieldAcross g d with
      | some n =>
        if ok n && hop g d && !a.2.has n then (a.1 ++ [n], a.2.put n ((a.2.get (0, 4) g).1 + 1, (d + 2) % 4)) else a
      | none => a) a) ([], tree)

def treeRounds (ok : Nat → Bool) (hop : Nat → Nat → Bool) : Nat → List Nat → SMap (Nat × Nat) → SMap (Nat × Nat)
  | 0, _, t => t
  | n + 1, fr, t =>
    let r := growTree ok hop fr t
    if r.1.isEmpty then r.2 else treeRounds ok hop n r.1 r.2

/-- The tree of an island: by field, the depth and the parent's direction (4 the root). -/
def treeOf (ok : Nat → Bool) (hop : Nat → Nat → Bool) (root : Nat) : SMap (Nat × Nat) :=
  treeRounds ok hop 84 [root] [(root, (0, 4))]

/-- A field's clock unit takes its place in the tree (R569, R586). -/
def ClkSt.place (x : ClkSt) (q : Option (Nat × Nat)) : ClkSt :=
  match q with
  | some (d, p) =>
    { x with parent := p, depth := d, root := p = 4, inputLost := false
             reparents := if x.parent = p then x.reparents else x.reparents + 1 }
  | none => { x with parent := 7, depth := 255, root := false }

/-- The default tree: from the root east and west along row 3, and from each field of row 3 north and south along its column. -/
def defaultTree : SMap (Nat × Nat) :=
  (List.range 84).map (fun f =>
    let x := f % 12
    let y := f / 12
    let d := (x - 5) + (5 - x) + (y - 3) + (3 - y)
    (f, d, if f = 41 then 4 else if y < 3 then 2 else if 3 < y then 0 else if x < 5 then 1 else 3))

/-- Every hop of the default tree is there: the wafer is one island, and its fields have supply and working clock units. -/
def State.wholeTree (s : State) (ok : Nat → Bool) : Bool :=
  s.islands = [(0, 11)] && defaultTree.all (fun e => ok e.1 && (e.2.2 = 4 || s.hopOk e.1 e.2.2))

/-- The root of the tree that a field of a region out of service hangs on (R566). -/
def State.climb (s : State) : Nat → Nat → Nat
  | 0, f => f
  | n + 1, f =>
    match fieldAcross f (s.clk f).parent with
    | some g => if (s.clk f).parent < 4 then s.climb n g else f
    | none => f

/-- The clock root that feeds a field: that of its island (R570). -/
def State.treeRoot (s : State) (f : Nat) : Nat := if s.regionUp (f % 12) then rootOf (s.island (f % 12)) else s.climb 84 f

/-- The forwarding trees (R566, R569, R570): of each island, and beyond it of the fields with supply in regions out of service, which
forward too. `fresh` says that the default tree is taken where it is whole, as at bring-up. -/
def State.trees (s : State) (ok : Nat → Bool) (fresh : Bool) : SMap (Nat × Nat) :=
  if fresh && s.wholeTree ok then defaultTree
  else
    s.islands.foldl (fun (a : SMap (Nat × Nat)) i =>
      let t := treeOf (fun f => inIsland i (f % 12) && ok f) s.hopOk (rootOf i)
      let q := treeRounds (fun f => ok f && !s.regionUp (f % 12) && !a.has f) s.hopOk 84 (t.map (·.1)) t
      q.foldl (fun a e => a.put e.1 e.2) a) []

/-- The trees of all islands are built; `ok` says which fields have supply and a working clock unit. The fields
left over are those of an island that are eligible and without a depth. -/
def State.plant (s : State) (ok : Nat → Bool) (fresh : Bool) : State × List Nat :=
  let t := s.trees ok fresh
  let s1 := (List.range 84).foldl (fun s f => s.modClk f (·.place (t.look f))) s
  let roots := (s1.islands.map (fun i => BitVec.ofNat 8 (rootOf i))) ++ List.replicate 12 0xFF#8
  (s1.setBlob o0ClockRoots (roots.take 12),
    (List.range 84).filter (fun f => s.regionUp (f % 12) && ok f && !t.has f))

/-- Rewrites `MP_WINDOW` of every router whose window changes (R359). -/
def State.windows (s : State) : State :=
  (List.range 12).foldl (fun s r =>
    let p := s.partOfRegion r
    let rs := s.partRegions p
    let i := s.island r
    let w := BitVec.ofNat 64 (p * 2 ^ 60 + (12 * (rs.headD 0)) * 2 ^ 52 + (12 * (rs.getLastD 11) + 11) * 2 ^ 44 +
      (12 * i.1) * 2 ^ 36 + (12 * i.2 + 11) * 2 ^ 28)
    (List.range 7).foldl (fun s j => (List.range 96).foldl (fun s q =>
      let k := (12 * j + r) * 96 + q
      if (s.cluster k).mpWindow = w then s else s.modCluster k (fun x => { x with mpWindow := w })) s) s) s

/-- A source that a port gave is valid again only once it has been found so (R556). -/
def State.unmark (s : State) (n : Nat) : State :=
  { s with clocks := { s.clocks with
      validPrimary := s.clocks.validPrimary && s.num o0RefPort ≠ n, validAlt := s.clocks.validAlt && s.num o0RefPortAlt ≠ n } }

/-- A port engine of a region that is lost or out of service (R679): its streams are gone, its associations
send nothing, and the port is down. -/
def State.portGone (s : State) (n : Nat) : State :=
  (((((s.unmark n).modPort n (fun x => { PortSt.reset with gen := x.gen })).setNum (o4PortState n) 3).setNum (o4PortRate n) 0).setNum
    (o4PortConfig n) 0).setNum (o4LanesUp n) 0

/-- A region is lost (3) or taken out of service (2) (R42, R618, R679): `REGION_STATE`, its ports, its partition,
and the routers' windows. -/
def State.regionOut (s : State) (r st : Nat) : State :=
  let s1 := s.setNum (o1RegionState r) st
  let s2 := if st = 3 then (List.range 7).foldl (fun s j => s.setNum (o2FieldState (12 * j + r)) 3) s1 else s1
  let s3 := (if st = 3 then s2.clampRegion r else s2).faultPart (s2.partOfRegion r)
  ((s3.portGone r).portGone (r + 12)).windows

/-- A field is quarantined (R42): its region goes out of service unless it is lost. -/
def State.quarantine (s : State) (f : Nat) : State :=
  let s1 := ((s.loseField f).setNum (o2FieldState f) 2).clampField f
  if s1.regionUp (f % 12) then s1.regionOut (f % 12) 2 else s1

/-- The trees are rebuilt until every eligible field of an island has a depth (R569); a field left without one
is quarantined. -/
def State.rebuild (ok : Nat → Bool) : Nat → State → State
  | 0, s => s
  | n + 1, s =>
    let r := s.plant ok false
    if r.2.isEmpty then r.1
    else State.rebuild ok n (r.2.foldl (fun s f => (s.quarantine f).postField f 8 6 2 5 0) r.1)

/-- Whether a field's region has supply: it is not lost (R569). -/
def State.hasSupply (s : State) (f : Nat) : Bool := s.num (o1RegionState (f % 12)) ≠ 3

/-- A region is lost or taken out of service while the module serves: with the forwarding tree rebuilt
(R569, R570). -/
def State.loseRegion (s : State) (r st : Nat) : State :=
  let s1 := s.regionOut r st
  State.rebuild (fun f => s1.hasSupply f && !(s1.clk f).inputLost) 13 s1

/-! ### Core resets and dead cores (R668, R674 to R677) -/

/-- What cores that are reset had still to inject goes with their state (R668): operations in flight reach their homes, and these
were not. A control message that a core has sent stays (R209, R213). -/
def State.withdraw (s : State) (mine : Nat → Bool) : State :=
  { s with net := { s.net with packets := s.net.packets.filter (fun e =>
      e.2.injected || e.2.src.kind ≠ 0 || !(e.2.typ ≤ 2 || e.2.typ = 6) || !mine e.2.srcCore) } }

/-- A core reset (R668, R156): the generator takes a new seed (R86). What the loader last wrote to the scale
slots is the loader's (R150), and a dead core stays dead. -/
def State.coreReset (s : State) (c : Nat) : State :=
  let d := (s.withdraw (· = c)).draw
  let k := s.core c
  (d.2.setCore c { Core.resetWith (seedOf (Config.freeLong d.1)) with
    restore := k.restore, dead := k.dead, inReset := k.inReset || k.dead
    since := s.fabricIn (coreRegion c), sinceNs := s.wt }).countsAnew (· = .core c)

/-- Whether the alternate variant for a lost core can be installed (R677). -/
def State.hasVariant (s : State) (p c : Nat) : Bool :=
  let x := s.part p
  match x.pkg with
  | some g => g.variants.any (fun v => v.cluster = clusterOf c && v.lost = coreIdx c) && !x.variants.has (clusterOf c) &&
      !(x.lost.any (fun d => clusterOf d = clusterOf c))
  | none => false

/-- A cause for which the spec states no code (R638, R687): a free value, which the step draws. -/
def State.freeByte (s : State) : Nat := (Config.freeLong s.free).toNat % 256

/-- The time in ns since a partition's latest period ended, as far as the commands have told it (DESIGN CHOICE, log entry
177). -/
def State.sinceBoundary (s : State) (p : Nat) : Nat :=
  match (s.part p).period with
  | some q => (s.wt - q.endAt) % 2 ^ 32
  | none => 0

/-- A core is dead (R674, R677): a boundary that waits for it alone is complete (R149). `cls`, `cause` and `detail` are those of its
one record (R689). -/
def State.coreDead (s : State) (c cls cause detail : Nat) : State :=
  let k := clusterOf c
  let f := fieldOf k
  let p := s.coresPart c
  let q := s.physCluster k * 64 + s.physCore c
  let s1 := s.modCore c (fun x => { x with dead := true })
  let s2 := ((s1.coreReset c).softFuse f 1 q cause)
  let s3 := if s2.clusterState k = 0 then s2.setClusterState k 3 else s2
  let s4 := (s3.addNum (o6DeadCores p) 1).closeBoundary p (s3.sinceBoundary p)
  let bad := s4.num (o6GraphState p) = 2 && !s4.hasVariant p c
  let s5 := s4.postField f 1 cls cause (if bad then 4 else 2) detail
  if bad then s5.faultPart p
  else if s5.num (o6GraphState p) = 2 then s5.modPart p (fun x => { x with lost := addOnce x.lost c }) else s5

/-- A core whose death can be handled: it is neither dead nor in reset (R673). -/
def State.mortal (s : State) (c : Nat) : Bool := !(s.core c).dead && !s.coreGone c

/-- Two uncorrectable reads of one word of core store were reported within an hour (R674). -/
def Core.worn (k : Core) : Bool := k.ueHour.any (fun e => withinHour e.2)

/-- A core is found dead (R674): a core fault that it logged has been reported (DEDUCED, log entry 240), which raised the drop cause,
or two uncorrectable reads met one word of its core store within an hour, which raises cause 5. -/
def execCoreDead (c : Nat) (s : State) : Out :=
  onCore c s fun s =>
    let k := s.core c
    if s.mortal c && k.faulted && k.log.valid && k.log.cls = 2 && k.logPosted then s.coreDead c 2 k.log.cause k.log.detail
    else if s.mortal c && k.worn then
      (s.pushCause (s.coresPart c) 5).coreDead c 1 0x10 (((k.ueHour.find? (fun e => withinHour e.2)).map (·.1)).getD 0)
    else s

/-- Whether the latest period of a partition has ended. -/
def PartSt.ended (x : PartSt) : Bool :=
  match x.period with
  | some q => q.ended ≠ .running
  | none => false

/-- The cores that have acknowledged a command of the boundary. -/
def PartSt.acked (x : PartSt) (mordant : Bool) (c : Nat) : Bool :=
  match x.period with
  | some q => (if mordant then q.mordants else q.restarted).contains c
  | none => true

/-- Whether the field controller has sent a core the period restart, or the mordant command, of the latest boundary. -/
def PartSt.told (x : PartSt) (mordant : Bool) (c : Nat) : Bool :=
  x.period.any (fun q => (if mordant then q.toldMordant else q.toldRestart).contains c)

/-- No mordant acknowledgement came within 50 µs of the command (R149). -/
def execMordantAckTimeout (c : Nat) (s : State) : Out :=
  onCore c s fun s =>
    let p := s.coresPart c
    if s.mortal c && (s.part p).ended && (s.part p).told true c && !(s.part p).acked true c then
      ((s.addNum (o6MordantDeadCores p) 1).draw.2.coreDead c 2 s.freeByte 0)
    else s

/-- No acknowledgement of the period restart came within 50 µs of the command (R674). -/
def execRestartAckTimeout (c : Nat) (s : State) : Out :=
  onCore c s fun s =>
    let p := s.coresPart c
    when' (s.mortal c && (s.part p).ended && (s.part p).told false c && !(s.part p).acked false c) s
      (s.draw.2.coreDead c 2 s.freeByte 0)

/-- The cluster that receives for a field controller has failed in service: the controller tells every router of its island
that it receives elsewhere (R350), by configuration writes that are still to be sent. -/
def State.announceMove (s : State) (k : Nat) : State :=
  let f := fieldOf k
  if k % 96 = 41 then
    let ks := (islandFields (s.island (f % 12))).flatMap (fun g => (List.range 96).map (fun j => g * 96 + j))
    { s with fields := s.fields.mod FieldSt.reset f (fun x => { x with toTell := ks.filter (fun j => j ≠ k) }) }
  else s

/-- A router fails in service (R30, R35, R319): its links go down, and the field's partition faults. -/
def execRouterFailedInService (k : Nat) (msg : Bool) (s : State) : Out :=
  onCluster k s fun s =>
    let f := fieldOf k
    if s.fieldState f = 1 && s.routerOk k then
      let s1 := (((s.draw.2.loseNode k).softFuse f (if msg then 3 else 2) (s.physCluster k) s.freeByte).setClusterState k 4).announceMove k
      ((s1.checkPath k).postField f (if msg then 3 else 2) 2 s.freeByte 4 0).faultPart (s1.partOfCluster k)
    else s

/-- A cluster reset (R668, R672): the state and the status. -/
def State.writeClusterReset (s : State) (k v : Nat) : State × Nat :=
  let p := s.partOfCluster k
  if v ≠ 1 then (s, 7)
  else if s.num (o6GraphState p) = 1 ∨ s.num (o6GraphState p) = 2 then (s, 8)
  else if s.msc.starting.isSome ∨ (s.part p).reset?.isSome then (s, 9)
  else
    let s1 := (List.range 32).foldl (fun s j => s.coreReset (k * 32 + j)) s
    (s1.modCluster k (fun x => { x with
      steer := [], steerImg := [], cache := [], plru := [], fills := [],
      ldr := { Loader.reset with installed := x.ldr.installed, fwDigest := x.ldr.fwDigest } }), 0)

/-- A write of `CLUSTER_RESET`. -/
def execClusterReset (k : Nat) (v : BitVec 8) (s : State) : Out :=
  onCluster k s fun s => (s.writeClusterReset k v.toNat).1

/-! ### Wafer supervisor failover (R684, R685) -/

/-- The primary's heartbeat (R684). -/
def execHeartbeat (s : State) : Out := .next { s with msc := { s.msc with heartbeat := true } }

/-- Graph loads in progress end with result 0x0D (R685). -/
def State.abandonLoads (s : State) : State :=
  (List.range 12).foldl (fun s p =>
    if s.num (o6GraphState p) = 1 then
      (((s.setNum (o6GraphState p) 0).setNum (o6LoadResult p) 0x0D).setBlob (o6LoadDetail p)
        (0x0D#8 :: List.replicate 23 0#8)).modPart p (fun x => { x with copy := none })
    else s) s

/-- No heartbeat for 1 ms: the standby, where its field runs, takes over (R684). -/
def execHeartbeatTimeout (s : State) : Out :=
  .next (
    if s.num o0WsPrimary = 0x29 && !s.msc.failedOver && s.fieldState 42 = 1 then
      let s1 := { s with msc := { s.msc with failedOver := true, heartbeat := false } }
      let again := fun (b : Bcast) => { b with
        rounds := 0, missing := List.range (mfChunks s.msc.manifest), waiting := [], maps := [], sentEnd := false, tries := [],
        install := false }
      let s2 := { s1 with msc := { s1.msc with bcast := s1.msc.bcast.map again } }
      let s3 := if s2.msc.bcast.isSome then s2.setNum o0StartPhase 7 else s2
      (((s3.setNum o0WsPrimary 0x2A).addNum o0WsFailovers 1).abandonLoads).post 42 0 9 0 2 0 8 0xFF 0
    else s)

/-! ### Fault records (R686 to R689) -/

/-- The 32 bytes of a fault record (R686). -/
def FaultRec.bytes (r : FaultRec) : List Byte :=
  leBytes 8 r.time ++ leBytes 4 r.seq ++ [BitVec.ofNat 8 r.scope, BitVec.ofNat 8 r.source] ++ leBytes 2 r.inst ++
    [BitVec.ofNat 8 r.cls, BitVec.ofNat 8 r.cause, BitVec.ofNat 8 r.action, BitVec.ofNat 8 r.part] ++
    leBytes 8 r.detail ++ leBytes 4 0

/-- The MSC keeps a record (R688). -/
def State.keepRecord (s : State) (r : FaultRec) : State :=
  let n := (s.num o0FaultSeq + 1) % 2 ^ 32
  let l := s.msc.records ++ [{ r with seq := n }]
  let s1 := { s with msc := { s.msc with records := l.drop (l.length - 256) } }
  (s1.setNum o0FaultSeq n).addNum o0FaultRecordsLost (l.length - 256)

/-- The oldest record on its way from a source reaches the MSC (R686, R688): a field, 84 + a region, 96 the MSC. -/
def execFaultRecord (src : Nat) (s : State) : Out :=
  .next (
    match s.msc.posted.find? (fun e => e.1 = src) with
    | some e => { s with msc := { s.msc with posted := s.msc.posted.erase e } }.keepRecord e.2
    | none => s)

end Sys2Proof.Machine
end

