-- ==== Sys2Proof/Machine/Packages.lean ====
section
/-! DEFINITION. Graph packages as the loader reads them: the header, the sections, their records, and the
checks of a package's readability in their order (R236 to R239, R752 to R754, R756). -/

namespace Sys2Proof.Machine

/-! ### The detail of a result (R243, R244) -/

/-- `LOAD_DETAIL`: the code, stations A and B, the edge, and values A and B (R244). -/
def loadDetail (code sa sb e va vb : Nat) : List Byte :=
  BitVec.ofNat 8 code :: List.replicate 3 0#8 ++ [sa, sb, e, va, vb].flatMap (leBytes 4)

/-- The detail of a result that names values A and B only. -/
def loadValues (code va vb : Nat) : List Byte := loadDetail code 0 0 0 va vb

/-! ### Header and sections (R236, R237) -/

def gpLength (b : List Byte) : Nat := leAt b 0x1C 4
def gpRemote (b : List Byte) : Bool := nbit (leAt b 6 2) 0
def gpAlternates (b : List Byte) : Bool := nbit (leAt b 6 2) 1
def gpSpan (b : List Byte) : Nat := leAt b 0x10 2 % 4096

/-- The offset and the length of a section. -/
def sectionAt (b : List Byte) (k : Nat) : Nat × Nat := (leAt b (0x28 + 8 * k) 4, leAt b (0x2C + 8 * k) 4)
def sectionBytes (b : List Byte) (k : Nat) : List Byte := sliceB b (sectionAt b k).1 (sectionAt b k).2

/-- Checks 1 to 6 of R754: the header. -/
def headBad (b : List Byte) : Option Nat :=
  if b.length < 256 then some 0
  else if leAt b 0 4 ≠ 0x4B504748 then some 0
  else if leAt b 4 2 ≠ 1 then some 4
  else if 4 ≤ leAt b 6 2 then some 6
  else if gpLength b < 256 ∨ 268435456 < gpLength b then some 0x1C
  else if crc32c (b.take 0xF8) ≠ leAt b 0xF8 4 then some 0xF8
  else none

/-- Checks 7 and 8 of R754: the body. A copy that is shorter than the package ends at the first line that could
not be read. -/
def bodyBad (b : List Byte) : Option Nat :=
  if b.length < gpLength b then some b.length
  else if crc32c ((b.take (gpLength b)).drop 0x100) ≠ leAt b 0xFC 4 then some 0xFC
  else none

/-- Whether a section breaks the bounds of R237; a section is held against the earlier ones. -/
def sectionBad (b : List Byte) (k : Nat) : Bool :=
  let q := sectionAt b k
  q.2 ≠ 0 && (10 ≤ k || q.1 % 64 ≠ 0 || q.1 < 0x100 || gpLength b < q.1 + q.2 ||
    (List.range k).any (fun j =>
      let r := sectionAt b j
      r.2 ≠ 0 && q.1 < r.1 + r.2 && r.1 < q.1 + q.2))

/-- Checks 9 to 11 of R754. -/
def sectionsBad (b : List Byte) : Option Nat :=
  match (List.range 16).find? (sectionBad b) with
  | some k => some (0x28 + 8 * k)
  | none =>
    if gpRemote b ≠ ((sectionAt b 8).2 ≠ 0) ∨ gpAlternates b ≠ ((sectionAt b 7).2 ≠ 0) then some 6
    else if leAt b 0x14 4 * 32 ≠ (sectionAt b 0).2 then some 0x14
    else if leAt b 0x18 4 * 96 ≠ (sectionAt b 2).2 then some 0x18
    else none

/-! ### Records (R238, R239, R752, R753) -/

/-- A station record (R238). -/
def stationOf (b : List Byte) : Station :=
  { id := leAt b 0 4, kind := leAt b 4 1, acct := leAt b 5 1, limit := leAt b 6 2, latBound := leAt b 8 4,
    place := leAt b 0xC 4, nIn := leAt b 0x10 1, nOut := leAt b 0x11 1, retryCount := leAt b 0x12 1,
    retryStride := leAt b 0x13 1, progOff := leAt b 0x14 4, progLen := leAt b 0x18 2,
    entryPc := leAt b 0x1A 2 % 2048 }

/-- An edge record (R239). Of more than 8 consumers it takes the first 8, which is all that the record has room for (DESIGN CHOICE,
log entry 212: no check of R754 or R246 names such an `N_CONS`). -/
def edgeRec (b : List Byte) : Edge :=
  { id := leAt b 0 4, cls := leAt b 4 1, depth := leAt b 6 2, producer := leAt b 8 4, prodIndex := leAt b 0xC 1,
    interval := leAt b 0x10 4
    consumers := (List.range (min 8 (leAt b 5 1))).map (fun j =>
      ⟨leAt b (0x20 + 8 * j) 4, leAt b (0x24 + 8 * j) 1, leAt b (0x26 + 8 * j) 2⟩) }

/-- The records of `n` bytes each that a run of bytes holds. -/
def recordsOf (n : Nat) (b : List Byte) : List (List Byte) :=
  (List.range (b.length / n)).map (fun j => sliceB b (n * j) n)

def stationsOf (b : List Byte) : List Station := (recordsOf 32 b).map stationOf
def edgesOf (b : List Byte) : List Edge := (recordsOf 96 b).map edgeRec

/-- Check 12 of R754: the first record, at its offset, that repeats a number or holds a reserved kind or class. -/
def recordsBad (b : List Byte) : Option Nat :=
  let st := stationsOf (sectionBytes b 0)
  let ed := edgesOf (sectionBytes b 2)
  match (List.range st.length).find? (fun j =>
      match st[j]? with
      | some t => 4 < t.kind || (st.take j).any (fun u => u.id = t.id)
      | none => false) with
  | some j => some ((sectionAt b 0).1 + 32 * j)
  | none =>
    ((List.range ed.length).find? (fun j =>
      match ed[j]? with
      | some e => 3 < e.cls || (ed.take j).any (fun u => u.id = e.id)
      | none => false)).map (fun j => (sectionAt b 2).1 + 96 * j)

/-- A run of configuration records (R752): `may` says which range of which cluster a record may take. The records,
or the offset of the first that fails. -/
def cfgRecs (may : Nat → Nat → Nat → Bool) : Nat → Nat → List Byte → List CfgRec → Except Nat (List CfgRec)
  | 0, _, _, acc => .ok acc.reverse
  | n + 1, at_, b, acc =>
    if b.isEmpty then .ok acc.reverse
    else
      let k := leAt b 0 4
      let off := leAt b 4 4
      let len := leAt b 8 4
      let size := 16 + (len + 15) / 16 * 16
      if b.length < size ∨ off % 4 ≠ 0 ∨ len % 4 ≠ 0 ∨ len < 4 ∨ 65536 < len ∨ leAt b 0xC 4 ≠ 0 ∨ !may k off len then
        .error at_
      else cfgRecs may n (at_ + size) (b.drop size) (⟨k, off, sliceB b 16 len⟩ :: acc)

/-- A range of core configuration outside program memory (R752). -/
def inCoreBlock (off len : Nat) : Bool := off < 0x80000 && off % 0x4000 + len ≤ 0x2000

/-- The ranges that the records of sections 3, 4 and 5 may take (R752). -/
def sectionMay (sec off len : Nat) : Bool :=
  match sec with
  | 3 => inCoreBlock off len || (0xA1000 ≤ off && off + len ≤ 0xA2000)
  | 4 => 0x80000 ≤ off && off + len ≤ 0xA0000
  | _ => 0xA2000 ≤ off && off + len ≤ 0xA3000

/-- The ranges that a variant's records may take (R753): core configuration blocks and `QUEUE_DESC`. -/
def variantMay (off len : Nat) : Bool := off + len ≤ 0x80000 || (0x81000 ≤ off && off + len ≤ 0x83400)

/-- A run of variants (R753): the variants, or the offset of the first header or record that fails. -/
def variantsOf (inPart : Nat → Bool) (st : List Station) :
    Nat → Nat → List Byte → List Variant → Except Nat (List Variant)
  | 0, _, _, acc => .ok acc.reverse
  | n + 1, at_, b, acc =>
    if b.isEmpty then .ok acc.reverse
    else
      let k := leAt b 0 4
      let lost := leAt b 4 1
      let nst := leAt b 8 4
      let len := leAt b 12 4
      let size := 16 + 32 * nst + len
      let vs := stationsOf (sliceB b 16 (32 * nst))
      if b.length < size ∨ 31 < lost ∨ leAt b 5 3 ≠ 0 ∨ !inPart k ∨
          vs.any (fun v => !st.any (fun t => t.id = v.id) || 4 < v.kind) then .error at_
      else
        match cfgRecs (fun c off l => c = k && variantMay off l) (len / 16 + 1) (at_ + 16 + 32 * nst)
            (sliceB b (16 + 32 * nst) len) [] with
        | .error o => .error o
        | .ok rs => variantsOf inPart st n (at_ + size) (b.drop size) (⟨k, lost, vs, rs⟩ :: acc)

/-- The configuration records of a section. -/
def sectionRecs (inPart : Nat → Bool) (b : List Byte) (k : Nat) : Except Nat (List CfgRec) :=
  cfgRecs (fun c off len => inPart c && sectionMay k off len) ((sectionAt b k).2 / 16 + 1) (sectionAt b k).1
    (sectionBytes b k) []

/-- Whether a station's program lies in section 1 (check 14 of R754). -/
def progBad (len : Nat) (t : Station) : Bool := t.progOff % 4 ≠ 0 || len < t.progOff + 4 * t.progLen

/-- How many bytes a variant takes in section 7 (R753, R752). -/
def Variant.size (v : Variant) : Nat :=
  16 + 32 * v.stations.length + (v.recs.map (fun r => 16 + (r.data.length + 15) / 16 * 16)).sum

/-- Check 14 of R754 over a run of variants that begins at an offset: the offset of the first station record that fails. -/
def variantProgBad (len : Nat) : Nat → List Variant → Option Nat
  | _, [] => none
  | at_, v :: r =>
    match v.stations.findIdx? (progBad len) with
    | some j => some (at_ + 16 + 32 * j)
    | none => variantProgBad len (at_ + v.size) r

/-- Check 14 of R754. -/
def programsBad (b : List Byte) (vs : List Variant) : Option Nat :=
  let len := (sectionAt b 1).2
  let st := stationsOf (sectionBytes b 0)
  match st.findIdx? (progBad len) with
  | some j => some ((sectionAt b 0).1 + 32 * j)
  | none => variantProgBad len (sectionAt b 7).1 vs

/-- The crossings of section 6 (R237). -/
def stitchUses (b : List Byte) : List StitchUse :=
  (recordsOf 4 b).map (fun r => ⟨leAt r 0 1, leAt r 1 1, leAt r 2 1, leAt r 3 1⟩)

/-- Step 2 of R241 on a copied package, in the order of R754: the package, or value A of result 0x02. `inPart`
says which clusters the partition holds. -/
def readPackage (inPart : Nat → Bool) (b : List Byte) : Except Nat Package :=
  match (headBad b).or ((bodyBad b).or ((sectionsBad b).or (recordsBad b))) with
  | some a => .error a
  | none =>
    let st := stationsOf (sectionBytes b 0)
    (sectionRecs inPart b 3).bind fun r3 => (sectionRecs inPart b 4).bind fun r4 =>
      (sectionRecs inPart b 5).bind fun r5 =>
      (variantsOf inPart st ((sectionAt b 7).2 / 16 + 1) (sectionAt b 7).1 (sectionBytes b 7) []).bind fun vs =>
      match programsBad b vs with
      | some a => .error a
      | none =>
        .ok { remote := gpRemote b, graphId := leAt b 8 8, span := gpSpan b, stations := st
              programs := sectionBytes b 1, edges := edgesOf (sectionBytes b 2), recs3 := r3, recs4 := r4
              recs5 := r5, stitch := stitchUses (sectionBytes b 6), variants := vs, report := sectionBytes b 9
              digest := sha256 (b.take (gpLength b)) }

end Sys2Proof.Machine
end

