-- ==== Sys2Proof/Machine/Install.lean ====
section
/-! DEFINITION. The install of a graph and of an alternate variant (R250, R253, R753, R757, R139, R150, R392),
and the removal of a graph (R669). -/

namespace Sys2Proof.Machine

/-! ### What an install starts from -/

/-- How many numbers the seeds of all units take. -/
def coreSeeds : Nat := 300000

/-- Every core of the regions `rs` receives a core reset (R668, R86): the generators take new seeds; a dead core
stays dead, and what the loader last wrote to the scale slots is the loader's (R150). -/
def State.resetCores (s : State) (rs : List Nat) : State :=
  let b := s.free + 1
  let mine := fun (c : Nat) => rs.contains (regionOfCluster (clusterOf c))
  let s := (s.withdraw mine).countsAnew (fun u => match u with | .core c => mine c | _ => false)
  { s with
    free := s.free + coreSeeds
    cores := s.cores.filterMap (fun (e : Nat × Core) =>
      if !mine e.1 then some e
      else if e.2.dead || e.2.inReset || !e.2.restore.isEmpty then
        some (e.1, { Core.resetWith (seedOf (Config.freeLong (b + e.1))) with
          restore := e.2.restore, dead := e.2.dead, inReset := e.2.inReset, since := s.fabricIn (coreRegion e.1), sinceNs := s.wt })
      else none)
    regions := rs.foldl (fun m r => m.mod RegionSt.reset r (fun x =>
      { x with seedAt := b, sinceAt := s.fabricIn r, sinceNsAt := s.wt })) s.regions }

/-- Changes every cluster of the regions `rs` that the state lists. -/
def State.modClusters (s : State) (rs : List Nat) (g : Cluster → Cluster) : State :=
  { s with clusters := s.clusters.map (fun (e : Nat × Cluster) =>
      if rs.contains (regionOfCluster e.1) then (e.1, g e.2) else e) }

/-- A combining queue without its configuration and its banks: its completed rounds, counted from module reset, stay
(R275, R291). -/
def Combine.blank (q : Combine) : Combine := { Combine.reset with rounds := q.rounds }

/-- A router whose tables, descriptors and combining queues hold zero, its steering unit empty, and its cache
control zero (R250, R392). -/
def Cluster.blank (x : Cluster) : Cluster :=
  { x with
    spCtrl := 0, slots := [], doneOcc := [], descInit := 0, desc := [], combine := x.combine.mapV Combine.blank
    steer := [], steerImg := []
    cmemCtrl := 0, ranges := [], cache := [], plru := [], fills := [] }

/-! ### Writes of the loader -/

/-- The words of a record. `RUN` is held at 0 (R250). -/
def CfgRec.words (r : CfgRec) : List (Nat × Nat) :=
  (List.range (r.data.length / 4)).map (fun j =>
    let o := r.off + 4 * j
    let v := leAt r.data (4 * j) 4
    (o, if o < 0x80000 ∧ o % 0x4000 = 8 then v / 2 * 2 else v))

/-- `SP_CTRL` of a window. -/
def spCtrlOff : Nat := 0x80004

/-- A record is written (R752), but for `SP_CTRL`, which comes last. A dead core stays as its reset left it, and so does every
block that a hollow cluster does not serve (R24, R368). -/
def State.writeRec (s : State) (r : CfgRec) : State :=
  if 0xA2000 ≤ r.off ∧ r.off < 0xA3000 then
    s.modCluster r.cluster (fun x => { x with steerImg := Sparse.blit x.steerImg (r.off - 0xA2000) r.data })
  else s.writeCfgWords r.cluster (r.words.filter (fun w => w.1 ≠ spCtrlOff && !s.blockAbsent r.cluster w.1))

/-- The `SP_CTRL` word of a record. -/
def State.writeEnable (s : State) (r : CfgRec) : State :=
  (r.words.filter (fun w => w.1 = spCtrlOff)).foldl (fun s w => s.writeCfgWord r.cluster w.1 w.2) s

/-- The instruction words of a station, from section 1 (R757). -/
def Package.program (g : Package) (t : Station) : List Word :=
  (List.range t.progLen).map (fun j => BitVec.ofNat 32 (leAt g.programs (t.progOff + 4 * j) 4))

/-- Whether a station runs in a core (R220). -/
def Station.inCore (t : Station) : Bool := t.kind < 2 || t.kind = 4

/-- The cluster of a station's place (R238). -/
def Station.cluster (t : Station) : Nat := if t.inCore then t.place / 32 else t.place

/-- The credits with which a producer's output starts, by consumer: the depth of each consumer's queue (R282), at most
the 16 tokens that a steer holds (R222); two for a combining channel, one for each bank (R294). -/
def Package.depths (g : Package) (e : Edge) : List Nat :=
  e.consumers.map (fun c =>
    if e.cls = 3 then 2
    else if e.cls = 2 && g.stations.any (fun t => t.id = c.station && t.kind = 2) then min 16 e.depth
    else e.depth)

/-- The outputs of a core's station get their credits. -/
def Core.credit (g : Package) (k : Core) (e : Edge) : Core :=
  let l := g.depths e
  if e.cls < 2 then
    { k with outQ := k.outQ.put e.prodIndex { OutQ.reset with credits := l, depths := l, backs := l.map (fun _ => 0) } }
  else
    let x := k.outw e.prodIndex
    { k with outW := k.outW.put e.prodIndex { OutW.reset with
        credits := x.credits ++ l, depths := x.depths ++ l, comb := x.comb || e.cls = 3 } }

/-- A station of a core is placed: its program and its outputs' credits. -/
def State.place (s : State) (g : Package) (t : Station) : State :=
  if !t.inCore || s.coreGone t.place then s
  else
    let k := s.core t.place
    let k1 := if t.progLen = 0 then k else { k with pmem := Sparse.blit k.pmem t.entryPc (g.program t) }
    s.setCore t.place ((g.edges.filter (fun e => e.producer = t.id)).foldl (Core.credit g) k1)

/-- A steer or merge station in place `j` of its cluster's steering unit. -/
def Package.steerOf (g : Package) (x : Cluster) (j : Nat) (t : Station) : Steer :=
  let outs := g.edges.filter (fun e => e.producer = t.id)
  let ins := (g.edges.filter (fun e => e.cls < 2)).flatMap (fun e => e.consumers.filter (fun c => c.station = t.id))
  let depths : SMap (List Nat) := outs.foldl (fun (m : SMap (List Nat)) e => m.put e.prodIndex (g.depths e)) []
  { Steer.reset with
    station := t.id, kind := t.kind
    ways := if t.kind = 2 then (outs.map (·.prodIndex)).eraseDups else ins.map (·.input)
    routes := (List.range 8).map (fun b =>
      match x.slots.find? (fun (e : Nat × SlotEntry) =>
        e.2.valid && e.2.inPort = 4 && e.2.srcKind = 3 && e.2.srcUnit = j && e.2.srcQ = b) with
      | some e => e.2.check
      | none => 0)
    depths := depths, credits := depths, backs := depths.mapV (fun l => l.map (fun _ => 0)) }

/-- The steering units of a graph: a cluster's stations in the order of their records. -/
def State.placeSteers (s : State) (g : Package) : State :=
  let l := g.stations.filter (fun t => !t.inCore)
  (l.map (·.place)).eraseDups.foldl (fun s k =>
    let mine := l.filter (fun t => t.place = k)
    s.modCluster k (fun x => { x with
      steer := (List.range mine.length).filterMap (fun j => (mine[j]?).map (fun t => (j, g.steerOf x j t))) })) s

/-- What the loader last wrote to the scale slots of the cores that `mine` names (R150). -/
def State.keepScales (s : State) (mine : Nat → Bool) : State :=
  { s with cores := s.cores.map (fun (e : Nat × Core) =>
      if mine e.1 then (e.1, { e.2 with restore := e.2.scale.mapV (fun x => (x.committed, x.ctrl)) }) else e) }

/-! ### Variants (R753) -/

/-- The graph with a variant's station records in place of those they replace. -/
def Package.swap (g : Package) (v : Variant) : Package :=
  { g with stations := g.stations.map (fun t => (v.stations.find? (fun u => u.id = t.id)).getD t) }

/-- The variant for a cluster and a lost core. -/
def Package.variant (g : Package) (k lost : Nat) : Option Variant :=
  g.variants.find? (fun v => v.cluster = k && v.lost = lost)

/-- A variant that places a station elsewhere than on a surviving core of its cluster, or leaves one on the lost core
(R245, R753). -/
def Package.variantBad (g : Package) (v : Variant) : Bool :=
  v.stations.any (fun t => !t.inCore || t.cluster ≠ v.cluster) ||
    (g.swap v).stations.any (fun t => t.inCore && t.place = v.cluster * 32 + v.lost)

/-- The records of a variant are written; the router's table stands still for them. -/
def State.writeVariant (s : State) (v : Variant) : State :=
  let ctl := (s.cluster v.cluster).spCtrl
  let s1 := v.recs.foldl State.writeRec (s.modCluster v.cluster (fun x => { x with spCtrl := 0 }))
  s1.modCluster v.cluster (fun x => { x with spCtrl := ctl })

/-- The variants in force, by cluster and lost core. -/
def Package.inForce (g : Package) (alts : SMap Nat) : List Variant :=
  alts.filterMap (fun (a : Nat × Nat) => g.variant a.1 a.2)

/-! ### The install (R250) -/

/-- The install of a graph whose stations stand as the variants in force place them. -/
def State.install (s : State) (p : Nat) (g : Package) (alts : SMap Nat) : State :=
  let rs := s.partRegions p
  let s1 := (s.resetCores rs).modClusters rs Cluster.blank
  let s2 := (g.recs3 ++ g.recs4 ++ g.recs5).foldl State.writeRec s1
  let s3 := g.stations.foldl (fun s t => s.place g t) s2
  let s4 := (g.inForce alts).foldl State.writeVariant (s3.placeSteers g)
  (g.recs4.foldl State.writeEnable s4).keepScales (fun c => rs.contains (regionOfCluster (clusterOf c)))

/-- The install of a variant in a running graph, whose stations stand as the variant places them (R253, R753). -/
def State.installVariant (s : State) (g : Package) (v : Variant) : State :=
  let k := v.cluster
  let s1 := (List.range 32).foldl (fun s j => s.coreReset (k * 32 + j)) s
  let s2 := (g.recs3.filter (fun r => r.cluster = k)).foldl State.writeRec s1
  let s3 := (g.stations.filter (fun t => t.inCore && t.cluster = k)).foldl (fun s t => s.place g t) s2
  (s3.writeVariant v).keepScales (fun c => clusterOf c = k)

/-! ### Without a graph (R252, R669) -/

/-- A partition holds no graph. -/
def State.removeGraph (s : State) (p : Nat) : State :=
  let s1 := s.modPart p (fun x => { x with
    pkg := none, copy := none, variants := [], lost := [], period := none, admitted := none, planned := 0, holds := [] })
  let s2 := ((s1.setNum (o6GraphState p) 0).setNum (o6GraphId p) 0).setNum (o6AlternatesActive p) 0
  (s2.setNum (o6FrameLen p) 0).setNum (o6Turns p) 0

/-- Steps 2 to 4 of R669 for the regions `rs`: cores, routers, steering units and cache control. -/
def State.resetPlane (s : State) (rs : List Nat) : State :=
  let s1 := s.resetCores rs
  let s2 := s1.modClusters rs (fun x =>
    { x.clearPlane with dropAt := 2 ^ 64 - 1, spCtrl := 0, discarding := false, cmemCtrl := 0, ranges := [], cache := [], plru := [], fills := [] })
  { s2 with cores := s2.cores.map (fun (e : Nat × Core) =>
      if rs.contains (regionOfCluster (clusterOf e.1)) then
        (e.1, { e.2 with scale := e.2.restore.mapV (fun v => { ScaleSlot.reset with committed := v.1, ctrl := v.2 }) })
      else e) }

end Sys2Proof.Machine
end

