-- ==== Sys2Proof/Machine/LoadChecks.lean ====
section
/-! DEFINITION. The checks of a graph load from placement to slot tables (R245 to R249, R218, R221, R226, R227,
R273, R274, R280, R755 to R757). A check answers the `LOAD_DETAIL` of the first thing that fails. -/

namespace Sys2Proof.Machine

/-! ### Step 5: placement (R245) -/

/-- The logical core of a cluster that the latest soft fuse not yet applied names. -/
def State.lostCore (s : State) (k : Nat) : Option Nat :=
  let x := s.field (fieldOf k)
  match (x.soft ++ x.softWait).reverse.find? (fun r => r.kind = 1 && !r.applied && r.loc / 64 = s.physCluster k) with
  | some r => (List.range 32).find? (fun j => s.physCore (k * 32 + j) = r.loc % 64)
  | none => none

/-- The stations in their order: the variants that the placements need, or the first refusal. -/
def State.placements (s : State) (p : Nat) (g : Package) : List Station → SMap Nat → Except (List Byte) (SMap Nat)
  | [], alts => .ok alts
  | t :: r, alts =>
    let k := t.cluster
    if !(k < 8064 && s.partOfCluster k = p) then
      .error (loadDetail 5 t.id 0 0 k (if k < 8064 then s.clusterState k else 0))
    else if s.clusterState k = 0 ∨ alts.has k then s.placements p g r alts
    else
      let lost := if s.clusterState k = 3 then s.lostCore k else none
      match lost with
      | some j =>
        match g.variant k j with
        | some _ => s.placements p g r (alts.put k j)
        | none => .error (loadDetail 5 t.id 0 0 k (s.clusterState k))
      | none => .error (loadDetail 5 t.id 0 0 k (s.clusterState k))

/-- Step 5: the variants in force and the graph as they place it; no variant of the package may break R753. -/
def State.checkPlacement (s : State) (p : Nat) (g : Package) : Except (List Byte) (SMap Nat × Package) :=
  match s.placements p g g.stations [] with
  | .error d => .error d
  | .ok alts =>
    match g.variants.find? g.variantBad with
    | some v => .error (loadValues 0xB (v.cluster * 32 + v.lost) 0)
    | none => .ok (alts, (g.inForce alts).foldl Package.swap g)

/-! ### Step 6: resources (R246), on the state that the install would leave -/

/-- The first of a list that is refused. -/
def firstBad {α : Type} (l : List α) (bad : α → Option (List Byte)) : Option (List Byte) := l.findSome? bad

/-- Station slots of a core (R172): a valid slot's mask is not zero and shares no counter with another's. -/
def Core.masksBad (k : Core) : Bool :=
  let l := (List.range 8).filter (fun j => nbit (k.station j 0).toNat 31)
  let mask := fun (j : Nat) => (k.station j 1).toNat % 65536
  l.any (fun j => mask j = 0 || l.any (fun i => i ≠ j && (mask i &&& mask j) ≠ 0))

/-- Programs of one core (R757). -/
def Package.programsOf (g : Package) (c : Nat) : List (Station × List Word) :=
  (g.stations.filter (fun t => t.inCore && t.place = c)).map (fun t => (t, g.program t))

/-- Whether a program leaves program memory, or an empty one starts outside another's (limit 3). -/
def Package.rangeBad (g : Package) (t : Station) : Bool :=
  t.inCore &&
    (if t.progLen = 0 then
      !((g.programsOf t.place).any (fun q => q.1.entryPc ≤ t.entryPc && t.entryPc < q.1.entryPc + q.1.progLen))
    else 2048 < t.entryPc + t.progLen)

/-- Whether two programs of one core differ where they overlap (limit 12). -/
def Package.overlapBad (g : Package) (t : Station) : Bool :=
  t.inCore && (g.programsOf t.place).any (fun q =>
    (List.range q.1.progLen).any (fun j =>
      let i := q.1.entryPc + j
      t.entryPc ≤ i && i < t.entryPc + t.progLen && (g.program t)[i - t.entryPc]? ≠ q.2[j]?))

/-- A counter bound to a queue, channel or inbox that does not exist (R169). -/
def Core.bindBad (k : Core) : Bool :=
  (List.range 16).any (fun n =>
    let b := Sparse.rd k.bind n
    let src := fld b 0 4
    let ix := fld b 4 4
    (1 ≤ src && src ≤ 3 && 7 < ix) || (src = 4 && 3 < ix))

/-- An edge that breaks R169 by its indices. -/
def Edge.indexBad (e : Edge) : Bool := 7 < e.prodIndex || e.consumers.any (fun c => 7 < c.input)

/-- An edge that R218, R239 forbid: a number of consumers, or a station, that is none. -/
def Package.edgeBad (g : Package) (e : Edge) : Bool :=
  let known := fun (n : Nat) => g.stations.any (fun t => t.id = n)
  e.consumers.isEmpty || (e.cls = 3 && e.consumers.length ≠ 1) || !known e.producer ||
    e.consumers.any (fun c => !known c.station) ||
    (e.cls < 2 && g.edges.any (fun d => d.id ≠ e.id && d.cls < 2 &&
      d.consumers.any (fun c => e.consumers.any (fun b => b.station = c.station && b.input = c.input))))

/-- The steer and merge stations of a cluster, and the holding entries of their inputs (R221, R222). -/
def Package.steersAt (g : Package) (k : Nat) : List Station := g.stations.filter (fun t => !t.inCore && t.place = k)
def Package.holding (g : Package) (k : Nat) : Nat :=
  ((g.edges.filter (fun e => e.cls < 2)).flatMap (fun e =>
    (e.consumers.filter (fun c => (g.steersAt k).any (fun t => t.id = c.station))).map (fun _ => e.depth))).sum

/-- The depth of an edge's queues within R239 and R280. -/
def Edge.depthBad (e : Edge) : Bool := e.depth = 0 || (e.cls < 2 && 64 < e.depth) || (e.cls = 2 && 16 < e.depth)

/-- The descriptors of a core that are valid, of one group. -/
def Cluster.valid (x : Cluster) (i base n : Nat) : List Long :=
  ((List.range n).map (fun j => x.descOf i (base + j))).filter descValid

def descUnits (d : Long) : Nat := fld d 38 6

/-- Depths and sizes of a core's queues within R280. -/
def Cluster.queuesBad (x : Cluster) (i : Nat) : Bool :=
  let units := fun (d : Long) => descUnits d = 0 || 33 < descUnits d
  (x.valid i 0 8).any units ||
    (x.valid i 8 8).any (fun d => units d || descDepth d = 0 || 4 < descDepth d) ||
    (x.valid i 16 8).any (fun d => descDepth d = 0 || 16 < descDepth d) ||
    (x.valid i 24 8).any (fun d => descDepth d = 0 || 4 < descDepth d) ||
    (x.valid i 32 4).any (fun d => descDepth d < 9 || 14 < descDepth d)

/-- The tuples that a router's word channels hold (R280). -/
def Cluster.wordTuples (x : Cluster) : Nat :=
  ((List.range 32).map (fun i => (((x.valid i 16 8) ++ (x.valid i 24 8)).map descDepth).sum)).sum

/-- The stretches of core store that a core's queues, inboxes and retain ring take: start and length. -/
def storeSpans (x : Cluster) (i : Nat) (k : Core) : List (Nat × Nat) :=
  (x.valid i 0 8).map (fun d => (descBase d, inDepth d * descUnits d * 64)) ++
    (x.valid i 8 8).map (fun d => (descBase d, descDepth d * descUnits d * 64)) ++
    (x.valid i 32 4).map (fun d => (descBase d, 64 + 2 * bankBytes d)) ++
    (if k.retainDepth = 0 then [] else [(k.retainBase * 2048, k.retainDepth * 2048)])

/-- Stretches that overlap or leave core store. -/
def spansBad : List (Nat × Nat) → Bool
  | [] => false
  | a :: r => storeSize < a.1 + a.2 || r.any (fun b => a.1 < b.1 + b.2 && b.1 < a.1 + a.2) || spansBad r

/-- An advisory channel that feeds a steer or a combining queue (R288). -/
def State.advisoryBad (s : State) (g : Package) (e : Edge) : Bool :=
  match g.stations.find? (fun t => t.id = e.producer) with
  | some t =>
    t.inCore && (e.cls = 3 || (e.cls = 2 && e.consumers.any (fun c =>
      g.stations.any (fun u => u.id = c.station && u.kind = 2)))) &&
      descAdvisory ((s.cluster t.cluster).outWord (t.place % 32) e.prodIndex)
  | none => false

/-- A delivering entry longer than its queue's entries (R280). -/
def Cluster.unitsBad (x : Cluster) : Bool :=
  x.slots.any (fun (e : Nat × SlotEntry) =>
    e.2.valid && e.2.out 4 && e.2.sinkKind = 1 && descUnits (x.inTile e.2.sinkUnit e.2.sinkQ) < e.2.len)

/-- The steers that a station's tiles come from by edges of class 0. -/
def Package.feeders (g : Package) : Nat → List Nat → List Nat
  | 0, l => l
  | n + 1, l =>
    let more := (g.edges.filter (fun e => e.cls = 0 && e.consumers.any (fun c => l.contains c.station))).map (·.producer)
    g.feeders n (l ++ more.filter (fun v => !l.contains v)).eraseDups
def Package.steersOf (g : Package) (v : Nat) : List Nat :=
  (g.feeders g.stations.length [v]).filter (fun u => g.stations.any (fun t => t.id = u && t.kind = 2))

/-- Steer branches and merge inputs (R246). An input is a branch of a steer where its tiles come from the steer by edges of class 0,
through stations between or not, and two inputs may come from one branch (DESIGN CHOICE, log entry 215: the spec does not
say). -/
def Package.waysBad (g : Package) (t : Station) : Bool :=
  if t.kind = 2 then
    let n := ((g.edges.filter (fun e => e.producer = t.id)).map (·.prodIndex)).eraseDups.length
    n = 0 || 8 < n
  else if t.kind = 3 then
    let ins := (g.edges.filter (fun e => e.cls < 2)).flatMap (fun e =>
      (e.consumers.filter (fun c => c.station = t.id)).map (fun _ => e.producer))
    ins.length < 2 || 8 < ins.length ||
      !((g.stations.filter (fun u => u.kind = 2)).any (fun u => ins.all (fun v => (g.steersOf v).contains u.id)))
  else false

/-- Step 6 of R241: `s1` is the state that the install would leave. -/
def State.checkResources (s1 : State) (p : Nat) (g : Package) : Option (List Byte) :=
  let ks := s1.clusters.filter (fun (e : Nat × Cluster) => s1.partOfCluster e.1 = p)
  let cs := s1.cores.filter (fun (e : Nat × Core) => s1.coresPart e.1 = p)
  let inKs := fun (n : Nat) (bad : Nat × Cluster → Bool) =>
    (ks.find? bad).map (fun e => loadValues 6 e.1 n)
  let inCs := fun (n : Nat) (bad : Nat × Core → Bool) =>
    (cs.find? bad).map (fun e => loadValues 6 (clusterOf e.1) n)
  let inSt := fun (n : Nat) (bad : Station → Bool) =>
    (g.stations.find? bad).map (fun t => loadDetail 6 t.id 0 0 0 n)
  let inPl := fun (n : Nat) (bad : Station → Bool) =>
    (g.stations.find? bad).map (fun t => loadValues 6 t.place n)
  let inEd := fun (n : Nat) (bad : Edge → Bool) =>
    (g.edges.find? bad).map (fun e => loadDetail 6 e.producer 0 0 0 n)
  (inEd 0 g.edgeBad) <|>
  (inSt 1 (fun t => t.inCore && 8 < (g.programsOf t.place).length)) <|>
  (inCs 2 (fun e => e.2.masksBad)) <|>
  (inSt 3 g.rangeBad) <|>
  (inSt 12 g.overlapBad) <|>
  (inCs 4 (fun e => e.2.bindBad)) <|>
  (inEd 4 Edge.indexBad) <|>
  (inPl 5 (fun t => !t.inCore && 4 < (g.steersAt t.place).length)) <|>
  (inPl 6 (fun t => !t.inCore && 124 < g.holding t.place)) <|>
  (inKs 6 (fun e => !(g.steersAt e.1).isEmpty && 14 < e.2.ways)) <|>
  (inKs 7 (fun e => 4096 < e.2.slots.length)) <|>
  (inEd 8 Edge.depthBad) <|>
  (inKs 8 (fun e => (List.range 32).any e.2.queuesBad)) <|>
  (inKs 14 (fun e => e.2.unitsBad)) <|>
  (inKs 10 (fun e => 1024 < e.2.wordTuples)) <|>
  (inKs 11 (fun e => (List.range 32).any (fun i => spansBad (storeSpans e.2 i (s1.core (e.1 * 32 + i)))))) <|>
  (inEd 13 (s1.advisoryBad g)) <|>
  (inSt 9 g.waysBad)

/-- The programs of the variants that are not in force: each cluster's stations as its variant would place them keep to R757 as
well, since a running graph's variant is installed without a further check (R253). -/
def Package.checkVariants (g : Package) (alts : SMap Nat) : Option (List Byte) :=
  firstBad (g.variants.filter (fun v => !alts.has v.cluster)) (fun v =>
    let h := g.swap v
    let mine := h.stations.filter (fun t => t.inCore && t.cluster = v.cluster)
    ((mine.find? h.rangeBad).map (fun t => loadDetail 6 t.id 0 0 0 3)) <|>
      ((mine.find? h.overlapBad).map (fun t => loadDetail 6 t.id 0 0 0 12)))

/-! ### Steps 7 and 8: cycles and reconvergence (R247, R248) -/

/-- An arc: an edge and one of its consumers. -/
abbrev Arc := Edge × Consumer

/-- The arcs of the edges of some classes. -/
def Package.arcs (g : Package) (cls : List Nat) : List Arc :=
  (g.edges.filter (fun e => cls.contains e.cls)).flatMap (fun e => e.consumers.map (fun c => (e, c)))

/-- Stations without an arc from a remaining station are taken, round by round (R247): those that remain, and the
order in which the others were taken. -/
def peel (arcs : List Arc) : Nat → List Nat → List Nat → List Nat × List Nat
  | 0, rest, order => (rest, order)
  | n + 1, rest, order =>
    let free := rest.filter (fun v => !arcs.any (fun a => a.2.station = v && rest.contains a.1.producer))
    if free.isEmpty then (rest, order)
    else peel arcs n (rest.filter (fun v => !free.contains v)) (order ++ free)

def Package.order (g : Package) (arcs : List Arc) : List Nat × List Nat :=
  peel arcs g.stations.length (g.stations.map (·.id)) []

/-- The stations that arcs lead to from a list of stations. -/
def reachable (arcs : List Arc) : Nat → List Nat → List Nat
  | 0, l => l
  | n + 1, l =>
    let more := (arcs.filter (fun a => l.contains a.1.producer && !l.contains a.2.station)).map (·.2.station)
    if more.isEmpty then l else reachable arcs n (l ++ more.eraseDups)

/-- A cycle of one of the two graphs (0 word channels, 1 tiles): an arc whose end leads back to its start (R243, R247). -/
def Package.cycle (g : Package) (cls : List Nat) (which : Nat) : Option (List Byte) :=
  let arcs := g.arcs cls
  let rest := (g.order arcs).1
  (arcs.find? (fun a => rest.contains a.1.producer &&
      (reachable arcs g.stations.length [a.2.station]).contains a.1.producer)).map (fun a =>
    loadDetail 7 a.1.producer a.2.station a.1.id 0 which)

/-- What the stations reached from a fork know: the longest path, the least `cap`, and the first edge of the path
of least `cap`. -/
abbrev Reached := SMap (Nat × Nat × Nat)

/-- One station in topological order (R248): what it knows, and the refusal at a join. -/
def Package.reach (g : Package) (arcs : List Arc) (f : Nat) (m : Reached) (v : Nat) :
    Reached × Option (List Byte) :=
  let ins := arcs.filterMap (fun a =>
    if a.2.station = v then
      (m.look a.1.producer).map (fun q =>
        let u := a.1.producer
        let w := if u = f then 0 else ((g.stations.find? (fun t => t.id = u)).map (·.latBound)).getD 0
        (q.1 + w + a.2.latency, q.2.1 + w + a.2.latency + a.1.depth * a.1.interval, if u = f then a.1.id else q.2.2))
    else none)
  match ins with
  | [] => (m, none)
  | h :: t =>
    let long := t.foldl (fun n q => max n q.1) h.1
    let best := t.foldl (fun (b : Nat × Nat × Nat) q => if q.2.1 < b.2.1 then q else b) h
    (m.put v (long, best.2.1, best.2.2),
     if !t.isEmpty ∧ best.2.1 < long then some (loadDetail 8 f v best.2.2 0 (long - best.2.1)) else none)

/-- Reconvergence from one fork (R248). -/
def Package.fork (g : Package) (arcs : List Arc) (f : Nat) : Reached → List Nat → Option (List Byte)
  | _, [] => none
  | m, v :: r =>
    if v = f then g.fork arcs f (m.put f (0, 0, 0)) r
    else
      match g.reach arcs f m v with
      | (_, some d) => some d
      | (m', none) => g.fork arcs f m' r

/-- Steps 7 and 8 of R241. -/
def Package.checkGraph (g : Package) : Option (List Byte) :=
  let arcs := g.arcs [0, 2, 3]
  (g.cycle [2, 3] 0) <|> (g.cycle [0, 2, 3] 1) <|>
  firstBad g.stations (fun t =>
    if 2 ≤ arcs.countP (fun a => a.1.producer = t.id) then g.fork arcs t.id [] (g.order arcs).2 else none)

/-! ### Step 9: the slot tables (R249, R755, R273, R274, R226, R227) -/

/-- The crossing that an entry uses by a port, if any (R755). -/
def SlotEntry.crosses (e : SlotEntry) (k p : Nat) : Option (Nat × Nat) :=
  if e.valid ∧ (e.out p ∨ e.inPort = p) then crossingOf k p else none

/-- The check of one crossing (R249): the detail of the mismatch. A crossing trained at a latency other than 6 refuses every
graph that uses it (R314), whatever latency section 6 names (DEDUCED, log entry 180). -/
def State.crossingBad (s : State) (g : Package) (f edge i : Nat) : Option (List Byte) :=
  let x := s.stitchByte f edge i
  let y := match fieldAcross f edge with | some n => s.stitchByte n ((edge + 2) % 4) i | none => 0
  let lat := g.stitch.find? (fun h => h.field = f && h.edge = edge && h.idx = i)
  let shown := match lat with | some h => h.latency | none => 0xFF
  if lat.isNone ∨ x ≠ 6 ∨ x ≠ y ∨ shown ≠ x then
    some (loadValues 9 (f * 65536 + edge * 256 + i) (shown * 256 + x))
  else none

/-- An entry that leads to another partition (R51). -/
def State.leaves (s : State) (p k : Nat) (e : SlotEntry) : Bool :=
  (List.range 4).any (fun q => (e.out q || e.inPort = q) &&
    match neighbour k q with
    | some n => s.partOfCluster n ≠ p
    | none => true)

/-- An entry that receives across a link has a sending entry the link's latency before it, modulo the frame (R249,
R274). -/
def State.unsent (s : State) (k : Nat) (e : SlotEntry) : Bool :=
  e.inPort < 4 &&
    match neighbour k e.inPort with
    | none => true
    | some n =>
      let frame := (s.cluster k).frameLen
      !((s.cluster n).slots.any (fun (o : Nat × SlotEntry) =>
        o.2.valid && o.2.out (facing e.inPort) && o.2.lane = e.lane && o.2.check = e.check &&
          (o.2.cycle + s.linkLatency k e.inPort) % frame = e.cycle % frame))

/-- The turns in which an entry applies, first and last (R260), of a router with `n` turns. -/
def turnSpan (sel n : Nat) : Option (Nat × Nat) :=
  match sel with
  | 0 => if 1 ≤ n then some (0, n - 1) else none
  | 1 => if 2 ≤ n then some (1, n - 1) else none
  | 2 => if 2 ≤ n then some (0, n - 2) else none
  | 3 => some (0, 0)
  | 4 => if 1 ≤ n then some (n - 1, n - 1) else none
  | 5 => some (n, n)
  | _ => none

/-- Whether some occurrence of `b` starts more than `lo` and less than `hi` cycles after one of `a`, where `b`'s frame is a
number of frames after `a`'s that `ok` admits. -/
def SlotEntry.meets (a b : SlotEntry) (frame : Nat) (lo hi : Int) (ok : Int → Bool) : Bool :=
  (List.range (a.rep + 1)).any (fun m => (List.range (b.rep + 1)).any (fun n =>
    let d : Int := (b.cycle + n * b.stride : Nat) - (a.cycle + m * a.stride : Nat)
    let q : Int := (lo - d) / (frame : Int)
    (List.range ((hi - lo).toNat / (max frame 1) + 3)).any (fun j =>
      let t : Int := q + j
      lo < t * frame + d && t * frame + d < hi && ok t)))

/-- Whether two entries share a source (R270). -/
def SlotEntry.sameSource (a b : SlotEntry) : Bool :=
  a.srcKind = b.srcKind && a.srcUnit = b.srcUnit && a.srcQ = b.srcQ

/-- Whether two entries of one input port form a fan-out (R273). -/
def SlotEntry.fan (a b : SlotEntry) : Bool :=
  a.cycle = b.cycle && a.rep = b.rep && a.stride = b.stride && a.len = b.len && a.retries = b.retries &&
    a.retryStride = b.retryStride && a.check = b.check && (a.inPort ≠ 4 || a.sameSource b)

/-- The cycles that an occurrence reserves, from its primary slot to the end of its last retry (R271). -/
def SlotEntry.span (e : SlotEntry) : Nat := e.retries * e.retryStride + e.len

/-- Whether two entries' reservations overlap: they are taken modulo F, in whatever turns the entries apply (R271, R274). -/
def Cluster.overlap (x : Cluster) (a b : SlotEntry) : Bool :=
  a.meets b x.frameLen (-(b.span : Int)) a.span (fun _ => true)

/-- A conflict of two entries (R274). -/
def Cluster.conflict (x : Cluster) (a b : SlotEntry) : Bool :=
  a.lane = b.lane &&
    ((List.range 4).any (fun p => a.out p && b.out p) ||
      (a.out 4 && b.out 4 && a.sinkKind ≠ 0 && a.sinkKind = b.sinkKind && a.sinkUnit = b.sinkUnit && a.sinkQ = b.sinkQ) ||
      (a.inPort = b.inPort && (a.inPort = 4 || !a.fan b))) && x.overlap a b

/-- A retry that does not end before the next primary slot of its output (R227), in the turns in which both entries apply. -/
def Cluster.lateRetry (x : Cluster) (a b : SlotEntry) : Bool :=
  a.inPort = 4 && b.inPort = 4 && a.lane = b.lane && a.sameSource b &&
    match turnSpan a.turnSel x.turns, turnSpan b.turnSel x.turns with
    | some ta, some tb =>
      a.meets b x.frameLen 0 a.span (fun t => (tb.1 : Int) - ta.2 ≤ t && t ≤ (tb.2 : Int) - ta.1)
    | _, _ => false

/-- The entries of a router that conflict: the first with an earlier one, or by R227 with any. -/
def Cluster.clash (x : Cluster) : List SlotEntry → List SlotEntry → Option SlotEntry
  | _, [] => none
  | seen, e :: r =>
    if x.lateRetry e e || seen.any (fun a => x.conflict a e || x.lateRetry a e || x.lateRetry e a) then some e
    else x.clash (seen ++ [e]) r

/-- Step 9 of R241 on the installed slot tables of a partition; none may route through a cluster that failed in service
(R35; the code 0x0A is a DESIGN CHOICE, log entry 179). -/
def State.checkSlots (s : State) (p : Nat) (g : Package) : Option (List Byte) :=
  let ks := s.clusters.filter (fun (e : Nat × Cluster) => s.partOfCluster e.1 = p)
  let live := fun (x : Cluster) => (x.slots.map (·.2)).filter SlotEntry.valid
  firstBad ks (fun e =>
    if s.clusterState e.1 = 4 then (live e.2).head?.map (fun y => loadValues 0xA e.1 y.cycle) else none) <|>
  firstBad ks (fun e => firstBad (live e.2) (fun y => (List.range 4).findSome? (fun q =>
    match y.crosses e.1 q with
    | some h => s.crossingBad g (fieldOf e.1) h.1 h.2
    | none => none))) <|>
  firstBad ks (fun e => ((live e.2).find? (fun y => s.leaves p e.1 y || s.unsent e.1 y)).map (fun y =>
    loadValues 0xA e.1 y.cycle)) <|>
  firstBad ks (fun e => (e.2.clash [] (live e.2)).map (fun y => loadValues 0xA e.1 y.cycle))

end Sys2Proof.Machine
end

