-- ==== Sys2Proof/Machine/Clocks.lean ====
section
/-! DEFINITION. Clocks, wafer time and sample marks (R553 to R588), and the time receiver of the Ethernet ports
(R483, R484). -/

namespace Sys2Proof.Machine

/-! ### The reference (R555 to R561) -/

def State.refLost (s : State) : Bool := s.num o0RefSource = 3

/-- A port can give the reference: while it is up (R556), or during a coast while its receivers stay powered, on the lanes and at the
rate of its last configuration (R561). -/
def State.portGives (s : State) (n : Nat) : Bool :=
  n < 24 && (if s.refLost then s.num (o4PortMode n) ≠ 3 && s.num (o1RegionState (portRegion n)) ≠ 3 && (s.port n).lastCfg.isSome else !s.portDown n)

/-- A source is valid (R556, R561): a port source that was found so and can give the reference, or the on-module oscillator. -/
def State.sourceValid (s : State) (r : RefSource) : Bool :=
  match r with
  | .primary => s.clocks.validPrimary && s.portGives (s.num o0RefPort)
  | .alternate => s.clocks.validAlt && s.portGives (s.num o0RefPortAlt)
  | .onModule => !s.clocks.oscFail

/-- The code of a source in `REF_SOURCE`, and its place in the order of R555. -/
def refCode : RefSource → Nat
  | .primary => 1
  | .alternate => 2
  | .onModule => 0
def refRank : RefSource → Nat
  | .primary => 0
  | .alternate => 1
  | .onModule => 2

/-- The rank of the source in use; 3 when the reference is lost. -/
def State.refInUse (s : State) : Nat :=
  match s.num o0RefSource with
  | 1 => 0
  | 2 => 1
  | 0 => 2
  | _ => 3

/-- Notes whether a source is valid. -/
def State.markSource (s : State) (r : RefSource) (ok : Bool) : State :=
  match r with
  | .primary => { s with clocks := { s.clocks with validPrimary := ok } }
  | .alternate => { s with clocks := { s.clocks with validAlt := ok } }
  | .onModule => { s with clocks := { s.clocks with oscFail := !ok } }

/-- The reference changes to a source. -/
def State.useSource (s : State) (r : RefSource) : State := (s.setNum o0RefSource (refCode r)).addNum o0RefSwitches 1

/-- The first valid source (R555). -/
def State.firstSource (s : State) : Option RefSource :=
  [RefSource.primary, .alternate, .onModule].find? s.sourceValid

/-- A source is invalid: if it is in use, the reference moves to the first valid one (R555). -/
def State.loseSource (s : State) (src : RefSource) : State :=
  let s1 := s.markSource src false
  if s1.refInUse = refRank src then
    match s1.firstSource with
    | some r => s1.useSource r
    | none => s1
  else s1

/-- A source becomes invalid (R556). With none valid, the reference is lost by `REFERENCE_LOST`. -/
def execRefSourceInvalid (src : RefSource) (s : State) : Out := .next (s.loseSource src)

/-- A source has stayed valid for `held` seconds (R557): an earlier one than that in use is returned to after
`REF_REVERT_S`. -/
def execRefRevert (src : RefSource) (held : Nat) (s : State) : Out :=
  .next (
    let s0 := s.markSource src true
    let s1 := if s0.sourceValid src then s0 else s
    if s1.sourceValid src && !s1.refLost && refRank src < s1.refInUse && s1.num o0RefRevertS ≠ 0 &&
        s1.num o0RefRevertS ≤ held then s1.useSource src
    else s1)


/-- A port goes down (R477): streams that are loading or active are held (R507), and those of a running period
at its end. -/
def State.dropPort (s0 : State) (n : Nat) : State :=
  let s := s0.unmark n
  let s1 := (((s.setNum (o4PortState n) 3).setNum (o4PortRate n) 0).setNum (o4PortConfig n) 0).setNum (o4LanesUp n) 0
  (s1.modPort n (fun x => { x with train := none, asked := false })).applyPath n

/-- No source is valid (R559): the loops coast, the ports go down, and wafer time is uncertain. -/
def execReferenceLost (s : State) : Out :=
  .next (
    if s.firstSource.isNone && !s.refLost then
      let s1 := (s.setNum o0RefSource 3).setNum o0TimeState 4
      let s2 := (List.range 24).foldl (fun s n =>
        if s.num (o4PortState n) = 1 ∨ s.num (o4PortState n) = 2 then
          (s.dropPort n).modPort n (fun x => { x with dark := true })
        else s) s1
      s2.post 96 0 10 0 6 3 0 0xFF 0
    else s)

/-- The MSC's comparison of the on-module oscillator and the smoulder oscillator (R556, R573): apart, the on-module oscillator is
no valid source, and the smoulder clock is derived from it. -/
def execOscillatorCheck (ppm : Int) (s : State) : Out :=
  .next (
    if 200 < ppm ∨ ppm < -200 then
      let s1 := { s with clocks := { s.clocks with backup := true } }.loseSource .onModule
      if s.clocks.backup then s1 else s1.post 96 0 10 0 6 4 0 0xFF 0
    else { s with clocks := { s.clocks with oscFail := false } })

/-! ### Dividers (R562 to R565) -/

/-- The divider of a limit in MHz: the smallest D with 153,600 / D at or below it, from 64 to 256 (R564). -/
def dividerFor (mhz : Nat) : Nat := if mhz = 0 then 256 else min 256 (max 64 (ceilDiv 153600 mhz))

/-- The fabric target (R564, R559, R614): the ceiling, F_LIMIT, and the module-wide thermal limit. -/
def State.fabricTarget (s : State) : Nat :=
  if s.refLost then 256
  else
    let hot := if s.power.hotModule then 128 else 64
    max (dividerFor (s.num o0FabricMhzCeiling)) (max s.power.limitD hot)

/-- How far a stack or control divider stands above its set point when it coasts (R559): its frequency halves.
The set points' dividers are the model's (64; DESIGN CHOICE). -/
def coastD : Nat := 64

/-- One step of a divider. -/
def stepTo (d target : Nat) : Nat := if d < target then d + 1 else if target < d then d - 1 else d

/-- The wafer time of a fabric cycle of a clock root's island is known: starts are converted from it on (R565). -/
def State.setTie (s : State) (root : Nat) (t : Nat × Nat) : State :=
  { s with clocks := { s.clocks with ties := s.clocks.ties.put root t } }

/-- The conversion of starts goes on from fabric cycle `n`, at which the divider steps (R565). -/
def State.retie (s : State) (root n : Nat) : State :=
  let t := s.clocks.ties.get (0, 0) root
  s.setTie root (n, t.2 + (n - t.1) * (10 * (s.clk root).fabricD))

/-- A ramp at fabric cycle `n` moves the starts that are converted and not yet reached in wafer time (R565). -/
def State.moveStarts (s : State) (root n : Nat) : State :=
  (List.range 12).foldl (fun s p =>
    if s.partRoot p = root then
      s.modPeriod p (fun q => if n < q.start0 then { q with began := s.nsAt root q.start0 } else q)
    else s) s

/-- A divider moves one step (R562, R563): `ix` is 84 times the domain (0 fabric, 1 DRAM interface, 2 control)
plus the field, for the fabric a clock root, whose island moves at fabric count `n`. -/
def execDividerStep (ix : Nat) (n : BitVec 64) (s : State) : Out :=
  onField (if ix < 252 then ix % 84 else ix) s fun s =>
    let f := ix % 84
    if ix < 84 then
      if (s.clk f).root then
        let t := s.fabricTarget
        let s1 := (s.atFabric (f * 96) n.toNat).retie f n.toNat
        let up := t < (s.clk f).fabricD
        let s2 := ((islandFields (s.island (f % 12))).foldl (fun s g =>
          s.modClk g (fun x => { x with target := t, fabricD := stepTo x.fabricD t })) s1).moveStarts f n.toNat
        { s2 with power := { s2.power with upStep := s2.power.upStep || up } }
      else s
    else
      let t := if s.refLost then coastD else 0
      if ix < 168 then s.modClk f (fun x => { x with dramD := stepTo x.dramD t })
      else if ix < 252 then s.modClk f (fun x => { x with ctlD := stepTo x.ctlD t })
      else s

/-- A ramp is in progress in a field (R586). -/
def State.ramping (s : State) (f : Nat) : Bool :=
  let x := s.clk f
  let t := if s.refLost then coastD else 0
  x.fabricD ≠ x.target || (x.root && x.target ≠ s.fabricTarget) || x.dramD ≠ t || x.ctlD ≠ t

/-- A port is in an island, whose master counter it can discipline (R577). -/
def portOf (i : Nat × Nat) (n : Nat) : Bool := n < 24 && inIsland i (n % 12)
def State.portHere (s : State) (n : Nat) : Bool := portOf s.mainIsland n

/-- `TIME_STATE` as an island sees it (R577): holdover where no port, or one of another island, is to discipline wafer time. -/
def State.timeStateIn (s : State) (i : Nat × Nat) : Nat :=
  let t := s.num o0TimeState
  if (t = 1 ∨ t = 2) ∧ portOf i (s.num o0PtpPort) = false then 3 else t
def State.timeState (s : State) : Nat := s.timeStateIn s.mainIsland

/-- `CLK_STATUS` (R586). -/
def State.clkStatus (s : State) (f : Nat) : Nat :=
  let x := s.clk f
  (x.fabricD % 512) * 2 ^ 23 + (x.parent % 8) * 2 ^ 20 + b2n x.root * 2 ^ 15 + b2n x.inputLost * 2 ^ 14 +
    b2n x.slip * 2 ^ 13 + b2n (s.ramping f) * 2 ^ 12 + (s.num o0RefSource % 4) * 2 ^ 10 + b2n s.refLost * 2 ^ 9 +
    b2n s.clocks.oscFail * 2 ^ 8 + b2n s.clocks.backup * 2 ^ 7 + (s.timeStateIn (s.island (f % 12)) % 8) * 16

/-- `CLOCK_FLAGS` (R588). -/
def State.clockFlags (s : State) : Nat :=
  b2n s.refLost + 2 * b2n s.clocks.oscFail + 4 * b2n s.clocks.backup +
    8 * b2n (s.clocks.units.any (fun e => e.2.inputLost)) + 16 * b2n (s.clocks.units.any (fun e => e.2.slip)) +
    32 * b2n (s.clocks.units.any (fun e => s.ramping e.1))

/-- `FABRIC_KHZ` (R588): of the root of the supervisor's island. -/
def State.fabricKhz (s : State) : Nat :=
  let d := (s.clk (rootOf s.mainIsland)).fabricD
  153600000 / (if d = 0 then 256 else d)

/-! ### Markers and the forwarding tree (R566 to R570, R576, R578) -/

/-- The root sends a marker with its count and its wafer time (R567, R576) at fabric count `n`: what they say together is
what starts are converted from (R565). -/
def State.sendMarker (s : State) (f n : Nat) : State :=
  let t := s.atFabric (f * 96) n
  let w := max (t.localTime f) (t.nsAt f n)
  let u := (if inIsland s.mainIsland (f % 12) then t.atTime w else t).setTie f (n, 1536 * w)
  { u with clocks := { u.clocks with markers := u.clocks.markers.put f (n, w) } }

/-- A marker leaves its root (R567). -/
def execMarkerSend (f : Nat) (n : BitVec 64) (s : State) : Out :=
  onField f s fun s => when' (s.clk f).root s (s.sendMarker f n.toNat)

/-- The starts of a partition move with a step of wafer time (R578): those of the running period and the next one. -/
def PartSt.shift (x : PartSt) (move : Nat → Nat) : PartSt :=
  { x with
    planned := if x.planned = 0 then 0 else move x.planned
    period := x.period.map (fun q => { q with start := move q.start, deadline := move q.deadline, began := move q.began }) }

/-- Wafer time steps in the island of the supervisor (R578): its fields' counters, and every start of its partitions. -/
def State.stepTime (s : State) (d : Int) : State :=
  let move := fun (t : Nat) => ((t : Int) + d).toNat
  let i := s.mainIsland
  let s1 := { s with
    wt := move s.wt % 2 ^ 64
    clocks := { s.clocks with
      stepPending := none
      ties := s.clocks.ties.mod (0, 0) (rootOf i) (fun t => (t.1, ((t.2 : Int) + 1536 * d).toNat)) }
    parts := s.parts.map (fun (e : Nat × PartSt) => (e.1, if s.partRoot e.1 = rootOf i then e.2.shift move else e.2)) }
  (((List.range 84).filter (fun f => !inIsland i (f % 12))).foldl (fun s f =>
    s.modClk f (fun x => { x with wtOff := x.wtOff - d })) s1).addNum o0TimeSteps 1

/-- How far a field's count stands from that of the root (R259, R567). -/
def State.setOffset (s : State) (f : Nat) (d : Int) : State :=
  { s with fields := s.fields.mod FieldSt.reset f (fun x => { x with fabOff := d }) }

/-- A field at depth `h` slews its wafer-time counter to what a marker of its root says, corrected by the 8h cycles that it took
(R576): the counter of the supervisor's island is that of the MSC. -/
def State.slewTo (s : State) (f wt h : Nat) : State :=
  let w := wt + 80 * h * (s.clk f).fabricD / 1536
  if inIsland s.mainIsland (f % 12) then (s.atTime (max s.wt w)).modClk f (fun x => { x with wtOff := 0 })
  else s.modClk f (fun x => { x with wtOff := (w : Int) - s.wt })

/-- The marker that the root of a field's island sent last reaches the field, whose own count is `own` (R567, R568, R576, R578): the
root's count then stands 8 cycles for each hop further than the marker says. A field that has slipped loads its count; one that finds
another count has slipped. -/
def execMarker (f : Nat) (count wt own : BitVec 64) (s : State) : Out :=
  onField f s fun s =>
    let x := s.clk f
    let root := s.treeRoot f
    if 7 = x.parent ∨ s.clocks.markers.look root ≠ some (count.toNat, wt.toNat) then s
    else
      let due := (count.toNat + 8 * x.depth) % 2 ^ 64
      let s0 := (s.atFabric (root * 96) due).slewTo f wt.toNat x.depth
      let s1 := match s0.clocks.stepPending with
        | some d => if inIsland s0.mainIsland (f % 12) then s0.stepTime d else s0
        | none => s0
      let p := s1.partOfRegion (f % 12)
      if x.slip then
        ((s1.setOffset f 0).modClk f (fun x => { x with slip := false })).modPart p (fun y =>
          { y with late := y.late.filter (· ≠ f) })
      else if due = own.toNat then s1
      else
        ((((s1.setOffset f ((own.toNat : Int) - due)).modClk f (fun x => { x with slip := true, slips := x.slips + 1 })).modPart p
          (fun y => { y with late := addOnce y.late f })).pushCause p 8).postField f 8 6 1 1 0

/-- A field loses its forwarded input (R569): `working` are the fields whose clock units work. -/
def execForwardedInputLost (f : Nat) (working : List Nat) (s : State) : Out :=
  onField f s fun s =>
    let s1 := (s.modClk f (fun x => { x with inputLost := true })).postField f 8 6 2 0 0
    State.rebuild (fun g => s1.hasSupply g && working.contains g) 13 s1

/-! ### Frequency counters (R574, R587) -/

/-- A frequency count starts (R574): `FCOUNT_CTRL` takes the clocks; ignored while one is busy. -/
def State.writeFreq (s : State) (f v : Nat) : State :=
  let x := s.clk f
  if x.busy then s
  else
    s.modClk f (fun x => { x with
      fcCtrl := BitVec.ofNat 32 (v / 2 ^ 20 % 256 * 2 ^ 20), gate := s.num (o2FreqGate f), busy := true
      done := false, lostFc := false, result := 0 })

/-- M of the mark of a set that pends for a field (R585): all ones for none. -/
def State.markAt (s : State) (which : Bool) (f : Nat) : Nat :=
  let l := if which then s.clocks.marks1.filter (fun m => m.part = s.partOfRegion (f % 12)) else s.clocks.marks0
  ((l.head?).map (·.m)).getD (2 ^ 64 - 1)

/-- The 256 bytes of the field clock block (R585). -/
def State.clockBlock (s : State) (f : Nat) : List Byte :=
  let x := s.clk f
  leBytes 4 (s.clkStatus f) ++ leBytes 4 x.target ++ leBytes 8 (s.fabricOf f) ++ leBytes 8 (s.localTime f) ++
    leBytes 4 s.wtFrac ++ leBytes 4 (s.num o0PtpRatePpb) ++ leBytes 8 (s.markAt false f) ++ leBytes 8 (s.markAt true f) ++
    leBytes 4 x.fcCtrl.toNat ++ leBytes 4 (s.num (o2FreqGate f)) ++
    leBytes 4 (4 * b2n x.lostFc + 2 * b2n x.done + b2n x.busy) ++ leBytes 4 0 ++ leBytes 8 x.result ++ leBytes 8 x.slips ++
    leBytes 8 x.reparents ++ List.replicate 168 0#8

/-- A register of the clock block, by its offset and size. -/
def State.clockReg (s : State) (f off n : Nat) : Nat := leAt (s.clockBlock f) off n

/-- A clock that a field's counter can take (R574): the recovered clock of a port only where the field has one. -/
def clockCode (f c : Nat) : Bool := c < 8 && (c ≠ 6 || f < 12 || 72 ≤ f)

/-- A write of `FREQ_MEASURE` (R535, R574, R588): the state and the status. -/
def State.writeFreqObj (s : State) (f v : Nat) : State × Nat :=
  if !(clockCode f (v / 2 ^ 24 % 16) && clockCode f (v / 2 ^ 20 % 16)) then (s, 7)
  else if (s.clk f).busy then (s, 9) else (s.writeFreq f v, 0)

/-- A write of `FREQ_MEASURE`. -/
def execFreqMeasure (f : Nat) (v : BitVec 32) (s : State) : Out := onField f s fun s => (s.writeFreqObj f v.toNat).1

/-- A count ends after its gate (R574). -/
def execFrequencyCountDone (f : Nat) (edges : BitVec 64) (s : State) : Out :=
  onField f s fun s =>
    when' (s.clk f).busy s (s.modClk f (fun x => { x with busy := false, done := true, result := edges.toNat }))

/-- A clock shows no edge for 1 ms (R574). -/
def execFrequencyCountLost (f : Nat) (s : State) : Out :=
  onField f s fun s =>
    when' (s.clk f).busy s (s.modClk f (fun x => { x with busy := false, lostFc := true, result := 0 }))

/-! ### The time receiver (R483, R577 to R579) -/

def State.modPtp (s : State) (g : Ptp → Ptp) : State :=
  { s with clocks := { s.clocks with ptp := g s.clocks.ptp } }

/-- What the default algorithm compares, in order (R483; PRESUMED: the data set comparison of IEEE 1588). -/
def announceRank (a : AnnounceMsg) : List Nat :=
  [a.priority1.toNat, a.clockClass.toNat, a.accuracy.toNat, a.variance.toNat, a.priority2.toNat,
    a.grandmaster.toNat, a.steps.toNat, a.source.toNat]

def lexLt : List Nat → List Nat → Bool
  | x :: xs, y :: ys => x < y || (x = y && lexLt xs ys)
  | [], _ :: _ => true
  | _, [] => false

/-- The better of two. -/
def better (a b : Heard) : Heard := if lexLt (announceRank b.msg) (announceRank a.msg) then b else a

/-- The port is that of the time receiver, and in the island of the supervisor (R577). -/
def State.ptpHere (s : State) (n : Nat) : Bool := s.num o0PtpPort = n && s.portHere n

/-- A port takes a PTP message of a domain (R483). -/
def State.takesPtp (s : State) (n domain : Nat) : Bool :=
  s.num (o4PtpEnable n) = 1 && s.num (o4PtpDomain n) = domain && s.num (o4PortState n) = 2

/-- The selected transmitter after an Announce: the best that `PTP_PORT` has heard. -/
def State.choose (s : State) : State :=
  let p := s.clocks.ptp
  let l := p.heard.filter (fun h => s.num o0PtpPort = h.port && s.num (o4PtpDomain h.port) = h.msg.domain.toNat)
  match l with
  | [] => s
  | h :: r =>
    let best := r.foldl better h
    let same := match p.chosen with
      | some c => c.port = best.port && c.msg.source = best.msg.source
      | none => false
    let s1 := s.modPtp (fun p => if same then { p with chosen := some best }
      else { p with chosen := some best, first := true, twoStep := none, syncAt := none, delay := none, lockRun := 0 })
    (s1.setNum o0TaiUtcOffset best.msg.taiUtc.toNat).setBlob o0GmIdentity (beBytes 8 best.msg.source.toNat)

/-- An Announce (R483, R577, R579). -/
def execAnnounce (n : Nat) (a : AnnounceMsg) (s : State) : Out :=
  onPort n s fun s =>
    if s.takesPtp n a.domain.toNat then
      (s.modPtp (fun p => { p with
        heard := p.heard.filter (fun h => !(h.port = n && h.msg.source = a.source)) ++ [⟨n, a⟩] })).choose
    else s

/-- A measured offset disciplines wafer time (R577): a step, or a slew whose rate the spec leaves open within
±50 ppm. -/
def State.discipline (s : State) (offset : Int) : State :=
  let p := s.clocks.ptp
  let s0 := s.setNum o0PtpOffsetNs (ofSInt 32 offset)
  if p.first ∨ 1000000 < offset ∨ offset < -1000000 then
    ({ s0 with clocks := { s0.clocks with stepPending := some (-offset) } }.modPtp (fun p =>
      { p with first := false, lockRun := 0 })).setNum o0TimeState 1
  else
    let near := -100 < offset && offset < 100
    let run := if near then min 16 (p.lockRun + 1) else 0
    let d := s0.draw
    let rate := ((Config.freeNat d.1 % 100001 : Nat) : Int) - 50000
    ((d.2.modPtp (fun p => { p with lockRun := run })).setNum o0PtpRatePpb (ofSInt 32 rate)).setNum o0TimeState
      (if run = 16 then 2 else 1)

/-- A Sync whose origin is known: sent at `t1`, received at `t2`. -/
def State.syncPair (s : State) (t1 t2 : Nat) : State :=
  let s1 := s.modPtp (fun p => { p with syncAt := some (t1, t2), twoStep := none })
  s1.discipline ((t2 : Int) - t1 - s.clocks.ptp.delay.getD 0)

/-- A message is from the selected transmitter of `PTP_PORT`, while the reference is there (R577). -/
def State.fromChosen (s : State) (n domain source : Nat) : Bool :=
  s.takesPtp n domain && s.ptpHere n && !s.refLost &&
    (match s.clocks.ptp.chosen with
     | some h => h.port = n && h.msg.source.toNat = source
     | none => false)

/-- A Sync (R483, R577). -/
def execSync (n : Nat) (seq : BitVec 16) (domain : BitVec 8) (source : BitVec 64) (twoStep : Bool)
    (origin at_ : BitVec 64) (s : State) : Out :=
  onPort n s fun s =>
    if s.fromChosen n domain.toNat source.toNat then
      let s0 := s.atTime at_.toNat
      if twoStep then s0.modPtp (fun p => { p with twoStep := some (seq.toNat, at_.toNat) })
      else s0.syncPair origin.toNat at_.toNat
    else s

/-- A Follow_Up (R483). -/
def execFollowUp (n : Nat) (seq : BitVec 16) (domain : BitVec 8) (source origin : BitVec 64) (s : State) : Out :=
  onPort n s fun s =>
    match s.clocks.ptp.twoStep with
    | some (q, t2) =>
      when' (s.fromChosen n domain.toNat source.toNat && q = seq.toNat) s (s.syncPair origin.toNat t2)
    | none => s

/-- Where a PTP message of a port goes (R482, R483), by `PTP_TRANSPORT`: the MAC address, and for the UDP transports the event
port 319 (PRESUMED: the group addresses of IEEE 1588, log entry 188). -/
def State.ptpTo (s : State) (n : Nat) (body : List Byte) : Nat × Option Dgram :=
  let udp := fun (mac : Nat) (v6 : Bool) (ip : Nat) => (mac, some (s.dgram n mac none v6 ip (some (319, 319)) 0 body))
  match s.num (o4PtpTransport n) with
  | 1 => udp 0x01005E000181 false 0xE0000181
  | 2 => udp 0x333300000181 true (0xFF0E * 2 ^ 112 + 0x181)
  | _ => (0x011B19000000, none)

/-- The clock identity of a port (PRESUMED: IEEE 1588, the EUI-64 of its MAC address; log entry 188). -/
def clockIdentity (mac : Nat) : Nat := mac / 2 ^ 24 * 2 ^ 40 + 0xFFFE * 2 ^ 24 + mac % 2 ^ 24

/-- A Delay_Req (R483; PRESUMED: the layout of IEEE 1588-2019, log entry 188): header and origin timestamp, 44 bytes. -/
def delayReqBytes (domain mac port seq : Nat) : List Byte :=
  [0x01#8, 0x12#8] ++ beBytes 2 44 ++ beBytes 1 domain ++ [0#8] ++ beBytes 2 0 ++ beBytes 8 0 ++ beBytes 4 0 ++
    beBytes 8 (clockIdentity mac) ++ beBytes 2 (port + 1) ++ beBytes 2 seq ++ [0x01#8, 0x7F#8] ++ beBytes 10 0

/-- A Delay_Req leaves (R483): its sequence number counts from the last one. -/
def execDelayReqSend (n : Nat) (at_ : BitVec 64) (s : State) : Out :=
  onPort n s fun s =>
    if s.num (o4PtpEnable n) = 1 && s.num (o4PortState n) = 2 && s.ptpHere n && s.clocks.ptp.syncAt.isSome then
      let seq := match s.clocks.ptp.delayReq with
        | some (q, _, _) => (q + 1) % 65536
        | none => 0
      let body := delayReqBytes (s.num (o4PtpDomain n)) (s.portMac n) n seq
      let to_ := s.ptpTo n body
      let t := (s.atTime at_.toNat).modPtp (fun p => { p with delayReq := some (seq, at_.toNat, 0) })
      match to_.2 with
      | some d => t.emitIp n 8 to_.1 (s.portMac n) body [] d
      | none => t.emit ⟨n, 8, to_.1, body, none, etherFrame to_.1 (s.portMac n) none 0x88F7 body⟩
    else s

/-- A Delay_Resp (R483): the path delay is half the sum of the two one-way differences. -/
def execDelayResp (n : Nat) (seq : BitVec 16) (domain : BitVec 8) (source received : BitVec 64) (s : State) : Out :=
  onPort n s fun s =>
    match s.clocks.ptp.delayReq, s.clocks.ptp.syncAt with
    | some (q, t3, 0), some (t1, t2) =>
      if s.fromChosen n domain.toNat source.toNat && q = seq.toNat then
        let d : Int := (((t2 : Int) - t1) + ((received.toNat : Int) - t3)) / 2
        s.modPtp (fun p => { p with delay := some d, delayReq := some (q, t3, 1) })
      else s
    | _, _ => s

/-- No valid Sync for 3 s (R577). -/
def execSyncTimeout (s : State) : Out :=
  .next (
    let s1 := s.modPtp (fun p => { p with twoStep := none, lockRun := 0 })
    if s.num o0TimeState = 1 ∨ s.num o0TimeState = 2 then s1.setNum o0TimeState 3 else s1)

/-! ### Sample marks (R580 to R584) -/

/-- A module mark at `m` is placed, or skipped while one is pending (R581, R583). -/
def execModuleMark (m : BitVec 64) (s : State) : Out :=
  .next (
    if s.num o0MarkIntervalMs = 0 ∨ m.toNat < s.wt + 100000 then s
    else if s.clocks.marks0.isEmpty then
      { s with clocks := { s.clocks with marks0 := [⟨m.toNat, 0, [], []⟩] } }
    else s.addNum o0MarksIncomplete 1)

/-- A write of `SAMPLE_MARK` (R581, R583, R588): the state and the status. -/
def State.writeSampleMark (s : State) (lead : Nat) : State × Nat :=
  if lead < 100 ∨ 1000000 < lead then (s, 7)
  else if s.clocks.marks0.isEmpty then
    ({ s with clocks := { s.clocks with marks0 := [⟨s.wt + lead * 1000, 0, [], []⟩] } }, 0)
  else (s, 9)

/-- A write of `SAMPLE_MARK`. -/
def execSampleMark (lead : BitVec 32) (s : State) : Out := .next (s.writeSampleMark lead.toNat).1

/-- The field of a unit; a regulator and the MSC have none. -/
def unitField : MarkUnit → Option Nat
  | .core c => some (fieldOf (clusterOf c))
  | .schedRouter k => some (fieldOf k)
  | .msgRouter k => some (fieldOf k)
  | .clusterMemory k => some (fieldOf k)
  | .channel f _ => some f
  | .regulator _ => none
  | .msc => none

/-- The region of a unit. -/
def unitRegion : MarkUnit → Option Nat
  | .regulator r => some r
  | .msc => none
  | u => (unitField u).map (· % 12)

/-- Whether a unit exists (R20). -/
def unitExists : MarkUnit → Bool
  | .core c => c < 258048
  | .schedRouter k => k < 8064
  | .msgRouter k => k < 8064
  | .clusterMemory k => k < 8064
  | .channel f ch => f < 84 && ch < 24
  | .regulator r => r < 12
  | .msc => true

/-- The counts of a unit, by offset (R580). -/
def State.unitCounts (s : State) (u : MarkUnit) : Sparse 64 :=
  match u with
  | .core c => (s.core c).countsAt (s.fabricIn (coreRegion c)) s.wt
  | .schedRouter k =>
    let x := s.cluster k
    x.counts.filter (fun e => e.1 < 0xA0000 || 0x10000000 ≤ e.1) ++
      [(0x20000000, BitVec.ofNat 64 ((x.combine.map (fun (q : Nat × Combine) => q.2.rounds.toNat)).sum))]
  | .msgRouter k =>
    -- the words of a port block that are no counts, which `MP_PORT_COUNTS` shows as latched too (R361)
    (List.range 5).foldl (fun m p => [0x30, 0x34, 0x38].foldl (fun m o =>
      Sparse.wr m (0xA0100 + 64 * p + o) (BitVec.ofNat 64 (s.mpWord k (0x100 + 64 * p + o)))) m)
      ((s.cluster k).counts.filter (fun e => 0xA0000 ≤ e.1 && e.1 < 0xA1000))
  | .clusterMemory k => (s.cluster k).counts.filter (fun e => 0xA1000 ≤ e.1 && e.1 < 0xA2000)
  | .channel f ch => (s.chan (f * 24 + ch)).counts
  | .regulator r => (s.regions.get RegionSt.reset r).energy
  | .msc => if s.power.aux = 0 then [] else [(0, s.power.aux)]

/-- The marks of a set (true: the partitions'). -/
def Clocks.marks (x : Clocks) (which : Bool) : List Mark := if which then x.marks1 else x.marks0
def Clocks.setMarks (x : Clocks) (which : Bool) (l : List Mark) : Clocks :=
  if which then { x with marks1 := l } else { x with marks0 := l }
def Clocks.shadows (x : Clocks) (which : Bool) : List Shadow := if which then x.shadow1 else x.shadow0
def Clocks.setShadows (x : Clocks) (which : Bool) (l : List Shadow) : Clocks :=
  if which then { x with shadow1 := l } else { x with shadow0 := l }

/-- A unit's shadow of a set. -/
def Clocks.shadow (x : Clocks) (which : Bool) (u : MarkUnit) : Shadow :=
  ((x.shadows which).find? (fun h => h.unit = u)).getD ⟨u, 0, [], [], false, false⟩

/-- Whether a mark is for a unit: a partition's marks are for the units of its regions (R581). -/
def State.markFor (s : State) (which : Bool) (u : MarkUnit) (m : Mark) : Bool :=
  !which || (match unitRegion u with
    | some r => s.partOfRegion r = m.part
    | none => false)

/-- A unit latches the oldest mark that it has not latched (R580, R584): a unit of a lost region latches
nothing. -/
def State.latch (s : State) (which : Bool) (u : MarkUnit) : State :=
  let lost : Bool := match unitRegion u with
    | some r => s.num (o1RegionState r) = 3
    | none => false
  match (s.clocks.marks which).find? (fun m => s.markFor which u m && !m.latched.contains u) with
  | some m =>
    if lost then s
    else
      let old := s.clocks.shadow which u
      let h : Shadow := { old with
        m := m.m, counts := (s.atTime (max s.wt m.m)).unitCounts u, fromZero := old.anew || old.fromZero, anew := false }
      let tab := if m.tab.isEmpty then s.blob o8CoefTable else m.tab
      let ms := (s.clocks.marks which).map (fun n =>
        if n.m = m.m ∧ n.part = m.part then { n with latched := n.latched ++ [u], tab := tab } else n)
      let hs := (s.clocks.shadows which).filter (fun h => h.unit ≠ u) ++ [h]
      { s with clocks := (s.clocks.setMarks which ms).setShadows which hs }.atTime (max s.wt m.m)
  | none => s

/-- A unit latches a mark (R580). -/
def execMarkLatch (which : Bool) (u : MarkUnit) (s : State) : Out :=
  if unitExists u then .next (s.latch which u) else .fault .noSuchUnit

/-- The units of a field that hold latched counts: a hollow or failed cluster has no cores and no cluster
memory. -/
def State.fieldUnits (s : State) (f : Nat) : List MarkUnit :=
  (List.range 96).flatMap (fun j =>
    let k := f * 96 + j
    let st := s.clusterState k
    let routers := if st = 2 ∨ st = 4 then [] else [MarkUnit.schedRouter k, .msgRouter k]
    let rest := if st = 0 ∨ st = 3 then .clusterMemory k :: (List.range 32).map (fun c => .core (k * 32 + c)) else []
    routers ++ rest) ++ (List.range 24).map (fun ch => .channel f ch)

/-- Every unit of the fields that are reachable and started has latched a mark (R582). -/
def State.markDone (s : State) (which : Bool) (m : Mark) : Bool :=
  let rs := if which then s.partRegions m.part else List.range 12
  let up := rs.filter (fun r => s.num (o1RegionState r) = 1 || s.num (o1RegionState r) = 2)
  up.all (fun r => m.latched.contains (.regulator r) && (List.range 7).all (fun j =>
    s.fieldState (12 * j + r) ≠ 1 || (s.fieldUnits (12 * j + r)).all m.latched.contains))

/-- The change of a count of a shadow since the mark before, over the units that a test selects; counts that a reset cleared in between
run from zero (R454, R584). -/
def Clocks.delta (x : Clocks) (which : Bool) (m : Nat) (sel : MarkUnit → Bool) (offs : List Nat) : Nat :=
  (((x.shadows which).filter (fun h => h.m = m && sel h.unit)).map (fun h =>
    (offs.map (fun o => (Sparse.rd h.counts o - (if h.fromZero then 0 else Sparse.rd h.before o)).toNat)).sum)).sum

/-- The magnitude of an FP32 entry of a coefficient table. -/
def coefEntry (tab : List Byte) (j : Nat) : Frac := (f32 (leAt tab (4 * j) 4)).mag

/-- A fraction in binary64, to the nearest, ties to even; the values of R626 stay inside its exponent range. -/
def Frac.binary64 (f : Frac) : Frac :=
  if f.n = 0 ∨ f.d = 0 then f
  else
    let e := 52 - Frac.log2 f
    let g := Frac.scale f e
    let q := g.n / g.d
    let r := g.n % g.d
    let up := g.d < 2 * r || (2 * r = g.d && q % 2 = 1)
    Frac.scale ⟨q + b2n up, 1⟩ (-e)

/-- A sum, a product and a quotient in binary64. -/
def add64 (a b : Frac) : Frac := (Frac.add a b).binary64
def mul64 (a b : Frac) : Frac := (Frac.mul a b).binary64
def div64 (a b : Frac) : Frac := (Frac.div a b).binary64

/-- Whether a unit belongs to a region, and is a core, a router, or a channel. -/
def unitIn (r : Nat) (u : MarkUnit) : Bool := unitRegion u = some r
def isCore : MarkUnit → Bool | .core _ => true | _ => false
def isSched : MarkUnit → Bool | .schedRouter _ => true | _ => false
def isMsg : MarkUnit → Bool | .msgRouter _ => true | _ => false
def isChannel : MarkUnit → Bool | .channel _ _ => true | _ => false
def isRegulator : MarkUnit → Bool | .regulator _ => true | _ => false

/-- A count of `ACCOUNT[k]`, the j-th, by its offset. -/
def accountOff (k j : Nat) : Nat := 0x200 + 32 * k + 8 * j

/-- The coefficient energy of a region between two marks (R626): the counts of each entry, then the formula in binary64, each
operation rounded as it is written from the left (DESIGN CHOICE, log entry 192), and rounded down. -/
def Clocks.coefEnergy (x : Clocks) (which : Bool) (m ns r : Nat) (tab : List Byte) : Nat :=
  let n := fun (sel : MarkUnit → Bool) (offs : List Nat) => x.delta which m (fun u => unitIn r u && sel u) offs
  let acct := fun (j : Nat) => n isCore ((List.range 4).map (fun k => accountOff k j))
  let counts := [(1, acct 0), (2, acct 1), (3, acct 2), (4, acct 3), (5, n isCore [0x28]), (6, n isChannel [0x10]),
    (7, n isChannel [0x18]), (8, n isMsg [0xA0100, 0xA0140, 0xA0180, 0xA01C0]), (9, n isSched [0x80040])]
  let pj := counts.foldl (fun a e => add64 a (mul64 (coefEntry tab e.1) (Frac.binary64 ⟨e.2, 1⟩))) ⟨0, 1⟩
  let static := mul64 (mul64 ⟨1000000000, 1⟩ (coefEntry tab 0)) (div64 ⟨ns, 1⟩ ⟨1000000000, 1⟩)
  let e := div64 (add64 static (mul64 (Frac.binary64 ⟨1, 1000⟩) pj)) (coefEntry tab 10)
  if e.d = 0 then 0 else e.n / e.d

/-- The shadows of a complete mark become the latest complete counts. -/
def Clocks.settle (x : Clocks) (which : Bool) (m : Nat) (sel : MarkUnit → Bool) : Clocks :=
  x.setShadows which ((x.shadows which).map (fun h =>
    if h.m = m ∧ sel h.unit then { h with before := h.counts, fromZero := false } else h))

/-- A module mark is complete (R582, R626): it becomes the latest, and the coefficient energies of the interval
since the one before are added. -/
def State.completeModule (s : State) (m : Mark) : State :=
  let last := s.num o0MarkLast
  let tab := s.power.coefTab.get (s.blob o8CoefTable) 0
  let es := (List.range 12).map (fun r =>
    if last = 0 ∨ s.num (o1RegionState r) = 3 then 0 else s.clocks.coefEnergy false m.m (m.m - last) r tab)
  let s1 := (List.range 12).foldl (fun s r => s.addNum (o8CoefNj r) ((es[r]?).getD 0)) s
  let s2 := (s1.addNum (o8CoefNj 12) es.sum).setNum o0MarkLast m.m
  let next := if m.tab.isEmpty then s.blob o8CoefTable else m.tab
  { s2 with
    clocks := (s2.clocks.settle false m.m (fun _ => true)).setMarks false (s2.clocks.marks0.filter (fun n => n.m ≠ m.m))
    power := { s2.power with coefTab := s2.power.coefTab.put 0 next } }

/-- The units of an account set of a partition between two marks (R455). -/
def State.setUnits (s : State) (p m k : Nat) : Nat :=
  let n := fun (j : Nat) => s.clocks.delta true m (fun u => isCore u && (match unitRegion u with
    | some r => s.partOfRegion r = p
    | none => false)) [accountOff k j]
  n 0 + 4 * n 1 + 6 * n 2 + n 3 / 2048

/-- A partition's mark is complete (R454, R582, R624): the window that it closes has its sums. A window before it
whose closing mark was abandoned has none of its own. -/
def State.completePart (s : State) (m : Mark) : State :=
  let p := m.part
  let ws := (s.part p).windows
  let tab := s.power.coefTab.get (s.blob o8CoefTable) (1 + p)
  let units := (List.range 4).map (fun k => s.setUnits p m.m k)
  let rs := s.partRegions p
  let e := (rs.map (fun r => s.clocks.delta true m.m (fun u => isRegulator u && unitIn r u) [0])).sum
  let open_ := ws.filter (fun w => w.m0 < m.m && w.sums.isNone)
  let from_ := (open_.head?.map (·.m0)).getD m.m
  let c := (rs.map (fun r => s.clocks.coefEnergy true m.m (m.m - from_) r tab)).sum
  let last := (open_.getLast?.map (·.m0)).getD m.m
  let s1 := s.modPart p (fun x => { x with windows := x.windows.map (fun w =>
    if w.m0 < m.m ∧ w.sums.isNone then
      { w with sums := some (if w.m0 = last then (units, e, c) else ([0, 0, 0, 0], 0, 0)) }
    else w) })
  let next := if m.tab.isEmpty then s.blob o8CoefTable else m.tab
  { s1 with
    clocks := (s1.clocks.settle true m.m (fun u => match unitRegion u with
      | some r => s.partOfRegion r = p
      | none => false)).setMarks true (s1.clocks.marks1.filter (fun n => !(n.m = m.m && n.part = p)))
    power := { s1.power with coefTab := s1.power.coefTab.put (1 + p) next } }

/-- A mark is complete (R582): the oldest of its set that every unit has latched. -/
def execMarkComplete (which : Bool) (s : State) : Out :=
  .next (
    match (s.clocks.marks which).find? (s.markDone which) with
    | some m => if which then s.completePart m else s.completeModule m
    | none => s)

/-- A mark still incomplete 10 ms after M is abandoned (R582). -/
def execMarkAbandon (which : Bool) (s : State) : Out :=
  .next (
    match s.clocks.marks which with
    | m :: r =>
      if s.markDone which m then s
      else { s with clocks := s.clocks.setMarks which r }.addNum o0MarksIncomplete 1
    | [] => s)

end Sys2Proof.Machine
end

