-- ==== Sys2Proof/Machine/LaneMode.lean ====
section
/-! DEFINITION. The 400 Gb/s lane mode on the fibre (R470, R471): the symbol streams of a lane, and vendor training
frames as symbols. A symbol is its level, 0 the bottom and 3 the top. -/

namespace Sys2Proof.Machine

/-! ### Streams and lanes (R470) -/

/-- The symbol streams that lane `k` carries in a configuration: the 800 Gb/s PMA of configuration 3 has four, so that the lanes of
the pair 2 and 3 carry those of lanes 0 and 1 (DESIGN CHOICE, log entry 219). -/
def laneStreams (config k : Nat) : Nat × Nat :=
  let j := if config = 3 then k % 2 else k
  (2 * j, 2 * j + 1)

/-- The level of a pair of bits by the standard's Gray coding (PRESUMED: IEEE 802.3, log entry 189). -/
def grayLevel (a b : Bool) : Nat :=
  match a, b with
  | false, false => 0
  | false, true => 1
  | true, true => 2
  | true, false => 3

/-- Even symbols from one stream, odd symbols from the other. -/
def interleave : List Nat → List Nat → List Nat
  | a :: x, b :: y => a :: b :: interleave x y
  | _, _ => []

/-- The two streams again. -/
def deinterleave : List Nat → List Nat × List Nat
  | a :: b :: r => (a :: (deinterleave r).1, b :: (deinterleave r).2)
  | _ => ([], [])

/-- Precoding 1/(1 + D) mod 4: a symbol less the one sent before it, which `p` is for the first. -/
def precode (p : Nat) : List Nat → List Nat
  | [] => []
  | g :: r => (g + 4 - p % 4) % 4 :: precode ((g + 4 - p % 4) % 4) r

/-- The receiver's inverse: a symbol and the one before it. -/
def unprecode (p : Nat) : List Nat → List Nat
  | [] => []
  | x :: r => (x + p) % 4 :: unprecode x r

/-- What a lane sends for its two streams, after symbol `p`. -/
def laneSend (p : Nat) (x y : List Nat) : List Nat := precode p (interleave x y)

/-- The streams that a receiver gives to its PCS. -/
def laneReceive (p : Nat) (l : List Nat) : List Nat × List Nat := deinterleave (unprecode p l)

/-! ### Vendor training frames (R471) -/

/-- PRBS13 (PRESUMED: the polynomial 1 + x + x^2 + x^12 + x^13 of IEEE 802.3, log entry 189): `n` bits from a state. -/
def prbs13 : Nat → Nat → List Bool
  | 0, _ => []
  | n + 1, v =>
    let b := (nbit v 12 != nbit v 11) != (nbit v 1 != nbit v 0)
    b :: prbs13 n ((2 * v + b2n b) % 2 ^ 13)

/-- Pairs of bits as levels. -/
def grayPairs : List Bool → List Nat
  | a :: b :: r => grayLevel a b :: grayPairs r
  | _ => []

/-- The training pattern of a frame: PAM2 in discovery, PRBS13Q later. -/
def trainingPattern (discovery : Bool) (seed : Nat) : List Nat :=
  if discovery then (prbs13 3008 seed).map (fun b => if b then 3 else 0) else grayPairs (prbs13 6016 seed)

/-- A bit of the control block as 8 symbols. -/
def bitSymbols (b : Bool) : List Nat :=
  List.replicate 4 (if b then 3 else 0) ++ List.replicate 4 (if b then 0 else 3)

/-- A training frame of 4,096 unit intervals: marker, control block and pattern. -/
def frameSymbols (cb : BitVec 128) (pattern : List Nat) : List Nat :=
  List.replicate 32 3 ++ List.replicate 32 0 ++
    (List.range 128).flatMap (fun j => bitSymbols (cb.toNat.testBit (127 - j))) ++ pattern

/-- What follows the marker: a run of at least 32 top-level symbols and then 32 of the bottom level. -/
def afterMarker : Nat → Nat → List Nat → Option (List Nat)
  | _, _, [] => none
  | top, bottom, x :: r =>
    if x = 3 then afterMarker (if bottom = 0 then top + 1 else 1) 0 r
    else if x = 0 ∧ 32 ≤ top then if bottom = 31 then some r else afterMarker top (bottom + 1) r
    else afterMarker 0 0 r

/-- The bits of a control block, from its symbols. -/
def blockBits : Nat → List Nat → Option (List Bool)
  | 0, _ => some []
  | n + 1, l =>
    if l.take 8 = bitSymbols true then (blockBits n (l.drop 8)).map (true :: ·)
    else if l.take 8 = bitSymbols false then (blockBits n (l.drop 8)).map (false :: ·)
    else none

/-- The control block that a receiver finds in what it receives. -/
def frameBlock (l : List Nat) : Option (BitVec 128) :=
  match afterMarker 0 0 l with
  | none => none
  | some r => (blockBits 128 r).map (fun bits => bits.foldl (fun v b => v * 2 + BitVec.ofNat 128 (b2n b)) 0)

end Sys2Proof.Machine
end

