-- ==== Sys2Proof/Machine/Ports.lean ====
section
/-! DEFINITION. The Ethernet ports below the wafer transport: training (R465 to R478, R759), received frames
(R479, R480, R518), and ARP, neighbour solicitation and echo (R481, R517). -/

namespace Sys2Proof.Machine

/-! ### Training (R467 to R476) -/

/-- The licence for the 400 Gb/s lane mode (R469, R662). -/
def State.laneLicence (s : State) : Bool := nbit (s.num o7Features) 2

/-- The mode that training follows (R468, R469). -/
def State.trainMode (s : State) (n : Nat) : Nat :=
  let m := s.num (o4PortMode n)
  if (m = 0 ∨ m = 2) ∧ !s.laneLicence then 1 else m

/-- An attempt of the lane mode: 1, and 3 and 4 on two lanes; the standard attempts are 2, 5 and 6. -/
def vendorAttempt (a : Nat) : Bool := a = 1 || a = 3 || a = 4

/-- Whether a mode allows an attempt. -/
def attemptAllowed (mode a : Nat) : Bool :=
  match mode with
  | 0 => true
  | 1 => !vendorAttempt a
  | 2 => vendorAttempt a
  | _ => false

/-- The lanes of an attempt. -/
def attemptLanes (a : Nat) : Nat :=
  match a with
  | 3 => 3
  | 4 => 12
  | 5 => 3
  | 6 => 12
  | _ => 15

/-- The configuration that an attempt on some lanes reaches (R467). -/
def attemptConfig (a lanes : Nat) : Nat :=
  if vendorAttempt a then (if lanes = 15 then 1 else 3) else (if a = 2 then 2 else 4)

/-- The rate of a configuration in Gb/s (R467). -/
def configRate (c : Nat) : Nat :=
  match c with
  | 1 => 1600
  | 2 => 800
  | 3 => 800
  | 4 => 400
  | _ => 0

/-- The attempt begins: the lane mode with discovery, the standard with its own training and the verify window. -/
def Train.start (a : Nat) (pair : Option Nat) : Train :=
  { attempt := a, phase := if vendorAttempt a then 0 else 3, offer := attemptLanes a, lanes := attemptLanes a, peer := []
    taps := [], status := [], equalised := [], pair := pair, reached := none }

/-- The attempts of R473 after `a`, in order: a pair that passed in step 3 is the only one tried in step 5. -/
def State.nextAttempt (s : State) (n a : Nat) (pair : Option Nat) : Train :=
  let ok := fun (b : Nat) => a < b && attemptAllowed (s.trainMode n) b &&
    !(b = 3 && pair = some 12) && !(b = 4 && pair = some 3)
  match ((List.range 7).find? ok) with
  | some b => Train.start b pair
  | none => Train.start 7 pair

/-- A port may train (R468, R759): its mode allows it, its region is in service and powered, the wafer has
reached phase 2 of its start, and the reference is not lost (R561). -/
def State.mayTrain (s : State) (n : Nat) : Bool :=
  s.num (o4PortMode n) ≠ 3 && s.regionUp (portRegion n) && (s.regions.get RegionSt.reset (portRegion n)).powered &&
    2 ≤ s.num o0StartPhase && !s.refLost

/-- The bits of a control block from [127] to [16]. -/
def controlBits (cb : BitVec 128) : List Bool := (List.range 112).map (fun j => cb.toNat.testBit (127 - j))

/-- A control block that a receiver takes (R472). -/
def controlOk (cb : BitVec 128) : Bool :=
  fld cb 120 8 = 0xA7 && fld cb 116 4 = 1 && crc16 (controlBits cb) = fld cb 0 16

/-- A control block with its `CB_CRC`. -/
def sealBlock (cb : BitVec 128) : BitVec 128 := BitVec.ofNat 128 (cb.toNat / 65536 * 65536 + crc16 (controlBits cb))

/-- The lanes of a mask. -/
def lanesOf (m : Nat) : List Nat := (List.range 4).filter (fun j => nbit m j)

/-- `PHASE` of the frames that an attempt sends (R472, R473): none while it verifies, when PCS idles go out, and 3 when it is abandoned. -/
def Train.phaseCode (x : Train) : Option Nat :=
  match x.phase with
  | 3 => none
  | 4 => some 3
  | p => some p

/-- What a port asks of its peer's four taps: a free choice of hold, step up and step down (R472). -/
def freeReq (n : Nat) : Nat := ((List.range 4).map (fun j => Config.freeNat (n + j) % 3 * 4 ^ j)).sum

/-- The control block that a port sends on a lane (R472) in a phase. -/
def State.ownBlock (s : State) (x : Train) (phase lane : Nat) : BitVec 128 :=
  sealBlock (BitVec.ofNat 128 (0xA7 * 2 ^ 120 + 2 ^ 116 + phase % 4 * 2 ^ 113 + b2n s.laneLicence * 2 ^ 112 +
    lane % 4 * 2 ^ 110 + x.offer % 16 * 2 ^ 106 + b2n (x.equalised.contains lane) * 2 ^ 105 +
    freeReq s.free * 2 ^ 96 + x.status.get 0 lane % 256 * 2 ^ 88))

/-- A training frame on a lane (R471): marker, control block and pattern, whose generator's state is a free value. -/
def State.ownFrame (s : State) (x : Train) (phase lane : Nat) : List Nat :=
  frameSymbols (s.ownBlock x phase lane) (trainingPattern (phase = 0) (Config.freeNat (s.free + 4) % 2 ^ 13))

/-- A vendor attempt sends its training frames on each of its lanes (R471 to R473, R759): once for each change of the attempt (log
entry 218). They are no Ethernet frames. -/
def State.sendFrames (s : State) (n : Nat) (x : Train) : State :=
  match x.phaseCode with
  | some ph =>
    if vendorAttempt x.attempt && x.reached.isNone then
      (lanesOf x.offer).foldl (fun s lane =>
        { s with
          free := s.free + 5
          sent := s.sent ++ [⟨n, 9, lane, beBytes 16 (s.ownBlock x ph lane).toNat, none,
            (s.ownFrame x ph lane).map (BitVec.ofNat 8)⟩] }) s
    else s
  | none => s

/-- A step of the attempt, kept; the port's frames show it. -/
def State.keepTrain (s : State) (n : Nat) (t : Train) : State :=
  (s.modPort n (fun p => { p with train := some t })).sendFrames n t

/-- A port trains from the first attempt (R473, R476): it is down while it does. -/
def State.train (s : State) (n : Nat) : State :=
  if s.mayTrain n then
    let s1 := ((s.dropPort n).setNum (o4PortState n) 1).addNum (o4PortTrains n) 1
    (s1.modPort n (fun x => { x with dark := false, taps := [] })).keepTrain n (s.nextAttempt n 0 none)
  else s

/-- A source becomes valid during a coast (R560): the loops relock, the dividers ramp back, and the ports train (R561). Wafer
time is in holdover until a time transmitter disciplines it (R577). -/
def execReferenceRelock (src : RefSource) (s : State) : Out :=
  .next (
    let s1 := s.markSource src true
    if s.refLost && s1.sourceValid src then
      (List.range 24).foldl (fun s n => s.train n) ((s1.useSource src).setNum o0TimeState 3)
    else s)

/-- A write of `PORT_MODE` (R468): the state and the status. -/
def State.writePortMode (s : State) (n v : Nat) : State × Nat :=
  if 3 < v then (s, 7)
  else
    let s1 := s.setNum (o4PortMode n) v
    if v = 3 then
      (((s1.dropPort n).setNum (o4PortState n) 0).modPort n (fun x => { x with dark := true }), 0)
    else (s1.train n, 0)

/-- A write of `PORT_MODE`. -/
def execPortMode (n : Nat) (v : BitVec 8) (s : State) : Out := onPort n s fun s => (s.writePortMode n v.toNat).1

/-- A write of `PORT_RETRAIN` (R476): the state and the status, 0x09 while the training that an earlier write began runs (R535). -/
def State.writeRetrain (s : State) (n v : Nat) : State × Nat :=
  if v ≠ 1 then (s, 7)
  else if (s.port n).asked && (s.port n).train.isSome then (s, 9)
  else ((s.train n).modPort n (fun x => { x with asked := x.train.isSome }), 0)

/-- A write of `PORT_RETRAIN`. -/
def execPortRetrain (n : Nat) (v : BitVec 8) (s : State) : Out := onPort n s fun s => (s.writeRetrain n v.toNat).1

/-- The FP32 word of a fraction that is not negative. -/
def f32Word (f : Frac) : Nat :=
  let r := Layout.fp32.roundMag .nearest f
  if r.2 then 0x7F800000 else r.1

/-- What the FEC decoder of a port in service counts in a second (R515): the codewords corrected and the worst lane's bit errors in
10^9 bits are free values. -/
def State.countFec (s : State) (n uncorrectable : Nat) : State :=
  let d := s.draw
  (((d.2.draw.2.addNum (o4FecCorrected n) (Config.freeNat d.1)).setNum (o4PreFecBer n)
    (f32Word ⟨Config.freeNat (d.1 + 1) % 1000000001, 1000000000⟩))).addNum (o4FecUncorrectable n) uncorrectable

/-- A port in service sees `uncorrectable` codewords in a second, and whether its PCS is aligned (R476). -/
def execPortRetrainTrigger (n uncorrectable : Nat) (aligned : Bool) (s : State) : Out :=
  onPort n s fun s =>
    if s.num (o4PortState n) = 2 then
      let s1 := s.countFec n uncorrectable
      if !aligned || 1000 < uncorrectable then s1.train n else s1
    else s

/-- A port starts to train (R473, R561, R644): unless it is up or training already. -/
def execPortTrainingStart (n : Nat) (s : State) : Out :=
  onPort n s fun s => when' (s.num (o4PortState n) ≠ 1 && s.num (o4PortState n) ≠ 2) s (s.train n)

/-- 1 s after it went dark, a port trains again (R759). -/
def execPortDarkRetry (n : Nat) (s : State) : Out :=
  onPort n s fun s => when' ((s.port n).dark && s.num (o4PortState n) = 3) s (s.train n)

/-- The field that reports for a port. -/
def State.postPort (s : State) (n cause : Nat) : State :=
  s.post (portField n) 4 6 n 3 cause 0 (s.portPart n) 0

/-- A port goes down (R477, R507). -/
def execPortDown (n : Nat) (s : State) : Out :=
  onPort n s fun s =>
    if s.num (o4PortState n) = 2 && !s.portDown n then (s.dropPort n).postPort n 6 else s.applyPath n

/-- The positions of a tap: 128 steps of 1/64 of full swing (R472; the limits are a DESIGN CHOICE, log entry 186). -/
def tapTop : Nat := 127

/-- One tap after a request (R472): 1 steps up, 2 down, to its limits; with the status of the request. -/
def tapStep (v req : Nat) : Nat × Nat :=
  match req with
  | 1 => if v < tapTop then (v + 1, 1) else (v, 2)
  | 2 => if 0 < v then (v - 1, 1) else (v, 2)
  | _ => (v, 0)

/-- The four taps of a lane, 8 bits each, after the peer's requests, and what became of them. -/
def tapsAfter (t req : Nat) : Nat × Nat :=
  (List.range 4).foldl (fun a j =>
    let r := tapStep (nfld t (8 * j) 8) (nfld req (2 * j) 2)
    (a.1 + r.1 * 2 ^ (8 * j), a.2 + r.2 * 2 ^ (2 * j))) (0, 0)

/-- Discovery after a block (R473 step 1): once every lane offered has one, the attempt uses the lanes that both
sides set, or fails when a side is without the licence. -/
def Train.discovered (x : Train) : Option (Option Nat) :=
  let l := (lanesOf x.offer).map (fun j => (x.peer.look j).getD 0)
  if (lanesOf x.offer).all (fun j => x.peer.has j) then
    some (if l.all (fun c => nbit c 112) then
      let m := l.foldl (fun a c => a &&& nfld c 106 4) x.offer
      if m = 15 ∨ m = 3 ∨ m = 12 then some m else none
    else none)
  else none

/-- Every lane of the attempt reports `RX_READY` from the peer. -/
def Train.peerReady (x : Train) : Bool := (lanesOf x.lanes).all (fun j => nbit (x.peer.get 0 j) 105)

/-- A frame of discovery (R473 step 1): only a block of phase 0 counts. -/
def State.discover (s : State) (n : Nat) (x : Train) (lane cb : Nat) : State :=
  if nfld cb 113 3 ≠ 0 then s
  else
    let y := { x with peer := x.peer.put lane cb }
    match y.discovered with
    | some (some m) => s.keepTrain n { y with phase := 1, lanes := m, offer := m, peer := [] }
    | some none => s.keepTrain n (s.nextAttempt n x.attempt x.pair)
    | none => s.keepTrain n y

/-- A frame of equalisation (R473 step 2): the taps step by the peer's requests. Whether this side's receiver on the lane is
equalised now is left open: a free choice at each frame. -/
def State.equalise (s : State) (n : Nat) (x : Train) (lane cb : Nat) : State :=
  let t := tapsAfter (x.taps.get 0x40404040 lane) (nfld cb 96 8)
  let d := s.draw
  let eq := if Config.freeNat d.1 % 2 = 1 && !x.equalised.contains lane then x.equalised ++ [lane] else x.equalised
  let y := { x with
    peer := x.peer.put lane cb, taps := x.taps.put lane t.1, status := x.status.put lane t.2, equalised := eq }
  d.2.keepTrain n (if y.peerReady && (lanesOf y.lanes).all eq.contains then { y with phase := 2 } else y)

/-- A vendor training frame is received on a lane (R471 to R473). -/
def State.trainFrame (s : State) (n : Nat) (x : Train) (lane : Nat) (cb : Nat) : State :=
  if nfld cb 113 3 = 3 then s.keepTrain n (s.nextAttempt n x.attempt x.pair)
  else
    match x.phase with
    | 0 => s.discover n x lane cb
    | 1 => s.equalise n x lane cb
    | _ => s.keepTrain n { x with peer := x.peer.put lane cb }

/-- What a lane receives in the training of the lane mode (R471 to R473): a frame without a block whose check holds is
ignored. -/
def execTrainingFrame (n lane : Nat) (symbols : List Nat) (s : State) : Out :=
  onPort n s fun s =>
    match (s.port n).train, frameBlock symbols with
    | some x, some cb =>
      when' (vendorAttempt x.attempt && lane < 4 && controlOk cb && x.reached.isNone) s
        (s.trainFrame n x lane cb.toNat)
    | _, _ => s

/-- A lane passes (R474): its bit errors in 10^9 bits are below 240,000. -/
def laneOk (ber : List Nat) (j : Nat) : Bool := (ber[j]?).getD 0 < 240000

/-- The limit of a training phase passes (R473, R474): `ber` is each lane's pre-FEC bit errors in 10^9 bits over
the verify window. -/
def execTrainingPhaseTimeout (n : Nat) (ber : List Nat) (uncorrectable : Nat) (s : State) : Out :=
  onPort n s fun s =>
    match (s.port n).train with
    | some x =>
      let keep := fun (t : Train) (s : State) => s.keepTrain n t
      if 6 < x.attempt ∨ x.reached.isSome then s
      else
        match x.phase with
        | 2 => keep { x with phase := 3 } s
        | 3 =>
          let l := lanesOf x.lanes
          let s1 := s.setNum (o4PreFecBer n) (f32Word ⟨(l.map (fun j => (ber[j]?).getD 0)).foldl max 0, 1000000000⟩)
          if l.all (laneOk ber) ∧ uncorrectable = 0 then
            keep { x with reached := some (attemptConfig x.attempt x.lanes, x.lanes) } s1
          else if vendorAttempt x.attempt then
            let pair := if x.attempt ≠ 1 then x.pair
              else if laneOk ber 0 && laneOk ber 1 then some 3
              else if laneOk ber 2 && laneOk ber 3 then some 12 else none
            keep { x with phase := 4, pair := pair } s1
          else keep (s1.nextAttempt n x.attempt x.pair) s1
        | _ => keep (s.nextAttempt n x.attempt x.pair) s
    | none => s

/-- Training ends (R467, R473, R759): in a configuration, or with the port down and dark. -/
def execPortTrainingEnd (n : Nat) (s : State) : Out :=
  onPort n s fun s =>
    match (s.port n).train with
    | some x =>
      match x.reached with
      | some (c, l) =>
        let s1 := (((s.setNum (o4PortState n) 2).setNum (o4PortRate n) (configRate c)).setNum (o4PortConfig n) c).setNum
          (o4LanesUp n) l
        (((s1.modPort n (fun p => { p with
          train := none, dark := false, asked := false, taps := x.taps, lastCfg := some (c, l) })).applyPath n).pump n).freeClosed n
      | none =>
        if 6 < x.attempt then
          ((s.dropPort n).modPort n (fun p => { p with dark := true })).postPort n 6
        else s
    | none => s

/-! ### Received frames (R465, R466, R479, R480, R518) -/

/-- A dropped frame is counted by its reason (R515). -/
def State.dropFrame (s : State) (n reason : Nat) : State :=
  let b := s.blob (o4RxDropped n)
  s.setBlob (o4RxDropped n) (patchB b (8 * reason) (leBytes 8 (leAt b (8 * reason) 8 + 1)))

/-- Whether a VID is that of an enabled, tagged association of a port (R485). -/
def State.vidUsed (s : State) (n vid : Nat) : Bool :=
  (List.range 64).any (fun a =>
    let b := s.assocBytes n a
    aEnable b && nbit (leAt b 0 1) 1 && leAt b 2 2 % 4096 = vid)

/-- The in-band management VLAN of a port carries a frame (R518). -/
def State.inbandTag (s : State) (n : Nat) (fr : Frame) : Bool :=
  s.num o0MgmtVlan ≠ 0 && nbit (s.num o0MgmtInbandPorts) n &&
    (match fr.tag with | some v => v.toNat = s.num o0MgmtVlan | none => false)

/-- An address of in-band management (R518); zero is none. -/
def State.inbandV6 (s : State) : Nat := ofBe (padTo 16 (s.blob o0MgmtInbandIpv6))
def State.inbandTo (s : State) : Layer3 → Bool
  | .ipv4 a _ _ _ => a ≠ 0 && a.toNat = s.num o0MgmtInbandIpv4
  | .ipv6 a _ _ => a ≠ 0 && a.toNat = s.inbandV6
  | _ => false

/-- A frame that a port passes to the MSC (R518): on the VLAN, to the port's MAC and an in-band address. -/
def State.inbandFrame (s : State) (n : Nat) (fr : Frame) : Bool :=
  s.inbandTag n fr && fr.dst.toNat = s.portMac n && s.inbandTo fr.body

/-- A frame by which another station asks for an in-band address (R518): ARP, or to the solicited-node group. -/
def State.inbandAsk (s : State) (n : Nat) (fr : Frame) : Bool :=
  s.inbandTag n fr && ((fr.body = .arp && (fr.dst.toNat = 2 ^ 48 - 1 || fr.dst.toNat = s.portMac n)) ||
    (s.inbandV6 ≠ 0 && fr.dst.toNat = 0x3333FF000000 + s.inbandV6 % 2 ^ 24))

/-- A UDP datagram to a PTP port. -/
def ptpUdp : Layer4 → Bool
  | .udp p _ => p.toNat = 319 || p.toNat = 320
  | _ => false

/-- A PTP message of the transport in use (R483): the MAC address of the group, with what the frame carries. The group addresses
of the UDP transports are those of IEEE 1588 (PRESUMED, log entry 188). -/
def State.ptpGroup (s : State) (n : Nat) (mac : Nat) : Layer3 → Bool
  | .ptp => s.num (o4PtpTransport n) = 0 && mac = 0x011B19000000
  | .ipv4 _ _ _ up => s.num (o4PtpTransport n) = 1 && mac = 0x01005E000181 && ptpUdp up
  | .ipv6 _ _ up => s.num (o4PtpTransport n) = 2 && mac = 0x333300000181 && ptpUdp up
  | _ => false

/-- Whether a port takes a frame's destination (R479). -/
def State.frameForMe (s : State) (n : Nat) (fr : Frame) : Bool :=
  let d := fr.dst.toNat
  let v6 := s.portV6 n
  d = s.portMac n || (d = 2 ^ 48 - 1 && fr.body = .arp) || s.inbandAsk n fr || (v6 ≠ 0 && d = 0x3333FF000000 + v6 % 2 ^ 24) ||
    (s.num (o4PtpEnable n) = 1 && s.ptpGroup n d fr.body)

/-- The reason to drop what a UDP datagram or other payload carries (R480); `ptp` says that the port takes PTP by this transport
(R483; DEDUCED, log entry 232). -/
def upperDrop (v6 inband ptp : Bool) : Layer4 → Option Nat
  | .udp p c =>
    if c = some false ∨ (v6 ∧ c = none) then some 5
    else if inband || p.toNat = 47190 then none
    else if p.toNat = 319 || p.toNat = 320 then (if ptp then none else some 3) else some 6
  | .icmp => none
  | .other => some 3

/-- A port takes PTP by UDP over an IP version: transport 1 is IPv4, 2 is IPv6 (R483). -/
def State.takesUdpPtp (s : State) (n transport : Nat) : Bool :=
  s.num (o4PtpEnable n) = 1 && s.num (o4PtpTransport n) = transport

/-- The reason to drop a frame for what it carries (R466, R480). -/
def State.bodyDrop (s : State) (n : Nat) (inband : Bool) : Layer3 → Option Nat
  | .arp => none
  | .ipv4 _ o fr up => if o || fr then some 4 else upperDrop false inband (s.takesUdpPtp n 1) up
  | .ipv6 _ e up => if e then some 4 else upperDrop true inband (s.takesUdpPtp n 2) up
  | .ptp => if s.num (o4PtpEnable n) = 1 ∧ s.num (o4PtpTransport n) = 0 then none else some 3
  | .pause => some 3
  | .other => some 3

/-- A datagram to UDP port 47180: all that the MSC takes of the in-band VLAN (R480). -/
def hdpUdp : Layer3 → Bool
  | .ipv4 _ _ _ (.udp p _) => p.toNat = 47180
  | .ipv6 _ _ (.udp p _) => p.toNat = 47180
  | _ => false

/-- An in-band frame passes to the MSC, at most 8,000 in a second of wafer time (R518), which takes HDP datagrams alone. -/
def State.passInband (s : State) (n : Nat) (body : Layer3) : State :=
  let sec := s.wt / 1000000000
  let x := s.port n
  let c := if x.inband.1 = sec then x.inband.2 else 0
  if 8000 ≤ c then s.addNum o0InbandDropped 1
  else (s.modPort n (fun x => { x with inband := (sec, c + 1), inbox := x.inbox + b2n (hdpUdp body) })).addNum (o4FramesRx n) 1

/-- A received frame (R465, R466, R479, R480). -/
def execFrameReceive (n : Nat) (fr : Frame) (s : State) : Out :=
  onPort n s fun s =>
    if s.portDown n then s
    else if 9216 < fr.len then s.dropFrame n 1
    else if fr.len < 64 || !fr.fcsOk then s.dropFrame n 2
    else if fr.body = .pause then s.addNum (o4PauseIgnored n) 1
    else
      let inb := s.inbandFrame n fr
      let vid := match fr.tag with | some v => !inb && !s.inbandAsk n fr && !s.vidUsed n v.toNat | none => false
      if !s.frameForMe n fr then s.dropFrame n 0
      else if vid then s.dropFrame n 7
      else
        match s.bodyDrop n inb fr.body with
        | some r => s.dropFrame n r
        | none => if inb then s.passInband n fr.body else s.addNum (o4FramesRx n) 1

/-! ### ARP, neighbour solicitation and echo (R481, R517, R518) -/

/-- The number of an interface among those that send: 0 to 23 the ports, 24 MGT-A, 25 MGT-B, from 32 the ports' in-band VLAN. -/
def ifcVia : Iface → Nat
  | .mgt b => 24 + b2n b
  | .port n => n
  | .inband n => 32 + n

/-- The link-local address of a MAC address by modified EUI-64 (R517). -/
def linkLocal (mac : Nat) : Nat :=
  0xFE80 * 2 ^ 112 + (mac / 2 ^ 24 ^^^ 0x020000) * 2 ^ 40 + 0xFFFE * 2 ^ 24 + mac % 2 ^ 24

/-- An interface's MAC address. -/
def State.ifcMac (s : State) : Iface → Nat
  | .mgt b => mgtMac b
  | .port n => s.portMac n
  | .inband n => s.portMac n

/-- An interface's IPv4 address, and its IPv6 addresses; zero stands for none. -/
def State.ifcV4 (s : State) : Iface → Nat
  | .mgt b => s.num (if b then o0MgtBIpv4 else o0MgtAIpv4)
  | .port n => s.num (o4PortIpv4 n)
  | .inband _ => s.num o0MgmtInbandIpv4
def State.ifcV6 (s : State) (i : Iface) : List Nat :=
  match i with
  | .mgt b => [ofBe (padTo 16 (s.blob (if b then o0MgtBIpv6 else o0MgtAIpv6))), linkLocal (s.ifcMac (.mgt b))]
  | .port n => [s.portV6 n]
  | .inband _ => [s.inbandV6]

/-- Whether an interface exists and answers: a port that is up, an in-band VLAN of one, or the MSC's own while the
MSC runs (R519). -/
def State.ifcUp (s : State) : Iface → Bool
  | .mgt b => s.msc.booted && s.power.aux12 && nbit (s.num o0MgtLink) (b2n b)
  | .port n => !s.portDown n
  | .inband n => s.msc.booted && !s.portDown n && s.num o0MgmtVlan ≠ 0 && nbit (s.num o0MgmtInbandPorts) n

def ifcExists (i : Iface) : Bool := match i with | .mgt _ => true | .port n => n < 24 | .inband n => n < 24

/-- A command on an interface. -/
def onIfc (i : Iface) (s : State) (f : State → State) : Out := if ifcExists i then .next (f s) else .fault .noSuchUnit

/-- The 802.1Q tag of what an interface sends of its own accord: the in-band VLAN's (R518). -/
def State.ifcTag (s : State) : Iface → Option Nat
  | .inband _ => some (s.num o0MgmtVlan)
  | _ => none

/-- An ARP request is answered for the interface's own address (R481, R517): the reply names the address and
its MAC. -/
def execArpRequest (ifc : Iface) (mac : BitVec 48) (ip target : BitVec 32) (s : State) : Out :=
  onIfc ifc s fun s =>
    when' (s.ifcUp ifc && target ≠ 0 && target.toNat = s.ifcV4 ifc) s
      (s.emit ⟨ifcVia ifc, 2, mac.toNat, beBytes 6 (s.ifcMac ifc) ++ beBytes 4 target.toNat ++ beBytes 6 mac.toNat ++
        beBytes 4 ip.toNat, none, etherFrame mac.toNat (s.ifcMac ifc) (s.ifcTag ifc) 0x0806
          (arpReply (s.ifcMac ifc) target.toNat mac.toNat ip.toNat)⟩)

/-- A datagram of the MSC from its address `own` (R516, R518): in-band with the VLAN's tag. What R482 settles for the port engines
is not stated for the MSC: a free value (log entry 187). -/
def State.mscDgram (s : State) (ifc : Iface) (mac : Nat) (v6 : Bool) (own dst : Nat) (udp : Option (Nat × Nat)) (body : List Byte) :
    Dgram :=
  let f := Config.freeNat s.free
  { mac := mac, tag := s.ifcTag ifc
    v6 := v6, src := own, dst := dst, udp := udp.map (fun u => (u.1, u.2, udpSum v6 own dst u.1 u.2 body))
    dscp := f % 64, ecn := f / 64 % 4, df := f / 256 % 2 = 1, ttl := f / 512 % 256 }

/-- How an interface addresses an IP datagram that answers `src` at `mac` from its address `own`: a port engine's as R482 has it, and it
answers for the in-band addresses too (R518). -/
def State.answerTo (s : State) (ifc : Iface) (mac : Nat) (v6 : Bool) (own src : Nat) (body : List Byte) : Dgram :=
  match ifc with
  | .port n => s.dgram n mac none v6 src none 0 body
  | .inband n => { s.dgram n mac (s.ifcTag ifc) v6 src none 0 body with src := own }
  | .mgt _ => s.mscDgram ifc mac v6 own src none body

/-- A neighbour solicitation is answered for the interface's own addresses (R481, R517). -/
def execNeighbourSolicitation (ifc : Iface) (mac : BitVec 48) (ip target : BitVec 128) (s : State) : Out :=
  onIfc ifc s fun s =>
    let body := beBytes 16 target.toNat ++ beBytes 6 (s.ifcMac ifc) ++ beBytes 16 ip.toNat
    when' (s.ifcUp ifc && target ≠ 0 && (s.ifcV6 ifc).contains target.toNat) s
      (let d := s.answerTo ifc mac.toNat true target.toNat ip.toNat body
       s.draw.2.emitIp (ifcVia ifc) 3 mac.toNat (s.ifcMac ifc) body (d.advertisement target.toNat (s.ifcMac ifc)) d)

/-- Whether an interface answers echo requests: the in-band VLAN does not (R480). -/
def echoes : Iface → Bool
  | .inband _ => false
  | _ => true

/-- An echo request to the interface's own address is answered with its data (R481, R517); one on the in-band VLAN goes to the MSC,
which discards it (R480). `data` is what follows the checksum: identifier, sequence number and data. -/
def execEchoRequest (ifc : Iface) (mac : BitVec 48) (v6 : Bool) (src dst : BitVec 128) (data : List Byte)
    (s : State) : Out :=
  onIfc ifc s fun s =>
    let mine := if v6 then (s.ifcV6 ifc).contains dst.toNat else dst.toNat = s.ifcV4 ifc
    let n := if v6 then 16 else 4
    when' (s.ifcUp ifc && dst ≠ 0 && mine && echoes ifc) s
      (let d := s.answerTo ifc mac.toNat v6 dst.toNat src.toNat data
       s.draw.2.emitIp (ifcVia ifc) 4 mac.toNat (s.ifcMac ifc) (beBytes n dst.toNat ++ beBytes n src.toNat ++ data)
         (d.echo data) d)

end Sys2Proof.Machine
end

