-- ==== Sys2Proof/Machine/Power.lean ====
section
/-! DEFINITION. Power and cooling (R589 to R627, R732, R733): the draught limiter, metering and the governor, the
lease and boost, wear, heat, fuses, feeds and the flash-write inhibit. -/

namespace Sys2Proof.Machine

def State.region (s : State) (r : Nat) : RegionSt := s.regions.get RegionSt.reset r
def State.modRegion (s : State) (r : Nat) (g : RegionSt → RegionSt) : State :=
  { s with regions := s.regions.put r (g (s.region r)) }
def State.modPower (s : State) (g : Power → Power) : State := { s with power := g s.power }

/-- A record of a region's regulator controller goes to the MSC over the power bus (R686). -/
def State.postRegion (s : State) (r cls cause action : Nat) : State :=
  s.post (84 + r) 8 7 r cls cause action (s.partOfRegion r) 0
/-- A record of the MSC itself. -/
def State.postMsc (s : State) (cls cause action : Nat) : State := s.post 96 8 10 12 cls cause action 0xFF 0

/-! ### The draught limiter (R182, R607 to R609) -/

/-- The awake ceiling in force (R608, R614): none in a thermal hold. -/
def State.awakeCeiling (s : State) (r : Nat) : Nat := if nbit (s.region r).rows 4 then 0 else s.num (o8AwakeCeiling r)

/-- A kindle event is pending in a core in smoulder (R181). -/
def Core.kindling (k : Core) : Bool :=
  k.smoulder && !k.inReset && k.kindle ≠ 2 &&
    (k.kindle = 1 || (k.run && k.choose.isSome) || k.firing || k.restarting || k.mordant.isSome)

/-- A request joins those that wait (R607): the oldest first, and those of one smoulder clock cycle by field, cluster and core,
which is the order of the cores' numbers. -/
def queueRequest (t c : Nat) : List (Nat × Nat) → List (Nat × Nat)
  | [] => [(t, c)]
  | e :: r => if t < e.1 ∨ (t = e.1 ∧ c < e.2) then (t, c) :: e :: r else e :: queueRequest t c r

/-- A kindle event is detected at a smoulder edge, and the core requests a permit (R182). -/
def execKindle (c : Nat) (s : State) : Out :=
  onCore c s fun s =>
    let k := s.core c
    if k.kindling then
      (s.setCore c { k with kindle := 2 }).modRegion (coreRegion c) (fun x => { x with
        waiting := queueRequest (s.wt / 20) c x.waiting })
    else s

/-- The limiter grants the oldest waiting request while the bucket holds a permit and the ceiling allows
(R607, R608); `waited` are the cycles that the core waited (R182). A request whose core no longer waits is
passed over. -/
def execKindlePermitGrant (r waited : Nat) (s : State) : Out :=
  onRegion r s fun s =>
    let x := s.region r
    let l := x.waiting.filter (fun e => (s.core e.2).kindle = 2 && (s.core e.2).smoulder)
    match l with
    | (_, c) :: rest =>
      if 0 < x.permits && !s.power.halted && x.held.length < s.awakeCeiling r then
        let k := s.core c
        let k1 := ((k.leaveSmoulder (s.fabricIn r) s.wt).bumpCount 0x38 1).bumpCount 0x40 waited
        (s.setCore c k1).modRegion r (fun x => { x with
          permits := x.permits - 1, waiting := rest, held := addOnce x.held c })
      else s
    | [] => s.modRegion r (fun x => { x with waiting := [] })

/-- The bucket's refill (R607): none in a microsecond in which the fabric divider stepped upwards (R609). -/
def execPermitRefill (r : Nat) (s : State) : Out :=
  onRegion r s fun s => when' (!s.power.upStep) s (s.modRegion r (fun x => { x with permits := min 1470 (x.permits + 1470) }))

/-! ### Wear (R604 to R606) -/

/-- The integer parts of 2^(j/10) · 2^64. -/
def tenthPowers : List Nat :=
  [18446744073709551616, 19770730768400532066, 21189744572521466218, 22710605910750957083, 24340624733262758998,
    26087635650665564424, 27960035590699075257, 29966824157681538847, 32117646888694579732, 34422841614414192858]

/-- A wear count in whole wear-seconds. -/
def wearSeconds (w : SMap Nat) : Nat :=
  (w.map (fun (e : Nat × Nat) => e.2 * (tenthPowers[e.1]?).getD 0)).sum / (2 ^ 128 * 4840000000)

/-- `WEAR_S` of a region. -/
def State.wearS (s : State) (r : Nat) : Nat := wearSeconds (s.region r).wear

/-- `BOOST_CEILING_W` (R605). -/
def State.boostCeiling (s : State) : Nat :=
  let w := (((List.range 12).filter (fun r => s.num (o1RegionState r) ≠ 3)).map s.wearS).foldl max 0
  if w * 10 ≤ 315360000 * 8 then 32000
  else if 315360000 ≤ w then 26000
  else 56000 - ceilDiv (30000 * w) 315360000

/-- A millisecond of a region (R604, R627): `watts` is its average input power, `tj` its hottest junction. -/
def execWearTick (r watts : Nat) (tj : Int) (s : State) : Out :=
  onRegion r s fun s =>
    if s.num (o1RegionState r) = 3 then s
    else
      let t := tj - 85
      let j := (t % 10).toNat
      let q := t / 10
      let add := if q < -64 then 0 else watts * watts * 2 ^ (64 + q).toNat
      (s.modRegion r (fun x => { x with wear := x.wear.put j (x.wear.get 0 j + add) })).setNum (o8InputPowerW r)
        (f32Word ⟨watts, 1⟩)

/-- The MSC stores the wear counts (R606): while the flash is inhibited they wait, as they stand. -/
def State.storeWear (s : State) : State :=
  if s.num o8FlashInhibit = 1 then
    { s with regions := s.regions.mapV (fun x => { x with wearWait := some x.wear }) }.modPower (fun x => { x with wearDue := true })
  else
    { s with regions := s.regions.mapV (fun x => { x with wearStored := x.wear, wearWait := none }) }.modPower (fun x =>
      { x with wearDue := false })

/-- A store that waited is made (R606, R621). -/
def State.flushWear (s : State) : State :=
  { s with regions := s.regions.mapV (fun x => { x with wearStored := x.wearWait.getD x.wearStored, wearWait := none }) }.modPower
    (fun x => { x with wearDue := false })

/-- The hourly store (R606). -/
def execWearStore (s : State) : Out := .next s.storeWear

/-! ### Lease, boost and the cap (R595 to R603, R732, R733) -/

/-- The boost-window licence (R662). -/
def State.boostLicence (s : State) : Bool := nbit (s.num o7Features) 4

/-- The lease is in force. -/
def State.leased (s : State) : Bool := s.power.leaseState = 1 && !s.power.shed

/-- The part of a temperature or flow at or above zero. -/
def sensor (w : Word) : Frac := if nbit w.toNat 31 then ⟨0, 1⟩ else (f32 w.toNat).mag

/-- A condition of R602 holds. -/
def State.boostBarred (s : State) : Bool :=
  (List.range 12).any (fun r => nbit (s.region r).rows 1 || s.num (o1RegionState r) = 3 ||
    (s.num (o8BulkReservePct r) < 70 && (s.region r).powered)) ||
  Frac.le ⟨55, 1⟩ (sensor s.power.outlet) || !s.leased || s.power.boost ≤ 26000 || s.num o8FeedsOk ≠ 3

/-- Boost is permitted (R601). -/
def State.boostPermitted (s : State) : Bool :=
  s.num o8BoostState = 0 && s.boostLicence && 26000 < s.boostCeiling && !s.boostBarred

/-- The terms of R595 by their codes. -/
def State.capTerms (s : State) : List Nat :=
  let boost := s.num o8BoostState = 1 || s.boostPermitted
  let envelope := if s.num o8BoostState = 2 then 24000 else if boost then s.boostCeiling else 26000
  let lease := if !s.leased then 18000 else if boost then s.power.boost else s.power.grant
  let feeds := if s.num o8FeedsOk = 1 ∨ s.num o8FeedsOk = 2 then 16000 else 2 ^ 32
  [envelope, lease, s.num o8CoolantTermW, feeds, s.num o8PowerCeilingW]

/-- P_cap, and its reason (R595). -/
def State.powerCap (s : State) : Nat := s.capTerms.foldl min (2 ^ 32)
def State.capReason (s : State) : Nat := s.capTerms.idxOf s.powerCap

/-- A running boost ends (R602, R603). -/
def State.endBoost (s : State) (cause : Nat) : State :=
  if s.num o8BoostState = 1 then
    let b := s.blob o8BoostEndCauses
    (s.setNum o8BoostState 2).setBlob o8BoostEndCauses (patchB b (8 * cause) (leBytes 8 (leAt b (8 * cause) 8 + 1)))
  else s

/-- A boost has lasted 2.0 s (0), or 50 ms at or below 26 kW (1) (R602). -/
def execBoostTimeout (why : Nat) (s : State) : Out := .next (when' (why ≤ 1) s (s.endBoost why))

/-- Recovery ends (R603). -/
def execRecoveryEnd (s : State) : Out := .next (when' (s.num o8BoostState = 2) s (s.setNum o8BoostState 0))

/-- A write of `LEASE_GRANT` (R597): the state and the status. Its duration counts from the running tick on. -/
def State.writeLease (s : State) (d : List Byte) : State × Nat :=
  if d.length ≠ 16 then (s, 6)
  else
    let g := leAt d 0 4
    let b := leAt d 4 4
    let ms := leAt d 8 4
    if g < 18000 ∨ 26000 < g ∨ (b ≠ 0 ∧ (b < g ∨ 32000 < b)) ∨ ms < 100 ∨ 60000 < ms then (s, 7)
    else if 26000 < b ∧ !s.boostLicence then (s, 0x0B)
    else
      let s1 := s.modPower (fun x => { x with
        grant := g, boost := b, ticks := ms * 10 + 1, leaseId := leAt d 12 4, leaseState := 1 })
      (if b ≤ 26000 then s1.endBoost 5 else s1, 0)

/-- A write of `LEASE_GRANT`. -/
def execLeaseGrant (data : List Byte) (s : State) : Out := .next (s.writeLease data).1

/-- The end of a 100 µs tick (R598 to R600, R733). -/
def execLeaseTick (s : State) : Out :=
  .next (
    let s0 := if s.num o0ShedInput = 0 then s.modPower (fun x => { x with shed := false }) else s
    if s0.power.leaseState = 1 then
      if s0.power.ticks ≤ 1 then
        ((s0.modPower (fun x => { x with ticks := 0, leaseState := 2 })).addNum o8LeaseExpiries 1).endBoost 5
      else s0.modPower (fun x => { x with ticks := x.ticks - 1 })
    else s0)

/-- `LEASE_STATE` (R627). -/
def State.leaseBytes (s : State) : List Byte :=
  leBytes 4 s.power.grant ++ leBytes 4 s.power.boost ++ leBytes 4 (s.power.ticks / 10) ++ leBytes 4 s.power.leaseId ++
    leBytes 4 s.power.leaseState

/-- `SHED_N` has stayed low for 10 µs (R732, R733). -/
def execShedAssert (s : State) : Out :=
  .next (
    if s.num o0ShedInput = 1 then s
    else (((s.setNum o0ShedInput 1).addNum o0ShedEvents 1).modPower (fun x => { x with shed := true })).endBoost 5)

/-- `SHED_N` has stayed high for 10 µs (R733): the lease term returns at the next tick. -/
def execShedRelease (s : State) : Out := .next (s.setNum o0ShedInput 0)

/-! ### Metering and the governor (R592 to R596, R610) -/

/-- The set voltage of a region's `VCORE` in units of 1/192,000 V (R590): 0.60 V at D = 256, 0.85 V at D = 64, in between on the straight
line (DESIGN CHOICE, log entry 222). The bank moves it with each step of the fabric divider. -/
def vcoreAt (d : Nat) : Nat := 115200 + 250 * (256 - min 256 (max 64 d))
def State.vcore (s : State) (r : Nat) : Nat := if (s.region r).powered then vcoreAt (s.clk (36 + r)).fabricD else 0

/-- A microsecond of a region (R593, R610): its load, its ballast, and its rails. A region whose bank is off draws its ballast only:
its input falls no faster for that. -/
def State.meter (s : State) (watts : List Nat) (r : Nat) : State :=
  s.modRegion r (fun x =>
    if s.num (o1RegionState r) = 3 then { x with lastW := 0 }
    else
      let get := fun (j : Nat) => if x.powered then (watts[6 * r + j]?).getD 0 else 0
      let load := get 0
      let ballast := if load + 100 < x.lastW then min 1500 (x.lastW - 100 - load) else 0
      let add := fun (m : Sparse 64) (j w : Nat) => Sparse.wr m j (Sparse.rd m j + BitVec.ofNat 64 (w * 1000))
      let rails := (List.range 5).foldl (fun m j => add m (j + 1) (get (1 + j))) x.energy
      { x with energy := add (add rails 0 (load + ballast)) 6 ballast, lastW := load + ballast })

/-- The voltage of a feed is what the module measures: a free value, which no command carries. -/
def State.measureFeed (s : State) (b : Bool) : State :=
  let d := s.draw
  let v := s.blob o8FeedV
  d.2.setBlob o8FeedV (patchB v (4 * b2n b) (leBytes 4 ((Config.freeLong d.1).toNat % 2 ^ 32)))

/-- Both feeds are at or above 50.5 V, as sampled (R736): 0x424A0000 is 50.5 in binary32, whose positive finite words stand in the
order of their values. -/
def State.feedsHigh (s : State) : Bool :=
  [0, 4].all (fun o => 0x424A0000 ≤ leAt (s.blob o8FeedV) o 4 && leAt (s.blob o8FeedV) o 4 < 0x7F800000)

/-- The MSC's samples of a microsecond (R592): the voltage of each feed, and of the plane's power `p` what each feed gives, which only
one that supplies does; how two feeds share it is a free value, but neither carries more than 55 % while both are high (R736). -/
def State.sampleFeeds (s : State) (p : Nat) : State :=
  let t := (s.measureFeed false).measureFeed true
  let d := t.draw
  let most := if t.feedsHigh then 55 * p / 100 else p
  let a := match t.num o8FeedsOk % 4 with
    | 1 => p
    | 2 => 0
    | _ => (p - most) + Config.freeNat d.1 % (2 * most - p + 1)
  d.2.modPower (fun x => { x with feedW := (a, p - a) })

/-- The mean of the newest `n` samples is over, or under, `pct` percent of a bound. -/
def meanAbove (l : List Nat) (n pct w : Nat) : Bool := pct * w * (l.take n).length < 100 * (l.take n).sum
def meanBelow (l : List Nat) (n pct w : Nat) : Bool := 100 * (l.take n).sum < pct * w * (l.take n).length

/-- A microsecond of the governor (R592 to R596, R601, R609): `watts` holds for each region its load and its five
rails, `aux` the auxiliary input, and `stepSlot` whether this is a step opportunity of R562. -/
def execGovernorTick (watts : List Nat) (aux : Nat) (stepSlot : Bool) (s : State) : Out :=
  .next (
    let m := (List.range 12).foldl (fun s r => s.meter watts r) (s.modPower (fun x => { x with upStep := false }))
    let s0 := m.sampleFeeds ((List.range 12).map (fun r => (m.region r).lastW)).sum
    let p := s0.power.feedW.1 + s0.power.feedW.2
    let s1 := s0.modPower (fun x => { x with
      samples := (p :: x.samples).take 1000, auxSamples := (aux :: x.auxSamples).take 1000, aux := x.aux + BitVec.ofNat 64 (aux * 1000) })
    let l := s1.power.samples
    let s2 := if s1.boostPermitted && meanAbove l 1000 100 26000 then
        (s1.setNum o8BoostState 1).addNum o8Boosts 1 else s1
    let cap := s2.powerCap
    let low := if meanBelow l 10 97 cap then s2.power.lowUs + 1 else 0
    let d := s2.power.limitD
    let d' := if stepSlot && meanAbove l 10 100 cap then min 256 (d + 1)
      else if stepSlot && 1000 ≤ low then max (dividerFor (s2.num o0FabricMhzCeiling)) (d - 1) else d
    let s3 := s2.modPower (fun x => { x with
      halted := meanAbove l 10 105 cap, lowUs := min 1000 low, limitD := d' })
    let a := s3.power.auxSamples
    (s3.setNum (o8InputPowerW 12) (f32Word ⟨l.sum, l.length⟩)).setNum (o8InputPowerW 13) (f32Word ⟨a.sum, a.length⟩))

/-! ### Heat (R613 to R616) -/

/-- The rows of R614, in order: stack and junction values to set, and to clear (0 for none). -/
def thermalRows : List (Nat × Nat × Nat × Nat) :=
  [(85, 0, 83, 0), (88, 100, 86, 98), (90, 102, 89, 101)] ++ [(93, 104, 91, 102), (95, 105, 90, 100), (98, 112, 0, 0)]

/-- A row after a reading: set, cleared, or as it was. `waited` says that row 4 has been clear for 1 s. -/
def rowAfter (rows stack junction : Nat) (waited : Bool) (j : Nat) : Bool :=
  match thermalRows[j]? with
  | some (a, b, c, d) =>
    if a ≤ stack ∨ (b ≠ 0 ∧ b ≤ junction) then true
    else if stack < c ∧ (d = 0 ∨ junction < d) ∧ (j ≠ 3 ∨ waited) then false
    else nbit rows j
  | none => false

/-- The coolant term (R615). -/
def coolantTerm (inlet flow : Word) : Nat :=
  let t := sensor inlet
  let q := sensor flow
  if Frac.le t ⟨40, 1⟩ ∧ Frac.le ⟨38, 1⟩ q then 32000
  else
    let a := if Frac.le t ⟨40, 1⟩ then 26000 else 26000 - ceilDiv (1600 * (t.n - 40 * t.d)) t.d
    let b := 26000 * q.n / (40 * q.d)
    min a b

/-- The hottest stack channel and junction of a region, and the coolant, are read (R613 to R615): the rows of R614 that hold,
the coolant term, and the end of a boost that they bar. -/
def State.readHeat (s : State) (r st jn : Nat) (coolant : CoolantReading) : State :=
  let x := s.region r
  let below := st < 91 ∧ jn < 102
  let clear := if below then min 1000 (x.clearMs + 1) else 0
  let rows := ((List.range 6).map (fun j => if rowAfter x.rows st jn (1000 ≤ clear) j then 2 ^ j else 0)).sum
  let s1 := s.modRegion r (fun x => { x with rows := rows, clearMs := clear })
  let s2 := (s1.setNum (o8StackMaxC r) st).setNum (o8JunctionMaxC r) jn
  let s3 := (List.range 6).foldl (fun s j =>
    if nbit rows j && !nbit x.rows j then s.postRegion r 5 (j + 1) 0 else s) s2
  let s4 := s3.modPower (fun p => { p with
    inlet := coolant.inlet, outlet := coolant.outlet, flow := coolant.flow
    hotModule := (List.range 12).any (fun r => nbit (s3.region r).rows 3) })
  let s5 := (s4.setBlob o8Coolant (leBytes 4 coolant.inlet.toNat ++ leBytes 4 coolant.outlet.toNat ++
    leBytes 4 coolant.flow.toNat)).setNum o8CoolantTermW (coolantTerm coolant.inlet coolant.flow)
  let s6 := if nbit rows 1 then s5.endBoost 2 else s5
  if Frac.le ⟨55, 1⟩ (sensor coolant.outlet) then s6.endBoost 3 else s6

/-- A step of the awake ceiling (R614): down while the third row holds, up once it is clear. -/
def execAwakeCeilingStep (r : Nat) (s : State) : Out :=
  onRegion r s fun s =>
    let a := s.num (o8AwakeCeiling r)
    s.setNum (o8AwakeCeiling r) (if nbit (s.region r).rows 2 then max 5376 (a - 2688) else min 21504 (a + 2688))

/-! ### The wafer in reset (R616, R623, R668) -/

/-- A free value numbers the generators' seeds of all units (R86, R336). -/
def seedSpan : Nat := 300000

/-- Every region of the wafer is reset (R668): cores, clusters, networks, DRAM, ports, partitions and clock
units. What the MSC keeps stays. -/
def State.waferReset (s : State) : State :=
  let b := s.free
  { s with
    free := s.free + seedSpan
    cores := [], clusters := [], net := Net.reset, dram := Dram.reset, parts := []
    ports := (List.range 24).map (fun n =>
      (n, { PortSt.reset with gen := (let w := BitVec.ofNat 32 (Config.freeLong (b + 280000 + n)).toNat
                                      if w = 0 then 1 else w) }))
    fields := s.fields.mapV (fun x => { x with crossings := [], ueLast := none, tuples := [], fabOff := 0, toTell := [] })
    clocks := { s.clocks with
      units := [], marks0 := [], marks1 := [], shadow0 := [], shadow1 := [], markers := [], validPrimary := false, validAlt := false }
    regions := (List.range 12).map (fun r =>
      (r, { (s.region r) with
        permits := 0, held := [], waiting := [], seedAt := b + 1, mpSeedAt := b + 1
        sinceAt := s.fabricIn r, sinceNsAt := s.wt })) }

/-- A reset ends a signature in progress: its report is discarded (R711). -/
def State.stopSigning (s : State) : State :=
  if s.num o7AttestState = 1 then
    { s with msc := { s.msc with attest := [] } }.setNum o7AttestState 0
  else s

/-- What `REGION_STATE` and `FIELD_STATE` read while the wafer is held in reset: a unit in service reads not started; one that is
out of service, quarantined or lost stays so until the next start (R42, R43, R749). DESIGN CHOICE, log entry 203: the spec
says nothing of a unit in service. -/
def heldState (v : Nat) : Nat := if v = 1 then 0 else v

/-- The MSC holds the wafer in reset and switches the banks off (R616, R623). -/
def State.holdWafer (s : State) : State :=
  let s1 := s.waferReset
  let s2 := { s1 with regions := s1.regions.mapV (fun x => { x with powered := false }) }
  let s3 := (List.range 24).foldl (fun s n =>
    (((s.setNum (o4PortState n) 0).setNum (o4PortRate n) 0).setNum (o4PortConfig n) 0).setNum (o4LanesUp n) 0) s2
  let s4 := (List.range 84).foldl (fun s f => s.setNum (o2FieldState f) (heldState (s.num (o2FieldState f)))) s3
  let s5 := (List.range 12).foldl (fun s r =>
    ((s.setNum (o1RegionState r) (heldState (s.num (o1RegionState r)))).setNum (o6GraphState r) 0).setNum
      (o6PartitionState r) 0) s4
  let s6 := { s5 with msc := { s5.msc with
    starting := if s5.msc.booted then none else s5.msc.starting, bcast := none, asked := [] } }
  s6.stopSigning.setNum o0ModuleState 3

/-- No ballast follows a coolant shutdown (R610). -/
def State.dropLoads (s : State) : State := { s with regions := s.regions.mapV (fun x => { x with lastW := 0 }) }

/-- After 2 s of excess inlet temperature, or of low flow, the MSC shuts the wafer down (R616). -/
def execCoolantShutdown (inlet : Bool) (s : State) : Out :=
  .next (
    let s1 := (((s.endBoost 3).holdWafer).dropLoads).modPower (fun x => { x with shutdown := true })
    let s2 := (List.range 12).foldl (fun s r =>
      if s.num (o8FuseState r) = 0 then s.setNum (o8FuseState r) 2 else s) s1
    s2.postMsc 5 (if inlet then 7 else 8) 7)

/-! ### Fuses (R617 to R619) -/

/-- Whether a channel's flat address lies in a region. -/
def keyRegion (key : Nat) : Nat := chanOf key / 24 % 12

/-- Nothing of a region without supply holds state: its cores, clusters, DRAM and the traffic within it. -/
def State.darken (s : State) (r : Nat) : State :=
  let out := fun (k : Nat) => regionOfCluster k ≠ r
  let s1 := s.loseRegionNodes r
  { s1 with
    cores := s1.cores.filter (fun e => out (clusterOf e.1))
    clusters := s1.clusters.filter (fun e => out e.1)
    net := { s1.net with
      flights := s1.net.flights.filter (fun e => out e.2.cluster)
      ctl := s1.net.ctl.filter (fun q => out (s.senderOf q.sender).1) }
    dram := { s1.dram with
      mem := s1.dram.mem.filter (fun e => keyRegion e.1 ≠ r)
      err := s1.dram.err.filter (fun e => keyRegion e.1 ≠ r)
      chans := s1.dram.chans.filter (fun e => e.1 / 24 % 12 ≠ r) } }

/-- A region's electronic fuse opens (R617, R618): the region is lost, and the running periods of the partition that holds it
drop with cause 9 (R452). -/
def State.openFuse (s : State) (r cause : Nat) : State :=
  if s.num (o8FuseState r) = 0 ∧ 1 ≤ cause ∧ cause ≤ 5 then
    let s1 := (s.setNum (o8FuseState r) 1).setNum (o8FuseCause r) cause
    let s2 := (s1.darken r).modRegion r (fun x => { x with powered := false, lastW := 0, held := [], waiting := [] })
    (((s2.pushCause (s.partOfRegion r) 9).loseRegion r 3).endBoost 6).postRegion r 4 cause 6
  else s

/-- A fuse opens. -/
def execFuseOpen (r cause : Nat) (s : State) : Out := onRegion r s fun s => s.openFuse r cause

/-- A reading of the sensors of a region and of the coolant (R613 to R615). Rows that begin to hold are
reported (R687), and the last one opens the region's fuse (R614, R617). -/
def execThermalSample (r : Nat) (stackC junctionC : List Nat) (coolant : CoolantReading) (s : State) : Out :=
  onRegion r s fun s =>
    let t := s.readHeat r (stackC.foldl max 0) (junctionC.foldl max 0) coolant
    if nbit (t.region r).rows 5 && !nbit (s.region r).rows 5 then t.openFuse r 5 else t

/-! ### Supplies (R612, R620 to R623) -/

/-- `BULK_RESERVE_PCT` at a plane voltage (R612). -/
def bulkPct (mv : Nat) : Nat :=
  if mv ≤ 40000 then 0 else min 100 ((mv * mv - 40000 * 40000) * 100 / (51500 * 51500 - 40000 * 40000))

/-- The plane's voltage is known: the reserve of each region that has supply, and what follows from it (R602). -/
def State.planeAt (s : State) (mv : Nat) : State :=
  let s1 := (List.range 12).foldl (fun s r =>
    if s.num (o1RegionState r) = 3 then s else s.setNum (o8BulkReservePct r) (bulkPct mv)) (s.modPower (fun x => { x with planeMv := mv }))
  if bulkPct mv < 70 then s1.endBoost 4 else s1

/-- An open firmware update is abandoned (R621, R659, R661): its bank is invalid. -/
def State.abandonUpdate (s : State) : State :=
  match s.msc.upd with
  | some u =>
    let b := s.msc.banks.get Bank.reset u.bank
    { s with msc := { s.msc with
        upd := none, banks := s.msc.banks.put u.bank { b with state := 2 } } }.setNum o0FwUpdateResult 5
  | none => s

/-- The supplies sag (R620, R621). -/
def execFlashInhibitSet (planeMv auxMv : Nat) (s : State) : Out :=
  .next (
    if planeMv < 50500 ∨ auxMv < 11200 then
      let s1 := ((s.planeAt planeMv).setNum o8AuxV (f32Word ⟨auxMv, 1000⟩)).abandonUpdate
      if s.num o8FlashInhibit = 1 then s1 else (s1.setNum o8FlashInhibit 1).postMsc 4 10 0
    else s)

/-- The supplies have stayed good for 1 s (R620, R621): flash writes that waited are made. -/
def execFlashInhibitClear (planeMv auxMv : Nat) (s : State) : Out :=
  .next (
    if 51500 ≤ planeMv ∧ 11600 ≤ auxMv ∧ s.num o8FlashInhibit = 1 then
      let s1 := ((s.planeAt planeMv).setNum o8AuxV (f32Word ⟨auxMv, 1000⟩)).setNum o8FlashInhibit 0
      let s2 := { s1 with fields := s1.fields.mapV (fun x => { x with soft := x.soft ++ x.softWait, softWait := [] }) }
      if s2.power.wearDue then s2.flushWear else s2
    else s)

/-- A feed has stayed below 40 V for 100 µs (R622). -/
def execFeedLost (b : Bool) (s : State) : Out :=
  .next (
    let v := s.num o8FeedsOk
    let s1 := s.measureFeed b
    if nbit v (b2n b) then ((s1.setNum o8FeedsOk (v - 2 ^ b2n b)).endBoost 6).postMsc 4 8 0 else s1)

/-- A feed has stayed above 50.5 V for 1 s (R622). -/
def execFeedSupplying (b : Bool) (s : State) : Out :=
  .next (
    let v := s.num o8FeedsOk
    let s1 := s.measureFeed b
    if nbit v (b2n b) then s1 else s1.setNum o8FeedsOk (v + 2 ^ b2n b))

/-- The plane has stayed below 46 V for 100 µs (R623). -/
def execPlaneHold (s : State) : Out :=
  .next (
    let s1 := ((s.endBoost 4).holdWafer)
    { s1.modPower (fun x => { x with planeMv := min x.planeMv 45999 }) with
      msc := { s1.msc with planeHeld := true } }.postMsc 4 9 7)

/-- Both oscillators fail together (R573): the watchdog holds the module in reset, the wafer and the MSC with it. An
open update is abandoned as at every reset (R661). DESIGN CHOICE: only a cold start of the auxiliary input ends it. -/
def execMscWatchdogHold (s : State) : Out :=
  .next (
    let lost := s.msc.updLost || s.msc.upd.isSome
    let s1 := { s with msc := { s.msc with updLost := lost } }.abandonUpdate.holdWafer
    { s1 with
      hdp := s1.hdp.restart
      msc := { s1.msc with booted := false, starting := none, bcast := none, watchdog := true } })

/-! ### The coefficient table (R625) -/

/-- Whether a table is valid. -/
def coefOk (d : List Byte) : Bool :=
  let v := fun (j : Nat) => leAt d (4 * j) 4
  (List.range 10).all (fun j => (f32 (v j)).isFin && (!nbit (v j) 31 || v j = 2 ^ 31)) &&
    ((f32 (v 10)).isFin && !nbit (v 10) 31 && v 10 ≠ 0 && Frac.le (f32 (v 10)).mag ⟨1, 1⟩) &&
    ((List.range 5).all (fun j => v (11 + j) = 0))

/-- A write of `COEF_TABLE` (R625): the state and the status. -/
def State.writeCoef (s : State) (d : List Byte) : State × Nat :=
  if d.length ≠ 64 then (s, 6)
  else if s.num o8FlashInhibit = 1 then (s, 0x0A)
  else if coefOk d then (s.setBlob o8CoefTable d, 0) else (s, 7)

/-- A write of `COEF_TABLE`. -/
def execCoefTable (data : List Byte) (s : State) : Out := .next (s.writeCoef data).1

end Sys2Proof.Machine
end

