-- ==== Sys2Proof/Machine/Graphs.lean ====
section
/-! DEFINITION. Partition layout, graph loads, unloads and variants, and partition resets (R44 to R51, R240 to
R253, R514, R669 to R672, R677, R678). -/

namespace Sys2Proof.Machine

/-! ### The layout (R44 to R49) -/

/-- The fields whose wafer supervisor runs: the primary, or the standby that has taken over (R44, R684). -/
def State.supervisorRuns (s : State) (i : Nat × Nat) : Bool :=
  let r := s.num o0WsPrimary % 12
  s.regionUp r && i.1 ≤ r && r ≤ i.2

/-- Whether some of the regions lie in an island, and none of those islands has a running supervisor. -/
def State.cutOff (s : State) (rs : List Nat) : Bool :=
  let up := rs.filter s.regionUp
  !up.isEmpty && up.all (fun r => !s.supervisorRuns (s.island r))

/-- The regions whose membership a split changes (R47). -/
def State.changedRegions (s : State) (v : Nat) : List Nat :=
  (List.range 12).filter (fun r =>
    s.partRegions (s.partOfRegion r) ≠
      (List.range 12).filter (fun q => partOf (v % 2048) q = partOf (v % 2048) r))

/-- A partition holds a cluster that failed in service: it stays faulted until the next start (R35, R678). -/
def State.holdsFailed (s : State) (p : Nat) : Bool :=
  (s.partFields p).any (fun f => (List.range 96).any (fun j => s.clusterState (f * 96 + j) = 4))

/-- A partition id that starts afresh: it holds no graph and is idle (R678), or faulted as long as one of its clusters failed in
service (R35). -/
def State.freshPart (s : State) (p : Nat) : State :=
  let t := (s.removeGraph p).setNum (o6PartitionState p) (if s.holdsFailed p then 3 else 0) |>.modPart p (fun x => { x with reset? := none })
  { t with msc := { t.msc with asked := t.msc.asked.filter (· ≠ p) } }

/-- A write of `PARTITION_SPLIT` (R44, R47, R48, R359, R514): the state and the status. -/
def State.writeSplit (s : State) (v : Nat) : State × Nat :=
  let rs := s.changedRegions v
  if rs.any (fun r => s.regionUp r && s.cutOff [r]) then (s, 8)
  else if rs.any (fun r =>
      let g := s.num (o6GraphState (s.partOfRegion r))
      g = 1 || g = 2 || s.openOf r ≠ 0 || s.openOf (r + 12) ≠ 0) then (s, 8)
  else
    let old := rs.map s.partOfRegion
    let s1 := (s.setNum o0PartitionSplit (v % 2048)).resetPlane rs
    let s2 := (old ++ rs.map s1.partOfRegion).eraseDups.foldl State.freshPart s1
    ((List.range 24).foldl State.closeWindows s2.windows, 0)

/-- A write of `PARTITION_SPLIT`. -/
def execPartitionSplit (v : BitVec 16) (s : State) : Out := .next (s.writeSplit v.toNat).1

/-! ### A load (R240 to R243) -/

/-- One line of a package is read, wherever it lies (R240): the bytes, or none where a line cannot be read. -/
def State.readLine (s : State) (a n : Nat) : State × Option (List Byte) :=
  if !s.gaValid a n then (s, none)
  else
    (cutParts 3 a n).foldl (fun (x : State × Option (List Byte)) q =>
      let key := s.dramKey q.1
      let r := if (s.chan (chanOf key)).chState = 3 then (x.1, none) else x.1.dramRead key q.2
      (r.1, match x.2, r.2 with | some a, some b => some (a ++ b) | _, _ => none)) (s, some [])

/-- Lines are read until one cannot be: the bytes before it. -/
def State.readLines (a len : Nat) : Nat → Nat → List Byte → State → State × List Byte
  | 0, _, acc, s => (s, acc)
  | n + 1, off, acc, s =>
    if len ≤ off then (s, acc)
    else
      match s.readLine (a + off) (min 64 (len - off)) with
      | (s', some d) => State.readLines a len n (off + 64) (acc ++ d) s'
      | (s', none) => (s', acc)

/-- The loader's copy of a package (R240): the header, and where it passes its checks the rest, up to the first
line that cannot be read. -/
def State.copyPackage (s : State) (a : Nat) : State × List Byte :=
  let h := State.readLines a 256 4 0 [] s
  match headBad h.2 with
  | some _ => h
  | none =>
    let len := gpLength h.2
    State.readLines a len (len / 64 + 1) 256 h.2 h.1

/-- The result of a load is recorded (R243, R244). -/
def State.recordLoad (s : State) (p : Nat) (d : List Byte) : State :=
  (s.setNum (o6LoadResult p) (leAt d 0 1)).setBlob (o6LoadDetail p) d

/-- A write of `GRAPH_LOAD` (R44, R241 step 1, R256): the state and the status. -/
def State.writeLoad (s : State) (p a : Nat) : State × Nat :=
  if gaSpace a ≠ 4 ∨ nfld a 56 4 ≠ p ∨ !s.gaValid a 1 then (s, 7)
  else if s.cutOff (s.partRegions p) then (s, 8)
  else if s.num (o6GraphState p) ≠ 0 then (s.recordLoad p (loadValues 1 0 0), 0)
  else
    let c := s.copyPackage a
    ((c.1.setNum (o6GraphState p) 1).modPart p (fun x => { x with copy := some c.2 }), 0)

/-- A write of `GRAPH_LOAD`. -/
def execGraphLoad (p : Nat) (addr : BitVec 64) (s : State) : Out :=
  onPart p s fun s => when' (s.isPart p) s (s.writeLoad p addr.toNat).1

/-- The regions of a partition as `REGION_SPAN` writes them. -/
def State.spanMask (s : State) (p : Nat) : Nat := ((s.partRegions p).map (fun r => 2 ^ r)).sum

/-- Steps 2 to 9 of R241 on a copy: what the install would leave, with the graph and its variants in force, or the
detail of the first step that fails. -/
def State.checkLoad (s : State) (p : Nat) (b : List Byte) : Except (List Byte) (State × Package × SMap Nat) :=
  match readPackage (fun k => k < 8064 && s.partOfCluster k = p) b with
  | .error a => .error (loadValues 2 a 0)
  | .ok g0 =>
    if g0.span ≠ s.spanMask p then .error (loadValues 3 g0.span (s.spanMask p))
    else
      match (s.partRegions p).find? (fun r => !s.regionUp r) with
      | some r => .error (loadValues 4 r 0)
      | none =>
        if g0.remote && !s.multiModule then .error (loadValues 0xC 0 0)
        else
          match s.checkPlacement p g0 with
          | .error d => .error d
          | .ok (alts, g) =>
            let s1 := s.install p g alts
            match s1.checkResources p g <|> g.checkVariants alts <|> g.checkGraph <|> s1.checkSlots p g with
            | some d => .error d
            | none => .ok (s1, g, alts)

/-- A load that fails leaves the partition as it was (R242). -/
def State.failLoad (s : State) (p : Nat) (d : List Byte) : State :=
  ((s.setNum (o6GraphState p) 0).modPart p (fun x => { x with copy := none })).recordLoad p d

/-- `FRAME_LEN` and `TURNS` of the loaded graph (R315). -/
def State.showFrame (s : State) (p : Nat) : State :=
  match s.clusters.find? (fun (e : Nat × Cluster) => s.partOfCluster e.1 = p && e.2.frameLen ≠ 0 && e.2.spCtrl ≠ 0) with
  | some e => (s.setNum (o6FrameLen p) e.2.frameLen).setNum (o6Turns p) e.2.turns
  | none => s

/-- The graph is installed (R250): the counts since a load start again, and a faulted partition is idle (R678). -/
def State.loaded (s : State) (p : Nat) (g : Package) (alts : SMap Nat) : State :=
  let s1 := s.modPart p (fun x => { x with
    copy := none, pkg := some g, variants := alts, lost := [], period := none, admitted := none, planned := 0, holds := [] })
  let s2 := ((s1.setNum (o6GraphState p) 2).setNum (o6GraphId p) g.graphId).setNum (o6AlternatesActive p) alts.length
  let s3 := ((s2.setNum (o6MordantDeadCores p) 0).setNum (o6StitchDrops p) 0).setNum (o6DeadCores p) 0
  let s4 := if s.holdsFailed p then s3 else s3.setNum (o6PartitionState p) 0
  (s4.showFrame p).recordLoad p (loadValues 0 0 0)

/-- The loader runs (R241): `silent` are the clusters whose loader does not respond. -/
def execGraphLoadRun (p : Nat) (silent : List Nat) (s : State) : Out :=
  onPart p s fun s =>
    match (s.part p).copy with
    | none => s
    | some b =>
      match s.checkLoad p b with
      | .error d => s.failLoad p d
      | .ok (s1, g, alts) =>
        match silent.find? (fun k => k < 8064 && s.partOfCluster k = p) with
        | some k => s.failLoad p (loadValues 0xD k 0)
        | none => s1.loaded p g alts

/-! ### Resets of a partition (R669 to R672, R252) -/

/-- A partition reset is requested; a partition that is faulted stays so (R678). -/
def State.askReset (s : State) (p : Nat) (remove : Bool) : State :=
  let s1 := (if s.num (o6PartitionState p) = 3 then s else s.setNum (o6PartitionState p) 2).modPart p (fun x => { x with reset? := some remove })
  { s1 with msc := { s1.msc with asked := addOnce s1.msc.asked p } }

/-- A write of `PARTITION_RESET` (R671, R672): the state and the status. -/
def State.writePartReset (s : State) (p v : Nat) : State × Nat :=
  if v ≠ 1 ∧ v ≠ 2 then (s, 7)
  else if s.num (o6GraphState p) = 1 ∨ s.num (o6PartitionState p) = 3 then (s, 8)
  else if s.msc.starting.isSome then (s, 9)
  else (s.askReset p (v = 2), 0)

/-- A write of 1 to `PARTITION_RESET`. -/
def execPartitionResetKeep (p : Nat) (s : State) : Out :=
  onPart p s fun s => when' (s.isPart p) s (s.writePartReset p 1).1

/-- A write of 2 to `PARTITION_RESET`. -/
def execPartitionResetRemove (p : Nat) (s : State) : Out :=
  onPart p s fun s => when' (s.isPart p) s (s.writePartReset p 2).1

/-- A write of `GRAPH_UNLOAD` (R252): the state and the status. -/
def State.writeUnload (s : State) (p v : Nat) : State × Nat :=
  if v ≠ 1 then (s, 7)
  else if s.openIn p ≠ 0 ∨ s.num (o6GraphState p) = 1 then (s, 8)
  else if s.num (o6GraphState p) = 0 then (s, 0)
  else (s.askReset p true, 0)

/-- A write of `GRAPH_UNLOAD`. -/
def execGraphUnload (p : Nat) (v : BitVec 8) (s : State) : Out :=
  onPart p s fun s => when' (s.isPart p) s (s.writeUnload p v.toNat).1

/-- A reset is over: the partition is faulted, or idle (R678, R683). -/
def State.resetOver (s : State) (p : Nat) : State :=
  let s1 := s.modPart p (fun x => { x with reset? := none })
  let s2 := { s1 with msc := { s1.msc with asked := s1.msc.asked.filter (· ≠ p) } }
  if s2.num (o6PartitionState p) = 3 then s2 else s2.setNum (o6PartitionState p) 0

/-- The reset that keeps the graph: the loader installs it again with the variants in force (R669 step 5). The
next period starts by R436. -/
def State.resetKeep (s : State) (p : Nat) : State :=
  let x := s.part p
  let s1 := s.resetPlane (s.partRegions p)
  match x.pkg with
  | some g =>
    let planned := if x.period.isSome then s.nextStart p s.wt else x.planned
    (s1.install p g x.variants).modPart p (fun y => { y with period := none, planned := planned })
  | none => s1

/-- The reset that removes the graph (R669 step 6). -/
def State.resetRemove (s : State) (p : Nat) : State :=
  (((s.resetPlane (s.partRegions p)).endWindow p s.wt).removeGraph p).holdPart p

/-- A requested reset runs once the running period has ended and its ports have committed or rolled back (R669). -/
def execPartitionResetRun (p : Nat) (s : State) : Out :=
  onPart p s fun s =>
    let x := s.part p
    match x.reset? with
    | none => s
    | some remove =>
      if x.boundary then
        let s1 := s.voidAdmission p
        (if remove then s1.resetRemove p else s1.resetKeep p).resetOver p
      else s

/-! ### Alternate variants (R253, R674 to R677) -/

/-- The variant for one lost core is installed, or the partition faults (R677). -/
def State.installAlternate (p : Nat) (silent : List Nat) (s : State) (c : Nat) : State :=
  let x := s.part p
  let k := clusterOf c
  match x.pkg with
  | none => s
  | some g =>
    match g.variant k (coreIdx c) with
    | none => s.faultPart p
    | some v =>
      if x.variants.has k || g.variantBad v || silent.contains k then s.faultPart p
      else
        let g' := g.swap v
        let s1 := (s.installVariant g' v).modPart p (fun y => { y with
          pkg := some g', variants := y.variants.put k (coreIdx c), lost := y.lost.filter (· ≠ c) })
        s1.setNum (o6AlternatesActive p) (s1.part p).variants.length

/-- The loader installs the variants for the cores lost, once the boundary's restart and mordant are done (R674
step 4). -/
def execAlternateInstall (p : Nat) (silent : List Nat) (s : State) : Out :=
  onPart p s fun s =>
    let x := s.part p
    if x.reset?.isNone && x.boundary && s.boundaryDone p && s.num (o6GraphState p) = 2 then
      x.lost.foldl (State.installAlternate p silent) s
    else s

end Sys2Proof.Machine
end

