-- ==== Sys2Proof/Machine/Stitch.lean ====
section
/-! DEFINITION. Stitch crossings in service (R307 to R314, R321, R682, R683): lane repair, retraining and the
recheck of the graphs that use a crossing. -/

namespace Sys2Proof.Machine

/-- A crossing under the name of its northern or western side: edge 2 or 1. -/
def sideOf (h : Nat × Nat × Nat) : Nat × Nat × Nat :=
  match fieldAcross h.1 h.2.1 with
  | some n => if h.2.1 = 0 ∨ h.2.1 = 3 then (n, (h.2.1 + 2) % 4, h.2.2) else h
  | none => h

/-- The other side of a crossing. -/
def otherSide (h : Nat × Nat × Nat) : Nat × Nat × Nat :=
  match fieldAcross h.1 h.2.1 with
  | some n => (n, (h.2.1 + 2) % 4, h.2.2)
  | none => h

/-- The port that faces across an edge has the edge's number; the cluster at a crossing. -/
def sideCluster (h : Nat × Nat × Nat) : Nat := edgeCluster h.1 h.2.1 h.2.2

/-- Whether a crossing exists: both records hold a byte for it (R37). -/
def State.crossingExists (s : State) (h : Nat × Nat × Nat) : Bool :=
  h.1 < 84 && edgeOk h.2.1 h.2.2 && (fieldAcross h.1 h.2.1).isSome && s.stitchByte h.1 h.2.1 h.2.2 ≠ 0

/-- Changes a crossing's working state on one side. -/
def State.modCrossing (s : State) (h : Nat × Nat × Nat) (g : Crossing → Crossing) : State :=
  s.modField h.1 (fun f => { f with crossings := f.crossings.put (stitchIdx h.2.1 h.2.2) (g (f.crossing h.2.1 h.2.2)) })

/-! ### Lane repair (R309) -/

/-- The spare lanes of an edge that are in use. -/
def DefectMap.addSpares (d : DefectMap) (edge n : Nat) : DefectMap :=
  { d with spareUsed := Sparse.wr d.spareUsed edge (Sparse.rd d.spareUsed edge + BitVec.ofNat 16 n) }

/-- The receiving field controller replaces a lane that has corrected more than 16 errors within 1 ms by a free spare
of its group of 64 (R307, R309). -/
def execLaneRepair (f edge idx group _lane corrected : Nat) (s : State) : Out :=
  onField f s fun s =>
    let h := (f, edge, idx)
    let c := (s.field f).crossing edge idx
    let used := (Sparse.rd c.spares group).toNat
    if s.crossingExists h && 16 < corrected && used < 2 then
      let s1 := s.modCrossing h (fun c => { c with spares := Sparse.wr c.spares group (BitVec.ofNat 8 (used + 1)) })
      (s1.rewriteMap f (fun x => { x with dm := x.dm.addSpares edge 1 })).modCluster (sideCluster h)
        (fun x => (x.bump laneRepairCount 1).postTelem 4 edge (s.fabricOf f))
    else s

/-! ### Retraining (R310, R311) -/

/-- Whether a router's installed entries use a port. -/
def Cluster.usesPort (x : Cluster) (p : Nat) : Bool :=
  x.slots.any (fun (e : Nat × SlotEntry) => e.2.valid && (e.2.out p || e.2.inPort = p))

/-- The partitions whose installed slot tables use a crossing (R311, R313). -/
def State.usersOf (s : State) (h : Nat × Nat × Nat) : List Nat :=
  ([h, otherSide h].filterMap (fun q =>
    let k := sideCluster q
    let p := s.partOfCluster k
    if s.num (o6GraphState p) = 2 && (s.cluster k).usesPort q.2.1 then some p else none)).eraseDups

/-- A retraining begins (R311 steps 1 and 2): both sides clamp the crossing, which takes its message-plane link down (R319,
R320), and every partition that uses it starts no period until the retraining ends. The drop of its current period sets out
for its controller with the cause stitch retrain, and arrives by `DROP_CAUSE_ARRIVAL`. -/
def State.startRetrain (s : State) (h : Nat × Nat × Nat) : State :=
  let ps := s.usersOf h
  let clamp := fun (c : Crossing) => { c with retraining := true }
  let s0 := s.postField h.1 5 3 1 (if ps.isEmpty then 0 else 1) 0
  let s1 := ((s0.modCrossing h clamp).modCrossing (otherSide h) clamp).downLink (sideCluster h) h.2.1 3
  ps.foldl (fun s p => (s.modPart p (fun x =>
    { x with holds := (x.holds.filter (· ≠ sideOf h)) ++ [sideOf h] })).pushCause p 6) s1

/-- Whether a retraining of the crossing may begin: it is trained to 6 cycles (one that is not stays as it is until the next
start, R314), and none runs. -/
def State.mayRetrain (s : State) (h : Nat × Nat × Nat) : Bool :=
  s.crossingExists h && s.stitchByte h.1 h.2.1 h.2.2 = 6 && !((s.field h.1).crossing h.2.1 h.2.2).retraining

/-- The crossing carries lanes now: it exists, has trained to some latency (R37), and does not retrain. -/
def State.tracked (s : State) (h : Nat × Nat × Nat) : Bool :=
  s.crossingExists h && s.stitchByte h.1 h.2.1 h.2.2 < 128 && !((s.field h.1).crossing h.2.1 h.2.2).retraining

/-- Whether what a field controller has found requests a retraining (R310, R321). The lane faults are those of the crossing in
both its directions. -/
def State.retrainDue (s : State) (h : Nat × Nat × Nat) (why : RetrainWhy) : Bool :=
  let c := (s.field h.1).crossing h.2.1 h.2.2
  let o := otherSide h
  let faults := c.laneFaults ++ ((s.field o.1).crossing o.2.1 o.2.2).laneFaults
  match why with
  | .margin _ v => v < 8
  | .thirdSpare => c.spares.any (fun (e : Nat × Byte) => 2 ≤ e.2.toNat)
  | .laneFaults => faults.any (fun t => 4 ≤ faults.countP (fun u => u ≤ t && t ≤ u + 10 ^ 9))
  | .linkDown => [h, otherSide h].any (fun q =>
      let d := ((s.node (sideCluster q)).out q.2.1).down
      d = 1 || d = 2)

/-- The margin of a receiving lane group is sampled (R308): the group's, the field's lowest since it was read (R315), and the
telemetry record (R302). -/
def State.noteMargin (s : State) (h : Nat × Nat × Nat) (group v : Nat) : State :=
  let s1 := s.modCrossing h (fun c => { c with margins := c.margins.put group v })
  (s1.setNum (o2StitchMarginMin h.1) (min (s1.num (o2StitchMarginMin h.1)) v)).modCluster (sideCluster h)
    (fun x => x.postTelem 3 h.2.1 (s.fabricOf h.1))

/-- A crossing requests retraining (R310). The margin of any trained crossing is sampled (R308); only one trained to 6 cycles
retrains in service (R314). -/
def execStitchRetrainRequest (f edge idx : Nat) (why : RetrainWhy) (s : State) : Out :=
  onField f s fun s =>
    let h := (f, edge, idx)
    let s1 := match why with
      | .margin g v => if s.tracked h then s.noteMargin h g v else s
      | _ => s
    if s1.mayRetrain h && s1.retrainDue h why then s1.startRetrain h else s1

/-- A write of `STITCH_RETRAIN` (R310, R315): the state and the status. -/
def State.writeStitch (s : State) (f v : Nat) : State × Nat :=
  let h := (f, nfld v 14 2, nfld v 0 4)
  if !s.crossingExists h then (s, 7)
  else if ((s.field f).crossing h.2.1 h.2.2).retraining then (s, 9)
  else if s.mayRetrain h then (s.startRetrain h, 0) else (s, 8)

/-- A write of `STITCH_RETRAIN`. -/
def execStitchRetrain (f : Nat) (v : BitVec 16) (s : State) : Out :=
  onField f s fun s => (s.writeStitch f v.toNat).1

/-- The lanes of a crossing, as group and lane, that a side's fuse block (R636) and soft fuses of kind 7 (R638) name as failing
(DESIGN CHOICE, log entry 239: how lanes are numbered). -/
def State.fusedLanes (s : State) (h : Nat × Nat × Nat) : List (Nat × Nat) :=
  let x := s.field h.1
  let fused := (x.fuses.lanes.filter (fun l => l.1 = stitchIdx h.2.1 h.2.2)).map (fun l => l.2)
  let soft := (x.soft ++ x.softWait).filter (fun r => r.kind = 7 && r.loc / 2 ^ 14 % 4 = h.2.1 && r.loc / 2 ^ 8 % 64 = h.2.2)
  (fused ++ soft.map (fun (r : SoftFuse) => (r.loc % 2 ^ 8 / 64, r.loc % 64))).eraseDups

/-- What a training reaches on a crossing, where each group needs a spare at least for every lane of either side that is known to
fail (R307, R636). -/
def State.withFuses (s : State) (h : Nat × Nat × Nat) (r : CrossingResult) : CrossingResult :=
  let bad := s.fusedLanes h ++ s.fusedLanes (otherSide h)
  let need := fun (l : List (Nat × Nat)) (g : Nat) => l.countP (fun x => x.1 = g)
  { r with spares := (List.range (bad.foldl (fun n x => max n (x.1 + 1)) r.spares.length)).map (fun g =>
      max (r.spares.getD g 0) (max (need (s.fusedLanes h) g) (need (s.fusedLanes (otherSide h)) g))) }

/-- The byte that a training leaves (R37, R307): a crossing with a group of more than two bad lanes, for which `spares` counts
the spares that the group needs, does not train. -/
def trainedByte (r : CrossingResult) : Byte :=
  match r.latency with
  | some n => BitVec.ofNat 8 (if 6 ≤ n ∧ n ≤ 127 ∧ r.spares.all (· ≤ 2) then n else 0x80)
  | none => 0x80#8

/-- One side takes the result of a training: its byte, its spares, and the working state of a fresh training
(R307, R308, R311 step 4). -/
def State.takeTraining (s : State) (h : Nat × Nat × Nat) (r : CrossingResult) : State :=
  let n := r.spares.map (min · 2)
  let old := (((s.field h.1).crossing h.2.1 h.2.2).spares.map (fun (e : Nat × Byte) => e.2.toNat)).sum
  let s1 := s.modCrossing h (fun _ =>
    { Crossing.reset with spares := Sparse.ofList 0 (n.map (BitVec.ofNat 8)) })
  s1.rewriteMap h.1 (fun x =>
    let used := Sparse.rd x.dm.spareUsed h.2.1 - BitVec.ofNat 16 old + BitVec.ofNat 16 n.sum
    { x with dm := { x.dm with
      stitch := Sparse.wr x.dm.stitch (stitchIdx h.2.1 h.2.2) (trainedByte r)
      spareUsed := Sparse.wr x.dm.spareUsed h.2.1 used } })

/-- The clamp of a crossing's message-plane link ends with its retraining (R321): the link is up again when it trained, and has
no working neighbour otherwise (`State.linkReason`). -/
def State.raiseLink (s : State) (h : Nat × Nat × Nat) : State :=
  s.modNode (sideCluster h) (fun x => x.setOut h.2.1 { x.out h.2.1 with down := 0 })

/-- The loader checks an affected graph again (R311 steps 5 and 6, R683): it goes on, or is removed. -/
def State.recheck (s : State) (h : Nat × Nat × Nat) (p : Nat) : State :=
  let s1 := s.modPart p (fun x => { x with holds := x.holds.filter (· ≠ sideOf h) })
  match (s1.part p).pkg with
  | none => s1
  | some g =>
    match s1.checkSlots p g with
    | none => s1
    | some d =>
      if s1.num (o6PartitionState p) = 3 then s1
      else ((s1.recordLoad p d).setNum (o6PartitionState p) 2).modPart p (fun x => { x with reset? := some true })

/-- Both sides of a crossing take what the retraining reached, and count it (R311 steps 3 and 4). -/
def State.retrained (s : State) (h : Nat × Nat × Nat) (r : CrossingResult) : State :=
  let o := otherSide h
  let s1 := (s.takeTraining h r).takeTraining o r
  let count := fun (x : Cluster) => x.bump stitchRetrainCount 1
  let s2 := (s1.modCluster (sideCluster h) count).modCluster (sideCluster o) count
  let s3 := (s2.raiseLink h).raiseLink o
  if 128 ≤ (trainedByte r).toNat then s3.postField h.1 5 3 2 0 0 else s3

/-- A retraining of a crossing that was clamped while it ran leaves no training: the crossing no longer exists (R27, R37). -/
def State.retrainVoid (s : State) (h : Nat × Nat × Nat) : State :=
  let stop := fun (c : Crossing) => { c with retraining := false }
  (s.modCrossing h stop).modCrossing (otherSide h) stop

/-- A retraining ends (R311 steps 3 to 6). -/
def execStitchRetrainComplete (f edge idx : Nat) (r : CrossingResult) (s : State) : Out :=
  onField f s fun s =>
    let h := (f, edge, idx)
    if edgeOk edge idx && ((s.field f).crossing edge idx).retraining then
      let s1 := if s.crossingExists h && s.crossingExists (otherSide h) then s.retrained h (s.withFuses h r) else s.retrainVoid h
      ((List.range 12).filter (fun p => (s1.part p).holds.contains (sideOf h))).foldl (State.recheck · h ·) s1
    else s

end Sys2Proof.Machine
end

