-- ==== Sys2Proof/Machine/Start.lean ====
section
/-! DEFINITION. Starts (R628 to R635, R668, R671, R697 to R702, R715, R730): the boot banks, the triggers, and phases 0
to 2. -/

namespace Sys2Proof.Machine

/-! ### Boot images (R697, R700, R701) -/

def fiVersion (h : List Byte) : Nat := leAt h 8 4
def fiSvn (h : List Byte) : Nat := leAt h 0xC 2
def fiRevoke (h : List Byte) : Nat := leAt h 0xE 2
def fiKey (h : List Byte) : Nat := leAt h 6 1

/-- Whether `n` bytes from an offset on are zero. -/
def zeroAt (h : List Byte) (a n : Nat) : Bool := (sliceB h a n).all (· = 0#8)

/-- A key of a set is revoked (R697); an id beyond 3 names no key. -/
def State.revoked (s : State) (group key : Nat) : Bool := 4 ≤ key || nbit (s.num o7KeysRevoked) (4 * group + key)

/-- An image verifies (R701); `sigOk` is what the signature check answers. -/
def State.verifies (s : State) (img : List Byte) (len : Nat) (sigOk : Bool) : Bool :=
  leAt img 0 4 = 0x474D4948 && leAt img 4 2 = 1 &&
  zeroAt img 7 1 && zeroAt img 0x40 64 && zeroAt img 0x3FE0 32 &&
  leAt img 0x10 8 = len &&
  !s.revoked 1 (fiKey img) && !nbit (fiRevoke img) (4 + fiKey img) &&
  s.num o7SvnCounter ≤ fiSvn img && sigOk &&
  sha256 (img.drop 0x4000) = sliceB img 0x18 32

def State.bank (s : State) (b : Nat) : Bank := s.msc.banks.get Bank.reset b

/-- Whether Tinder boots a bank (R632). -/
def State.bootable (s : State) (b : Nat) (sigOk : Bool) : Bool :=
  (s.bank b).state = 1 && s.verifies (s.bank b).image (s.bank b).length sigOk

/-- The MSC starts from a bank's image (R632); an abandoned update shows (R661). -/
def State.bootFrom (s : State) (b : Nat) (second : Bool) : State :=
  let s1 := { s with msc := { s.msc with image := (s.bank b).image, booted := true, second := second } }
  let s2 := (s1.setNum o0BootBank b).setNum o0StartPhase 1
  let s3 := if second then s2.addNum o0FwFallbacks 1 else s2
  if s3.msc.updLost then s3.setNum o0FwUpdateResult 5 else s3

/-- Tinder tries `NEXT_BOOT_BANK` and then the other bank (R632); with neither, or while the auxiliary input is absent (R742), the MSC
does not run. -/
def State.tryBoot (s : State) (sigA sigB : Bool) : State :=
  let n := s.num o0NextBootBank % 2
  let sig := fun (b : Nat) => if b = 0 then sigA else sigB
  if !s.power.aux12 then s
  else if s.bootable n (sig n) then s.bootFrom n false
  else if s.bootable (1 - n) (sig (1 - n)) then s.bootFrom (1 - n) true
  else s

/-! ### Starts (R628, R629, R668) -/

/-- The objects of the MSC that show what a warm start leaves as it is (R668; DESIGN CHOICE, log entry 221): the management links, the
reference and wafer time, the boot bank, the fault records and the account of availability, the slot, licences and attestation, and the
supplies. Every other one takes its default (R629). -/
def shownAtWarm (scope num : Nat) : Bool :=
  match scope with
  | 0 => [0x0026, 0x0803, 0x0811, 0x0812, 0x0813, 0x0815, 0x0816, 0x0C00, 0x0D02, 0x0D03, 0x0D04, 0x0D10, 0x0D12, 0x0E00, 0x0E01,
      0x0F03].contains num
  | 7 => [0x0C04, 0x0C05, 0x0C06, 0x0E06, 0x0E07, 0x0E08].contains num
  | 8 => [0x0B00, 0x0B02, 0x0B03, 0x0B04, 0x0B0C, 0x0B16, 0x0B1A, 0x0B1B, 0x0B1C, 0x0B1D, 0x0B1E].contains num
  | _ => false

/-- The objects that a start keeps: the persistent ones, the fuses of Tinder and what shows a pin of the header (R728, R732), and
at a warm start what shows the state of the units that it does not reset (R537, R629, R668). -/
def keptAtStart (cold : Bool) (key : Nat) : Bool :=
  let scope := key / 2 ^ 32
  match objRow scope (key % 2 ^ 16) with
  | some r =>
    r.persistent || key = o0ConfigSavedTime || key = o7SvnCounter || key = o7KeysRevoked ||
      key = o0InterlockClosed || key = o0ShedInput ||
      (!cold && shownAtWarm scope (key % 2 ^ 16))
  | none => false

def Dict.kept (d : Dict) (cold : Bool) : Dict :=
  ⟨d.nums.filter (fun e => keptAtStart cold e.1), d.blobs.filter (fun e => keptAtStart cold e.1)⟩

/-- A field as a start finds it: its fuses and stored records remain, at a warm start those that wait for the flash
too, and its record counts on. -/
def FieldSt.restart (cold : Bool) (x : FieldSt) : FieldSt :=
  { FieldSt.reset with
    fuses := x.fuses, soft := x.soft, softFull := x.softFull, softWait := if cold then [] else x.softWait
    dm := { DefectMap.reset with generation := x.dm.generation }, mscCopy := x.mscCopy, kept := if cold then [] else x.kept, dramBad := x.dramBad }

/-- What both starts do: an open update is abandoned (R661), the wafer is reset, no graph or stream is left
(R629), each wear count resumes from its last stored value (R606), no row of R614 holds, and no lease has been granted (R599). -/
def State.startOver (s : State) (cold : Bool) : State :=
  let lost := s.msc.updLost || s.msc.upd.isSome
  let s1 := { s with msc := { s.msc with updLost := lost } }.abandonUpdate.stopSigning.waferReset
  { s1 with
    fields := s1.fields.mapV (FieldSt.restart cold), dict := s1.dict.kept cold, fabric := 0
    clocks := { s1.clocks with lead := [], ties := [] }
    regions := s1.regions.mapV (fun x => { x with wear := x.wearStored, powered := false, rows := 0, clearMs := 0, sinceAt := 0 })
    power := { s1.power with leaseState := 0, grant := 0, boost := 0, ticks := 0, leaseId := 0, hotModule := false } }

/-- A cold start begins (R628, R668): everything but the flash is reset, and Tinder boots. -/
def State.beginCold (s : State) (sigA sigB : Bool) : State :=
  let s1 := s.startOver true
  let m := s1.msc
  let s2 := { s1 with
    clocks := Clocks.reset, hdp := s1.hdp.restart
    power := { Power.reset with shed := s1.power.shed, wearDue := s1.power.wearDue, aux12 := s1.power.aux12 }
    regions := s1.regions.mapV (fun x => { x with energy := [] })
    msc := { Msc.reset with
      banks := m.banks, updLost := m.updLost, saved := m.saved, licences := m.licences
      slotStored := m.slotStored, credKeys := m.credKeys, starting := some true } }
  s2.tryBoot sigA sigB

/-- A warm start begins (R628, R633, R668): the MSC runs on. -/
def State.beginWarm (s : State) : State :=
  let s1 := s.startOver false
  let s2 := { s1 with
    msc := { s1.msc with starting := some false, bcast := none, failedOver := false, heartbeat := false, planeHeld := false } }
  let s3 := ((s2.setNum o0ModuleState 4).setNum o0StartPhase 1).setNum o0LastStart 1
  if s3.msc.updLost then s3.setNum o0FwUpdateResult 5 else s3

/-- A warm trigger: without training records the start is cold (R628). A bank that reads valid has a signature that
verified when it was committed. -/
def State.warmTrigger (s : State) : State := if s.msc.trained then s.beginWarm else s.beginCold true true

/-- Wafer time is lost (R575). -/
def State.loseTime (s : State) : State := { s with wt := 0, wtFrac := 0 }

/-- The 12 V auxiliary input is present or absent (R727): what the MSC held in memory for the flash is lost with it. -/
def State.setAux (s : State) (on : Bool) : State :=
  { s with regions := s.regions.mapV (fun x => { x with wearWait := none }) }.modPower (fun x => { x with aux12 := on, wearDue := false })

/-- `SLOT_PWR` is on (R727): while the auxiliary input is present. -/
def State.slotPwr (s : State) : Bool := s.power.aux12

/-- The auxiliary input is applied (R575, R628): `seedTime` says that no wafer time was retained. -/
def execAuxInputApplied (sigA sigB seedTime : Bool) (s : State) : Out :=
  .next (((if seedTime then s.loseTime else s).setAux true).beginCold sigA sigB)

/-- The auxiliary input falls below 10.0 V (R623, R628, R743): the MSC resets, and nothing retains wafer time. It is then absent until
it is applied again (R727; DESIGN CHOICE, log entry 220). -/
def execAuxInputLow (sigA sigB : Bool) (s : State) : Out := .next ((s.loseTime.setAux false).beginCold sigA sigB)

/-- A requested module reset ends every session and stores the wear counts (R530, R606), and runs until the start
completes (R691). -/
def State.askedModule (s : State) : State :=
  { s with msc := { s.msc with asked := [100] }, hdp := s.hdp.restart }

/-- The coolant condition of R616 still holds. -/
def State.coolantBad (s : State) : Bool :=
  (!nbit s.power.inlet.toNat 31 && !Frac.le (sensor s.power.inlet) ⟨45, 1⟩) || !Frac.le ⟨20, 1⟩ (sensor s.power.flow)

/-- A write of `MODULE_RESET` (R616, R628, R671): the state and the status. -/
def State.writeModuleReset (s : State) (v : Nat) (sigA sigB : Bool) : State × Nat :=
  if v = 1 then
    if s.power.shutdown then (s, 8)
    else if s.msc.starting = some true then (s, 9)
    else (s.storeWear.warmTrigger.askedModule, 0)
  else if v = 2 then
    if s.power.shutdown ∧ s.coolantBad then (s, 8)
    else ((s.storeWear.beginCold sigA sigB).askedModule, 0)
  else (s, 7)

/-- A write of 1 to `MODULE_RESET`. -/
def execModuleResetWarm (s : State) : Out := .next (when' s.msc.booted s (s.writeModuleReset 1 true true).1)

/-- A write of 2 to `MODULE_RESET`. -/
def execModuleResetCold (sigA sigB : Bool) (s : State) : Out :=
  .next (when' s.msc.booted s (s.writeModuleReset 2 sigA sigB).1)

/-- The plane has recovered after a hold (R623, R628). -/
def execPlaneRecovered (s : State) : Out :=
  .next (when' (s.msc.planeHeld && s.msc.booted && !s.power.shutdown) s
    (s.modPower (fun x => { x with planeMv := max x.planeMv 51500 })).warmTrigger)

/-- Tinder tries the banks again (R632). -/
def execBootRetry (sigA sigB : Bool) (s : State) : Out :=
  .next (when' (s.msc.starting = some true && !s.msc.booted) s (s.tryBoot sigA sigB))

/-! ### Phase 1 (R634, R43) -/

/-- A start runs and stands in a phase. -/
def State.inPhase (s : State) (n : Nat) : Bool := s.msc.starting.isSome && s.msc.booted && s.num o0StartPhase = n

/-- A region's bank has been dealt with in phase 1: it is on, or its region is lost. -/
def State.bankDone (s : State) (r : Nat) : Bool := (s.region r).powered || s.num (o1RegionState r) = 3

/-- Whether a region's bank is the next to be switched on: a cold start goes on with one feed at least (R630, R739; DEDUCED, log
entry 241). -/
def State.bankNext (s : State) (r : Nat) : Bool :=
  s.inPhase 1 && (s.msc.starting ≠ some true || s.num o8FeedsOk ≠ 0) && (List.range r).all s.bankDone && !s.bankDone r

/-- A region bank is switched on (R43, R634): its fuse is closed, and its reserve is charged from the plane (R612). -/
def execRegionBankSwitchOn (r : Nat) (s : State) : Out :=
  onRegion r s fun s =>
    if s.bankNext r then
      (((s.modRegion r (fun x => { x with powered := true })).setNum (o8FuseState r) 0).setNum (o8FuseCause r) 0).setNum
        (o8BulkReservePct r) (bulkPct s.power.planeMv)
    else s

/-- The fields of a region. -/
def regionFields (r : Nat) : List Nat := (List.range 7).map (fun j => 12 * j + r)

/-- A bank's rails are judged (R634): its region is lost when they are not within their limits. -/
def execRailCheck (r : Nat) (ok : Bool) (s : State) : Out :=
  onRegion r s fun s =>
    if s.inPhase 1 && (s.region r).powered && !ok then
      let s1 := (s.modRegion r (fun x => { x with powered := false })).setNum (o1RegionState r) 3
      let s2 := (regionFields r).foldl (fun s f => (s.setNum (o2FieldState f) 3).setNum (o2StartResult f) 7) s1
      s2.postRegion r 7 7 6
    else s

/-! ### Phase 2 (R635, R644, R666, R715, R730, R537) -/

/-- CRC-8 with polynomial x^8 + x^2 + x + 1 and initial value 0 (R730). -/
def crc8 (l : List Byte) : Byte :=
  l.foldl (fun (c : Byte) b =>
    (List.range 8).foldl (fun (c : Byte) _ => if nbit c.toNat 7 then (c <<< 1) ^^^ 7#8 else c <<< 1) (c ^^^ b)) 0#8

/-- A slot-id read (R730). -/
def slotRead (d : List Byte) : Option Nat :=
  if d.length = 5 ∧ crc8 (d.take 4) = d.getD 4 0#8 then some (leAt d 0 4) else none

/-- The slot id is read (R715, R730, R745): what each of up to 3 attempts answered, nothing where no device did, as
none does without `SLOT_PWR` (R727). -/
def State.readSlot (s : State) (attempts : List (List Byte)) : State :=
  let a := if s.slotPwr then attempts.take 3 else []
  let id := a.findSome? slotRead
  let s1 := s.setNum o0SlotId (id.getD 0)
  let s2 := s1.setNum o0SlotRead (if id.isSome then 0 else if (a.getLast?.getD []).isEmpty then 1 else 2)
  if id.isSome && id = s.msc.slotStored && id ≠ some 0 then s2.setNum o0SlotChanged 0
  else (s2.draw.2.setNum o0SlotChanged 1).post 96 0 10 0 7 s2.freeByte 0 0xFF 0

/-- The features that a licence grants (R662). -/
def Licence.feat (x : Licence) : Nat := leAt x.body 0x30 4 % 32
def Licence.id (x : Licence) : Nat := leAt x.body 8 8

/-- The union of licences (R664): the largest tier and every feature. -/
def featuresOf (l : List Licence) : Nat :=
  let v := l.filter (·.valid)
  let has := fun (b : Nat) => if v.any (fun x => nbit x.feat b) then 2 ^ b else 0
  (v.map (fun x => x.feat % 4)).foldl max 0 + has 2 + has 3 + has 4

/-- T of R664. -/
def tierOf (features : Nat) : Nat :=
  match features % 4 with
  | 1 => 12288
  | 2 => 24576
  | _ => 6144

/-- The licences in force show in the objects (R664, R667). -/
def State.showLicences (s : State) : State :=
  let f := featuresOf s.msc.licences
  ((s.setNum o7Features f).setNum o7StreamTier (tierOf f)).setNum o7LicencesInvalid
    (s.msc.licences.filter (fun x => !x.valid)).length

/-- Every stored licence is verified again (R666): `ok` says of each whether its signature verifies under a key that
stands. -/
def State.reverify (s : State) (ok : List Bool) : State :=
  let l := s.msc.licences.zipIdx.map (fun (e : Licence × Nat) => { e.1 with valid := ok.getD e.2 false })
  { s with msc := { s.msc with licences := l } }.showLicences

/-- The saved configuration is applied (R537). -/
def State.applySaved (s : State) : State :=
  match s.msc.saved with
  | some d =>
    { s with dict := {
        nums := d.nums.foldl (fun a e => a.put e.1 e.2) s.dict.nums
        blobs := d.blobs.foldl (fun a e => a.put e.1 e.2) s.dict.blobs } }
  | none => s

/-- The control-core image is loaded and phase 2 ends (R635): the primary supervisor runs, or the start stops. -/
def State.loadControl (s : State) : State :=
  if !(s.region 5).powered ∧ !(s.region 6).powered then
    { s with msc := { s.msc with starting := none } }.setNum o0ModuleState 3
  else
    let s1 := (s.setNum o0WsPrimary (if (s.region 5).powered then 0x29 else 0x2A)).setNum o0StartPhase 3
    (List.range 24).foldl State.train s1

/-- Phase 1 has ended (R630). -/
def State.banksDone (s : State) : Bool := s.inPhase 1 && (List.range 12).all s.bankDone

/-- Phase 2 (R635, R537, R644, R666, R715). -/
def execControlImageLoad (attempts : List (List Byte)) (licOk : List Bool) (s : State) : Out :=
  .next (
    if s.banksDone then
      let s0 := s.setNum o0StartPhase 2
      let s1 := if s0.msc.starting = some true then (s0.readSlot attempts).reverify licOk else s0
      s1.applySaved.loadControl
    else s)

end Sys2Proof.Machine
end

