-- ==== Sys2Proof/Machine/Bringup.lean ====
section
/-! DEFINITION. Bring-up from phase 3 on (R22 to R38, R566, R567, R636 to R655, R748): built-in test, sparing, stitch and
DRAM training, the firmware broadcast, and the end of a start. -/

namespace Sys2Proof.Machine

/-- A start runs and stands in one of the phases `a` to `b`. -/
def State.inPhases (s : State) (a b : Nat) : Bool :=
  s.msc.starting.isSome && s.msc.booted && a ≤ s.num o0StartPhase && s.num o0StartPhase ≤ b

/-- The fields whose region has supply in this start. -/
def State.liveFields (s : State) : List Nat := (List.range 84).filter s.hasSupply

/-! ### Quarantine in a start (R27, R37, R42, R645, R687) -/

/-- The crossings of a field's edges. -/
def fieldCrossings (f : Nat) : List (Nat × Nat × Nat) :=
  (List.range 4).flatMap (fun e => ((List.range 12).filter (edgeOk e)).map (fun i => (f, e, i)))

/-- A field is quarantined during a start (R42, R645): its region takes no part. -/
def State.startQuarantine (s : State) (f : Nat) : State :=
  let s1 := (s.setNum (o2FieldState f) 2).clampField f
  if s1.regionUp (f % 12) then
    (((s1.setNum (o1RegionState (f % 12)) 2).portGone (f % 12)).portGone (f % 12 + 12)).windows
  else s1

/-- A field fails to start (R667): the result, and its record. -/
def State.failStart (s : State) (f code : Nat) : State :=
  ((s.setNum (o2StartResult f) code).startQuarantine f).postField f 5 7 code 5 0

/-! ### Phase 3: fuses and tests (R636 to R640, R748) -/

/-- A failure as a soft-fuse record names it: kind and `SF_WHERE` (R638). -/
def failWhere : TestFail → Nat × Nat
  | .core cl slot => (1, cl % 128 * 64 + slot % 64)
  | .schedRouter cl => (2, cl % 128)
  | .msgRouter cl => (3, cl % 128)
  | .clusterMemory cl => (4, cl % 128)
  | .loader cl => (5, cl % 128)

/-- Whether the fuse block names a defect (R636). -/
def FuseBlock.names (x : FuseBlock) (kind loc : Nat) : Bool :=
  if kind = 6 then (x.rows.get [] (loc / 2 ^ 24 % 32)).contains (loc % 2 ^ 24)
  else
    let q := if kind = 1 then loc / 64 % 128 else loc % 128
    (x.defects.get 0 q) &&& whereMask kind loc q ≠ 0

/-- A record that applies at once (R640): one that the fuse block does not name. One that is stored already becomes
applied. `SF_CAUSE` is a free value. -/
def State.softApplied (s : State) (f kind loc : Nat) : State :=
  let x := s.field f
  if x.fuses.names kind loc then s
  else
    let same := fun (r : SoftFuse) => r.kind = kind && r.loc = loc
    if (x.soft ++ x.softWait).any same then
      let mark := fun (r : SoftFuse) => if same r then { r with applied := true } else r
      s.rewriteMap f (fun y => { y with soft := y.soft.map mark, softWait := y.softWait.map mark })
    else s.draw.2.recordFuse true f kind loc s.freeByte

/-- The record of a field whose fuse block is unreadable (R748). -/
def DefectMap.unread (d : DefectMap) : DefectMap :=
  { DefectMap.reset with
    built := true, generation := d.generation + 1
    clState := Sparse.ofList 0 (List.replicate 96 2#8) }

/-- Whether a field is due to read its fuses. -/
def State.testDue (s : State) (f : Nat) : Bool := s.inPhase 3 && s.hasSupply f && !(s.field f).tested

/-- The cores and the loaders of some logical clusters of a field are held in reset (R24, R748). -/
def State.holdUnits (s : State) (f : Nat) (which : Nat → Bool) : State :=
  (((List.range 96).map (f * 96 + ·)).filter which).foldl (fun s k =>
    (List.range 32).foldl (fun s i => s.modCore (k * 32 + i) (fun x => { x with inReset := true }))
      (s.modCluster k (fun x => { x with inReset := true }))) s

/-- Phase 3 of a field (R636 to R640). -/
def execBuiltInTest (f : Nat) (crcOk : Bool) (fails : List TestFail) (s : State) : Out :=
  onField f s fun s =>
    if s.testDue f then
      let x := s.field f
      let s1 := s.setField f { x with tested := true, softFull := false, fuses := { x.fuses with ok := crcOk } }
      if !crcOk then
        (((s1.failStart f 2).modField f (fun y => { y with
          dm := y.dm.unread, gated := (List.range 108).map (fun q => (q, 2 ^ 36 - 1)) })).holdUnits f (fun _ => true)).sendMap f
      else
        let s2 := if x.softFull then s1.failStart f 3 else s1
        if s2.msc.starting = some true then
          fails.foldl (fun s t => s.softApplied f (failWhere t).1 (failWhere t).2) s2
        else s2
    else s

/-! ### Phase 4: sparing and clocks (R22, R27, R28, R641, R566, R567) -/

/-- The defects of a physical cluster, from the fuses and all soft-fuse records together, those that still wait for the flash
included (R22, R31). -/
def FieldSt.defects (x : FieldSt) (q : Nat) : Nat :=
  x.records.foldl (fun m r => m ||| whereMask r.kind r.loc q) (x.fuses.defects.get 0 q)

def routerDead (m : Nat) : Bool := nbit m 34 || nbit m 35

/-- The slot that a core column bypasses (R22). -/
def coreBypass (m cc : Nat) : Nat :=
  match (List.range 17).filter (fun j => nbit m (17 * cc + j)) with
  | [] => 16
  | [j] => j
  | _ => 31

def fullyPopulated (m : Nat) : Bool :=
  !routerDead m && !nbit m 36 && !nbit m 37 && coreBypass m 0 ≠ 31 && coreBypass m 1 ≠ 31

/-- The physical row that a cluster column bypasses (R22); `d` gives the defects by row. -/
def colBypass (d : Nat → Nat) : Nat :=
  match (List.range 9).find? (fun y => routerDead (d y)) with
  | some y => y
  | none => ((List.range 9).find? (fun y => !fullyPopulated (d y))).getD 8

/-- The state of a logical position that a physical cluster fills (R22, R35). -/
def positionState (m : Nat) : Nat := if routerDead m then 2 else if fullyPopulated m then 0 else 1

/-- The record after sparing (R22, R32 to R36). -/
def FieldSt.spare (x : FieldSt) : DefectMap :=
  let row := fun (c y : Nat) => x.defects (y * 12 + c)
  let cols := (List.range 12).map (fun c =>
    (c, colBypass (row c), ((List.range 9).map (fun y => if fullyPopulated (row c y) then 0 else 2 ^ y)).sum))
  { DefectMap.reset with
    built := true, generation := x.dm.generation + 1
    colSpare := cols.foldl (fun m c => m.put c.1 (c.2.1 * 512 + c.2.2)) []
    coreByp := (List.range 108).foldl (fun (m : SMap (Nat × Nat)) q =>
      let d := x.defects q
      if coreBypass d 0 = 16 ∧ coreBypass d 1 = 16 then m else m.put q (coreBypass d 0, coreBypass d 1)) []
    clState := cols.foldl (fun m c => (List.range 8).foldl (fun m y =>
      Sparse.wr m (y * 12 + c.1) (BitVec.ofNat 8 (positionState (row c.1 (if y < c.2.1 then y else y + 1))))) m) [] }

/-- The trees are built until every eligible field has a depth (R569); a field left over is quarantined. -/
def State.plantAll : Nat → State → State
  | 0, s => s
  | n + 1, s =>
    let r := s.plant s.hasSupply true
    if r.2.isEmpty then r.1
    else State.plantAll n (r.2.foldl (fun s f => (s.startQuarantine f).postField f 8 6 2 5 0) r.1)

/-- A module object reaches a router (R361): `MP_NEAR_HOPS` (0x0600), `MP_VALIANT` (0x0601) or `MP_TIMEOUT` (0x0602). -/
def Cluster.setMpObj (x : Cluster) (num v now : Nat) : Cluster :=
  if num = 0x0600 then x.setMpCtrl ((x.mpCtrl &&& 0xFF00FFFF#32) ||| BitVec.ofNat 32 (v % 256 * 2 ^ 16)) now
  else if num = 0x0601 then x.setMpCtrl ((x.mpCtrl &&& 0xFFFFFFF1#32) ||| BitVec.ofNat 32 (v % 8 * 2)) now
  else { x with mpTimeout := max 10 v }

/-- A module object reaches a field's routers (R361). -/
def State.setRouters (s : State) (num : Nat) (f : Nat) : State :=
  (List.range 96).foldl (fun s j =>
    s.modCluster (f * 96 + j) (fun x => x.setMpObj num (s.num (okey 0 0 num)) s.net.nextId)) s

/-- The routers of a field are configured and forward (R357, R361). -/
def State.startRouters (s : State) (f : Nat) : State :=
  let s1 := [0x0600, 0x0601, 0x0602].foldl (fun s num => s.setRouters num f) s
  (List.range 96).foldl (fun s j =>
    s.modCluster (f * 96 + j) (fun x => x.setMpCtrl (x.mpCtrl ||| 1#32) s.net.nextId)) s1

/-- The root of an island sends its first marker, which carries V, and each field at depth h loads V + 8h as it arrives (R567): its
count, and its wafer time, are then those of the root. -/
def State.alignIsland (s : State) (i : Nat × Nat) : State :=
  let root := rootOf i
  let s1 := s.sendMarker root (s.fabricOf root)
  ((List.range 84).filter (fun f => (s1.clk f).parent ≠ 7 && s1.treeRoot f = root)).foldl (fun s f =>
    (s.setOffset f 0).modClk f (fun x => { x with wtOff := (s1.clk root).wtOff })) s1

/-- Clock forwarding trains and the counts are aligned (R566, R567, R641); the routers of the fields that take part are
configured and forward. -/
def State.forwardClocks (s : State) : State :=
  let s1 := State.plantAll 13 s
  let s2 := { s1 with clocks := { s1.clocks with units := s1.clocks.units.mapV (fun u => { u with reparents := 0 }) } }
  let s3 := s2.islands.foldl State.alignIsland s2
  (((List.range 84).filter (fun f => s3.num (o2FieldState f) = 1)).foldl State.startRouters s3).windows

/-- Every field with supply has set its selectors. -/
def State.allSpared (s : State) : Bool := s.liveFields.all (fun f => (s.field f).dm.built)

/-- Whether a field is due to set its selectors: phase 3 is over in every field. -/
def State.sparingDue (s : State) (f : Nat) : Bool :=
  s.inPhases 3 4 && s.hasSupply f && !(s.field f).dm.built && s.liveFields.all (fun g => (s.field g).tested)

/-- The physical units that a field holds in reset with their clocks gated (R24, R26), by physical cluster: all of a bypassed
cluster; the cores, the loader and the cluster memory of one that does not stand present; and of every other cluster the
core that each of its columns bypasses. -/
def FieldSt.gates (x : FieldSt) : SMap Nat :=
  (List.range 108).foldl (fun (m : SMap Nat) q =>
    let d := x.defects q
    let row := fun (y : Nat) => x.defects (y * 12 + q % 12)
    m.put q (
      if colBypass row = q / 12 then 2 ^ 36 - 1
      else if fullyPopulated d then 2 ^ coreBypass d 0 + 2 ^ (17 + coreBypass d 1)
      else 2 ^ 35 - 1)) []

/-- A field sets its selectors (R22, R28, R641), with the mask of hops that reach no 8 cycles (R566). -/
def State.setSelectors (s : State) (f hops : Nat) : State :=
  let d := (s.field f).spare
  let mark := fun (r : SoftFuse) => if 1 ≤ r.kind ∧ r.kind ≤ 5 then { r with applied := true } else r
  let s1 := ((s.setNum o0StartPhase 4).modField f (fun x => { x with
    dm := d, gated := x.gates, hops := hops, soft := x.soft.map mark, softWait := x.softWait.map mark }))
  let s1 := s1.holdUnits f (fun k => s1.clusterState k = 1)
  let s2 := if hops = 0 then s1 else s1.postField f 5 3 4 0 0
  State.sendMap (
    if s2.num (o2StartResult f) ≠ 0 then s2
    else if d.void then s2.failStart f 6
    else (s2.setNum (o2FieldState f) 1).setNum (o2StartResult f) 1) f

/-- Phase 4 of a field; with the last one, the clocks. -/
def execSparingSelect (f : Nat) (hops : BitVec 4) (s : State) : Out :=
  onField f s fun s =>
    if s.sparingDue f then
      let s1 := s.setSelectors f hops.toNat
      if s1.allSpared then s1.forwardClocks else s1
    else s

/-! ### Phase 5: stitch crossings (R307, R642) -/

/-- Whether a crossing has two sides that take part: neither field is quarantined or lost (R37). -/
def State.crossingLive (s : State) (h : Nat × Nat × Nat) : Bool :=
  match fieldAcross h.1 h.2.1 with
  | some n => s.num (o2FieldState h.1) = 1 && s.num (o2FieldState n) = 1
  | none => false

/-- Whether a crossing is due to be trained, or restored. -/
def State.crossingDue (s : State) (h : Nat × Nat × Nat) : Bool :=
  s.inPhases 4 5 && s.allSpared && edgeOk h.2.1 h.2.2 && s.crossingLive h && s.stitchByte h.1 h.2.1 h.2.2 = 0

/-- What the sparing makes of the clusters at the two ends of a crossing (R642). -/
def State.edgeSparing (s : State) (h : Nat × Nat × Nat) : Nat :=
  s.physCluster (sideCluster h) * 128 + s.physCluster (sideCluster (otherSide h))

/-- A crossing's record of the last cold start (R642), if the sparing of its edge clusters is as it was. -/
def State.keptCrossing (s : State) (h : Nat × Nat × Nat) : Option CrossingResult :=
  match (s.field (sideOf h).1).kept.look (stitchIdx (sideOf h).2.1 (sideOf h).2.2) with
  | some (l, sp, mark) => if mark = s.edgeSparing (sideOf h) then some ⟨l, sp⟩ else none
  | none => none

/-- What a crossing takes in phase 5 (R642): at a warm start its record, where the check of it passes (`seen` says whether a lane
group showed an error, and the least margin); else what its training reached. -/
def State.crossingTakes (s : State) (h : Nat × Nat × Nat) (seen : Option (Bool × Nat)) (r : CrossingResult) : CrossingResult :=
  match s.msc.starting, s.keptCrossing h, seen with
  | some false, some k, some (errors, margin) => if !errors && 16 ≤ margin then k else s.withFuses h r
  | _, _, _ => s.withFuses h r

/-- A cold start keeps what a crossing reached (R642). -/
def State.keepCrossing (s : State) (h : Nat × Nat × Nat) (r : CrossingResult) : State :=
  let q := sideOf h
  if s.msc.starting = some true then
    s.modField q.1 (fun x => { x with kept := x.kept.put (stitchIdx q.2.1 q.2.2) (r.latency, r.spares, s.edgeSparing q) })
  else s

/-- Both sides of a crossing take what its training, or its restoring, reached (R642). -/
def execStitchTraining (f edge idx : Nat) (seen : Option (Bool × Nat)) (trained : CrossingResult) (s : State) : Out :=
  onField f s fun s =>
    let h := (f, edge, idx)
    if s.crossingDue h then
      let r := s.crossingTakes h seen trained
      let s1 := (((s.setNum o0StartPhase 5).takeTraining h r).takeTraining (otherSide h) r).keepCrossing h r
      if 128 ≤ (trainedByte r).toNat then s1.postField f 5 3 2 0 0 else s1
    else s

/-- Every crossing is trained. -/
def State.stitchDone (s : State) : Bool :=
  s.allSpared && s.liveFields.all (fun f => (fieldCrossings f).all (fun h =>
    !s.crossingLive h || s.stitchByte h.1 h.2.1 h.2.2 ≠ 0))

/-! ### Phase 6: DRAM (R381, R643) -/

/-- The recorded rows of a channel (R638 kind 6). -/
def FieldSt.softRows (x : FieldSt) (ch : Nat) : List Nat :=
  (x.records.filter (fun r => r.kind = 6 && r.loc / 2 ^ 24 % 32 = ch)).map (fun r => r.loc % 2 ^ 24)

/-- Whether a channel is due to be trained. -/
def State.dramDue (s : State) (f ch : Nat) : Bool :=
  s.inPhases 4 6 && s.stitchDone && s.num (o2FieldState f) = 1 && (s.chan (f * 24 + ch)).chState = 0

/-- A channel is trained and tested, or restored (R643): its failing rows go to spares, or it fails, as does one that failed
since the start before (R382). -/
def State.trainDram (s : State) (f ch : Nat) (r : ChannelResult) : State :=
  let s1 := (r.rows.map (· % 2 ^ 24)).eraseDups.foldl (fun s row => s.softApplied f 6 (ch * 2 ^ 24 + row)) s
  let x := s1.field f
  let rows := (x.fuses.rows.get [] ch ++ x.softRows ch ++ r.rows.map (· % 2 ^ 24)).eraseDups
  let mark := fun (q : SoftFuse) => if q.kind = 6 && q.loc / 2 ^ 24 % 32 = ch then { q with applied := true } else q
  let s2 := if x.records.map mark = x.records then s1
    else s1.rewriteMap f (fun x => { x with soft := x.soft.map mark, softWait := x.softWait.map mark })
  if r.ok && rows.length ≤ 128 && !x.dramBad.contains ch then s2.modChan (f * 24 + ch) (fun c => { c with chState := 2, spared := rows })
  else
    ((s2.modChan (f * 24 + ch) (fun c => { c with chState := 3 })).modField f (fun x => { x with dramBad := [] })).failStart f 4

/-- Phase 6 of a channel. -/
def execDramTraining (f ch : Nat) (r : ChannelResult) (s : State) : Out :=
  onChan f ch s fun s => when' (s.dramDue f ch) s ((s.setNum o0StartPhase 6).trainDram f ch r)

/-! ### Phase 7: the firmware broadcast (R645 to R655) -/

/-- The fields that started. -/
def State.startedFields (s : State) : List Nat := (List.range 84).filter (fun f => s.num (o2FieldState f) = 1)

/-- Every channel of the started fields is trained. -/
def State.dramDone (s : State) : Bool :=
  s.startedFields.all (fun f => (List.range 24).all (fun c => (s.chan (f * 24 + c)).chState = 2))

/-- The present clusters of a field. -/
def State.presentIn (s : State) (f : Nat) : List Nat :=
  ((List.range 96).map (fun j => f * 96 + j)).filter (fun k => s.clusterState k = 0)

/-- Combining queue 7 and the result entry of the bring-up routes (R650): `OP` 2, four words, to the local port with
`SINK_KIND` 0. The result's slots are the model's. -/
def bringUpQueue (contributors : Nat) : Combine :=
  { Combine.reset with ctl := BitVec.ofNat 32 (2 ^ 31 + 2 * 2 ^ 28 + 3 * 2 ^ 26 + contributors) }
def bringUpEntry : SlotEntry :=
  { w0 := BitVec.ofNat 64 (2 ^ 63 + 2 ^ 62 + 63 * 2 ^ 25 + 64 * 2 ^ 13 + 5 * 2 ^ 7)
    w1 := BitVec.ofNat 64 (4 * 2 ^ 41 + 2 ^ 36 + 4 * 2 ^ 33 + 7 * 2 ^ 28) }

/-- A field controller installs the bring-up routes, gives the manifest digest to its loaders and lets them receive
(R647, R650). -/
def State.prepareField (s : State) (digest : List Byte) (f : Nat) : State :=
  let ks := s.presentIn f
  let s1 := ks.foldl (fun s k => s.modLdr k (fun x => { x with manifestDigest := digest }.setCtrl 3)) s
  s1.modCluster (s1.controllerAt f) (fun x => { x with
    combine := x.combine.put 7 (bringUpQueue ks.length), slots := [(0, bringUpEntry)], doneOcc := []
    spCtrl := 1, frameLen := 4096, turns := 65535, periodStart := s1.fabricOf f })

/-- The firmware and its manifest, as phase 7 gets them: the manifest first (R646). -/
def manifestLen (image : List Byte) : Nat := 64 + 32 * mfChunks image

/-- The broadcast may begin: phases 4 to 6 are over. -/
def State.broadcastDue (s : State) : Bool :=
  s.inPhases 4 6 && s.stitchDone && s.dramDone

/-- A field of an island with no running supervisor gets no firmware (R645). -/
def State.unsupervised (s : State) (f : Nat) : Bool := !s.supervisorRuns (s.island (f % 12))

/-- The broadcast begins (R645, R647, R650, R652). -/
def State.beginBroadcast (s : State) (image : List Byte) : State :=
  let m := image.take (manifestLen image)
  let fs := s.startedFields
  let s1 := (fs.filter s.unsupervised).foldl (fun s f => s.setNum (o2StartResult f) 8) s
  let s2 := (fs.filter (fun f => !s.unsupervised f)).foldl (fun s f => s.prepareField (sha256 m) f) s1
  let s3 := { s2 with msc := { s2.msc with
    manifest := m, firmware := image.drop (manifestLen image)
    bcast := some ⟨0, List.range (mfChunks m), [], [], false, [], false⟩ } }
  ((s3.setNum o0BcastRounds 0).setNum o0BcastUnicasts 0).setNum o0StartPhase 7

/-- Whether a manifest is laid out as R646 has it: magic, format, chunks by the length, and zero in the reserved bytes. -/
def manifestOk (m : List Byte) : Bool :=
  leAt m 0 4 = 0x4D434648 && leAt m 4 2 = 1 && 1 ≤ mfLength m && mfLength m ≤ 1048576 &&
    mfChunks m = (mfLength m + 4095) / 4096 && (sliceB m 0x30 16).all (· = 0#8)

/-- Phase 7 begins, with a manifest and firmware (DESIGN CHOICE, log entry 128). -/
def execFirmwareBroadcast (image : List Byte) (s : State) : Out :=
  .next (when' (s.broadcastDue && manifestOk image && image.length = manifestLen image + mfLength image) s
    (s.beginBroadcast image))

/-- The bitmap that two combined tuples form (R651). -/
def FieldSt.tupleMap (x : FieldSt) : List Nat :=
  (List.range 256).filter (fun c =>
    nbit (((x.tuples.getD (c / 128) []).getD (c % 128 / 32) 0#32).toNat) (c % 32))

/-- A field counts in the broadcast while it is started in an island with a supervisor (R645, R655). -/
def State.counts (s : State) (f : Nat) : Bool := s.num (o2FieldState f) = 1 && s.num (o2StartResult f) = 1

/-- A field's bitmap has come (R651). -/
def State.reported (s : State) (b : Bcast) (f : Nat) : Bool := b.maps.has f || 2 ≤ (s.field f).tuples.length

/-- A field's bitmap, over the chunks of the manifest. -/
def State.fieldMap (s : State) (b : Bcast) (f : Nat) : List Nat :=
  ((b.maps.look f).getD (s.field f).tupleMap).filter (· < mfChunks s.msc.manifest)

/-- The fields that the running round waits for. -/
def State.bcastFields (s : State) (b : Bcast) : List Nat := b.waiting.filter s.counts

/-- Every field of the running round has reported. -/
def State.settled (s : State) (b : Bcast) : Bool := b.sentEnd && (s.bcastFields b).all (s.reported b)

/-- The chunks missing after a round: the union of the bitmaps (R652). -/
def State.missingAfter (s : State) (b : Bcast) : List Nat :=
  if b.sentEnd then
    (List.range (mfChunks s.msc.manifest)).filter (fun c => (s.bcastFields b).any (fun f => (s.fieldMap b f).contains c))
  else b.missing

/-- Whether another round is due. -/
def State.roundDue (s : State) (b : Bcast) : Bool :=
  (!b.sentEnd || s.settled b) && b.rounds < 8 && !(s.missingAfter b).isEmpty

/-- The wafer supervisor that runs: the primary, or the standby that has taken over (R684). -/
def State.supervisor (s : State) : Requester := .supervisor (s.num o0WsPrimary = 0x2A)

/-- The wafer supervisor sends a broadcast (R351, R352, R648) to the started regions of its island: the packet waits at its
router, which takes it into the broadcast buffer in its turn. -/
def State.broadcast (s : State) (kind index : Nat) (d : List Byte) : State :=
  let u := s.senderOf s.supervisor
  let i := s.island (regionOfCluster u.1)
  let mask := (((List.range 12).filter (fun r => i.1 ≤ r && r ≤ i.2)).map (2 ^ ·)).sum
  s.addPacket { s.mkPacket u.1 u.2 u.1 u.2 9 3 0 d.length 0 with
    auxA := kind * 2 ^ 12 + mask, auxB := index, payload := d }

/-- What a round broadcasts (R652): the manifest parts, the missing chunks in ascending order, and the round end. -/
def State.sendRound (s : State) (round : Nat) (missing : List Nat) : State :=
  let m := s.msc.manifest
  let parts := List.range ((m.length + 4095) / 4096)
  let s1 := parts.foldl (fun s i => s.broadcast 0 i (sliceB m (4096 * i) (min 4096 (m.length - 4096 * i)))) s
  let s2 := missing.foldl (fun s c => s.broadcast 1 c (sliceB s.msc.firmware (4096 * c) (mfChunkLen m c))) s1
  s2.broadcast 2 0 (leBytes 4 round)

/-- A round (R652): the bitmaps of the round before are joined, and every field owes one again. -/
def State.beginRound (s : State) (b : Bcast) : State :=
  let fs := (List.range 84).filter s.counts
  let b' := { b with rounds := b.rounds + 1, missing := s.missingAfter b, waiting := fs, maps := [], sentEnd := true }
  let s1 := { s with msc := { s.msc with bcast := some b' } }
  ((fs.foldl (fun s f => s.modField f (fun x => { x with tuples := [] })) s1).setNum o0BcastRounds (b.rounds + 1)).sendRound
    (b.rounds + 1) (s.missingAfter b)

/-- A field that the round waits for and that has not reported gets a bitmap. -/
def State.giveMap (s : State) (f : Nat) (m : List Nat) : State :=
  match s.msc.bcast with
  | some b =>
    if b.sentEnd && (s.bcastFields b).contains f && !s.reported b f then
      { s with msc := { s.msc with bcast := some { b with maps := b.maps.put f m } } }
    else s
  | none => s

/-- No bitmap came within 2 ms (R652): all ones. -/
def execRoundBitmapTimeout (f : Nat) (s : State) : Out :=
  onField f s fun s => s.giveMap f (List.range 256)

/-- The field controller ORs the bitmaps of its loaders (R651); a silent loader counts as all ones. -/
def execRoundBitmapFallback (f : Nat) (silent : List Nat) (s : State) : Out :=
  onField f s fun s =>
    let ks := s.presentIn f
    let all := ks.any silent.contains
    s.giveMap f ((List.range 256).filter (fun c => all || ks.any (fun k => (s.cluster k).ldr.missing.contains c)))

/-- The rounds are over (R652). -/
def State.roundsOver (s : State) (b : Bcast) : Bool :=
  s.settled b && (8 ≤ b.rounds || (s.missingAfter b).isEmpty)

/-- The loaders of a field that still miss a chunk. -/
def State.lacking (s : State) (f : Nat) : List Nat :=
  (s.presentIn f).filter (fun k => (s.cluster k).ldr.missing.any (· < mfChunks s.msc.manifest))

/-- A field fails to load (R653): a record of kind 5 for each loader that misses a chunk. -/
def State.failLoading (s : State) (f : Nat) : State :=
  ((s.lacking f).foldl (fun s k => s.draw.2.softFuse f 5 (s.physCluster k) s.freeByte) s).failStart f 5

/-- The tries of a unicast so far. -/
def Bcast.tried (b : Bcast) (k chunk : Nat) : Nat :=
  ((b.tries.find? (fun e => e.1 = k && e.2.1 = chunk)).map (·.2.2)).getD 0

/-- Whether a unicast of a chunk to a loader is due: its field's bitmap is not zero, and the loader's has the chunk's bit set
(R652). -/
def State.unicastDue (s : State) (b : Bcast) (k chunk : Nat) : Bool :=
  s.roundsOver b && (s.bcastFields b).contains (fieldOf k) && !(s.fieldMap b (fieldOf k)).isEmpty &&
    chunk < mfChunks s.msc.manifest && (s.presentIn (fieldOf k)).contains k &&
    (s.cluster k).ldr.missing.contains chunk && b.tried k chunk < 3

/-- A chunk goes to one loader (R652): it is written to the loader's staging offset, and then `CHUNK_DONE`. -/
def State.unicast (s : State) (k chunk : Nat) : State :=
  let data := sliceB s.msc.firmware (4096 * chunk) (mfChunkLen s.msc.manifest chunk)
  (s.setCluster k ((s.cluster k).scratchWrite (stagingAt chunk) data).1).chunkDone k chunk

/-- Every bit that is still set in a loader of a field has had its three tries, and one is set (R652). -/
def State.triesOver (s : State) (b : Bcast) (f : Nat) : Bool :=
  !(s.lacking f).isEmpty && (s.lacking f).all (fun k => (s.cluster k).ldr.missing.all (fun c =>
    mfChunks s.msc.manifest ≤ c || 3 ≤ b.tried k c))

/-- A unicast, and the check 1 ms after it (R652): it counts; the bit is clear, or another follows, or, once every bit still set
in the field's loaders has had three, the field fails to load. -/
def State.checkUnicast (s : State) (b : Bcast) (k chunk : Nat) : State :=
  let n := b.tried k chunk + 1
  let b' := { b with tries := (k, chunk, n) :: b.tries.filter (fun e => e.1 ≠ k || e.2.1 ≠ chunk) }
  let s1 := ({ s with msc := { s.msc with bcast := some b' } }.addNum o0BcastUnicasts 1).unicast k chunk
  if s1.triesOver b' (fieldOf k) then s1.failLoading (fieldOf k) else s1

/-- No field that counts still has a loader with a missing chunk. -/
def State.allLoaded (s : State) (b : Bcast) : Bool :=
  (s.bcastFields b).all (fun f => (s.fieldMap b f).isEmpty || (s.lacking f).isEmpty)

/-- A broadcast round; when the rounds and the unicasts are over, the install broadcast that ends the procedure, and with it
phase 7 (R630, R652; DESIGN CHOICE, log entry 181: it has no row of its own). -/
def execBroadcastRound (s : State) : Out :=
  .next (
    match s.msc.bcast with
    | some b =>
      if s.roundDue b then s.beginRound b
      else if s.roundsOver b && s.allLoaded b && !b.install then
        ({ s with msc := { s.msc with bcast := some { b with install := true } } }.setNum o0StartPhase 8).broadcast 3 0 (leBytes 4 0)
      else s
    | none => s)

/-- 1 ms after a unicast. -/
def execChunkUnicastCheck (k chunk : Nat) (s : State) : Out :=
  onCluster k s fun s =>
    match s.msc.bcast with
    | some b => when' (s.unicastDue b k chunk) s (s.checkUnicast b k chunk)
    | none => s

/-! ### Phase 8: the start completes (R630, R631, R642, R667) -/

/-- `MODULE_STATE` by the regions in service. -/
def State.serviceState (s : State) : Nat :=
  match ((List.range 12).filter (fun r => s.num (o1RegionState r) = 1)).length with
  | 12 => 1
  | 11 => 2
  | _ => 3

/-- Phase 8 may end: the rounds are over, no started field still has a loader with a missing chunk, and the install broadcast is
sent. -/
def State.completeDue (s : State) : Bool :=
  s.inPhase 8 &&
    (match s.msc.bcast with
     | some b => s.roundsOver b && s.allLoaded b && b.install
     | none => false)

/-- The start completes after `ms`. -/
def State.complete (s : State) (ms : Nat) : State :=
  let s1 := (List.range 12).foldl (fun s r =>
    if s.num (o1RegionState r) = 0 then s.setNum (o1RegionState r) 1 else s) s
  let s2 := ((s1.setNum o0StartPhase 9).setNum o0StartMs ms).setNum o0ModuleState s1.serviceState
  { s2 with msc := { s2.msc with
    starting := none, bcast := none, startedAt := s2.wt, trained := s2.msc.trained || s2.msc.starting = some true
    asked := s2.msc.asked.filter (· ≠ 100) } }

/-- Phase 8. -/
def execStartComplete (ms : BitVec 32) (s : State) : Out := .next (when' s.completeDue s (s.complete ms.toNat))

end Sys2Proof.Machine
end

