-- ==== Sys2Proof/Machine/Firmware.lean ====
section
/-! DEFINITION. Firmware updates and licences (R659 to R667). -/

namespace Sys2Proof.Machine

/-! ### The module's identity (R705, R707) -/

/-- The module certificate (R705): what the table fixes, and what manufacture put in. -/
def certificate : List Byte :=
  leBytes 4 0x54434D48 ++ leBytes 2 1 ++ [BitVec.ofNat 8 ((Config.identity 6).toNat % 4), 0#8] ++ identityBytes 8 34 ++
    List.replicate 6 0#8 ++ identityBytes 0x30 (8 + 48 + 1184 + 18) ++ List.replicate 38 0#8 ++ identityBytes 0x540 16224

def idPublic : List Byte := identityBytes 0x38 48
/-- The identity digest (R707). -/
def idDigest : List Byte := sha256 idPublic

/-! ### Firmware update (R659 to R661) -/

/-- The flash is inhibited (R621). -/
def State.inhibited (s : State) : Bool := s.num o8FlashInhibit = 1

/-- A write of `FW_UPDATE_OPEN` (R659, R660): the state and the status. -/
def State.writeFwOpen (s : State) (len : Nat) : State × Nat :=
  if len = 0 then (s.abandonUpdate, 0)
  else if 536870912 < len then (s, 7)
  else if s.msc.upd.isSome then (s, 9)
  else if s.inhibited then (s, 0xA)
  else
    let b := 1 - s.num o0BootBank % 2
    ({ s with msc := { s.msc with
        upd := some ⟨b, len, []⟩, updLost := false, banks := s.msc.banks.put b ⟨3, 0, len, []⟩ } }.setNum o0FwUpdateResult 1, 0)

/-- A write of `FW_UPDATE_OPEN`. -/
def execFwUpdateOpen (len : BitVec 32) (s : State) : Out := .next (s.writeFwOpen len.toNat).1

/-- A write of `FW_UPDATE_DATA` (R659, R660): the state and the status. -/
def State.writeFwData (s : State) (d : List Byte) : State × Nat :=
  if d.length ≠ 16392 then (s, 6)
  else
    match s.msc.upd with
    | none => (s, 8)
    | some u =>
      let off := leAt d 0 8
      if off % 16384 ≠ 0 ∨ u.len ≤ off then (s, 7)
      else
        let block := (d.drop 8).take (u.len - off)
        ({ s with msc := { s.msc with upd := some { u with blocks := u.blocks.put off block } } }, 0)

/-- A write of `FW_UPDATE_DATA`. -/
def execFwUpdateData (data : List Byte) (s : State) : Out := .next (s.writeFwData data).1

/-- The blocks of an update, first to last; whether one is missing. -/
def Update.blockCount (u : Update) : Nat := (u.len + 16383) / 16384
def Update.whole (u : Update) : Bool := (List.range u.blockCount).all (fun j => u.blocks.has (16384 * j))
def Update.image (u : Update) : List Byte := (List.range u.blockCount).flatMap (fun j => u.blocks.get [] (16384 * j))

/-- A write of `FW_UPDATE_COMMIT` (R659, R660, R702): the state and the status; `sigOk` is what the signature check
answers. -/
def State.writeFwCommit (s : State) (v : Nat) (sigOk : Bool) : State × Nat :=
  if v ≠ 1 then (s, 7)
  else
    match s.msc.upd with
    | none => (s, 8)
    | some u =>
      if !u.whole then (s.setNum o0FwUpdateResult 3, 7)
      else
        let ok := s.verifies u.image u.len sigOk
        let b : Bank := ⟨if ok then 1 else 2, fiVersion u.image, u.len, u.image⟩
        let s1 := { s with msc := { s.msc with upd := none, banks := s.msc.banks.put u.bank b } }
        if ok then ((s1.setNum o0NextBootBank u.bank).setNum o0FwUpdateResult 2, 0)
        else (s1.setNum o0FwUpdateResult 4, 7)

/-- A write of `FW_UPDATE_COMMIT`. -/
def execFwUpdateCommit (v : BitVec 8) (sigOk : Bool) (s : State) : Out := .next (s.writeFwCommit v.toNat sigOk).1

/-! ### Licences (R662 to R665) -/

/-- The form of a licence is right (R662). -/
def licenceForm (d : List Byte) : Bool :=
  leAt d 0 4 = 0x43494C48 && leAt d 4 2 = 1 && leAt d 6 2 = 0 && leAt d 8 8 ≠ 0 && leAt d 0x30 4 < 32 &&
    leAt d 0x30 4 % 4 ≠ 3 && leAt d 0x34 4 = 0

/-- The row of R663 that holds: the result and the status. -/
def State.licenceRow (s : State) (d : List Byte) (sigOk : Bool) : Nat × Nat :=
  if !licenceForm d then (1, 7)
  else if !sigOk then (2, 7)
  else if sliceB d 0x10 32 ≠ idDigest then (3, 7)
  else if s.msc.licences.any (fun x => x.id = leAt d 8 8) then (4, 0)
  else if 16 ≤ s.msc.licences.length then (5, 8)
  else if s.inhibited then (6, 0xA)
  else (0, 0)

/-- A write of `LICENCE_INSTALL` (R663, R664): the state and the status. -/
def State.writeLicence (s : State) (d : List Byte) (sigOk : Bool) : State × Nat :=
  if d.length ≠ 16288 then (s, 6)
  else
    let r := s.licenceRow d sigOk
    let s1 := s.setNum o7LicenceResult r.1
    if r.1 = 0 then
      ({ s1 with msc := { s1.msc with licences := s1.msc.licences ++ [Licence.mk (d.take 64) true] } }.showLicences, r.2)
    else (s1, r.2)

/-- A write of `LICENCE_INSTALL`. -/
def execLicenceInstall (data : List Byte) (sigOk : Bool) (s : State) : Out := .next (s.writeLicence data sigOk).1

/-- An association has `PEER_MODULE` enabled, or a loaded graph has `REMOTE` (R665). -/
def State.remoteUsed (s : State) : Bool :=
  (List.range 12).any (fun p => s.num (o6GraphState p) = 2 && ((s.part p).pkg.map (·.remote)).getD false) ||
    (List.range 24).any (fun n => (List.range 64).any (fun a =>
      let b := s.assocBytes n a
      aEnable b && aPeerModule b))

/-- Whether the features `f` would withdraw one that is in use (R665). -/
def State.withdraws (s : State) (f : Nat) : Bool :=
  let lost := fun (b : Nat) => nbit (s.num o7Features) b && !nbit f b
  (tierOf f < s.num o7StreamTier && (List.range 24).any (fun n => tierOf f / 24 < s.openOf n)) ||
    (lost 2 && (List.range 24).any (fun n => s.num (o4PortConfig n) = 1 || s.num (o4PortConfig n) = 3)) ||
    (lost 3 && s.remoteUsed) || (lost 4 && s.num o8BoostState ≠ 0)

/-- A write of `LICENCE_REMOVE` (R665): the state and the status. -/
def State.writeLicenceRemove (s : State) (licId : Nat) : State × Nat :=
  if !s.msc.licences.any (fun x => x.id = licId) then (s, 7)
  else
    let l := s.msc.licences.filter (fun x => x.id ≠ licId)
    if s.withdraws (featuresOf l) then (s, 8)
    else if s.inhibited then (s, 0xA)
    else ({ s with msc := { s.msc with licences := l } }.showLicences, 0)

/-- A write of `LICENCE_REMOVE`. -/
def execLicenceRemove (licId : BitVec 64) (s : State) : Out := .next (s.writeLicenceRemove licId.toNat).1

end Sys2Proof.Machine
end

