-- ==== Sys2Proof/Machine/Identity.lean ====
section
/-! DEFINITION. Security versions, attestation, the slot, decommissioning, availability and the module's header
(R690 to R692, R697, R704, R709 to R719, R725, R728, R731, R745), and what the objects derived from them read. -/

namespace Sys2Proof.Machine

/-! ### Security versions (R697, R704) -/

/-- A bank whose image no longer verifies reads invalid (R704). -/
def State.recheckBanks (s : State) : State :=
  { s with msc := { s.msc with banks := s.msc.banks.mapV (fun b =>
      if b.state = 1 && !s.verifies b.image b.length true then { b with state := 2 } else b) } }

/-- A write of `SVN_COMMIT` (R704): the state and the status. -/
def State.writeSvn (s : State) (v : Nat) : State × Nat :=
  let h := s.msc.image
  let svn := max (s.num o7SvnCounter) (fiSvn h)
  let rev := s.num o7KeysRevoked ||| fiRevoke h % 4096
  if v ≠ 1 then (s, 7)
  else if svn = s.num o7SvnCounter ∧ rev = s.num o7KeysRevoked then (s, 8)
  else if s.inhibited then (s, 0xA)
  else (((s.setNum o7SvnCounter svn).setNum o7KeysRevoked rev).recheckBanks, 0)

/-- A write of `SVN_COMMIT`. -/
def execSvnCommit (v : BitVec 8) (s : State) : Out := .next (s.writeSvn v.toNat).1

/-! ### What the module reads as (R551, R690, R694) -/

/-- `PARTITION_STATE` (R694): serving while a graph is loaded. -/
def State.partState (s : State) (p : Nat) : Nat :=
  if s.num (o6PartitionState p) = 0 ∧ s.num (o6GraphState p) = 2 then 1 else s.num (o6PartitionState p)

/-- `MODULE_STATE` (R551): once a start has completed, by the regions in service. -/
def State.moduleState (s : State) : Nat :=
  if s.num o0StartPhase = 9 ∧ s.msc.starting.isNone ∧ !s.msc.planeHeld ∧ !s.power.shutdown then s.serviceState
  else s.num o0ModuleState

/-! ### Availability (R690 to R692) -/

/-- A region serves (R690). -/
def State.regionServes (s : State) (r : Nat) : Bool :=
  let p := s.partOfRegion r
  let x := s.part p
  s.num (o1RegionState r) = 1 && s.num (o6GraphState p) = 2 && s.num (o6PartitionState p) ≠ 3 &&
    (s.wt ≤ x.lastCommit + 2 * s.num (o6PeriodNs p) && x.lastCommit ≠ 0 ||
      (s.partPorts p).all (fun n => (s.port n).streams.all (fun (e : Nat × StreamEntry) => !e.2.eligible)))

/-- A millisecond is excluded (R691). -/
def State.excluded (s : State) : Bool :=
  !s.msc.asked.isEmpty || (List.range 12).any (fun p => s.num (o6GraphState p) = 1) ||
    s.num o8CoolantTermW < 26000 || s.num o8FeedsOk = 1 || s.num o8FeedsOk = 2 || s.capTerms.getD 1 0 = 18000 ||
    (List.range 12).all (fun r => s.num (o6GraphState (s.partOfRegion r)) = 0)

/-- A millisecond of availability (R691). -/
def execAvailabilityTick (s : State) : Out :=
  .next (
    let l := (List.range 12).filter s.regionServes
    let s1 := (s.setNum o0RegionsServing l.length).setNum o0ServingMask (l.map (2 ^ ·)).sum
    if 11 ≤ l.length then s1
    else if s.excluded then s1.addNum o0ExcludedNs 1000000 else s1.addNum o0UnavailNs 1000000)

/-- A write of `AVAIL_CLEAR` (R694): the state and the status. -/
def State.writeAvailClear (s : State) (v : Nat) : State × Nat :=
  if v ≠ 1 then (s, 7)
  else (((s.setNum o0UnavailNs 0).setNum o0ExcludedNs 0).setNum o0AvailSince s.wt, 0)

/-- A write of `AVAIL_CLEAR`. -/
def execAvailClear (v : BitVec 8) (s : State) : Out := .next (s.writeAvailClear v.toNat).1

/-! ### Attestation (R709 to R713) -/

/-- What a report says of a partition id (R713). -/
def State.attestPart (s : State) (p : Nat) : List Byte :=
  if s.isPart p then
    leBytes 8 (s.num (o6GraphId p)) ++
      (if s.num (o6GraphState p) = 2 then padTo 32 (((s.part p).pkg.map (·.digest)).getD []) else List.replicate 32 0#8) ++
      leBytes 2 (s.spanMask p) ++ leBytes 1 (s.num (o6GraphState p)) ++ leBytes 1 (s.partState p) ++ leBytes 4 0
  else List.replicate 48 0#8

/-- The digest of the saved configuration (R713). -/
def State.configDigest (s : State) : List Byte :=
  match s.msc.saved with
  | some d => sha256 (Config.savedForm d.nums d.blobs)
  | none => List.replicate 32 0#8

/-- Numbers in ascending order. -/
def ascending (l : List Nat) : List Nat := l.mergeSort (· ≤ ·)

/-- The content of a report at the moment of capture (R713): bytes 0x000 to 0x37F. -/
def State.attestBody (s : State) (nonce : List Byte) : List Byte :=
  let h := s.msc.image
  let flags := b2n (s.timeState = 2) + 2 * b2n (s.num o7SvnCounter < fiSvn h) + 4 * s.num o0SlotChanged + 8 * b2n s.msc.second
  let fw := if 7 ≤ s.num o0StartPhase then padTo 32 (mfImage s.msc.manifest) else List.replicate 32 0#8
  let ids := (ascending (s.msc.licences.map (·.id))).flatMap (leBytes 8)
  leBytes 4 0x54415248 ++ leBytes 2 1 ++ leBytes 2 flags ++ padTo 32 nonce ++ leBytes 8 s.wt ++ idDigest ++
    sha256 (h.take 0x4000) ++ leBytes 4 (fiVersion h) ++ leBytes 1 (fiSvn h) ++ leBytes 1 (s.num o7SvnCounter) ++
    leBytes 2 (s.num o7KeysRevoked) ++ leBytes 1 (s.num o0BootBank) ++ leBytes 1 (s.num o7Features) ++
    leBytes 1 s.moduleState ++ leBytes 1 s.msc.licences.length ++ leBytes 4 (s.num o0SlotId) ++ fw ++ s.configDigest ++
    padTo 128 ids ++ (List.range 12).flatMap s.attestPart

/-- A write of `ATTEST_REQUEST` (R709, R710): the state and the status. -/
def State.writeAttest (s : State) (nonce : List Byte) : State × Nat :=
  if nonce.length ≠ 32 then (s, 6)
  else if s.num o7AttestState = 1 ∨ (s.num o7AttestState = 2 ∧ s.wt < s.msc.attestAt + 10000000000) then (s, 9)
  else
    (({ s with msc := { s.msc with attest := s.attestBody nonce } }.setNum o7AttestState 1).setBlob o7AttestReport [], 0)

/-- A write of `ATTEST_REQUEST`. -/
def execAttestRequest (nonce : List Byte) (s : State) : Out := .next (s.writeAttest nonce).1

/-- Tinder has signed the report (R709). -/
def execAttestSigned (sig : List Byte) (s : State) : Out :=
  .next (
    if s.num o7AttestState = 1 then
      let s1 := s.setBlob o7AttestReport (s.msc.attest ++ padTo 16224 sig)
      ({ s1 with msc := { s1.msc with attest := [], attestAt := s1.wt } }.setNum o7AttestState 2).addNum o7Attests 1
    else s)

/-! ### The slot and decommissioning (R715 to R719, R731) -/

/-- A write of `SLOT_ACCEPT` (R716, R731): the state and the status. -/
def State.writeSlot (s : State) (v : Nat) : State × Nat :=
  if v ≠ 1 then (s, 7)
  else if s.num o0SlotId = 0 then (s, 8)
  else if s.inhibited then (s, 0xA)
  else ({ s with msc := { s.msc with slotStored := some (s.num o0SlotId) } }.setNum o0SlotChanged 0, 0)

/-- A write of `SLOT_ACCEPT`. -/
def execSlotAccept (v : BitVec 8) (s : State) : Out := .next (s.writeSlot v.toNat).1

/-- The erasures of R719. -/
def State.eraseOwner (s : State) : State :=
  let roles := (List.range 33).foldl (fun (m : SMap Nat) k => m.del (o7CredRole k)) (s.dict.nums.del o0ConfigSavedTime)
  { s with
    dict := ⟨roles, (List.range 31).foldl (fun (m : SMap (List Byte)) k => m.del (o7CredName (k + 2))) s.dict.blobs⟩
    msc := { s.msc with credKeys := [], licences := [], saved := none, slotStored := none } }

/-- A write of `DECOMMISSION` (R719): the state and the status. -/
def State.writeDecommission (s : State) (digest : List Byte) (sigA sigB : Bool) : State × Nat :=
  if digest.length ≠ 32 then (s, 6)
  else if digest ≠ idDigest then (s, 7)
  else if (List.range 12).any (fun p => s.num (o6GraphState p) = 2) then (s, 8)
  else if s.inhibited then (s, 0xA)
  else (s.eraseOwner.storeWear.beginCold sigA sigB, 0)

/-- A write of `DECOMMISSION`. -/
def execDecommission (digest : List Byte) (sigA sigB : Bool) (s : State) : Out :=
  .next (s.writeDecommission digest sigA sigB).1

/-! ### The header and the management links (R725, R728, R742) -/

/-- The interlock loop opens or closes (R728). -/
def execInterlockChange (closed : Bool) (s : State) : Out := .next (s.setNum o0InterlockClosed (b2n closed))

/-- A management port gains or loses link (R551, R725); no link comes up before the MSC runs (R742). -/
def execMgtLinkChange (b up : Bool) (s : State) : Out :=
  .next (
    let v := s.num o0MgtLink
    let on := nbit v (b2n b)
    if up && !on && s.msc.booted then s.setNum o0MgtLink (v + 2 ^ b2n b)
    else if !up && on then s.setNum o0MgtLink (v - 2 ^ b2n b)
    else s)

end Sys2Proof.Machine
end

