-- ==== Sys2Proof/Machine/Reads.lean ====
section
/-! DEFINITION. What the objects of the dictionary read as (R32 to R38, R155, R216, R256, R315, R361, R418, R464, R515,
R531 to R535, R551, R582, R588, R627, R638, R667, R694, R720, R745 to R749). -/

namespace Sys2Proof.Machine

/-! ### Latched counts (R541, R580, R582) -/

/-- A count of a unit as the latest complete module mark latched it. -/
def State.latched (s : State) (u : MarkUnit) (off : Nat) : Nat := (Sparse.rd (s.clocks.shadow false u).before off).toNat

/-- The sum of counts over the units that a test selects. -/
def State.latchedSum (s : State) (sel : MarkUnit → Bool) (offs : List Nat) : Nat :=
  (((s.clocks.shadow0.filter (fun h => sel h.unit)).map (fun h =>
    (offs.map (fun o => (Sparse.rd h.before o).toNat)).sum)).sum) % 2 ^ 64

def isCmem : MarkUnit → Bool | .clusterMemory _ => true | _ => false

/-- Objects of consecutive numbers from `n` on, each the sum of the counts of units of one kind at the offsets of its list. -/
def sumsFrom (unit : MarkUnit → Bool) : Nat → List (List Nat) → List (Nat × (MarkUnit → Bool) × List Nat)
  | _, [] => []
  | n, l :: r => (n, unit, l) :: sumsFrom unit (n + 1) r

/-- The same count of each of the first `n` ports of a message router. -/
def portsCount (n at_ : Nat) : List Nat := (List.range n).map (fun p => at_ + 64 * p)

/-- The field sums (R155, R216, R256, R315, R361, R418), by object number: the kind of unit and the counts. -/
def fieldSums : List (Nat × (MarkUnit → Bool) × List Nat) :=
  sumsFrom isCore 0x0200 ((List.range 8).map (fun j => [0x460 + 8 * j])) ++
    sumsFrom isCore 0x0300 [[0x20], [0x28], [0x30], [0x38], [0x40]] ++
    sumsFrom isCore 0x0305 [[0x10000], [0x10001], [0x10002], [0x50], [0x58]] ++
    sumsFrom isSched 0x0400 [[slotMissCount], [retryCount], [mergeConflictCount], [nullBeatCount]] ++
    sumsFrom isSched 0x0500 ((List.range 5).map (fun j => [0x80058 + 8 * j]) ++ [[0x80088, 0x80090, 0x80098], [stitchRetrainCount], [laneRepairCount]]) ++
    sumsFrom isMsg 0x0600 ([portsCount 4 0xA0100] ++ [0xA0110, 0xA0128, 0xA0120, 0xA0118].map (portsCount 5)) ++
    sumsFrom isMsg 0x0605 [[0xA0030], [0xA0038]] ++ [(0x0608, isMsg, [0xA0060])] ++
    sumsFrom isChannel 0x0700 ((List.range 4).map (fun j => [0x10 + 8 * j]) ++ [[0x30, 0x40], [0x38, 0x48]])

/-- A soft-fuse record (R638). -/
def SoftFuse.bytes (r : SoftFuse) : List Byte :=
  let b := leBytes 1 r.kind ++ leBytes 1 (b2n r.applied) ++ leBytes 2 0 ++ leBytes 4 r.loc ++ leBytes 8 r.time ++
    leBytes 4 r.cause ++ leBytes 8 0
  b ++ leBytes 4 (crc32c b)

/-! ### Numbers -/

/-- The port clusters of a port engine (R353): the cluster and its outer port, by column. -/
def portClusters (n : Nat) : List (Nat × Nat) :=
  [1, 4, 7, 10].map (fun x => if n < 12 then (n * 96 + x, 0) else ((n + 60) * 96 + 84 + x, 2))

/-- A count of the attach links of a port, by its offset in the port block (R360, R361). -/
def State.attachCount (s : State) (n off : Nat) : Nat :=
  ((portClusters n).map (fun e => s.latched (.msgRouter e.1) (0xA0100 + 64 * e.2 + off))).sum % 2 ^ 64

/-- Service availability (R692). -/
def State.availability (s : State) : Nat :=
  let t := s.wt - s.num o0AvailSince - s.num o0ExcludedNs
  let u := s.num o0UnavailNs
  f32Word (if t = 0 then ⟨1, 1⟩ else ⟨t - u, t⟩)

/-- `ALERT_N` is low (R734, R742). -/
def State.alert (s : State) : Bool :=
  s.msc.booted && (s.moduleState = 3 || (List.range 12).any (fun r => s.num (o8FuseState r) ≠ 0))

/-- The links of a field's routers that are down, the wafer edge excluded (R361), each once; none before a start. -/
def State.linksDown (s : State) (f : Nat) : Nat :=
  if s.fieldState f ≠ 1 then 0
  else (((List.range 96).map (fun j => f * 96 + j)).map (fun k => ((List.range 4).filter (fun p =>
    ((neighbour k p).isSome || (attachOf k p).isSome) && (p = 1 || p = 2 || (crossingOf k p).isSome) &&
      !s.linkUp k p)).length)).sum

/-- A field's latest record as a reader of its objects sees it (R749): its own, or for a lost one the MSC's copy. Nothing
is read of a record that does not exist. -/
def State.mapGeneration (s : State) (f : Nat) : Nat :=
  if s.num (o2FieldState f) = 3 then leAt (s.field f).mscCopy 8 8
  else if (s.field f).dm.built then (s.field f).dm.generation else 0
def State.mapAbsent (s : State) (f : Nat) : Nat :=
  if s.num (o2FieldState f) = 3 then leAt (s.field f).mscCopy 4 2
  else if (s.field f).dm.built then (s.field f).absent else 0

/-- Whether a field's latest record exists and does not show it quarantined. -/
def State.mapCounts (s : State) (f : Nat) : Bool :=
  if s.num (o2FieldState f) = 3 then !(s.field f).mscCopy.isEmpty && !nbit (leAt (s.field f).mscCopy 3 1) 0
  else (s.field f).dm.built && s.num (o2FieldState f) ≠ 2

/-- The present positions over the fields that are not quarantined (R53). -/
def State.clustersPresent (s : State) : Nat := (((List.range 84).filter s.mapCounts).map (fun f => 96 - s.mapAbsent f)).sum

/-- Objects of scope 0 that are computed when read. -/
def State.readModule (s : State) (num : Nat) : Nat :=
  match num with
  | 0x0100 => s.clustersPresent
  | 0x0003 => ofLe (identityBytes 0x28 2)
  | 0x0005 => s.moduleState
  | 0x0006 => s.wt
  | 0x0007 => (s.wt - s.msc.startedAt) / 1000000000
  | 0x0010 => (s.hdp.sessions.filter (·.open_)).length
  | 0x0805 => s.clockFlags
  | 0x0806 => s.fabricKhz
  | 0x0811 => s.timeState
  | 0x0D06 => s.availability
  | 0x0F04 => b2n s.alert
  | n => s.num (okey 0 0 n)

/-- Objects of a field. -/
def State.readField (s : State) (f num : Nat) : Nat :=
  let chans := (List.range 24).map (fun c => s.chan (f * 24 + c))
  match num with
  | 0x0101 => s.mapGeneration f
  | 0x0102 => s.mapAbsent f
  | 0x0607 => s.linksDown f
  | 0x0707 => b2n (chans.any (·.refresh2x))
  | 0x0708 => (chans.zipIdx.map (fun (e : Chan × Nat) => if e.1.chState = 2 then 2 ^ e.2 else 0)).sum
  | 0x0800 => s.clockReg f 0 4
  | 0x0801 => (s.clk f).depth
  | 0x0803 => s.num (o2FreqGate f)
  | 0x0804 => if (s.clk f).busy then 0 else s.clockReg f 0x40 8
  | 0x0805 => s.clockReg f 0x48 8
  | n =>
    match fieldSums.find? (fun e => e.1 = n) with
    | some e => s.latchedSum (fun u => unitField u = some f && e.2.1 u) e.2.2
    | none => s.num (okey 2 f n)

/-- Objects of a cluster. -/
def State.readCluster (s : State) (k num : Nat) : Nat :=
  match num with
  | 0x0100 => s.clusterState k
  | 0x0500 => s.latched (.schedRouter k) 0x20000000
  | 0x0501 => s.latched (.schedRouter k) 0x80090
  | 0x0700 | 0x0701 => s.latched (.clusterMemory k) (0xA1050 + 8 * (num - 0x0700))
  | 0x0702 | 0x0703 => s.latched (.clusterMemory k) (0xA1068 + 8 * (num - 0x0702))
  | 0x0704 => (s.cluster k).cmemCtrl.toNat % 32
  | 0x0C00 => (s.cluster k).ldr.status
  | n => s.num (okey 3 k n)

/-- Objects of a port. -/
def State.readPort (s : State) (n num : Nat) : Nat :=
  match num with
  | 0x0600 => s.attachCount n 8
  | 0x0601 => s.attachCount n 0
  | 0x0602 => s.attachCount n 0x10
  | 0x0603 => ((portClusters n).map (fun e => (s.cluster e.1).peaks.get 0 e.2 % 256)).foldl max 0
  | 0x0604 => ((portClusters n).zipIdx.map (fun (e : (Nat × Nat) × Nat) =>
      if s.linkUp e.1.1 e.1.2 then 2 ^ e.2 else 0)).sum
  | 0x0904 => s.openOf n
  | m => s.num (okey 4 n m)

/-- Objects of a supply (R627). -/
def State.readSupply (s : State) (w num : Nat) : Nat :=
  match num with
  | 0x0B01 =>
    if w < 12 then s.latched (.regulator w) 0
    else if w = 12 then s.latchedSum isRegulator [0] else s.latched .msc 0
  | 0x0B06 => s.wearS w
  | 0x0B09 => (s.region w).rows / 2
  | 0x0B0A => s.awakeCeiling w
  | 0x0B0B => s.latched (.regulator w) 6
  | 0x0B13 => s.powerCap
  | 0x0B14 => s.capReason
  | 0x0B19 => s.boostCeiling
  | n => s.num (okey 8 w n)

/-- A numeric object. -/
def State.readNum (s : State) (scope inst num : Nat) : Nat :=
  match scope, num with
  | 0, n => s.readModule n
  | 1, 0x0101 => s.partOfRegion inst
  | 2, n => s.readField inst n
  | 3, n => s.readCluster inst n
  | 4, n => s.readPort inst n
  | 5, _ => (s.entry (inst / 1024) (inst % 1024)).state
  | 6, 0x0100 => s.spanMask inst
  | 6, 0x0916 => s.openIn inst
  | 6, 0x0D01 => s.partState inst
  | 8, n => s.readSupply inst n
  | c, n => s.num (okey c inst n)

/-! ### Byte strings -/

/-- A number in decimal, in ASCII. -/
def decimal (n : Nat) : List Byte := ascii (toString n)

/-- `FIRMWARE_VERSION` (R703). -/
def State.versionText (s : State) : List Byte :=
  if s.msc.image.isEmpty then []
  else
    let v := fiVersion s.msc.image
    decimal (v / 2 ^ 24 % 256) ++ ascii "." ++ decimal (v / 2 ^ 16 % 256) ++ ascii "." ++ decimal (v % 2 ^ 16)

/-- `SESSION_LIST` (R551). -/
def State.sessionList (s : State) : List Byte :=
  padTo 256 ((s.hdp.sessions.filter (·.open_)).flatMap (fun x =>
    leBytes 4 x.id ++ leBytes 1 x.cred ++ leBytes 1 x.role ++ leBytes 2 0 ++ leBytes 8 x.since))

/-- `FW_BANKS` (R667). -/
def State.bankBytes (s : State) : List Byte :=
  [0, 1].flatMap (fun b => leBytes 4 (s.bank b).state ++ leBytes 4 (s.bank b).version ++ leBytes 4 (s.bank b).length ++ leBytes 4 0)

/-- `FIELDS_QUARANTINED` (R667). -/
def State.quarantinedBytes (s : State) : List Byte :=
  leBytes 11 (((List.range 84).map (fun f => if s.num (o2FieldState f) = 2 then 2 ^ f else 0)).sum)

/-- `ASSOC_STATUS[a]` (R515). -/
def State.assocStatus (s : State) (n a : Nat) : List Byte :=
  let x := s.assoc n a
  let en := aEnable (s.assocBytes n a)
  let st := if !en then 0 else if x.up then 2 else 1
  leBytes 4 st ++ leBytes 4 (if x.rate.d = 0 then 0 else x.rate.n / x.rate.d) ++ leBytes 4 x.srtt ++
    leBytes 4 ((x.ring.map (·.size)).sum)

/-- `MP_PORT_COUNTS` (R361). -/
def State.portCounts (s : State) (k : Nat) : List Byte :=
  (List.range 5).flatMap (fun p =>
    let at_ := fun (o : Nat) => s.latched (.msgRouter k) (0xA0100 + 64 * p + o)
    (List.range 6).flatMap (fun j => leBytes 8 (at_ (8 * j))) ++
      ([0x30, 0x34, 0x38].flatMap (fun o => leBytes 4 (at_ o))) ++ leBytes 4 0)

/-- A byte-string object. -/
def State.readBlob (s : State) (scope inst num : Nat) : List Byte :=
  match scope, num with
  | 0, 0x0002 => (identityBytes 8 32).takeWhile (· ≠ 0#8)
  | 0, 0x0004 => s.versionText
  | 0, 0x0015 => s.sessionList
  | 0, 0x0024 => beBytes 6 (mgtMac false)
  | 0, 0x0025 => beBytes 6 (mgtMac true)
  | 0, 0x0C02 => s.bankBytes
  | 0, 0x0C0D => s.quarantinedBytes
  | 0, 0x0D11 => s.msc.records.flatMap FaultRec.bytes
  | 2, 0x0100 => s.defectMap inst
  | 2, 0x0706 =>
    match (s.field inst).ueLast with
    | some e => leBytes 8 e.1 ++ leBytes 8 e.2
    | none => []
  | 2, 0x0C01 => (s.field inst).records.flatMap SoftFuse.bytes
  | 3, 0x0600 => s.portCounts inst
  | 4, 0x0A05 => beBytes 6 (portMacOf inst)
  | 4, n =>
    if 0x0AC0 ≤ n ∧ n < 0x0B00 then s.assocStatus inst (n - 0x0AC0)
    else if 0x0A40 ≤ n ∧ n < 0x0A80 then s.assocBytes inst (n - 0x0A40)
    else if 0x0A80 ≤ n ∧ n < 0x0AC0 then s.windowBytes inst (n - 0x0A80)
    else s.blob (okey 4 inst n)
  | 5, _ =>
    let e := s.entry (inst / 1024) (inst % 1024)
    if e.state = 0 then [] else e.bytes
  | 7, 0x0C02 => s.msc.licences.flatMap (·.body)
  | 7, 0x0E00 => certificate
  | 7, 0x0E01 => idDigest
  | 8, 0x0B02 => (List.range 5).flatMap (fun j => leBytes 8 (s.latched (.regulator inst) (j + 1)))
  | 8, 0x0B11 => s.leaseBytes
  | c, n => s.blob (okey c inst n)

/-! ### Which objects exist (R531, R532) -/

/-- Whether a scope has an instance (R531). -/
def State.instOk (s : State) (scope inst : Nat) : Bool :=
  match scope with
  | 0 => inst = 0
  | 1 => inst < 12
  | 2 => inst < 84
  | 3 => inst < 8064
  | 4 => inst < 24
  | 5 => inst < 24576
  | 6 => s.isPart inst
  | 7 => inst ≤ 32
  | 8 => inst ≤ 13
  | _ => false

/-- The instances of a supply object (R627). -/
def supplyHas (w num : Nat) : Bool :=
  if num ≤ 0x0B01 then true
  else if num = 0x0B0C then w ≤ 12
  else if num ≤ 0x0B0B then w < 12
  else w = 12

/-- The row of an object of an instance: the indexed rows of R515, `AUX_V`, and the division of scope 7 into the
module's objects and the credentials'. -/
def rowOf (scope inst num : Nat) : Option ObjRow :=
  if scope = 4 ∧ 0x0A40 ≤ num ∧ num < 0x0A80 then some ⟨4, num, "ASSOC[" ++ toString (num - 0x0A40) ++ "]", .blob, .rw, 2, false, false⟩
  else if scope = 4 ∧ 0x0A80 ≤ num ∧ num < 0x0AC0 then some ⟨4, num, "WINDOW[" ++ toString (num - 0x0A80) ++ "]", .blob, .rw, 2, false, false⟩
  else if scope = 4 ∧ 0x0AC0 ≤ num ∧ num < 0x0B00 then
    some ⟨4, num, "ASSOC_STATUS[" ++ toString (num - 0x0AC0) ++ "]", .blob, .ro, 0, false, false⟩
  else if scope = 8 ∧ inst = 13 ∧ num = 0x0B02 then some ⟨8, num, "AUX_V", .f32, .ro, 0, false, false⟩
  else if scope = 7 ∧ (inst = 0 ↔ num < 0x0100) then none
  else if scope = 8 ∧ !supplyHas inst num then none
  else objRow scope num

/-- The region on which an object's unit depends, or none (R550). -/
def unitRegionOf (scope inst num : Nat) : Option Nat :=
  match scope with
  | 2 => if num = 0x0100 ∨ num = 0x0101 ∨ num = 0x0102 ∨ num = 0x0103 then none else some (inst % 12)
  | 3 => some (inst / 96 % 12)
  | 4 => some (inst % 12)
  | 5 => some (inst / 1024 % 12)
  | 8 => if inst < 12 ∧ (num ≤ 0x0B02 ∨ num = 0x0B0B ∨ num = 0x0B0C) then some inst else none
  | _ => none

/-- An object's unit cannot be reached: its region is lost (R550, R584, R749), or it is a stream that went with its port engine
(R679). -/
def State.objGone (s : State) (scope inst num : Nat) : Bool :=
  match unitRegionOf scope inst num with
  | some r => s.num (o1RegionState r) = 3 || (scope = 5 && s.num (o1RegionState r) = 2)
  | none => false

/-- Why an object cannot be addressed (R531, R532, R550): the status, 0 for none. -/
def State.addressBad (s : State) (scope inst num : Nat) : Nat :=
  if 9 ≤ scope then 1
  else if !s.instOk scope inst then 2
  else if (rowOf scope inst num).isNone then 3
  else if s.objGone scope inst num then 0xC
  else 0

/-! ### Wire values (R533) -/

/-- The wire length of a type; none for a byte string. -/
def ObjType.len : ObjType → Option Nat
  | .u8 => some 1
  | .u16 => some 2
  | .u32 => some 4
  | .u64 => some 8
  | .i32 => some 4
  | .f32 => some 4
  | .bool => some 1
  | .time64 => some 8
  | .str => none
  | .blob => none

/-- The type code of R533. -/
def ObjType.code : ObjType → Nat
  | .u8 => 0
  | .u16 => 1
  | .u32 => 2
  | .u64 => 3
  | .i32 => 4
  | .f32 => 5
  | .bool => 6
  | .time64 => 7
  | .str => 8
  | .blob => 9

/-- The value of an object as it travels; a WO or CMD object reads zero, or nothing (R14, R535). -/
def State.wire (s : State) (r : ObjRow) (inst : Nat) : List Byte :=
  match r.typ.len with
  | some n => if r.acc = .wo ∨ r.acc = .cmd then List.replicate n 0#8 else beBytes n (s.readNum r.scope inst r.num)
  | none => if r.acc = .wo ∨ r.acc = .cmd then [] else s.readBlob r.scope inst r.num

/-- What a read changes (R14): an RC object returns to its reset value. What no command measures (`AIR_TEMP_C`,
`FEC_CORRECTED`) takes a free value as it is read. -/
def State.beforeRead (s : State) (scope inst num : Nat) : State :=
  if scope = 0 ∧ num = 0x0F05 then s.draw.2.setNum (okey scope inst num) ((Config.freeLong s.free).toNat % 2 ^ 32)
  else if scope = 4 ∧ num = 0x0A0B ∧ s.num (o4PortState inst) = 2 then s.draw.2.addNum (o4FecCorrected inst) (Config.freeNat s.free)
  else s
def State.afterRead (s : State) (scope inst num : Nat) : State :=
  if scope = 2 ∧ num = 0x0508 then s.setNum (o2StitchMarginMin inst) 48
  else if scope = 4 ∧ num = 0x0603 then
    (portClusters inst).foldl (fun s e => s.modCluster e.1 (fun x => { x with
      peaks := x.peaks.put e.2 (x.peaks.get 0 e.2 / 256 * 256) })) s
  else s

/-- A read of an object: the state, the status and the value. -/
def State.readObj (s : State) (scope inst num : Nat) : State × Nat × List Byte :=
  let bad := s.addressBad scope inst num
  match rowOf scope inst num with
  | some r =>
    if bad ≠ 0 then (s, bad, [])
    else
      let s1 := s.beforeRead scope inst num
      (s1.afterRead scope inst num, 0, s1.wire r inst)
  | none => (s, bad, [])

end Sys2Proof.Machine
end

