-- ==== Sys2Proof/Machine/Writes.lean ====
section
/-! DEFINITION. Writes of the dictionary's objects (R534 to R538, R551, R552): ranges, the saved configuration,
credentials, and which operation each object's write is. -/

namespace Sys2Proof.Machine

/-! ### The saved configuration (R537, R551) -/

/-- An object that `CONFIG_SAVE` stores: RW, of scopes 0, 1, 4, 6 and 8. -/
def saves (key : Nat) : Bool :=
  let scope := key / 2 ^ 32
  (scope = 0 || scope = 1 || scope = 4 || scope = 6 || scope = 8) &&
    (match rowOf scope (key / 2 ^ 16 % 2 ^ 16) (key % 2 ^ 16) with
     | some r => r.acc = .rw
     | none => false)

/-- The configuration as it stands: what differs from its default. -/
def State.savedDict (s : State) : Dict :=
  ⟨s.dict.nums.filter (fun e => saves e.1 && e.2 ≠ numDefault e.1),
    s.dict.blobs.filter (fun e => saves e.1 && e.2 ≠ blobDefault e.1 && e.2 ≠ List.replicate 48 0#8)⟩

/-- A write of `CONFIG_SAVE` (R538, R551): the state and the status. -/
def State.writeConfigSave (s : State) (v : Nat) : State × Nat :=
  if v ≠ 1 then (s, 7)
  else if s.inhibited then (s, 0xA)
  else ({ s with msc := { s.msc with saved := some s.savedDict } }.setNum o0ConfigSavedTime s.wt, 0)

/-- A write of `CONFIG_SAVE`. -/
def execConfigSave (v : BitVec 8) (s : State) : Out := .next (s.writeConfigSave v.toNat).1

/-- A write of `CONFIG_CLEAR` (R538, R551): the state and the status. -/
def State.writeConfigClear (s : State) (v : Nat) : State × Nat :=
  if v ≠ 1 then (s, 7)
  else if s.inhibited then (s, 0xA)
  else ({ s with msc := { s.msc with saved := none } }.setNum o0ConfigSavedTime 0, 0)

/-- A write of `CONFIG_CLEAR`. -/
def execConfigClear (v : BitVec 8) (s : State) : Out := .next (s.writeConfigClear v.toNat).1

/-! ### Credentials and sessions (R530, R551, R552) -/

/-- The secret of a credential: what was written, or for credential 1 its factory key (R552, R719). -/
def State.credKey (s : State) (c : Nat) : Option (List Byte) :=
  match s.msc.credKeys.look c with
  | some k => some k
  | none => if c = 1 then some ((List.range 32).map Config.factoryKey) else none

/-- Sessions end (R530): their keys are gone, what they wait for is dropped, and their ids are not taken again soon. -/
def Hdp.retire (x : Hdp) (p : Session → Bool) : Hdp :=
  let out := x.sessions.filter p
  { x with
    sessions := x.sessions.filter (fun y => !p y)
    msgs := x.msgs.filter (fun m => !out.any (fun y => y.id = m.sid))
    ready := x.ready.filter (fun e => !out.any (fun y => y.id = e.2.1))
    ended := out.foldl (fun l y => l.put y.id x.opened) x.ended }

/-- The sessions of a credential end (R530). -/
def State.endSessionsOf (s : State) (c : Nat) : State := { s with hdp := s.hdp.retire (fun x => x.cred = c) }

/-- A write of `CRED_KEY` (R530, R538, R551): the state and the status. -/
def State.writeCredKey (s : State) (c : Nat) (key : List Byte) : State × Nat :=
  if key.length ≠ 32 then (s, 6)
  else if s.inhibited then (s, 0xA)
  else ({ s with msc := { s.msc with credKeys := s.msc.credKeys.put c key } }.endSessionsOf c, 0)

/-- A credential that the command names. -/
def onCred (c : Nat) (s : State) (f : State → State) : Out := if 1 ≤ c ∧ c ≤ 32 then .next (f s) else .fault .noSuchUnit

/-- A write of a credential's key. -/
def execCredKey (ix : Nat) (key : List Byte) (s : State) : Out := onCred ix s fun s => (s.writeCredKey ix key).1

/-- A custodian with a key would remain (R552). -/
def State.custodianRemains (s : State) : Bool :=
  (List.range 32).any (fun j => s.num (o7CredRole (j + 1)) = 4 && (s.credKey (j + 1)).isSome)

/-- A write of `CRED_ROLE` (R530, R538, R551, R552): the state and the status. -/
def State.writeCredRole (s : State) (c v : Nat) : State × Nat :=
  if 4 < v then (s, 7)
  else if s.inhibited then (s, 0xA)
  else
    let s1 := s.setNum (o7CredRole c) v
    if s1.custodianRemains then (s1.endSessionsOf c, 0) else (s, 8)

/-- A write of a credential's role. -/
def execCredRole (ix : Nat) (v : BitVec 8) (s : State) : Out := onCred ix s fun s => (s.writeCredRole ix v.toNat).1

/-- A session ends. -/
def State.endSession (s : State) (sid : Nat) : State :=
  { s with hdp := s.hdp.retire (fun x => x.id = sid) }

/-- A write of `SESSION_KILL` (R530, R551): the state and the status. -/
def State.writeSessionKill (s : State) (sid : Nat) : State × Nat :=
  if s.hdp.sessions.any (fun x => x.id = sid) then (s.endSession sid, 0) else (s, 7)

/-- A write of `SESSION_KILL`. -/
def execSessionKill (sid : BitVec 32) (s : State) : Out := .next (s.writeSessionKill sid.toNat).1

/-! ### Plain RW objects -/

/-- The ranges of RW numbers that are narrower than their type (R53, R361, R418, R464, R515, R551, R588, R627, R667), by
object number within a scope: from, to. -/
def valueRange (scope num : Nat) : Option (Nat × Nat) :=
  match scope with
  | 0 => moduleRange num
  | 2 => if num = 0x0803 then some (1000, 0xFFFFFFFF) else none
  | 4 => portRange num
  | 6 => partRange num
  | 8 => if num = 0x0B15 then some (18000, 32000) else none
  | _ => none
where
  moduleRange : Nat → Option (Nat × Nat)
    | 0x0011 => some (30, 3600)
    | 0x0030 => some (0, 4094)
    | 0x0031 => some (0, 0xFFFFFF)
    | 0x0601 => some (0, 7)
    | 0x0700 => some (1, 720)
    | n => if n = 0x0807 then some (600, 2400) else if n = 0x0C01 then some (0, 1) else none
  portRange : Nat → Option (Nat × Nat)
    | 0x0A08 | 0x0A12 => some (0, 63)
    | 0x0A22 => some (0, 2)
    | 0x0A30 => some (20, 65535)
    | 0x0A31 => some (100, 65535)
    | n => if n = 0x0A32 then some (10, 65535) else none
  partRange : Nat → Option (Nat × Nat)
    | 0x0900 => some (2000000, 200000000)
    | 0x0901 => some (50000, 2000000)
    | 0x0902 => some (1, 65536)
    | 0x0904 => some (1, 65535)
    | 0x0907 => some (16, 4096)
    | n => if n = 0x0909 then some (1, 16777216) else none

/-- A number that an RW object takes. -/
def valueOk (scope num v : Nat) : Bool :=
  (match valueRange scope num with
   | some r => r.1 ≤ v && v ≤ r.2
   | none => true) &&
  (!(scope = 0 && (num = 0x0800 || num = 0x0801 || num = 0x0810)) || v < 24 || v = 255) &&
  (!(scope = 0 && num = 0x0820) || v = 0 || (100 ≤ v && v ≤ 3600000)) &&
  (!(scope = 6 && num = 0x0907) || powerOfTwo v) && (!(scope = 6 && num = 0x0908) || v % 64 = 0)

/-- A write of an RW number with no operation of its own: the state and the status. -/
def State.writePlain (s : State) (scope inst num v : Nat) : State × Nat :=
  if !valueOk scope num v then (s, 7)
  else if scope = 6 ∧ num ≠ 0x090C ∧ s.openIn inst ≠ 0 then (s, 8)
  else
    let s1 := s.setNum (okey scope inst num) v
    if scope = 0 ∧ (num = 0x0800 ∨ num = 0x0801) then
      -- another port is no valid source until it is found so (R556)
      (if s.num (okey 0 inst num) = v then s else s1.loseSource (if num = 0x0800 then .primary else .alternate), 0)
    else if scope = 4 ∧ num = 0x0A12 then (s1.applyPath inst, 0)
    else if scope = 0 ∧ (num = 0x0600 ∨ num = 0x0601 ∨ num = 0x0602) then ((List.range 84).foldl (fun s f => s.setRouters num f) s1, 0)
    else (s1, 0)

/-- A write of an RW byte string with no operation of its own: an address of 16 bytes, or a label. -/
def State.writeBytes (s : State) (r : ObjRow) (inst : Nat) (v : List Byte) : State × Nat :=
  if r.typ = .str then
    if 256 < v.length then (s, 6) else (s.setBlob (okey r.scope inst r.num) v, 0)
  else if v.length ≠ 16 then (s, 6) else (s.setBlob (okey r.scope inst r.num) v, 0)

/-! ### The write of any object (R534 to R538) -/

/-- What a signature check answers where a write through HDP asks for one: a free value. -/
def State.sigFree (s : State) (j : Nat) : Bool := nbit (Config.freeLong s.free).toNat j

/-- Writes of scope 0 with an operation of their own. -/
def State.writeModule (s : State) (num v : Nat) (d : List Byte) : Option (State × Nat) :=
  match num with
  | 0x0120 => some (s.writeSplit v)
  | 0x0009 => some (s.draw.2.writeModuleReset v (s.sigFree 0) (s.sigFree 1))
  | 0x000A => some (s.writeConfigSave v)
  | 0x000B => some (s.writeConfigClear v)
  | 0x0016 => some (s.writeSessionKill v)
  | 0x0821 => some (s.writeSampleMark v)
  | 0x0C04 => some (s.writeFwOpen v)
  | 0x0C05 => some (s.writeFwData d)
  | 0x0C06 => some (s.draw.2.writeFwCommit v (s.sigFree 0))
  | 0x0D05 => some (s.writeAvailClear v)
  | 0x0E02 => some (s.writeSlot v)
  | _ => none

/-- Writes of a port's objects with an operation of their own. -/
def State.writePort (s : State) (n num v : Nat) (d : List Byte) : Option (State × Nat) :=
  if 0x0A40 ≤ num ∧ num < 0x0A80 then some (s.writeAssoc n (num - 0x0A40) d)
  else if 0x0A80 ≤ num ∧ num < 0x0AC0 then some (s.writeWindow n (num - 0x0A80) d)
  else
    match num with
    | 0x0900 => some (s.writePoolBase n v)
    | 0x0901 => some (s.writePoolEntries n v)
    | 0x0A00 => some (s.writePortMode n v)
    | 0x0A09 => some (s.writeRetrain n v)
    | _ => none

/-- Writes of scopes 6 to 8 with an operation of their own. -/
def State.writeOther (s : State) (scope inst num v : Nat) (d : List Byte) : Option (State × Nat) :=
  match scope, num with
  | 6, 0x0302 => some (s.writeLoad inst v)
  | 6, 0x0303 => some (s.writeUnload inst v)
  | 6, 0x090A => some (s.writeClass0 inst false v)
  | 6, 0x090B => some (s.writeClass0 inst true v)
  | 6, 0x0D00 => some (s.writePartReset inst v)
  | 7, 0x0000 => some (s.writeCredKey inst d)
  | 7, 0x0001 => some (s.writeCredRole inst v)
  | 7, 0x0C00 => some (s.draw.2.writeLicence d (s.sigFree 0))
  | 7, 0x0C03 => some (s.writeLicenceRemove v)
  | 7, 0x0E03 => some (s.writeSvn v)
  | 7, 0x0E05 => some (s.writeAttest d)
  | 7, 0x0E09 => some (s.draw.2.writeDecommission d (s.sigFree 0) (s.sigFree 1))
  | 8, 0x0B10 => some (s.writeLease d)
  | 8, 0x0B20 => some (s.writeCoef d)
  | _, _ => none

/-- The write of an object's value: the state and the status. -/
def State.applyWrite (s : State) (r : ObjRow) (inst : Nat) (d : List Byte) : State × Nat :=
  let v := ofBe d
  let own : Option (State × Nat) :=
    match r.scope, r.num with
    | 0, n => s.writeModule n v d
    | 2, 0x0509 => some (s.writeStitch inst v)
    | 2, 0x0802 => some (s.writeFreqObj inst v)
    | 3, _ => some (s.writeClusterReset inst v)
    | 4, n => s.writePort inst n v d
    | 5, _ => some (s.writeStreamClose inst v)
    | c, n => s.writeOther c inst n v d
  match own with
  | some x => x
  | none => if r.typ.len.isSome then s.writePlain r.scope inst r.num v else s.writeBytes r inst d

/-- Whether the written value has another length than the object's type gives (status 6). -/
def lenBad (r : ObjRow) (d : List Byte) : Bool :=
  match r.typ.len with
  | some n => d.length != n
  | none => false

/-- A write of an object by a role: the state and the status. The conditions are taken in the order address, access,
role, length, value of a BOOL, flash inhibit, and the object's own. -/
def State.writeObj (s : State) (role scope inst num : Nat) (d : List Byte) : State × Nat :=
  let bad := s.addressBad scope inst num
  match rowOf scope inst num with
  | none => (s, bad)
  | some r =>
    if bad ≠ 0 then (s, bad)
    else if r.acc = .ro ∨ r.acc = .rc then (s, 4)
    else if role < r.role then (s, 5)
    else if lenBad r d then (s, 6)
    else if r.typ = .bool ∧ 1 < ofBe d then (s, 7)
    else if r.persistent ∧ s.inhibited then (s, 0xA)
    else s.applyWrite r inst d

end Sys2Proof.Machine
end

