-- ==== Sys2Proof/Machine/HdpServer.lean ====
section
/-! DEFINITION. The Hensum dictionary protocol (R516 to R550): datagrams, sessions, and requests. -/

namespace Sys2Proof.Machine

/-! ### Datagrams (R520 to R525) -/

def hType (d : List Byte) : Nat := beAt d 3 1
def hSid (d : List Byte) : Nat := beAt d 4 4
def hSeq (d : List Byte) : Nat := beAt d 8 8
def hReq (d : List Byte) : Nat := beAt d 0x10 4
def hLen (d : List Byte) : Nat := beAt d 0x14 2
def hIx (d : List Byte) : Nat := beAt d 0x16 1 / 16
def hCount (d : List Byte) : Nat := beAt d 0x16 1 % 16 + 1
def hTotal (d : List Byte) : Nat := beAt d 0x18 4

/-- A request without a session (R525), and one of a session. -/
def freeType (t : Nat) : Bool := t = 1 || t = 3
def sessionType (t : Nat) : Bool := t = 5 || (0x10 ≤ t && t ≤ 0x14)

/-- The form of a datagram is right (R520, R521, R524). -/
def datagramOk (d : List Byte) : Bool :=
  let t := hType d
  32 ≤ d.length && beAt d 0 2 = 0x4844 && beAt d 2 1 = 1 && (freeType t || sessionType t) &&
    beAt d 0x17 1 = 0 && beAt d 0x1C 4 = 0 && hLen d ≤ 1200 && hTotal d ≤ 19200 && hIx d < hCount d &&
    (hIx d + 1 = hCount d || hLen d = 1200) &&
    d.length = 32 + hLen d + (if sessionType t then 32 else 0) &&
    (!freeType t || (hSid d = 0 && hSeq d = 0))

/-- The 32-byte header (R520). -/
def hdpHeader (typ sid seq reqId len ix count status total : Nat) : List Byte :=
  beBytes 2 0x4844 ++ beBytes 1 1 ++ beBytes 1 typ ++ beBytes 4 sid ++ beBytes 8 seq ++ beBytes 4 reqId ++ beBytes 2 len ++
    beBytes 1 (ix * 16 + (count - 1)) ++ beBytes 1 status ++ beBytes 4 total ++ beBytes 4 0

/-- The datagrams of a reply (R520 to R522): `key` tags those of a session, whose numbers start at `seq`. -/
def replyDatagrams (typ sid seq reqId status : Nat) (body : List Byte) (key : Option (List Byte)) : List (List Byte) :=
  let n := max 1 ((body.length + 1199) / 1200)
  (List.range n).map (fun j =>
    let part := (body.drop (1200 * j)).take 1200
    let d := hdpHeader typ sid (if key.isSome then seq + j else 0) reqId part.length j n status body.length ++ part
    match key with
    | some k => d ++ hmac k d
    | none => d)

/-- The address of an interface from which a reply to an address leaves: its first of the same version, the link-local one for a
link-local source (which one is not stated: DESIGN CHOICE, log entry 187). -/
def State.replyFrom (s : State) (src : HdpSource) : Bool × Nat :=
  let ip := src.ip.toNat
  if ip < 2 ^ 32 then (false, s.ifcV4 src.ifc)
  else
    let l := s.ifcV6 src.ifc
    let l := if ip / 2 ^ 112 = 0xFE80 then l.reverse else l
    (true, (l.find? (· ≠ 0)).getD 0)

/-- A reply leaves by the interface and VLAN of the request, from port 47180 to its source (R516, R518). -/
def State.sendHdp (s : State) (src : HdpSource) (l : List (List Byte)) : State :=
  l.foldl (fun s d =>
    let own := s.replyFrom src
    s.draw.2.emitIp (ifcVia src.ifc) 1 src.mac.toNat (s.ifcMac src.ifc) d []
      (s.mscDgram src.ifc src.mac.toNat own.1 own.2 src.ip.toNat (some (47180, src.udp.toNat)) d)) s

def State.session (s : State) (sid : Nat) : Option Session := s.hdp.sessions.find? (fun x => x.id = sid)
def State.putSession (s : State) (x : Session) : State :=
  { s with hdp := { s.hdp with sessions := s.hdp.sessions.map (fun y => if y.id = x.id then x else y) } }

/-- A reply in a session: its datagrams take the next numbers (R523), if the session still stands. -/
def State.replyIn (s : State) (x : Session) (typ reqId status : Nat) (body : List Byte) : State :=
  let l := replyDatagrams typ x.id x.txSeq reqId status body (some x.kM2c)
  let s1 := s.sendHdp x.src l
  match s1.session x.id with
  | some y => s1.putSession { y with txSeq := x.txSeq + l.length }
  | none => s1

/-- A reply that is kept among the last 64 (R547). -/
def State.answer (s : State) (x : Session) (typ reqId status : Nat) (body : List Byte) : State :=
  let s1 := s.replyIn x typ reqId status body
  match s1.session x.id with
  | some y =>
    let l := y.replies ++ [(reqId, typ * 256 + status, body)]
    s1.putSession { y with replies := l.drop (l.length - 64) }
  | none => s1

/-- The kept reply to a request (R547). -/
def Session.kept (x : Session) (reqId : Nat) : Option (Nat × List Byte) :=
  (x.replies.find? (fun e => e.1 = reqId)).map (·.2)

/-! ### Bodies (R525, R528, R540, R543 to R546) -/

def refBytes (r : ObjRef) : List Byte :=
  beBytes 1 r.scope.toNat ++ [0#8] ++ beBytes 2 r.inst.toNat ++ beBytes 2 r.num.toNat ++ beBytes 2 r.ext.toNat

/-- The body of a read (R540). -/
def readBody (refs : List ObjRef) : List Byte := beBytes 2 refs.length ++ beBytes 2 0 ++ refs.flatMap refBytes

/-- A length rounded up to a multiple of 4. -/
def up4 (n : Nat) : Nat := (n + 3) / 4 * 4

/-- An entry: its header and its value, padded (R540). -/
def entryBytes (scope code status inst num : Nat) (v : List Byte) : List Byte :=
  beBytes 1 scope ++ beBytes 1 code ++ beBytes 1 status ++ [0#8] ++ beBytes 2 inst ++ beBytes 2 num ++
    beBytes 2 v.length ++ beBytes 2 0 ++ padTo (up4 v.length) v

/-- The body of a write (R543): the last two bytes of a reference carry the entry's type code. -/
def writeBody (es : List WriteEntry) : List Byte :=
  beBytes 2 es.length ++ beBytes 2 0 ++ es.flatMap (fun e =>
    entryBytes e.ref.scope.toNat (e.ref.ext.toNat % 256) 0 e.ref.inst.toNat e.ref.num.toNat e.value)

/-- The layout of a read's references. -/
def refsOk : Nat → List Byte → Bool
  | 0, d => d.isEmpty
  | n + 1, d => 8 ≤ d.length && beAt d 1 1 = 0 && beAt d 6 2 = 0 && refsOk n (d.drop 8)

/-- The layout of a write's entries. -/
def entriesOk : Nat → List Byte → Bool
  | 0, d => d.isEmpty
  | n + 1, d =>
    let len := beAt d 8 2
    12 + up4 len ≤ d.length && beAt d 2 2 = 0 && beAt d 10 2 = 0 && zeroAt d (12 + len) (up4 len - len) &&
      entriesOk n (d.drop (12 + up4 len))

/-- A complete body matches the layout of its type (R524). -/
def bodyOk (t : Nat) (d : List Byte) : Bool :=
  match t with
  | 1 => d.isEmpty
  | 3 => d.length = 2308 && 1 ≤ beAt d 0x20 2 && beAt d 0x20 2 ≤ 32 && beAt d 0x22 2 = 0
  | 5 => d.length = 32
  | 0x10 => 4 ≤ d.length && 1 ≤ beAt d 0 2 && beAt d 0 2 ≤ 64 && beAt d 2 2 = 0 && refsOk (beAt d 0 2) (d.drop 4)
  | 0x11 => 4 ≤ d.length && 1 ≤ beAt d 0 2 && beAt d 0 2 ≤ 16 && beAt d 2 2 = 0 && entriesOk (beAt d 0 2) (d.drop 4)
  | 0x12 => d.length = 8 && beAt d 1 1 = 0
  | 0x13 => d.length = 8 && beAt d 1 1 = 0 && beAt d 6 2 = 0
  | 0x14 => d.isEmpty
  | _ => false

/-! ### Receiving (R521 to R524, R547) -/

/-- Why a session's datagram is refused: 0 accepted, 1 authentication, 2 replay (R522, R523). -/
def State.sessionRefuses (s : State) (src : HdpSource) (d : List Byte) : Nat :=
  match s.session (hSid d) with
  | none => 1
  | some x =>
    let tag := d.drop (32 + hLen d)
    if (!x.open_ && hType d ≠ 5) || x.src ≠ src || hmac x.kC2m (d.take (32 + hLen d)) ≠ tag then 1
    else
      let n := hSeq d
      match x.rxTop with
      | none => 0
      | some top => if top < n then 0 else if top ≤ n + 64 && n ≠ top && !x.rxSeen.contains n then 0 else 2

/-- A number is accepted (R523). -/
def Session.accept (x : Session) (n : Nat) : Session :=
  let top := match x.rxTop with | some t => max t n | none => n
  { x with rxTop := some top, rxSeen := (n :: x.rxSeen).filter (fun m => top ≤ m + 64) }

/-- A complete message (R524, R547): a malformed one is counted, a repeated request draws its kept reply, a ninth in
execution draws busy, and the rest wait to be executed. -/
def State.complete1 (s : State) (src : HdpSource) (sid reqId t : Nat) (body : List Byte) : State :=
  if !bodyOk t body then s.addNum o0HdpMalformed 1
  else
    let enqueue := { s with hdp := { s.hdp with ready := s.hdp.ready ++ [(src, sid, reqId, t, body)] } }
    match s.session sid with
    | some x =>
      match x.kept reqId with
      | some r => s.replyIn x (r.1 / 256) reqId (r.1 % 256) r.2
      | none =>
        if 8 ≤ (s.hdp.ready.filter (fun e => e.2.1 = sid)).length then s.replyIn x (t + 128) reqId 9 []
        else enqueue
    | none => enqueue

/-- A fragment joins its message (R521). -/
def State.join (s : State) (src : HdpSource) (d : List Byte) : State :=
  let sid := hSid d
  let reqId := hReq d
  let t := hType d
  let same := fun (m : HdpMsg) => m.src = src && m.sid = sid && m.reqId = reqId && m.typ = t
  let part := (d.drop 32).take (hLen d)
  let old := s.hdp.msgs.find? same
  let rest := s.hdp.msgs.filter (fun m => !same m)
  let held := match old with
    | some m => m
    | none => ⟨src, sid, reqId, t, hTotal d, hCount d, []⟩
  if held.total ≠ hTotal d ∨ held.count ≠ hCount d then { s with hdp := { s.hdp with msgs := rest } }
  else
    let m := { held with frags := held.frags.put (hIx d) part }
    if m.frags.length = m.count then
      let body := m.frags.flatMap (fun (e : Nat × List Byte) => e.2)
      let s1 := { s with hdp := { s.hdp with msgs := rest } }
      if body.length = m.total then s1.complete1 src sid reqId t body else s1
    else
      -- a message keeps its place: the oldest goes when a 33rd begins
      let l := if old.isSome then s.hdp.msgs.map (fun x => if same x then m else x) else s.hdp.msgs ++ [m]
      { s with hdp := { s.hdp with msgs := l.drop (l.length - 32) } }

/-- Whether an interface is a port's own, outside the in-band management VLAN. -/
def ownPort : Iface → Option Nat
  | .port n => some n
  | _ => none

/-- The MSC takes an HDP datagram from an interface (R516 to R518): the interface holds an address of the datagram's IP version, and
in-band the port has passed a datagram on that the MSC has not taken yet. -/
def State.mscTakes (s : State) (src : HdpSource) : Bool :=
  (s.replyFrom src).2 ≠ 0 && (match src.ifc with | .inband n => (s.port n).inbox ≠ 0 | _ => true)

/-- A datagram that a port passed on is taken (R518). -/
def State.takeInband (s : State) : Iface → State
  | .inband n => s.modPort n (fun x => { x with inbox := x.inbox - 1 })
  | _ => s

/-- An HDP datagram to UDP port 47180 at an address of the interface arrives while the MSC serves it (R3, R516, R518 to R524). A port
takes no HDP outside the in-band management VLAN: there it is a datagram to another UDP port (R480). -/
def execHdpFragment (src : HdpSource) (data : List Byte) (at_ : BitVec 64) (s : State) : Out :=
  onIfc src.ifc s fun s0 =>
    let s := (s0.atTime at_.toNat).takeInband src.ifc
    if !(s0.msc.booted && s0.ifcUp src.ifc) then s0
    else if (ownPort src.ifc).isSome then s.dropFrame ((ownPort src.ifc).getD 0) 6
    else if !s0.mscTakes src then s0
    else if !datagramOk data then s.addNum o0HdpMalformed 1
    else if freeType (hType data) then s.join src data
    else
      match s.sessionRefuses src data with
      | 0 =>
        let s1 := match s.session (hSid data) with
          | some x => s.putSession (x.accept (hSeq data))
          | none => s
        s1.join src data
      | 1 => s.addNum o0HdpAuthFailures 1
      | _ => s.addNum o0HdpReplays 1

/-- An incomplete message is discarded (R521). -/
def execFragmentTimeout (src : HdpSource) (sid reqId : BitVec 32) (mtype : BitVec 8) (s : State) : Out :=
  .next { s with hdp := { s.hdp with msgs := s.hdp.msgs.filter (fun m =>
    !(m.src = src && m.sid = sid.toNat && m.reqId = reqId.toNat && m.typ = mtype.toNat)) } }

/-! ### Executing (R539) -/

/-- The oldest complete request is the one that a command names; it leaves the list. -/
def State.takeReady (s : State) (e : HdpSource × Nat × Nat × Nat × List Byte) : Option State :=
  match s.hdp.ready with
  | x :: r => if x = e then some { s with hdp := { s.hdp with ready := r } } else none
  | [] => none

/-- A request of an open session executes (R539, R547): one that repeats an answered request draws the kept reply. -/
def State.hdpRequest (s : State) (sid reqId t : Nat) (body : List Byte) (f : State → Session → State) : State :=
  match s.session sid with
  | some x =>
    match s.takeReady (x.src, sid, reqId, t, body) with
    | some s1 =>
      if !x.open_ then s1
      else
        match x.kept reqId with
        | some r => s1.replyIn x (r.1 / 256) reqId (r.1 % 256) r.2
        | none => f s1 x
    | none => s
  | none => s

/-- An identity request is answered with the certificate (R525, R705). -/
def execIdentityRequest (src : HdpSource) (reqId : BitVec 32) (s : State) : Out :=
  onIfc src.ifc s fun s =>
    match s.takeReady (src, 0, reqId.toNat, 1, []) with
    | some s1 => s1.sendHdp src (replyDatagrams 2 0 0 reqId.toNat 0 certificate none)
    | none => s

/-! ### Sessions (R526 to R530) -/

/-- The keys of R527: c2m, m2c, wrap, and the client's proof. -/
def sessionKeys (body secret : List Byte) (kem : KemResult) : List (List Byte) :=
  let rnd := padTo 32 kem.random
  let th := sha256 (body ++ rnd ++ beBytes 4 kem.sid.toNat ++ padTo 1088 kem.ctC)
  let prk := hkdfExtract (body.take 32 ++ rnd) (padTo 32 kem.ss1 ++ padTo 32 kem.ss2 ++ secret)
  let c2m := hkdfExpand prk (ascii "hdp c2m" ++ th) 32
  let m2c := hkdfExpand prk (ascii "hdp m2c" ++ th) 32
  [c2m, m2c, hkdfExpand prk (ascii "hdp wrap" ++ th) 32, hmac c2m (ascii "hdp client" ++ th), hmac m2c (ascii "hdp module" ++ th)]

/-- The hellos handled in the running second (R529). -/
def State.helloCount (s : State) : Nat := if s.hdp.hellos.1 = s.wt / 1000000000 then s.hdp.hellos.2 else 0

/-- A refusal of a hello (R529): the status, 0 for none. -/
def State.helloRefused (s : State) (cred : Nat) : Nat :=
  if s.num (o7CredRole cred) = 0 ∨ (s.credKey cred).isNone then 0x10
  else if 16 ≤ s.hdp.sessions.length then 0x11 else 0

/-- A hello is handled (R526 to R529): the session is pending, and the reply carries the module's proof. -/
def State.openPending (s : State) (src : HdpSource) (reqId : Nat) (body : List Byte) (kem : KemResult) : State :=
  let cred := beAt body 0x20 2
  let keys := sessionKeys body ((s.credKey cred).getD []) kem
  let x : Session := ⟨kem.sid.toNat, cred, s.num (o7CredRole cred), src, false, keys.getD 0 [], keys.getD 1 [], keys.getD 2 [],
    keys.getD 3 [], none, [], 0, [], s.wt⟩
  let reply := padTo 32 kem.random ++ beBytes 4 kem.sid.toNat ++ beBytes 4 0 ++ padTo 1088 kem.ctC ++ keys.getD 4 []
  { s with hdp := { s.hdp with sessions := s.hdp.sessions ++ [x] } }.sendHdp src (replyDatagrams 4 0 0 reqId 0 reply none)

/-- An id that a session may take (R528, R530): not zero, not in use, and not that of a session that ended fewer than 2^32
openings ago. -/
def State.idFree (s : State) (sid : Nat) : Bool :=
  sid ≠ 0 && (s.session sid).isNone &&
    (match s.hdp.ended.look sid with
     | some n => n + 2 ^ 32 ≤ s.hdp.opened
     | none => true)

/-- What ML-KEM-768 gives for a hello (R526, R528): ss1 is the secret in ct_s under the module's key, and ss2 and ct_c come from an
encapsulation to ek_c. -/
def State.kemAgrees (s : State) (body : List Byte) (kem : KemResult) : Bool :=
  kem.ss1 = Config.kemDecap (sliceB body 0x24 1088) &&
    (kem.ss2, kem.ctC) = Config.kemEncap (sliceB body 0x464 1184) s.free

/-- A hello executes (R526, R529), with an id that the MSC may choose and the results of its decapsulation and encapsulation. -/
def execHello (src : HdpSource) (reqId : BitVec 32) (body : List Byte) (kem : KemResult) (s : State) : Out :=
  onIfc src.ifc s fun s =>
    if !s.idFree kem.sid.toNat then s
    else
      match s.takeReady (src, 0, reqId.toNat, 3, body) with
      | none => s
      | some s1 =>
        if 20 ≤ s1.helloCount then s1
        else
          let s2 := { s1 with hdp := { s1.hdp with hellos := (s1.wt / 1000000000, s1.helloCount + 1) } }
          let bad := s2.helloRefused (beAt body 0x20 2)
          if bad ≠ 0 then s2.sendHdp src (replyDatagrams 4 0 0 reqId.toNat bad [] none)
          else if !s2.kemAgrees body kem then s
          else s2.draw.2.openPending src reqId.toNat body kem

/-- A finish executes (R526, R529): the session opens, or it never does. -/
def execFinish (sid reqId : BitVec 32) (proof : List Byte) (s : State) : Out :=
  .next (
    match s.session sid.toNat with
    | some x =>
      match s.takeReady (x.src, sid.toNat, reqId.toNat, 5, proof) with
      | some s1 =>
        if x.open_ then s1
        else if proof = x.proof then
          let s2 := ({ s1 with hdp := { s1.hdp with opened := s1.hdp.opened + 1 } }.putSession
            { x with open_ := true, since := s1.wt }).setNum (o7CredLastUsed x.cred) s1.wt
          s2.answer { x with open_ := true } 0x85 reqId.toNat 0
            (beBytes 1 x.role ++ [0#8] ++ beBytes 2 (s2.num o0SessionIdleS))
        else ((s1.replyIn x 0x85 reqId.toNat 0x10 []).endSession sid.toNat).addNum o0HdpAuthFailures 1
      | none => s
    | none => s)

/-- A pending session is discarded after 2 s (R526). -/
def execPendingSessionTimeout (sid : BitVec 32) (s : State) : Out :=
  .next (
    match s.session sid.toNat with
    | some x => if x.open_ then s else s.endSession sid.toNat
    | none => s)

/-- A session that stayed idle ends (R530). -/
def execSessionIdleTimeout (sid : BitVec 32) (s : State) : Out :=
  .next (
    match s.session sid.toNat with
    | some x => if x.open_ then s.endSession sid.toNat else s
    | none => s)

/-- A close is answered, and the session ends (R530). -/
def execClose (sid reqId : BitVec 32) (s : State) : Out :=
  .next (s.hdpRequest sid.toNat reqId.toNat 0x14 [] fun s x => (s.answer x 0x94 reqId.toNat 0 []).endSession sid.toNat)

/-! ### Reads (R540 to R542) -/

/-- The type code of an object, 0 where there is none. -/
def codeOf (r : ObjRef) : Nat := ((rowOf r.scope.toNat r.inst.toNat r.num.toNat).map (·.typ.code)).getD 0

/-- The entries of a read, in order (R540, R542): an entry that would exceed 19,200 bytes, and every later one, is too
large. -/
def State.readAll (s : State) (room : Nat) (full : Bool) : List ObjRef → State × List Byte
  | [] => (s, [])
  | r :: rest =>
    let v := s.readObj r.scope.toNat r.inst.toNat r.num.toNat
    let big := full || room < 12 + up4 v.2.2.length + 12 * rest.length
    let s1 := if big then s else v.1
    let e := entryBytes r.scope.toNat (codeOf r) (if big then 0xD else v.2.1) r.inst.toNat r.num.toNat (if big then [] else v.2.2)
    let t := State.readAll s1 (room - e.length) big rest
    (t.1, e ++ t.2)

/-- A read executes (R540). -/
def execRead (sid reqId : BitVec 32) (refs : List ObjRef) (s : State) : Out :=
  .next (s.hdpRequest sid.toNat reqId.toNat 0x10 (readBody refs) fun s x =>
    let t := State.readAll s (19200 - 12) false refs
    t.1.answer x 0x90 reqId.toNat 0 (beBytes 8 (s.num o0MarkLast) ++ beBytes 2 refs.length ++ beBytes 2 0 ++ t.2))

/-! ### Writes (R543, R544) -/

/-- A secret's value without its mask (R544). -/
def unmask (key : List Byte) (reqId ix : Nat) (v : List Byte) : List Byte :=
  List.zipWith (· ^^^ ·) v (hkdfExpand key (beBytes 4 reqId ++ beBytes 1 ix) v.length)

/-- The entries of a write take effect in their order (R539). -/
def State.writeAll (s : State) (x : Session) (reqId ix : Nat) : List WriteEntry → State × List Byte
  | [] => (s, [])
  | e :: rest =>
    let r := e.ref
    let isS := ((rowOf r.scope.toNat r.inst.toNat r.num.toNat).map (·.isSecret)).getD false
    let v := if isS then unmask x.kWrap reqId ix e.value else e.value
    let w := s.writeObj x.role r.scope.toNat r.inst.toNat r.num.toNat v
    let t := State.writeAll w.1 x reqId (ix + 1) rest
    (t.1, entryBytes r.scope.toNat (r.ext.toNat % 256) w.2 r.inst.toNat r.num.toNat [] ++ t.2)

/-- A write executes (R543). -/
def execWrite (sid reqId : BitVec 32) (entries : List WriteEntry) (s : State) : Out :=
  .next (s.hdpRequest sid.toNat reqId.toNat 0x11 (writeBody entries) fun s x =>
    let t := State.writeAll s x reqId.toNat 0 entries
    t.1.answer x 0x91 reqId.toNat 0 (beBytes 2 entries.length ++ beBytes 2 0 ++ t.2))

/-! ### Lists and descriptions (R545, R546) -/

/-- The objects of an instance from a number on, ascending. -/
def State.objectsFrom (s : State) (scope inst start : Nat) : List Nat :=
  if !s.instOk scope inst then []
  else
    let plain := (objRows scope).map (·.num)
    let indexed := if scope = 4 then (List.range 192).map (· + 0x0A40) else []
    let aux := if scope = 8 then [0x0B02] else []
    ascending ((plain ++ indexed ++ aux).eraseDups.filter (fun n => start ≤ n && (rowOf scope inst n).isSome))

/-- A list executes (R545). -/
def execList (sid reqId : BitVec 32) (ref : ObjRef) (s : State) : Out :=
  .next (s.hdpRequest sid.toNat reqId.toNat 0x12 (refBytes ref) fun s x =>
    let l := s.objectsFrom ref.scope.toNat ref.inst.toNat ref.ext.toNat
    s.answer x 0x92 reqId.toNat 0 ((l.take 512).flatMap (beBytes 2) ++ beBytes 2 (if 512 < l.length then 0xFFFF else 0)))

/-- The access code of R546: an RC object reads as RO. -/
def accessCode : ObjAccess → Nat
  | .ro => 0
  | .rc => 0
  | .rw => 1
  | .wo => 2
  | .cmd => 3

/-- An object is latched at sample marks (R541); `AUX_V` of instance 13 shares the number of `RAIL_NJ` and is not. -/
def latchedObj (scope inst num : Nat) : Bool :=
  match scope with
  | 2 => fieldSums.any (fun e => e.1 = num)
  | 3 => num = 0x0500 || num = 0x0501 || num = 0x0600 || (0x0700 ≤ num && num ≤ 0x0703)
  | 4 => 0x0600 ≤ num && num ≤ 0x0602
  | 8 => num = 0x0B01 || (num = 0x0B02 && inst < 12) || num = 0x0B0B
  | _ => false

/-- The default of an object as it travels: from identity, or of the running image, where the tables say so; none for a command. -/
def State.defaultWire (s : State) (r : ObjRow) (inst : Nat) : List Byte :=
  if r.acc = .cmd ∨ r.acc = .wo then []
  else
    let fixed := (r.scope = 0 && (r.num = 2 || r.num = 3 || r.num = 4 || r.num = 0x24 || r.num = 0x25)) || (r.scope = 4 && r.num = 0x0A05) ||
      (r.scope = 7 && (r.num = 0x0E00 || r.num = 0x0E01))
    if fixed then s.wire r inst
    else
      match r.typ.len with
      | some n => beBytes n (if r.scope = 6 ∧ r.num = 0x0100 ∧ inst = 0 then 0xFFF else numDefault (okey r.scope inst r.num))
      | none =>
        if r.scope = 4 ∧ 0x0A40 ≤ r.num ∧ r.num < 0x0AC0 then List.replicate 48 0#8
        else if r.scope = 4 ∧ 0x0AC0 ≤ r.num then List.replicate 16 0#8
        else blobDefault (okey r.scope inst r.num)

/-- The reply to a describe (R546); an object that does not exist has an empty one. -/
def State.describe (s : State) (scope inst num : Nat) : List Byte :=
  if !s.instOk scope inst then []
  else
    match rowOf scope inst num with
    | none => []
    | some r =>
      let d := s.defaultWire r inst
      beBytes 1 r.typ.code ++ beBytes 1 (accessCode r.acc) ++ beBytes 1 r.role ++
        beBytes 1 (b2n r.persistent + 2 * b2n r.isSecret + 4 * b2n (latchedObj scope inst num)) ++
        beBytes 1 r.name.length ++ ascii r.name ++ beBytes 2 d.length ++ d

/-- A describe executes (R546). -/
def execDescribe (sid reqId : BitVec 32) (ref : ObjRef) (s : State) : Out :=
  .next (s.hdpRequest sid.toNat reqId.toNat 0x13 (refBytes ref) fun s x =>
    s.answer x 0x93 reqId.toNat 0 (s.describe ref.scope.toNat ref.inst.toNat ref.num.toNat))

end Sys2Proof.Machine
end

