-- ==== Sys2Proof/Machine/Dispatch.lean ====
section
/-! DEFINITION. One arm per command: a direct call of its meaning. -/

namespace Sys2Proof.Machine

def exec (i : Instr) (s : State) : Host.Outcome State Fault Refusal :=
  match i with
  | .auxInputApplied sigA sigB seedTime => Sys2Proof.Machine.execAuxInputApplied sigA sigB seedTime s
  | .moduleResetWarm => Sys2Proof.Machine.execModuleResetWarm s
  | .moduleResetCold sigA sigB => Sys2Proof.Machine.execModuleResetCold sigA sigB s
  | .planeRecovered => Sys2Proof.Machine.execPlaneRecovered s
  | .bootRetry sigA sigB => Sys2Proof.Machine.execBootRetry sigA sigB s
  | .regionBankSwitchOn r => Sys2Proof.Machine.execRegionBankSwitchOn r s
  | .railCheck r ok => Sys2Proof.Machine.execRailCheck r ok s
  | .controlImageLoad attempts licOk => Sys2Proof.Machine.execControlImageLoad attempts licOk s
  | .builtInTest f crcOk fails => Sys2Proof.Machine.execBuiltInTest f crcOk fails s
  | .sparingSelect f hops => Sys2Proof.Machine.execSparingSelect f hops s
  | .stitchTraining f edge idx seen trained => Sys2Proof.Machine.execStitchTraining f edge idx seen trained s
  | .dramTraining f ch r => Sys2Proof.Machine.execDramTraining f ch r s
  | .firmwareBroadcast image => Sys2Proof.Machine.execFirmwareBroadcast image s
  | .broadcastRound => Sys2Proof.Machine.execBroadcastRound s
  | .roundBitmapTimeout f => Sys2Proof.Machine.execRoundBitmapTimeout f s
  | .roundBitmapFallback f silent => Sys2Proof.Machine.execRoundBitmapFallback f silent s
  | .chunkUnicastCheck k chunk => Sys2Proof.Machine.execChunkUnicastCheck k chunk s
  | .manifestPart k => Sys2Proof.Machine.execManifestPart k s
  | .chunk k => Sys2Proof.Machine.execChunk k s
  | .roundEnd k => Sys2Proof.Machine.execRoundEnd k s
  | .install k => Sys2Proof.Machine.execInstall k s
  | .chunkDone k idx => Sys2Proof.Machine.execChunkDone k idx s
  | .startComplete ms => Sys2Proof.Machine.execStartComplete ms s
  | .fwUpdateOpen len => Sys2Proof.Machine.execFwUpdateOpen len s
  | .fwUpdateData data => Sys2Proof.Machine.execFwUpdateData data s
  | .fwUpdateCommit v sigOk => Sys2Proof.Machine.execFwUpdateCommit v sigOk s
  | .licenceInstall data sigOk => Sys2Proof.Machine.execLicenceInstall data sigOk s
  | .licenceRemove licId => Sys2Proof.Machine.execLicenceRemove licId s
  | .partitionSplit v => Sys2Proof.Machine.execPartitionSplit v s
  | .graphLoad p addr => Sys2Proof.Machine.execGraphLoad p addr s
  | .graphLoadRun p silent => Sys2Proof.Machine.execGraphLoadRun p silent s
  | .graphUnload p v => Sys2Proof.Machine.execGraphUnload p v s
  | .alternateInstall p silent => Sys2Proof.Machine.execAlternateInstall p silent s
  | .partitionResetKeep p => Sys2Proof.Machine.execPartitionResetKeep p s
  | .partitionResetRemove p => Sys2Proof.Machine.execPartitionResetRemove p s
  | .partitionResetRun p => Sys2Proof.Machine.execPartitionResetRun p s
  | .clusterReset k v => Sys2Proof.Machine.execClusterReset k v s
  | .firingStart c => Sys2Proof.Machine.execFiringStart c s
  | .endComplete c => Sys2Proof.Machine.execEndComplete c s
  | .firingOverrun c cycles => Sys2Proof.Machine.execFiringOverrun c cycles s
  | .faultLogClear c v => Sys2Proof.Machine.execFaultLogClear c v s
  | .seqCtrlWrite c v => Sys2Proof.Machine.execSeqCtrlWrite c v s
  | .retainCtrlWrite c v => Sys2Proof.Machine.execRetainCtrlWrite c v s
  | .cacheConfigWrite k off v => Sys2Proof.Machine.execCacheConfigWrite k off v s
  | .registerWrite k off v => Sys2Proof.Machine.execRegisterWrite k off v s
  | .smoulderEntry c idle => Sys2Proof.Machine.execSmoulderEntry c idle s
  | .kindle c => Sys2Proof.Machine.execKindle c s
  | .kindlePermitGrant r waited => Sys2Proof.Machine.execKindlePermitGrant r waited s
  | .permitRefill r => Sys2Proof.Machine.execPermitRefill r s
  | .issueStallRelease c cycles => Sys2Proof.Machine.execIssueStallRelease c cycles s
  | .reservedInstruction c w => Sys2Proof.Machine.execReservedInstruction c w s
  | .nop c => Sys2Proof.Machine.execNop c s
  | .endFiring c => Sys2Proof.Machine.execEndFiring c s
  | .jr c ra => Sys2Proof.Machine.execJr c ra s
  | .seed c ra => Sys2Proof.Machine.execSeed c ra s
  | .time c rd => Sys2Proof.Machine.execTime c rd s
  | .acct c a => Sys2Proof.Machine.execAcct c a s
  | .trap c imm => Sys2Proof.Machine.execTrap c imm s
  | .add c rd ra rb => Sys2Proof.Machine.execAdd c rd ra rb s
  | .sub c rd ra rb => Sys2Proof.Machine.execSub c rd ra rb s
  | .and c rd ra rb => Sys2Proof.Machine.execAnd c rd ra rb s
  | .or c rd ra rb => Sys2Proof.Machine.execOr c rd ra rb s
  | .xor c rd ra rb => Sys2Proof.Machine.execXor c rd ra rb s
  | .sll c rd ra rb => Sys2Proof.Machine.execSll c rd ra rb s
  | .srl c rd ra rb => Sys2Proof.Machine.execSrl c rd ra rb s
  | .sra c rd ra rb => Sys2Proof.Machine.execSra c rd ra rb s
  | .mul c rd ra rb => Sys2Proof.Machine.execMul c rd ra rb s
  | .mulhu c rd ra rb => Sys2Proof.Machine.execMulhu c rd ra rb s
  | .slt c rd ra rb => Sys2Proof.Machine.execSlt c rd ra rb s
  | .sltu c rd ra rb => Sys2Proof.Machine.execSltu c rd ra rb s
  | .min c rd ra rb => Sys2Proof.Machine.execMin c rd ra rb s
  | .max c rd ra rb => Sys2Proof.Machine.execMax c rd ra rb s
  | .minu c rd ra rb => Sys2Proof.Machine.execMinu c rd ra rb s
  | .maxu c rd ra rb => Sys2Proof.Machine.execMaxu c rd ra rb s
  | .addi c rd ra imm => Sys2Proof.Machine.execAddi c rd ra imm s
  | .andi c rd ra imm => Sys2Proof.Machine.execAndi c rd ra imm s
  | .ori c rd ra imm => Sys2Proof.Machine.execOri c rd ra imm s
  | .xori c rd ra imm => Sys2Proof.Machine.execXori c rd ra imm s
  | .slli c rd ra sh => Sys2Proof.Machine.execSlli c rd ra sh s
  | .srli c rd ra sh => Sys2Proof.Machine.execSrli c rd ra sh s
  | .srai c rd ra sh => Sys2Proof.Machine.execSrai c rd ra sh s
  | .slti c rd ra imm => Sys2Proof.Machine.execSlti c rd ra imm s
  | .sltiu c rd ra imm => Sys2Proof.Machine.execSltiu c rd ra imm s
  | .lui c rd imm => Sys2Proof.Machine.execLui c rd imm s
  | .beq c ra rb target => Sys2Proof.Machine.execBeq c ra rb target s
  | .bne c ra rb target => Sys2Proof.Machine.execBne c ra rb target s
  | .blt c ra rb target => Sys2Proof.Machine.execBlt c ra rb target s
  | .bge c ra rb target => Sys2Proof.Machine.execBge c ra rb target s
  | .bltu c ra rb target => Sys2Proof.Machine.execBltu c ra rb target s
  | .bgeu c ra rb target => Sys2Proof.Machine.execBgeu c ra rb target s
  | .j c target => Sys2Proof.Machine.execJ c target s
  | .jal c ra target => Sys2Proof.Machine.execJal c ra target s
  | .lw c rd ra off => Sys2Proof.Machine.execLw c rd ra off s
  | .sw c rd ra off => Sys2Proof.Machine.execSw c rd ra off s
  | .lbu c rd ra off => Sys2Proof.Machine.execLbu c rd ra off s
  | .sb c rd ra off => Sys2Proof.Machine.execSb c rd ra off s
  | .cset c cn imm => Sys2Proof.Machine.execCset c cn imm s
  | .cadd c cn imm => Sys2Proof.Machine.execCadd c cn imm s
  | .crd c cn ra => Sys2Proof.Machine.execCrd c cn ra s
  | .cwr c cn ra => Sys2Proof.Machine.execCwr c cn ra s
  | .loop c cn target => Sys2Proof.Machine.execLoop c cn target s
  | .cwait c cn imm => Sys2Proof.Machine.execCwait c cn imm s
  | .tld c t ra rb fmt => Sys2Proof.Machine.execTld c t ra rb fmt s
  | .tst c t ra rb fmt => Sys2Proof.Machine.execTst c t ra rb fmt s
  | .tldl c t ra rb fmt rc => Sys2Proof.Machine.execTldl c t ra rb fmt rc s
  | .tmul c acc ta tb ovw sp => Sys2Proof.Machine.execTmul c acc ta tb ovw sp s
  | .cvt c a => Sys2Proof.Machine.execCvt c a s
  | .retainStallResume c => Sys2Proof.Machine.execRetainStallResume c s
  | .vadd c vd va vb sr nfmt => Sys2Proof.Machine.execVadd c vd va vb sr nfmt s
  | .vsub c vd va vb sr nfmt => Sys2Proof.Machine.execVsub c vd va vb sr nfmt s
  | .vmul c vd va vb sr nfmt => Sys2Proof.Machine.execVmul c vd va vb sr nfmt s
  | .vfma c vd va vb vc sr nfmt => Sys2Proof.Machine.execVfma c vd va vb vc sr nfmt s
  | .vmin c vd va vb sr nfmt => Sys2Proof.Machine.execVmin c vd va vb sr nfmt s
  | .vmax c vd va vb sr nfmt => Sys2Proof.Machine.execVmax c vd va vb sr nfmt s
  | .vcmplt c vd va vb sr nfmt => Sys2Proof.Machine.execVcmplt c vd va vb sr nfmt s
  | .vcmple c vd va vb sr nfmt => Sys2Proof.Machine.execVcmple c vd va vb sr nfmt s
  | .vcmpeq c vd va vb sr nfmt => Sys2Proof.Machine.execVcmpeq c vd va vb sr nfmt s
  | .vsel c vd va vb vc sr nfmt => Sys2Proof.Machine.execVsel c vd va vb vc sr nfmt s
  | .vabs c vd va sr nfmt => Sys2Proof.Machine.execVabs c vd va sr nfmt s
  | .vneg c vd va sr nfmt => Sys2Proof.Machine.execVneg c vd va sr nfmt s
  | .vrecip c vd va sr nfmt => Sys2Proof.Machine.execVrecip c vd va sr nfmt s
  | .vrsqrt c vd va sr nfmt => Sys2Proof.Machine.execVrsqrt c vd va sr nfmt s
  | .vexp2 c vd va sr nfmt => Sys2Proof.Machine.execVexp2 c vd va sr nfmt s
  | .vlog2 c vd va sr nfmt => Sys2Proof.Machine.execVlog2 c vd va sr nfmt s
  | .vrsum c vd va sr nfmt => Sys2Proof.Machine.execVrsum c vd va sr nfmt s
  | .vrmax c vd va sr nfmt => Sys2Proof.Machine.execVrmax c vd va sr nfmt s
  | .vtrans c vd va => Sys2Proof.Machine.execVtrans c vd va s
  | .vmov c vd va sr nfmt => Sys2Proof.Machine.execVmov c vd va sr nfmt s
  | .viotr c vd sr nfmt => Sys2Proof.Machine.execViotr c vd sr nfmt s
  | .viotc c vd sr nfmt => Sys2Proof.Machine.execViotc c vd sr nfmt s
  | .tpop c q t => Sys2Proof.Machine.execTpop c q t s
  | .tpush c q t => Sys2Proof.Machine.execTpush c q t s
  | .wsend c q reg n => Sys2Proof.Machine.execWsend c q reg n s
  | .wrecv c q reg n => Sys2Proof.Machine.execWrecv c q reg n s
  | .dropr c q => Sys2Proof.Machine.execDropr c q s
  | .tstat c t rd => Sys2Proof.Machine.execTstat c t rd s
  | .get c ra rb rc cn cnt => Sys2Proof.Machine.execGet c ra rb rc cn cnt s
  | .put c ra rb rc cn cnt => Sys2Proof.Machine.execPut c ra rb rc cn cnt s
  | .ldg c ra rc => Sys2Proof.Machine.execLdg c ra rc s
  | .stg c ra rb cn cnt => Sys2Proof.Machine.execStg c ra rb cn cnt s
  | .amo c ra rb rc op => Sys2Proof.Machine.execAmo c ra rb rc op s
  | .acq c ra rb all => Sys2Proof.Machine.execAcq c ra rb all s
  | .acquireComplete c => Sys2Proof.Machine.execAcquireComplete c s
  | .fence c => Sys2Proof.Machine.execFence c s
  | .cfgrd c rd off => Sys2Proof.Machine.execCfgrd c rd off s
  | .rekindleFetchResponse id cycle => Sys2Proof.Machine.execRekindleFetchResponse id cycle s
  | .rekindleMultiply c cycle => Sys2Proof.Machine.execRekindleMultiply c cycle s
  | .retainedCopyFetch id => Sys2Proof.Machine.execRetainedCopyFetch id s
  | .mordantCommit e => Sys2Proof.Machine.execMordantCommit e s
  | .mordantDiscard e => Sys2Proof.Machine.execMordantDiscard e s
  | .mordantSlotProcess c => Sys2Proof.Machine.execMordantSlotProcess c s
  | .mordantAckTimeout c => Sys2Proof.Machine.execMordantAckTimeout c s
  | .periodStartCommand e => Sys2Proof.Machine.execPeriodStartCommand e s
  | .periodRestart e => Sys2Proof.Machine.execPeriodRestart e s
  | .restartAckTimeout c => Sys2Proof.Machine.execRestartAckTimeout c s
  | .acknowledge e ns => Sys2Proof.Machine.execAcknowledge e ns s
  | .faultReport e => Sys2Proof.Machine.execFaultReport e s
  | .dropCycle e => Sys2Proof.Machine.execDropCycle e s
  | .configurationRead e => Sys2Proof.Machine.execConfigurationRead e s
  | .configurationWrite e => Sys2Proof.Machine.execConfigurationWrite e s
  | .controlResponse id => Sys2Proof.Machine.execControlResponse id s
  | .slotDeparture k e n => Sys2Proof.Machine.execSlotDeparture k e n s
  | .slotMiss k e n => Sys2Proof.Machine.execSlotMiss k e n s
  | .beatArrival id fixed bad => Sys2Proof.Machine.execBeatArrival id fixed bad s
  | .mergeRoundComplete k st => Sys2Proof.Machine.execMergeRoundComplete k st s
  | .tupleDeparture k e n => Sys2Proof.Machine.execTupleDeparture k e n s
  | .tupleArrival id fixed bad => Sys2Proof.Machine.execTupleArrival id fixed bad s
  | .creditFlitSend k e n => Sys2Proof.Machine.execCreditFlitSend k e n s
  | .creditArrival id fixed bad => Sys2Proof.Machine.execCreditArrival id fixed bad s
  | .combineContribution k q => Sys2Proof.Machine.execCombineContribution k q s
  | .combineResultDeparture k e n => Sys2Proof.Machine.execCombineResultDeparture k e n s
  | .routerPeriodStart k n => Sys2Proof.Machine.execRouterPeriodStart k n s
  | .periodStartWrite k s0 => Sys2Proof.Machine.execPeriodStartWrite k s0 s
  | .dropWindowStart k n => Sys2Proof.Machine.execDropWindowStart k n s
  | .sootAdvance k v => Sys2Proof.Machine.execSootAdvance k v s
  | .telemAdvance k v => Sys2Proof.Machine.execTelemAdvance k v s
  | .laneRepair f edge idx group lane corrected => Sys2Proof.Machine.execLaneRepair f edge idx group lane corrected s
  | .stitchRetrainRequest f edge idx why => Sys2Proof.Machine.execStitchRetrainRequest f edge idx why s
  | .stitchRetrain f v => Sys2Proof.Machine.execStitchRetrain f v s
  | .stitchRetrainComplete f edge idx r => Sys2Proof.Machine.execStitchRetrainComplete f edge idx r s
  | .packetInject id => Sys2Proof.Machine.execPacketInject id s
  | .packetHop k q => Sys2Proof.Machine.execPacketHop k q s
  | .flitNak k port err => Sys2Proof.Machine.execFlitNak k port err s
  | .linkDown k port n => Sys2Proof.Machine.execLinkDown k port n s
  | .readRequest id => Sys2Proof.Machine.execReadRequest id s
  | .writeRequest id => Sys2Proof.Machine.execWriteRequest id s
  | .atomicRequest id => Sys2Proof.Machine.execAtomicRequest id s
  | .readResponse id => Sys2Proof.Machine.execReadResponse id s
  | .writeResponse id => Sys2Proof.Machine.execWriteResponse id s
  | .atomicResponse id => Sys2Proof.Machine.execAtomicResponse id s
  | .inboxDelivery id => Sys2Proof.Machine.execInboxDelivery id s
  | .requestTimeout u txn => Sys2Proof.Machine.execRequestTimeout u txn s
  | .hazardRelease u waited => Sys2Proof.Machine.execHazardRelease u waited s
  | .scrubRead f ch => Sys2Proof.Machine.execScrubRead f ch s
  | .dramTemperatureRead f ch temp => Sys2Proof.Machine.execDramTemperatureRead f ch temp s
  | .refreshCommand f ch => Sys2Proof.Machine.execRefreshCommand f ch s
  | .channelFailure f ch => Sys2Proof.Machine.execChannelFailure f ch s
  | .streamOpen n a => Sys2Proof.Machine.execStreamOpen n a s
  | .promptSubmission n a => Sys2Proof.Machine.execPromptSubmission n a s
  | .creditGrant n a => Sys2Proof.Machine.execCreditGrant n a s
  | .streamCloseRequest n a => Sys2Proof.Machine.execStreamCloseRequest n a s
  | .streamClose sid v => Sys2Proof.Machine.execStreamClose sid v s
  | .class0LimitWrite p ctx v => Sys2Proof.Machine.execClass0LimitWrite p ctx v s
  | .poolEntriesWrite n v => Sys2Proof.Machine.execPoolEntriesWrite n v s
  | .poolBaseWrite n v => Sys2Proof.Machine.execPoolBaseWrite n v s
  | .admission p at_ => Sys2Proof.Machine.execAdmission p at_ s
  | .plannedStart p at_ s0 hz => Sys2Proof.Machine.execPlannedStart p at_ s0 hz s
  | .donePoll p at_ => Sys2Proof.Machine.execDonePoll p at_ s
  | .commitPoint p at_ => Sys2Proof.Machine.execCommitPoint p at_ s
  | .deadline p at_ => Sys2Proof.Machine.execDeadline p at_ s
  | .dropCauseArrival p cause at_ kc => Sys2Proof.Machine.execDropCauseArrival p cause at_ kc s
  | .periodCommit n => Sys2Proof.Machine.execPeriodCommit n s
  | .periodDrop n => Sys2Proof.Machine.execPeriodDrop n s
  | .energyApportion p => Sys2Proof.Machine.execEnergyApportion p s
  | .portMode n v => Sys2Proof.Machine.execPortMode n v s
  | .portRetrain n v => Sys2Proof.Machine.execPortRetrain n v s
  | .portRetrainTrigger n uncorrectable aligned => Sys2Proof.Machine.execPortRetrainTrigger n uncorrectable aligned s
  | .portTrainingStart n => Sys2Proof.Machine.execPortTrainingStart n s
  | .trainingFrame n lane symbols => Sys2Proof.Machine.execTrainingFrame n lane symbols s
  | .trainingPhaseTimeout n ber uncorrectable => Sys2Proof.Machine.execTrainingPhaseTimeout n ber uncorrectable s
  | .portTrainingEnd n => Sys2Proof.Machine.execPortTrainingEnd n s
  | .portDarkRetry n => Sys2Proof.Machine.execPortDarkRetry n s
  | .portDown n => Sys2Proof.Machine.execPortDown n s
  | .frameReceive n fr => Sys2Proof.Machine.execFrameReceive n fr s
  | .arpRequest ifc mac ip target => Sys2Proof.Machine.execArpRequest ifc mac ip target s
  | .neighbourSolicitation ifc mac ip target => Sys2Proof.Machine.execNeighbourSolicitation ifc mac ip target s
  | .echoRequest ifc mac v6 src dst data => Sys2Proof.Machine.execEchoRequest ifc mac v6 src dst data s
  | .announce n a => Sys2Proof.Machine.execAnnounce n a s
  | .sync n seq domain source twoStep origin at_ => Sys2Proof.Machine.execSync n seq domain source twoStep origin at_ s
  | .followUp n seq domain source origin => Sys2Proof.Machine.execFollowUp n seq domain source origin s
  | .delayResp n seq domain source received => Sys2Proof.Machine.execDelayResp n seq domain source received s
  | .delayReqSend n at_ => Sys2Proof.Machine.execDelayReqSend n at_ s
  | .syncTimeout => Sys2Proof.Machine.execSyncTimeout s
  | .dataSegment n src dg ce => Sys2Proof.Machine.execDataSegment n src dg ce s
  | .acknowledgementSegment n src dg => Sys2Proof.Machine.execAcknowledgementSegment n src dg s
  | .syncSegment n src dg => Sys2Proof.Machine.execSyncSegment n src dg s
  | .syncSend n a seq => Sys2Proof.Machine.execSyncSend n a seq s
  | .ackTimer n a => Sys2Proof.Machine.execAckTimer n a s
  | .resendTimeout n a seq => Sys2Proof.Machine.execResendTimeout n a seq s
  | .rateUpdate n a => Sys2Proof.Machine.execRateUpdate n a s
  | .remoteWrite n a => Sys2Proof.Machine.execRemoteWrite n a s
  | .remoteWriteComplete n op => Sys2Proof.Machine.execRemoteWriteComplete n op s
  | .writeCompletion n a => Sys2Proof.Machine.execWriteCompletion n a s
  | .remoteRead n a => Sys2Proof.Machine.execRemoteRead n a s
  | .remoteReadResponse n a => Sys2Proof.Machine.execRemoteReadResponse n a s
  | .nack n a => Sys2Proof.Machine.execNack n a s
  | .assocWrite n a data => Sys2Proof.Machine.execAssocWrite n a data s
  | .windowWrite n w data => Sys2Proof.Machine.execWindowWrite n w data s
  | .hdpFragment src data at_ => Sys2Proof.Machine.execHdpFragment src data at_ s
  | .fragmentTimeout src sid reqId mtype => Sys2Proof.Machine.execFragmentTimeout src sid reqId mtype s
  | .identityRequest src reqId => Sys2Proof.Machine.execIdentityRequest src reqId s
  | .hello src reqId body kem => Sys2Proof.Machine.execHello src reqId body kem s
  | .finish sid reqId proof => Sys2Proof.Machine.execFinish sid reqId proof s
  | .pendingSessionTimeout sid => Sys2Proof.Machine.execPendingSessionTimeout sid s
  | .read sid reqId refs => Sys2Proof.Machine.execRead sid reqId refs s
  | .write sid reqId entries => Sys2Proof.Machine.execWrite sid reqId entries s
  | .list sid reqId ref => Sys2Proof.Machine.execList sid reqId ref s
  | .describe sid reqId ref => Sys2Proof.Machine.execDescribe sid reqId ref s
  | .close sid reqId => Sys2Proof.Machine.execClose sid reqId s
  | .sessionIdleTimeout sid => Sys2Proof.Machine.execSessionIdleTimeout sid s
  | .sessionKill sid => Sys2Proof.Machine.execSessionKill sid s
  | .credKey ix key => Sys2Proof.Machine.execCredKey ix key s
  | .credRole ix v => Sys2Proof.Machine.execCredRole ix v s
  | .configSave v => Sys2Proof.Machine.execConfigSave v s
  | .configClear v => Sys2Proof.Machine.execConfigClear v s
  | .refSourceInvalid src => Sys2Proof.Machine.execRefSourceInvalid src s
  | .refRevert src held => Sys2Proof.Machine.execRefRevert src held s
  | .referenceLost => Sys2Proof.Machine.execReferenceLost s
  | .referenceRelock src => Sys2Proof.Machine.execReferenceRelock src s
  | .dividerStep ix n => Sys2Proof.Machine.execDividerStep ix n s
  | .markerSend f n => Sys2Proof.Machine.execMarkerSend f n s
  | .marker f count wt own => Sys2Proof.Machine.execMarker f count wt own s
  | .forwardedInputLost f working => Sys2Proof.Machine.execForwardedInputLost f working s
  | .oscillatorCheck ppm => Sys2Proof.Machine.execOscillatorCheck ppm s
  | .freqMeasure f v => Sys2Proof.Machine.execFreqMeasure f v s
  | .frequencyCountDone f edges => Sys2Proof.Machine.execFrequencyCountDone f edges s
  | .frequencyCountLost f => Sys2Proof.Machine.execFrequencyCountLost f s
  | .moduleMark m => Sys2Proof.Machine.execModuleMark m s
  | .sampleMark lead => Sys2Proof.Machine.execSampleMark lead s
  | .markLatch which u => Sys2Proof.Machine.execMarkLatch which u s
  | .markComplete which => Sys2Proof.Machine.execMarkComplete which s
  | .markAbandon which => Sys2Proof.Machine.execMarkAbandon which s
  | .governorTick watts aux stepSlot => Sys2Proof.Machine.execGovernorTick watts aux stepSlot s
  | .boostTimeout why => Sys2Proof.Machine.execBoostTimeout why s
  | .recoveryEnd => Sys2Proof.Machine.execRecoveryEnd s
  | .leaseGrant data => Sys2Proof.Machine.execLeaseGrant data s
  | .leaseTick => Sys2Proof.Machine.execLeaseTick s
  | .wearTick r watts tj => Sys2Proof.Machine.execWearTick r watts tj s
  | .wearStore => Sys2Proof.Machine.execWearStore s
  | .thermalSample r stackC junctionC coolant => Sys2Proof.Machine.execThermalSample r stackC junctionC coolant s
  | .awakeCeilingStep r => Sys2Proof.Machine.execAwakeCeilingStep r s
  | .coolantShutdown inlet => Sys2Proof.Machine.execCoolantShutdown inlet s
  | .fuseOpen r cause => Sys2Proof.Machine.execFuseOpen r cause s
  | .flashInhibitSet planeMv auxMv => Sys2Proof.Machine.execFlashInhibitSet planeMv auxMv s
  | .flashInhibitClear planeMv auxMv => Sys2Proof.Machine.execFlashInhibitClear planeMv auxMv s
  | .feedLost b => Sys2Proof.Machine.execFeedLost b s
  | .feedSupplying b => Sys2Proof.Machine.execFeedSupplying b s
  | .planeHold => Sys2Proof.Machine.execPlaneHold s
  | .auxInputLow sigA sigB => Sys2Proof.Machine.execAuxInputLow sigA sigB s
  | .coefTable data => Sys2Proof.Machine.execCoefTable data s
  | .coreDead c => Sys2Proof.Machine.execCoreDead c s
  | .heartbeat => Sys2Proof.Machine.execHeartbeat s
  | .heartbeatTimeout => Sys2Proof.Machine.execHeartbeatTimeout s
  | .faultRecord src => Sys2Proof.Machine.execFaultRecord src s
  | .availabilityTick => Sys2Proof.Machine.execAvailabilityTick s
  | .availClear v => Sys2Proof.Machine.execAvailClear v s
  | .attestRequest nonce => Sys2Proof.Machine.execAttestRequest nonce s
  | .attestSigned sig => Sys2Proof.Machine.execAttestSigned sig s
  | .svnCommit v => Sys2Proof.Machine.execSvnCommit v s
  | .slotAccept v => Sys2Proof.Machine.execSlotAccept v s
  | .decommission digest sigA sigB => Sys2Proof.Machine.execDecommission digest sigA sigB s
  | .interlockChange closed => Sys2Proof.Machine.execInterlockChange closed s
  | .shedAssert => Sys2Proof.Machine.execShedAssert s
  | .shedRelease => Sys2Proof.Machine.execShedRelease s
  | .routerFailedInService k msg => Sys2Proof.Machine.execRouterFailedInService k msg s
  | .registerFileParityError c unit => Sys2Proof.Machine.execRegisterFileParityError c unit s
  | .mscWatchdogHold => Sys2Proof.Machine.execMscWatchdogHold s
  | .mgtLinkChange b up => Sys2Proof.Machine.execMgtLinkChange b up s

end Sys2Proof.Machine
end

