-- ==== Sys2Proof/Safety.lean ====
section
/-! DEFINITION. The terms in which claims about the module are made: what it is for a core to run an instruction, and
what every run keeps. -/

namespace Sys2Proof.Machine

/-! ### A core that runs an instruction (R161, R183, R184) -/

/-- Core `c` issues the instruction whose word is `w` (under the mask of the bits it uses), and `k` is the core after the
fetch: its program memory gave the word, corrected and counted where it held a single-bit error. -/
def Fetched (s : State) (c : Nat) (w mask : Word) (k : Core) : Prop :=
  c < 258048 ∧ (s.core c).canIssue w mask = true ∧ (s.core c).fetch = .ok k

/-- The outcome in which core `c` becomes `k'` and goes on to the instruction after that of `k` (R184). -/
def goesOn (s : State) (c : Nat) (k k' : Core) : Out := .next (s.setCore c { k' with pc := (k.pc + 1) % 2048 })

/-- The outcome in which core `c` becomes `k'` and goes on at `pc`. -/
def goesTo (s : State) (c : Nat) (k' : Core) (pc : Nat) : Out := .next (s.setCore c { k' with pc := pc })

/-- The outcome in which core `c`, being `k'`, raises a fault (R209). -/
def faults (s : State) (c : Nat) (k' : Core) (cause detail : Nat) : Out := .next (s.setCore c (k'.raise cause detail))

/-- The outcome in which core `c` holds the instruction `i` at issue. -/
def waits (s : State) (c : Nat) (k : Core) (i : Instr) : Out := .next (s.setCore c { k with held := some i })

/-- A command completes, and the state after it is as `P` says. -/
def Gives (o : Out) (P : State → Prop) : Prop := ∃ t, o = .next t ∧ P t

/-- The command is an instruction of core `c` that runs to its end: the core goes on to the instruction after that of `k`, the
core after the fetch, does not wait at issue, and is as `P` says (R184). -/
def Completes (o : Out) (c : Nat) (k : Core) (P : Core → Prop) : Prop :=
  ∃ t, o = .next t ∧ (t.core c).pc = (k.pc + 1) % 2048 ∧ (t.core c).held = none ∧ P (t.core c)

/-! ### A packet that is delivered (R330, R340) -/

/-- Packet `id` has landed: its last flit has reached its destination node, and none of its flow landed before it. -/
def Deliverable (s : State) (id : Nat) (p : Packet) : Prop := s.net.packets.look id = some p ∧ p.landed = true

/-- The state in which the packet's unit has taken it: it stands at no node any more. -/
def State.received (s : State) (id : Nat) (p : Packet) : State :=
  (s.modNode p.at_ (fun x => { x with routes := x.routes.filter (fun r => r.2.id ≠ id) })).dropPacket id

/-- The command answers the request `p` with a status and bytes: a response of type `typ` waits at the destination. -/
def Answers (o : Out) (s : State) (p : Packet) (typ status : Nat) (payload : List Byte) (P : State → Prop) : Prop :=
  Gives o (fun t => P t ∧ ∃ q, t.net.packets.look s.net.nextId = some q ∧ q.typ = typ ∧ q.status = status ∧
    q.payload = payload ∧ q.txn = p.txn ∧ q.dst = p.src)

/-! ### Control requests (R349) -/

/-- A transaction number is left for a request of a unit (R323). -/
def MaySend (s : State) (u : Requester) : Prop := ∃ t, t < 4096 ∧ t ∉ s.usedTxns u

/-- The command has unit `u` send a control request to a unit of cluster `k`: the packet waits at its source, and the request
awaits its response. -/
def Sends (o : Out) (s : State) (u : Requester) (cmd k : Nat) (dst : Endpoint) (d : List Byte) (P : State → Prop) : Prop :=
  Gives o (fun t => P t ∧ ∃ q, t.net.packets.look s.net.nextId = some q ∧ q.typ = 7 ∧ q.cls = 3 ∧ q.auxA = cmd ∧
    q.src = (s.senderOf u).2 ∧ q.dst = dst ∧ q.dstX = clusterX k ∧ q.dstY = clusterY k ∧ q.payload = d ∧
    q.injected = false ∧ t.ctlOpen u q.txn = true)

/-- Packet `id` is a control request of command `cmd` that has landed at a unit which takes it (R349, R368). -/
def CtlArrives (s : State) (id : Nat) (p : Packet) (cmd : Nat) : Prop :=
  Deliverable s id p ∧ p.typ = 7 ∧ p.auxA % 256 = cmd ∧ s.ctlAbsent p = false

/-! ### What every run keeps -/

/-- The addressed memories are in their canonical form: the DRAM, the core stores, and the cluster memories. -/
def State.wf (s : State) : Prop :=
  Sparse.wf s.dram.mem = true ∧ (∀ p ∈ s.cores, Sparse.wf p.2.store = true) ∧ ∀ p ∈ s.clusters, Sparse.wf p.2.cmem = true

end Sys2Proof.Machine
end

