-- ==== Sys2Proof/Certificates/Slice0/Obligations.lean ====
section
/-! DEFINITION. The statements for the provers. -/

open Sys2Proof Sys2Proof.Machine

/-! ### Scalar instructions (spec/04) -/

/-- R187, R184: what the sixteen register-register operations leave, for every register, source and destination alike. R187, R184: what the register-immediate operations leave. -/
def Obligations.AluResults : Prop :=
  (∀ (s : State) (c : Nat) (rd ra rb : BitVec 4) (k : Core),
     let a := k.s ra.toNat
     let b := k.s rb.toNat
     let gives (v : Word) := goesOn s c k (k.setS rd.toNat v)
     let runs (op : Nat) := Fetched s c (encAlu op rd ra rb) fullMask k
     (runs 0 → exec (.add c rd ra rb) s = gives (a + b)) ∧
     (runs 1 → exec (.sub c rd ra rb) s = gives (a - b)) ∧
     (runs 2 → exec (.and c rd ra rb) s = gives (a &&& b)) ∧
     (runs 3 → exec (.or c rd ra rb) s = gives (a ||| b)) ∧
     (runs 4 → exec (.xor c rd ra rb) s = gives (a ^^^ b)) ∧
     (runs 5 → exec (.sll c rd ra rb) s = gives (a <<< (b.toNat % 32))) ∧
     (runs 6 → exec (.srl c rd ra rb) s = gives (a >>> (b.toNat % 32))) ∧
     (runs 7 → exec (.sra c rd ra rb) s = gives (a.sshiftRight (b.toNat % 32))) ∧
     (runs 8 → exec (.mul c rd ra rb) s = gives (a * b)) ∧
     (runs 9 → exec (.mulhu c rd ra rb) s = gives (BitVec.ofNat 32 (a.toNat * b.toNat / 4294967296))) ∧
     (runs 10 → exec (.slt c rd ra rb) s = gives (if a.toInt < b.toInt then 1 else 0)) ∧
     (runs 11 → exec (.sltu c rd ra rb) s = gives (if a.toNat < b.toNat then 1 else 0)) ∧
     (runs 12 → exec (.min c rd ra rb) s = gives (if a.toInt ≤ b.toInt then a else b)) ∧
     (runs 13 → exec (.max c rd ra rb) s = gives (if a.toInt ≤ b.toInt then b else a)) ∧
     (runs 14 → exec (.minu c rd ra rb) s = gives (if a.toNat ≤ b.toNat then a else b)) ∧
     (runs 15 → exec (.maxu c rd ra rb) s = gives (if a.toNat ≤ b.toNat then b else a))) ∧
  (∀ (s : State) (c : Nat) (rd ra : BitVec 4) (imm : Half) (sh : BitVec 5) (k : Core),
     let a := k.s ra.toNat
     let sx : Word := imm.signExtend 32
     let zx : Word := imm.setWidth 32
     let gives (v : Word) := goesOn s c k (k.setS rd.toNat v)
     let runs (op : Nat) := Fetched s c (encImm 2 op rd ra imm) fullMask k
     let shifts (op : Nat) := Fetched s c (encImm 2 op rd ra (sh.setWidth 16)) fullMask k
     (runs 0 → exec (.addi c rd ra imm) s = gives (a + sx)) ∧
     (runs 2 → exec (.andi c rd ra imm) s = gives (a &&& zx)) ∧
     (runs 3 → exec (.ori c rd ra imm) s = gives (a ||| zx)) ∧
     (runs 4 → exec (.xori c rd ra imm) s = gives (a ^^^ zx)) ∧
     (shifts 5 → exec (.slli c rd ra sh) s = gives (a <<< sh.toNat)) ∧
     (shifts 6 → exec (.srli c rd ra sh) s = gives (a >>> sh.toNat)) ∧
     (shifts 7 → exec (.srai c rd ra sh) s = gives (a.sshiftRight sh.toNat)) ∧
     (runs 8 → exec (.slti c rd ra imm) s = gives (if a.toInt < sx.toInt then 1 else 0)) ∧
     (runs 9 → exec (.sltiu c rd ra imm) s = gives (if a.toNat < sx.toNat then 1 else 0)) ∧
     (Fetched s c (encImm 2 15 rd 0 imm) fullMask k →
       exec (.lui c rd imm) s = gives (BitVec.ofNat 32 (imm.toNat * 65536))))

/-- R187, R184: where the branches and jumps go, and what the link register takes. -/
def Obligations.BranchResults : Prop :=
  ∀ (s : State) (c : Nat) (ra rb : BitVec 4) (target : BitVec 11) (k : Core),
    let a := k.s ra.toNat
    let b := k.s rb.toNat
    let goes (p : Prop) [Decidable p] := if p then goesTo s c k target.toNat else goesOn s c k k
    let runs (cond : Nat) := Fetched s c (encBr cond ra rb target) fullMask k
    (runs 0 → exec (.beq c ra rb target) s = goes (a = b)) ∧
    (runs 1 → exec (.bne c ra rb target) s = goes (a ≠ b)) ∧
    (runs 2 → exec (.blt c ra rb target) s = goes (a.toInt < b.toInt)) ∧
    (runs 3 → exec (.bge c ra rb target) s = goes (b.toInt ≤ a.toInt)) ∧
    (runs 4 → exec (.bltu c ra rb target) s = goes (a.toNat < b.toNat)) ∧
    (runs 5 → exec (.bgeu c ra rb target) s = goes (b.toNat ≤ a.toNat)) ∧
    (Fetched s c (encBr 6 0 0 target) fullMask k → exec (.j c target) s = goesTo s c k target.toNat) ∧
    (Fetched s c (encBr 7 ra 0 target) fullMask k →
      exec (.jal c ra target) s =
        goesTo s c (k.setS ra.toNat (BitVec.ofNat 32 ((k.pc + 1) % 2048))) target.toNat)

/-- R187, R159, R86, R185: the system class. `END` stops issue, with the program counter where it stands until the firing
ends; a zero seed becomes 1; an odd register pair raises cause 0x01 with the word as detail; `TRAP` raises cause 0x07 with
its immediate; a word that R185 makes illegal raises cause 0x01 with the word as detail.
The model's choices in it: log entries 9 and 13. -/
def Obligations.SystemInstructionResults : Prop :=
  ∀ (s : State) (c : Nat) (rd ra : BitVec 4) (imm : Half) (acc : BitVec 2) (w : Word) (k : Core),
    let word := (Sparse.rd k.pmem k.pc).toNat
    (Fetched s c (encImm 0 0 0 0 0) fullMask k → exec (.nop c) s = goesOn s c k k) ∧
    (Fetched s c (encImm 0 1 0 0 0) fullMask k → exec (.endFiring c) s = goesTo s c { k with ended := true } k.pc) ∧
    (Fetched s c (encImm 0 2 0 ra 0) 0xFF0F0000#32 k →
      exec (.jr c ra) s = goesTo s c k ((k.s ra.toNat).toNat % 2048)) ∧
    (Fetched s c (encImm 0 3 0 ra 0) 0xFF0F0000#32 k → exec (.seed c ra) s =
      if ra.toNat % 2 = 0 then
        let v := k.s (ra.toNat + 1) ++ k.s ra.toNat
        goesOn s c k { k with gen := if v = 0 then 1 else v }
      else faults s c k 0x01 word) ∧
    (Fetched s c (encImm 0 4 rd 0 0) 0xFFF00000#32 k → exec (.time c rd) s =
      if rd.toNat % 2 = 0 then goesOn s c k (k.setPair rd.toNat (BitVec.ofNat 64 (s.localTime (fieldOf (clusterOf c)))))
      else faults s c k 0x01 word) ∧
    (Fetched s c (encImm 0 5 0 0 (acc.setWidth 16)) 0xFF00FFFF#32 k →
      exec (.acct c acc) s = goesOn s c k { k with acct := acc.toNat }) ∧
    (Fetched s c (encImm 0 6 0 0 imm) 0xFF00FFFF#32 k → exec (.trap c imm) s = faults s c k 0x07 imm.toNat) ∧
    (Fetched s c w fullMask k → reservedWord w = true →
      exec (.reservedInstruction c w) s = faults s c k 0x01 w.toNat)

/-- R188, R160: scalar accesses of core store whose address is in range and aligned and whose 64-bit word holds no
uncorrectable error. A load reads the little-endian bytes at the address; a store changes exactly its bytes and leaves the
word without an error; a single-bit error of the word is corrected and counted. -/
def Obligations.ScalarStoreAccess : Prop :=
  ∀ (s : State) (c : Nat) (rd ra : BitVec 4) (off : BitVec 18) (k : Core),
    let a := (k.s ra.toNat + off.signExtend 32).toNat
    a ≤ 0x17FFF → k.storeErr.look (a / 8) ≠ some true → Sparse.wf k.store = true →
    let rdByte (x : Nat) := Sparse.rd k.store x
    let corrected := if k.storeErr.look (a / 8) = some false then 1 else 0
    let runs (op : Nat) := Fetched s c (encSmem op rd ra off) fullMask k
    let stored (m : Mem) := goesOn s c k ({ k with store := m, storeErr := k.storeErr.del (a / 8) }.bumpCount 0x50 corrected)
    (runs 0 → a % 4 = 0 → exec (.lw c rd ra off) s = goesOn s c k ((k.bumpCount 0x50 corrected).setS rd.toNat
        (rdByte (a + 3) ++ rdByte (a + 2) ++ rdByte (a + 1) ++ rdByte a))) ∧
    (runs 2 → exec (.lbu c rd ra off) s =
      goesOn s c k ((k.bumpCount 0x50 corrected).setS rd.toNat ((rdByte a).setWidth 32))) ∧
    (runs 1 → a % 4 = 0 → ∃ m, exec (.sw c rd ra off) s = stored m ∧
      (∀ j, j < 4 → Sparse.rd m (a + j) = ((k.s rd.toNat) >>> (8 * j)).setWidth 8) ∧
      ∀ x, (x < a ∨ a + 4 ≤ x) → Sparse.rd m x = rdByte x) ∧
    (runs 3 → ∃ m, exec (.sb c rd ra off) s = stored m ∧
      Sparse.rd m a = (k.s rd.toNat).setWidth 8 ∧ ∀ x, x ≠ a → Sparse.rd m x = rdByte x)

/-- R189, R167: the counter instructions. An update past a limit stops there with cause 0x05; `LOOP` at 0 likewise;
`CWAIT` goes on when its counter has reached the value, and waits at issue when it has not. -/
def Obligations.CounterInstructionResults : Prop :=
  ∀ (s : State) (c : Nat) (cn ra : BitVec 4) (imm : Half) (target : BitVec 11) (k : Core),
    let v := (Sparse.rd k.cnt cn.toNat).toNat
    let put (x : Half) : Core := { k with cnt := Sparse.wr k.cnt cn.toNat x }
    let sum : Int := (v : Int) + imm.toInt
    (Fetched s c (encCtr 0 cn 0 imm) fullMask k → exec (.cset c cn imm) s = goesOn s c k (put imm)) ∧
    (Fetched s c (encCtr 1 cn 0 imm) fullMask k → exec (.cadd c cn imm) s =
      if sum < 0 then faults s c (put 0) 0x05 cn.toNat
      else if 65535 < sum then faults s c (put 0xFFFF#16) 0x05 cn.toNat
      else goesOn s c k (put (BitVec.ofInt 16 sum))) ∧
    (Fetched s c (encCtr 2 cn ra 0) fullMask k →
      exec (.crd c cn ra) s = goesOn s c k (k.setS ra.toNat (BitVec.ofNat 32 v))) ∧
    (Fetched s c (encCtr 3 cn ra 0) fullMask k →
      exec (.cwr c cn ra) s = goesOn s c k (put ((k.s ra.toNat).setWidth 16))) ∧
    (Fetched s c (encCtr 4 cn 0 (target.setWidth 16)) fullMask k → exec (.loop c cn target) s =
      if v = 0 then faults s c k 0x05 cn.toNat
      else if v = 1 then goesOn s c k (put 0)
      else goesTo s c (put (BitVec.ofNat 16 (v - 1))) target.toNat) ∧
    (Fetched s c (encCtr 5 cn 0 imm) fullMask k → exec (.cwait c cn imm) s =
      if imm.toNat ≤ v then goesOn s c k k else waits s c k (.cwait c cn imm))

/-- R157: s0 reads as zero and discards every write; every other register reads what was last written to it, and a write
changes no other register. -/
def Obligations.RegisterZeroIsZero : Prop :=
  ∀ (k : Core) (r q : Nat) (v : Word),
    k.s 0 = 0 ∧ k.setS 0 v = k ∧ (r ≠ 0 → (k.setS r v).s r = v) ∧ (q ≠ r → (k.setS r v).s q = k.s q)

/-! ### Tile, vector, queue and message instructions of a core (spec/03, spec/04) -/

/-- R190, R63, R116, R160: a tile load takes the image at its address, with the format named, `NULL` 0 and a tag that
counts the elements that are not finite; a tile store writes the image of its register and nothing else, or nothing from
a null register; an expansion takes its 32 blocks. -/
def Obligations.TileLoadAndStoreResults : Prop :=
  ∀ (s : State) (c : Nat) (t : BitVec 3) (ra rb fmt rc : BitVec 4) (k : Core),
    let f := fmt.toNat
    let a := (k.s ra.toNat).toNat / 64 * 64 + (k.s rb.toNat).toNat * fmtSize f
    let x := k.tile t.toNat
    let counted := k.bumpCount 0x50 (softWords k.storeErr a (fmtSize f))
    (Fetched s c (encTmem 0 t ra rb fmt 0) fullMask k → fmtTile f = true → a + fmtSize f ≤ 0x18000 →
      k.tileBusy t.toNat = false → badWord k.storeErr a (fmtSize f) = none →
      let img := Sparse.dense k.store a (fmtSize f)
      let special := (tileVals f img).countP (fun v => !v.isFin)
      exec (.tld c t ra rb fmt) s =
        goesOn s c k (counted.setTile t.toNat ⟨Sparse.ofList 0 img, mkTag 0 0 0 0 special 0 0, f, false⟩)) ∧
    (Fetched s c (encTmem 1 t ra rb fmt 0) fullMask k → f = x.fmt → x.null = true →
      exec (.tst c t ra rb fmt) s = goesOn s c k k) ∧
    (Fetched s c (encTmem 1 t ra rb fmt 0) fullMask k → f = x.fmt → x.null = false → a + fmtSize f ≤ 0x18000 →
      k.storeErr = [] → ∃ m n, exec (.tst c t ra rb fmt) s =
          goesOn s c k ({ k with store := m, storeErr := [] }.bumpCount 0x50 n) ∧
        (∀ j, j < fmtSize f → Sparse.rd m (a + j) = (Sparse.dense x.img 0 (fmtSize f)).getD j 0) ∧
        ∀ y, (y < a ∨ a + fmtSize f ≤ y) → Sparse.rd m y = Sparse.rd k.store y) ∧
    (Fetched s c (encTmem 2 t ra rb fmt rc) fullMask k → (f = 1 ∨ f = 7) →
      (∀ j, j < 32 → lampAddr k ra rb rc j + 33 ≤ 0x18000) → k.tileBusy t.toNat = false →
      ∀ k' bs, loadBlocks (lampAddr k ra rb rc) (List.range 32) k = (k', .ok bs) →
      exec (.tldl c t ra rb fmt rc) s =
        goesOn s c k (k'.setTile t.toNat
          ⟨Sparse.ofList 0 (lampTile f bs (32 * ((k.s rb.toNat).toNat / 65536) % 160)),
            mkTag 0 0 0 0 (32 * bs.countP lampBad) 0 0, f, false⟩))

/-- R192, R103, R119, R131: what a tile multiply does while no rekindle holds the tile engine. With a null operand it does
nothing and counts nothing; operands of two formats, or of none that multiplies, raise cause 0x02; unflagged operands are
accumulated, the tile engine is occupied, and the multiply is counted in `TMULS` and in the account's row of its format;
flagged operands are counted, and accumulated as they are unless their outcome is a rekindle, which then is under way.
The model's choices in it: log entries 12, 157 and 160. -/
def Obligations.TileMultiplyResults : Prop :=
  ∀ (s : State) (c : Nat) (acc : BitVec 2) (ta tb : BitVec 3) (ovw : Bool) (sp : BitVec 3) (k : Core),
    let a := k.tile ta.toNat
    let b := k.tile tb.toNat
    let prof := k.profile sp.toNat
    let flagged := sootFlag prof a.tag || sootFlag prof b.tag
    let k0 : Core := { k with teBusy := some (acc.toNat, ta.toNat, tb.toNat) }
    let k1 := (k0.bumpCount 0x460 1).charge (if fmtMul a.fmt == some true then 0 else 8) 1
    let o := sootOutcome k sp.toNat a.fmt a.tag b.tag
    Fetched s c (encTmul acc ta tb ovw sp) fullMask k → k.rk = none →
    -- where it runs to its end (R184, R192)
    ((a.null || b.null) = true ∨ (a.fmt = b.fmt ∧ fmtTile a.fmt = true) →
      Completes (exec (.tmul c acc ta tb ovw sp) s) c k (fun k' => k'.regs = k.regs ∧ k'.tiles = k.tiles ∧ k'.store = k.store ∧
        (flagged = false → (a.null || b.null) = false → k'.accWords acc.toNat = (k.mulInto acc.toNat a.vals b.vals ovw).accWords acc.toNat) ∧
        ((a.null || b.null) = true → k'.accs = k.accs))) ∧
    ((a.null || b.null) = true → exec (.tmul c acc ta tb ovw sp) s = goesOn s c k k) ∧
    ((a.null || b.null) = false → (a.fmt ≠ b.fmt ∨ fmtTile a.fmt = false) →
      exec (.tmul c acc ta tb ovw sp) s = faults s c k 0x02 (a.fmt * 16 + b.fmt)) ∧
    ((a.null || b.null) = false → a.fmt = b.fmt → fmtTile a.fmt = true → flagged = false →
      exec (.tmul c acc ta tb ovw sp) s = goesOn s c k (k1.mulInto acc.toNat a.vals b.vals ovw)) ∧
    ((a.null || b.null) = false → a.fmt = b.fmt → fmtTile a.fmt = true → flagged = true → o < 4 →
      ∃ s', exec (.tmul c acc ta tb ovw sp) s =
          goesOn s' c k (((k1.bumpCount 0x468 1).countOutcome sp.toNat o).mulInto acc.toNat a.vals b.vals ovw) ∧
        s'.cores = s.cores ∧ s'.dram = s.dram ∧ s'.net = s.net ∧ (nbit prof.toNat 34 = false → s' = s)) ∧
    ((a.null || b.null) = false → a.fmt = b.fmt → fmtTile a.fmt = true → flagged = true → o = 4 →
      ∃ s' k', exec (.tmul c acc ta tb ovw sp) s = goesOn s' c k k' ∧ k'.accs = k.accs ∧
        k'.rk = some ⟨acc.toNat, ta.toNat, tb.toNat, ovw, none, none, false, false, false,
          b2n (tagSource a.tag == 1) + b2n (tagSource b.tag == 1), 0⟩)

/-- R103, R104, R108: element (i, j) of an accumulator after a multiply is its word before, or +0 in overwrite mode, plus
the dot product of row i of the first operand with row j of the second, and no other accumulator changes. -/
def Obligations.AccumulatorElementsAfterMultiply : Prop :=
  ∀ (k : Core) (acc : Nat) (va vb : List Val) (ovw : Bool) (i j : Nat),
    va.length = 1024 → vb.length = 1024 → i < 32 → j < 32 →
    let row (v : List Val) (n : Nat) := (v.drop (32 * n)).take 32
    let before := if ovw then 0 else (k.accWords acc).getD (32 * i + j) 0
    ((k.mulInto acc va vb ovw).accWords acc).getD (32 * i + j) 0 = accUpdate before (dotRows (row va i) (row vb j)) ∧
    ∀ other, other ≠ acc → (k.mulInto acc va vb ovw).accWords other = k.accWords other

/-- R193 to R196, R121: a conversion of a null register makes its tile destination null, with the target's format and its image and tag as they were; one
that names no scale slot, draws no random bits and retains nothing writes the register's values in the target format,
rounded to nearest, with their census in the tag; and one that waited for a retain slot runs once the slot is free.
The model's choices in it: log entries 4, 21, 22, 24, 150, 151, 152, 153, 158, 159 and 211. -/
def Obligations.ConversionResults : Prop :=
  ∀ (s : State) (c : Nat) (a : CvtArgs) (k : Core),
    let src := k.tile a.src.toNat
    let done (k' : Core) : Out := goesOn s.draw.2 c k k'
    a.src.toNat < 8 → a.dst.toNat < 8 → k.tileBusy a.dst.toNat = false → cvtFormatFault k a = false →
    resCvt (Sparse.rd k.pmem k.pc).toNat = false → k.mordant = none →
    (Fetched s c (encCvt a) fullMask k → src.null = true →
      exec (.cvt c a) s = done (k.setTile a.dst.toNat { k.tile a.dst.toNat with null := true, fmt := a.tfmt.toNat })) ∧
    (Fetched s c (encCvt a) fullMask k → src.null = false → a.rnd = false → a.scale = false → a.gather = false →
      a.retain = false → src.fmt ≠ a.tfmt.toNat →
      let img := Sparse.dense src.img 0 2048
      let out := cvtVals a.tfmt.toNat none (tileVals src.fmt img) (List.replicate 1024 Rnd.nearest)
      exec (.cvt c a) s = done ({ k with retainStall := false }.setTile a.dst.toNat
        ⟨Sparse.ofList 0 out.1, mkTag 0 0 0 0 out.2.special out.2.sat out.2.zero, a.tfmt.toNat, false⟩)) ∧
    (s.core c = { k with held := some (.cvt c a), retainStall := true } → c < 258048 → k.held = none → k.faulted = false →
      k.restarting = false → k.firing = true → src.null = false → cvtRetains k a = true →
      (k.ringAt (k.ringNext % k.retainDepth)).held = 0 →
      exec (.retainStallResume c) s = .next (s.draw.2.setCore c
        ((cvtGo c a s.free { k with held := none, retainStall := true } (Sparse.dense src.img 0 2048)).finish
          { k with held := none, retainStall := false } (.cvt c a))))

/-- A vector instruction of core `k` may run: its word is legal, its formats right, nothing it needs is busy, and its
sources read as `ls`, leaving the core `k'`. -/
def VectorReads (k : Core) (vop : Nat) (o : VecOps) (k' : Core) (ls : List (List Word)) : Prop :=
  let codes := [o.va.toNat, o.vb.toNat, o.vc.toNat].take (vecArity vop)
  resVec (Sparse.rd k.pmem k.pc).toNat = false ∧ vecFormatFault k codes = none ∧ vecBusy k o.vd.toNat codes = false ∧
    vSources o.sr codes k = (k', .ok ls)

/-- R198, R113, R67: the vector instructions write, in their destination, the words that the table gives from the words of
their sources: element by element, by row, or transposed. The four whose results the spec only bounds take 1,024 free
values.
The model's choices in it: log entries 4, 25, 154, 155 and 156. -/
def Obligations.VectorInstructionResults : Prop :=
  ∀ (s : State) (c : Nat) (vd va vb vc sr : BitVec 4) (nfmt : Bool) (k k' k2 : Core) (ls : List (List Word)),
    let o2 : VecOps := ⟨vd, va, vb, 0, sr, nfmt⟩
    let o1 : VecOps := ⟨vd, va, 0, 0, sr, nfmt⟩
    let o3 : VecOps := ⟨vd, va, vb, vc, sr, nfmt⟩
    let a := ls.getD 0 []
    let b := ls.getD 1 []
    let d := ls.getD 2 []
    let writes (l : List Word) := vDest k' vd.toNat sr nfmt l = .done k2
    let two (i : Instr) (vop : Nat) (f : Word → Word → Word) :=
      Fetched s c (encVec vop vd va vb 0 sr nfmt) fullMask k → VectorReads k vop o2 k' ls →
      writes (List.zipWith f a b) → exec i s = goesOn s c k k2
    let one (i : Instr) (vop : Nat) (l : List Word) :=
      Fetched s c (encVec vop vd va 0 0 sr nfmt) fullMask k → VectorReads k vop o1 k' ls →
      writes l → exec i s = goesOn s c k k2
    let three (i : Instr) (vop : Nat) (f : Word → Word → Word → Word) :=
      Fetched s c (encVec vop vd va vb vc sr nfmt) fullMask k → VectorReads k vop o3 k' ls →
      writes (List.zipWith (fun x y => f x y.1 y.2) a (b.zip d)) → exec i s = goesOn s c k k2
    let bounded (i : Instr) (vop : Nat) (f : Nat → Word → Word) :=
      Fetched s c (encVec vop vd va 0 0 sr nfmt) fullMask k → VectorReads k vop o1 k' ls →
      writes (a.zipIdx.map (fun (p : Word × Nat) => f (s.free + p.2) p.1)) →
      exec i s = goesOn { s with free := s.free + 1024 } c k k2
    two (.vadd c vd va vb sr nfmt) 0 add32 ∧ two (.vsub c vd va vb sr nfmt) 1 sub32 ∧
    two (.vmul c vd va vb sr nfmt) 2 mul32 ∧ three (.vfma c vd va vb vc sr nfmt) 3 fma32 ∧
    two (.vmin c vd va vb sr nfmt) 4 min32 ∧ two (.vmax c vd va vb sr nfmt) 5 max32 ∧
    two (.vcmplt c vd va vb sr nfmt) 6 lt32 ∧ two (.vcmple c vd va vb sr nfmt) 7 le32 ∧
    two (.vcmpeq c vd va vb sr nfmt) 8 eq32 ∧ three (.vsel c vd va vb vc sr nfmt) 9 sel32 ∧
    one (.vabs c vd va sr nfmt) 10 (a.map abs32) ∧ one (.vneg c vd va sr nfmt) 11 (a.map neg32) ∧
    bounded (.vrecip c vd va sr nfmt) 12 recip32 ∧ bounded (.vrsqrt c vd va sr nfmt) 13 rsqrt32 ∧
    bounded (.vexp2 c vd va sr nfmt) 14 exp2w ∧ bounded (.vlog2 c vd va sr nfmt) 15 log2w ∧
    one (.vrsum c vd va sr nfmt) 16 (byRow (rowSum 5) a) ∧ one (.vrmax c vd va sr nfmt) 17 (byRow rowMax a) ∧
    (Fetched s c (encVec 18 vd va 0 0 0 false) 0xFFFFFF83#32 k → VectorReads k 18 ⟨vd, va, 0, 0, 0, false⟩ k' ls →
      vDest k' vd.toNat 0 false ((transpose32 a).map canon32) = .done k2 → exec (.vtrans c vd va) s = goesOn s c k k2) ∧
    one (.vmov c vd va sr nfmt) 19 (a.map canon32) ∧
    (Fetched s c (encVec 20 vd 0 0 0 sr nfmt) fullMask k → VectorReads k 20 ⟨vd, 0, 0, 0, sr, nfmt⟩ k' ls →
      writes ((List.range 1024).map (fun n => natWord (n / 32))) → exec (.viotr c vd sr nfmt) s = goesOn s c k k2) ∧
    (Fetched s c (encVec 21 vd 0 0 0 sr nfmt) fullMask k → VectorReads k 21 ⟨vd, 0, 0, 0, sr, nfmt⟩ k' ls →
      writes ((List.range 1024).map (fun n => natWord (n % 32))) → exec (.viotc c vd sr nfmt) s = goesOn s c k k2)

/-- R197, R198: where a vector result goes: an accumulator takes the words; a tile register takes them rounded to BF16 or
FP16 as `NFMT` says, with `NULL` 0 and a tag of zeros; a core store address that is not a multiple of 4, or leaves core
store, raises cause 0x03.
The model's choices in it: log entry 12. -/
def Obligations.VectorDestinations : Prop :=
  ∀ (k : Core) (code : Nat) (sr : BitVec 4) (nfmt : Bool) (l : List Word),
    let a := (k.s sr.toNat).toNat
    let fmt := if nfmt then 2 else 1
    (code < 4 → l.length = 1024 → ∃ k', vDest k code sr nfmt l = .done k' ∧ k'.accWords code = l ∧ k'.tiles = k.tiles ∧
      k'.store = k.store ∧ k'.regs = k.regs ∧ ∀ n, n ≠ code → k'.accWords n = k.accWords n) ∧
    (4 ≤ code → code < 12 → ∃ img, vDest k code sr nfmt l = .done (k.setTile (code - 4) ⟨img, 0, fmt, false⟩)) ∧
    (12 ≤ code → (a % 4 ≠ 0 ∨ 0x18000 < a + 4096) → vDest k code sr nfmt l = .fault k 0x03 a)

/-- R199 to R201, R262, R279, R280, R283, R288, R159, R185: the queue instructions. A pop takes the frame in the queue's
oldest entry of core store, with its format, tag and `NULL`, counts the cycles that arrivals held it back, and waits while
there is none; a push writes its register's frame into the next free entry, and waits while there is none; tuples likewise,
in order, except that a full advisory channel loses its oldest instead; one of another length raises cause 0x0A and leaves
the registers; a run of registers past s15 raises cause 0x01. `TPOP`, `TPUSH`, `WSEND`, `WRECV`, `DROPR` and `TSTAT` run to
their end wherever the beat, tuple, room or register they need is there. R284, R285, R299: `DROPR` on a tile queue whose last beat popped was not its packet's last discards the held beats up
to and with the packet's last, and counts them, all of them where the last is not held, and then what arrives; where
nothing is open it does nothing; on an inbox it releases the head packet; a number past the inboxes raises cause 0x01.
The model's choices in it: log entries 13, 23, 61, 161, 162 and 208. -/
def Obligations.QueueInstructionResults : Prop :=
  (∀ (s : State) (c : Nat) (q t : BitVec 3) (reg : BitVec 4) (n : BitVec 2) (k : Core),
     let x := k.inq q.toNat
     let y := k.outq q.toNat
     let r := k.tile t.toNat
     let u := k.outw q.toNat
     let v := k.inw q.toNat
     let dIn := (s.cluster (clusterOf c)).inTile (coreIdx c) q.toNat
     let dOut := s.outDesc c q.toNat
     let dW := s.outWDesc c q.toNat
     let pops := Fetched s c (encQue 0 q.toNat t.toNat 0) queMask k
     let pushes := Fetched s c (encQue 1 q.toNat t.toNat 0) queMask k
     let sends := Fetched s c (encQue 2 q.toNat reg.toNat n.toNat) fullMask k
     let receives := Fetched s c (encQue 3 q.toNat reg.toNat n.toNat) fullMask k
     let tuple := (List.range (n.toNat + 1)).map (fun j => k.s (reg.toNat + j))
     let sent (l : List (List Word)) : Core := { k with outW := k.outW.put q.toNat { u with buf := l ++ [tuple] } }
     (pops → x.n = 0 → exec (.tpop c q t) s = waits s.draw.2 c k (.tpop c q t)) ∧
     (∀ k1 l, pops → 0 < x.n → descValid dIn = true → k.tileBusy t.toNat = false →
       k.readEntry (descBase dIn + x.rd * descEntry dIn) = (k1, .ok l) → exec (.tpop c q t) s =
       let b := frameBeat l
       let x1 : InQ := { x with rd := (x.rd + 1) % inDepth dIn, n := x.n - 1, lastPop := some b.last, atEnd := x.atEnd + 1 }
       let k2 : Core := { k1 with inQ := k1.inQ.put q.toNat x1 }
       goesOn s.draw.2 c k ((k2.bumpCount 0x48 (s.bankWait c q.toNat)).setTile t.toNat
         ⟨Sparse.ofList 0 b.img, b.tag, b.fmt, b.null⟩)) ∧
     (pushes → outEntries dOut ≤ y.n → exec (.tpush c q t) s = waits s c k (.tpush c q t)) ∧
     (pushes → y.n < outEntries dOut → k.storeErr = [] →
       let a := descBase dOut + (y.rd + y.n) % outEntries dOut * descEntry dOut
       let bytes := frameBytes 0 0 (if r.null then ⟨r.fmt, true, false, 0, []⟩
         else ⟨r.fmt, false, false, r.tag, Sparse.dense r.img 0 (fmtSize r.fmt)⟩)
       ∃ k', exec (.tpush c q t) s = goesOn s c k k' ∧
         k'.outq q.toNat = { y with n := y.n + 1, pushN := y.pushN + 1 } ∧
         (∀ j, j < bytes.length → Sparse.rd k'.store (a + j) = bytes.getD j 0) ∧
         (∀ z, (z < a ∨ a + bytes.length ≤ z) → Sparse.rd k'.store z = Sparse.rd k.store z) ∧
         k'.regs = k.regs ∧ k'.tiles = k.tiles ∧ k'.cnt = k.cnt) ∧
     (sends → reg.toNat + n.toNat ≤ 15 → outEntries dW ≤ u.buf.length → descAdvisory dW = false →
       exec (.wsend c q reg n) s = waits s c k (.wsend c q reg n)) ∧
     (sends → reg.toNat + n.toNat ≤ 15 → u.buf.length < outEntries dW →
       exec (.wsend c q reg n) s = goesOn s c k (sent u.buf)) ∧
     (sends → reg.toNat + n.toNat ≤ 15 → outEntries dW ≤ u.buf.length → descAdvisory dW = true → 0 < outEntries dW →
       exec (.wsend c q reg n) s =
         goesOn (s.modCluster (clusterOf c) (fun z => z.bump 0x80088 1)) c k (sent (u.buf.drop 1))) ∧
     (sends → 15 < reg.toNat + n.toNat →
       exec (.wsend c q reg n) s = faults s c k 0x01 (Sparse.rd k.pmem k.pc).toNat) ∧
     (receives → reg.toNat + n.toNat ≤ 15 → v.buf = [] → exec (.wrecv c q reg n) s = waits s c k (.wrecv c q reg n)) ∧
     (∀ w rest, receives → reg.toNat + n.toNat ≤ 15 → v.buf = w :: rest →
       let pend := if s.inWAdvisory c q.toNat then v.pend else v.pend + 1
       let v1 : InW := { v with buf := rest, pend := pend }
       let k1 : Core := { k with inW := k.inW.put q.toNat v1 }
       exec (.wrecv c q reg n) s =
         if w.length = n.toNat + 1 then goesOn s c k (k1.setRegs reg.toNat w) else faults s c k1 0x0A w.length) ∧
     (Fetched s c (encQue 5 t.toNat reg.toNat 0) queMask k → exec (.tstat c t reg) s =
       goesOn s c k (k.setS reg.toNat
         (BitVec.ofNat 32 (r.fmt % 16 + (if r.null then 16 else 0) + 32 * (tagSource r.tag))))) ∧
     -- where each of the five runs to its end (R184, R199, R201)
     (pops → 0 < x.n → descValid dIn = true → k.tileBusy t.toNat = false → k.storeErr = [] →
       Completes (exec (.tpop c q t) s) c k (fun k' => (k'.inq q.toNat).n = x.n - 1)) ∧
     (pushes → y.n < outEntries dOut → k.storeErr = [] →
       Completes (exec (.tpush c q t) s) c k (fun k' => (k'.outq q.toNat).n = y.n + 1)) ∧
     (sends → reg.toNat + n.toNat ≤ 15 → u.buf.length < outEntries dW →
       Completes (exec (.wsend c q reg n) s) c k (fun k' => (k'.outw q.toNat).buf = u.buf ++ [tuple])) ∧
     (receives → reg.toNat + n.toNat ≤ 15 → v.buf ≠ [] → (v.buf.headD []).length = n.toNat + 1 →
       Completes (exec (.wrecv c q reg n) s) c k (fun k' => (k'.inw q.toNat).buf = v.buf.tail)) ∧
     (Fetched s c (encQue 5 t.toNat reg.toNat 0) queMask k →
       Completes (exec (.tstat c t reg) s) c k (fun k' => k'.tiles = k.tiles))) ∧
  (∀ (s : State) (c : Nat) (q : BitVec 4) (k : Core),
     let x := k.inq q.toNat
     let d := (s.cluster (clusterOf c)).inTile (coreIdx c) q.toNat
     -- `LAST` of held beat `j`
     let last (j : Nat) := headLast (frameHead (Sparse.dense k.store (descBase d + (x.rd + j) % inDepth d * descEntry d) 16))
     let discards (m : Nat) (f : Core → Prop) := ∃ k', exec (.dropr c q) s =
         goesOn (s.modCluster (clusterOf c) (fun y => y.bump 0x80078 m)) c k k' ∧ f k' ∧
       (k'.inq q.toNat).n = x.n - m ∧ (k'.inq q.toNat).rd = (x.rd + m) % inDepth d ∧ (k'.inq q.toNat).atEnd = x.atEnd + m ∧
       k'.regs = k.regs ∧ k'.tiles = k.tiles ∧ k'.store = k.store
     Fetched s c (encQue 4 q.toNat 0 0) fullMask k →
     (∀ m, q.toNat < 8 → x.lastPop = some false → x.rd < inDepth d → m < x.n → last m = true → (∀ j, j < m → last j = false) →
       discards (m + 1) (fun k' => (k'.inq q.toNat).dropping = false ∧ (k'.inq q.toNat).lastPop = some true)) ∧
     (q.toNat < 8 → x.lastPop = some false → x.rd < inDepth d → (∀ j, j < x.n → last j = false) →
       discards x.n (fun k' => (k'.inq q.toNat).dropping = true)) ∧
     (q.toNat < 8 → x.lastPop ≠ some false → exec (.dropr c q) s =
         goesOn (s.modCluster (clusterOf c) (fun y => y.bump 0x80078 0)) c k k) ∧
     (8 ≤ q.toNat → q.toNat < 12 → exec (.dropr c q) s =
         goesOn s c k (k.inboxRelease ((s.cluster (clusterOf c)).inboxDesc (coreIdx c) (q.toNat - 8)) (q.toNat - 8))) ∧
     (12 ≤ q.toNat → exec (.dropr c q) s = faults s c k 0x01 (Sparse.rd k.pmem k.pc).toNat) ∧
     (q.toNat < 12 → k.storeErr = [] → Completes (exec (.dropr c q) s) c k (fun k' => k'.regs = k.regs ∧ k'.tiles = k.tiles)))

/-- R202 to R205, R399, R206: the message instructions start their operations: the transfers with their parts as request
packets or cache hits, a load and an atomic with the core waiting for the response, an acquire with its lines gone; a
fence goes on once no write is open, and waits until then; a load of a line that a write of the core still on its way to the controller touches does not issue yet; a configuration read takes the word at its offset.
The model's choices in it: log entries 5, 13, 14, 29 and 160. -/
def Obligations.MessageInstructionResults : Prop :=
  ∀ (s : State) (c : Nat) (ra rb rc cn : BitVec 4) (cnt all : Bool) (op : BitVec 3) (off : BitVec 12) (k : Core),
    let ga := (k.pair ra.toNat).toNat
    let so := (k.s rb.toNat).toNat
    let len := (k.s rc.toNat).toNat
    let idle := k.outstanding < 16
    let next := k.ops.fresh
    (Fetched s c (encMsg 0 ra rb rc cn (b2n cnt)) 0xFFFFFF01#32 k → ra.toNat % 2 = 0 → msgBad ga so len = none → idle →
      k.acq = none → (cutParts 34 ga len).any (fun r => s.writeWaits c r.1 r.2) = false → let p := readParts c k (cutParts 34 ga len) [] s
      exec (.get c ra rb rc cn cnt) s =
        goesOn p.1 c k (k.startOp ⟨.get, ga, so, len, rc.toNat, cn.toNat, cnt, p.2, false⟩)) ∧
    (∀ k' d, Fetched s c (encMsg 1 ra rb rc cn (b2n cnt)) 0xFFFFFF01#32 k → ra.toNat % 2 = 0 → msgBad ga so len = none →
      idle → k.load so len = (k', .ok d) → let p := writeParts c k' d ga (cutParts 34 ga len) [] s
      exec (.put c ra rb rc cn cnt) s =
        goesOn p.1 c k (k'.addOp ⟨.put, ga, so, len, rc.toNat, cn.toNat, cnt, p.2, false⟩)) ∧
    (Fetched s c (encMsg 2 ra 0 rc 0 0) 0xFFF0F000#32 k → ra.toNat % 2 = 0 → ga % 4 = 0 → k.acq = none →
      s.writeWaits c ga 4 = false →
      let p := readPart c [] ga 4 s k
      let o : MsgOp := ⟨.ldg, ga, 0, 4, rc.toNat, 0, false, [p.2], false⟩
      exec (.ldg c ra rc) s = goesOn p.1 c k
        (if p.2.done then k.complete o else { k.addOp o with waitOp := some next })) ∧
    (Fetched s c (encMsg 2 ra 0 rc 0 0) 0xFFF0F000#32 k → ra.toNat % 2 = 0 → ga % 4 = 0 → k.acq = none →
      s.writeWaits c ga 4 = true → exec (.ldg c ra rc) s = .next s) ∧
    (Fetched s c (encMsg 3 ra rb 0 cn (b2n cnt)) 0xFFFF0F01#32 k → ra.toNat % 2 = 0 → ga % 4 = 0 → idle →
      let p := writeParts c k (leBytes 4 (k.s rb.toNat).toNat) ga [(ga, 4)] [] s
      exec (.stg c ra rb cn cnt) s = goesOn p.1 c k (k.addOp ⟨.stg, ga, 0, 4, 0, cn.toNat, cnt, p.2, false⟩)) ∧
    (Fetched s c (encMsg 4 ra rb rc 0 op.toNat) 0xFFFFF007#32 k → ra.toNat % 2 = 0 → ga % 4 = 0 → k.acq = none →
      ∃ p t, exec (.amo c ra rb rc op) s = goesOn (s.addPacket p) c k
          { k.addOp ⟨.amo, ga, 0, 4, rc.toNat, 0, false, [⟨t, ga, 4, false, []⟩], false⟩ with waitOp := some next } ∧
        p.typ = 2 ∧ p.amoOp = op.toNat ∧ p.addr = ga ∧ p.auxA = (k.s rb.toNat).toNat ∧ p.auxB = (k.s rc.toNat).toNat) ∧
    (Fetched s c (encMsg 5 ra rb 0 0 (b2n all)) 0xFFFF0001#32 k → (all = true ∨ ra.toNat % 2 = 0) → k.acq = none →
      let cov := s.acqCovers ⟨all, ga, so⟩
      exec (.acq c ra rb all) s =
        goesOn (s.modCluster (clusterOf c) (fun x => (x.invalidate cov).suppress cov)) c k
          { k with acq := some ⟨all, ga, so⟩ }) ∧
    (Fetched s c (encMsg 6 0 0 0 0 0) 0xFF000000#32 k → exec (.fence c) s =
      if k.ops.any (fun (p : Nat × MsgOp) => p.2.kind = .put || p.2.kind = .stg) then waits s c k (.fence c)
      else goesOn s c k k) ∧
    (Fetched s c (encCfg rc off) fullMask k → exec (.cfgrd c rc off) s =
      if off.toNat % 4 = 0 ∧ (off.toNat ≤ 0x2FF ∨ (0x400 ≤ off.toNat ∧ off.toNat ≤ 0x4FF)) then
        let k' := k.setS rc.toNat (BitVec.ofNat 32 (k.cfgWord c (s.corePlace c) (s.cfgNow c) off.toNat))
        if off = 0x454 then goesOn s.draw.2 c k (if (s.cfgNow c).busy || k.fetching then k' else { k' with teBusy := none })
        else goesOn s c k k'
      else faults s c k 0x04 off.toNat) ∧
    (c < 258048 → (s.core c).acq.isSome = true → exec (.acquireComplete c) s =
      .next ((s.setCore c { s.core c with acq := none }).modCluster (clusterOf c) (fun x => x.bump 0xA1070 1)))

/-- R188, R160, R208: a scalar access out of range or misaligned raises cause 0x03 with the address, and a load of a word
with an uncorrectable error cause 0x10 with the word's address; nothing else of the core changes but the fault. R190, R191, R208: the faults of tile loads and stores: a format that no tile has, or that is not the register's, raises
cause 0x02 with both formats as detail, and an image past core store cause 0x03 with its address; neither touches
anything. R203, R205, R208: what a transfer that the core refuses raises, before anything is sent: an odd register pair cause
0x01, a misaligned global address or a core store range that is misaligned or out of bounds cause 0x03. R161: a single-bit error of the word fetched is corrected and counted, and an uncorrectable one raises cause 0x20 with
the program counter as detail instead of running the instruction: shown for `ADD`.
The model's choices in it: log entries 12, 14 and 209. -/
def Obligations.AccessFaults : Prop :=
  (∀ (s : State) (c : Nat) (rd ra : BitVec 4) (off : BitVec 18) (k : Core),
     let a := (k.s ra.toNat + off.signExtend 32).toNat
     let runs (op : Nat) := Fetched s c (encSmem op rd ra off) fullMask k
     (runs 0 → (0x17FFF < a ∨ a % 4 ≠ 0) → exec (.lw c rd ra off) s = faults s c k 0x03 a) ∧
     (runs 1 → (0x17FFF < a ∨ a % 4 ≠ 0) → exec (.sw c rd ra off) s = faults s c k 0x03 a) ∧
     (runs 2 → 0x17FFF < a → exec (.lbu c rd ra off) s = faults s c k 0x03 a) ∧
     (runs 3 → 0x17FFF < a → exec (.sb c rd ra off) s = faults s c k 0x03 a) ∧
     (runs 0 → a ≤ 0x17FFF → a % 4 = 0 → k.storeErr.look (a / 8) = some true →
       exec (.lw c rd ra off) s = faults s c k 0x10 (8 * (a / 8)))) ∧
  (∀ (s : State) (c : Nat) (t : BitVec 3) (ra rb fmt : BitVec 4) (k : Core),
     let f := fmt.toNat
     let a := (k.s ra.toNat).toNat / 64 * 64 + (k.s rb.toNat).toNat * fmtSize f
     let x := k.tile t.toNat
     (Fetched s c (encTmem 0 t ra rb fmt 0) fullMask k → (f = 0 ∨ 10 ≤ f) →
       exec (.tld c t ra rb fmt) s = faults s c k 0x02 (17 * f)) ∧
     (Fetched s c (encTmem 0 t ra rb fmt 0) fullMask k → fmtTile f = true → 0x18000 < a + fmtSize f →
       exec (.tld c t ra rb fmt) s = faults s c k 0x03 a) ∧
     (Fetched s c (encTmem 1 t ra rb fmt 0) fullMask k → f ≠ x.fmt →
       exec (.tst c t ra rb fmt) s = faults s c k 0x02 (x.fmt * 16 + f)) ∧
     (Fetched s c (encTmem 1 t ra rb fmt 0) fullMask k → f = x.fmt → x.null = false → 0x18000 < a + fmtSize f →
       exec (.tst c t ra rb fmt) s = faults s c k 0x03 a)) ∧
  (∀ (s : State) (c : Nat) (ra rb rc cn : BitVec 4) (cnt : Bool) (k : Core),
     let ga := (k.pair ra.toNat).toNat
     let so := (k.s rb.toNat).toNat
     let len := (k.s rc.toNat).toNat
     let bad := so % 4 ≠ 0 ∨ len % 4 ≠ 0 ∨ len < 4 ∨ 65536 < len ∨ 0x18000 < so + len
     let gets := Fetched s c (encMsg 0 ra rb rc cn (b2n cnt)) 0xFFFFFF01#32 k
     let puts := Fetched s c (encMsg 1 ra rb rc cn (b2n cnt)) 0xFFFFFF01#32 k
     let word := (Sparse.rd k.pmem k.pc).toNat
     (gets → ra.toNat % 2 ≠ 0 → exec (.get c ra rb rc cn cnt) s = faults s c k 0x01 word) ∧
     (gets → ra.toNat % 2 = 0 → ga % 4 ≠ 0 → exec (.get c ra rb rc cn cnt) s = faults s c k 0x03 ga) ∧
     (gets → ra.toNat % 2 = 0 → ga % 4 = 0 → bad → exec (.get c ra rb rc cn cnt) s = faults s c k 0x03 so) ∧
     (puts → ra.toNat % 2 ≠ 0 → exec (.put c ra rb rc cn cnt) s = faults s c k 0x01 word) ∧
     (puts → ra.toNat % 2 = 0 → ga % 4 ≠ 0 → exec (.put c ra rb rc cn cnt) s = faults s c k 0x03 ga) ∧
     (puts → ra.toNat % 2 = 0 → ga % 4 = 0 → bad → exec (.put c ra rb rc cn cnt) s = faults s c k 0x03 so)) ∧
  (∀ (s : State) (c : Nat) (rd ra rb : BitVec 4),
     let k := s.core c
     c < 258048 → k.canIssue (encAlu 0 rd ra rb) fullMask = true →
     (k.pmemErr.look k.pc = some true → exec (.add c rd ra rb) s = faults s c k 0x20 k.pc) ∧
     (k.pmemErr.look k.pc = some false → exec (.add c rd ra rb) s =
       goesOn s c k ((k.bumpCount 0x58 1).setS rd.toNat (k.s ra.toNat + k.s rb.toNat))))

/-! ### Starts and bring-up (spec/15) -/

/-- R628, R629, R668, R575: the auxiliary input, a fall of it, a request of `MODULE_RESET` and the plane's recovery
begin a start: cold from the auxiliary input and from a request of 2; warm from a request of 1 and from the plane, where
there are training records. Either start leaves no core, stream or graph running and every region bank off; a cold one
resets the clocks and the power, but for the pin `SHED`, what is known of the auxiliary input and a wear store that waits for the flash, and ends the sessions, a warm one keeps the controller running and
shows `MODULE_STATE` 4 and `START_PHASE` 1. R632, R43, R634, R635, R742: booting and phases 1 and 2. Without the auxiliary input nothing boots; with it Tinder boots
`NEXT_BOOT_BANK` where it is valid and verifies, else the other bank, which counts in `FW_FALLBACKS`; region banks are switched on in order; rails out of their limits make the
region lost and its fields' `START_RESULT` 7; phase 2 names the primary supervisor, or stops the start where neither
middle region has supply.
The model's choices in it: log entries 5, 122, 125, 126, 127, 199, 220, 221, 235, 236 and 241. -/
def Obligations.StartsAndSupply : Prop :=
  (∀ (s : State) (a b seedTime : Bool),
     let wafer (t : State) := t.cores = [] ∧ t.clusters = [] ∧ t.parts = [] ∧ t.net = Net.reset ∧ t.fabric = 0 ∧
       ∀ r, (t.region r).powered = false
     let cold (aux due : Bool) (t : State) := wafer t ∧ t.msc.starting = some true ∧ t.clocks = Clocks.reset ∧
       t.power = { Power.reset with shed := s.power.shed, aux12 := aux, wearDue := due } ∧ t.hdp.sessions = []
     let warm (t : State) := wafer t ∧ t.msc.starting = some false ∧ t.msc.booted = true ∧
       t.num o0StartPhase = 1 ∧ t.num o0ModuleState = 4 ∧ t.num o0LastStart = 1
     Gives (exec (.auxInputApplied a b seedTime) s) (fun t => cold true false t ∧ t.wt = if seedTime then 0 else s.wt) ∧
     Gives (exec (.auxInputLow a b) s) (fun t => cold false false t ∧ t.wt = 0) ∧
     (s.msc.booted = true → ¬(s.power.shutdown = true ∧ s.coolantBad = true) →
       Gives (exec (.moduleResetCold a b) s) (fun t => cold s.power.aux12 (decide (s.num o8FlashInhibit = 1)) t ∧ t.msc.asked = [100])) ∧
     (s.msc.booted = true → s.power.shutdown = false → s.msc.starting ≠ some true → s.msc.trained = true →
       Gives (exec .moduleResetWarm s) (fun t => warm t ∧ t.msc.asked = [100] ∧ t.hdp.sessions = [])) ∧
     (s.msc.booted = true → s.power.shutdown = false → s.msc.planeHeld = true → s.msc.trained = true →
       Gives (exec .planeRecovered s) (fun t => warm t ∧ t.msc.planeHeld = false))) ∧
  (∀ (s : State) (a b : Bool) (r : Nat) (attempts : List (List Byte)) (lic : List Bool),
     let n := s.num o0NextBootBank % 2
     let sig (x : Nat) := if x = 0 then a else b
     let boots (x : Nat) (second : Bool) := Gives (exec (.bootRetry a b) s) (fun t => t.msc.booted = true ∧
       t.msc.image = (s.bank x).image ∧ t.msc.second = second ∧ t.num o0BootBank = x ∧ t.num o0StartPhase = 1 ∧
       (second = true → t.num o0FwFallbacks = (s.num o0FwFallbacks + 1) % 2 ^ 64))
     (s.msc.starting = some true → s.msc.booted = false → s.power.aux12 = false → exec (.bootRetry a b) s = .next s) ∧
     (s.msc.starting = some true → s.msc.booted = false → s.power.aux12 = true →
       (s.bootable n (sig n) = true → boots n false) ∧
       (s.bootable n (sig n) = false → s.bootable (1 - n) (sig (1 - n)) = true → boots (1 - n) true) ∧
       (s.bootable n (sig n) = false → s.bootable (1 - n) (sig (1 - n)) = false → exec (.bootRetry a b) s = .next s)) ∧
     (r < 12 → s.bankNext r = true → Gives (exec (.regionBankSwitchOn r) s) (fun t => (t.region r).powered = true ∧
       t.num (o8FuseState r) = 0 ∧ t.num (o8FuseCause r) = 0 ∧ ∀ q, q ≠ r → t.region q = s.region q)) ∧
     (r < 12 → s.inPhase 1 = true → (s.region r).powered = true →
       Gives (exec (.railCheck r false) s) (fun t => (t.region r).powered = false ∧ t.num (o1RegionState r) = 3 ∧
         ∀ f, f < 84 → f % 12 = r → t.num (o2FieldState f) = 3 ∧ t.num (o2StartResult f) = 7) ∧
       exec (.railCheck r true) s = .next s) ∧
     (s.banksDone = true → Gives (exec (.controlImageLoad attempts lic) s) (fun t =>
       ((s.region 5).powered = true → t.num o0WsPrimary = 0x29 ∧ t.num o0StartPhase = 3) ∧
       ((s.region 5).powered = false → (s.region 6).powered = true →
         t.num o0WsPrimary = 0x2A ∧ t.num o0StartPhase = 3) ∧
       ((s.region 5).powered = false → (s.region 6).powered = false →
         t.msc.starting = none ∧ t.num o0ModuleState = 3))))

/-- R636 to R643, R22, R28, R42, R566, R748: phases 3 to 6 of a field, a crossing and a channel. A field whose fuse block is
unreadable is quarantined with `START_RESULT` 2; one that sets its selectors without a void position starts with result 1,
and with a void one is quarantined with result 6; both sides of a crossing take, in a cold start, what its training reached,
and in a warm one what is recorded of it where the check passes; a channel is usable where it passed and none of its rows
needs a spare, and one that fails its field's start has result 4.
The model's choices in it: log entries 124, 130, 131, 194, 228 and 239. -/
def Obligations.FieldBringUp : Prop :=
  ∀ (s : State) (f edge idx ch : Nat) (fails : List TestFail) (hops : BitVec 4) (seen : Option (Bool × Nat))
    (r : CrossingResult) (d : ChannelResult),
    f < 84 →
    (s.testDue f = true → (s.field f).softFull = false →
      Gives (exec (.builtInTest f true fails) s) (fun t =>
        (t.field f).tested = true ∧ (t.field f).fuses.ok = true ∧ t.cores = s.cores ∧ t.dram = s.dram) ∧
      Gives (exec (.builtInTest f false fails) s) (fun t => (t.field f).tested = true ∧
        t.num (o2StartResult f) = 2 ∧ t.num (o2FieldState f) = 2 ∧ (t.field f).dm.built = true)) ∧
    (s.sparingDue f = true → s.num (o2StartResult f) = 0 → (s.setSelectors f hops.toNat).allSpared = false →
      Gives (exec (.sparingSelect f hops) s) (fun t => t.num o0StartPhase = 4 ∧ (t.field f).hops = hops.toNat ∧
        (if (s.field f).spare.void then t.num (o2StartResult f) = 6 ∧ t.num (o2FieldState f) = 2
         else t.num (o2StartResult f) = 1 ∧ t.num (o2FieldState f) = 1 ∧ (t.field f).dm = (s.field f).spare))) ∧
    (s.crossingDue (f, edge, idx) = true →
      let both (q : CrossingResult) := Gives (exec (.stitchTraining f edge idx seen r) s) (fun t =>
        t.num o0StartPhase = 5 ∧ t.stitchByte f edge idx = (trainedByte q).toNat ∧
        t.stitchByte (otherSide (f, edge, idx)).1 (otherSide (f, edge, idx)).2.1 idx = (trainedByte q).toNat)
      (s.msc.starting = some true → both (s.withFuses (f, edge, idx) r)) ∧
      (∀ q m, s.msc.starting = some false → s.keptCrossing (f, edge, idx) = some q → seen = some (false, m) →
        16 ≤ m → both q)) ∧
    (ch < 24 → s.dramDue f ch = true → Gives (exec (.dramTraining f ch d) s) (fun t =>
      (d.ok = false → (t.chan (f * 24 + ch)).chState = 3 ∧ t.num (o2StartResult f) = 4 ∧ t.num (o2FieldState f) = 2) ∧
      (d.ok = true → (s.field f).softRows ch = [] → (s.field f).fuses.rows.get [] ch = [] → d.rows = [] →
        (s.field f).dramBad.contains ch = false →
        (t.chan (f * 24 + ch)).chState = 2 ∧ (t.chan (f * 24 + ch)).spared = [])))

/-- R645 to R654: the firmware broadcast, as the management controller runs it. It begins in phase 7 with no round done; a
round counts and has every field owe its bitmap again, and sends its packets; once nothing is missing the install broadcast
is sent; a field whose bitmap does not come counts as missing all chunks; the controller's fallback takes the union over the
field's loaders; and a unicast writes its chunk, which is hashed, and counts, and the third that fails ends in
`START_RESULT` 5 once every bit still set in the field's loaders has had three.
The model's choices in it: log entries 128, 132, 181, 198 and 246. -/
def Obligations.BroadcastRounds : Prop :=
  ∀ (s : State) (image : List Byte) (b : Bcast) (f k chunk : Nat) (silent : List Nat),
    (s.broadcastDue = true → manifestOk image = true → image.length = manifestLen image + mfLength image →
      Gives (exec (.firmwareBroadcast image) s) (fun t => t.num o0StartPhase = 7 ∧
      t.num o0BcastRounds = 0 ∧ t.num o0BcastUnicasts = 0 ∧ t.msc.manifest = image.take (manifestLen image) ∧
      t.msc.firmware = image.drop (manifestLen image) ∧ t.msc.bcast.isSome = true)) ∧
    (s.msc.bcast = some b → s.roundDue b = true → Gives (exec .broadcastRound s) (fun t =>
      t.num o0BcastRounds = b.rounds + 1 ∧ ∃ b', t.msc.bcast = some b' ∧ b'.rounds = b.rounds + 1 ∧
        b'.missing = s.missingAfter b ∧ b'.maps = [] ∧ b'.sentEnd = true)) ∧
    (s.msc.bcast = some b → s.roundDue b = false → s.roundsOver b = true → s.allLoaded b = true → b.install = false →
      Gives (exec .broadcastRound s) (fun t => t.msc.bcast = some { b with install := true } ∧ t.num o0StartPhase = 8 ∧
        ∃ q, t.net.packets.look s.net.nextId = some q ∧ q.typ = 9 ∧ nfld q.auxA 12 4 = 3)) ∧
    (f < 84 → s.msc.bcast = some b → b.sentEnd = true → (s.bcastFields b).contains f = true → s.reported b f = false →
      exec (.roundBitmapTimeout f) s =
        .next { s with msc := { s.msc with bcast := some { b with maps := b.maps.put f (List.range 256) } } } ∧
      Gives (exec (.roundBitmapFallback f silent) s) (fun t => ∃ m, t.msc.bcast = some { b with maps := b.maps.put f m } ∧
        ∀ c, c < 256 → (c ∈ m ↔ ∃ k, k ∈ s.presentIn f ∧ (k ∈ silent ∨ c ∈ (s.cluster k).ldr.missing)))) ∧
    (k < 8064 → s.msc.bcast = some b → s.unicastDue b k chunk = true →
      let x := s.cluster k
      let m := x.ldr.manifest
      let data := sliceB s.msc.firmware (4096 * chunk) (mfChunkLen s.msc.manifest chunk)
      x.ldr.taken = true → x.cmemErr = [] → Sparse.wf x.cmem = true → m = s.msc.manifest →
      Gives (exec (.chunkUnicastCheck k chunk) s) (fun t =>
        t.num o0BcastUnicasts = (s.num o0BcastUnicasts + 1) % 2 ^ 64 ∧
        (sha256 data = mfHash m chunk → (t.cluster k).ldr.missing = x.ldr.missing.filter (· ≠ chunk)) ∧
        (sha256 data ≠ mfHash m chunk → b.tried k chunk = 2 →
          (∀ j c, j ∈ s.presentIn (fieldOf k) → c ∈ (s.cluster j).ldr.missing → c < mfChunks m →
            (j = k ∧ c = chunk) ∨ 3 ≤ b.tried j c) →
          t.num (o2StartResult (fieldOf k)) = 5 ∧ t.num (o2FieldState (fieldOf k)) = 2)))

/-- R630, R631, R667: with phase 7 over and the install broadcast sent the start completes: `START_PHASE` 9, the time it took in `START_MS`, every region
that took part without failing in service, and `MODULE_STATE` by how many regions are in service.
The model's choices in it: log entry 131. -/
def Obligations.StartCompletes : Prop :=
  ∀ (s : State) (ms : BitVec 32), s.completeDue = true →
    Gives (exec (.startComplete ms) s) (fun t =>
      t.num o0StartPhase = 9 ∧ t.num o0StartMs = ms.toNat ∧ t.msc.starting = none ∧ t.msc.startedAt = s.wt ∧
      (∀ r, r < 12 → s.num (o1RegionState r) = 0 → t.num (o1RegionState r) = 1) ∧
      (let up := (List.range 12).countP (fun r => decide (t.num (o1RegionState r) = 1))
       t.num o0ModuleState = if up = 12 then 1 else if up = 11 then 2 else 3) ∧
      t.cores = s.cores ∧ t.dram = s.dram ∧ t.fields = s.fields)

/-! ### The sequencer, faults, restarts and mordant of a core (spec/03, spec/04) -/

/-- R209, R210: raising a fault stops issue, leaves every register, counter, tile, accumulator and the core store as they
were, counts in `FAULTS_TOTAL`, sends the fault message with the station of the current firing, and logs the cause with the
program counter, unless the log holds a fault of the same or a higher class. -/
def Obligations.RaisingAFault : Prop :=
  ∀ (k : Core) (cause detail : Nat),
    let k' := k.raise cause detail
    let st := (k.station k.curStation 2).toNat
    k'.faulted = true ∧ k'.regs = k.regs ∧ k'.tiles = k.tiles ∧ k'.accs = k.accs ∧ k'.store = k.store ∧ k'.cnt = k.cnt ∧
      k'.pc = k.pc ∧ k'.sent = k.sent ++ [⟨.core cause, st⟩] ∧
      Sparse.rd k'.counts 0x290 = Sparse.rd k.counts 0x290 + 1 ∧
      (k.log.valid = false ∨ k.log.cls < causeClass cause →
        k'.log = ⟨true, causeClass cause, cause, k.curStation, k.pc, st, detail⟩) ∧
      (k.log.valid = true → causeClass cause ≤ k.log.cls →
        k'.log = k.log ∧ Sparse.rd k'.counts 0x298 = Sparse.rd k.counts 0x298 + 1)

/-- R173: the firing rule, applied while `RUN` is 1, `FAULTED` and `RESTARTING` are 0 and no firing runs, in a core that is
not held in reset. The slots are searched in cyclic order after the slot that fired last; a slot is eligible when it is valid
and every counter of its mask has reached its threshold. The first eligible slot fires: the thresholds of its mask are taken
from the counters, it becomes the current and the last station, its firings count, and execution begins at its program with
its account; nothing else of the core's registers and store changes. Where no slot is eligible, or the boundary of the core's
partition is not complete (R147), nothing fires. -/
def Obligations.FiringRule : Prop :=
  (∀ (k : Core),
     let slot (d : Nat) := (k.lastStation + 1 + d) % 8
     (∀ d, d < 8 → k.eligible (slot d) = true → (∀ e, e < d → k.eligible (slot e) = false) → k.choose = some (slot d)) ∧
     ((∀ j, j < 8 → k.eligible j = false) → k.choose = none) ∧
     (∀ j, k.eligible j = true ↔ nbit (k.station j 0).toNat 31 = true ∧
       ∀ n, n < 16 → nbit (k.station j 1).toNat n = true → (k.thr n).toNat ≤ (Sparse.rd k.cnt n).toNat) ∧
     (k.mayFire = true ↔ k.run = true ∧ k.faulted = false ∧ k.restarting = false ∧ k.firing = false ∧
       k.inReset = false)) ∧
  ∀ (s : State) (c : Nat),
    let k := s.core c
    c < 258048 →
    ((k.mayFire = false ∨ k.choose = none ∨ s.betweenPeriods c = true) → exec (.firingStart c) s = .next s) ∧
    ∀ j, k.mayFire = true → k.choose = some j → s.betweenPeriods c = false →
      let w0 := (k.station j 0).toNat
      ∃ k', exec (.firingStart c) s = .next (s.setCore c k') ∧
        k'.firing = true ∧ k'.curStation = j ∧ k'.lastStation = j ∧ k'.pc = nfld w0 0 11 ∧ k'.acct = nfld w0 29 2 ∧
        k'.station j 3 = k.station j 3 + 1 ∧ k'.regs = k.regs ∧ k'.tiles = k.tiles ∧ k'.accs = k.accs ∧
        k'.store = k.store ∧ ∀ n, n < 16 → Sparse.rd k'.cnt n =
          if nbit (k.station j 1).toNat n then Sparse.rd k.cnt n - k.thr n else Sparse.rd k.cnt n

/-- R175, R177, R123: a firing ends and overruns. It ends once `END` was issued and every operation is complete, with the
credits of its pops due and its retained tiles released; and one that takes more than `LIMIT` * 256 cycles raises cause
0x06.
The model's choices in it: log entry 17. -/
def Obligations.FiringsEndAndOverrun : Prop :=
  ∀ (s : State) (c cycles : Nat),
    let k := s.core c
    c < 258048 →
    (k.ended = true → k.firing = true → k.faulted = false → k.drained = true →
      ∃ k', exec (.endComplete c) s = .next (s.setCore c k') ∧ k'.firing = false ∧ k'.ended = false ∧
        Sparse.rd k'.counts 0x20 = Sparse.rd k.counts 0x20 + 1 ∧
        (∀ q x, k.inQ.look q = some x → (k'.inq q).pend = x.pend + x.atEnd ∧ (k'.inq q).atEnd = 0) ∧
        (∀ r x, k.ring.look r = some x → x.held = 1 → (k'.ringAt r).held = 0) ∧
        k'.regs = k.regs ∧ k'.cnt = k.cnt ∧ k'.store = k.store) ∧
    (k.firing = true → k.faulted = false → fld (k.station k.curStation 0) 16 11 ≠ 0 →
      fld (k.station k.curStation 0) 16 11 * 256 < cycles → exec (.firingOverrun c cycles) s = faults s c k 0x06 cycles)

/-- R164, R170, R181, R152, R153, R211, R213, R18: the writes of a core's control registers. `RUN` from 0 to 1 loads the
counters and kindles a core in smoulder; reserved bits of `SEQ_CTRL` keep zero; `RETAIN_CTRL` changes only where the ring
fits below slot 48 and no slot is held, and a reserved field of it keeps its value; a 1 in `VALID` clears the fault log once
its record is posted and the core has acknowledged a restart, with no fault since; and a core that is absent takes no write. R183, R162: an instruction held at issue runs once its wait is over, and the cycles it waited count in `STALL_CYCLES`,
but for `CWAIT`; a core that waits for a response goes on once it has come.
The model's choices in it: log entries 5, 8 and 17. -/
def Obligations.SequencerAndHeldInstructions : Prop :=
  (∀ (s : State) (c : Nat) (v : Word),
     let k := s.core c
     let d := if 32 < fld v 21 6 then k.retainDepth else fld v 21 6
     let b := if 47 < fld v 11 6 then k.retainBase else fld v 11 6
     c < 258048 →
     (s.coreGone c = false → ∃ k', exec (.seqCtrlWrite c v) s = .next (s.setCore c k') ∧ k'.seqCtrl = v &&& 0x0000FF03#32 ∧
       (k.run = false → nbit v.toNat 0 = true → k'.cnt = k.cinit ∧
         (k.smoulder = true → k.kindle = 0 → k'.kindle = 1)) ∧
       (k.run = true ∨ nbit v.toNat 0 = false → k'.cnt = k.cnt ∧ k'.kindle = k.kindle) ∧
       k'.regs = k.regs ∧ k'.pc = k.pc ∧ k'.firing = k.firing) ∧
     (s.coreGone c = true → exec (.seqCtrlWrite c v) s = .next s ∧ exec (.retainCtrlWrite c v) s = .next s) ∧
     (s.coreGone c = false → exec (.retainCtrlWrite c v) s = .next (s.setCore c
       (if 48 < fld v 11 6 + fld v 21 6 ∨ 48 < b + d ∨ k.ring.any (fun p => p.2.held ≠ 0) = true then k
        else { k with retainCtrl := BitVec.ofNat 32 (d * 2 ^ 21 + b * 2 ^ 11) }))) ∧
     (k.logPosted = true → k.restarted = true → k.faulted = false → exec (.faultLogClear c v) s = .next (s.setCore c
       (if nbit v.toNat 31 then { k with log := { k.log with valid := false } } else k))) ∧
     ((k.logPosted && k.restarted && !k.faulted) = false → exec (.faultLogClear c v) s = .next s)) ∧
  (∀ (s : State) (c cycles : Nat) (cn : BitVec 4) (imm : BitVec 16),
     let k := s.core c
     c < 258048 → k.firing = true → k.faulted = false → k.restarting = false → k.inReset = false →
     (∀ i s' k', k.held = some i → rerun c i s { k with held := none } = (s', .done k') →
       exec (.issueStallRelease c cycles) s = .next (s'.setCore c
         (let k1 : Core := { k' with pc := (k.pc + 1) % 2048 }
          if countsStall i then k1.bumpCount 0x48 cycles else k1))) ∧
     (k.held = some (.cwait c cn imm) → imm.toNat ≤ (Sparse.rd k.cnt cn.toNat).toNat →
       exec (.issueStallRelease c cycles) s = .next (s.setCore c { k with held := none, pc := (k.pc + 1) % 2048 })) ∧
     (k.held = some (.cwait c cn imm) → (Sparse.rd k.cnt cn.toNat).toNat < imm.toNat →
       exec (.issueStallRelease c cycles) s = .next s) ∧
     (∀ n, k.held = none → k.waitOp = some n → k.ops.has n = false → exec (.issueStallRelease c cycles) s =
       .next (s.setCore c ({ k with waitOp := none }.bumpCount 0x48 cycles))))

/-- R212, R214, R215, R349, R453, R208, R178, R179, R162, R608: the field controller sends the period-restart command to a core of
a period that has ended; at the core it abandons the firing and its operations, loads the counters, frees the retained slots
and empties the outbound queues, and the core acknowledges with code 0x04, unless a core fault holds it; a parity error raises
cause 0x21; and a core that has been idle for its delay smoulders, its awake cycles counted, and gives its permit back, unless
a kindle event came during the delay. R142 to R146, R215, R349, R453: a mordant command goes to a core that has restarted, commit or discard as its period
ended; it is received, and once the core's engines are idle each scale slot is processed: a discard clears its statistics
and keeps its scale; a commit of a slot whose kind is 0 changes nothing, and of one that is frozen only clears its
statistics; the rekindle budgets start again, and the core acknowledges with 0x05 or 0x06.
The model's choices in it: log entries 15, 17, 28, 163, 167 and 206. -/
def Obligations.RestartsAndMordant : Prop :=
  (∀ (s : State) (c idle id : Nat) (unit : Long) (p : Packet) (q : Period),
     let k := s.core c
     let pt := s.coresPart c
     let fc : Requester := .fieldController (fieldOf (clusterOf c))
     c < 258048 →
     ((s.part pt).period = some q → q.ended ≠ .running → q.dropAt ≤ s.fabricIn (coreRegion c) → q.toldRestart.contains c = false →
       s.inPresent c = true → MaySend s fc →
       Sends (exec (.periodRestart (.send c)) s) s fc 4 (clusterOf c) ⟨0, coreIdx c⟩ [] (fun t => t.cores = s.cores ∧
         (t.part pt).period = some { q with toldRestart := q.toldRestart ++ [c] })) ∧
     (CtlArrives s id p 4 → p.dstCore = c →
       (k.ignoresRestart = false → Answers (exec (.periodRestart (.arrive id)) s) s p 8 0 [] (fun t =>
         let k' := t.core c
         k'.cnt = k.cinit ∧ k'.faulted = false ∧ k'.firing = false ∧ k'.held = none ∧ k'.ops = [] ∧ k'.rk = none ∧
           k'.acq = none ∧ k'.acks = k.acks ++ [0x04] ∧ (∀ r, (k'.ringAt r).held = 0) ∧ (∀ j, (k'.outq j).n = 0) ∧
           k'.regs = k.regs ∧ k'.store = k.store ∧ k'.log = k.log)) ∧
       (k.ignoresRestart = true → Answers (exec (.periodRestart (.arrive id)) s) s p 8 0 [] (fun t =>
         t.cores = s.cores))) ∧
     (k.ignoresRestart = true ↔ k.inReset = true ∨ (k.faulted = true ∧ k.log.valid = true ∧ k.log.cls = 2)) ∧
     (k.inReset = false → exec (.registerFileParityError c unit) s = faults s c k 0x21 unit.toNat) ∧
     (k.stayAwake = false → k.idleNow = true → k.idleDelay ≤ idle → Gives (exec (.smoulderEntry c idle) s) (fun t =>
       (t.core c).smoulder = true ∧ (t.core c).kindle = 0 ∧ (t.core c).regs = k.regs ∧ (t.core c).store = k.store ∧
       Sparse.rd (t.core c).counts 0x28 = k.awakeCycles (s.fabricIn (coreRegion c)) ∧
       (t.region (coreRegion c)).held.contains c = false ∧ t.dram = s.dram ∧ t.clusters = s.clusters)) ∧
     (k.stayAwake = true → exec (.smoulderEntry c idle) s = .next (s.setCore c { k with stayAwake := false }))) ∧
  (∀ (s : State) (c id : Nat) (b : Bool) (p : Packet) (q : Period),
     let k := s.core c
     let pt := s.coresPart c
     let fc : Requester := .fieldController (fieldOf (clusterOf c))
     let cmd (e : CtlStep Nat) : Instr := if b then .mordantCommit e else .mordantDiscard e
     c < 258048 →
     ((s.part pt).period = some q → q.ended ≠ .running → q.restarted.contains c = true → q.toldMordant.contains c = false →
       q.commits = b → s.inPresent c = true → MaySend s fc →
       Sends (exec (cmd (.send c)) s) s fc (if b then 5 else 6) (clusterOf c) ⟨0, coreIdx c⟩ [] (fun t => t.cores = s.cores ∧
         (t.part pt).period = some { q with toldMordant := q.toldMordant ++ [c] })) ∧
     (q.commits = true ↔ q.ended = .committed ∨ ∀ x, x ∈ q.causes → x = 1 ∨ x = 2) ∧
     (CtlArrives s id p (if b then 5 else 6) → p.dstCore = c → Answers (exec (cmd (.arrive id)) s) s p 8 0 [] (fun t =>
       (t.core c).mordant = some b ∧ (t.core c).scale = k.scale ∧ (t.core c).regs = k.regs)) ∧
     (k.inReset = false → k.mordant = some b → k.rk = none → k.smoulder = false →
       ∃ k', exec (.mordantSlotProcess c) s = .next (s.setCore c k') ∧ k'.mordant = none ∧ k'.rkUsed = [] ∧
         k'.acks = k.acks ++ [if b then 0x05 else 0x06] ∧ k'.regs = k.regs ∧ k'.store = k.store ∧
         (∀ j x, k.scale.look j = some x →
           let y := k'.slotAt j
           let cleared := { x with amax := 0, conversions := 0, satElements := 0 }
           (b = false → y = cleared) ∧ (b = true → fld x.ctrl 28 4 = 0 → y = x) ∧
           (b = true → fld x.ctrl 28 4 ≠ 0 → nbit x.ctrl.toNat 17 = true → y = cleared) ∧
           (b = true → fld x.ctrl 28 4 ≠ 0 → y.amax = 0 ∧ y.conversions = 0 ∧ y.satElements = 0) ∧
           (b = true → x.conversions = 0 → y.committed = x.committed))))

/-- R105, R126 to R132: a rekindle completes once its fetches are answered, in the cycle of its last operand data, at least 32, and
where a fetch fell back in the cycle of the last answer, or later where one timed out; where one was answered uncorrectable it
does not complete. By the rekindle path the retained values are multiplied, where a fetch brought them; where a fetch fell
back, the operands as they are, which counts.
The model's choices in it: log entries 5, 17, 27 and 204. -/
def Obligations.RekindleCompletes : Prop :=
  ∀ (s : State) (c cycle : Nat) (r : Rekindle),
    let k := s.core c
    let done : Core := { k with rk := none, teBusy := none }
    let fmt := (k.tile r.ta).fmt
    let issued := if fmtMul fmt == some true then 64 else 256
    let vals (t : Nat) (buf : Option (List Byte)) := match buf with
      | some l => tileVals 1 l
      | none => (k.tile t).vals
    c < 258048 → k.rk = some r → r.waitN = 0 →
    (r.uncorrectable = false → r.fellBack = true → (cycle = r.lastCycle ∨ (r.timedOut = true ∧ r.lastCycle ≤ cycle)) →
      exec (.rekindleMultiply c cycle) s = .next (s.setCore c
        (((done.bumpCount 0x488 1).bumpCount 0x490 cycle).mulInto r.acc (k.tile r.ta).vals (k.tile r.tb).vals r.ovw))) ∧
    (r.uncorrectable = false → r.fellBack = false → cycle = max 32 r.lastCycle →
      exec (.rekindleMultiply c cycle) s = .next (s.setCore c
        ((done.bumpCount 0x490 (cycle + 257 - issued)).mulInto r.acc (vals r.ta r.bufA) (vals r.tb r.bufB) r.ovw))) ∧
    ((r.uncorrectable = true ∨ (r.fellBack = false ∧ cycle ≠ max 32 r.lastCycle)) →
      exec (.rekindleMultiply c cycle) s = .next s)

/-- R648 to R651, R654, R656, R657: a loader takes the broadcast packet that stands whole in its router's buffer. The first
manifest part is taken whatever came before; a chunk whose bit is set and whose bytes match its hash clears its bit, and one that
does not match counts in the hash failures and leaves it set; a round end takes the round's number and reports the bitmap as
two tuples; the install of a whole, matching image records its digest and leaves the bring-up routes. With `RECEIVE` at 0
neither part nor chunk is taken; and `CHUNK_DONE` has a chunk whose bit is set hashed.
The model's choices in it: log entries 129, 132, 171 and 201. -/
def Obligations.LoaderCommands : Prop :=
  ∀ (s : State) (k idx : Nat) (p : Packet),
    let x := s.cluster k
    let m := x.ldr.manifest
    let fw := Sparse.dense x.cmem 0x100000 (mfLength m)
    let idx' := p.auxB
    let comes (kind : Nat) := k < 8064 ∧ s.bcFor k = some p ∧ nfld p.auxA 12 4 = kind
    (comes 0 → x.ldr.receive = true → p.auxB = 0 →
      Gives (exec (.manifestPart k) s) (fun t => (t.cluster k).ldr.parts = [(0, p.payload)])) ∧
    (comes 0 → x.ldr.receive = false → Gives (exec (.manifestPart k) s) (fun t => (t.cluster k).ldr = x.ldr)) ∧
    (comes 1 → x.ldr.receive = false → Gives (exec (.chunk k) s) (fun t => (t.cluster k).ldr = x.ldr ∧ (t.cluster k).cmem = x.cmem)) ∧
    (comes 1 → x.ldr.receive = true → x.ldr.taken = true → x.ldr.missing.contains idx' = true → x.cmemErr = [] →
      Sparse.wf x.cmem = true → p.payload.length = mfChunkLen m idx' →
      Gives (exec (.chunk k) s) (fun t =>
        let l := (t.cluster k).ldr
        l.chunksReceived = x.ldr.chunksReceived + 1 ∧
        (sha256 p.payload = mfHash m idx' → l.missing = x.ldr.missing.filter (· ≠ idx') ∧
          l.hashFails = x.ldr.hashFails) ∧
        (sha256 p.payload ≠ mfHash m idx' → l.missing = x.ldr.missing ∧ l.hashFails = x.ldr.hashFails + 1))) ∧
    (k < 8064 → x.inReset = false → x.ldr.taken = true → x.ldr.missing.contains idx = true →
      Gives (exec (.chunkDone k idx) s) (fun t =>
        (t.cluster k).ldr.chunksReceived = x.ldr.chunksReceived + 1)) ∧
    (comes 2 → Gives (exec (.roundEnd k) s) (fun t => (t.cluster k).ldr.round = ofLe p.payload % 256 ∧
      (x.ldr.reportEn = true →
        ((t.cluster (s.controllerAt (fieldOf k))).combine.get Combine.reset 7).arrived =
          ((s.cluster (s.controllerAt (fieldOf k))).combine.get Combine.reset 7).arrived ++
            [⟨false, bitmapWords x.ldr.bitmap 0, s.fabricOf (fieldOf k), 4⟩,
              ⟨true, bitmapWords x.ldr.bitmap 1, s.fabricOf (fieldOf k), 4⟩]))) ∧
    (comes 3 → x.ldr.taken = true → x.ldr.missing = [] → sha256 fw = mfImage m → Gives (exec (.install k) s) (fun t =>
      let y := t.cluster k
      y.ldr.fwDigest = sha256 fw ∧ y.ldr.installed = fw ∧ y.ldr.state = 4 ∧ y.slots = [] ∧ y.spCtrl = 0 ∧
      t.num o0ClusterFwVersion = mfVersion m))

/-! ### Firmware, licences, graphs, partitions and faults (spec/06, spec/15 to spec/17) -/

/-- R659 to R661, R702: a firmware update. Opening one of a length within the limits erases the bank that did not boot and shows
result 1; a block replaces the bytes at its offset; a commit of a whole update makes its bank valid and the next to boot
where the image verifies, and invalid with result 4 where not; an incomplete one answers result 3; length 0 abandons. R662 to R665: licences. A licence of the right form, verified, for this module and not yet stored is stored and
`FEATURES` and `STREAM_TIER` follow from all that are stored; a refused one leaves them and names its reason in
`LICENCE_RESULT`; a removal that withdraws nothing in use takes the licence out, unless the flash is inhibited, and one that
would withdraw something in use changes nothing.
The model's choices in it: log entries 5, 133, 134, 135 and 195. -/
def Obligations.FirmwareAndLicences : Prop :=
  (∀ (s : State) (len : BitVec 32) (data : List Byte) (u : Update) (sigOk : Bool),
     let b := 1 - s.num o0BootBank % 2
     let off := leAt data 0 8
     (0 < len.toNat → len.toNat ≤ 536870912 → s.msc.upd = none → s.inhibited = false →
       Gives (exec (.fwUpdateOpen len) s) (fun t => t.msc.upd = some ⟨b, len.toNat, []⟩ ∧
         (t.bank b).state = 3 ∧ t.num o0FwUpdateResult = 1 ∧ t.bank (1 - b) = s.bank (1 - b))) ∧
     (s.msc.upd = some u → Gives (exec (.fwUpdateOpen 0) s) (fun t => t.msc.upd = none ∧
       (t.bank u.bank).state = 2 ∧ t.num o0FwUpdateResult = 5)) ∧
     (s.msc.upd = some u → data.length = 16392 → off % 16384 = 0 → off < u.len →
       exec (.fwUpdateData data) s = .next { s with msc := { s.msc with
         upd := some { u with blocks := u.blocks.put off ((data.drop 8).take (u.len - off)) } } }) ∧
     (s.msc.upd = some u → u.whole = false → exec (.fwUpdateCommit 1 sigOk) s = .next (s.setNum o0FwUpdateResult 3)) ∧
     (s.msc.upd = some u → u.whole = true → Gives (exec (.fwUpdateCommit 1 sigOk) s) (fun t => t.msc.upd = none ∧
       (t.bank u.bank).image = u.image ∧ (t.bank u.bank).version = leAt u.image 8 4 ∧
       (s.verifies u.image u.len sigOk = true → (t.bank u.bank).state = 1 ∧ t.num o0FwUpdateResult = 2 ∧
         t.num o0NextBootBank = u.bank) ∧
       (s.verifies u.image u.len sigOk = false → (t.bank u.bank).state = 2 ∧ t.num o0FwUpdateResult = 4 ∧
         t.num o0NextBootBank = s.num o0NextBootBank)))) ∧
  (∀ (s : State) (d : List Byte) (sigOk : Bool) (id : BitVec 64),
     let stored := s.msc.licences
     let rest := stored.filter (fun x => x.id ≠ id.toNat)
     let l : Licence := ⟨d.take 64, true⟩
     d.length = 16288 →
     (licenceForm d = true → sigOk = true → sliceB d 0x10 32 = idDigest → s.inhibited = false →
       stored.any (fun x => x.id = leAt d 8 8) = false → stored.length < 16 →
       Gives (exec (.licenceInstall d sigOk) s) (fun t => t.msc.licences = stored ++ [l] ∧ t.num o7LicenceResult = 0 ∧
         t.num o7Features = featuresOf (stored ++ [l]) ∧ t.num o7StreamTier = tierOf (featuresOf (stored ++ [l])))) ∧
     (∀ reason, (licenceForm d = false ∧ reason = 1) ∨ (licenceForm d = true ∧ sigOk = false ∧ reason = 2) ∨
       (licenceForm d = true ∧ sigOk = true ∧ sliceB d 0x10 32 ≠ idDigest ∧ reason = 3) →
       exec (.licenceInstall d sigOk) s = .next (s.setNum o7LicenceResult reason)) ∧
     (stored.any (fun x => x.id = id.toNat) = true → s.withdraws (featuresOf rest) = false → s.inhibited = false →
       Gives (exec (.licenceRemove id) s) (fun t => t.msc.licences = rest ∧ t.num o7Features = featuresOf rest ∧
         t.num o7StreamTier = tierOf (featuresOf rest))) ∧
     (s.withdraws (featuresOf rest) = true ∨ s.inhibited = true → exec (.licenceRemove id) s = .next s))

/-- R241 to R244, R250, R256, R678, R35: graph loads. A load of a partition that holds no graph copies the package and shows
`GRAPH_STATE` 1; of one that holds a graph it records result 1; the loader then installs it, with result 0 and `GRAPH_STATE`
2, or leaves `GRAPH_STATE` 0 with the result of the first check that fails or 0x0D for a silent cluster. An install leaves the
partition idle, unless a cluster of it failed in service.
The model's choices in it: log entries 67, 69, 179, 180, 212 and 215. -/
def Obligations.GraphLoads : Prop :=
  ∀ (s : State) (p : Nat) (addr : BitVec 64) (silent : List Nat) (b : List Byte),
    p < 12 → s.isPart p = true →
    (gaSpace addr.toNat = 4 → nfld addr.toNat 56 4 = p → s.gaValid addr.toNat 1 = true →
      s.cutOff (s.partRegions p) = false →
      (s.num (o6GraphState p) = 0 → Gives (exec (.graphLoad p addr) s) (fun t =>
        t.num (o6GraphState p) = 1 ∧ (t.part p).copy = some (s.copyPackage addr.toNat).2 ∧ t.cores = s.cores)) ∧
      (s.num (o6GraphState p) ≠ 0 → Gives (exec (.graphLoad p addr) s) (fun t =>
        t.num (o6LoadResult p) = 1 ∧ t.num (o6GraphState p) = s.num (o6GraphState p) ∧ t.parts = s.parts))) ∧
    ((s.part p).copy = some b →
      (∀ d, s.checkLoad p b = .error d → Gives (exec (.graphLoadRun p silent) s) (fun t =>
        t.num (o6GraphState p) = 0 ∧ t.num (o6LoadResult p) = leAt d 0 1 ∧ t.blob (o6LoadDetail p) = d ∧
        (t.part p).copy = none ∧ t.cores = s.cores ∧ t.clusters = s.clusters)) ∧
      (∀ s1 g alts, s.checkLoad p b = .ok (s1, g, alts) →
        silent.find? (fun k => k < 8064 && s.partOfCluster k = p) = none →
        Gives (exec (.graphLoadRun p silent) s) (fun t => t.num (o6GraphState p) = 2 ∧
          t.num (o6GraphId p) = g.graphId ∧ t.num (o6LoadResult p) = 0 ∧
          t.num (o6PartitionState p) = (if s1.holdsFailed p then s1.num (o6PartitionState p) else 0) ∧
          (t.part p).pkg = some g ∧ (t.part p).copy = none ∧ t.cores = s1.cores ∧ t.clusters = s1.clusters)) ∧
      (∀ s1 g alts k, s.checkLoad p b = .ok (s1, g, alts) →
        silent.find? (fun k => k < 8064 && s.partOfCluster k = p) = some k →
        Gives (exec (.graphLoadRun p silent) s) (fun t => t.num (o6GraphState p) = 0 ∧
          t.num (o6LoadResult p) = 0x0D ∧ t.cores = s.cores ∧ t.clusters = s.clusters)))

/-- R44 to R48, R12, R252, R669 to R672, R678: the layout and the resets of partitions. A split of idle regions takes effect,
its reserved bits ignored; a reset or an unload that is allowed shows `PARTITION_STATE` 2 and waits, but a faulted partition
stays faulted; it runs at the period's boundary, and leaves the partition with its graph, or with none.
The model's choices in it: log entries 5, 76 and 78. -/
def Obligations.PartitionSplitsAndResets : Prop :=
  ∀ (s : State) (p : Nat) (v : BitVec 16),
    p < 12 →
    ((s.changedRegions v.toNat).any (fun r => s.regionUp r && s.cutOff [r]) = false →
      (∀ r, r ∈ s.changedRegions v.toNat → s.num (o6GraphState (s.partOfRegion r)) = 0 ∧ s.openOf r = 0 ∧
        s.openOf (r + 12) = 0) →
      Gives (exec (.partitionSplit v) s) (fun t => t.num o0PartitionSplit = v.toNat % 2048)) ∧
    (∀ r, r ∈ s.changedRegions v.toNat → s.num (o6GraphState (s.partOfRegion r)) = 2 →
      exec (.partitionSplit v) s = .next s) ∧
    (s.isPart p = true → s.num (o6GraphState p) ≠ 1 → s.num (o6PartitionState p) ≠ 3 → s.msc.starting = none →
      Gives (exec (.partitionResetKeep p) s) (fun t => t.num (o6PartitionState p) = 2 ∧
        (t.part p).reset? = some false ∧ p ∈ t.msc.asked) ∧
      Gives (exec (.partitionResetRemove p) s) (fun t => t.num (o6PartitionState p) = 2 ∧
        (t.part p).reset? = some true ∧ p ∈ t.msc.asked)) ∧
    (s.isPart p = true → s.openIn p = 0 → s.num (o6GraphState p) = 2 → Gives (exec (.graphUnload p 1) s) (fun t =>
      t.num (o6PartitionState p) = (if s.num (o6PartitionState p) = 3 then 3 else 2) ∧ (t.part p).reset? = some true)) ∧
    ((s.part p).boundary = true →
      ((s.part p).reset? = some true → Gives (exec (.partitionResetRun p) s) (fun t => (t.part p).reset? = none ∧
        (t.part p).pkg = none ∧ t.num (o6GraphState p) = 0 ∧ p ∉ t.msc.asked ∧ t.num (o6PartitionState p) ≠ 2)) ∧
      ((s.part p).reset? = some false → Gives (exec (.partitionResetRun p) s) (fun t => (t.part p).reset? = none ∧
        p ∉ t.msc.asked ∧ t.num (o6PartitionState p) ≠ 2)))

/-- R149, R674, R677, R30, R35, R668: a core found dead is marked, reset and counted in `DEAD_CORES`, whether found by a core fault that it reported, by
two uncorrectable reads of one word within an hour, or by an acknowledgement of a command it was sent that does not come; a router that fails makes its cluster's state 4; a cluster reset of a partition with no
graph resets its 32 cores; a core lost in the period takes its variant at the boundary.
The model's choices in it: log entries 20, 84, 85, 87, 88, 177, 178, 240 and 242. -/
def Obligations.DeadCoresAndResets : Prop :=
  ∀ (s : State) (c k p : Nat) (msg : Bool) (silent : List Nat),
    let x := s.core c
    let q := s.coresPart c
    (c < 258048 → s.mortal c = true →
      (x.faulted = true → x.log.valid = true → x.log.cls = 2 → x.logPosted = true → Gives (exec (.coreDead c) s) (fun t =>
        (t.core c).dead = true ∧ (t.core c).firing = false ∧ (t.core c).cnt = [] ∧
        t.num (o6DeadCores q) = (s.num (o6DeadCores q) + 1) % 2 ^ 64)) ∧
      (x.faulted = false → x.worn = true → Gives (exec (.coreDead c) s) (fun t =>
        (t.core c).dead = true ∧ t.num (o6DeadCores q) = (s.num (o6DeadCores q) + 1) % 2 ^ 64)) ∧
      ((s.part q).ended = true → (s.part q).told true c = true → (s.part q).acked true c = false → Gives (exec (.mordantAckTimeout c) s) (fun t =>
        (t.core c).dead = true ∧ t.num (o6DeadCores q) = (s.num (o6DeadCores q) + 1) % 2 ^ 64 ∧
        t.num (o6MordantDeadCores q) = (s.num (o6MordantDeadCores q) + 1) % 2 ^ 64)) ∧
      ((s.part q).ended = true → (s.part q).told false c = true → (s.part q).acked false c = false → Gives (exec (.restartAckTimeout c) s) (fun t =>
        (t.core c).dead = true ∧ t.num (o6DeadCores q) = (s.num (o6DeadCores q) + 1) % 2 ^ 64))) ∧
    (k < 8064 → s.fieldState (fieldOf k) = 1 → s.routerOk k = true →
      Gives (exec (.routerFailedInService k msg) s) (fun t => t.clusterState k = 4)) ∧
    (k < 8064 → s.num (o6GraphState (s.partOfCluster k)) = 0 → s.msc.starting = none →
      (s.part (s.partOfCluster k)).reset? = none → Gives (exec (.clusterReset k 1) s) (fun t =>
        (∀ j, j < 32 → (t.core (32 * k + j)).firing = false ∧ (t.core (32 * k + j)).cnt = [] ∧
          (t.core (32 * k + j)).store = []) ∧ (t.cluster k).cache = [] ∧ (t.cluster k).steer = [])) ∧
    (p < 12 → (s.part p).reset? = none → (s.part p).boundary = true → s.boundaryDone p = true →
      s.num (o6GraphState p) = 2 → (s.part p).lost = [c] → ∀ g v, (s.part p).pkg = some g →
      g.variant (clusterOf c) (coreIdx c) = some v → (s.part p).variants.has (clusterOf c) = false →
      g.variantBad v = false → silent.contains (clusterOf c) = false →
      Gives (exec (.alternateInstall p silent) s) (fun t => (t.part p).pkg = some (g.swap v) ∧ (t.part p).lost = [] ∧
        (t.part p).variants.look (clusterOf c) = some (coreIdx c)))

/-- R684 to R688: the supervisors and the fault records. The standby takes over where no heartbeat of the primary came and its
own field is in service, once, and the graph loads in progress end; a record that reaches the controller takes the next sequence number, and at most 256 are kept, the older ones lost and
counted.
The model's choices in it: log entries 7, 85, 197 and 243. -/
def Obligations.SupervisorAndRecords : Prop :=
  ∀ (s : State) (src : Nat) (r : FaultRec),
    let n := (s.num o0FaultSeq + 1) % 2 ^ 32
    exec .heartbeat s = .next { s with msc := { s.msc with heartbeat := true } } ∧
    (s.num o0WsPrimary = 0x29 → s.msc.failedOver = false → s.fieldState 42 = 1 → Gives (exec .heartbeatTimeout s) (fun t =>
      t.num o0WsPrimary = 0x2A ∧ t.num o0WsFailovers = (s.num o0WsFailovers + 1) % 2 ^ 64 ∧ t.msc.failedOver = true ∧
      ∀ p, p < 12 → s.num (o6GraphState p) = 1 → t.num (o6GraphState p) = 0 ∧ t.num (o6LoadResult p) = 0x0D ∧
        (t.blob (o6LoadDetail p)).headD 0 = 0x0D)) ∧
    (s.msc.posted.find? (fun e => e.1 = src) = some (src, r) → Gives (exec (.faultRecord src) s) (fun t =>
      t.msc.posted = s.msc.posted.erase (src, r) ∧ t.num o0FaultSeq = n ∧
      (s.msc.records.length < 256 → t.msc.records = s.msc.records ++ [{ r with seq := n }]) ∧
      (s.msc.records.length = 256 → t.msc.records = s.msc.records.tail ++ [{ r with seq := n }] ∧
        t.num o0FaultRecordsLost = (s.num o0FaultRecordsLost + 1) % 2 ^ 64)))

/-! ### Control requests, the message plane, homes and DRAM (spec/07 to spec/10) -/

/-- R14, R349, R356, R357, R277, R279, R393, R12: writes of configuration words. A word of a window is written by its register's
rule: `MP_TIMEOUT` keeps its 16 bits, `MP_CTRL` its defined bits, the slot table and the frame length change only while the
router does not run; a cache word empties the cache while every core of the cluster has stopped, and else changes nothing;
a block that is absent takes no write.
The model's choices in it: log entries 5, 8 and 65. -/
def Obligations.RegisterWrites : Prop :=
  ∀ (s : State) (k off : Nat) (v : BitVec 32),
    let x := s.cluster k
    let writes (o : Nat) := Gives (exec (.registerWrite k o v) s)
    k < 8064 →
    (off % 4 = 0 → off < 0x800000 → s.blockAbsent k off = false →
      exec (.registerWrite k off v) s = .next (s.writeCfgWord k off v.toNat)) ∧
    (s.blockAbsent k off = true → exec (.registerWrite k off v) s = .next s) ∧
    writes 0xA000C (fun t => (t.cluster k).mpTimeout = v.toNat % 65536 ∧ t.cores = s.cores ∧ t.dram = s.dram) ∧
    writes 0xA0004 (fun t => (t.cluster k).mpCtrl = v &&& 0x00FF000F#32 ∧ (t.cluster k).mpWindow = x.mpWindow) ∧
    (nbit x.spCtrl.toNat 0 = false → 64 ≤ v.toNat % 2 ^ 22 →
      writes 0x8000C (fun t => (t.cluster k).frameLen = v.toNat % 2 ^ 22)) ∧
    (nbit x.spCtrl.toNat 0 = true → exec (.registerWrite k 0x8000C v) s = .next s) ∧
    (s.coresStopped k = true → s.clusterState k ≠ 1 → v.toNat % 32 ≤ 16 → Gives (exec (.cacheConfigWrite k 0 v) s) (fun t =>
      (t.cluster k).cmemCtrl = BitVec.ofNat 32 (v.toNat % 32) ∧ (t.cluster k).cache = [] ∧ (t.cluster k).cmem = x.cmem)) ∧
    (s.coresStopped k = false ∨ s.clusterState k = 1 → exec (.cacheConfigWrite k 0 v) s = .next s)

/-- R349, R366 to R368, R345, R346: configuration reads and writes as control requests. A unit that may configure sends one of 4 to
256 bytes to the window that the address names; at its destination a read answers the bytes at the offset and a write writes
them, or where the block or core is absent the answer is absent; a control response closes its request, and one for no open
request counts as late.
The model's choices in it: log entries 63, 64 and 178. -/
def Obligations.ControlRequests : Prop :=
  ∀ (s : State) (h : Requester) (addr : BitVec 64) (len id : Nat) (data : List Byte) (p : Packet),
    let k := nfld addr.toNat 23 13
    let off := nfld p.addr 0 23
    let names (cmd n : Nat) (t : State) := ∃ q, t.net.packets.look s.net.nextId = some q ∧ q.auxA = cmd ∧
      q.addr = addr.toNat ∧ q.len = n
    let absent := Deliverable s id p ∧ p.typ = 7 ∧ s.ctlAbsent p = true
    (h.exists_ = true → mayConfigure h = true → MaySend s h →
      (4 ≤ len → len ≤ 256 → Sends (exec (.configurationRead (.send (h, addr, len))) s) s h 1 k ⟨3, 0⟩ []
        (fun t => names 1 len t ∧ t.cores = s.cores ∧ t.dram = s.dram)) ∧
      (4 ≤ data.length → data.length ≤ 256 →
        Sends (exec (.configurationWrite (.send (h, addr, data))) s) s h 2 k ⟨3, 0⟩ data
          (fun t => names 2 data.length t ∧ t.cores = s.cores ∧ t.dram = s.dram))) ∧
    (CtlArrives s id p 1 → Answers (exec (.configurationRead (.arrive id)) s) s p 8 0
      ((s.received id p).cfgBytes p.home off p.len) (fun t => t.dram = s.dram)) ∧
    (CtlArrives s id p 2 → exec (.configurationWrite (.arrive id)) s =
      .next (((s.received id p).writeCfg p.home off p.payload).respond p.home p 0 [] 0)) ∧
    (absent → p.auxA % 256 = 1 → Answers (exec (.configurationRead (.arrive id)) s) s p 8 1 []
      (fun t => t.cores = s.cores)) ∧
    (absent → p.auxA % 256 = 2 → Answers (exec (.configurationWrite (.arrive id)) s) s p 8 1 []
      (fun t => t.cores = s.cores)) ∧
    (Deliverable s id p → p.typ = 8 →
      (s.ctlOpen p.receiver p.txn = true → Gives (exec (.controlResponse id) s) (fun t =>
        t.ctlOpen p.receiver p.txn = false ∧ t.clusters = s.clusters ∧ t.cores = s.cores)) ∧
      (s.ctlOpen p.receiver p.txn = false → exec (.controlResponse id) s = .next ((s.received id p).late p.home)))

/-- R349, R435, R147, R169, R181, R250, R143, R212, R216, R209, R225, R452, R686: the messages of a period. A period start goes to a
core of a running period, with S as its payload; it counts as its event, and sets `RUN` of a core that hosts a station and has
not begun. A core sends its oldest acknowledgement, which its field controller notes in the period. A core or a router sends
its oldest fault; at the field controller a core's becomes `LAST_FAULT`, and each is a record on its way and a drop cause, but
for a core's that makes it dead, whose record is that of the death (R674, R689); that of a core in reset is discarded (R673).
The model's choices in it: log entries 7, 60, 176, 207, 240 and 244. -/
def Obligations.PeriodMessages : Prop :=
  ∀ (s : State) (c k id a : Nat) (ns : BitVec 32) (m : FaultMsg) (rest : List FaultMsg) (acks : List Nat) (p : Packet)
      (q : Period),
    let x := s.core c
    let pt := s.coresPart c
    let f := fieldOf (clusterOf c)
    let fromCore := p.src.kind = 0 ∧ p.srcCore = c
    let log := p.payload
    let r := (routerFault (leAt log 0 8)).record
    c < 258048 →
    ((s.part pt).period = some q → q.ended = .running → q.toldStart.contains c = false → s.inPresent c = true →
      MaySend s (.fieldController f) →
      Sends (exec (.periodStartCommand (.send c)) s) s (.fieldController f) 3 (clusterOf c) ⟨0, coreIdx c⟩
        (leBytes 8 q.start0) (fun t => (t.part pt).period = some { q with toldStart := q.toldStart ++ [c] })) ∧
    (CtlArrives s id p 3 → p.dstCore = c → x.smoulder = false → (∀ n, n < 16 → x.bound n 5 0 = false) →
      (x.begun = true → Answers (exec (.periodStartCommand (.arrive id)) s) s p 8 0 [] (fun t =>
        t.core c = { x with stayAwake := x.stayAwake || x.idleNow, between := false })) ∧
      (x.begun = false → s.placed c = true → Answers (exec (.periodStartCommand (.arrive id)) s) s p 8 0 [] (fun t =>
        (t.core c).run = true ∧ (t.core c).begun = true))) ∧
    (x.acks = a :: acks → MaySend s (.core c) →
      Sends (exec (.acknowledge (.send c) ns) s) s (.core c) 7 (s.controllerAt f) ⟨7, f % 32⟩ (leBytes 4 a)
        (fun t => (t.core c).acks = acks)) ∧
    (CtlArrives s id p 7 → p.srcCore = c → (s.part pt).period = some q →
      (ofLe p.payload = 4 → Answers (exec (.acknowledge (.arrive id) ns) s) s p 8 0 [] (fun t =>
        (t.core c).restarted = true ∧ ∃ q', (t.part pt).period = some q' ∧ c ∈ q'.restarted)) ∧
      (ofLe p.payload ≠ 4 → Answers (exec (.acknowledge (.arrive id) ns) s) s p 8 0 [] (fun t =>
        t.cores = s.cores ∧ ∃ q', (t.part pt).period = some q' ∧ c ∈ q'.mordants))) ∧
    (x.sent = m :: rest → MaySend s (.core c) →
      Sends (exec (.faultReport (.send (.core c))) s) s (.core c) 8 (s.controllerAt f) ⟨7, f % 32⟩ x.log.bytes
        (fun t => (t.core c).sent = rest)) ∧
    (k < 8064 → (s.cluster k).sent = m :: rest → MaySend s (.router k) →
      Sends (exec (.faultReport (.send (.router k))) s) s (.router k) 8 (s.controllerAt (fieldOf k))
        ⟨7, fieldOf k % 32⟩ (leBytes 8 m.kind.record.2.1 ++ leBytes 8 m.id) (fun t => (t.cluster k).sent = rest)) ∧
    (CtlArrives s id p 8 → fromCore → s.coreGone c = false → Answers (exec (.faultReport (.arrive id)) s) s p 8 0 [] (fun t =>
      (t.core c).logPosted = true ∧ t.blob (o3LastFault (clusterOf c)) = BitVec.ofNat 8 (coreIdx c) :: log ∧
      t.msc.posted = s.msc.posted ++ (if x.lethal log s.wt then [] else [(f, ⟨s.wt, 0, 3, 1, clusterOf c,
        causeClass (leAt log 2 1), leAt log 2 1, 1, pt, leAt log 8 8⟩)]))) ∧
    (CtlArrives s id p 8 → fromCore → s.coreGone c = true → Answers (exec (.faultReport (.arrive id)) s) s p 8 0 [] (fun t =>
      t.msc.posted = s.msc.posted ∧ t.dict = s.dict ∧ t.cores = s.cores)) ∧
    (CtlArrives s id p 8 → p.src.kind ≠ 0 → Answers (exec (.faultReport (.arrive id)) s) s p 8 0 [] (fun t =>
      let rp := s.partOfRegion (regionOfCluster p.origin)
      t.msc.posted = s.msc.posted ++ [(fieldOf p.origin, ⟨s.wt, 0, 3, r.2.2.1, p.origin, r.1, r.2.1, 1, rp,
        leAt log 8 8⟩)] ∧
      (t.part rp).onWay = (s.part rp).onWay ++ [r.2.2.2] ∧
      (leAt log 0 8 = 0x33 → t.num (o6LastSlotMiss rp) = leAt log 8 8)))

/-- R334, R339 to R342, R352 to R354, R363: the injection of packets. A request whose address is invalid is answered at its source;
one behind another to the same line is held; one that leaves the island is answered with unreachable, and a packet that needs no
answer is gone; else a cluster's packet stands with all its flits at its router's local input, a broadcast in the router's
broadcast buffer, and a port engine's packet at a working link of the engine. R316, R318, R331, R332, R335, R339, R356: the cycles of a node's outputs. An arbiter grants a flit that the output takes and
that none goes before in its order. A flit that alone stands before an output goes over the link, kept for a resend, into the
channel's buffer at the other end; one at its packet's destination goes to the node's local side, where a whole packet then
stands for its unit; a packet that cannot go on is counted, and a request among them answered with unreachable. A link that is
down carries nothing.
The model's choices in it: log entries 5, 35, 36, 172, 173, 174, 175 and 237. -/
def Obligations.PacketMovement : Prop :=
  (∀ (s : State) (id : Nat) (p : Packet),
     let a := s.aim p
     let x := s.cluster p.at_
     let waits := (p.addressed || p.configures) && s.hazard p
     let inside := x.islandX0 ≤ a.dstX ∧ a.dstX ≤ x.islandX1
     -- what stands at a node's local input, and behind it as far as that has no room, of a channel
     let localIn (u : State) (k vc : Nat) := (u.node k).buf 4 vc ++ (u.node k).feed.get [] vc
     let inj (P : State → Prop) := Gives (exec (.packetInject id) s) P
     s.net.packets.look id = some p → s.mayInject p = true →
     (s.absentHere p = true → inj (fun t => ∃ r, t.net.packets.look id = some r ∧ r.status = 1 ∧ r.landed = true ∧
       r.typ = (if p.typ = 7 then 8 else p.typ + 3) ∧ r.dst = p.src ∧ r.txn = p.txn)) ∧
     (s.absentHere p = false →
       (waits = true → exec (.packetInject id) s = .next (s.setPacket id { p with held := true })) ∧
       (waits = false → p.typ ≠ 9 → ¬ inside → inj (fun t =>
         (p.isRequest = false → t.net.packets.look id = none) ∧
         (p.isRequest = true → ∃ r, t.net.packets.look id = some r ∧ r.status = 5 ∧ r.landed = true ∧ r.dst = p.src ∧
           r.txn = p.txn))) ∧
       (waits = false → p.typ ≠ 9 → inside → p.src.kind ≠ 6 → inj (fun t => ∃ r, t.net.packets.look id = some r ∧
         r.injected = true ∧ r.at_ = p.at_ ∧ r.dst = a.dst ∧ r.dstX = a.dstX ∧ r.dstY = a.dstY ∧ r.payload = p.payload ∧
         r.txn = p.txn ∧ localIn t p.at_ r.vc = localIn s p.at_ r.vc ++ r.toFlits id r.vc ∧
         (portRouter p.at_ = false → p.at_ < 8064 → (t.node p.at_).feed.get [] r.vc = []))) ∧
       (waits = false → p.typ ≠ 9 → inside → p.src.kind = 6 → inj (fun t => ∃ r, t.net.packets.look id = some r ∧
         r.injected = true ∧ r.at_ = engineNode p.src.num ∧ s.linkUp (engineNode p.src.num) r.via = true ∧
         r.payload = p.payload ∧ localIn t r.at_ r.vc = localIn s r.at_ r.vc ++ r.toFlits id r.vc)) ∧
       (waits = false → p.typ = 9 → s.treeOuts p.at_ 4 ≠ [] → inj (fun t => ∃ r b,
         t.net.packets.look id = some r ∧ r.injected = true ∧ (t.node p.at_).bc = some b ∧ b.id = id ∧ b.got = p.flits ∧
         b.outs = (s.treeOuts p.at_ 4).map (fun q => (q, 0)))))) ∧
  (∀ (s : State) (k q k' q' port vc vc' : Nat) (f : Flit) (rest : List Flit) (pl : Option Plan) (p : Packet),
     let o := (s.node k).out q
     let hop := exec (.packetHop k q) s
     let single := (s.node k).buf port vc = f :: rest ∧ s.before k q = [(port, vc, vc')] ∧ s.wants k port vc = some (q, vc', pl) ∧
       (f.head = true → s.forwards k f.id = true) ∧ (port = 4 → (s.node k).feed.get [] vc = [])
     k < 8088 →
     (∀ c, s.arbiter k q = some c → c ∈ s.before k q ∧ s.goes k q c = true ∧ ∀ d, d ∈ s.before k q →
       s.goes k q d = true → rank o.last c.2.2 ≤ rank o.last d.2.2) ∧
     (q < 4 → s.linkUp k q = false → hop = .next s) ∧
     (q < 4 → s.linkUp k q = true → linkPeer k q = some (k', q') → k' ≠ k → o.resend = none → o.replay.length < 32 →
       s.bcNext k q = none → single → s.takes k q vc' f.head = true → vc' < 20 → o.seq < 256 →
       ((s.node k').in_ q').expect = o.seq → Gives hop (fun t => (t.node k).buf port vc = rest ∧
         ∃ g, (t.node k').buf q' vc' = (s.node k').buf q' vc' ++ [g] ∧ g.id = f.id ∧ g.vc = vc' ∧ g.head = f.head ∧
           g.tail = f.tail ∧ ((t.node k).out q).replay = o.replay ++ [g] ∧ ((t.node k).out q).seq = (o.seq + 1) % 256)) ∧
     (q = 4 → single → k < 8064 → pl = some .land → f.tail = true → s.net.packets.look f.id = some p → p.cut = false →
       Gives hop (fun t => t.net.packets.look f.id = some { p with landed := true } ∧ (t.node k).buf port vc = rest ∧
         Sparse.rd (t.cluster k).counts 0xA0028 = Sparse.rd (s.cluster k).counts 0xA0028 + 1)) ∧
     (q = 4 → single → pl = some .unreachable → s.net.packets.look f.id = some p → f.id < s.net.nextId →
       Gives hop (fun t =>
         Sparse.rd (t.cluster k).counts 0xA0030 = Sparse.rd (s.cluster k).counts 0xA0030 + 1 ∧
         (p.isRequest = true → p.cut = false → ∃ r, t.net.packets.look s.net.nextId = some r ∧ r.status = 5 ∧
           r.dst = p.src ∧ r.txn = p.txn))))

/-- R318 to R320, R341, R345, R360: links and waiting requests. A flit that fails its check is discarded, and counted where its `CRC`
failed; a link that has resent a flit 16 times, or waited 4,096 cycles for an acknowledgement, is down at both ends with its
reason. A held request goes on and its wait is counted; a request that is not answered in time is counted, a control request
then open no longer, and a core's counts as answered with unreachable, a rekindle fetch's multiply as fallen back.
The model's choices in it: log entries 5, 37, 40, 41 and 170. -/
def Obligations.LinksAndTimeouts : Prop :=
  ∀ (s : State) (k port k0 q0 id c waited txn key : Nat) (err : BitVec 303) (n : BitVec 64) (f : Flit × Nat) (u : Requester)
      (p : Packet) (o : MsgOp),
    let r := s.nextFlit k0 q0
    let i := (r.1.node k0).in_ q0
    let w := (linkWord (some f.1) f.2 i.expect i.nakDue i.freed.head?).hit err
    let x := (s.node k).out port
    let gone (t : State) (v : Requester) := let j := (s.senderOf v).1
      Sparse.rd (t.cluster j).counts 0xA0038 = Sparse.rd (s.cluster j).counts 0xA0038 + 1
    (k < 8088 → linkPeer k port = some (k0, q0) → linkPeer k0 q0 = some (k, port) → k0 ≠ k →
      (s.linkUp k0 q0 = true → r.2 = some f → r.1.fails k0 q0 k port f err = true →
        Gives (exec (.flitNak k port err) s) (fun t => ((t.node k).in_ port).bad = true ∧
          (k < 8064 → w.crcOk = false → Sparse.rd (t.cluster k).counts (0xA0120 + 64 * port) =
            Sparse.rd (r.1.cluster k).counts (0xA0120 + 64 * port) + 1 ∧ ((t.node k).in_ port).nakDue = true))) ∧
      (r.2 = some f → r.1.fails k0 q0 k port f err = false → exec (.flitNak k port err) s = .next s) ∧
      (s.linkUp k port = true → 16 ≤ x.tries → Gives (exec (.linkDown k port n) s) (fun t =>
        ((t.node k).out port).down = 1 ∧ ((t.node k0).out q0).down = 1)) ∧
      (s.linkUp k port = true → x.tries < 16 → x.replay ≠ [] → x.since + 4096 ≤ n.toNat →
        Gives (exec (.linkDown k port n) s) (fun t =>
          ((t.node k).out port).down = 2 ∧ ((t.node k0).out q0).down = 2)) ∧
      (x.tries < 16 → n.toNat < x.since + 4096 → exec (.linkDown k port n) s = .next s)) ∧
    (u.exists_ = true → s.net.packets.find? (fun e => e.2.held && e.2.requester = u && !s.hazard e.2) = some (id, p) →
      Gives (exec (.hazardRelease u waited) s) (fun t => t.cores = s.cores ∧
        t.net.packets.look id = some { p with held := false, order := s.net.nextId } ∧
        Sparse.rd (t.cluster p.origin).counts 0xA0058 =
          Sparse.rd (s.cluster p.origin).counts 0xA0058 + BitVec.ofNat 64 waited)) ∧
    (u.exists_ = true → s.wasSent u txn = true → s.ctlOpen u txn = true → Gives (exec (.requestTimeout u txn) s) (fun t =>
      t.ctlOpen u txn = false ∧ t.cores = s.cores ∧ gone t u)) ∧
    (c < 258048 → s.wasSent (.core c) txn = true → s.ctlOpen (.core c) txn = false → (s.core c).opOf txn = some (key, o) →
      (o.isFetch = false → Gives (exec (.requestTimeout (.core c) txn) s) (fun t =>
        t.core c = (s.core c).answerPart key o txn 5 [] ∧ gone t (.core c))) ∧
      (o.isFetch = true → Gives (exec (.requestTimeout (.core c) txn) s) (fun t =>
        (t.core c).ops = (s.core c).ops.del key ∧ gone t (.core c) ∧ ∀ y, (s.core c).rk = some y →
          ∃ z, (t.core c).rk = some z ∧ z.fellBack = true ∧ z.timedOut = true ∧ z.waitN = y.waitN - 1)))

/-- R202, R205, R347, R126, R129, R130: what a response does at the core that asked. A load or an atomic of one part writes its
register and is complete; a counted store advances its counter; a response with an error status raises the fault of that
status with the part's address; a rekindle fetch fills its operand's buffer, makes the multiply fall back, or where the copy
is uncorrectable faults the station.
The model's choices in it: log entries 28 and 168. -/
def Obligations.ResponsesAtTheCore : Prop :=
  ∀ (s : State) (id cycle key : Nat) (p : Packet) (o : MsgOp) (q : ReqPart) (r : Rekindle) (b : Bool),
    let c := p.home * 32 + p.dst.num
    let k := s.core c
    let k1 : Core := { k with ops := k.ops.del key }
    Deliverable s id p → p.dst.kind = 0 → k.opOf p.txn = some (key, o) → o.parts = [q] → q.txn = p.txn → q.done = false →
    (p.typ = 3 → p.status = 0 → o.kind = .ldg → o.failed = false → q.len = 4 → p.payload.length = 4 →
      Gives (exec (.readResponse id) s) (fun t => t.core c = k1.setS o.rc (BitVec.ofNat 32 (ofLe p.payload)))) ∧
    (p.typ = 4 → p.status = 0 → (o.kind = .stg ∨ o.kind = .put) → o.failed = false →
      Gives (exec (.writeResponse id) s) (fun t => t.core c = if o.cnt then k1.addCnt o.cn 1 else k1)) ∧
    (p.typ = 5 → p.status = 0 → o.kind = .amo → o.failed = false →
      Gives (exec (.atomicResponse id) s) (fun t =>
        t.core c = k1.setS o.rc (BitVec.ofNat 32 (ofLe (leBytes 4 p.auxB))))) ∧
    (∀ cause, (p.status = 1 ∧ cause = 0x08) ∨ (p.status = 2 ∧ cause = 0x09) ∨ (p.status = 3 ∧ cause = 0x11) →
      o.isFetch = false → p.typ = 4 → Gives (exec (.writeResponse id) s) (fun t =>
        t.core c = { k.raise cause q.addr with ops := k.ops.del key })) ∧
    (p.typ = 3 → o.kind = .fetch b → k.rk = some r → Gives (exec (.rekindleFetchResponse id cycle) s) (fun t =>
      (t.core c).ops = k.ops.del key ∧ ∃ r', (t.core c).rk = some r' ∧ r'.waitN = r.waitN - 1 ∧
        r'.lastCycle = max r.lastCycle cycle ∧
        (p.status = 0 → b = false → r'.bufA = some p.payload ∧ r'.fellBack = r.fellBack) ∧
        (p.status = 0 → b = true → r'.bufB = some p.payload ∧ r'.fellBack = r.fellBack) ∧
        (p.status = 3 → r'.uncorrectable = true ∧ (t.core c).faulted = true ∧
          t.core c = { k with ops := k.ops.del key, rk := some r' }.raise 0x11 o.ga) ∧
        (p.status ≠ 0 → p.status ≠ 3 → r'.fellBack = true)))

/-- R344, R365, R368, R376, R378, R387, R403, R407, R408: requests at their home, where the checks let them pass: a read answers the
bytes of core store, of scratch or of DRAM; a write is made; an atomic answers the old word and writes the new one. A
request of another partition is answered protected.
The model's choices in it: log entries 46, 47 and 205. -/
def Obligations.RequestsAtTheirHome : Prop :=
  ∀ (s : State) (id : Nat) (p : Packet),
    let c := p.dstCore
    let off := nfld p.addr 0 17
    let sc := nfld p.addr 0 21
    let x := (s.received id p).cluster p.home
    let key := (s.received id p).dramKey p.addr
    let usable := (s.received id p).refused p = false ∧ (s.received id p).absentAt p = false
    Deliverable s id p →
    (usable → p.typ = 0 → p.fetch = none →
      (p.dst.kind = 0 → badWord (s.core c).storeErr off p.len = none →
        Answers (exec (.readRequest id) s) s p 3 0 (Sparse.dense (s.core c).store off p.len) (fun t => t.dram = s.dram)) ∧
      (p.dst.kind = 1 → badWord x.cmemErr sc p.len = none →
        Answers (exec (.readRequest id) s) s p 3 0 (Sparse.dense x.cmem sc p.len) (fun t => t.cores = s.cores)) ∧
      (p.dst.kind = 2 → (s.chan (chanOf key)).chState ≠ 3 → s.dram.err = [] →
        Answers (exec (.readRequest id) s) s p 3 0 (Sparse.dense s.dram.mem key p.len)
          (fun t => t.cores = s.cores ∧ t.dram.mem = s.dram.mem))) ∧
    (usable → p.typ = 1 →
      (p.dst.kind = 0 → (s.core c).storeErr = [] → Answers (exec (.writeRequest id) s) s p 4 0 [] (fun t =>
        (∀ j, j < p.payload.length → Sparse.rd (t.core c).store (off + j) = p.payload.getD j 0) ∧
        ∀ y, (y < off ∨ off + p.payload.length ≤ y) → Sparse.rd (t.core c).store y = Sparse.rd (s.core c).store y)) ∧
      (p.dst.kind = 2 → (s.chan (chanOf key)).chState ≠ 3 → s.dram.err = [] → key % 64 = 0 → p.payload.length = 64 →
        Answers (exec (.writeRequest id) s) s p 4 0 [] (fun t =>
          (∀ j, j < 64 → Sparse.rd t.dram.mem (key + j) = p.payload.getD j 0) ∧
          ∀ y, (y < key ∨ key + 64 ≤ y) → Sparse.rd t.dram.mem y = Sparse.rd s.dram.mem y))) ∧
    (usable → p.typ = 2 → p.dst.kind = 2 → (s.chan (chanOf key)).chState ≠ 3 → s.dram.err = [] →
      let old := ofLe (Sparse.dense s.dram.mem key 4)
      let new := amoResult p.amoOp (BitVec.ofNat 32 old) (BitVec.ofNat 32 p.auxA) (BitVec.ofNat 32 p.auxB)
      Answers (exec (.atomicRequest id) s) s p 5 0 [] (fun t =>
        (∃ q, t.net.packets.look s.net.nextId = some q ∧ q.auxB = old) ∧
        (∀ j, j < 4 → Sparse.rd t.dram.mem (key + j) = (leBytes 4 new.toNat).getD j 0) ∧
        ∀ y, (y < key ∨ key + 4 ≤ y) → Sparse.rd t.dram.mem y = Sparse.rd s.dram.mem y)) ∧
    ((s.received id p).refused p = true → p.typ = 1 → Answers (exec (.writeRequest id) s) s p 4 2 [] (fun t =>
      t.cores = s.cores ∧ t.dram = s.dram))

/-- R126, R129, R296 to R298: a retained copy is answered while its slot's generation stands, and absent after; a message to an
inbox goes whole into the filling bank where it has room, one larger than a bank is answered with overflow, and one that
lacks room waits.
The model's choices in it: log entries 33 and 92. -/
def Obligations.CopiesAndInboxes : Prop :=
  ∀ (s : State) (id slot gen : Nat) (p : Packet),
    let s1 := s.received id p
    let c := p.dstCore
    let k := s.core c
    let d := (s1.cluster p.home).inboxDesc p.dst.num p.inbox
    let size := 8 + (p.payload.length + 7) / 8 * 8
    Deliverable s id p → s1.refused p = false → s1.absentAt p = false →
    (p.typ = 0 → p.fetch = some (slot, gen) → p.dst.kind = 0 →
      (slot < k.retainDepth → (k.ringAt slot).gen = gen → k.storeErr = [] →
        Answers (exec (.retainedCopyFetch id) s) s p 3 0 (Sparse.dense k.store ((k.retainBase + slot) * 2048) 2048)
          (fun t => t.dram = s.dram)) ∧
      ((k.ringAt slot).gen ≠ gen → Answers (exec (.retainedCopyFetch id) s) s p 3 1 [] (fun t => t.cores = s.cores))) ∧
    (p.typ = 6 → p.dst.kind = 4 → s.refused p = false → s.absentAt p = false →
      (s.inboxRoom p = true → size ≤ bankBytes d → (k.inboxAt p.inbox).drainLens ≠ [] → k.storeErr = [] →
        Gives (exec (.inboxDelivery id) s) (fun t =>
          ((t.core c).inboxAt p.inbox).fillLens = (k.inboxAt p.inbox).fillLens ++ [size] ∧
          ((t.core c).inboxAt p.inbox).drainLens = (k.inboxAt p.inbox).drainLens ∧ t.dram = s.dram)) ∧
      (bankBytes d < size → Answers (exec (.inboxDelivery id) s) s p 4 4 [] (fun t => t.cores = s.cores)) ∧
      (s.inboxRoom p = false → Gives (exec (.inboxDelivery id) s) (fun t => t.net = s.net ∧ t.cores = s.cores)))

/-- R375, R380 to R384: what the code of a line corrects and detects, and what a DRAM channel does by itself: the scrub corrects a line that it finds correctable and goes on to the next;
the refresh rate follows the temperature, with its hysteresis; refreshes count; and a channel that fails shows it and is
noted for the next start.
The model's choices in it: log entries 196 and 197. -/
def Obligations.ChannelEvents : Prop :=
  ∀ (s : State) (f ch : Nat) (temp : BitVec 8),
    let c := f * 24 + ch
    let x := s.chan c
    let line := c * 2 ^ 32 + x.scrubNext * 64
    f < 84 → ch < 24 →
    (∀ l, (∀ i, s.dram.err.look l = some (.symbol i) → s.dram.mark l = some false) ∧
      (∀ i j, i ≠ j → s.dram.err.look l = some (.symbols i j) → s.dram.mark l = some true) ∧
      (s.dram.err.look l = some .address → s.dram.mark l = some true) ∧ (s.dram.err.look l = none → s.dram.mark l = none)) ∧
    (x.scrubEn = true → x.chState = 2 → s.dram.mark line ≠ some true →
      Gives (exec (.scrubRead f ch) s) (fun t => (t.chan c).scrubNext = (x.scrubNext + 1) % 2 ^ 26 ∧
        t.dram.mark line = none ∧ t.dram.mem = s.dram.mem)) ∧
    Gives (exec (.dramTemperatureRead f ch temp) s) (fun t => (t.chan c).temp = temp.toNat ∧
      (85 < temp.toNat → (t.chan c).refresh2x = true) ∧ (temp.toNat < 83 → (t.chan c).refresh2x = false) ∧
      (83 ≤ temp.toNat → temp.toNat ≤ 85 → (t.chan c).refresh2x = x.refresh2x) ∧ t.dram.mem = s.dram.mem) ∧
    Gives (exec (.refreshCommand f ch) s) (fun t =>
      Sparse.rd (t.chan c).counts 0x50 = Sparse.rd x.counts 0x50 + 1 ∧ t.dram.mem = s.dram.mem) ∧
    Gives (exec (.channelFailure f ch) s) (fun t => (t.chan c).chState = 3 ∧
      ch ∈ (t.field f).dramBad ∧ t.dram.mem = s.dram.mem)

/-! ### The scheduled plane and the stitch crossings (spec/05, spec/06) -/

/-- R224, R225, R264, R265, R281, R282, R286, R288: a source of the scheduled plane in a cycle of an open occurrence of its entry. A
tile queue with an entry and a credit from every consumer sends it: the entry leaves the ring, a credit is taken from each
consumer, and the occurrence is closed; where the entries' `CHECK_ID` is the frame's route, a flight with its frame sets out by
each of the entry's outputs that carries it, unless a drop window begins before its last flit. The last slot cycle without a beat is a slot miss; a tuple leaves its channel,
whose `ROUND` inverts; and a credit slot sends all pending credits.
The model's choices in it: log entries 5, 50, 56, 57, 165, 213 and 227. -/
def Obligations.SourcesSend : Prop :=
  ∀ (s : State) (k e d r : Nat) (n : Long) (k1 : Core) (l : List Byte) (w : List Word) (ws : List (List Word)),
    let x := s.cluster k
    let y := x.entry e
    let c := k * 32 + y.srcUnit
    let q := (s.core c).outq y.srcQ
    let u := (s.core c).outw y.srcQ
    let i := (s.core c).inq y.srcQ
    let td := x.outTile y.srcUnit y.srcQ
    let wd := x.outWord y.srcUnit y.srcQ
    let frame := frameBytes (descRoute td) q.sentN { frameBeat l with last := (q.send td).2.1 }
    let closed (t : State) := (∀ p ∈ x.slots, p.1 = e → p.2 = y) → t.open? k e n.toNat = none
    k < 8064 → s.open? k e n.toNat = some (d, r) →
    (y.lane = 0 → y.srcKind = 1 → 0 < q.n → descValid td = true → (∀ m ∈ q.credits, m ≠ 0) →
      (s.core c).readEntry (entryAt td q.rd) = (k1, .ok l) → Gives (exec (.slotDeparture k e n) s) (fun t =>
        let q' := (t.core c).outq y.srcQ
        q'.n = q.n - 1 ∧ q'.rd = (q.rd + 1) % outEntries td ∧ q'.credits = q.credits.map (· - 1) ∧ q'.sentN = q.sentN + 1 ∧
        (t.core c).regs = k1.regs ∧ closed t ∧
        ((∀ j, j < (Cargo.frame frame).flits → x.dropsAt (n.toNat + j) = false) →
          (∀ p ∈ x.fanOut y n.toNat, p.2.check = (Cargo.frame frame).route) → (e, y) ∈ x.fanOut y n.toNat →
          ∀ p k', p < 4 → y.out p = true → s.laneUp k p = true → neighbour k p = some k' → ∃ id f,
            t.net.flights.look id = some f ∧ f.cluster = k' ∧ f.port = facing p ∧ f.faulty = false ∧
            f.cycle = n.toNat + s.linkLatency k p ∧ f.cargo = .frame frame))) ∧
    (y.lane = 0 → y.srcKind = 1 → q.n = 0 → r = y.retries → Gives (exec (.slotMiss k e n) s) (fun t =>
      (t.cluster k).sent = x.sent ++ [⟨.slotMiss, s.producerId k y⟩] ∧
      Sparse.rd (t.cluster k).counts slotMissCount = Sparse.rd x.counts slotMissCount + 1 ∧ t.cores = s.cores)) ∧
    (y.lane = 1 → y.srcKind = 2 → u.buf = w :: ws → descValid wd = true → descAdvisory wd = false →
      (∀ m ∈ u.credits, m ≠ 0) → Gives (exec (.tupleDeparture k e n) s) (fun t =>
        (t.core c).outw y.srcQ = { u with buf := ws, round := !u.round, credits := u.credits.map (· - 1) } ∧ closed t)) ∧
    (y.lane = 1 → y.srcKind = 5 → i.pend ≠ 0 → Gives (exec (.creditFlitSend k e n) s) (fun t =>
      (t.core c).inq y.srcQ = { i with pend := 0 } ∧ closed t)) ∧
    (y.lane = 1 → y.srcKind = 5 → i.pend = 0 → exec (.creditFlitSend k e n) s = .next s)

/-- R257, R261, R262, R265, R266, R282, R283, R284, R287, R303: a train that arrives at a router where one entry expects it, and where
that entry has a local sink. A frame is written into the next entry of its queue, a tuple joins its channel, a credit adds to
the producer's count; a frame out of order is delivered, counted and reported; a train with an uncorrectable check group is a
lane fault, one of another route a route mismatch, and neither is delivered; one that no entry expects is a route mismatch; and
in a drop window a train is discarded, and so is the rest of a train that the window overtakes.
The model's choices in it: log entries 52, 53, 164, 166, 216 and 238. -/
def Obligations.TrainsArrive : Prop :=
  ∀ (s : State) (id fixed e : Nat) (f : Flight) (y : SlotEntry),
    let k := f.cluster
    let x := s.cluster k
    let c := k * 32 + y.sinkUnit
    let q := (s.core c).inq y.sinkQ
    let u := (s.core c).inw y.sinkQ
    let td := x.inTile y.sinkUnit y.sinkQ
    let wd := x.inWord y.sinkUnit y.sinkQ
    let lands := s.spRuns k = true ∧ x.dropsAt f.cycle = false ∧ f.port ≠ 4
    let expected := lands ∧ f.cargo.isIdle = false ∧ f.cargo.isReserved = false ∧ y.out 4 = true ∧
      x.expecting f.port f.cargo.lane f.cycle = [(e, y)]
    let good := expected ∧ f.faulty = false ∧ y.check = f.cargo.route ∧ (s.core c).inReset = false ∧
      (∀ j, j < f.cargo.flits → x.dropsAt (f.cycle + j) = false)
    let sent (t : State) (l : List FaultMsg) := (t.cluster k).sent = x.sent ++ l
    let beat (bad : Bool) := Gives (exec (.beatArrival id fixed bad) s)
    s.net.flights.look id = some f →
    (∀ l, f.cargo = .frame l →
      (good → y.sinkKind = 1 → q.dropping = false → descValid td = true → q.n < inDepth td → (s.core c).storeErr = [] →
        beat false (fun t => ((t.core c).inq y.sinkQ).n = q.n + 1 ∧ ((t.core c).inq y.sinkQ).got = q.got + 1 ∧
          ∀ j, j < l.length →
            Sparse.rd (t.core c).store (entryAt td ((q.rd + q.n) % inDepth td) + j) = l.getD j 0)) ∧
      (good → y.sinkKind = 1 → headSeq (frameHead l) ≠ q.got % 2 ^ 32 → beat false (fun t =>
        Sparse.rd (t.cluster k).counts 0x80070 = Sparse.rd x.counts 0x80070 + 1 ∧ sent t [⟨.seqFault, y.check⟩])) ∧
      (expected → y.check ≠ f.cargo.route →
        beat false (fun t => t.cores = s.cores ∧ sent t [⟨.routeMismatch, y.check⟩]) ∧
        beat true (fun t => t.cores = s.cores ∧ sent t [⟨.laneFault, y.check⟩, ⟨.routeMismatch, y.check⟩])) ∧
      (expected → y.check = f.cargo.route → beat true (fun t => t.cores = s.cores ∧ sent t [⟨.laneFault, y.check⟩])) ∧
      (lands → x.expecting f.port f.cargo.lane f.cycle = [] →
        beat false (fun t => t.cores = s.cores ∧ ∃ j, sent t [⟨.routeMismatch, j⟩])) ∧
      (s.spRuns k = true → x.dropsAt f.cycle = true → beat false (fun t => t.cores = s.cores ∧
        Sparse.rd (t.cluster k).counts 0x80080 = Sparse.rd x.counts 0x80080 + BitVec.ofNat 64 f.cargo.flits)) ∧
      (expected → f.faulty = false → y.check = f.cargo.route → ∀ j, j < f.cargo.flits → x.dropsAt (f.cycle + j) = true →
        (∀ i, i < j → x.dropsAt (f.cycle + i) = false) → beat false (fun t => t.cores = s.cores ∧
          Sparse.rd (t.cluster k).counts 0x80080 = Sparse.rd x.counts 0x80080 + BitVec.ofNat 64 (f.cargo.flits - j)))) ∧
    (∀ l, f.cargo = .token l → good →
      (tokenType l = 1 → y.sinkKind = 2 → descValid wd = true → descAdvisory wd = false →
        Gives (exec (.tupleArrival id fixed false) s) (fun t =>
          ((t.core c).inw y.sinkQ).buf = u.buf ++ [tokenWords l] ∧ (t.core c).store = (s.core c).store)) ∧
      (tokenType l = 2 → y.sinkKind = 6 → Gives (exec (.creditArrival id fixed false) s) (fun t =>
        ((t.core c).outw y.sinkQ).credits =
          ((s.core c).outw y.sinkQ).credits.modify (tokenConsumer l) (· + tokenCount l))) ∧
      (tokenType l = 2 → y.sinkKind = 5 → Gives (exec (.creditArrival id fixed false) s) (fun t =>
        ((t.core c).outq y.sinkQ).credits =
          ((s.core c).outq y.sinkQ).credits.modify (tokenConsumer l) (· + tokenCount l))))

/-- R234, R235, R225, R292 to R295: merge stations and combining queues. A round of a merge with one tile that is not null passes it
on, and with two or more reports a conflict and leaves its slot without a beat, which is no slot miss; a contribution is copied
into an empty bank or combined word by word; one of another length, or past the contributors, is a route mismatch; and the
result of a full bank departs, its bank empties, the other bank is next, and one credit is due. R260, R263, R278, R292, R294, R301, R303, R304, R349: the period at a router and its core queues. At the fabric count of
`PERIOD_START` the drop window ends and every sequence count starts again; a `PERIOD_START` that the router's count has passed
is reported and kept out; in a drop window the queues empty and the router discards; the drop cycle K goes from the field
controller to a router and is written to `DROP_AT`; and an advisory queue gives up its head where its sequence number is
named.
The model's choices in it: log entries 54, 60 and 166. -/
def Obligations.CombiningAndPeriods : Prop :=
  (∀ (s : State) (k st q e d r : Nat) (n : Long) (b0 b1 : Beat) (l0 l1 : List Beat) (l : List (Option Beat)) (g : Contribution),
     let x := s.cluster k
     let m := x.steerAt st
     let z := x.combine.get Combine.reset q
     let bank := if g.bank then z.bank1 else z.bank0
     let y := x.entry e
     k < 8064 →
     (x.steer.has st = true → m.kind = 3 → m.ways = [0, 1] → m.held 0 = b0 :: l0 → m.held 1 = b1 :: l1 →
       (b0.null = false → b1.null = true → Gives (exec (.mergeRoundComplete k st) s) (fun t =>
         ((t.cluster k).steerAt st).out = m.out ++ [some b0] ∧ ((t.cluster k).steerAt st).held 0 = l0 ∧
         ((t.cluster k).steerAt st).held 1 = l1)) ∧
       (b0.null = false → b1.null = false → Gives (exec (.mergeRoundComplete k st) s) (fun t =>
         ((t.cluster k).steerAt st).out = m.out ++ [none] ∧
         (t.cluster k).sent = x.sent ++ [⟨.mergeConflict, m.station⟩]))) ∧
     (s.open? k e n.toNat = some (d, r) → y.lane = 0 → y.srcKind = 3 → r = y.retries →
       (x.steerAt y.srcUnit).kind = 3 → (x.steerAt y.srcUnit).out = none :: l →
       Gives (exec (.slotMiss k e n) s) (fun t => (t.cluster k).sent = x.sent ∧
         ((t.cluster k).steerAt y.srcUnit).out = l)) ∧
     (z.arrived = [g] → nbit z.ctl.toNat 31 = true →
       (g.words.length = z.words → bank.count < z.contributors →
         Gives (exec (.combineContribution k q) s) (fun t =>
           let z' := (t.cluster k).combine.get Combine.reset q
           let bank' := if g.bank then z'.bank1 else z'.bank0
           z'.arrived = [] ∧ bank'.count = bank.count + 1 ∧ (bank.count = 0 → bank'.words = g.words) ∧
           (bank.count ≠ 0 → bank'.words = List.zipWith (combineWord z.op) bank.words g.words))) ∧
       ((g.words.length ≠ z.words ∨ z.contributors ≤ bank.count) →
         Gives (exec (.combineContribution k q) s) (fun t =>
           (t.cluster k).sent = x.sent ++ [⟨.routeMismatch, z.route⟩] ∧
           ((t.cluster k).combine.get Combine.reset q) = { z with arrived := [] }))) ∧
     (let v := x.combine.get Combine.reset y.srcUnit
      s.open? k e n.toNat = some (d, r) → y.lane = 1 → y.srcKind = 4 → nbit v.ctl.toNat 31 = true → v.contributors ≠ 0 →
       v.nextBank = false → v.bank0.count = v.contributors → Gives (exec (.combineResultDeparture k e n) s) (fun t =>
         (t.cluster k).combine.get Combine.reset y.srcUnit =
           { v with bank0 := CombBank.reset, nextBank := true, pend := v.pend + 1 }))) ∧
  (∀ (s : State) (k c q id kc : Nat) (n : Long) (v : Word) (seq : Nat) (item : Long) (rest : List AdvItem) (p : Packet),
     let x := s.cluster k
     k < 8064 →
     (nbit x.spCtrl.toNat 0 = true → n.toNat = x.periodStart → Gives (exec (.routerPeriodStart k n) s) (fun t =>
       (t.cluster k).discarding = false ∧ (t.cluster k).doneOcc = [] ∧
       (clusterOf c = k → ((t.core c).inq q).got = 0 ∧ ((t.core c).outq q).sentN = 0 ∧ ((t.core c).outw q).round = false ∧
         ((t.core c).inq q).n = ((s.core c).inq q).n ∧ (t.core c).store = (s.core c).store) ∧
       (clusterOf c ≠ k → t.core c = s.core c))) ∧
     (s.fabricOf (fieldOf k) ≤ n.toNat → Gives (exec (.periodStartWrite k n) s) (fun t =>
       (t.cluster k).periodStart = n.toNat ∧ (t.cluster k).sent = x.sent)) ∧
     (n.toNat < s.fabricOf (fieldOf k) → Gives (exec (.periodStartWrite k n) s) (fun t =>
       (t.cluster k).periodStart = x.periodStart ∧ (t.cluster k).sent = x.sent ++ [⟨.startFault, 0⟩])) ∧
     (x.dropsAt n.toNat = true → x.discarding = false → Gives (exec (.dropWindowStart k n) s) (fun t =>
       (t.cluster k).discarding = true ∧
       (clusterOf c = k → ((t.core c).inq q).n = 0 ∧ ((t.core c).outq q).n = 0 ∧ ((t.core c).inw q).buf = [] ∧
         ((t.core c).outw q).buf = [] ∧ (t.core c).regs = (s.core c).regs) ∧
       (t.cluster k).soot = x.soot ∧ (t.cluster k).counts = x.counts)) ∧
     (s.dropK (s.partOfRegion (regionOfCluster k)) = some kc → MaySend s (.fieldController (fieldOf k)) →
       Sends (exec (.dropCycle (.send k)) s) s (.fieldController (fieldOf k)) 9 k ⟨3, 0⟩ (leBytes 8 kc)
         (fun t => t.clusters = s.clusters)) ∧
     (CtlArrives s id p 9 → Answers (exec (.dropCycle (.arrive id)) s) s p 8 0 [] (fun t =>
       (t.cluster p.home).dropAt = ofLe p.payload ∧ t.cores = s.cores)) ∧
     (x.soot = (seq, item) :: rest → Gives (exec (.sootAdvance k v) s) (fun t =>
       (t.cluster k).soot = if v.toNat % 65536 = seq then rest else x.soot)) ∧
     (x.telem = (seq, item) :: rest → Gives (exec (.telemAdvance k v) s) (fun t =>
       (t.cluster k).telem = if v.toNat % 65536 = seq then rest else x.telem)))

/-- R37, R302, R307 to R311, R314, R315, R321: crossings in service. A lane with more than 16 corrections takes a spare while its
group has one; a margin is recorded with the field's lowest; a cause of retraining (a margin below 8, a third bad lane, four
lane faults within a second in either direction, a failed link) or a request for it clamps both sides where the crossing may retrain;
and at its end both sides take the new latency, the retrainings of both sides count, and the clamp is gone; where the crossing is
lost meanwhile, neither side takes anything.
The model's choices in it: log entries 5, 59, 80, 81, 180 and 239. -/
def Obligations.StitchCrossings : Prop :=
  ∀ (s : State) (f edge idx group lane corrected m : Nat) (v : BitVec 16) (r : CrossingResult),
    let h := (f, edge, idx)
    let o := otherSide h
    let x := (s.field f).crossing edge idx
    let used := (Sparse.rd x.spares group).toNat
    let side (t : State) (g : Nat × Nat × Nat) := (t.field g.1).crossing g.2.1 g.2.2
    let named := (f, nfld v.toNat 14 2, nfld v.toNat 0 4)
    let both := x.laneFaults ++ ((s.field o.1).crossing o.2.1 o.2.2).laneFaults
    let count (u : State) (g : Nat × Nat × Nat) (off : Nat) := Sparse.rd (u.cluster (sideCluster g)).counts off
    let clamps (why : RetrainWhy) := Gives (exec (.stitchRetrainRequest f edge idx why) s) (fun t =>
      (side t h).retraining = true ∧ (side t o).retraining = true)
    f < 84 →
    (s.crossingExists h = true → 16 < corrected → used < 2 → Gives (exec (.laneRepair f edge idx group lane corrected) s)
      (fun t => (Sparse.rd (side t h).spares group).toNat = used + 1 ∧
        count t h laneRepairCount = count s h laneRepairCount + 1)) ∧
    (s.mayRetrain h = true →
      (∀ a ∈ both, 4 ≤ both.countP (fun b => decide (b ≤ a ∧ a ≤ b + 10 ^ 9)) → clamps .laneFaults) ∧
      (x.spares.any (fun e => 2 ≤ e.2.toNat) = true → clamps .thirdSpare) ∧
      (((s.node (sideCluster h)).out edge).down = 1 ∨ ((s.node (sideCluster h)).out edge).down = 2 → clamps .linkDown) ∧
      (m < 8 → clamps (.margin group m)) ∧
      (8 ≤ m → Gives (exec (.stitchRetrainRequest f edge idx (.margin group m)) s) (fun t =>
        (side t h).retraining = false ∧ (side t h).margins.look group = some m ∧
        t.num (o2StitchMarginMin f) = min (s.num (o2StitchMarginMin f)) m))) ∧
    (s.tracked h = true → s.mayRetrain h = false → Gives (exec (.stitchRetrainRequest f edge idx (.margin group m)) s) (fun t =>
      (side t h).retraining = false ∧ (side t h).margins.look group = some m ∧
      t.num (o2StitchMarginMin f) = min (s.num (o2StitchMarginMin f)) m)) ∧
    (s.mayRetrain named = true → Gives (exec (.stitchRetrain f v) s) (fun t => (side t named).retraining = true)) ∧
    (s.mayRetrain named = false → exec (.stitchRetrain f v) s = .next s) ∧
    (edgeOk edge idx = true → x.retraining = true →
      (s.crossingExists h = true → s.crossingExists o = true →
        Gives (exec (.stitchRetrainComplete f edge idx r) s) (fun t => (side t h).retraining = false ∧
          (side t o).retraining = false ∧ t.stitchByte f edge idx = (trainedByte (s.withFuses h r)).toNat ∧
          t.stitchByte o.1 o.2.1 o.2.2 = (trainedByte (s.withFuses h r)).toNat ∧
          count t h stitchRetrainCount = count s h stitchRetrainCount + 1 ∧
          count t o stitchRetrainCount = count s o stitchRetrainCount + 1)) ∧
      (s.crossingExists h = false ∨ s.crossingExists o = false →
        Gives (exec (.stitchRetrainComplete f edge idx r) s) (fun t => (side t h).retraining = false ∧
          (side t o).retraining = false ∧ t.stitchByte f edge idx = s.stitchByte f edge idx ∧
          t.stitchByte o.1 o.2.1 o.2.2 = s.stitchByte o.1 o.2.1 o.2.2)))
/-! ### Streams and periods (spec/11) -/

/-- R427, R431, R433, R434, R464, R428, R503 to R505: stream requests and the parameters of streams. The request whose record stands
complete at the head of its association's ring, first of those of its port to have come, is read from there and its space is freed; one whose payload has another length
than it states draws a NACK. A stream that opens takes the lowest free slot with its tokens, limits and tag; a submission
appends its tokens and a grant adds its credit, no limit staying; a close waits for the period or for the apportioned window;
limits and pools change only while nothing is open.
The model's choices in it: log entries 5, 89, 93, 182, 183 and 231. -/
def Obligations.StreamRequests : Prop :=
  ∀ (s : State) (n a slot sid : Nat) (r : RingRec) (v : BitVec 32) (base : BitVec 64) (p : Nat),
    let d := s.gaRead (s.ringAt n a (r.off + 64)) r.msgLen
    let s0 := d.1.modAssoc n a (fun x => x.setRing (x.ring.filter (fun q => q.skip || q.off ≠ r.off)))
    let b := d.2
    let head (op : Nat) := (s.assoc n a).ring.find? (fun r => !r.skip) = some r ∧ r.opcode = op ∧ r.complete = true ∧
      (s.port n).firstCome r.stamp = true
    let q := openReq b
    let names := s0.slotOf n (leAt b 8 2) (leAt b 0 8) = some slot
    let e := s0.entry n slot
    let k := (b.length - 16) / 4
    n < 24 →
    (head 1 → b.length = 40 + 4 * leAt b 0x24 4 → leAt b 0x20 1 ≤ 3 →
      (s0.openResult n q = 0 → s0.freeSlot n = some slot → Gives (exec (.streamOpen n a) s) (fun t =>
        let x := t.entry n slot
        x.state ≠ 0 ∧ x.cls = q.cls ∧ x.tokenCount = q.tokens.length / 4 ∧ x.ctxLen = 0 ∧ x.ctxMax = q.ctxMax ∧
          x.kvRoot = q.kvRoot ∧ x.credit = q.credit ∧ x.hostTag = q.hostTag ∧ x.openTime = s.wt)) ∧
      (s0.openResult n q ≠ 0 → Gives (exec (.streamOpen n a) s) (fun t => (t.port n).streams = (s.port n).streams ∧
        t.num (o4OpensRefused n) = (s.num (o4OpensRefused n) + 1) % 2 ^ 64))) ∧
    (head 1 → b.length ≠ 40 + 4 * leAt b 0x24 4 → exec (.streamOpen n a) s = .next (s0.sendNack n a r.msgId 6 1)) ∧
    (head 2 → b.length = 16 + 4 * leAt b 0xC 4 → names → e.state = 1 → e.tokenCount + k ≤ e.ctxMax →
      Gives (exec (.promptSubmission n a) s) (fun t => (t.entry n slot).tokenCount = e.tokenCount + k ∧
        (t.entry n slot).final = nbit (leAt b 0xA 1) 0 ∧ (t.entry n slot).credit = e.credit)) ∧
    (head 3 → b.length = 16 → names → e.state ≠ 4 → Gives (exec (.creditGrant n a) s) (fun t =>
      (t.entry n slot).credit = (if e.credit = 0xFFFFFFFF then e.credit else min 0xFFFFFFFE (e.credit + leAt b 0xC 4)) ∧
      (t.entry n slot).tokenCount = e.tokenCount)) ∧
    (head 4 → b.length = 16 → names →
      (e.inPeriod = true → e.state ≠ 4 → Gives (exec (.streamCloseRequest n a) s) (fun t =>
        t.entry n slot = { e with closeReq := true })) ∧
      (e.inPeriod = false → e.owed ≠ 0 → Gives (exec (.streamCloseRequest n a) s) (fun t =>
        t.entry n slot = { e with state := 4, hold := 0 }))) ∧
    (sid / 1024 = n → (s.entry n (sid % 1024)).state ≠ 0 → (s.entry n (sid % 1024)).state ≠ 4 →
      (s.entry n (sid % 1024)).inPeriod = true → Gives (exec (.streamClose sid 1) s) (fun t =>
        t.entry n (sid % 1024) = { s.entry n (sid % 1024) with closeReq := true })) ∧
    (p < 12 → s.openIn p = 0 → v.toNat ≤ s.num (o6BatchRows p) →
      v.toNat * (s.num (o6Class0CtxMax p) + 1) ≤ s.num (o6AttnBudget p) →
      exec (.class0LimitWrite p false v) s = .next (s.setNum (o6Class0Max p) v.toNat)) ∧
    (p < 12 → s.openIn p = 0 → s.num (o6Class0Max p) ≤ s.num (o6BatchRows p) →
      s.num (o6Class0Max p) * (v.toNat + 1) ≤ s.num (o6AttnBudget p) →
      exec (.class0LimitWrite p true v) s = .next (s.setNum (o6Class0CtxMax p) v.toNat)) ∧
    (s.openOf n = 0 → powerOfTwo v.toNat = true → 1024 ≤ v.toNat → v.toNat ≤ 16777216 →
      Gives (exec (.poolEntriesWrite n v) s) (fun t => t.num (o4PoolEntries n) = v.toNat ∧
        t.num (o4PoolFree n) = v.toNat ∧ (t.port n).popAt = 0 ∧ (t.port n).pushAt = 0)) ∧
    (s.openOf n = 0 → exec (.poolBaseWrite n base) s = .next (s.setNum (o4PoolBase n) base.toNat)) ∧
    (s.openOf n ≠ 0 → exec (.poolBaseWrite n base) s = .next s)

/-- R435 to R438, R440 to R448, R452, R453, R306, R758: a period, from its admission to its end. An admission takes the next number
and plans the start; a start that passes, at the fabric cycle the planned time converts to (R565), writes every router of the
partition, whose caches have invalidated for it, sets the period running, and takes the admission's number; the done word observed decides the commit point before the deadline; the deadline drops with cause 1; and
a drop cause that reaches the controller while the period runs drops it, and later is counted. R449 to R451, R454 to R461: a port engine ends its part of a period, with the port's only stream one that took part and
asked for no close. A commit moves its context past its rows; a drop leaves its context where it was and counts; either
takes the port off the list of those that have yet to finish. The oldest window whose sums are known is apportioned, and
its energy joins the partition's.
The model's choices in it: log entries 5, 49, 90, 91, 94, 95, 113, 167, 182 and 224. -/
def Obligations.PeriodsOfAPartition : Prop :=
  (∀ (s : State) (p cause : Nat) (at_ s0 hz kc : BitVec 64) (ad : Admitted) (q : Period) (d : List Byte),
     let x := s.part p
     let s1 := s.atTime at_.toNat
     let root := s.partRoot p
     let deadline := x.planned + s.num (o6PeriodNs p) - s.num (o6BoundaryNs p)
     let ends (how : PeriodEnd) (when_ : Nat) (causes : List Nat) : Period :=
       { q with ended := how, endAt := when_, portsDue := s.partPorts p, causes := causes }
     let counted := leAt (s.blob (o6DropCauses p)) (8 * cause) 8
     let noted := if q.toldMordant.isEmpty then q.causes ++ [cause] else q.causes
     let word := s1.engineRead (s.dramKey (s.doneAddr p q.no)) 4
     p < 12 →
     (s.mayAdmit p = true → Gives (exec (.admission p at_) s) (fun t => ∃ rows, (t.part p).admitted =
         some ⟨s.num (o6PeriodNo p) + 1, at_.toNat, rows⟩ ∧ (t.part p).planned = s1.nextStart p at_.toNat ∧
       t.wt = at_.toNat ∧ (rows = [] → t.num (o6PeriodsIdle p) = (s.num (o6PeriodsIdle p) + 1) % 2 ^ 64) ∧
       t.cores = s.cores)) ∧
     (x.admitted = some ad → at_.toNat = x.planned → s0.toNat = s.cycleAt root x.planned → hz.toNat = s.rootHz root →
       ad.rows ≠ [] → s1.startPasses p s0.toNat = true →
       Gives (exec (.plannedStart p at_ s0 hz) s) (fun t => t.num (o6PeriodNo p) = ad.no ∧
         t.num (o6RowsLast p) = ad.rows.length ∧ (t.part p).admitted = none ∧
         (∃ q', (t.part p).period = some q' ∧ q'.no = ad.no ∧ q'.start = x.planned ∧ q'.start0 = s0.toNat ∧
           q'.ended = .running ∧ q'.deadline = deadline ∧ q'.drop0 = s.cycleAt root deadline ∧ q'.began = x.planned) ∧
         ∀ f j, f ∈ s.partFields p → j < 96 → (t.cluster (f * 96 + j)).periodStart = s0.toNat ∧
           (t.cluster (f * 96 + j)).dropAt = s.cycleAt root deadline ∧ (t.cluster (f * 96 + j)).invAt = s0.toNat)) ∧
     (x.period = some q → q.ended = .running →
       (at_.toNat ≤ q.deadline →
         (word.2 = some d → Gives (exec (.donePoll p at_) s) (fun t => (t.part p).period =
           some { q with polled := some (ofLe d) })) ∧
         (word.2 = none → Gives (exec (.donePoll p at_) s) (fun t => (t.part p).period = some q)) ∧
         (s.num (o6DoneTarget p) ≤ q.polled.getD 0 → Gives (exec (.commitPoint p at_) s) (fun t =>
           (t.part p).period = some (ends .committed at_.toNat q.causes) ∧
           (t.part p).planned = q.start + s.num (o6PeriodNs p) ∧
           t.num (o6PeriodsCommitted p) = (s.num (o6PeriodsCommitted p) + 1) % 2 ^ 64 ∧
           t.num (o6LastCommitNs p) = at_.toNat - q.began))) ∧
       (q.deadline ≤ at_.toNat → Gives (exec (.deadline p at_) s) (fun t =>
         (t.part p).period = some (ends (.dropped 1 (q.drop0)) q.deadline (q.causes ++ [1])) ∧
         (t.part p).planned = q.start + s.num (o6PeriodNs p))) ∧
       (x.onWay.contains cause = true → Gives (exec (.dropCauseArrival p cause at_ kc) s) (fun t =>
         (t.part p).period = some (ends (.dropped cause kc.toNat) ((s.atTime at_.toNat).nsAt root kc.toNat) noted) ∧
         (t.part p).onWay = x.onWay.erase cause ∧ (t.part p).planned = 0))) ∧
     (x.period = some q → q.ended ≠ .running → x.onWay.contains cause = true → cause < 16 →
       (s.blob (o6DropCauses p)).length = 128 → counted + 1 < 2 ^ 64 →
       Gives (exec (.dropCauseArrival p cause at_ kc) s) (fun t =>
         (t.part p).period = some { q with causes := noted } ∧
         leAt (t.blob (o6DropCauses p)) (8 * cause) 8 = counted + 1)) ∧
     (x.onWay.contains cause = false → exec (.dropCauseArrival p cause at_ kc) s = .next s)) ∧
  (∀ (s : State) (n slot : Nat) (e : StreamEntry) (q : Period) (cause kc p : Nat) (w : Window) (rest : List Window)
       (units : List Nat) (nj coef : Nat),
     let g := s.portPart n
     (n < 24 → (s.part g).period = some q → q.portsDue.contains n = true → (s.port n).streams = [(slot, e)] →
       e.inPeriod = true → e.closeReq = false → e.state ≠ 4 →
       (q.ended = .committed → Gives (exec (.periodCommit n) s) (fun t =>
         (t.entry n slot).ctxLen = e.ctxLen + e.rows ∧ (t.entry n slot).committed = e.committed + 1 ∧
         (t.entry n slot).dropRun = 0 ∧ (t.entry n slot).inPeriod = false ∧
         ∃ q', (t.part g).period = some q' ∧ q'.portsDue = q.portsDue.filter (· ≠ n))) ∧
       (q.ended = .dropped cause kc → Gives (exec (.periodDrop n) s) (fun t =>
         (t.entry n slot).ctxLen = e.ctxLen ∧ (t.entry n slot).tokenCount = e.tokenCount ∧
         (t.entry n slot).dropped = e.dropped + 1 ∧ (t.entry n slot).dropRun = min 0xFFFF (e.dropRun + 1) ∧
         (t.entry n slot).inPeriod = false ∧
         ∃ q', (t.part g).period = some q' ∧ q'.portsDue = q.portsDue.filter (· ≠ n)))) ∧
     (p < 12 → (s.part p).windows = w :: rest → w.sums = some (units, nj, coef) → w.no = none →
       Gives (exec (.energyApportion p) s) (fun t => (t.part p).windows = rest ∧
         t.num (o6EnergyNj p) = (s.num (o6EnergyNj p) + nj) % 2 ^ 64 ∧
         t.num (o6EnergyCoefNj p) = (s.num (o6EnergyCoefNj p) + coef) % 2 ^ 64 ∧ t.dram = s.dram)))

/-! ### The Ethernet ports (spec/12) -/

/-- R467, R468, R470 to R477, R759: the training of a port. What a lane of the 400 Gb/s mode sends gives the receiver the two
streams again, and a training frame its control block. A port that may train begins at its mode's first attempt, with its
state 1, whatever starts it: a write of its mode, a retrain, a bad second, the retry after a dark second, or the start. Mode 3
turns the port off, and a retrain that an earlier one still runs does nothing more (R535). A training frame without a control block whose check holds is ignored, and one in which the peer says that it failed moves the
port to the next attempt; a verify window without an uncorrectable codeword in which every lane passes reaches the attempt's configuration;
training ends up in it, its taps kept, or down once every attempt has failed; and a port whose link fails goes down.
The model's choices in it: log entries 5, 103, 105, 186, 189 and 218. -/
def Obligations.PortTraining : Prop :=
  ∀ (s : State) (n lane bad p : Nat) (v : BitVec 8) (cb : BitVec 128) (symbols pattern ber one two : List Nat) (x : Train)
    (c l : Nat),
    let trains (o : Out) (s0 : State) := Gives o (fun t => t.num (o4PortState n) = 1 ∧
      (t.port n).train = some (s0.nextAttempt n 0 none) ∧ t.num (o4PortTrains n) = (s0.num (o4PortTrains n) + 1) % 2 ^ 64)
    let moves (o : Out) (y : Train) := Gives o (fun t => (t.port n).train = some y ∧
      t.num (o4PortState n) = s.num (o4PortState n))
    let s1 := s.setNum (o4PortMode n) v.toNat
    let s2 := s.countFec n bad
    n < 24 →
    (one.length = two.length → (∀ g, g ∈ one ∨ g ∈ two → g < 4) → laneReceive p (laneSend p one two) = (one, two)) ∧
    frameBlock (frameSymbols cb pattern) = some cb ∧
    (v.toNat < 3 → s1.mayTrain n = true → trains (exec (.portMode n v) s) s1) ∧
    (Gives (exec (.portMode n 3) s) (fun t => t.num (o4PortMode n) = 3 ∧ t.num (o4PortState n) = 0 ∧
      (t.port n).train = none)) ∧
    (3 < v.toNat → exec (.portMode n v) s = .next s) ∧
    ((s.port n).asked = true → (s.port n).train.isSome = true → exec (.portRetrain n v) s = .next s) ∧
    (s.mayTrain n = true →
      ((s.port n).asked = true ∧ (s.port n).train.isSome = true ∨ trains (exec (.portRetrain n 1) s) s) ∧
      (s.num (o4PortState n) ≠ 1 → s.num (o4PortState n) ≠ 2 → trains (exec (.portTrainingStart n) s) s) ∧
      ((s.port n).dark = true → s.num (o4PortState n) = 3 → trains (exec (.portDarkRetry n) s) s)) ∧
    (s.num (o4PortState n) = 2 → bad ≤ 1000 → exec (.portRetrainTrigger n bad true) s = .next s2) ∧
    (s.num (o4PortState n) = 2 → s2.mayTrain n = true → 1000 < bad → trains (exec (.portRetrainTrigger n bad true) s) s2) ∧
    (s.num (o4PortState n) = 2 → s2.mayTrain n = true → trains (exec (.portRetrainTrigger n bad false) s) s2) ∧
    (s.num (o4PortState n) = 2 → s.portDown n = false → Gives (exec (.portDown n) s) (fun t =>
      t.num (o4PortState n) = 3 ∧ t.num (o4PortRate n) = 0 ∧ t.num (o4LanesUp n) = 0 ∧ t.cores = s.cores ∧
      t.dram = s.dram)) ∧
    ((s.port n).train = some x →
      (frameBlock symbols = none → exec (.trainingFrame n lane symbols) s = .next s) ∧
      (frameBlock symbols = some cb → controlOk cb = false → exec (.trainingFrame n lane symbols) s = .next s) ∧
      (frameBlock symbols = some cb → vendorAttempt x.attempt = true → lane < 4 → controlOk cb = true → x.reached = none →
        fld cb 113 3 = 3 → moves (exec (.trainingFrame n lane symbols) s) (s.nextAttempt n x.attempt x.pair)) ∧
      (x.attempt ≤ 6 → x.reached = none → x.phase = 3 → (lanesOf x.lanes).all (laneOk ber) = true →
        moves (exec (.trainingPhaseTimeout n ber 0) s)
          { x with reached := some (attemptConfig x.attempt x.lanes, x.lanes) }) ∧
      (x.reached = some (c, l) → Gives (exec (.portTrainingEnd n) s) (fun t => t.num (o4PortState n) = 2 ∧
        t.num (o4PortRate n) = configRate c ∧ t.num (o4PortConfig n) = c ∧ t.num (o4LanesUp n) = l ∧
        (t.port n).train = none ∧ (t.port n).taps = x.taps ∧ (t.port n).lastCfg = some (c, l))) ∧
      (x.reached = none → 6 < x.attempt → Gives (exec (.portTrainingEnd n) s) (fun t => t.num (o4PortState n) = 3 ∧
        t.num (o4PortRate n) = 0 ∧ (t.port n).train = none ∧ (t.port n).dark = true)))

/-- R465, R466, R479 to R482, R517, R518: received frames. On a port that is up, a frame that is too long, short or broken,
or not the port's, is dropped and counted by its reason; a pause frame is counted and ignored; a frame that the port takes
counts as received. An interface that is up answers an ARP request, a neighbour solicitation and an echo request for its own
address, in a frame of R465, and an ARP request for no other; an in-band echo request is discarded (R480); what a port answers carries
what R482 settles.
The model's choices in it: log entries 5, 187, 188, 217 and 232. -/
def Obligations.FramesAndAnswers : Prop :=
  ∀ (s : State) (n : Nat) (fr : Frame) (i : Iface) (mac : BitVec 48) (ip4 t4 : BitVec 32) (ip6 t6 : BitVec 128)
    (v6 : Bool) (data : List Byte),
    let up := n < 24 ∧ s.portDown n = false
    let from_ (six : Bool) (own : Nat) (b : List Byte) := s.answerTo i mac.toNat six own ip6.toNat b
    let good := 64 ≤ fr.len ∧ fr.len ≤ 9216 ∧ fr.fcsOk = true ∧ fr.body ≠ .pause
    let got := exec (.frameReceive n fr) s
    let mine := if v6 then (s.ifcV6 i).contains t6.toNat = true else t6.toNat = s.ifcV4 i
    let w := if v6 then 16 else 4
    let told := beBytes 16 t6.toNat ++ beBytes 6 (s.ifcMac i) ++ beBytes 16 ip6.toNat
    (up → 9216 < fr.len → got = .next (s.dropFrame n 1)) ∧
    (up → fr.len ≤ 9216 → (fr.len < 64 ∨ fr.fcsOk = false) → got = .next (s.dropFrame n 2)) ∧
    (up → 64 ≤ fr.len → fr.len ≤ 9216 → fr.fcsOk = true → fr.body = .pause →
      got = .next (s.addNum (o4PauseIgnored n) 1)) ∧
    (up → good → s.frameForMe n fr = false → got = .next (s.dropFrame n 0)) ∧
    (up → good → s.frameForMe n fr = true → fr.tag = none → s.bodyDrop n false fr.body = none →
      got = .next (s.addNum (o4FramesRx n) 1)) ∧
    (ifcExists i = true → s.ifcUp i = true → t4 ≠ 0 → t4.toNat = s.ifcV4 i →
      exec (.arpRequest i mac ip4 t4) s = .next (s.emit ⟨ifcVia i, 2, mac.toNat,
        beBytes 6 (s.ifcMac i) ++ beBytes 4 t4.toNat ++ beBytes 6 mac.toNat ++ beBytes 4 ip4.toNat, none,
        etherFrame mac.toNat (s.ifcMac i) (s.ifcTag i) 0x0806 (arpReply (s.ifcMac i) t4.toNat mac.toNat ip4.toNat)⟩)) ∧
    (ifcExists i = true → t4.toNat ≠ s.ifcV4 i → exec (.arpRequest i mac ip4 t4) s = .next s) ∧
    (ifcExists i = true → s.ifcUp i = true → t6 ≠ 0 → (s.ifcV6 i).contains t6.toNat = true →
      exec (.neighbourSolicitation i mac ip6 t6) s = .next (s.draw.2.emitIp (ifcVia i) 3 mac.toNat (s.ifcMac i) told
        ((from_ true t6.toNat told).advertisement t6.toNat (s.ifcMac i)) (from_ true t6.toNat told))) ∧
    (ifcExists i = true → s.ifcUp i = true → t6 ≠ 0 → mine → echoes i = true → exec (.echoRequest i mac v6 ip6 t6 data) s =
      .next (s.draw.2.emitIp (ifcVia i) 4 mac.toNat (s.ifcMac i) (beBytes w t6.toNat ++ beBytes w ip6.toNat ++ data)
        ((from_ v6 t6.toNat data).echo data) (from_ v6 t6.toNat data))) ∧
    (ifcExists i = true → echoes i = false → exec (.echoRequest i mac v6 ip6 t6 data) s = .next s) ∧
    (let d := from_ v6 t6.toNat data
     i = .port n ∨ i = .inband n → d.dscp = s.num (o4HwtDscp n) ∧ d.ttl = 64 ∧ d.df = !v6 ∧ d.tag = s.ifcTag i ∧ d.ecn = 0)

/-! ### Clocks, wafer time and sample marks (spec/13) -/

/-- R555 to R565, R573: the reference and the dividers. A source in use that becomes invalid is replaced by the first valid
one in the order primary, alternate, on-module; an earlier source is returned to after `REF_REVERT_S`; with none left the
reference is lost, `REF_SOURCE` 3 and wafer time uncertain, until a source relocks it; a comparison of the oscillators beyond
200 ppm sets `SMOULDER_BACKUP` and makes the on-module oscillator invalid; the MSC's watchdog holds the module in reset; and every fabric divider of an island moves one step at its root, towards the target.
The model's choices in it: log entries 106, 107, 109, 112, 121, 190, 224 and 227. -/
def Obligations.ReferenceAndDividers : Prop :=
  ∀ (s : State) (src r : RefSource) (held f g : Nat) (ppm : Int) (n : BitVec 64),
    let off := s.markSource src false
    let on := s.markSource src true
    let uses (o : Out) (x : RefSource) := Gives o (fun t => t.num o0RefSource = refCode x ∧
      t.num o0RefSwitches = (s.num o0RefSwitches + 1) % 2 ^ 64 ∧ t.cores = s.cores ∧ t.wt = s.wt)
    (s.refInUse = refRank src → off.firstSource = some r → uses (exec (.refSourceInvalid src) s) r) ∧
    (s.refInUse ≠ refRank src → exec (.refSourceInvalid src) s = .next off) ∧
    (on.sourceValid src = true → s.refLost = false → refRank src < s.refInUse → s.num o0RefRevertS ≠ 0 →
      s.num o0RefRevertS ≤ held → uses (exec (.refRevert src held) s) src) ∧
    (s.num o0RefRevertS = 0 → exec (.refRevert src held) s = .next (if on.sourceValid src then on else s)) ∧
    (s.firstSource = none → s.refLost = false → Gives (exec .referenceLost s) (fun t => t.num o0RefSource = 3 ∧
      t.num o0TimeState = 4 ∧ ∀ p, p < 24 → t.num (o4PortState p) ≠ 1 ∧ t.num (o4PortState p) ≠ 2)) ∧
    (s.refLost = true → on.sourceValid src = true → uses (exec (.referenceRelock src) s) src) ∧
    (200 < ppm ∨ ppm < -200 → Gives (exec (.oscillatorCheck ppm) s) (fun t => t.clocks.backup = true ∧
      t.clocks.oscFail = true)) ∧
    (200 < ppm ∨ ppm < -200 → s.refInUse = 2 → (s.markSource .onModule false).firstSource = some r →
      uses (exec (.oscillatorCheck ppm) s) r) ∧
    (-200 ≤ ppm → ppm ≤ 200 → exec (.oscillatorCheck ppm) s =
      .next { s with clocks := { s.clocks with oscFail := false } }) ∧
    (Gives (exec .mscWatchdogHold s) (fun t => t.msc.watchdog = true ∧ t.msc.booted = false ∧ t.msc.starting = none ∧
      t.cores = [] ∧ t.hdp.sessions = [] ∧ t.net = Net.reset)) ∧
    (f < 84 → (s.clk f).root = true → g ∈ islandFields (s.island (f % 12)) →
      Gives (exec (.dividerStep f n) s) (fun t => (t.clk g).target = s.fabricTarget ∧
        (t.clk g).fabricD = stepTo (s.clk g).fabricD s.fabricTarget ∧ (t.clk g).dramD = (s.clk g).dramD ∧
        (t.clk g).ctlD = (s.clk g).ctlD))

/-- R483, R566 to R570, R574, R577, R578: markers, frequency counts and the time receiver. A root's marker carries the fabric count that it names and its wafer time, from
which starts are converted (R565); the last one of its root alone reaches a field: one whose count, and 8 cycles a hop, agrees with the field's own changes no count of slips, one that does not agree counts a
slip and makes the field late, and at a field that has slipped it loads the count; the loss of a field's input
is recorded, and the forwarding trees are built again over the fields that work; a frequency measurement of two clocks that the
field has starts unless one is busy, and ends with its count or as lost. A Sync of
the selected transmitter that is more than a millisecond away, or the first, steps wafer time, and a closer one slews it; a
Delay_Resp gives the path delay; and without Sync the time is in holdover.
The model's choices in it: log entries 5, 9, 50, 110, 111, 188, 191, 225, 226, 227 and 230. -/
def Obligations.TimeAndFrequency : Prop :=
  ∀ (s : State) (f n : Nat) (count wt own at_ origin source : BitVec 64) (v : BitVec 32) (seq : BitVec 16)
    (dom : BitVec 8) (a : AnnounceMsg) (working : List Nat) (t1 t2 t3 : Nat),
    let x := s.clk f
    let offset : Int := (at_.toNat : Int) - origin.toNat - s.clocks.ptp.delay.getD 0
    let chosen := s.fromChosen n dom.toNat source.toNat = true
    let due := (count.toNat + 8 * x.depth) % 2 ^ 64
    let root := s.treeRoot f
    let told := s.clocks.markers.look root = some (count.toNat, wt.toNat)
    let s0 := (s.atFabric (root * 96) due).slewTo f wt.toNat x.depth
    let codes := clockCode f (v.toNat / 2 ^ 24 % 16) = true ∧ clockCode f (v.toNat / 2 ^ 20 % 16) = true
    (f < 84 → x.root = true → Gives (exec (.markerSend f count) s) (fun t => ∃ w,
      t.clocks.markers.look f = some (count.toNat, w) ∧ t.clocks.ties.look f = some (count.toNat, 1536 * w))) ∧
    (f < 84 → ¬told → exec (.marker f count wt own) s = .next s) ∧
    (f < 84 → x.parent ≠ 7 → told → s.clocks.stepPending = none → x.slip = true → Gives (exec (.marker f count wt own) s) (fun t =>
      (t.clk f).slip = false ∧ t.fabric = s0.fabric ∧ t.fabricOf f = t.fabricIn (f % 12) % 2 ^ 64)) ∧
    (f < 84 → x.parent ≠ 7 → told → s.clocks.stepPending = none → x.slip = false →
      (due = own.toNat → exec (.marker f count wt own) s = .next s0) ∧
      (due ≠ own.toNat → Gives (exec (.marker f count wt own) s) (fun t => (t.clk f).slip = true ∧
        (t.clk f).slips = x.slips + 1 ∧ f ∈ (t.part (s.partOfRegion (f % 12))).late))) ∧
    (let s1 := (s.modClk f (fun x => { x with inputLost := true })).postField f 8 6 2 0 0
     let ok (g : Nat) := s1.hasSupply g && working.contains g
     f < 84 → (s1.plant ok false).2 = [] → exec (.forwardedInputLost f working) s = .next (s1.plant ok false).1) ∧
    (f < 84 → x.busy = false → codes → Gives (exec (.freqMeasure f v) s) (fun t => (t.clk f).busy = true ∧
      (t.clk f).gate = s.num (o2FreqGate f) ∧ (t.clk f).done = false ∧ (t.clk f).result = 0)) ∧
    (f < 84 → ¬codes → exec (.freqMeasure f v) s = .next s) ∧
    (f < 84 → x.busy = true → exec (.freqMeasure f v) s = .next s ∧
      Gives (exec (.frequencyCountDone f count) s) (fun t =>
        t.clk f = { x with busy := false, done := true, result := count.toNat }) ∧
      Gives (exec (.frequencyCountLost f) s) (fun t =>
        t.clk f = { x with busy := false, lostFc := true, result := 0 })) ∧
    (n < 24 → s.takesPtp n a.domain.toNat = true → Gives (exec (.announce n a) s) (fun t =>
      ⟨n, a⟩ ∈ t.clocks.ptp.heard ∧ t.wt = s.wt)) ∧
    (n < 24 → chosen →
      (s.clocks.ptp.first = true ∨ 1000000 < offset ∨ offset < -1000000 →
        Gives (exec (.sync n seq dom source false origin at_) s) (fun t => t.clocks.stepPending = some (-offset) ∧
          t.num o0TimeState = 1)) ∧
      (s.clocks.ptp.first = false → -1000000 ≤ offset → offset ≤ 1000000 →
        Gives (exec (.sync n seq dom source false origin at_) s) (fun t =>
          t.clocks.stepPending = s.clocks.stepPending ∧ t.num o0PtpOffsetNs = ofSInt 32 offset)) ∧
      Gives (exec (.sync n seq dom source true origin at_) s) (fun t =>
        t.clocks.ptp.twoStep = some (seq.toNat, at_.toNat)) ∧
      (s.clocks.ptp.twoStep = some (seq.toNat, t2) → Gives (exec (.followUp n seq dom source origin) s) (fun t =>
        t.clocks.ptp.syncAt = some (origin.toNat, t2) ∧ t.clocks.ptp.twoStep = none)) ∧
      (s.clocks.ptp.delayReq = some (seq.toNat, t3, 0) → s.clocks.ptp.syncAt = some (t1, t2) →
        Gives (exec (.delayResp n seq dom source count) s) (fun t => t.clocks.ptp.delay =
          some ((((t2 : Int) - t1) + ((count.toNat : Int) - t3)) / 2)))) ∧
    (n < 24 → s.num (o4PtpEnable n) = 1 → s.num (o4PortState n) = 2 → s.ptpHere n = true →
      s.clocks.ptp.syncAt.isSome = true → Gives (exec (.delayReqSend n at_) s) (fun t =>
        ∃ q x, t.clocks.ptp.delayReq = some (q, at_.toNat, 0) ∧ t.sent = s.sent ++ [x] ∧
          x.body = delayReqBytes (s.num (o4PtpDomain n)) (s.portMac n) n q)) ∧
    (s.num o0TimeState = 1 ∨ s.num o0TimeState = 2 → Gives (exec .syncTimeout s) (fun t => t.num o0TimeState = 3 ∧
      t.wt = s.wt))

/-- R580 to R583: sample marks. A mark may be placed 100 us to 1 s ahead while none is pending; a module mark that finds one
pending counts as incomplete; a unit of a region that is not lost takes its counts for the oldest mark that it has not
latched, into its shadow; a mark that every unit has latched becomes the latest; and one still incomplete is abandoned and counted.
The model's choices in it: log entries 5 and 192. -/
def Obligations.SampleMarks : Prop :=
  ∀ (s : State) (m : BitVec 64) (lead : BitVec 32) (u : MarkUnit) (a : Mark) (rest : List Mark),
    let set (l : List Mark) : State := { s with clocks := { s.clocks with marks0 := l } }
    let missed := (s.num o0MarksIncomplete + 1) % 2 ^ 64
    (s.num o0MarkIntervalMs ≠ 0 → s.wt + 100000 ≤ m.toNat →
      (s.clocks.marks0 = [] → exec (.moduleMark m) s = .next (set [⟨m.toNat, 0, [], []⟩])) ∧
      (s.clocks.marks0 ≠ [] → exec (.moduleMark m) s = .next (s.setNum o0MarksIncomplete missed))) ∧
    (100 ≤ lead.toNat → lead.toNat ≤ 1000000 →
      (s.clocks.marks0 = [] → exec (.sampleMark lead) s = .next (set [⟨s.wt + lead.toNat * 1000, 0, [], []⟩])) ∧
      (s.clocks.marks0 ≠ [] → exec (.sampleMark lead) s = .next s)) ∧
    (lead.toNat < 100 ∨ 1000000 < lead.toNat → exec (.sampleMark lead) s = .next s) ∧
    (unitExists u = true → (∀ r, unitRegion u = some r → s.num (o1RegionState r) ≠ 3) →
      s.clocks.marks0 = a :: rest → u ∉ a.latched → Gives (exec (.markLatch false u) s) (fun t =>
        (t.clocks.shadow false u).m = a.m ∧ (t.clocks.shadow false u).counts = (s.atTime (max s.wt a.m)).unitCounts u ∧
        (t.clocks.shadow false u).before = (s.clocks.shadow false u).before ∧ t.cores = s.cores ∧
        ∀ w, w ≠ u → t.clocks.shadow false w = s.clocks.shadow false w)) ∧
    (s.clocks.marks0 = [a] →
      (s.markDone false a = true → Gives (exec (.markComplete false) s) (fun t => t.num o0MarkLast = a.m ∧
        t.clocks.marks0 = [] ∧ ∀ h, h ∈ s.clocks.shadow0 → h.m = a.m →
          ({ h with before := h.counts, fromZero := false } : Shadow) ∈ t.clocks.shadow0)) ∧
      (s.markDone false a = false → exec (.markComplete false) s = .next s ∧
        Gives (exec (.markAbandon false) s) (fun t => t.clocks.marks0 = [] ∧ t.num o0MarksIncomplete = missed ∧
          t.num o0MarkLast = s.num o0MarkLast)))

/-! ### Power and cooling (spec/14) -/

/-- R182, R594 to R603, R607 to R609, R732, R733, R736: permits, the governor, the lease, and boost. A kindle requests a permit in the order of the requests' smoulder cycles and numbers, and the oldest
waiting core takes one while the bucket holds a permit and the ceiling allows; a tick of the governor halts permits exactly while the
mean of the last 10 samples is over 105 % of the cap, and leaves its divider alone outside a step opportunity, and the feeds share the power by R736; a grant in range becomes the lease, which counts
down by ticks and expires; a shed input ends the lease's term, and the cap is then at most 18 kW; a boost ends into recovery.
The model's choices in it: log entries 5, 116, 117, 222, 234 and 245. -/
def Obligations.PermitsAndLease : Prop :=
  ∀ (s : State) (c r waited aux why : Nat) (watts : List Nat) (slot : Bool) (data : List Byte) (when_ : Nat) (rest : List (Nat × Nat)),
    let k := s.core c
    let x := s.region r
    let g := leAt data 0 4
    let b := leAt data 4 4
    let ms := leAt data 8 4
    let next (key : Nat) := (s.num key + 1) % 2 ^ 64
    (c < 258048 → k.kindling = true → Gives (exec (.kindle c) s) (fun t => t.core c = { k with kindle := 2 } ∧
      (t.region (coreRegion c)).waiting = queueRequest (s.wt / 20) c (s.region (coreRegion c)).waiting)) ∧
    (r < 12 → x.waiting = (when_, c) :: rest → k.kindle = 2 → k.smoulder = true → 0 < x.permits → s.power.halted = false →
      x.held.length < s.awakeCeiling r → Gives (exec (.kindlePermitGrant r waited) s) (fun t =>
        t.core c = (((k.leaveSmoulder (s.fabricIn r) s.wt).bumpCount 0x38 1).bumpCount 0x40 waited) ∧
        (t.region r).permits = x.permits - 1 ∧ c ∈ (t.region r).held ∧ ∀ d, d ≠ c → t.core d = s.core d)) ∧
    (r < 12 → s.power.upStep = false → Gives (exec (.permitRefill r) s) (fun t => (t.region r).permits = 1470 ∧
      t.cores = s.cores)) ∧
    (r < 12 → s.power.upStep = true → exec (.permitRefill r) s = .next s) ∧
    (Gives (exec (.governorTick watts aux slot) s) (fun t =>
      t.power.halted = meanAbove t.power.samples 10 105 t.powerCap ∧ t.power.upStep = false ∧
      t.power.samples = ((((List.range 12).map (fun j => (t.region j).lastW)).sum) :: s.power.samples).take 1000 ∧
      t.power.feedW.1 + t.power.feedW.2 = ((List.range 12).map (fun j => (t.region j).lastW)).sum ∧
      (s.num o8FeedsOk = 1 → t.power.feedW.2 = 0) ∧ (s.num o8FeedsOk = 2 → t.power.feedW.1 = 0) ∧
      (let p := ((List.range 12).map (fun j => (t.region j).lastW)).sum
       s.num o8FeedsOk = 3 → t.feedsHigh = true → 10 ≤ p → 100 * t.power.feedW.1 ≤ 55 * p ∧ 100 * t.power.feedW.2 ≤ 55 * p) ∧
      (slot = false → t.power.limitD = s.power.limitD) ∧ t.cores = s.cores ∧ t.net = s.net)) ∧
    (data.length = 16 → 18000 ≤ g → g ≤ 26000 → (b = 0 ∨ (g ≤ b ∧ b ≤ 26000)) → 100 ≤ ms → ms ≤ 60000 →
      Gives (exec (.leaseGrant data) s) (fun t => t.power.grant = g ∧ t.power.boost = b ∧ t.power.leaseState = 1 ∧
        t.power.leaseId = leAt data 12 4 ∧ t.power.ticks / 10 = ms)) ∧
    (data.length = 16 → (g < 18000 ∨ 26000 < g ∨ ms < 100 ∨ 60000 < ms) → exec (.leaseGrant data) s = .next s) ∧
    (s.power.leaseState = 1 → Gives (exec .leaseTick s) (fun t =>
      (1 < s.power.ticks → t.power.leaseState = 1 ∧ t.power.ticks = s.power.ticks - 1) ∧
      (s.power.ticks ≤ 1 → t.power.leaseState = 2 ∧ t.num o8LeaseExpiries = next o8LeaseExpiries) ∧
      (s.num o0ShedInput = 0 → t.power.shed = false))) ∧
    (s.num o0ShedInput ≠ 1 → Gives (exec .shedAssert s) (fun t => t.num o0ShedInput = 1 ∧
      t.num o0ShedEvents = next o0ShedEvents ∧ t.power.shed = true ∧ t.powerCap ≤ 18000)) ∧
    (Gives (exec .shedRelease s) (fun t => t.num o0ShedInput = 0 ∧ t.power = s.power)) ∧
    (s.num o8BoostState = 1 → why ≤ 1 → Gives (exec (.boostTimeout why) s) (fun t => t.num o8BoostState = 2 ∧
      t.power = s.power)) ∧
    (s.num o8BoostState = 2 → exec .recoveryEnd s = .next (s.setNum o8BoostState 0))

/-- R604, R606, R612 to R625, R679: wear, heat, fuses and supplies. A millisecond adds the wear of the power and temperature it names; a
store copies the wear counts unless the flash is inhibited, which makes it wait as it stands; a reading sets and clears the rows of the thermal table, and its last row opens the region's fuse; the awake ceiling
steps by 2,688 between 5,376 and 21,504; a fuse that opens drops the partition's periods with cause 9 and loses its region; sagging supplies inhibit the flash and abandon an
open update; a feed's bit follows it; and a coolant shutdown, or a plane held low, resets the wafer, where a unit that was
not in service stays so (what one in service reads is the model's choice, log entry 203).
The model's choices in it: log entries 5, 114, 120, 122, 192, 193, 203 and 236. -/
def Obligations.HeatAndSupplies : Prop :=
  ∀ (s : State) (r watts cause planeMv auxMv j : Nat) (tj : Int) (stackC junctionC : List Nat) (coolant : CoolantReading)
    (inlet b : Bool) (data : List Byte),
    let x := s.region r
    let feeds := s.num o8FeedsOk
    let st := stackC.foldl max 0
    let jn := junctionC.foldl max 0
    let clear := if st < 91 ∧ jn < 102 then min 1000 (x.clearMs + 1) else 0
    let slot := ((tj - 85) % 10).toNat
    (r < 12 → s.num (o1RegionState r) ≠ 3 → -64 ≤ (tj - 85) / 10 → Gives (exec (.wearTick r watts tj) s) (fun t =>
      (t.region r).wear.get 0 slot = x.wear.get 0 slot + watts * watts * 2 ^ (64 + (tj - 85) / 10).toNat ∧
      ∀ q, q ≠ slot → (t.region r).wear.get 0 q = x.wear.get 0 q)) ∧
    (s.num o8FlashInhibit ≠ 1 → Gives (exec .wearStore s) (fun t =>
      ∀ q, (t.region q).wearStored = (s.region q).wear ∧ (t.region q).wear = (s.region q).wear)) ∧
    (s.num o8FlashInhibit = 1 → Gives (exec .wearStore s) (fun t => t.power.wearDue = true ∧
      ∀ q, (t.region q).wearStored = (s.region q).wearStored ∧ (t.region q).wear = (s.region q).wear)) ∧
    (r < 12 → let u := s.readHeat r st jn coolant
      exec (.thermalSample r stackC junctionC coolant) s =
        .next (if nbit (u.region r).rows 5 && !nbit x.rows 5 then u.openFuse r 5 else u) ∧
      u.num (o8StackMaxC r) = st ∧ u.num (o8JunctionMaxC r) = jn ∧
      u.num o8CoolantTermW = coolantTerm coolant.inlet coolant.flow ∧ u.cores = s.cores ∧ u.dram = s.dram ∧
      (j < 6 → nbit (u.region r).rows j = rowAfter x.rows st jn (decide (1000 ≤ clear)) j)) ∧
    (r < 12 → let a := s.num (o8AwakeCeiling r)
      (nbit x.rows 2 = true → exec (.awakeCeilingStep r) s = .next (s.setNum (o8AwakeCeiling r) (max 5376 (a - 2688)))) ∧
      (nbit x.rows 2 = false →
        exec (.awakeCeilingStep r) s = .next (s.setNum (o8AwakeCeiling r) (min 21504 (a + 2688))))) ∧
    (Gives (exec (.coolantShutdown inlet) s) (fun t => t.cores = [] ∧ t.power.shutdown = true ∧ t.num o0ModuleState = 3 ∧
      (t.region r).lastW = 0 ∧ (r < 12 → s.num (o8FuseState r) = 0 → t.num (o8FuseState r) = 2) ∧
      (r < 12 → t.num (o1RegionState r) = heldState (s.num (o1RegionState r))))) ∧
    (r < 12 → s.num (o8FuseState r) = 0 → 1 ≤ cause → cause ≤ 5 →
      let s1 := (s.setNum (o8FuseState r) 1).setNum (o8FuseCause r) cause
      let s2 := (s1.darken r).modRegion r (fun y => { y with powered := false, lastW := 0, held := [], waiting := [] })
      exec (.fuseOpen r cause) s = .next
        ((((s2.pushCause (s.partOfRegion r) 9).loseRegion r 3).endBoost 6).postRegion r 4 cause 6)) ∧
    (r < 12 → s.num (o8FuseState r) ≠ 0 → exec (.fuseOpen r cause) s = .next s) ∧
    (planeMv < 50500 ∨ auxMv < 11200 → Gives (exec (.flashInhibitSet planeMv auxMv) s) (fun t =>
      t.num o8FlashInhibit = 1 ∧ t.msc.upd = none)) ∧
    (51500 ≤ planeMv → 11600 ≤ auxMv → s.num o8FlashInhibit = 1 →
      Gives (exec (.flashInhibitClear planeMv auxMv) s) (fun t => t.num o8FlashInhibit = 0 ∧
        (s.power.wearDue = true → ∀ q, (t.region q).wearStored = (s.region q).wearWait.getD (s.region q).wearStored))) ∧
    (nbit feeds (b2n b) = true → Gives (exec (.feedLost b) s) (fun t => t.num o8FeedsOk = feeds - 2 ^ b2n b)) ∧
    (nbit feeds (b2n b) = false → Gives (exec (.feedSupplying b) s) (fun t => t.num o8FeedsOk = feeds + 2 ^ b2n b)) ∧
    (Gives (exec .planeHold s) (fun t => t.cores = [] ∧ t.net = Net.reset ∧ t.msc.planeHeld = true ∧
      t.num o0ModuleState = 3 ∧ t.power.planeMv < 46000 ∧ (r < 12 → t.num (o1RegionState r) = heldState (s.num (o1RegionState r))))) ∧
    (data.length = 64 → s.num o8FlashInhibit ≠ 1 →
      exec (.coefTable data) s = .next (if coefOk data then s.setBlob o8CoefTable data else s))

/-! ### The wafer transport (spec/12) -/

/-- R482, R486, R487, R489 to R494, R499, R500, R508 to R513, R760: the wafer transport of a port that is up. A segment that fails the
checks is discarded and counted; a sync sets the peer's number, after the association went down if it was up; the next
segment, when it holds a whole message that needs no ring and is no read, is accepted and makes the message ready; an acknowledgement takes away
the segments that it covers; a segment that is not acknowledged within the resend time since it left (R492) is sent again and halves the rate, and takes the association
down after 16 resends; a sync and an acknowledgement leave as datagrams with the port's `HWT_DSCP`, ECT(0) and a hop limit of 64. A window that refuses
a peer's read or write draws a NACK, and one that does not carries it out; a completion, a response or a NACK answers the core's
request; and an entry or descriptor is written when it is valid.
The model's choices in it: log entries 5, 97, 98, 100, 101, 184, 185 and 223. -/
def Obligations.TransportCommands : Prop :=
  ∀ (s : State) (n a op : Nat) (src : SegFrom) (dg data : List Byte) (ce : Bool) (seq : BitVec 32) (g : OutSeg) (o : PortOp)
    (q : OutReq) (m : HwtMsg),
    let x := s.assoc n a
    let h := segHeader dg
    let body := dg.drop 52
    let code := h.opcode.toNat
    let peer := leAt (s.assocBytes n a) 6 2
    let discarded := Host.Outcome.next (s.addNum (o4HwtDiscards n) 1)
    let b := s.windowBytes n (nfld m.target 49 6)
    let off := nfld m.target 0 49
    let oldest (c : Nat) := (s.port n).ready.find? (fun y => y.1 = a && y.2.opcode = c) = some (a, m)
    let taken := s.modPort n (fun p => { p with ready := p.ready.erase (a, m) })
    let parts (len : Nat) := cutParts 1026 (wInBase b + off) len
    let room (len : Nat) := (s.portTxns n).eraseDups.length + (parts len).length ≤ 4096
    let begun (out : Out) (write : Bool) (len : Nat) := Gives out (fun t => ∃ key p, (t.port n).ops.look key = some p ∧
      p.write = write ∧ p.assoc = a ∧ p.msgId = m.msgId ∧ p.off = off ∧ p.len = len ∧ p.parts.length = (parts len).length)
    let named (id typ : Nat) := (s.port n).outReqs.find? (fun y => y.assoc = a && y.msgId = id && (typ = 9 || y.req.typ = typ))
      = some q
    let asked := leAt m.payload 0 4
    let readNack := if 2097150 < asked then 6 else if aPeerMax (s.assocBytes n a) < asked then 2
      else windowNack b a off asked false
    let leaves (t : State) (kind : Nat) (d : List Byte) := ∃ ip, t.sent = s.sent ++ [⟨n, kind, a, d, some ip, s.ipWire (s.portMac n) ip d []⟩] ∧
      ip.dscp = s.num (o4HwtDscp n) ∧ ip.ecn = 2 ∧ ip.ttl = 64
    let late (g : OutSeg) := s.atTime (max s.wt (g.sentAt + s.resendTime n a g))
    n < 24 →
    (s.portDown n = false →
      (s.segOk n src dg = false →
        (h.kind ≠ 1 → h.kind ≠ 2 → exec (.dataSegment n src dg ce) s = discarded) ∧
        (h.kind = 1 → exec (.acknowledgementSegment n src dg) s = discarded) ∧
        (h.kind = 2 → exec (.syncSegment n src dg) s = discarded)) ∧
      (s.segOk n src dg = true → h.kind = 0 → h.assoc.toNat = a → s.assocUp n a = true → h.seq.toNat = x.rxNext →
        x.rxHeld = [] → 4 < code → code ≠ 9 → s.msgRefused n a code h.msgLen.toNat = 0 →
        x.reasm.look (reasmKey code h.msgId.toNat) = none → (reasmKey code h.msgId.toNat = h.msgId.toNat → x.openRec h.msgId.toNat = none) →
        h.msgLen.toNat = body.length → h.segOffset = 0 →
        Gives (exec (.dataSegment n src dg ce) s) (fun t => (t.assoc n a).rxNext = (x.rxNext + 1) % 2 ^ 32 ∧
          (t.assoc n a).rxHeld = [] ∧ (t.assoc n a).unacked = (if 15 ≤ x.unacked then 0 else x.unacked + 1) ∧
          (t.port n).ready = (s.port n).ready ++ [(a, ⟨code, h.status.toNat, h.msgId.toNat, h.target.toNat, body⟩)])) ∧
      (s.segOk n src dg = true → h.kind = 1 → h.assoc.toNat = a → x.up = true → x.queue = [] →
        Gives (exec (.acknowledgementSegment n src dg) s) (fun t =>
          (t.assoc n a).flight = (x.takeAck h).flight ∧ (t.assoc n a).rxNext = x.rxNext)) ∧
      (s.segOk n src dg = true → h.kind = 2 → h.assoc.toNat = a →
        Gives (exec (.syncSegment n src dg) s) (fun t => (t.assoc n a).rxNext = h.seq.toNat ∧
          (t.assoc n a).peerTaken = true ∧ (t.assoc n a).rxHeld = [] ∧ (t.assoc n a).unacked = 0 ∧
          (s.assocUp n a = true → t.num (o4HwtAssocDowns n) = (s.num (o4HwtAssocDowns n) + 1) % 2 ^ 64))) ∧
      (a ≤ 63 → aEnable (s.assocBytes n a) = true → x.up = false → Gives (exec (.syncSend n a seq) s) (fun t =>
        (t.assoc n a).ownSeq = some (x.ownSeq.getD seq.toNat) ∧
        leaves t 6 (syncDatagram peer (x.ownSeq.getD seq.toNat)))) ∧
      (x.flight.find? (fun y => y.seq = seq.toNat) = some g →
        (g.resends < 16 → Gives (exec (.resendTimeout n a seq) s) (fun t =>
          t.num (o4HwtResends n) = (s.num (o4HwtResends n) + 1) % 2 ^ 64 ∧
          (t.assoc n a).rate = Frac.max (Frac.mul x.rate ⟨1, 2⟩) ⟨s.num (o4RateMin n), 1⟩ ∧
          { g with resends := g.resends + 1, sentAt := (late g).wt } ∈ (t.assoc n a).flight ∧ leaves t 7 (g.datagram peer))) ∧
        (16 ≤ g.resends → exec (.resendTimeout n a seq) s = .next ((late g).assocDown n a)))) ∧
    (s.assocUp n a = true → x.unacked ≠ 0 → Gives (exec (.ackTimer n a) s) (fun t => (t.assoc n a).unacked = 0 ∧
      leaves t 5 (s.ackBody n a))) ∧
    (s.assocUp n a = true → x.acksCe = 0 → Gives (exec (.rateUpdate n a) s) (fun t => (t.assoc n a).rate =
      Frac.min (Frac.add x.rate ⟨s.num (o4RateStep n), 1⟩) ⟨s.portRateMb n, 1⟩ ∧ (t.assoc n a).acks = 0)) ∧
    (let why := windowNack b a off m.payload.length true
     oldest 7 → (why ≠ 0 → exec (.remoteWrite n a) s = .next (taken.sendNack n a m.msgId why 7)) ∧
      (why = 0 → room m.payload.length → begun (exec (.remoteWrite n a) s) true m.payload.length)) ∧
    (oldest 9 → (readNack ≠ 0 → exec (.remoteRead n a) s = .next (taken.sendNack n a m.msgId readNack 9)) ∧
      (readNack = 0 → room asked → 0 < asked → begun (exec (.remoteRead n a) s) false asked)) ∧
    ((s.port n).ops.look op = some o → o.write = true → o.parts.all (·.done) = true →
      Gives (exec (.remoteWriteComplete n op) s) (fun t => (t.port n).ops.look op = none)) ∧
    (oldest 8 → named m.msgId 1 → Answers (exec (.writeCompletion n a) s) s q.req 4 m.status [] (fun t => t.dram = s.dram)) ∧
    (oldest 0xA → named m.msgId 0 → Answers (exec (.remoteReadResponse n a) s) s q.req 3 m.status
      (if m.status = 0 then m.payload else []) (fun t => t.dram = s.dram)) ∧
    (oldest 0xF → named (leAt m.payload 0 4) 9 → Gives (exec (.nack n a) s) (fun t =>
      t.num (o4HwtNacksReceived n) = (s.num (o4HwtNacksReceived n) + 1) % 2 ^ 64 ∧
      ∃ y, t.net.packets.look s.net.nextId = some y ∧ y.status = nackStatus (leAt m.payload 4 1) ∧ y.txn = q.req.txn)) ∧
    (a ≤ 63 → (s.assocRefused n data = 0 → Gives (exec (.assocWrite n a data) s) (fun t => t.assocBytes n a = data ∧
        (t.assoc n a).up = false ∧ (t.assoc n a).flight = [])) ∧
      (s.assocRefused n data ≠ 0 → exec (.assocWrite n a data) s = .next s) ∧
      exec (.windowWrite n a data) s = .next (if s.windowRefused n data = 0 then s.setBlob (windowKey n a) data else s))

/-! ### The dictionary protocol, configuration and identity (spec/11, spec/18) -/

/-- R3, R520 to R530, R539, R540, R543 to R547: the dictionary protocol while the management controller runs. A datagram to a port's own interface,
outside the in-band VLAN, is dropped as one to another UDP port; one at no address of the interface, or that its port did not pass on, is not taken; a malformed one and
one of no session are counted and dropped; a whole request waits to be executed; requests execute in their order, each once, and draw
their reply; a hello of a credential with a role and a key opens a pending session, and its finish with the right proof opens it and with another ends it; a session
ends when it is closed or idle.
The model's choices in it: log entries 5, 141, 142, 146, 169, 187, 229 and 233. -/
def Obligations.DictionaryProtocol : Prop :=
  ∀ (s : State) (src : HdpSource) (d : List Byte) (at_ : BitVec 64) (sid reqId : BitVec 32) (typ : BitVec 8) (x : Session)
    (kem : KemResult) (body : List Byte) (refs : List ObjRef) (es : List WriteEntry) (ref : ObjRef)
    (rest : List (HdpSource × Nat × Nat × Nat × List Byte)),
    let s0 := (s.atTime at_.toNat).takeInband src.ifc
    let part := (d.drop 32).take (hLen d)
    let up := s.msc.booted = true ∧ ifcExists src.ifc = true ∧ s.ifcUp src.ifc = true
    let serves := up ∧ ownPort src.ifc = none ∧ s.mscTakes src = true
    let left : State := { s with hdp := { s.hdp with ready := rest } }
    let front (from_ : HdpSource) (n t : Nat) (b : List Byte) := s.hdp.ready = (from_, n, reqId.toNat, t, b) :: rest
    let runs (t : Nat) (b : List Byte) := s.session sid.toNat = some x ∧ x.open_ = true ∧ x.kept reqId.toNat = none ∧
      front x.src sid.toNat t b
    (∀ n, up → src.ifc = .port n → exec (.hdpFragment src d at_) s = .next (s0.dropFrame n 6)) ∧
    (up → ownPort src.ifc = none → s.mscTakes src = false → exec (.hdpFragment src d at_) s = .next s) ∧
    (serves → datagramOk d = false → exec (.hdpFragment src d at_) s = .next (s0.addNum o0HdpMalformed 1)) ∧
    (serves → datagramOk d = true → freeType (hType d) = false → s.session (hSid d) = none →
      exec (.hdpFragment src d at_) s = .next (s0.addNum o0HdpAuthFailures 1)) ∧
    (serves → datagramOk d = true → freeType (hType d) = true → hCount d = 1 → s.hdp.msgs = [] → hTotal d = hLen d →
      bodyOk (hType d) part = true → s.session (hSid d) = none →
      Gives (exec (.hdpFragment src d at_) s) (fun t =>
        t.hdp.ready = s.hdp.ready ++ [(src, hSid d, hReq d, hType d, part)] ∧ t.hdp.sessions = s.hdp.sessions)) ∧
    (Gives (exec (.fragmentTimeout src sid reqId typ) s) (fun t => ∀ m, m ∈ t.hdp.msgs ↔ m ∈ s.hdp.msgs ∧
      ¬(m.src = src ∧ m.sid = sid.toNat ∧ m.reqId = reqId.toNat ∧ m.typ = typ.toNat))) ∧
    (ifcExists src.ifc = true → front src 0 1 [] → exec (.identityRequest src reqId) s = .next
      (left.sendHdp src (replyDatagrams 2 0 0 reqId.toNat 0 certificate none))) ∧
    (ifcExists src.ifc = true → front src 0 3 body → s.idFree kem.sid.toNat = true → s.helloCount < 20 →
      s.helloRefused (beAt body 0x20 2) = 0 → s.kemAgrees body kem = true → Gives (exec (.hello src reqId body kem) s) (fun t =>
        ∃ y, t.session kem.sid.toNat = some y ∧ y.open_ = false ∧ y.src = src ∧ y.cred = beAt body 0x20 2 ∧
          y.since = s.wt)) ∧
    (s.session sid.toNat = some x → x.open_ = false → front x.src sid.toNat 5 x.proof →
      Gives (exec (.finish sid reqId x.proof) s) (fun t => t.num (o7CredLastUsed x.cred) = s.wt ∧
        ∃ y, t.session sid.toNat = some y ∧ y.open_ = true ∧ y.cred = x.cred)) ∧
    (s.session sid.toNat = some x → x.open_ = false → front x.src sid.toNat 5 body → body ≠ x.proof →
      Gives (exec (.finish sid reqId body) s) (fun t => t.session sid.toNat = none ∧
        t.num o0HdpAuthFailures = (s.num o0HdpAuthFailures + 1) % 2 ^ 64)) ∧
    (s.session sid.toNat = some x →
      (x.open_ = false → exec (.pendingSessionTimeout sid) s = .next (s.endSession sid.toNat)) ∧
      (x.open_ = true → exec (.sessionIdleTimeout sid) s = .next (s.endSession sid.toNat)) ∧
      (s.endSession sid.toNat).session sid.toNat = none) ∧
    (runs 0x14 [] → Gives (exec (.close sid reqId) s) (fun t => t.session sid.toNat = none ∧ t.hdp.ready = rest)) ∧
    (runs 0x10 (readBody refs) → let t := State.readAll left (19200 - 12) false refs
      exec (.read sid reqId refs) s = .next (t.1.answer x 0x90 reqId.toNat 0
        (beBytes 8 (s.num o0MarkLast) ++ beBytes 2 refs.length ++ beBytes 2 0 ++ t.2))) ∧
    (runs 0x11 (writeBody es) → let t := State.writeAll left x reqId.toNat 0 es
      exec (.write sid reqId es) s = .next (t.1.answer x 0x91 reqId.toNat 0
        (beBytes 2 es.length ++ beBytes 2 0 ++ t.2))) ∧
    (runs 0x12 (refBytes ref) → let l := s.objectsFrom ref.scope.toNat ref.inst.toNat ref.ext.toNat
      exec (.list sid reqId ref) s = .next (left.answer x 0x92 reqId.toNat 0
        ((l.take 512).flatMap (beBytes 2) ++ beBytes 2 (if 512 < l.length then 0xFFFF else 0)))) ∧
    (runs 0x13 (refBytes ref) → exec (.describe sid reqId ref) s = .next (left.answer x 0x93 reqId.toNat 0
      (s.describe ref.scope.toNat ref.inst.toNat ref.num.toNat)))

/-- R530, R538, R551, R552, R690, R691, R694, R704, R709 to R711, R716, R719, R728, R742: configuration, credentials, identity and availability. While the
flash takes writes: a save stores the configuration and a clear removes it; a new key, or a role that leaves a custodian,
ends the sessions of its credential; a commit raises the security version; an acceptance stores the slot; and a decommissioning of the module that it names, with
no graph loaded, erases what its owner stored. An attestation is captured, signed and counted; and each millisecond in which fewer than eleven
regions serve counts as excluded or as unavailable.
The model's choices in it: log entries 5, 137, 138 and 200. -/
def Obligations.ConfigurationAndIdentity : Prop :=
  ∀ (s : State) (c : Nat) (role : BitVec 8) (sid : BitVec 32) (key nonce sig digest : List Byte) (x : Session) (sa sb b : Bool),
    let svn := max (s.num o7SvnCounter) (fiSvn s.msc.image)
    let rev := s.num o7KeysRevoked ||| fiRevoke s.msc.image % 4096
    let serving := (List.range 12).filter s.regionServes
    let next (k : Nat) := (s.num k + 1) % 2 ^ 64
    (s.inhibited = false →
      Gives (exec (.configSave 1) s) (fun t => t.msc.saved = some s.savedDict ∧ t.num o0ConfigSavedTime = s.wt) ∧
      Gives (exec (.configClear 1) s) (fun t => t.msc.saved = none ∧ t.num o0ConfigSavedTime = 0) ∧
      (1 ≤ c → c ≤ 32 → key.length = 32 → Gives (exec (.credKey c key) s) (fun t => t.credKey c = some key ∧
        ∀ y, y ∈ t.hdp.sessions ↔ y ∈ s.hdp.sessions ∧ y.cred ≠ c)) ∧
      (1 ≤ c → c ≤ 32 → role.toNat ≤ 4 → (s.setNum (o7CredRole c) role.toNat).custodianRemains = true →
        Gives (exec (.credRole c role) s) (fun t => t.num (o7CredRole c) = role.toNat ∧
          ∀ y, y ∈ t.hdp.sessions ↔ y ∈ s.hdp.sessions ∧ y.cred ≠ c)) ∧
      (1 ≤ c → c ≤ 32 → (s.setNum (o7CredRole c) role.toNat).custodianRemains = false →
        exec (.credRole c role) s = .next s) ∧
      (svn ≠ s.num o7SvnCounter ∨ rev ≠ s.num o7KeysRevoked → Gives (exec (.svnCommit 1) s) (fun t =>
        t.num o7SvnCounter = svn ∧ t.num o7KeysRevoked = rev)) ∧
      (s.num o0SlotId ≠ 0 → Gives (exec (.slotAccept 1) s) (fun t => t.msc.slotStored = some (s.num o0SlotId) ∧
        t.num o0SlotChanged = 0)) ∧
      (digest = idDigest → digest.length = 32 → (∀ p, p < 12 → s.num (o6GraphState p) ≠ 2) →
        Gives (exec (.decommission digest sa sb) s) (fun t => t.msc.credKeys = [] ∧ t.msc.licences = [] ∧
          t.msc.saved = none ∧ t.msc.slotStored = none ∧ t.cores = [])) ∧
      (digest ≠ idDigest → exec (.decommission digest sa sb) s = .next s)) ∧
    (s.session sid.toNat = some x → exec (.sessionKill sid) s = .next (s.endSession sid.toNat)) ∧
    (s.session sid.toNat = none → exec (.sessionKill sid) s = .next s) ∧
    (nonce.length = 32 → s.num o7AttestState = 0 → Gives (exec (.attestRequest nonce) s) (fun t =>
      t.num o7AttestState = 1 ∧ t.msc.attest = s.attestBody nonce)) ∧
    (s.num o7AttestState = 1 → exec (.attestRequest nonce) s = .next s ∧ Gives (exec (.attestSigned sig) s) (fun t =>
      t.num o7AttestState = 2 ∧ t.blob o7AttestReport = s.msc.attest ++ padTo 16224 sig ∧ t.num o7Attests = next o7Attests)) ∧
    exec (.interlockChange b) s = .next (s.setNum o0InterlockClosed (b2n b)) ∧
    (s.msc.booted = true → nbit (s.num o0MgtLink) (b2n b) = false → exec (.mgtLinkChange b true) s = .next
      (s.setNum o0MgtLink (s.num o0MgtLink + 2 ^ b2n b))) ∧
    (nbit (s.num o0MgtLink) (b2n b) = true → exec (.mgtLinkChange b false) s = .next
      (s.setNum o0MgtLink (s.num o0MgtLink - 2 ^ b2n b))) ∧
    (Gives (exec (.availClear 1) s) (fun t => t.num o0UnavailNs = 0 ∧ t.num o0ExcludedNs = 0 ∧ t.num o0AvailSince = s.wt)) ∧
    (Gives (exec .availabilityTick s) (fun t => t.num o0RegionsServing = serving.length ∧
      (11 ≤ serving.length → t.num o0UnavailNs = s.num o0UnavailNs ∧ t.num o0ExcludedNs = s.num o0ExcludedNs) ∧
      (serving.length < 11 → t.num o0UnavailNs + t.num o0ExcludedNs = s.num o0UnavailNs + s.num o0ExcludedNs + 1000000 ∨
        2 ^ 64 ≤ s.num o0UnavailNs + 1000000 ∨ 2 ^ 64 ≤ s.num o0ExcludedNs + 1000000)))

/-! ### The block as a whole -/

/-- The queue (R516, R539: what the outside does to the module, one command at a time): with a command at the front, a step is the command's effect over the rest of the queue; with an empty
queue the block idles, which is the model's choice (log entry 1). -/
def Obligations.StepTakesTheFrontCommand : Prop :=
  ∀ (c : Instr) (s : State) (rest : List Instr),
    (s.pending = c :: rest → step s = exec c { s with pending := rest }) ∧
    step (s.command c) = exec c s ∧ (s.pending = [] → step s = .next s)

/-- R20, R21, R41: every command on units that the module has completes with a next state, and a command on a unit that it does not have
stops, whatever the state.
The model's choices in it: log entry 5. -/
def Obligations.CommandsCompleteOnTheirUnits : Prop :=
  ∀ (c : Instr) (s : State), (c.wf = true → Gives (exec c s) (fun _ => True)) ∧
    (c.wf = false → exec c s = .fault .noSuchUnit)

/-- What a module reset leaves. The spec gives it: R156 for a core's registers, counters and tile registers, R164, R152 and R211 for its control
registers, R156 for its sequencer, R275 and R357 for the routers, R585 and R586 for the clock units, and R667 for `START_PHASE` 0. The model's
choices are that DRAM, core store and cluster memory read as zero (log entry 3), and that the queue is empty. -/
def Obligations.ResetState : Prop :=
  let s := State.reset
  s.pending = [] ∧ s.num o0StartPhase = 0 ∧ s.msc.booted = false ∧ s.hdp = Hdp.reset ∧ s.net = Net.reset ∧
  (∀ c, c < 258048 → let k := s.core c
    k.run = false ∧ k.firing = false ∧ k.faulted = false ∧ k.pc = 0 ∧ k.log.valid = false ∧
      k.seqCtrl = 0x00004002#32 ∧ k.retainCtrl = 0 ∧ (∀ r, k.s r = 0) ∧
      (∀ n, Sparse.rd k.cnt n = 0 ∧ Sparse.rd k.counts n = 0 ∧ Sparse.rd k.store n = 0) ∧
      ∀ t, (k.tile t).null = false ∧ (k.tile t).fmt = 1 ∧ (k.tile t).tag = 0) ∧
  (∀ k, k < 8064 → let x := s.cluster k
    x.spCtrl = 0 ∧ x.frameLen = 0 ∧ x.mpCtrl = 0x0008000E#32 ∧ x.cache = [] ∧ ∀ n, Sparse.rd x.cmem n = 0) ∧
  (∀ f, f < 84 → (s.clk f).fabricD = 256 ∧ (s.clk f).target = 256 ∧ (s.clk f).parent = 7 ∧ (s.clk f).root = false ∧
    (s.clk f).slip = false) ∧
  (∀ n, Sparse.rd s.dram.mem n = 0) ∧ s.wf

/-- The memories keep their canonical form: whatever command a step takes, in whatever state with canonical memories, the state
after it has canonical memories, and the queue has lost its front and nothing else. The form of a memory is the model's (log
entry 3), so that equal memories are equal data. -/
def Obligations.EveryStepKeepsCanonicalMemories : Prop :=
  ∀ (s t : State), s.wf → step s = .next t → t.wf ∧ t.pending = s.pending.tail
end

