-- ==== Sys2Proof/Laws/Memory.lean ====
section
/-! SUPPORT. What the keyed maps and the sparse memories of the state do: reads after writes, and that every operation
keeps the canonical form. -/

namespace Sys2Proof.Machine

variable {α β : Type} {w : Nat}

/-! ### Keyed maps -/

theorem SMap.look_put (m : SMap α) (k k' : Nat) (v : α) :
    (m.put k v).look k' = if k' = k then some v else m.look k' := by
  induction m with
  | nil => simp [put, look]
  | cons p r ih =>
    obtain ⟨a, x⟩ := p
    simp only [put]
    split
    · simp only [look]
    · split
      · subst k; simp only [look]; split <;> rfl
      · rename_i h1 h2
        simp only [look, ih]
        by_cases h3 : k' = a
        · subst h3; simp [Ne.symm h2]
        · simp [h3]

@[simp] theorem SMap.look_put_same (m : SMap α) (k : Nat) (v : α) : (m.put k v).look k = some v := by simp [look_put]

theorem SMap.look_put_ne {m : SMap α} {k k' : Nat} {v : α} (h : k' ≠ k) : (m.put k v).look k' = m.look k' := by
  simp [look_put, h]

@[simp] theorem SMap.get_put_same (m : SMap α) (d : α) (k : Nat) (v : α) : (m.put k v).get d k = v := by simp [get]

theorem SMap.get_put_ne {m : SMap α} {d : α} {k k' : Nat} {v : α} (h : k' ≠ k) : (m.put k v).get d k' = m.get d k' := by
  simp [get, look_put_ne h]

theorem SMap.look_mapV (m : SMap α) (f : α → β) (k : Nat) : (m.mapV f).look k = (m.look k).map f := by
  induction m with
  | nil => rfl
  | cons p r ih => simp only [mapV, List.map, look] at *; split <;> simp_all

theorem SMap.look_del (m : SMap α) (k k' : Nat) : (m.del k).look k' = if k' = k then none else m.look k' := by
  induction m with
  | nil => simp [del, look]
  | cons p r ih =>
    simp only [del, List.filter] at *
    by_cases h : p.1 = k <;> by_cases h' : k' = p.1 <;> simp_all [look]

/-- A property of every value survives the writing of one that has it. -/
theorem SMap.all_put {P : α → Prop} {m : SMap α} {k : Nat} {v : α} (h : ∀ p ∈ m, P p.2) (hv : P v) :
    ∀ p ∈ m.put k v, P p.2 := by
  induction m with
  | nil => simpa [put] using hv
  | cons q r ih =>
    have h1 := h q (by simp)
    have h2 := ih (fun p hp => h p (by simp [hp]))
    intro p hp
    simp only [put] at hp
    split at hp
    · rcases List.mem_cons.1 hp with rfl | hp
      · exact hv
      · exact h p hp
    · split at hp
      · rcases List.mem_cons.1 hp with rfl | hp
        · exact hv
        · exact h p (by simp [hp])
      · rcases List.mem_cons.1 hp with rfl | hp
        · exact h1
        · exact h2 p hp

/-- What every listed value and the default have, the value at any key has. -/
theorem SMap.get_of_all {P : α → Prop} {m : SMap α} {d : α} {k : Nat} (h : ∀ p ∈ m, P p.2) (hd : P d) :
    P (m.get d k) := by
  induction m with
  | nil => exact hd
  | cons p r ih =>
    simp only [get, look] at *
    split
    · exact h p (by simp)
    · exact ih (fun q hq => h q (by simp [hq]))

theorem SMap.all_mapV {P : α → Prop} {f : α → α} {m : SMap α} (h : ∀ p ∈ m, P p.2) (hf : ∀ x, P x → P (f x)) :
    ∀ p ∈ m.mapV f, P p.2 := by
  intro p hp
  obtain ⟨q, hq, rfl⟩ := List.mem_map.1 hp
  exact hf _ (h q hq)

/-! ### The canonical form -/

/-- The keys of a list rise strictly. -/
theorem SMap.wf_iff (m : SMap α) : m.wf = true ↔ m.Pairwise (fun a b => a.1 < b.1) := by
  induction m with
  | nil => simp [wf]
  | cons p r ih =>
    cases r with
    | nil => simp [wf]
    | cons q r =>
      simp only [wf, Bool.and_eq_true, decide_eq_true_eq, ih]
      constructor
      · rintro ⟨h1, h2⟩
        refine List.pairwise_cons.2 ⟨fun a ha => ?_, h2⟩
        rcases List.mem_cons.1 ha with rfl | ha
        · exact h1
        · exact h1.trans ((List.pairwise_cons.1 h2).1 a ha)
      · intro h
        exact ⟨(List.pairwise_cons.1 h).1 q (by simp), (List.pairwise_cons.1 h).2⟩

theorem SMap.mem_put {m : SMap α} {k : Nat} {v : α} {p : Nat × α} (h : p ∈ m.put k v) : p = (k, v) ∨ p ∈ m := by
  induction m with
  | nil => simpa [put] using h
  | cons q r ih =>
    simp only [put] at h
    split at h
    · simpa using h
    · split at h
      · rcases List.mem_cons.1 h with h | h
        · exact .inl h
        · exact .inr (by simp [h])
      · rcases List.mem_cons.1 h with h | h
        · exact .inr (by simp [h])
        · rcases ih h with h | h
          · exact .inl h
          · exact .inr (by simp [h])

theorem SMap.wf_put {m : SMap α} (h : m.wf = true) (k : Nat) (v : α) : (m.put k v).wf = true := by
  rw [wf_iff] at *
  induction m with
  | nil => simp [put]
  | cons q r ih =>
    obtain ⟨h1, h2⟩ := List.pairwise_cons.1 h
    simp only [put]
    split
    · rename_i hk
      refine List.pairwise_cons.2 ⟨fun a ha => ?_, h⟩
      rcases List.mem_cons.1 ha with rfl | ha
      · exact hk
      · exact hk.trans (h1 a ha)
    · split
      · rename_i hk; subst hk
        exact List.pairwise_cons.2 ⟨h1, h2⟩
      · refine List.pairwise_cons.2 ⟨fun a ha => ?_, ih h2⟩
        rcases mem_put ha with rfl | ha
        · simp only; omega
        · exact h1 a ha

theorem Sparse.wf_iff (m : Sparse w) : m.wf = true ↔ m.Pairwise (fun a b => a.1 < b.1) ∧ ∀ p ∈ m, p.2 ≠ 0 := by
  simp [wf, SMap.wf_iff]

@[simp] theorem Sparse.wf_nil : Sparse.wf ([] : Sparse w) = true := rfl

/-! ### Reads and writes of one word -/

theorem Sparse.rd_eq (m : Sparse w) (a : Nat) : m.rd a = (SMap.look m a).getD 0 := by
  induction m with
  | nil => rfl
  | cons p r ih => simp only [rd, SMap.look]; split <;> simp_all

/-- A read after a write: the word written at its address, and every other word as it was. -/
theorem Sparse.rd_wr (m : Sparse w) (a b : Nat) (x : BitVec w) : (m.wr a x).rd b = if b = a then x else m.rd b := by
  simp only [rd_eq, wr]
  split
  · have := SMap.look_del m a b
    simp only [SMap.del] at this
    rw [this]; split <;> simp_all
  · rw [SMap.look_put]; split <;> simp_all

@[simp] theorem Sparse.rd_wr_same (m : Sparse w) (a : Nat) (x : BitVec w) : (m.wr a x).rd a = x := by simp [rd_wr]

theorem Sparse.rd_wr_ne {m : Sparse w} {a b : Nat} {x : BitVec w} (h : b ≠ a) : (m.wr a x).rd b = m.rd b := by
  simp [rd_wr, h]

/-- A write keeps the canonical form. -/
theorem Sparse.wf_wr {m : Sparse w} (h : m.wf = true) (a : Nat) (x : BitVec w) : (m.wr a x).wf = true := by
  rw [wf_iff] at *
  simp only [wr]
  split
  · exact ⟨h.1.filter _, fun p hp => h.2 p (List.mem_filter.1 hp).1⟩
  · rename_i hx
    refine ⟨(SMap.wf_iff _).1 (SMap.wf_put ((SMap.wf_iff _).2 h.1) _ _), fun p hp => ?_⟩
    rcases SMap.mem_put hp with rfl | hp
    · exact hx
    · exact h.2 p hp

theorem Sparse.wf_wrN {m : Sparse w} (h : m.wf = true) (a : Nat) (l : List (BitVec w)) : (m.wrN a l).wf = true := by
  induction l generalizing m a with
  | nil => exact h
  | cons x r ih => exact ih (wf_wr h a x) _

theorem Mem.wf_wrLe {m : Mem} (h : Sparse.wf m = true) (a n v : Nat) : Sparse.wf (m.wrLe a n v) = true :=
  Sparse.wf_wrN h a _

/-! ### Blocks of words -/

theorem Sparse.mem_ofList {l : List (BitVec w)} {a : Nat} {p : Nat × BitVec w} (h : p ∈ ofList a l) :
    a ≤ p.1 ∧ p.1 < a + l.length ∧ p.2 ≠ 0 := by
  induction l generalizing a with
  | nil => simp [ofList] at h
  | cons x r ih =>
    simp only [ofList] at h
    split at h
    · obtain ⟨h1, h2, h3⟩ := ih h
      exact ⟨by omega, by simp only [List.length_cons]; omega, h3⟩
    · rename_i hx
      rcases List.mem_cons.1 h with rfl | h
      · exact ⟨by simp, by simp, hx⟩
      · obtain ⟨h1, h2, h3⟩ := ih h
        exact ⟨by omega, by simp only [List.length_cons]; omega, h3⟩

theorem Sparse.wf_ofList (a : Nat) (l : List (BitVec w)) : Sparse.wf (ofList a l) = true := by
  rw [wf_iff]
  refine ⟨?_, fun p hp => (mem_ofList hp).2.2⟩
  induction l generalizing a with
  | nil => exact List.Pairwise.nil
  | cons x r ih =>
    simp only [ofList]
    split
    · exact ih _
    · exact List.pairwise_cons.2 ⟨fun p hp => (mem_ofList hp).1, ih _⟩

theorem Sparse.rd_append (l r : Sparse w) (b : Nat) : rd (l ++ r) b = if (SMap.look l b).isSome then rd l b else rd r b := by
  induction l with
  | nil => simp [SMap.look]
  | cons p t ih => simp only [List.cons_append, rd, SMap.look]; split <;> simp_all

theorem SMap.look_filter (m : SMap α) (f : Nat → Bool) (b : Nat) :
    look (m.filter (fun p => f p.1)) b = if f b then look m b else none := by
  induction m with
  | nil => simp [look]
  | cons p r ih =>
    simp only [List.filter]
    by_cases h : f p.1 <;> by_cases h' : b = p.1 <;> simp_all [look]

theorem Sparse.rd_ofList (l : List (BitVec w)) (a b : Nat) :
    rd (ofList a l) b = if a ≤ b then l.getD (b - a) 0 else 0 := by
  induction l generalizing a with
  | nil => simp [ofList, rd]
  | cons x r ih =>
    have hb : a + 1 ≤ b → b - a = (b - (a + 1)) + 1 := by omega
    simp only [ofList]
    split
    · rename_i hx
      rw [ih]
      by_cases h : b = a
      · subst h; simp [hx]
      · by_cases h2 : a + 1 ≤ b
        · rw [if_pos h2, if_pos (by omega), hb h2]; rfl
        · rw [if_neg h2, if_neg (by omega)]
    · simp only [rd, ih]
      split
      · subst b; simp
      · by_cases h2 : a + 1 ≤ b
        · rw [if_pos h2, if_pos (by omega), hb h2]; rfl
        · rw [if_neg h2, if_neg (by omega)]

theorem Sparse.look_mem {m : Sparse w} {b : Nat} {v : BitVec w} (h : SMap.look m b = some v) : (b, v) ∈ m := by
  induction m with
  | nil => simp [SMap.look] at h
  | cons p r ih =>
    obtain ⟨k, x⟩ := p
    simp only [SMap.look] at h
    split at h
    · rename_i hb; subst hb; simp at h; simp [h]
    · exact List.mem_cons_of_mem _ (ih h)

/-- A block write: its own words where it lies, and every other word as it was. -/
theorem Sparse.rd_blit (m : Sparse w) (a b : Nat) (l : List (BitVec w)) :
    (m.blit a l).rd b = if a ≤ b ∧ b < a + l.length then l.getD (b - a) 0 else m.rd b := by
  have h1 := SMap.look_filter m (fun k => decide (k < a)) b
  have h3 := SMap.look_filter m (fun k => decide (a + l.length ≤ k)) b
  have h2 := rd_ofList l a b
  have h4 : ∀ v, SMap.look (ofList a l) b = some v → a ≤ b ∧ b < a + l.length :=
    fun v hv => ⟨(mem_ofList (look_mem hv)).1, (mem_ofList (look_mem hv)).2.1⟩
  have e1 : rd (m.filter (fun p => decide (p.1 < a))) b = if b < a then rd m b else 0 := by
    rw [rd_eq, h1, rd_eq]; by_cases c : b < a <;> simp [c]
  have e3 : rd (m.filter (fun p => decide (a + l.length ≤ p.1))) b = if a + l.length ≤ b then rd m b else 0 := by
    rw [rd_eq, h3, rd_eq]; by_cases c : a + l.length ≤ b <;> simp [c]
  rw [blit, List.append_assoc, rd_append, rd_append, h1, e1, e3, h2]
  have e : rd m b = (SMap.look m b).getD 0 := rd_eq m b
  by_cases c1 : b < a
  · have c2 : ¬ a + l.length ≤ b := by omega
    have c3 : ¬ (a ≤ b ∧ b < a + l.length) := by omega
    have c4 : SMap.look (ofList a l) b = none := by
      cases hm : SMap.look (ofList a l) b with
      | none => rfl
      | some v => exact absurd (h4 v hm) c3
    cases hm : SMap.look m b <;> simp [c1, c2, c3, c4, e, hm]
  · by_cases c2 : b < a + l.length
    · have c3 : a ≤ b := by omega
      have c4 : ¬ a + l.length ≤ b := by omega
      have e2 : rd (ofList a l) b = (SMap.look (ofList a l) b).getD 0 := rd_eq _ b
      rw [h2, if_pos c3] at e2
      cases hm : SMap.look (ofList a l) b with
      | none => rw [hm] at e2; simp [c1, c2, c3, c4]; simpa using e2.symm
      | some v => simp [c1, c2, c3]
    · have c3 : a + l.length ≤ b := by omega
      have c4 : SMap.look (ofList a l) b = none := by
        cases hm : SMap.look (ofList a l) b with
        | none => rfl
        | some v => exact absurd (h4 v hm).2 c2
      simp [c1, c2, c3, c4]

theorem Sparse.wf_blit {m : Sparse w} (h : m.wf = true) (a : Nat) (l : List (BitVec w)) : (m.blit a l).wf = true := by
  have ho := wf_ofList a l
  rw [wf_iff] at *
  simp only [blit]
  constructor
  · refine List.pairwise_append.2 ⟨List.pairwise_append.2 ⟨h.1.filter _, ho.1, ?_⟩, h.1.filter _, ?_⟩
    · intro p hp q hq
      have := (mem_ofList hq).1
      have := (List.mem_filter.1 hp).2
      simp at this; omega
    · intro p hp q hq
      have h2 := (List.mem_filter.1 hq).2
      simp at h2
      rcases List.mem_append.1 hp with hp | hp
      · have := (List.mem_filter.1 hp).2
        simp at this; omega
      · have := mem_ofList hp; omega
  · intro p hp
    rcases List.mem_append.1 hp with hp | hp
    · rcases List.mem_append.1 hp with hp | hp
      · exact h.2 p (List.mem_filter.1 hp).1
      · exact ho.2 p hp
    · exact h.2 p (List.mem_filter.1 hp).1

theorem Sparse.rd_dropWhile {m : Sparse w} (h : m.wf = true) {a b : Nat} (hb : a ≤ b) :
    rd (m.dropWhile (fun p => p.1 < a)) b = rd m b := by
  induction m with
  | nil => rfl
  | cons p r ih =>
    have hr : Sparse.wf r = true := by
      rw [wf_iff] at *; exact ⟨(List.pairwise_cons.1 h.1).2, fun q hq => h.2 q (by simp [hq])⟩
    simp only [List.dropWhile]
    split
    · rename_i hp
      simp at hp
      rw [ih hr]; simp only [rd]; rw [if_neg (by omega)]
    · rfl

theorem Sparse.wf_dropWhile {m : Sparse w} (h : m.wf = true) (f : Nat × BitVec w → Bool) :
    Sparse.wf (m.dropWhile f) = true := by
  rw [wf_iff] at *
  have hs := List.dropWhile_sublist (l := m) f
  exact ⟨h.1.sublist hs, fun p hp => h.2 p (hs.subset hp)⟩

/-- On a canonical memory the one-walk read gives the words one by one. -/
theorem Sparse.dense_eq_rdN {m : Sparse w} (h : m.wf = true) (a n : Nat) : m.dense a n = m.rdN a n := by
  induction n generalizing m a with
  | zero => rfl
  | succ n ih =>
    have hd := wf_dropWhile h (fun p => decide (p.1 < a))
    have e : ∀ b, a ≤ b → rd (m.dropWhile (fun p => decide (p.1 < a))) b = rd m b := fun b hb => rd_dropWhile h hb
    have rdN_congr : ∀ (n a' : Nat) (m1 m2 : Sparse w), (∀ b, a' ≤ b → rd m1 b = rd m2 b) → rdN m1 a' n = rdN m2 a' n := by
      intro n
      induction n with
      | zero => intros; rfl
      | succ n ih2 =>
        intro a' m1 m2 hm
        simp only [rdN]
        rw [hm a' (Nat.le_refl _), ih2 (a' + 1) m1 m2 (fun b hb => hm b (by omega))]
    simp only [dense, rdN]
    revert hd e
    generalize hm : m.dropWhile (fun p => decide (p.1 < a)) = m'
    intro hd e
    cases m' with
    | nil =>
      have z : ∀ n a', a ≤ a' → rdN m a' n = List.replicate n 0 := by
        intro n
        induction n with
        | zero => intros; rfl
        | succ n ih2 =>
          intro a' ha
          simp only [rdN, List.replicate]
          rw [ih2 (a' + 1) (by omega), ← e a' ha]; rfl
      rw [z n (a + 1) (by omega), ← e a (Nat.le_refl _)]
      rfl
    | cons p r =>
      obtain ⟨a', v⟩ := p
      have ha' : a ≤ a' := by
        have : ∀ l : Sparse w, l.dropWhile (fun p => decide (p.1 < a)) = (a', v) :: r → a ≤ a' := by
          intro l
          induction l with
          | nil => simp
          | cons q t ih3 =>
            simp only [List.dropWhile]
            split
            · exact ih3
            · rename_i hq
              intro h3
              injection h3 with h3 h4
              subst h3
              simpa using hq
        exact this m hm
      have hr : Sparse.wf r = true := by
        rw [wf_iff] at *; exact ⟨(List.pairwise_cons.1 hd.1).2, fun q hq => hd.2 q (by simp [hq])⟩
      simp only
      split
      · rename_i h1
        subst h1
        rw [← e a' (Nat.le_refl _), ih hr]
        simp only [rd, if_true]
        rw [rdN_congr n (a' + 1) r m]
        intro b hb
        rw [← e b (by omega)]; simp only [rd]; rw [if_neg (by omega)]
      · rename_i h1
        rw [ih hd, ← e a (Nat.le_refl _)]
        simp only [rd]
        rw [if_neg (fun h => h1 h.symm), rdN_congr n (a + 1) _ m (fun b hb => e b (by omega))]
        have : rd r a = 0 := by
          have : ∀ q ∈ r, a < q.1 := by
            intro q hq
            rw [wf_iff] at hd
            have := (List.pairwise_cons.1 hd.1).1 q hq
            simp at this; omega
          clear hd hr e hm
          induction r with
          | nil => rfl
          | cons q t ih3 =>
            simp only [rd]
            have this' := this
            have := this q (by simp)
            rw [if_neg (by omega)]
            exact ih3 (fun p hp => this' p (List.mem_cons_of_mem _ hp))
        rw [this]

theorem Sparse.rdN_getD (m : Sparse w) (a n j : Nat) (h : j < n) : (m.rdN a n).getD j 0 = m.rd (a + j) := by
  induction n generalizing a j with
  | zero => omega
  | succ n ih =>
    cases j with
    | zero => rfl
    | succ j =>
      simp only [rdN, List.getD_cons_succ]
      rw [ih _ _ (by omega)]
      congr 1; omega

end Sys2Proof.Machine
end

