-- ==== Sys2Proof/Laws/Keeps.lean ====
section
/-! SUPPORT. What every run keeps, in the form that carries from one operation to the next: the queue is some list, and the
addressed memories are canonical. -/

namespace Sys2Proof.Machine

/-- The queue of a state is `q`, and its memories are canonical. -/
def Good (q : List Instr) (s : State) : Prop := s.pending = q ∧ s.wf

/-- The core that an instruction leaves has a canonical store. -/
def Ran.sw : Ran → Prop
  | .done k => Sparse.wf k.store = true
  | .jump k _ => Sparse.wf k.store = true
  | .fault k _ _ => Sparse.wf k.store = true
  | .wait => True
  | .block => True

/-- Every state that an outcome gives is good. -/
def OutGood (q : List Instr) (o : Out) : Prop := ∀ t, o = .next t → Good q t

variable {q : List Instr} {s t : State} {k : Core} {x : Cluster} {r : Ran} {p : Prop} [Decidable p]

/-! ### States -/

theorem Good.of_eq {pe : List Instr} {free wt wtFrac : Nat} {cores : SMap Core} {clusters : SMap Cluster} {net : Net} {dram : Dram}
    {fields : SMap FieldSt} {parts : SMap PartSt} {ports : SMap PortSt} {sent : List Sent} {clocks : Clocks}
    {regions : SMap RegionSt} {power : Power} {hdp : Hdp} {msc : Msc} {fabric : Nat} {dict : Dict} (h : Good q s)
    (hp : pe = s.pending) (hc : cores = s.cores) (hk : clusters = s.clusters) (hd : dram.mem = s.dram.mem) :
    Good q ⟨pe, free, wt, wtFrac, cores, clusters, net, dram, fields, parts, ports, sent, clocks, regions, power, hdp,
      msc, fabric, dict⟩ := by
  subst hp hc hk
  exact ⟨h.1, hd ▸ h.2.1, h.2.2⟩

theorem Good.ite (h1 : Good q s) (h2 : Good q t) : Good q (if p then s else t) := by split <;> assumption

theorem Good.fst {α : Type} {y : State × α} {b : α} (e : y = (s, b)) (h : Good q y.1) : Good q s := by subst e; exact h
theorem Good.snd {α : Type} {y : α × State} {b : α} (e : y = (b, s)) (h : Good q y.2) : Good q s := by subst e; exact h

theorem Good.ite_some {o : Option State} {t v : State} (e : (if p then some t else o) = some v) (h1 : Good q t)
    (h2 : o = some v → Good q v) : Good q v := by
  split at e
  · cases e
    exact h1
  · exact h2 e

theorem Good.foldl {α : Type} {l : List α} {f : State → α → State} (h : Good q s)
    (hf : ∀ s a, Good q s → Good q (f s a)) : Good q (l.foldl f s) := by
  induction l generalizing s with
  | nil => exact h
  | cons a r ih => exact ih (hf s a h)

theorem Good.foldl1 {α β : Type} {l : List α} {f : State × β → α → State × β} {y : State × β} (h : Good q y.1)
    (hf : ∀ y a, Good q y.1 → Good q (f y a).1) : Good q (l.foldl f y).1 := by
  induction l generalizing y with
  | nil => exact h
  | cons a r ih => exact ih (hf y a h)

/-! ### Cores, clusters, and what an instruction leaves -/

theorem Core.sw_ite {k' : Core} (h1 : Sparse.wf k.store = true) (h2 : Sparse.wf k'.store = true) :
    Sparse.wf (if p then k else k').store = true := by split <;> assumption
theorem Core.sw_fst {α : Type} {y : Core × α} {b : α} (e : y = (k, b)) (h : Sparse.wf y.1.store = true) :
    Sparse.wf k.store = true := by subst e; exact h
theorem Core.sw_snd {α : Type} {y : α × Core} {b : α} (e : y = (b, k)) (h : Sparse.wf y.2.store = true) :
    Sparse.wf k.store = true := by subst e; exact h
theorem Core.sw_foldl {α : Type} {l : List α} {f : Core → α → Core} (h : Sparse.wf k.store = true)
    (hf : ∀ k a, Sparse.wf k.store = true → Sparse.wf (f k a).store = true) : Sparse.wf (l.foldl f k).store = true := by
  induction l generalizing k with
  | nil => exact h
  | cons a r ih => exact ih (hf k a h)

theorem Cluster.mw_ite {x' : Cluster} (h1 : Sparse.wf x.cmem = true) (h2 : Sparse.wf x'.cmem = true) :
    Sparse.wf (if p then x else x').cmem = true := by split <;> assumption
theorem Cluster.mw_fst {α : Type} {y : Cluster × α} {b : α} (e : y = (x, b)) (h : Sparse.wf y.1.cmem = true) :
    Sparse.wf x.cmem = true := by subst e; exact h
theorem Cluster.mw_foldl {α : Type} {l : List α} {f : Cluster → α → Cluster} (h : Sparse.wf x.cmem = true)
    (hf : ∀ x a, Sparse.wf x.cmem = true → Sparse.wf (f x a).cmem = true) : Sparse.wf (l.foldl f x).cmem = true := by
  induction l generalizing x with
  | nil => exact h
  | cons a r ih => exact ih (hf x a h)

theorem Ran.sw_ite {r' : Ran} (h1 : r.sw) (h2 : r'.sw) : (if p then r else r').sw := by split <;> assumption
theorem Ran.sw_snd {α : Type} {y : α × Ran} {b : α} (e : y = (b, r)) (h : y.2.sw) : r.sw := by subst e; exact h
theorem Ran.done_sw (e : r = .done k) (h : r.sw) : Sparse.wf k.store = true := by subst e; exact h
theorem Ran.jump_sw {n : Nat} (e : r = .jump k n) (h : r.sw) : Sparse.wf k.store = true := by subst e; exact h
theorem Ran.fault_sw {a b : Nat} (e : r = .fault k a b) (h : r.sw) : Sparse.wf k.store = true := by subst e; exact h
theorem Ran.sw_done (h : Sparse.wf k.store = true) : (Ran.done k).sw := h
theorem Ran.sw_jump {n : Nat} (h : Sparse.wf k.store = true) : (Ran.jump k n).sw := h
theorem Ran.sw_fault {a b : Nat} (h : Sparse.wf k.store = true) : (Ran.fault k a b).sw := h
theorem Ran.sw_wait : Ran.wait.sw := trivial
theorem Ran.sw_block : Ran.block.sw := trivial

/-! ### Outcomes -/

theorem OutGood.next (h : Good q s) : OutGood q (.next s) := by rintro _ ⟨⟩; exact h
theorem OutGood.fault {f : Fault} : OutGood q (.fault f) := by rintro _ ⟨⟩
theorem OutGood.ite {a b : Out} (h1 : OutGood q a) (h2 : OutGood q b) : OutGood q (if p then a else b) := by
  split <;> assumption

/-! ### Units of a state -/

theorem Core.resetWith_ok {g : Long} : Sparse.wf (Core.resetWith g).store = true := rfl
theorem Core.reset_ok : Sparse.wf Core.reset.store = true := rfl
theorem Cluster.resetWith_ok {g : Word} : Sparse.wf (Cluster.resetWith g).cmem = true := rfl
theorem Cluster.reset_ok : Sparse.wf Cluster.reset.cmem = true := rfl

theorem State.core_ok {c : Nat} (h : Good q s) : Sparse.wf (s.core c).store = true :=
  SMap.get_of_all (P := fun (k : Core) => Sparse.wf k.store = true) h.2.2.1 rfl
theorem State.cluster_ok {c : Nat} (h : Good q s) : Sparse.wf (s.cluster c).cmem = true :=
  SMap.get_of_all (P := fun (x : Cluster) => Sparse.wf x.cmem = true) h.2.2.2 rfl
theorem State.setCore_ok {c : Nat} (h : Good q s) (hk : Sparse.wf k.store = true) : Good q (s.setCore c k) :=
  ⟨h.1, h.2.1, SMap.all_put (P := fun (k : Core) => Sparse.wf k.store = true) h.2.2.1 hk, h.2.2.2⟩
theorem State.setCluster_ok {c : Nat} (h : Good q s) (hx : Sparse.wf x.cmem = true) : Good q (s.setCluster c x) :=
  ⟨h.1, h.2.1, h.2.2.1, SMap.all_put (P := fun (x : Cluster) => Sparse.wf x.cmem = true) h.2.2.2 hx⟩

theorem Good.cores_map {f : Nat × Core → Nat × Core} (h : Good q s) 
    (hf : ∀ p, Sparse.wf p.2.store = true → Sparse.wf (f p).2.store = true) :
    Good q { s with cores := s.cores.map f } := by
  refine ⟨h.1, h.2.1, ?_, h.2.2.2⟩
  intro p hp
  obtain ⟨a, ha, rfl⟩ := List.mem_map.1 hp
  exact hf a (h.2.2.1 a ha)

end Sys2Proof.Machine
end

