-- ==== Sys2Proof/Laws/Frame1.lean ====
section
/-! SUPPORT. What each operation leaves of the queue and of the canonical form of the memories, one lemma for each, callees
first (part 1 of 6). -/

namespace Sys2Proof.Machine

variable {q : List Instr}

theorem State.setField_ok {b0 b1 b2} (h0 : Good q b0) : Good q (State.setField b0 b1 b2) := by
  unfold State.setField
  try dsimp only
  repeat' first
    | with_reducible first
        | assumption
    | fail_if_no_progress with_reducible refine Good.of_eq ?_ rfl rfl rfl rfl

theorem State.modField_ok {b0 b1 b2} (h0 : Good q b0) : Good q (State.modField b0 b1 b2) := by
  unfold State.modField
  try dsimp only
  repeat' with_reducible first
    | assumption | apply State.setField_ok

theorem State.sendMap_ok {b0 b1} (h0 : Good q b0) : Good q (State.sendMap b0 b1) := by
  unfold State.sendMap
  try dsimp only
  repeat' with_reducible first
    | assumption | apply State.modField_ok

theorem State.rewriteMap_ok {b0 b1 b2} (h0 : Good q b0) : Good q (State.rewriteMap b0 b1 b2) := by
  unfold State.rewriteMap
  try dsimp only
  repeat' with_reducible first
    | assumption | apply State.modField_ok | apply State.sendMap_ok | apply Good.ite

theorem State.forgetEdge_ok {b0 b1 b2} (h0 : Good q b0) : Good q (State.forgetEdge b0 b1 b2) := by
  unfold State.forgetEdge
  try dsimp only
  repeat' first
    | with_reducible first
        | assumption | apply State.rewriteMap_ok
    | split

theorem State.clampField_ok {b0 b1} (h0 : Good q b0) : Good q (State.clampField b0 b1) := by
  unfold State.clampField
  try dsimp only
  repeat' with_reducible first
    | intro _ | assumption | apply State.forgetEdge_ok | apply State.rewriteMap_ok | apply Good.foldl

theorem State.setPort_ok {b0 b1 b2} (h0 : Good q b0) : Good q (State.setPort b0 b1 b2) := by
  unfold State.setPort
  try dsimp only
  repeat' first
    | with_reducible first
        | assumption
    | fail_if_no_progress with_reducible refine Good.of_eq ?_ rfl rfl rfl rfl

theorem State.modPort_ok {b0 b1 b2} (h0 : Good q b0) : Good q (State.modPort b0 b1 b2) := by
  unfold State.modPort
  try dsimp only
  repeat' with_reducible first
    | assumption | apply State.setPort_ok

theorem State.setNum_ok {b0 b1 b2} (h0 : Good q b0) : Good q (State.setNum b0 b1 b2) := by
  unfold State.setNum
  try dsimp only
  repeat' first
    | with_reducible first
        | assumption
    | fail_if_no_progress with_reducible refine Good.of_eq ?_ rfl rfl rfl rfl

theorem State.unmark_ok {b0 b1} (h0 : Good q b0) : Good q (State.unmark b0 b1) := by
  unfold State.unmark
  try dsimp only
  repeat' first
    | with_reducible first
        | assumption
    | fail_if_no_progress with_reducible refine Good.of_eq ?_ rfl rfl rfl rfl

theorem State.portGone_ok {b0 b1} (h0 : Good q b0) : Good q (State.portGone b0 b1) := by
  unfold State.portGone
  try dsimp only
  repeat' with_reducible first
    | assumption | apply State.unmark_ok | apply State.modPort_ok | apply State.setNum_ok

theorem State.modCluster_ok {b0 b1 b2} (h0 : Good q b0)
    (h1 : (∀ a1, Sparse.wf (a1).cmem = true → Sparse.wf ((b2 a1)).cmem = true)) :
    Good q (State.modCluster b0 b1 b2) := by
  unfold State.modCluster
  try dsimp only
  repeat' with_reducible first
    | assumption | apply h1 | apply State.setCluster_ok | apply (State.cluster_ok (q := q))
    | apply (State.cluster_ok (q := q))

theorem State.windows_ok {b0} (h0 : Good q b0) : Good q (State.windows b0) := by
  unfold State.windows
  try dsimp only
  repeat' with_reducible first
    | intro _ | assumption | apply State.modCluster_ok | apply Good.ite | apply Good.foldl

theorem State.startQuarantine_ok {b0 b1} (h0 : Good q b0) : Good q (State.startQuarantine b0 b1) := by
  unfold State.startQuarantine
  try dsimp only
  repeat' with_reducible first
    | assumption | apply State.windows_ok | apply State.setNum_ok | apply State.portGone_ok
    | apply State.clampField_ok | apply Good.ite

theorem State.post_ok {b0 b1 b2 b3 b4 b5 b6 b7 b8 b9} (h0 : Good q b0) :
    Good q (State.post b0 b1 b2 b3 b4 b5 b6 b7 b8 b9) := by
  unfold State.post
  try dsimp only
  repeat' first
    | with_reducible first
        | assumption
    | fail_if_no_progress with_reducible refine Good.of_eq ?_ rfl rfl rfl rfl

theorem State.postField_ok {b0 b1 b2 b3 b4 b5 b6} (h0 : Good q b0) :
    Good q (State.postField b0 b1 b2 b3 b4 b5 b6) := by
  unfold State.postField
  try dsimp only
  repeat' with_reducible first
    | assumption | apply State.post_ok

theorem State.failStart_ok {b0 b1 b2} (h0 : Good q b0) : Good q (State.failStart b0 b1 b2) := by
  unfold State.failStart
  try dsimp only
  repeat' with_reducible first
    | assumption | apply State.setNum_ok | apply State.postField_ok | apply State.startQuarantine_ok

theorem State.draw_ok {b0} (h0 : Good q b0) : Good q (State.draw b0).2 := by
  unfold State.draw
  try dsimp only
  repeat' first
    | with_reducible first
        | assumption
    | fail_if_no_progress with_reducible refine Good.of_eq ?_ rfl rfl rfl rfl

theorem State.recordFuse_ok {b0 b1 b2 b3 b4 b5} (h0 : Good q b0) : Good q (State.recordFuse b0 b1 b2 b3 b4 b5) := by
  unfold State.recordFuse
  try dsimp only
  repeat' with_reducible first
    | assumption | apply State.rewriteMap_ok

theorem State.softApplied_ok {b0 b1 b2 b3} (h0 : Good q b0) : Good q (State.softApplied b0 b1 b2 b3) := by
  unfold State.softApplied
  try dsimp only
  repeat' with_reducible first
    | assumption | apply State.draw_ok | apply State.recordFuse_ok | apply State.rewriteMap_ok | apply Good.ite

theorem State.freshCore_ok {b0 b1} (h0 : Good q b0) : Sparse.wf ((State.freshCore b0 b1)).store = true := by
  unfold State.freshCore
  try dsimp only
  repeat' with_reducible first
    | apply Core.resetWith_ok

theorem State.modCore_ok {b0 b1 b2} (h0 : Good q b0)
    (h1 : (∀ a1, Sparse.wf (a1).store = true → Sparse.wf ((b2 a1)).store = true)) :
    Good q (State.modCore b0 b1 b2) := by
  unfold State.modCore
  try dsimp only
  repeat' with_reducible first
    | assumption | apply h1 | apply (State.core_ok (q := q)) | apply State.setCore_ok
    | apply (State.core_ok (q := q))

theorem State.holdUnits_ok {b0 b1 b2} (h0 : Good q b0) : Good q (State.holdUnits b0 b1 b2) := by
  unfold State.holdUnits
  try dsimp only
  repeat' with_reducible first
    | intro _ | assumption | apply State.modCluster_ok | apply State.modCore_ok | apply Good.foldl

theorem onField_ok {b0 b1 b2} (h0 : Good q b1) (h1 : (∀ a1, Good q a1 → Good q (b2 a1))) :
    OutGood q (onField b0 b1 b2) := by
  unfold onField
  try dsimp only
  repeat' with_reducible first
    | assumption | apply h1 | apply OutGood.next | apply OutGood.fault | apply OutGood.ite

theorem execBuiltInTest_ok {b0 b1 b2 b3} (h0 : Good q b3) : OutGood q (execBuiltInTest b0 b1 b2 b3) := by
  unfold execBuiltInTest
  try dsimp only
  repeat' with_reducible first
    | intro _ | assumption | apply State.modField_ok | apply State.sendMap_ok | apply State.setField_ok
    | apply State.holdUnits_ok | apply State.failStart_ok | apply onField_ok | apply State.softApplied_ok
    | apply Good.ite | apply Good.foldl

theorem State.modClk_ok {b0 b1 b2} (h0 : Good q b0) : Good q (State.modClk b0 b1 b2) := by
  unfold State.modClk
  try dsimp only
  repeat' first
    | with_reducible first
        | assumption
    | fail_if_no_progress with_reducible refine Good.of_eq ?_ rfl rfl rfl rfl

theorem State.setBlob_ok {b0 b1 b2} (h0 : Good q b0) : Good q (State.setBlob b0 b1 b2) := by
  unfold State.setBlob
  try dsimp only
  repeat' first
    | with_reducible first
        | assumption
    | fail_if_no_progress with_reducible refine Good.of_eq ?_ rfl rfl rfl rfl

theorem State.plant_ok {b0 b1 b2} (h0 : Good q b0) : Good q (State.plant b0 b1 b2).1 := by
  unfold State.plant
  try dsimp only
  repeat' with_reducible first
    | intro _ | assumption | apply State.setBlob_ok | apply State.modClk_ok | apply Good.foldl

theorem State.plantAll_ok {b0 b1} (h0 : Good q b1) : Good q (State.plantAll b0 b1) := by
  induction b0 generalizing b1 with
  | zero => exact h0
  | succ n ih =>
    unfold State.plantAll
    dsimp only
    split
    · exact State.plant_ok h0
    · exact ih (Good.foldl (State.plant_ok h0) fun s f h => State.postField_ok (State.startQuarantine_ok h))

theorem Cluster.setMpCtrl_ok {b0 b1 b2} (h0 : Sparse.wf (b0).cmem = true) :
    Sparse.wf ((Cluster.setMpCtrl b0 b1 b2)).cmem = true := by
  unfold Cluster.setMpCtrl
  try dsimp only
  repeat' with_reducible first
    | assumption

theorem Cluster.setMpObj_ok {b0 b1 b2 b3} (h0 : Sparse.wf (b0).cmem = true) :
    Sparse.wf ((Cluster.setMpObj b0 b1 b2 b3)).cmem = true := by
  unfold Cluster.setMpObj
  try dsimp only
  repeat' first
    | with_reducible first
        | assumption | apply Cluster.setMpCtrl_ok
    | split

theorem State.setRouters_ok {b0 b1 b2} (h0 : Good q b0) : Good q (State.setRouters b0 b1 b2) := by
  unfold State.setRouters
  try dsimp only
  repeat' with_reducible first
    | intro _ | assumption | apply State.modCluster_ok | apply Cluster.setMpObj_ok | apply Good.foldl

theorem State.startRouters_ok {b0 b1} (h0 : Good q b0) : Good q (State.startRouters b0 b1) := by
  unfold State.startRouters
  try dsimp only
  repeat' with_reducible first
    | intro _ | assumption | apply State.modCluster_ok | apply State.setRouters_ok | apply Cluster.setMpCtrl_ok
    | apply Good.foldl

theorem State.runIsland_ok {b0 b1 b2} (h0 : Good q b0) : Good q (State.runIsland b0 b1 b2) := by
  unfold State.runIsland
  try dsimp only
  repeat' first
    | with_reducible first
        | assumption | apply Good.ite
    | fail_if_no_progress with_reducible refine Good.of_eq ?_ rfl rfl rfl rfl

theorem State.atFabric_ok {b0 b1 b2} (h0 : Good q b0) : Good q (State.atFabric b0 b1 b2) := by
  unfold State.atFabric
  try dsimp only
  repeat' with_reducible first
    | assumption | apply State.runIsland_ok

theorem State.atTime_ok {b0 b1} (h0 : Good q b0) : Good q (State.atTime b0 b1) := by
  unfold State.atTime
  try dsimp only
  repeat' first
    | with_reducible first
        | assumption
    | fail_if_no_progress with_reducible refine Good.of_eq ?_ rfl rfl rfl rfl

theorem State.setTie_ok {b0 b1 b2} (h0 : Good q b0) : Good q (State.setTie b0 b1 b2) := by
  unfold State.setTie
  try dsimp only
  repeat' first
    | with_reducible first
        | assumption
    | fail_if_no_progress with_reducible refine Good.of_eq ?_ rfl rfl rfl rfl

theorem State.sendMarker_ok {b0 b1 b2} (h0 : Good q b0) : Good q (State.sendMarker b0 b1 b2) := by
  unfold State.sendMarker
  try dsimp only
  repeat' first
    | with_reducible first
        | assumption | apply State.atFabric_ok | apply State.setTie_ok | apply State.atTime_ok | apply Good.ite
    | fail_if_no_progress with_reducible refine Good.of_eq ?_ rfl rfl rfl rfl

theorem State.setOffset_ok {b0 b1 b2} (h0 : Good q b0) : Good q (State.setOffset b0 b1 b2) := by
  unfold State.setOffset
  try dsimp only
  repeat' first
    | with_reducible first
        | assumption
    | fail_if_no_progress with_reducible refine Good.of_eq ?_ rfl rfl rfl rfl

theorem State.alignIsland_ok {b0 b1} (h0 : Good q b0) : Good q (State.alignIsland b0 b1) := by
  unfold State.alignIsland
  try dsimp only
  repeat' with_reducible first
    | intro _ | assumption | apply State.setOffset_ok | apply State.modClk_ok | apply State.sendMarker_ok
    | apply Good.foldl

theorem State.forwardClocks_ok {b0} (h0 : Good q b0) : Good q (State.forwardClocks b0) := by
  unfold State.forwardClocks
  try dsimp only
  repeat' first
    | with_reducible first
        | assumption | apply State.windows_ok | apply State.plantAll_ok | apply State.startRouters_ok
        | apply State.alignIsland_ok | apply Good.foldl
    | fail_if_no_progress with_reducible refine Good.of_eq ?_ rfl rfl rfl rfl

theorem State.setSelectors_ok {b0 b1 b2} (h0 : Good q b0) : Good q (State.setSelectors b0 b1 b2) := by
  unfold State.setSelectors
  try dsimp only
  repeat' with_reducible first
    | assumption | apply State.modField_ok | apply State.sendMap_ok | apply State.setNum_ok
    | apply State.holdUnits_ok | apply State.failStart_ok | apply State.postField_ok | apply Good.ite

theorem execSparingSelect_ok {b0 b1 b2} (h0 : Good q b2) : OutGood q (execSparingSelect b0 b1 b2) := by
  unfold execSparingSelect
  try dsimp only
  repeat' with_reducible first
    | intro _ | assumption | apply State.setSelectors_ok | apply State.forwardClocks_ok | apply onField_ok
    | apply Good.ite

theorem State.keepCrossing_ok {b0 b1 b2} (h0 : Good q b0) : Good q (State.keepCrossing b0 b1 b2) := by
  unfold State.keepCrossing
  try dsimp only
  repeat' with_reducible first
    | assumption | apply State.modField_ok | apply Good.ite

theorem State.modCrossing_ok {b0 b1 b2} (h0 : Good q b0) : Good q (State.modCrossing b0 b1 b2) := by
  unfold State.modCrossing
  try dsimp only
  repeat' with_reducible first
    | assumption | apply State.modField_ok

theorem State.takeTraining_ok {b0 b1 b2} (h0 : Good q b0) : Good q (State.takeTraining b0 b1 b2) := by
  unfold State.takeTraining
  try dsimp only
  repeat' with_reducible first
    | assumption | apply State.modCrossing_ok | apply State.rewriteMap_ok

theorem execStitchTraining_ok {b0 b1 b2 b3 b4 b5} (h0 : Good q b5) :
    OutGood q (execStitchTraining b0 b1 b2 b3 b4 b5) := by
  unfold execStitchTraining
  try dsimp only
  repeat' with_reducible first
    | intro _ | assumption | apply State.takeTraining_ok | apply State.setNum_ok | apply State.keepCrossing_ok
    | apply State.postField_ok | apply onField_ok | apply Good.ite

theorem State.modChan_ok {b0 b1 b2} (h0 : Good q b0) : Good q (State.modChan b0 b1 b2) := by
  unfold State.modChan
  try dsimp only
  repeat' first
    | with_reducible first
        | assumption
    | fail_if_no_progress with_reducible refine Good.of_eq ?_ rfl rfl rfl rfl

theorem State.trainDram_ok {b0 b1 b2 b3} (h0 : Good q b0) : Good q (State.trainDram b0 b1 b2 b3) := by
  unfold State.trainDram
  try dsimp only
  repeat' with_reducible first
    | intro _ | assumption | apply State.modField_ok | apply State.modChan_ok | apply State.failStart_ok
    | apply State.rewriteMap_ok | apply State.softApplied_ok | apply Good.ite | apply Good.foldl

theorem onChan_ok {b0 b1 b2 b3} (h0 : Good q b2) (h1 : (∀ a1, Good q a1 → Good q (b3 a1))) :
    OutGood q (onChan b0 b1 b2 b3) := by
  unfold onChan
  try dsimp only
  repeat' with_reducible first
    | assumption | apply h1 | apply OutGood.next | apply OutGood.fault | apply OutGood.ite

theorem when'_ok {b0 b1 b2} (h0 : Good q b1) (h1 : Good q b2) : Good q (when' b0 b1 b2) := by
  unfold when'
  try dsimp only
  repeat' with_reducible first
    | assumption | apply Good.ite

theorem execDramTraining_ok {b0 b1 b2 b3} (h0 : Good q b3) : OutGood q (execDramTraining b0 b1 b2 b3) := by
  unfold execDramTraining
  try dsimp only
  repeat' with_reducible first
    | intro _ | assumption | apply State.setNum_ok | apply when'_ok | apply onChan_ok | apply State.trainDram_ok

theorem State.modLdr_ok {b0 b1 b2} (h0 : Good q b0) : Good q (State.modLdr b0 b1 b2) := by
  unfold State.modLdr
  try dsimp only
  repeat' with_reducible first
    | intro _ | assumption | apply State.modCluster_ok

theorem State.prepareField_ok {b0 b1 b2} (h0 : Good q b0) : Good q (State.prepareField b0 b1 b2) := by
  unfold State.prepareField
  try dsimp only
  repeat' with_reducible first
    | intro _ | assumption | apply State.modCluster_ok | apply State.modLdr_ok | apply Good.foldl

theorem State.beginBroadcast_ok {b0 b1} (h0 : Good q b0) : Good q (State.beginBroadcast b0 b1) := by
  unfold State.beginBroadcast
  try dsimp only
  repeat' first
    | with_reducible first
        | intro _ | assumption | apply State.setNum_ok | apply State.prepareField_ok | apply Good.foldl
    | fail_if_no_progress with_reducible refine Good.of_eq ?_ rfl rfl rfl rfl

theorem execFirmwareBroadcast_ok {b0 b1} (h0 : Good q b1) : OutGood q (execFirmwareBroadcast b0 b1) := by
  unfold execFirmwareBroadcast
  try dsimp only
  repeat' with_reducible first
    | assumption | apply when'_ok | apply State.beginBroadcast_ok | apply OutGood.next

theorem State.addPacket_ok {b0 b1} (h0 : Good q b0) : Good q (State.addPacket b0 b1) := by
  unfold State.addPacket
  try dsimp only
  repeat' first
    | with_reducible first
        | assumption
    | fail_if_no_progress with_reducible refine Good.of_eq ?_ rfl rfl rfl rfl

theorem State.broadcast_ok {b0 b1 b2 b3} (h0 : Good q b0) : Good q (State.broadcast b0 b1 b2 b3) := by
  unfold State.broadcast
  try dsimp only
  repeat' with_reducible first
    | assumption | apply State.addPacket_ok

theorem State.sendRound_ok {b0 b1 b2} (h0 : Good q b0) : Good q (State.sendRound b0 b1 b2) := by
  unfold State.sendRound
  try dsimp only
  repeat' with_reducible first
    | intro _ | assumption | apply State.broadcast_ok | apply Good.foldl

theorem State.beginRound_ok {b0 b1} (h0 : Good q b0) : Good q (State.beginRound b0 b1) := by
  unfold State.beginRound
  try dsimp only
  repeat' first
    | with_reducible first
        | intro _ | assumption | apply State.modField_ok | apply State.setNum_ok | apply State.sendRound_ok
        | apply Good.foldl
    | fail_if_no_progress with_reducible refine Good.of_eq ?_ rfl rfl rfl rfl

theorem State.giveMap_ok {b0 b1 b2} (h0 : Good q b0) : Good q (State.giveMap b0 b1 b2) := by
  unfold State.giveMap
  try dsimp only
  repeat' first
    | with_reducible first
        | assumption
    | fail_if_no_progress with_reducible refine Good.of_eq ?_ rfl rfl rfl rfl | split

theorem execRoundBitmapTimeout_ok {b0 b1} (h0 : Good q b1) : OutGood q (execRoundBitmapTimeout b0 b1) := by
  unfold execRoundBitmapTimeout
  try dsimp only
  repeat' with_reducible first
    | intro _ | assumption | apply State.giveMap_ok | apply onField_ok

theorem execRoundBitmapFallback_ok {b0 b1 b2} (h0 : Good q b2) : OutGood q (execRoundBitmapFallback b0 b1 b2) := by
  unfold execRoundBitmapFallback
  try dsimp only
  repeat' with_reducible first
    | intro _ | assumption | apply State.giveMap_ok | apply onField_ok

theorem State.softFuse_ok {b0 b1 b2 b3 b4} (h0 : Good q b0) : Good q (State.softFuse b0 b1 b2 b3 b4) := by
  unfold State.softFuse
  try dsimp only
  repeat' with_reducible first
    | assumption | apply State.recordFuse_ok

theorem State.failLoading_ok {b0 b1} (h0 : Good q b0) : Good q (State.failLoading b0 b1) := by
  unfold State.failLoading
  try dsimp only
  repeat' with_reducible first
    | intro _ | assumption | apply State.draw_ok | apply State.failStart_ok | apply State.softFuse_ok
    | apply Good.foldl

theorem Cluster.bump_ok {b0 b1 b2} (h0 : Sparse.wf (b0).cmem = true) :
    Sparse.wf ((Cluster.bump b0 b1 b2)).cmem = true := by
  unfold Cluster.bump
  try dsimp only
  repeat' with_reducible first
    | assumption

theorem Cluster.scratchWrite_ok {b0 b1 b2} (h0 : Sparse.wf (b0).cmem = true) :
    Sparse.wf ((Cluster.scratchWrite b0 b1 b2).1).cmem = true := by
  unfold Cluster.scratchWrite
  try dsimp only
  repeat' first
    | with_reducible first
        | assumption | apply Cluster.bump_ok | apply Sparse.wf_blit
    | split

theorem Cluster.scratchRead_ok {b0 b1 b2} (h0 : Sparse.wf (b0).cmem = true) :
    Sparse.wf ((Cluster.scratchRead b0 b1 b2).1).cmem = true := by
  unfold Cluster.scratchRead
  try dsimp only
  repeat' first
    | with_reducible first
        | assumption | apply Cluster.bump_ok
    | split

theorem State.hashChunk_ok {b0 b1 b2} (h0 : Good q b0) : Good q (State.hashChunk b0 b1 b2) := by
  unfold State.hashChunk
  try dsimp only
  repeat' with_reducible first
    | assumption | apply State.setCluster_ok | apply Cluster.scratchRead_ok | apply (State.cluster_ok (q := q))
    | apply (State.cluster_ok (q := q))

theorem State.chunkDone_ok {b0 b1 b2} (h0 : Good q b0) : Good q (State.chunkDone b0 b1 b2) := by
  unfold State.chunkDone
  try dsimp only
  repeat' with_reducible first
    | assumption | apply State.hashChunk_ok | apply Good.ite

theorem State.unicast_ok {b0 b1 b2} (h0 : Good q b0) : Good q (State.unicast b0 b1 b2) := by
  unfold State.unicast
  try dsimp only
  repeat' with_reducible first
    | assumption | apply State.setCluster_ok | apply Cluster.scratchWrite_ok | apply State.chunkDone_ok
    | apply (State.cluster_ok (q := q)) | apply (State.cluster_ok (q := q))

theorem State.addNum_ok {b0 b1 b2} (h0 : Good q b0) : Good q (State.addNum b0 b1 b2) := by
  unfold State.addNum
  try dsimp only
  repeat' with_reducible first
    | assumption | apply State.setNum_ok

theorem State.checkUnicast_ok {b0 b1 b2 b3} (h0 : Good q b0) : Good q (State.checkUnicast b0 b1 b2 b3) := by
  unfold State.checkUnicast
  try dsimp only
  repeat' first
    | with_reducible first
        | assumption | apply State.addNum_ok | apply State.failLoading_ok | apply State.unicast_ok
        | apply Good.ite
    | fail_if_no_progress with_reducible refine Good.of_eq ?_ rfl rfl rfl rfl

theorem execBroadcastRound_ok {b0} (h0 : Good q b0) : OutGood q (execBroadcastRound b0) := by
  unfold execBroadcastRound
  try dsimp only
  repeat' first
    | with_reducible first
        | assumption | apply State.broadcast_ok | apply State.beginRound_ok | apply State.setNum_ok | apply OutGood.next
    | fail_if_no_progress with_reducible refine Good.of_eq ?_ rfl rfl rfl rfl | split

theorem onCluster_ok {b0 b1 b2} (h0 : Good q b1) (h1 : (∀ a1, Good q a1 → Good q (b2 a1))) :
    OutGood q (onCluster b0 b1 b2) := by
  unfold onCluster
  try dsimp only
  repeat' with_reducible first
    | assumption | apply h1 | apply OutGood.next | apply OutGood.fault | apply OutGood.ite

theorem execChunkUnicastCheck_ok {b0 b1 b2} (h0 : Good q b2) : OutGood q (execChunkUnicastCheck b0 b1 b2) := by
  unfold execChunkUnicastCheck
  try dsimp only
  repeat' first
    | with_reducible first
        | intro _ | assumption | apply onCluster_ok | apply when'_ok | apply State.checkUnicast_ok
    | split

theorem State.complete_ok {b0 b1} (h0 : Good q b0) : Good q (State.complete b0 b1) := by
  unfold State.complete
  try dsimp only
  repeat' first
    | with_reducible first
        | intro _ | assumption | apply State.setNum_ok | apply Good.ite | apply Good.foldl
    | fail_if_no_progress with_reducible refine Good.of_eq ?_ rfl rfl rfl rfl

theorem execStartComplete_ok {b0 b1} (h0 : Good q b1) : OutGood q (execStartComplete b0 b1) := by
  unfold execStartComplete
  try dsimp only
  repeat' with_reducible first
    | assumption | apply when'_ok | apply State.complete_ok | apply OutGood.next

theorem State.markSource_ok {b0 b1 b2} (h0 : Good q b0) : Good q (State.markSource b0 b1 b2) := by
  unfold State.markSource
  try dsimp only
  repeat' first
    | with_reducible first
        | assumption
    | fail_if_no_progress with_reducible refine Good.of_eq ?_ rfl rfl rfl rfl | split

theorem State.useSource_ok {b0 b1} (h0 : Good q b0) : Good q (State.useSource b0 b1) := by
  unfold State.useSource
  try dsimp only
  repeat' with_reducible first
    | assumption | apply State.setNum_ok | apply State.addNum_ok

theorem State.loseSource_ok {b0 b1} (h0 : Good q b0) : Good q (State.loseSource b0 b1) := by
  unfold State.loseSource
  try dsimp only
  repeat' first
    | with_reducible first
        | assumption | apply State.markSource_ok | apply State.useSource_ok
    | split

theorem execRefSourceInvalid_ok {b0 b1} (h0 : Good q b1) : OutGood q (execRefSourceInvalid b0 b1) := by
  unfold execRefSourceInvalid
  try dsimp only
  repeat' with_reducible first
    | assumption | apply State.loseSource_ok | apply OutGood.next

theorem execRefRevert_ok {b0 b1 b2} (h0 : Good q b2) : OutGood q (execRefRevert b0 b1 b2) := by
  unfold execRefRevert
  try dsimp only
  repeat' with_reducible first
    | assumption | apply State.markSource_ok | apply State.useSource_ok | apply Good.ite | apply OutGood.next

theorem State.applyPath_ok {b0 b1} (h0 : Good q b0) : Good q (State.applyPath b0 b1) := by
  unfold State.applyPath
  try dsimp only
  repeat' with_reducible first
    | assumption | apply State.modPort_ok

theorem State.dropPort_ok {b0 b1} (h0 : Good q b0) : Good q (State.dropPort b0 b1) := by
  unfold State.dropPort
  try dsimp only
  repeat' with_reducible first
    | assumption | apply State.modPort_ok | apply State.setNum_ok | apply State.unmark_ok
    | apply State.applyPath_ok

theorem execReferenceLost_ok {b0} (h0 : Good q b0) : OutGood q (execReferenceLost b0) := by
  unfold execReferenceLost
  try dsimp only
  repeat' with_reducible first
    | intro _ | assumption | apply State.post_ok | apply State.modPort_ok | apply State.setNum_ok
    | apply State.dropPort_ok | apply Good.ite | apply Good.foldl | apply OutGood.next

theorem execOscillatorCheck_ok {b0 b1} (h0 : Good q b1) : OutGood q (execOscillatorCheck b0 b1) := by
  unfold execOscillatorCheck
  try dsimp only
  repeat' first
    | with_reducible first
        | assumption | apply State.post_ok | apply State.loseSource_ok | apply Good.ite | apply OutGood.next
    | fail_if_no_progress with_reducible refine Good.of_eq ?_ rfl rfl rfl rfl

theorem State.retie_ok {b0 b1 b2} (h0 : Good q b0) : Good q (State.retie b0 b1 b2) := by
  unfold State.retie
  try dsimp only
  repeat' with_reducible first
    | assumption | apply State.setTie_ok

theorem State.setPart_ok {b0 b1 b2} (h0 : Good q b0) : Good q (State.setPart b0 b1 b2) := by
  unfold State.setPart
  try dsimp only
  repeat' first
    | with_reducible first
        | assumption
    | fail_if_no_progress with_reducible refine Good.of_eq ?_ rfl rfl rfl rfl

theorem State.modPart_ok {b0 b1 b2} (h0 : Good q b0) : Good q (State.modPart b0 b1 b2) := by
  unfold State.modPart
  try dsimp only
  repeat' with_reducible first
    | assumption | apply State.setPart_ok

theorem State.modPeriod_ok {b0 b1 b2} (h0 : Good q b0) : Good q (State.modPeriod b0 b1 b2) := by
  unfold State.modPeriod
  try dsimp only
  repeat' with_reducible first
    | assumption | apply State.modPart_ok

theorem State.moveStarts_ok {b0 b1 b2} (h0 : Good q b0) : Good q (State.moveStarts b0 b1 b2) := by
  unfold State.moveStarts
  try dsimp only
  repeat' with_reducible first
    | intro _ | assumption | apply State.modPeriod_ok | apply Good.ite | apply Good.foldl

theorem execDividerStep_ok {b0 b1 b2} (h0 : Good q b2) : OutGood q (execDividerStep b0 b1 b2) := by
  unfold execDividerStep
  try dsimp only
  repeat' first
    | with_reducible first
        | intro _ | assumption | apply State.atFabric_ok | apply State.modClk_ok | apply State.retie_ok
        | apply onField_ok | apply State.moveStarts_ok | apply Good.ite | apply Good.foldl
    | fail_if_no_progress with_reducible refine Good.of_eq ?_ rfl rfl rfl rfl

theorem execMarkerSend_ok {b0 b1 b2} (h0 : Good q b2) : OutGood q (execMarkerSend b0 b1 b2) := by
  unfold execMarkerSend
  try dsimp only
  repeat' with_reducible first
    | intro _ | assumption | apply when'_ok | apply State.sendMarker_ok | apply onField_ok

theorem State.stepTime_ok {b0 b1} (h0 : Good q b0) : Good q (State.stepTime b0 b1) := by
  unfold State.stepTime
  try dsimp only
  repeat' first
    | with_reducible first
        | intro _ | assumption | apply State.modClk_ok | apply State.addNum_ok | apply Good.foldl
    | fail_if_no_progress with_reducible refine Good.of_eq ?_ rfl rfl rfl rfl

theorem State.slewTo_ok {b0 b1 b2 b3} (h0 : Good q b0) : Good q (State.slewTo b0 b1 b2 b3) := by
  unfold State.slewTo
  try dsimp only
  repeat' with_reducible first
    | assumption | apply State.modClk_ok | apply State.atTime_ok | apply Good.ite

theorem State.pushCause_ok {b0 b1 b2} (h0 : Good q b0) : Good q (State.pushCause b0 b1 b2) := by
  unfold State.pushCause
  try dsimp only
  repeat' with_reducible first
    | assumption | apply State.modPart_ok

theorem execMarker_ok {b0 b1 b2 b3 b4} (h0 : Good q b4) : OutGood q (execMarker b0 b1 b2 b3 b4) := by
  unfold execMarker
  try dsimp only
  repeat' first
    | with_reducible first
        | intro _ | assumption | apply State.setOffset_ok | apply State.atFabric_ok | apply State.modClk_ok
        | apply State.postField_ok | apply State.pushCause_ok | apply State.stepTime_ok | apply State.slewTo_ok
        | apply onField_ok | apply State.modPart_ok
    | split

theorem State.dropPacket_ok {b0 b1} (h0 : Good q b0) : Good q (State.dropPacket b0 b1) := by
  unfold State.dropPacket
  try dsimp only
  repeat' first
    | with_reducible first
        | assumption
    | fail_if_no_progress with_reducible refine Good.of_eq ?_ rfl rfl rfl rfl

theorem State.collect_ok {b0 b1} (h0 : Good q b0) : Good q (State.collect b0 b1) := by
  unfold State.collect
  try dsimp only
  repeat' first
    | with_reducible first
        | assumption | apply State.dropPacket_ok
    | split

theorem State.setNode_ok {b0 b1 b2} (h0 : Good q b0) : Good q (State.setNode b0 b1 b2) := by
  unfold State.setNode
  try dsimp only
  repeat' first
    | with_reducible first
        | assumption
    | fail_if_no_progress with_reducible refine Good.of_eq ?_ rfl rfl rfl rfl

theorem State.modNode_ok {b0 b1 b2} (h0 : Good q b0) : Good q (State.modNode b0 b1 b2) := by
  unfold State.modNode
  try dsimp only
  repeat' with_reducible first
    | assumption | apply State.setNode_ok

theorem State.freeBc_ok {b0 b1} (h0 : Good q b0) : Good q (State.freeBc b0 b1) := by
  unfold State.freeBc
  try dsimp only
  repeat' first
    | with_reducible first
        | assumption | apply State.modNode_ok | apply State.collect_ok
    | split

theorem State.cutBc_ok {b0 b1} (h0 : Good q b0) : Good q (State.cutBc b0 b1) := by
  unfold State.cutBc
  try dsimp only
  repeat' first
    | with_reducible first
        | intro _ | assumption | apply State.modCluster_ok | apply Cluster.bump_ok | apply State.modNode_ok
        | apply State.freeBc_ok
    | split

theorem State.setPacket_ok {b0 b1 b2} (h0 : Good q b0) : Good q (State.setPacket b0 b1 b2) := by
  unfold State.setPacket
  try dsimp only
  repeat' first
    | with_reducible first
        | assumption
    | fail_if_no_progress with_reducible refine Good.of_eq ?_ rfl rfl rfl rfl

theorem State.modPacket_ok {b0 b1 b2} (h0 : Good q b0) : Good q (State.modPacket b0 b1 b2) := by
  unfold State.modPacket
  try dsimp only
  repeat' first
    | with_reducible first
        | assumption | apply State.setPacket_ok
    | split

theorem State.notePeak_ok {b0 b1 b2} (h0 : Good q b0) : Good q (State.notePeak b0 b1 b2) := by
  unfold State.notePeak
  try dsimp only
  repeat' with_reducible first
    | intro _ | assumption | apply State.modCluster_ok

theorem State.endCut_ok {b0 b1 b2} (h0 : Good q b0) : Good q (State.endCut b0 b1 b2) := by
  unfold State.endCut
  try dsimp only
  repeat' with_reducible first
    | intro _ | assumption | apply State.notePeak_ok | apply State.modNode_ok | apply State.modPacket_ok
    | apply State.cutBc_ok | apply Good.ite | apply Good.foldl

theorem State.cutLink_ok {b0 b1 b2 b3 b4 b5} (h0 : Good q b0) : Good q (State.cutLink b0 b1 b2 b3 b4 b5) := by
  unfold State.cutLink
  try dsimp only
  repeat' with_reducible first
    | assumption | apply State.modNode_ok | apply State.collect_ok | apply State.endCut_ok
    | apply State.freeBc_ok | apply Good.foldl

theorem State.postLink_ok {b0 b1 b2} (h0 : Good q b0) : Good q (State.postLink b0 b1 b2) := by
  unfold State.postLink
  try dsimp only
  repeat' with_reducible first
    | assumption | apply State.post_ok

theorem State.downLink_ok {b0 b1 b2 b3} (h0 : Good q b0) : Good q (State.downLink b0 b1 b2 b3) := by
  unfold State.downLink
  try dsimp only
  repeat' first
    | with_reducible first
        | assumption | apply State.postLink_ok | apply State.cutLink_ok
    | split

theorem State.loseNode_ok {b0 b1} (h0 : Good q b0) : Good q (State.loseNode b0 b1) := by
  unfold State.loseNode
  try dsimp only
  repeat' first
    | with_reducible first
        | intro _ | assumption | apply State.collect_ok | apply State.downLink_ok | apply Good.foldl
    | fail_if_no_progress with_reducible refine Good.of_eq ?_ rfl rfl rfl rfl

theorem State.loseField_ok {b0 b1} (h0 : Good q b0) : Good q (State.loseField b0 b1) := by
  unfold State.loseField
  try dsimp only
  repeat' with_reducible first
    | intro _ | assumption | apply State.loseNode_ok | apply Good.foldl

theorem State.clampRegion_ok {b0 b1} (h0 : Good q b0) : Good q (State.clampRegion b0 b1) := by
  unfold State.clampRegion
  try dsimp only
  repeat' with_reducible first
    | intro _ | assumption | apply State.forgetEdge_ok | apply Good.foldl

theorem State.faultPart_ok {b0 b1} (h0 : Good q b0) : Good q (State.faultPart b0 b1) := by
  unfold State.faultPart
  try dsimp only
  repeat' with_reducible first
    | assumption | apply State.setNum_ok | apply State.addNum_ok | apply State.modPart_ok | apply Good.ite

theorem State.regionOut_ok {b0 b1 b2} (h0 : Good q b0) : Good q (State.regionOut b0 b1 b2) := by
  unfold State.regionOut
  try dsimp only
  repeat' with_reducible first
    | intro _ | assumption | apply State.windows_ok | apply State.setNum_ok | apply State.faultPart_ok
    | apply State.portGone_ok | apply State.clampRegion_ok | apply Good.ite | apply Good.foldl

theorem State.quarantine_ok {b0 b1} (h0 : Good q b0) : Good q (State.quarantine b0 b1) := by
  unfold State.quarantine
  try dsimp only
  repeat' with_reducible first
    | assumption | apply State.regionOut_ok | apply State.setNum_ok | apply State.clampField_ok
    | apply State.loseField_ok | apply Good.ite

theorem State.rebuild_ok {b0 b1 b2} (h0 : Good q b2) : Good q (State.rebuild b0 b1 b2) := by
  induction b1 generalizing b2 with
  | zero => exact h0
  | succ n ih =>
    unfold State.rebuild
    dsimp only
    split
    · exact State.plant_ok h0
    · exact ih (Good.foldl (State.plant_ok h0) fun s f h => State.postField_ok (State.quarantine_ok h))

theorem execForwardedInputLost_ok {b0 b1 b2} (h0 : Good q b2) : OutGood q (execForwardedInputLost b0 b1 b2) := by
  unfold execForwardedInputLost
  try dsimp only
  repeat' with_reducible first
    | intro _ | assumption | apply State.modClk_ok | apply State.postField_ok | apply State.rebuild_ok
    | apply onField_ok

theorem State.writeFreq_ok {b0 b1 b2} (h0 : Good q b0) : Good q (State.writeFreq b0 b1 b2) := by
  unfold State.writeFreq
  try dsimp only
  repeat' with_reducible first
    | assumption | apply State.modClk_ok | apply Good.ite

theorem State.writeFreqObj_ok {b0 b1 b2} (h0 : Good q b0) : Good q (State.writeFreqObj b0 b1 b2).1 := by
  unfold State.writeFreqObj
  try dsimp only
  repeat' first
    | with_reducible first
        | assumption | apply State.writeFreq_ok
    | split

theorem execFreqMeasure_ok {b0 b1 b2} (h0 : Good q b2) : OutGood q (execFreqMeasure b0 b1 b2) := by
  unfold execFreqMeasure
  try dsimp only
  repeat' with_reducible first
    | intro _ | assumption | apply State.writeFreqObj_ok | apply onField_ok

theorem execFrequencyCountDone_ok {b0 b1 b2} (h0 : Good q b2) : OutGood q (execFrequencyCountDone b0 b1 b2) := by
  unfold execFrequencyCountDone
  try dsimp only
  repeat' with_reducible first
    | intro _ | assumption | apply State.modClk_ok | apply when'_ok | apply onField_ok

theorem execFrequencyCountLost_ok {b0 b1} (h0 : Good q b1) : OutGood q (execFrequencyCountLost b0 b1) := by
  unfold execFrequencyCountLost
  try dsimp only
  repeat' with_reducible first
    | intro _ | assumption | apply State.modClk_ok | apply when'_ok | apply onField_ok

theorem State.modPtp_ok {b0 b1} (h0 : Good q b0) : Good q (State.modPtp b0 b1) := by
  unfold State.modPtp
  try dsimp only
  repeat' first
    | with_reducible first
        | assumption
    | fail_if_no_progress with_reducible refine Good.of_eq ?_ rfl rfl rfl rfl

theorem State.choose_ok {b0} (h0 : Good q b0) : Good q (State.choose b0) := by
  unfold State.choose
  try dsimp only
  repeat' first
    | with_reducible first
        | assumption | apply State.setBlob_ok | apply State.setNum_ok | apply State.modPtp_ok
    | split

theorem onPort_ok {b0 b1 b2} (h0 : Good q b1) (h1 : (∀ a1, Good q a1 → Good q (b2 a1))) :
    OutGood q (onPort b0 b1 b2) := by
  unfold onPort
  try dsimp only
  repeat' with_reducible first
    | assumption | apply h1 | apply OutGood.next | apply OutGood.fault | apply OutGood.ite

theorem execAnnounce_ok {b0 b1 b2} (h0 : Good q b2) : OutGood q (execAnnounce b0 b1 b2) := by
  unfold execAnnounce
  try dsimp only
  repeat' with_reducible first
    | intro _ | assumption | apply State.modPtp_ok | apply State.choose_ok | apply onPort_ok | apply Good.ite

theorem State.discipline_ok {b0 b1} (h0 : Good q b0) : Good q (State.discipline b0 b1) := by
  unfold State.discipline
  try dsimp only
  repeat' first
    | with_reducible first
        | assumption | apply State.draw_ok | apply State.setNum_ok | apply State.modPtp_ok | apply Good.ite
    | fail_if_no_progress with_reducible refine Good.of_eq ?_ rfl rfl rfl rfl

theorem State.syncPair_ok {b0 b1 b2} (h0 : Good q b0) : Good q (State.syncPair b0 b1 b2) := by
  unfold State.syncPair
  try dsimp only
  repeat' with_reducible first
    | assumption | apply State.modPtp_ok | apply State.discipline_ok

theorem execSync_ok {b0 b1 b2 b3 b4 b5 b6 b7} (h0 : Good q b7) : OutGood q (execSync b0 b1 b2 b3 b4 b5 b6 b7) := by
  unfold execSync
  try dsimp only
  repeat' with_reducible first
    | intro _ | assumption | apply State.syncPair_ok | apply State.modPtp_ok | apply onPort_ok
    | apply State.atTime_ok | apply Good.ite

theorem execFollowUp_ok {b0 b1 b2 b3 b4 b5} (h0 : Good q b5) : OutGood q (execFollowUp b0 b1 b2 b3 b4 b5) := by
  unfold execFollowUp
  try dsimp only
  repeat' first
    | with_reducible first
        | intro _ | assumption | apply State.syncPair_ok | apply when'_ok | apply onPort_ok
    | split

theorem State.emit_ok {b0 b1} (h0 : Good q b0) : Good q (State.emit b0 b1) := by
  unfold State.emit
  try dsimp only
  repeat' first
    | with_reducible first
        | assumption | apply State.addNum_ok | apply Good.ite
    | fail_if_no_progress with_reducible refine Good.of_eq ?_ rfl rfl rfl rfl

theorem State.emitIp_ok {b0 b1 b2 b3 b4 b5 b6 b7} (h0 : Good q b0) :
    Good q (State.emitIp b0 b1 b2 b3 b4 b5 b6 b7) := by
  unfold State.emitIp
  try dsimp only
  repeat' with_reducible first
    | assumption | apply State.emit_ok

theorem execDelayReqSend_ok {b0 b1 b2} (h0 : Good q b2) : OutGood q (execDelayReqSend b0 b1 b2) := by
  unfold execDelayReqSend
  try dsimp only
  repeat' first
    | with_reducible first
        | intro _ | assumption | apply State.modPtp_ok | apply onPort_ok | apply State.emitIp_ok
        | apply State.emit_ok | apply State.atTime_ok
    | split

theorem execDelayResp_ok {b0 b1 b2 b3 b4 b5} (h0 : Good q b5) : OutGood q (execDelayResp b0 b1 b2 b3 b4 b5) := by
  unfold execDelayResp
  try dsimp only
  repeat' first
    | with_reducible first
        | intro _ | assumption | apply State.modPtp_ok | apply onPort_ok
    | split

theorem execSyncTimeout_ok {b0} (h0 : Good q b0) : OutGood q (execSyncTimeout b0) := by
  unfold execSyncTimeout
  try dsimp only
  repeat' with_reducible first
    | assumption | apply State.setNum_ok | apply State.modPtp_ok | apply Good.ite | apply OutGood.next

theorem execModuleMark_ok {b0 b1} (h0 : Good q b1) : OutGood q (execModuleMark b0 b1) := by
  unfold execModuleMark
  try dsimp only
  repeat' first
    | with_reducible first
        | assumption | apply State.addNum_ok | apply Good.ite | apply OutGood.next
    | fail_if_no_progress with_reducible refine Good.of_eq ?_ rfl rfl rfl rfl

theorem State.writeSampleMark_ok {b0 b1} (h0 : Good q b0) : Good q (State.writeSampleMark b0 b1).1 := by
  unfold State.writeSampleMark
  try dsimp only
  repeat' first
    | with_reducible first
        | assumption
    | fail_if_no_progress with_reducible refine Good.of_eq ?_ rfl rfl rfl rfl | split

theorem execSampleMark_ok {b0 b1} (h0 : Good q b1) : OutGood q (execSampleMark b0 b1) := by
  unfold execSampleMark
  try dsimp only
  repeat' with_reducible first
    | assumption | apply State.writeSampleMark_ok | apply OutGood.next

theorem State.latch_ok {b0 b1 b2} (h0 : Good q b0) : Good q (State.latch b0 b1 b2) := by
  unfold State.latch
  try dsimp only
  repeat' first
    | with_reducible first
        | assumption | apply State.atTime_ok
    | fail_if_no_progress with_reducible refine Good.of_eq ?_ rfl rfl rfl rfl | split

theorem execMarkLatch_ok {b0 b1 b2} (h0 : Good q b2) : OutGood q (execMarkLatch b0 b1 b2) := by
  unfold execMarkLatch
  try dsimp only
  repeat' with_reducible first
    | assumption | apply State.latch_ok | apply OutGood.next | apply OutGood.fault | apply OutGood.ite

theorem State.completeModule_ok {b0 b1} (h0 : Good q b0) : Good q (State.completeModule b0 b1) := by
  unfold State.completeModule
  try dsimp only
  repeat' first
    | with_reducible first
        | intro _ | assumption | apply State.setNum_ok | apply State.addNum_ok | apply Good.foldl
    | fail_if_no_progress with_reducible refine Good.of_eq ?_ rfl rfl rfl rfl

theorem State.completePart_ok {b0 b1} (h0 : Good q b0) : Good q (State.completePart b0 b1) := by
  unfold State.completePart
  try dsimp only
  repeat' first
    | with_reducible first
        | assumption | apply State.modPart_ok
    | fail_if_no_progress with_reducible refine Good.of_eq ?_ rfl rfl rfl rfl

theorem execMarkComplete_ok {b0 b1} (h0 : Good q b1) : OutGood q (execMarkComplete b0 b1) := by
  unfold execMarkComplete
  try dsimp only
  repeat' first
    | with_reducible first
        | assumption | apply State.completePart_ok | apply State.completeModule_ok | apply OutGood.next
    | split

end Sys2Proof.Machine
end

