-- ==== Sys2Proof/Laws/Frame2.lean ====
section
/-! SUPPORT. What each operation leaves of the queue and of the canonical form of the memories, one lemma for each, callees
first (part 2 of 6). -/

namespace Sys2Proof.Machine

variable {q : List Instr}

theorem execMarkAbandon_ok {b0 b1} (h0 : Good q b1) : OutGood q (execMarkAbandon b0 b1) := by
  unfold execMarkAbandon
  try dsimp only
  repeat' first
    | with_reducible first
        | assumption | apply State.addNum_ok | apply OutGood.next
    | fail_if_no_progress with_reducible refine Good.of_eq ?_ rfl rfl rfl rfl | split

theorem onLoader_ok {b0 b1 b2 b3} (h0 : Good q b2) (h1 : (∀ a1 a2, Good q a1 → Good q (b3 a1 a2))) :
    OutGood q (onLoader b0 b1 b2 b3) := by
  unfold onLoader
  try dsimp only
  repeat' first
    | with_reducible first
        | intro _ | assumption | apply h1 | apply State.modCluster_ok | apply onCluster_ok
        | apply Cluster.bump_ok | apply State.modNode_ok | apply State.freeBc_ok
    | split

theorem execManifestPart_ok {b0 b1} (h0 : Good q b1) : OutGood q (execManifestPart b0 b1) := by
  unfold execManifestPart
  try dsimp only
  repeat' with_reducible first
    | intro _ | assumption | apply onLoader_ok | apply when'_ok | apply State.modLdr_ok

theorem execChunk_ok {b0 b1} (h0 : Good q b1) : OutGood q (execChunk b0 b1) := by
  unfold execChunk
  try dsimp only
  repeat' with_reducible first
    | intro _ | assumption | apply State.setCluster_ok | apply Cluster.scratchWrite_ok | apply onLoader_ok
    | apply when'_ok | apply State.hashChunk_ok | apply (State.cluster_ok (q := q))
    | apply (State.cluster_ok (q := q))

theorem execChunkDone_ok {b0 b1 b2} (h0 : Good q b2) : OutGood q (execChunkDone b0 b1 b2) := by
  unfold execChunkDone
  try dsimp only
  repeat' with_reducible first
    | intro _ | assumption | apply State.chunkDone_ok | apply onCluster_ok | apply when'_ok

theorem execRoundEnd_ok {b0 b1} (h0 : Good q b1) : OutGood q (execRoundEnd b0 b1) := by
  unfold execRoundEnd
  try dsimp only
  repeat' with_reducible first
    | intro _ | assumption | apply State.modCluster_ok | apply onLoader_ok | apply State.modLdr_ok
    | apply Good.ite

theorem Cluster.clearRoutes_ok {b0} (h0 : Sparse.wf (b0).cmem = true) :
    Sparse.wf ((Cluster.clearRoutes b0)).cmem = true := by
  unfold Cluster.clearRoutes
  try dsimp only
  repeat' with_reducible first
    | assumption

theorem execInstall_ok {b0 b1} (h0 : Good q b1) : OutGood q (execInstall b0 b1) := by
  unfold execInstall
  try dsimp only
  repeat' with_reducible first
    | intro _ | assumption | apply State.setCluster_ok | apply State.modCluster_ok | apply State.setNum_ok
    | apply onLoader_ok | apply Cluster.clearRoutes_ok | apply (State.cluster_ok (q := q)) | apply Good.ite
    | apply Sparse.wf_blit | apply (State.cluster_ok (q := q))

theorem Cluster.invalidate_ok {b0 b1} (h0 : Sparse.wf (b0).cmem = true) :
    Sparse.wf ((Cluster.invalidate b0 b1)).cmem = true := by
  unfold Cluster.invalidate
  try dsimp only
  repeat' with_reducible first
    | assumption | apply Cluster.bump_ok

theorem Cluster.useWay_ok {b0 b1 b2} (h0 : Sparse.wf (b0).cmem = true) :
    Sparse.wf ((Cluster.useWay b0 b1 b2)).cmem = true := by
  unfold Cluster.useWay
  try dsimp only
  repeat' with_reducible first
    | assumption

theorem Cluster.touch_ok {b0 b1} (h0 : Sparse.wf (b0).cmem = true) :
    Sparse.wf ((Cluster.touch b0 b1)).cmem = true := by
  unfold Cluster.touch
  try dsimp only
  repeat' first
    | with_reducible first
        | assumption | apply Cluster.useWay_ok
    | split

theorem Cluster.lookup_ok {b0 b1 b2 b3} (h0 : Sparse.wf (b0).cmem = true) :
    Sparse.wf ((Cluster.lookup b0 b1 b2 b3).1).cmem = true := by
  unfold Cluster.lookup
  try dsimp only
  repeat' first
    | with_reducible first
        | assumption | apply Cluster.bump_ok | apply Cluster.touch_ok | apply Cluster.invalidate_ok
        | apply Cluster.mw_foldl
    | split

theorem Cluster.install_ok {b0 b1 b2} (h0 : Sparse.wf (b0).cmem = true) :
    Sparse.wf ((Cluster.install b0 b1 b2)).cmem = true := by
  unfold Cluster.install
  try dsimp only
  repeat' first
    | with_reducible first
        | assumption | apply Cluster.bump_ok | apply Cluster.useWay_ok
    | split

theorem Cluster.suppress_ok {b0 b1} (h0 : Sparse.wf (b0).cmem = true) :
    Sparse.wf ((Cluster.suppress b0 b1)).cmem = true := by
  unfold Cluster.suppress
  try dsimp only
  repeat' with_reducible first
    | assumption

theorem State.writeThrough_ok {b0 b1 b2 b3} (h0 : Good q b0) (h1 : Sparse.wf (b1).cmem = true) :
    Sparse.wf ((State.writeThrough b0 b1 b2 b3)).cmem = true := by
  unfold State.writeThrough
  try dsimp only
  repeat' with_reducible first
    | assumption | apply Cluster.suppress_ok | apply Cluster.bump_ok

theorem State.seeBusy_ok {b0 b1} (h0 : Good q b0) : Good q (State.seeBusy b0 b1) := by
  unfold State.seeBusy
  try dsimp only
  repeat' with_reducible first
    | assumption | apply State.draw_ok | apply (State.core_ok (q := q)) | apply State.setCore_ok
    | apply Good.ite | apply (State.core_ok (q := q))

theorem State.cfgClear_ok {b0 b1 b2} (h0 : Good q b0) : Good q (State.cfgClear b0 b1 b2) := by
  unfold State.cfgClear
  try dsimp only
  repeat' with_reducible first
    | intro _ | assumption | apply State.modCluster_ok | apply State.seeBusy_ok | apply Good.ite

theorem Core.writeLog_ok {b0 b1} (h0 : Sparse.wf (b0).store = true) :
    Sparse.wf ((Core.writeLog b0 b1)).store = true := by
  unfold Core.writeLog
  try dsimp only
  repeat' first
    | with_reducible first
        | assumption
    | split

theorem Core.writeRetainCtrl_ok {b0 b1} (h0 : Sparse.wf (b0).store = true) :
    Sparse.wf ((Core.writeRetainCtrl b0 b1)).store = true := by
  unfold Core.writeRetainCtrl
  try dsimp only
  repeat' first
    | with_reducible first
        | assumption
    | split

theorem Core.kindleEvent_ok {b0} (h0 : Sparse.wf (b0).store = true) :
    Sparse.wf ((Core.kindleEvent b0)).store = true := by
  unfold Core.kindleEvent
  try dsimp only
  repeat' first
    | with_reducible first
        | assumption
    | split

theorem Core.loadCounters_ok {b0} (h0 : Sparse.wf (b0).store = true) :
    Sparse.wf ((Core.loadCounters b0)).store = true := by
  unfold Core.loadCounters
  try dsimp only
  repeat' with_reducible first
    | assumption

theorem Core.writeSeqCtrl_ok {b0 b1} (h0 : Sparse.wf (b0).store = true) :
    Sparse.wf ((Core.writeSeqCtrl b0 b1)).store = true := by
  unfold Core.writeSeqCtrl
  try dsimp only
  repeat' first
    | with_reducible first
        | assumption | apply Core.loadCounters_ok | apply Core.kindleEvent_ok
    | split

theorem Core.writeCfg_ok {b0 b1 b2} (h0 : Sparse.wf (b0).store = true) :
    Sparse.wf ((Core.writeCfg b0 b1 b2)).store = true := by
  unfold Core.writeCfg
  try dsimp only
  repeat' first
    | with_reducible first
        | assumption | apply Core.writeLog_ok | apply Core.writeRetainCtrl_ok | apply Core.writeSeqCtrl_ok
        | apply Core.sw_ite
    | split

theorem Cluster.report_ok {b0 b1 b2} (h0 : Sparse.wf (b0).cmem = true) :
    Sparse.wf ((Cluster.report b0 b1 b2)).cmem = true := by
  unfold Cluster.report
  try dsimp only
  repeat' with_reducible first
    | assumption

theorem State.writePeriodStart_ok {b0 b1 b2} (h0 : Good q b0) : Good q (State.writePeriodStart b0 b1 b2) := by
  unfold State.writePeriodStart
  try dsimp only
  repeat' first
    | with_reducible first
        | intro _ | assumption | apply Cluster.report_ok | apply State.modCluster_ok
    | split

theorem State.writeSp_ok {b0 b1 b2 b3} (h0 : Good q b0) : Good q (State.writeSp b0 b1 b2 b3) := by
  unfold State.writeSp
  try dsimp only
  repeat' with_reducible first
    | assumption | apply State.setCluster_ok | apply State.writePeriodStart_ok | apply when'_ok
    | apply (State.cluster_ok (q := q)) | apply Good.ite | apply (State.cluster_ok (q := q))

theorem Cluster.writeMp_ok {b0 b1 b2 b3} (h0 : Sparse.wf (b0).cmem = true) :
    Sparse.wf ((Cluster.writeMp b0 b1 b2 b3)).cmem = true := by
  unfold Cluster.writeMp
  try dsimp only
  repeat' first
    | with_reducible first
        | assumption | apply Cluster.setMpCtrl_ok
    | split

theorem State.writeCm_ok {b0 b1 b2 b3} (h0 : Good q b0) : Good q (State.writeCm b0 b1 b2 b3) := by
  unfold State.writeCm
  try dsimp only
  repeat' with_reducible first
    | assumption | apply State.setCluster_ok | apply (State.cluster_ok (q := q)) | apply Good.ite
    | apply (State.cluster_ok (q := q))

theorem State.writeLdr_ok {b0 b1 b2 b3} (h0 : Good q b0) : Good q (State.writeLdr b0 b1 b2 b3) := by
  unfold State.writeLdr
  try dsimp only
  repeat' with_reducible first
    | assumption | apply State.chunkDone_ok | apply State.modLdr_ok | apply Good.ite

theorem State.writeCfgWord_ok {b0 b1 b2 b3} (h0 : Good q b0) : Good q (State.writeCfgWord b0 b1 b2 b3) := by
  have mp : ∀ n, Good q (b0.modCluster b1 (fun x => x.writeMp n b3 b0.net.nextId)) :=
    fun n => State.modCluster_ok h0 fun x hx => Cluster.writeMp_ok hx
  unfold State.writeCfgWord
  refine Good.ite (State.modCore_ok h0 fun k hk => Core.writeCfg_ok hk) ?_
  refine Good.ite (State.writeSp_ok h0) ?_
  refine Good.ite (mp _) ?_
  refine Good.ite (State.writeCm_ok h0) ?_
  refine Good.ite h0 ?_
  refine Good.ite (State.writeLdr_ok h0) ?_
  refine Good.ite ?_ h0
  split
  · exact State.modChan_ok h0
  · exact h0

theorem State.writeCfgWords_ok {b0 b1 b2} (h0 : Good q b0) : Good q (State.writeCfgWords b0 b1 b2) := by
  induction hn : b2.length using Nat.strong_induction_on generalizing b0 b2 with
  | _ n ih =>
    match b2, hn with
    | [], _ => exact h0
    | [(_, _)], _ => exact State.writeCfgWord_ok h0
    | (_, _) :: (_, _) :: r, hn =>
      unfold State.writeCfgWords
      split
      · exact ih r.length (by simp at hn; omega) (State.writePeriodStart_ok h0) rfl
      · exact ih _ (by simp at hn ⊢; omega) (State.writeCfgWord_ok h0) rfl

theorem State.writeCfg_ok {b0 b1 b2 b3} (h0 : Good q b0) : Good q (State.writeCfg b0 b1 b2 b3) := by
  unfold State.writeCfg
  try dsimp only
  repeat' with_reducible first
    | assumption | apply State.writeCfgWords_ok

theorem execRegisterWrite_ok {b0 b1 b2 b3} (h0 : Good q b3) : OutGood q (execRegisterWrite b0 b1 b2 b3) := by
  unfold execRegisterWrite
  try dsimp only
  repeat' with_reducible first
    | intro _ | assumption | apply onCluster_ok | apply when'_ok | apply State.writeCfgWord_ok

theorem execCacheConfigWrite_ok {b0 b1 b2 b3} (h0 : Good q b3) : OutGood q (execCacheConfigWrite b0 b1 b2 b3) := by
  unfold execCacheConfigWrite
  try dsimp only
  repeat' with_reducible first
    | intro _ | assumption | apply onCluster_ok | apply when'_ok | apply State.writeCm_ok

theorem State.absent_ok {b0 b1} (h0 : Good q b0) : Good q (State.absent b0 b1) := by
  unfold State.absent
  try dsimp only
  repeat' with_reducible first
    | intro _ | assumption | apply State.modCluster_ok | apply Cluster.bump_ok | apply Good.ite

theorem State.respond_ok {b0 b1 b2 b3 b4 b5} (h0 : Good q b0) : Good q (State.respond b0 b1 b2 b3 b4 b5) := by
  unfold State.respond
  try dsimp only
  repeat' with_reducible first
    | assumption | apply State.addPacket_ok

theorem deliver_ok {b0 b1 b2 b3} (h0 : Good q b1) (h1 : (∀ a1 a2, Good q a1 → Good q (b3 a1 a2))) :
    OutGood q (deliver b0 b1 b2 b3) := by
  unfold deliver
  try dsimp only
  repeat' first
    | with_reducible first
        | assumption | apply h1 | apply State.dropPacket_ok | apply State.modNode_ok | apply OutGood.next
    | split

theorem ctlArrive_ok {b0 b1 b2 b3} (h0 : Good q b2) (h1 : (∀ a1 a2, Good q a1 → Good q (b3 a1 a2).1)) :
    OutGood q (ctlArrive b0 b1 b2 b3) := by
  unfold ctlArrive
  try dsimp only
  repeat' with_reducible first
    | intro _ | assumption | apply h1 | apply State.absent_ok | apply State.respond_ok | apply deliver_ok
    | apply Good.ite

theorem ctlStep_ok {α : Type} {b1 : CtlStep α} {b2 : Nat} {b3 : State} {b4 : α → Bool} {b5 : State → α → State}
    {b6 : State → Packet → State × List Byte} (h0 : Good q b3) (h1 : ∀ s a, Good q s → Good q (b5 s a))
    (h2 : ∀ s p, Good q s → Good q (b6 s p).1) : OutGood q (ctlStep b1 b2 b3 b4 b5 b6) := by
  unfold ctlStep
  split
  · exact OutGood.ite (OutGood.next (h1 _ _ h0)) OutGood.fault
  · exact ctlArrive_ok h0 h2

theorem State.sendCtl_ok {b0 b1 b2 b3 b4 b5 b6 b7} (h0 : Good q b0) :
    Good q (State.sendCtl b0 b1 b2 b3 b4 b5 b6 b7) := by
  unfold State.sendCtl
  try dsimp only
  repeat' first
    | with_reducible first
        | assumption | apply State.addPacket_ok
    | fail_if_no_progress with_reducible refine Good.of_eq ?_ rfl rfl rfl rfl | split

theorem State.sendCfg_ok {b0 b1 b2 b3 b4 b5} (h0 : Good q b0) : Good q (State.sendCfg b0 b1 b2 b3 b4 b5) := by
  unfold State.sendCfg
  try dsimp only
  repeat' first
    | with_reducible first
        | assumption | apply when'_ok | apply State.sendCtl_ok
    | fail_if_no_progress with_reducible refine Good.of_eq ?_ rfl rfl rfl rfl | split

theorem execConfigurationRead_ok {b0 b1} (h0 : Good q b1) : OutGood q (execConfigurationRead b0 b1) := by
  unfold execConfigurationRead
  try dsimp only
  repeat' with_reducible first
    | intro _ | assumption | apply ctlStep_ok | apply State.sendCfg_ok | apply State.cfgClear_ok
    | apply Good.foldl

theorem execConfigurationWrite_ok {b0 b1} (h0 : Good q b1) : OutGood q (execConfigurationWrite b0 b1) := by
  unfold execConfigurationWrite
  try dsimp only
  repeat' with_reducible first
    | intro _ | assumption | apply ctlStep_ok | apply State.writeCfg_ok | apply State.sendCfg_ok

theorem State.tellCore_ok {b0 b1 b2 b3} (h0 : Good q b0) : Good q (State.tellCore b0 b1 b2 b3) := by
  unfold State.tellCore
  try dsimp only
  repeat' with_reducible first
    | assumption | apply State.sendCtl_ok

theorem State.sendPeriodStart_ok {b0 b1} (h0 : Good q b0) : Good q (State.sendPeriodStart b0 b1) := by
  unfold State.sendPeriodStart
  try dsimp only
  repeat' first
    | with_reducible first
        | assumption | apply when'_ok | apply State.tellCore_ok | apply State.modPeriod_ok
    | split

theorem Core.bumpCount_ok {b0 b1 b2} (h0 : Sparse.wf (b0).store = true) :
    Sparse.wf ((Core.bumpCount b0 b1 b2)).store = true := by
  unfold Core.bumpCount
  try dsimp only
  repeat' with_reducible first
    | assumption

theorem Core.raise_ok {b0 b1 b2} (h0 : Sparse.wf (b0).store = true) :
    Sparse.wf ((Core.raise b0 b1 b2)).store = true := by
  unfold Core.raise
  try dsimp only
  repeat' first
    | with_reducible first
        | assumption | apply Core.bumpCount_ok
    | split

theorem Core.raiseAll_ok {b0 b1} (h0 : Sparse.wf (b0).store = true) :
    Sparse.wf ((Core.raiseAll b0 b1)).store = true := by
  unfold Core.raiseAll
  try dsimp only
  repeat' with_reducible first
    | intro _ | assumption | apply Core.raise_ok | apply Core.sw_foldl

theorem Core.satCnt_ok {b0 b1 b2} (h0 : Sparse.wf (b0).store = true) :
    Sparse.wf ((Core.satCnt b0 b1 b2)).store = true := by
  unfold Core.satCnt
  try dsimp only
  repeat' with_reducible first
    | assumption

theorem Core.event_ok {b0 b1 b2 b3} (h0 : Sparse.wf (b0).store = true) :
    Sparse.wf ((Core.event b0 b1 b2 b3)).store = true := by
  unfold Core.event
  try dsimp only
  repeat' with_reducible first
    | intro _ | assumption | apply Core.satCnt_ok | apply Core.raiseAll_ok | apply Core.sw_foldl

theorem State.periodInvalidate_ok {b0 b1 b2} (h0 : Good q b0) : Good q (State.periodInvalidate b0 b1 b2) := by
  unfold State.periodInvalidate
  try dsimp only
  repeat' with_reducible first
    | assumption | apply State.setCluster_ok | apply Cluster.suppress_ok | apply Cluster.bump_ok
    | apply (State.cluster_ok (q := q)) | apply Cluster.invalidate_ok | apply Good.ite
    | apply (State.cluster_ok (q := q))

theorem State.beginPeriod_ok {b0 b1 b2} (h0 : Good q b0) : Good q (State.beginPeriod b0 b1 b2) := by
  unfold State.beginPeriod
  try dsimp only
  repeat' first
    | with_reducible first
        | assumption | apply (State.core_ok (q := q)) | apply Core.writeSeqCtrl_ok | apply State.setCore_ok
        | apply Core.event_ok | apply State.periodInvalidate_ok | apply Core.kindleEvent_ok
        | apply (State.core_ok (q := q))
    | split

theorem execPeriodStartCommand_ok {b0 b1} (h0 : Good q b1) : OutGood q (execPeriodStartCommand b0 b1) := by
  unfold execPeriodStartCommand
  try dsimp only
  repeat' with_reducible first
    | intro _ | assumption | apply ctlStep_ok | apply State.beginPeriod_ok | apply State.sendPeriodStart_ok

theorem State.sendRestart_ok {b0 b1} (h0 : Good q b0) : Good q (State.sendRestart b0 b1) := by
  unfold State.sendRestart
  try dsimp only
  repeat' first
    | with_reducible first
        | assumption | apply when'_ok | apply State.tellCore_ok | apply State.modPeriod_ok
    | split

theorem Core.restart_ok {b0} (h0 : Sparse.wf (b0).store = true) : Sparse.wf ((Core.restart b0)).store = true := by
  unfold Core.restart
  try dsimp only
  repeat' with_reducible first
    | assumption

theorem State.restartCore_ok {b0 b1} (h0 : Good q b0) : Good q (State.restartCore b0 b1) := by
  unfold State.restartCore
  try dsimp only
  repeat' first
    | with_reducible first
        | assumption | apply (State.core_ok (q := q)) | apply when'_ok | apply State.setCore_ok
        | apply Core.restart_ok | apply (State.core_ok (q := q))
    | split

theorem execPeriodRestart_ok {b0 b1} (h0 : Good q b1) : OutGood q (execPeriodRestart b0 b1) := by
  unfold execPeriodRestart
  try dsimp only
  repeat' with_reducible first
    | intro _ | assumption | apply ctlStep_ok | apply State.restartCore_ok | apply State.sendRestart_ok

theorem State.sendMordant_ok {b0 b1 b2} (h0 : Good q b0) : Good q (State.sendMordant b0 b1 b2) := by
  unfold State.sendMordant
  try dsimp only
  repeat' first
    | with_reducible first
        | assumption | apply when'_ok | apply State.tellCore_ok | apply State.modPeriod_ok
    | split

theorem State.takeMordant_ok {b0 b1 b2} (h0 : Good q b0) : Good q (State.takeMordant b0 b1 b2) := by
  unfold State.takeMordant
  try dsimp only
  repeat' with_reducible first
    | assumption | apply (State.core_ok (q := q)) | apply State.setCore_ok | apply Core.kindleEvent_ok
    | apply (State.core_ok (q := q))

theorem execMordantCommit_ok {b0 b1} (h0 : Good q b1) : OutGood q (execMordantCommit b0 b1) := by
  unfold execMordantCommit
  try dsimp only
  repeat' with_reducible first
    | intro _ | assumption | apply ctlStep_ok | apply State.sendMordant_ok | apply State.takeMordant_ok

theorem execMordantDiscard_ok {b0 b1} (h0 : Good q b1) : OutGood q (execMordantDiscard b0 b1) := by
  unfold execMordantDiscard
  try dsimp only
  repeat' with_reducible first
    | intro _ | assumption | apply ctlStep_ok | apply State.sendMordant_ok | apply State.takeMordant_ok

theorem Core.consume_ok {b0 b1} (h0 : Sparse.wf (b0).store = true) :
    Sparse.wf ((Core.consume b0 b1)).store = true := by
  fun_induction Core.consume b0 b1
  all_goals try dsimp only
  all_goals repeat' with_reducible first
    | apply_assumption

theorem Core.fire_ok {b0 b1} (h0 : Sparse.wf (b0).store = true) : Sparse.wf ((Core.fire b0 b1)).store = true := by
  unfold Core.fire
  try dsimp only
  repeat' with_reducible first
    | assumption | apply Core.consume_ok

theorem onCore_ok {b0 b1 b2} (h0 : Good q b1) (h1 : (∀ a1, Good q a1 → Good q (b2 a1))) :
    OutGood q (onCore b0 b1 b2) := by
  unfold onCore
  try dsimp only
  repeat' with_reducible first
    | assumption | apply h1 | apply OutGood.next | apply OutGood.fault | apply OutGood.ite

theorem execFiringStart_ok {b0 b1} (h0 : Good q b1) : OutGood q (execFiringStart b0 b1) := by
  unfold execFiringStart
  try dsimp only
  repeat' first
    | with_reducible first
        | intro _ | assumption | apply (State.core_ok (q := q)) | apply when'_ok | apply State.setCore_ok
        | apply onCore_ok | apply Core.fire_ok | apply (State.core_ok (q := q))
    | split

theorem State.closeBoundary_ok {b0 b1 b2} (h0 : Good q b0) : Good q (State.closeBoundary b0 b1 b2) := by
  unfold State.closeBoundary
  try dsimp only
  repeat' first
    | with_reducible first
        | assumption | apply State.setNum_ok | apply State.addNum_ok | apply State.modPeriod_ok
    | split

theorem State.takeAck_ok {b0 b1 b2 b3} (h0 : Good q b0) : Good q (State.takeAck b0 b1 b2 b3) := by
  unfold State.takeAck
  try dsimp only
  repeat' with_reducible first
    | intro _ | assumption | apply State.modCore_ok | apply State.closeBoundary_ok | apply State.modPeriod_ok
    | apply Good.ite

theorem State.sendCoreAck_ok {b0 b1} (h0 : Good q b0) : Good q (State.sendCoreAck b0 b1) := by
  unfold State.sendCoreAck
  try dsimp only
  repeat' first
    | with_reducible first
        | assumption | apply (State.core_ok (q := q)) | apply State.setCore_ok | apply State.sendCtl_ok
        | apply (State.core_ok (q := q))
    | split

theorem execAcknowledge_ok {b0 b1 b2} (h0 : Good q b2) : OutGood q (execAcknowledge b0 b1 b2) := by
  unfold execAcknowledge
  try dsimp only
  repeat' with_reducible first
    | intro _ | assumption | apply ctlStep_ok | apply State.takeAck_ok | apply State.sendCoreAck_ok

theorem State.reportCore_ok {b0 b1 b2} (h0 : Good q b0) : Good q (State.reportCore b0 b1 b2) := by
  unfold State.reportCore
  try dsimp only
  repeat' with_reducible first
    | intro _ | assumption | apply State.post_ok | apply State.setBlob_ok | apply State.modCore_ok
    | apply State.pushCause_ok | apply Good.ite

theorem State.reportRouter_ok {b0 b1 b2} (h0 : Good q b0) : Good q (State.reportRouter b0 b1 b2) := by
  unfold State.reportRouter
  try dsimp only
  repeat' with_reducible first
    | assumption | apply State.post_ok | apply State.setNum_ok | apply State.pushCause_ok | apply Good.ite

theorem State.sendFault_ok {b0 b1} (h0 : Good q b0) : Good q (State.sendFault b0 b1) := by
  unfold State.sendFault
  try dsimp only
  repeat' first
    | with_reducible first
        | intro _ | assumption | apply State.modCluster_ok | apply State.modCore_ok | apply State.sendCtl_ok
    | split

theorem execFaultReport_ok {b0 b1} (h0 : Good q b1) : OutGood q (execFaultReport b0 b1) := by
  unfold execFaultReport
  try dsimp only
  repeat' with_reducible first
    | intro _ | assumption | apply ctlStep_ok | apply State.reportRouter_ok | apply State.reportCore_ok
    | apply State.sendFault_ok | apply Good.ite

theorem State.sendDropCycle_ok {b0 b1} (h0 : Good q b0) : Good q (State.sendDropCycle b0 b1) := by
  unfold State.sendDropCycle
  try dsimp only
  repeat' first
    | with_reducible first
        | assumption | apply State.sendCtl_ok
    | split

theorem execDropCycle_ok {b0 b1} (h0 : Good q b1) : OutGood q (execDropCycle b0 b1) := by
  unfold execDropCycle
  try dsimp only
  repeat' with_reducible first
    | intro _ | assumption | apply ctlStep_ok | apply State.sendDropCycle_ok | apply State.modCluster_ok

theorem State.setClusterState_ok {b0 b1 b2} (h0 : Good q b0) : Good q (State.setClusterState b0 b1 b2) := by
  unfold State.setClusterState
  try dsimp only
  repeat' with_reducible first
    | assumption | apply State.rewriteMap_ok

theorem Core.fetch_ok1 {b0 v} (e : Core.fetch b0 = .error v) (h0 : Sparse.wf b0.store = true) :
    Sparse.wf v.store = true := by
  unfold Core.fetch at e
  split at e <;> cases e
  exact Core.raise_ok h0

theorem Core.fetch_ok2 {b0 v} (e : Core.fetch b0 = .ok v) (h0 : Sparse.wf b0.store = true) : Sparse.wf v.store = true := by
  unfold Core.fetch at e
  split at e <;> cases e
  · exact Core.bumpCount_ok h0
  · exact h0

theorem Ran.finish_ok {b0 b1 b2} (h0 : Ran.sw b0) (h1 : Sparse.wf b1.store = true) :
    Sparse.wf (Ran.finish b0 b1 b2).store = true := by
  unfold Ran.finish
  split
  · exact h0
  · exact h0
  · exact h1
  · exact h1
  · exact Core.raise_ok h0

theorem issue_ok {b0 b1 b2 b3 b4 b5} (h0 : Good q b4) (h1 : (∀ a1, Sparse.wf (a1).store = true → Ran.sw (b5 a1))) :
    OutGood q (issue b0 b1 b2 b3 b4 b5) := by
  unfold issue
  try dsimp only
  repeat' first
    | with_reducible first
        | intro _ | assumption | apply h1 | apply Ran.finish_ok | apply (State.core_ok (q := q))
        | apply Core.fetch_ok1 (by assumption) | apply Core.fetch_ok2 (by assumption) | apply State.setCore_ok
        | apply onCore_ok | apply (State.core_ok (q := q))
    | split

theorem execAcct_ok {b0 b1 b2} (h0 : Good q b2) : OutGood q (execAcct b0 b1 b2) := by
  unfold execAcct
  try dsimp only
  repeat' with_reducible first
    | intro _ | assumption | apply issue_ok | apply Ran.sw_done

theorem State.emitHwt_ok {b0 b1 b2 b3 b4} (h0 : Good q b0) : Good q (State.emitHwt b0 b1 b2 b3 b4) := by
  unfold State.emitHwt
  try dsimp only
  repeat' with_reducible first
    | assumption | apply State.emitIp_ok

theorem State.modAssoc_ok {b0 b1 b2 b3} (h0 : Good q b0) : Good q (State.modAssoc b0 b1 b2 b3) := by
  unfold State.modAssoc
  try dsimp only
  repeat' with_reducible first
    | assumption | apply State.modPort_ok

theorem State.sendAck_ok {b0 b1 b2} (h0 : Good q b0) : Good q (State.sendAck b0 b1 b2) := by
  unfold State.sendAck
  try dsimp only
  repeat' with_reducible first
    | assumption | apply State.draw_ok | apply State.modAssoc_ok | apply State.emitHwt_ok

theorem execAckTimer_ok {b0 b1 b2} (h0 : Good q b2) : OutGood q (execAckTimer b0 b1 b2) := by
  unfold execAckTimer
  try dsimp only
  repeat' with_reducible first
    | intro _ | assumption | apply when'_ok | apply State.sendAck_ok | apply onPort_ok

theorem State.sendSeg_ok {b0 b1 b2 b3} (h0 : Good q b0) : Good q (State.sendSeg b0 b1 b2 b3) := by
  unfold State.sendSeg
  try dsimp only
  repeat' with_reducible first
    | assumption | apply State.addNum_ok | apply State.emitHwt_ok

theorem State.sendNext_ok {b0 b1} (h0 : Good q b0) : Good q (State.sendNext b0 b1) := by
  unfold State.sendNext
  try dsimp only
  repeat' first
    | with_reducible first
        | assumption | apply State.modPort_ok | apply State.sendSeg_ok | apply State.modAssoc_ok
    | split

theorem State.channelDown_ok {b0 b1} (h0 : Good q b0) : Good q (State.channelDown b0 b1) := by
  unfold State.channelDown
  try dsimp only
  repeat' with_reducible first
    | assumption | apply State.faultPart_ok | apply State.postField_ok | apply Good.ite

theorem State.correct_ok {b0 b1 b2} (h0 : Good q b0) : Good q (State.correct b0 b1 b2) := by
  unfold State.correct
  try dsimp only
  repeat' first
    | with_reducible first
        | assumption | apply State.modChan_ok
    | fail_if_no_progress with_reducible refine Good.of_eq ?_ rfl rfl rfl rfl | split

theorem State.rowFuse_ok {b0 b1} (h0 : Good q b0) : Good q (State.rowFuse b0 b1) := by
  unfold State.rowFuse
  try dsimp only
  repeat' first
    | with_reducible first
        | assumption | apply State.modChan_ok | apply State.softFuse_ok
    | split

theorem State.lineError_ok {b0 b1 b2} (h0 : Good q b0) : Good q (State.lineError b0 b1 b2) := by
  unfold State.lineError
  try dsimp only
  repeat' with_reducible first
    | assumption | apply State.modField_ok | apply State.modChan_ok | apply State.postField_ok
    | apply State.rowFuse_ok

theorem State.dramRead_ok {b0 b1 b2} (h0 : Good q b0) : Good q (State.dramRead b0 b1 b2).1 := by
  unfold State.dramRead
  try dsimp only
  repeat' first
    | with_reducible first
        | intro _ | assumption | apply State.lineError_ok | apply State.modChan_ok | apply State.correct_ok
        | apply Good.foldl
    | split

theorem State.engineRead_ok {b0 b1 b2} (h0 : Good q b0) : Good q (State.engineRead b0 b1 b2).1 := by
  unfold State.engineRead
  try dsimp only
  repeat' first
    | with_reducible first
        | assumption | apply State.dramRead_ok | apply State.channelDown_ok
    | split

theorem State.gaRead_ok {b0 b1 b2} (h0 : Good q b0) : Good q (State.gaRead b0 b1 b2).1 := by
  unfold State.gaRead
  try dsimp only
  repeat' first
    | with_reducible first
        | intro _ | assumption | apply State.draw_ok | apply State.engineRead_ok | apply Good.foldl1
    | split

theorem State.dramLine_ok {b0 b1 b2 b3} (h0 : Good q b0) : Good q (State.dramLine b0 b1 b2 b3).1 := by
  have put : ∀ (s : State) (a : Nat) (l : List Byte) (e : SMap LineErr), Good q s →
      Good q { s with dram := { s.dram with mem := Sparse.blit s.dram.mem a l, err := e } } :=
    fun s a l e h => ⟨h.1, Sparse.wf_blit h.2.1 a l, h.2.2⟩
  unfold State.dramLine
  dsimp only
  split
  · exact State.modChan_ok (State.modChan_ok (put _ _ _ _ h0))
  · split
    · exact State.lineError_ok h0
    · exact State.modChan_ok (put _ _ _ _ (State.correct_ok h0))

theorem State.dramLines_ok {b0 b1 b2 b3 b4} (h0 : Good q b0) : Good q (State.dramLines b0 b1 b2 b3 b4).1 := by
  fun_induction State.dramLines b0 b1 b2 b3 b4
  all_goals try dsimp only
  all_goals repeat' with_reducible first
    | apply_assumption | apply State.dramLine_ok

theorem State.dramWrite_ok {b0 b1 b2} (h0 : Good q b0) : Good q (State.dramWrite b0 b1 b2).1 := by
  unfold State.dramWrite
  try dsimp only
  repeat' with_reducible first
    | assumption | apply State.dramLines_ok

theorem State.gaWrite_ok {b0 b1 b2} (h0 : Good q b0) : Good q (State.gaWrite b0 b1 b2) := by
  unfold State.gaWrite
  try dsimp only
  repeat' with_reducible first
    | intro _ | assumption | apply State.dramWrite_ok | apply State.channelDown_ok | apply Good.ite
    | apply Good.foldl

theorem State.pushPage_ok {b0 b1 b2} (h0 : Good q b0) : Good q (State.pushPage b0 b1 b2) := by
  unfold State.pushPage
  try dsimp only
  repeat' with_reducible first
    | assumption | apply State.modPort_ok | apply State.setNum_ok | apply State.gaWrite_ok | apply Good.ite

theorem State.unmapPages_ok {b0 b1 b2} (h0 : Good q b0) : Good q (State.unmapPages b0 b1 b2) := by
  unfold State.unmapPages
  try dsimp only
  repeat' with_reducible first
    | intro _ | assumption | apply State.gaRead_ok | apply State.pushPage_ok | apply State.gaWrite_ok
    | apply Good.foldl

theorem State.sweep_ok {b0 b1} (h0 : Good q b0) : Good q (State.sweep b0 b1) := by
  unfold State.sweep
  try dsimp only
  repeat' with_reducible first
    | intro _ | assumption | apply State.modPort_ok | apply State.unmapPages_ok | apply Good.ite
    | apply Good.foldl

theorem State.pump_ok {b0 b1} (h0 : Good q b0) : Good q (State.pump b0 b1) := by
  unfold State.pump
  try dsimp only
  repeat' with_reducible first
    | intro _ | assumption | apply State.sendNext_ok | apply State.sweep_ok | apply Good.ite | apply Good.foldl

theorem State.tryUp_ok {b0 b1 b2 b3} (h0 : Good q b0) : Good q (State.tryUp b0 b1 b2 b3) := by
  unfold State.tryUp
  try dsimp only
  repeat' with_reducible first
    | assumption | apply State.applyPath_ok | apply State.modAssoc_ok | apply Good.ite

theorem onSegment_ok {b0 b1 b2 b3 b4 b5} (h0 : Good q b4) (h1 : (∀ a1 a2, Good q a1 → Good q (b5 a1 a2))) :
    OutGood q (onSegment b0 b1 b2 b3 b4 b5) := by
  unfold onSegment
  try dsimp only
  repeat' with_reducible first
    | intro _ | assumption | apply h1 | apply State.addNum_ok | apply onPort_ok | apply Good.ite

theorem execAcknowledgementSegment_ok {b0 b1 b2 b3} (h0 : Good q b3) :
    OutGood q (execAcknowledgementSegment b0 b1 b2 b3) := by
  unfold execAcknowledgementSegment
  try dsimp only
  repeat' with_reducible first
    | intro _ | assumption | apply State.draw_ok | apply State.pump_ok | apply State.tryUp_ok
    | apply onSegment_ok | apply State.modAssoc_ok

theorem issueS_ok {b0 b1 b2 b3 b4 b5} (h0 : Good q b4)
    (h1 : (∀ a1 a2, Good q a1 → Sparse.wf (a2).store = true → Good q (b5 a1 a2).1))
    (h2 : (∀ a1 a2, Good q a1 → Sparse.wf (a2).store = true → Ran.sw (b5 a1 a2).2)) :
    OutGood q (issueS b0 b1 b2 b3 b4 b5) := by
  unfold issueS
  try dsimp only
  repeat' first
    | with_reducible first
        | intro _ | assumption | apply h1 | apply h2 | apply Ran.finish_ok | apply (State.core_ok (q := q))
        | apply Core.fetch_ok1 (by assumption) | apply Core.fetch_ok2 (by assumption) | apply State.setCore_ok
        | apply onCore_ok | refine Good.fst (by assumption) ?_ | refine Ran.sw_snd (by assumption) ?_
        | apply (State.core_ok (q := q))
    | split

theorem runAcq_ok1 {b0 b1 b2 b3 b4 b5} (h0 : Good q b4) (h1 : Sparse.wf (b5).store = true) :
    Good q (runAcq b0 b1 b2 b3 b4 b5).1 := by
  unfold runAcq
  try dsimp only
  repeat' first
    | with_reducible first
        | intro _ | assumption | apply State.modCluster_ok | apply Cluster.suppress_ok
        | apply Cluster.invalidate_ok
    | split

theorem runAcq_ok2 {b0 b1 b2 b3 b4 b5} (h0 : Good q b4) (h1 : Sparse.wf (b5).store = true) :
    Ran.sw (runAcq b0 b1 b2 b3 b4 b5).2 := by
  unfold runAcq
  try dsimp only
  repeat' first
    | with_reducible first
        | assumption | apply Ran.sw_done | apply Ran.sw_fault | apply Ran.sw_wait
    | split

theorem execAcq_ok {b0 b1 b2 b3 b4} (h0 : Good q b4) : OutGood q (execAcq b0 b1 b2 b3 b4) := by
  unfold execAcq
  try dsimp only
  repeat' with_reducible first
    | intro _ | assumption | apply runAcq_ok1 | apply (runAcq_ok2 (q := q)) | apply issueS_ok

theorem execAcquireComplete_ok {b0 b1} (h0 : Good q b1) : OutGood q (execAcquireComplete b0 b1) := by
  unfold execAcquireComplete
  try dsimp only
  repeat' with_reducible first
    | intro _ | assumption | apply State.modCluster_ok | apply (State.core_ok (q := q)) | apply Cluster.bump_ok
    | apply when'_ok | apply State.setCore_ok | apply onCore_ok | apply (State.core_ok (q := q))

theorem Core.setS_ok {b0 b1 b2} (h0 : Sparse.wf (b0).store = true) :
    Sparse.wf ((Core.setS b0 b1 b2)).store = true := by
  unfold Core.setS
  try dsimp only
  repeat' first
    | with_reducible first
        | assumption
    | split

theorem aluReg_ok {b0 b1 b2 b3 b4} (h0 : Sparse.wf (b4).store = true) : Ran.sw (aluReg b0 b1 b2 b3 b4) := by
  unfold aluReg
  try dsimp only
  repeat' with_reducible first
    | assumption | apply Core.setS_ok | apply Ran.sw_done

theorem execAdd_ok {b0 b1 b2 b3 b4} (h0 : Good q b4) : OutGood q (execAdd b0 b1 b2 b3 b4) := by
  unfold execAdd
  try dsimp only
  repeat' with_reducible first
    | assumption | apply aluReg_ok | apply issue_ok

theorem aluImm_ok {b0 b1 b2 b3 b4} (h0 : Sparse.wf (b4).store = true) : Ran.sw (aluImm b0 b1 b2 b3 b4) := by
  unfold aluImm
  try dsimp only
  repeat' with_reducible first
    | assumption | apply Core.setS_ok | apply Ran.sw_done

theorem execAddi_ok {b0 b1 b2 b3 b4} (h0 : Good q b4) : OutGood q (execAddi b0 b1 b2 b3 b4) := by
  unfold execAddi
  try dsimp only
  repeat' with_reducible first
    | assumption | apply issue_ok | apply aluImm_ok



theorem State.writeBatch_ok {b0 b1 b2 b3 b4 b5} (h0 : Good q b0) : Good q (State.writeBatch b0 b1 b2 b3 b4 b5) := by
  unfold State.writeBatch
  try dsimp only
  repeat' with_reducible first
    | intro _ | assumption | apply State.gaWrite_ok | apply Good.foldl

theorem onPart_ok {b0 b1 b2} (h0 : Good q b1) (h1 : (∀ a1, Good q a1 → Good q (b2 a1))) :
    OutGood q (onPart b0 b1 b2) := by
  unfold onPart
  try dsimp only
  repeat' with_reducible first
    | assumption | apply h1 | apply OutGood.next | apply OutGood.fault | apply OutGood.ite

theorem State.countsAnew_ok {b0 b1} (h0 : Good q b0) : Good q (State.countsAnew b0 b1) := by
  unfold State.countsAnew
  try dsimp only
  repeat' first
    | with_reducible first
        | assumption
    | fail_if_no_progress with_reducible refine Good.of_eq ?_ rfl rfl rfl rfl

theorem State.withdraw_ok {b0 b1} (h0 : Good q b0) : Good q (State.withdraw b0 b1) := by
  unfold State.withdraw
  exact Good.of_eq h0 rfl rfl rfl rfl

theorem State.coreReset_ok {b0 b1} (h0 : Good q b0) : Good q (State.coreReset b0 b1) := by
  unfold State.coreReset
  try dsimp only
  repeat' with_reducible first
    | assumption | apply State.withdraw_ok | apply State.draw_ok | apply Core.resetWith_ok | apply State.setCore_ok
    | apply State.countsAnew_ok

theorem State.keepScales_ok {b0 b1} (h0 : Good q b0) : Good q (State.keepScales b0 b1) := by
  unfold State.keepScales
  exact Good.cores_map h0 fun p hp => by dsimp only; split <;> exact hp

theorem Core.credit_ok {b0 b1 b2} (h0 : Sparse.wf (b1).store = true) :
    Sparse.wf ((Core.credit b0 b1 b2)).store = true := by
  unfold Core.credit
  try dsimp only
  repeat' first
    | with_reducible first
        | assumption
    | split

theorem State.place_ok {b0 b1 b2} (h0 : Good q b0) : Good q (State.place b0 b1 b2) := by
  unfold State.place
  try dsimp only
  repeat' with_reducible first
    | assumption | apply (State.core_ok (q := q)) | apply Core.credit_ok | apply State.setCore_ok
    | apply Good.ite | apply Core.sw_ite | apply Core.sw_foldl | apply (State.core_ok (q := q))

theorem State.writeRec_ok {b0 b1} (h0 : Good q b0) : Good q (State.writeRec b0 b1) := by
  unfold State.writeRec
  try dsimp only
  repeat' with_reducible first
    | intro _ | assumption | apply State.modCluster_ok | apply State.writeCfgWords_ok | apply Good.ite

theorem State.writeVariant_ok {b0 b1} (h0 : Good q b0) : Good q (State.writeVariant b0 b1) := by
  unfold State.writeVariant
  try dsimp only
  repeat' with_reducible first
    | intro _ | assumption | apply State.modCluster_ok | apply State.writeRec_ok | apply Good.foldl

theorem State.installVariant_ok {b0 b1 b2} (h0 : Good q b0) : Good q (State.installVariant b0 b1 b2) := by
  unfold State.installVariant
  try dsimp only
  repeat' with_reducible first
    | intro _ | assumption | apply State.coreReset_ok | apply State.place_ok | apply State.writeRec_ok
    | apply State.keepScales_ok | apply State.writeVariant_ok | apply Good.foldl

theorem State.installAlternate_ok {b0 b1 b2 b3} (h0 : Good q b2) : Good q (State.installAlternate b0 b1 b2 b3) := by
  unfold State.installAlternate
  try dsimp only
  repeat' first
    | with_reducible first
        | assumption | apply State.setNum_ok | apply State.faultPart_ok | apply State.installVariant_ok
        | apply State.modPart_ok
    | split

theorem execAlternateInstall_ok {b0 b1 b2} (h0 : Good q b2) : OutGood q (execAlternateInstall b0 b1 b2) := by
  unfold execAlternateInstall
  try dsimp only
  repeat' with_reducible first
    | intro _ | assumption | apply State.installAlternate_ok | apply onPart_ok | apply Good.ite
    | apply Good.foldl

theorem Core.addOp_ok {b0 b1} (h0 : Sparse.wf (b0).store = true) : Sparse.wf ((Core.addOp b0 b1)).store = true := by
  unfold Core.addOp
  try dsimp only
  repeat' with_reducible first
    | assumption

theorem runAmo_ok1 {b0 b1 b2 b3 b4 b5 b6} (h0 : Good q b5) (h1 : Sparse.wf (b6).store = true) :
    Good q (runAmo b0 b1 b2 b3 b4 b5 b6).1 := by
  unfold runAmo
  try dsimp only
  repeat' first
    | with_reducible first
        | assumption | apply State.addPacket_ok
    | split

theorem runAmo_ok2 {b0 b1 b2 b3 b4 b5 b6} (h0 : Good q b5) (h1 : Sparse.wf (b6).store = true) :
    Ran.sw (runAmo b0 b1 b2 b3 b4 b5 b6).2 := by
  unfold runAmo
  try dsimp only
  repeat' first
    | with_reducible first
        | assumption | apply Core.addOp_ok | apply Ran.sw_done | apply Ran.sw_fault | apply Ran.sw_wait
    | split

theorem execAmo_ok {b0 b1 b2 b3 b4 b5} (h0 : Good q b5) : OutGood q (execAmo b0 b1 b2 b3 b4 b5) := by
  unfold execAmo
  try dsimp only
  repeat' with_reducible first
    | intro _ | assumption | apply runAmo_ok1 | apply (runAmo_ok2 (q := q)) | apply issueS_ok

theorem execAnd_ok {b0 b1 b2 b3 b4} (h0 : Good q b4) : OutGood q (execAnd b0 b1 b2 b3 b4) := by
  unfold execAnd
  try dsimp only
  repeat' with_reducible first
    | assumption | apply aluReg_ok | apply issue_ok

theorem execAndi_ok {b0 b1 b2 b3 b4} (h0 : Good q b4) : OutGood q (execAndi b0 b1 b2 b3 b4) := by
  unfold execAndi
  try dsimp only
  repeat' with_reducible first
    | assumption | apply issue_ok | apply aluImm_ok

theorem onIfc_ok {b0 b1 b2} (h0 : Good q b1) (h1 : (∀ a1, Good q a1 → Good q (b2 a1))) :
    OutGood q (onIfc b0 b1 b2) := by
  unfold onIfc
  try dsimp only
  repeat' with_reducible first
    | assumption | apply h1 | apply OutGood.next | apply OutGood.fault | apply OutGood.ite

theorem execArpRequest_ok {b0 b1 b2 b3 b4} (h0 : Good q b4) : OutGood q (execArpRequest b0 b1 b2 b3 b4) := by
  unfold execArpRequest
  try dsimp only
  repeat' with_reducible first
    | intro _ | assumption | apply when'_ok | apply onIfc_ok | apply State.emit_ok

theorem State.assocDown_ok {b0 b1 b2} (h0 : Good q b0) : Good q (State.assocDown b0 b1 b2) := by
  unfold State.assocDown
  try dsimp only
  repeat' with_reducible first
    | intro _ | assumption | apply State.modPort_ok | apply State.addNum_ok | apply State.applyPath_ok
    | apply State.sweep_ok | apply State.modAssoc_ok | apply State.respond_ok | apply State.gaWrite_ok
    | apply Good.foldl

theorem State.writeAssoc_ok {b0 b1 b2 b3} (h0 : Good q b0) : Good q (State.writeAssoc b0 b1 b2 b3).1 := by
  unfold State.writeAssoc
  try dsimp only
  repeat' first
    | with_reducible first
        | assumption | apply State.setBlob_ok | apply State.applyPath_ok | apply State.sweep_ok
        | apply State.modAssoc_ok | apply State.assocDown_ok
    | split

theorem execAssocWrite_ok {b0 b1 b2 b3} (h0 : Good q b3) : OutGood q (execAssocWrite b0 b1 b2 b3) := by
  unfold execAssocWrite
  try dsimp only
  repeat' with_reducible first
    | intro _ | assumption | apply State.writeAssoc_ok | apply onPort_ok | apply Good.ite

theorem State.protect_ok {b0 b1} (h0 : Good q b0) : Good q (State.protect b0 b1) := by
  unfold State.protect
  try dsimp only
  repeat' with_reducible first
    | intro _ | assumption | apply State.modCluster_ok | apply Cluster.bump_ok

theorem State.serve_ok {b0 b1 b2} (h0 : Good q b0) (h1 : (∀ a1, Good q a1 → Good q (b2 a1))) :
    Good q (State.serve b0 b1 b2) := by
  unfold State.serve
  try dsimp only
  repeat' with_reducible first
    | assumption | apply h1 | apply State.protect_ok | apply State.absent_ok | apply State.respond_ok
    | apply Good.ite

theorem State.dramAtomic_ok {b0 b1 b2 b3 b4} (h0 : Good q b0) : Good q (State.dramAtomic b0 b1 b2 b3 b4).1 := by
  have h := State.correct_ok (b1 := [b1 / 64 * 64]) (b2 := 0x30) h0
  unfold State.dramAtomic
  dsimp only
  split
  · exact State.lineError_ok h0
  · exact State.modChan_ok ⟨h.1, Sparse.wf_blit h.2.1 _ _, h.2.2⟩

theorem State.serveAtomic_ok {b0 b1} (h0 : Good q b0) : Good q (State.serveAtomic b0 b1) := by
  unfold State.serveAtomic
  try dsimp only
  repeat' first
    | with_reducible first
        | assumption | apply State.setCluster_ok | apply Cluster.scratchWrite_ok | apply Cluster.bump_ok
        | apply State.dramAtomic_ok | apply State.respond_ok | apply (State.cluster_ok (q := q))
        | apply State.channelDown_ok | apply (State.cluster_ok (q := q))
    | split

theorem execAtomicRequest_ok {b0 b1} (h0 : Good q b1) : OutGood q (execAtomicRequest b0 b1) := by
  unfold execAtomicRequest
  try dsimp only
  repeat' with_reducible first
    | intro _ | assumption | apply State.serve_ok | apply State.serveAtomic_ok | apply deliver_ok

theorem Core.setCnt_ok {b0 b1 b2} (h0 : Sparse.wf (b0).store = true) :
    Sparse.wf ((Core.setCnt b0 b1 b2)).store = true := by
  unfold Core.setCnt
  try dsimp only
  repeat' first
    | with_reducible first
        | assumption | apply Core.raise_ok
    | split

theorem Core.addCnt_ok {b0 b1 b2} (h0 : Sparse.wf (b0).store = true) :
    Sparse.wf ((Core.addCnt b0 b1 b2)).store = true := by
  unfold Core.addCnt
  try dsimp only
  repeat' with_reducible first
    | assumption | apply Core.setCnt_ok

theorem Core.storeBytes_ok {b0 b1 b2} (h0 : Sparse.wf (b0).store = true) :
    Sparse.wf ((Core.storeBytes b0 b1 b2).1).store = true := by
  unfold Core.storeBytes
  try dsimp only
  repeat' first
    | with_reducible first
        | assumption | apply Core.bumpCount_ok | apply Sparse.wf_blit
    | split

theorem Core.complete_ok {b0 b1} (h0 : Sparse.wf (b0).store = true) :
    Sparse.wf ((Core.complete b0 b1)).store = true := by
  unfold Core.complete
  try dsimp only
  repeat' first
    | with_reducible first
        | assumption | apply Core.storeBytes_ok | apply Core.setS_ok | apply Core.raise_ok
        | apply Core.addCnt_ok | refine Core.sw_fst (by assumption) ?_
    | split

end Sys2Proof.Machine
end

