-- ==== Sys2Proof/Laws/Frame3.lean ====
section
/-! SUPPORT. What each operation leaves of the queue and of the canonical form of the memories, one lemma for each, callees
first (part 3 of 6). -/

namespace Sys2Proof.Machine

variable {q : List Instr}

theorem Core.answerPart_ok {b0 b1 b2 b3 b4 b5} (h0 : Sparse.wf (b0).store = true) :
    Sparse.wf ((Core.answerPart b0 b1 b2 b3 b4 b5)).store = true := by
  unfold Core.answerPart
  try dsimp only
  repeat' first
    | with_reducible first
        | assumption | apply Core.raise_ok | apply Core.complete_ok
    | split

theorem State.late_ok {b0 b1} (h0 : Good q b0) : Good q (State.late b0 b1) := by
  unfold State.late
  try dsimp only
  repeat' with_reducible first
    | intro _ | assumption | apply State.modCluster_ok | apply Cluster.bump_ok

theorem Cluster.fillLines_ok {b0 b1 b2 b3} (h0 : Sparse.wf b0.cmem = true) :
    Sparse.wf (Cluster.fillLines b0 b1 b2 b3).cmem = true := by
  induction b3 generalizing b0 b2 with
  | nil => exact h0
  | cons l r ih =>
    unfold Cluster.fillLines
    dsimp only
    repeat' split
    all_goals first | exact h0 | (apply ih; first | exact Cluster.bump_ok h0 | exact Cluster.install_ok h0)

theorem State.takeFill_ok {b0 b1 b2 b3 b4} (h0 : Good q b0) : Good q (State.takeFill b0 b1 b2 b3 b4) := by
  unfold State.takeFill
  try dsimp only
  repeat' first
    | with_reducible first
        | intro _ | assumption | apply State.modCluster_ok | apply Cluster.fillLines_ok
    | split

theorem State.coreResponse_ok {b0 b1} (h0 : Good q b0) : Good q (State.coreResponse b0 b1) := by
  unfold State.coreResponse
  try dsimp only
  repeat' first
    | with_reducible first
        | assumption | apply State.takeFill_ok | apply (State.core_ok (q := q)) | apply State.late_ok
        | apply State.setCore_ok | apply Core.answerPart_ok | apply (State.core_ok (q := q))
    | split

theorem State.queueMsg_ok {b0 b1 b2 b3} (h0 : Good q b0) : Good q (State.queueMsg b0 b1 b2 b3) := by
  unfold State.queueMsg
  try dsimp only
  repeat' with_reducible first
    | assumption | apply State.pump_ok | apply State.modAssoc_ok | apply Good.ite

theorem State.sendAnswer_ok {b0 b1 b2 b3 b4 b5 b6} (h0 : Good q b0) :
    Good q (State.sendAnswer b0 b1 b2 b3 b4 b5 b6) := by
  unfold State.sendAnswer
  try dsimp only
  repeat' with_reducible first
    | assumption | apply State.queueMsg_ok

theorem State.finishRead_ok {b0 b1 b2} (h0 : Good q b0) : Good q (State.finishRead b0 b1 b2) := by
  unfold State.finishRead
  try dsimp only
  repeat' first
    | with_reducible first
        | assumption | apply State.modPort_ok | apply State.sendAnswer_ok
    | split

theorem State.portResponse_ok {b0 b1} (h0 : Good q b0) : Good q (State.portResponse b0 b1) := by
  unfold State.portResponse
  try dsimp only
  repeat' first
    | with_reducible first
        | assumption | apply State.finishRead_ok | apply State.setPort_ok | apply State.late_ok
    | split

theorem State.takeResponse_ok {b0 b1} (h0 : Good q b0) : Good q (State.takeResponse b0 b1) := by
  unfold State.takeResponse
  try dsimp only
  repeat' with_reducible first
    | assumption | apply State.coreResponse_ok | apply State.late_ok | apply State.portResponse_ok
    | apply Good.ite

theorem execAtomicResponse_ok {b0 b1} (h0 : Good q b1) : OutGood q (execAtomicResponse b0 b1) := by
  unfold execAtomicResponse
  try dsimp only
  repeat' with_reducible first
    | assumption | apply State.takeResponse_ok | apply deliver_ok

theorem State.writeAttest_ok {b0 b1} (h0 : Good q b0) : Good q (State.writeAttest b0 b1).1 := by
  unfold State.writeAttest
  try dsimp only
  repeat' first
    | with_reducible first
        | assumption | apply State.setBlob_ok | apply State.setNum_ok
    | fail_if_no_progress with_reducible refine Good.of_eq ?_ rfl rfl rfl rfl | split

theorem execAttestRequest_ok {b0 b1} (h0 : Good q b1) : OutGood q (execAttestRequest b0 b1) := by
  unfold execAttestRequest
  try dsimp only
  repeat' with_reducible first
    | assumption | apply State.writeAttest_ok | apply OutGood.next

theorem execAttestSigned_ok {b0 b1} (h0 : Good q b1) : OutGood q (execAttestSigned b0 b1) := by
  unfold execAttestSigned
  try dsimp only
  repeat' first
    | with_reducible first
        | assumption | apply State.setBlob_ok | apply State.setNum_ok | apply State.addNum_ok | apply Good.ite
        | apply OutGood.next
    | fail_if_no_progress with_reducible refine Good.of_eq ?_ rfl rfl rfl rfl

theorem State.abandonUpdate_ok {b0} (h0 : Good q b0) : Good q (State.abandonUpdate b0) := by
  unfold State.abandonUpdate
  try dsimp only
  repeat' first
    | with_reducible first
        | assumption | apply State.setNum_ok
    | fail_if_no_progress with_reducible refine Good.of_eq ?_ rfl rfl rfl rfl | split

theorem State.stopSigning_ok {b0} (h0 : Good q b0) : Good q (State.stopSigning b0) := by
  unfold State.stopSigning
  try dsimp only
  repeat' first
    | with_reducible first
        | assumption | apply State.setNum_ok | apply Good.ite
    | fail_if_no_progress with_reducible refine Good.of_eq ?_ rfl rfl rfl rfl

theorem State.waferReset_ok {b0} (h0 : Good q b0) : Good q (State.waferReset b0) := by
  exact   ⟨h0.1, rfl, by simp [State.waferReset], by simp [State.waferReset]⟩

theorem State.startOver_ok {b0 b1} (h0 : Good q b0) : Good q (State.startOver b0 b1) := by
  unfold State.startOver
  try dsimp only
  repeat' first
    | with_reducible first
        | assumption | apply State.stopSigning_ok | apply State.abandonUpdate_ok | apply State.waferReset_ok
    | fail_if_no_progress with_reducible refine Good.of_eq ?_ rfl rfl rfl rfl

theorem State.bootFrom_ok {b0 b1 b2} (h0 : Good q b0) : Good q (State.bootFrom b0 b1 b2) := by
  unfold State.bootFrom
  try dsimp only
  repeat' first
    | with_reducible first
        | assumption | apply State.setNum_ok | apply State.addNum_ok | apply Good.ite
    | fail_if_no_progress with_reducible refine Good.of_eq ?_ rfl rfl rfl rfl

theorem State.tryBoot_ok {b0 b1 b2} (h0 : Good q b0) : Good q (State.tryBoot b0 b1 b2) := by
  unfold State.tryBoot
  try dsimp only
  repeat' with_reducible first
    | assumption | apply State.bootFrom_ok | apply Good.ite

theorem State.beginCold_ok {b0 b1 b2} (h0 : Good q b0) : Good q (State.beginCold b0 b1 b2) := by
  unfold State.beginCold
  try dsimp only
  repeat' first
    | with_reducible first
        | assumption | apply State.startOver_ok | apply State.tryBoot_ok
    | fail_if_no_progress with_reducible refine Good.of_eq ?_ rfl rfl rfl rfl

theorem State.loseTime_ok {b0} (h0 : Good q b0) : Good q (State.loseTime b0) := by
  unfold State.loseTime
  try dsimp only
  repeat' first
    | with_reducible first
        | assumption
    | fail_if_no_progress with_reducible refine Good.of_eq ?_ rfl rfl rfl rfl

theorem State.modPower_ok {b0 b1} (h0 : Good q b0) : Good q (State.modPower b0 b1) := by
  unfold State.modPower
  try dsimp only
  repeat' first
    | with_reducible first
        | assumption
    | fail_if_no_progress with_reducible refine Good.of_eq ?_ rfl rfl rfl rfl

theorem State.setAux_ok {b0 b1} (h0 : Good q b0) : Good q (State.setAux b0 b1) := by
  unfold State.setAux
  try dsimp only
  repeat' first
    | with_reducible first
        | assumption | apply State.modPower_ok
    | fail_if_no_progress with_reducible refine Good.of_eq ?_ rfl rfl rfl rfl

theorem execAuxInputApplied_ok {b0 b1 b2 b3} (h0 : Good q b3) : OutGood q (execAuxInputApplied b0 b1 b2 b3) := by
  unfold execAuxInputApplied
  try dsimp only
  repeat' with_reducible first
    | assumption | apply State.setAux_ok | apply State.loseTime_ok | apply State.beginCold_ok | apply Good.ite
    | apply OutGood.next

theorem execAuxInputLow_ok {b0 b1 b2} (h0 : Good q b2) : OutGood q (execAuxInputLow b0 b1 b2) := by
  unfold execAuxInputLow
  try dsimp only
  repeat' with_reducible first
    | assumption | apply State.setAux_ok | apply State.loseTime_ok | apply State.beginCold_ok
    | apply OutGood.next

theorem State.writeAvailClear_ok {b0 b1} (h0 : Good q b0) : Good q (State.writeAvailClear b0 b1).1 := by
  unfold State.writeAvailClear
  try dsimp only
  repeat' first
    | with_reducible first
        | assumption | apply State.setNum_ok
    | split

theorem execAvailClear_ok {b0 b1} (h0 : Good q b1) : OutGood q (execAvailClear b0 b1) := by
  unfold execAvailClear
  try dsimp only
  repeat' with_reducible first
    | assumption | apply State.writeAvailClear_ok | apply OutGood.next

theorem execAvailabilityTick_ok {b0} (h0 : Good q b0) : OutGood q (execAvailabilityTick b0) := by
  unfold execAvailabilityTick
  try dsimp only
  repeat' with_reducible first
    | assumption | apply State.setNum_ok | apply State.addNum_ok | apply Good.ite | apply OutGood.next

theorem onRegion_ok {b0 b1 b2} (h0 : Good q b1) (h1 : (∀ a1, Good q a1 → Good q (b2 a1))) :
    OutGood q (onRegion b0 b1 b2) := by
  unfold onRegion
  try dsimp only
  repeat' with_reducible first
    | assumption | apply h1 | apply OutGood.next | apply OutGood.fault | apply OutGood.ite

theorem execAwakeCeilingStep_ok {b0 b1} (h0 : Good q b1) : OutGood q (execAwakeCeilingStep b0 b1) := by
  unfold execAwakeCeilingStep
  try dsimp only
  repeat' with_reducible first
    | intro _ | assumption | apply State.setNum_ok | apply onRegion_ok

theorem Cluster.close_ok {b0 b1 b2} (h0 : Sparse.wf (b0).cmem = true) :
    Sparse.wf ((Cluster.close b0 b1 b2)).cmem = true := by
  unfold Cluster.close
  try dsimp only
  repeat' with_reducible first
    | assumption

theorem Cluster.postTelem_ok {b0 b1 b2 b3} (h0 : Sparse.wf (b0).cmem = true) :
    Sparse.wf ((Cluster.postTelem b0 b1 b2 b3)).cmem = true := by
  unfold Cluster.postTelem
  try dsimp only
  repeat' first
    | with_reducible first
        | assumption | apply Cluster.bump_ok
    | split

theorem State.countLaneFault_ok {b0 b1 b2} (h0 : Good q b0) : Good q (State.countLaneFault b0 b1 b2) := by
  unfold State.countLaneFault
  try dsimp only
  repeat' first
    | with_reducible first
        | assumption | apply State.modField_ok
    | split

theorem State.checkLanes_ok {b0 b1 b2 b3 b4} (h0 : Good q b0) : Good q (State.checkLanes b0 b1 b2 b3 b4) := by
  unfold State.checkLanes
  try dsimp only
  repeat' first
    | with_reducible first
        | intro _ | assumption | apply Cluster.report_ok | apply State.modCluster_ok | apply Cluster.bump_ok
        | apply State.countLaneFault_ok | apply Cluster.postTelem_ok
    | split

theorem State.addFlight_ok {b0 b1} (h0 : Good q b0) : Good q (State.addFlight b0 b1) := by
  unfold State.addFlight
  try dsimp only
  repeat' first
    | with_reducible first
        | assumption
    | fail_if_no_progress with_reducible refine Good.of_eq ?_ rfl rfl rfl rfl

theorem State.sendOut_ok {b0 b1 b2 b3 b4 b5} (h0 : Good q b0) : Good q (State.sendOut b0 b1 b2 b3 b4 b5) := by
  unfold State.sendOut
  try dsimp only
  repeat' first
    | with_reducible first
        | intro _ | assumption | apply State.addFlight_ok | apply Good.foldl
    | split

theorem Cluster.setSteer_ok {b0 b1 b2} (h0 : Sparse.wf (b0).cmem = true) :
    Sparse.wf ((Cluster.setSteer b0 b1 b2)).cmem = true := by
  unfold Cluster.setSteer
  try dsimp only
  repeat' with_reducible first
    | assumption

theorem Core.releaseCommitted_ok {b0 b1} (h0 : Sparse.wf (b0).store = true) :
    Sparse.wf ((Core.releaseCommitted b0 b1)).store = true := by
  unfold Core.releaseCommitted
  try dsimp only
  repeat' with_reducible first
    | assumption

theorem State.sinkCredit_ok {b0 b1 b2 b3 b4} (h0 : Good q b0) : Good q (State.sinkCredit b0 b1 b2 b3 b4) := by
  unfold State.sinkCredit
  try dsimp only
  repeat' with_reducible first
    | assumption | apply State.setCluster_ok | apply (State.core_ok (q := q)) | apply Core.releaseCommitted_ok
    | apply Cluster.setSteer_ok | apply State.setCore_ok | apply Core.event_ok
    | apply (State.cluster_ok (q := q)) | apply Good.ite | apply (State.core_ok (q := q))
    | apply (State.cluster_ok (q := q))

theorem Core.takeArrival_ok {b0 b1 b2 b3} (h0 : Sparse.wf (b0).store = true) :
    Sparse.wf ((Core.takeArrival b0 b1 b2 b3).1).store = true := by
  unfold Core.takeArrival
  try dsimp only
  repeat' first
    | with_reducible first
        | assumption | apply Core.storeBytes_ok | apply Core.event_ok
    | split

theorem State.checkSeq_ok {b0 b1 b2 b3 b4} (h0 : Good q b0) : Good q (State.checkSeq b0 b1 b2 b3 b4) := by
  unfold State.checkSeq
  try dsimp only
  repeat' with_reducible first
    | intro _ | assumption | apply Cluster.report_ok | apply State.modCluster_ok | apply Cluster.bump_ok
    | apply Good.ite

theorem State.sinkFrame_ok {b0 b1 b2 b3} (h0 : Good q b0) : Good q (State.sinkFrame b0 b1 b2 b3) := by
  unfold State.sinkFrame
  try dsimp only
  repeat' with_reducible first
    | intro _ | assumption | apply State.setCluster_ok | apply State.modCluster_ok
    | apply (State.core_ok (q := q)) | apply State.checkSeq_ok | apply Cluster.bump_ok
    | apply Cluster.setSteer_ok | apply State.setCore_ok | apply Core.takeArrival_ok
    | apply (State.cluster_ok (q := q)) | apply Good.ite | apply (State.core_ok (q := q))
    | apply (State.cluster_ok (q := q))

theorem State.sinkTuple_ok {b0 b1 b2 b3 b4 b5 b6} (h0 : Good q b0) :
    Good q (State.sinkTuple b0 b1 b2 b3 b4 b5 b6) := by
  unfold State.sinkTuple
  try dsimp only
  repeat' with_reducible first
    | intro _ | assumption | apply State.setCluster_ok | apply State.modField_ok | apply State.modCluster_ok
    | apply (State.core_ok (q := q)) | apply Cluster.bump_ok | apply Cluster.setSteer_ok
    | apply State.setCore_ok | apply Core.event_ok | apply (State.cluster_ok (q := q)) | apply Good.ite
    | apply (State.core_ok (q := q)) | apply (State.cluster_ok (q := q))

theorem State.sink_ok {b0 b1 b2 b3 b4 b5} (h0 : Good q b0) : Good q (State.sink b0 b1 b2 b3 b4 b5) := by
  unfold State.sink
  try dsimp only
  repeat' first
    | with_reducible first
        | assumption | apply State.sinkFrame_ok | apply State.sinkCredit_ok | apply State.sinkTuple_ok
    | split

theorem State.sinkAll_ok {b0 b1 b2 b3 b4 b5} (h0 : Good q b0) : Good q (State.sinkAll b0 b1 b2 b3 b4 b5) := by
  unfold State.sinkAll
  try dsimp only
  repeat' with_reducible first
    | intro _ | assumption | apply State.sink_ok | apply Good.foldl

theorem State.arrive_ok {b0 b1 b2 b3} (h0 : Good q b0) : Good q (State.arrive b0 b1 b2 b3) := by
  unfold State.arrive
  try dsimp only
  repeat' first
    | with_reducible first
        | intro _ | assumption | apply Cluster.report_ok | apply State.draw_ok | apply State.modCluster_ok
        | apply Cluster.bump_ok | apply State.sendOut_ok | apply State.sinkAll_ok | apply Cluster.close_ok
        | apply State.checkLanes_ok
    | split

theorem arrival_ok {b0 b1 b2 b3 b4} (h0 : Good q b4) : OutGood q (arrival b0 b1 b2 b3 b4) := by
  unfold arrival
  try dsimp only
  repeat' first
    | with_reducible first
        | assumption | apply State.atFabric_ok | apply State.arrive_ok | apply OutGood.next
    | fail_if_no_progress with_reducible refine Good.of_eq ?_ rfl rfl rfl rfl | split

theorem execBeatArrival_ok {b0 b1 b2 b3} (h0 : Good q b3) : OutGood q (execBeatArrival b0 b1 b2 b3) := by
  unfold execBeatArrival
  try dsimp only
  repeat' with_reducible first
    | assumption | apply arrival_ok

theorem branch_ok {b0 b1 b2 b3 b4} (h0 : Sparse.wf (b4).store = true) : Ran.sw (branch b0 b1 b2 b3 b4) := by
  unfold branch
  try dsimp only
  repeat' with_reducible first
    | assumption | apply Ran.sw_ite | apply Ran.sw_done | apply Ran.sw_jump

theorem execBeq_ok {b0 b1 b2 b3 b4} (h0 : Good q b4) : OutGood q (execBeq b0 b1 b2 b3 b4) := by
  unfold execBeq
  try dsimp only
  repeat' with_reducible first
    | assumption | apply issue_ok | apply branch_ok

theorem execBge_ok {b0 b1 b2 b3 b4} (h0 : Good q b4) : OutGood q (execBge b0 b1 b2 b3 b4) := by
  unfold execBge
  try dsimp only
  repeat' with_reducible first
    | assumption | apply issue_ok | apply branch_ok

theorem execBgeu_ok {b0 b1 b2 b3 b4} (h0 : Good q b4) : OutGood q (execBgeu b0 b1 b2 b3 b4) := by
  unfold execBgeu
  try dsimp only
  repeat' with_reducible first
    | assumption | apply issue_ok | apply branch_ok

theorem execBlt_ok {b0 b1 b2 b3 b4} (h0 : Good q b4) : OutGood q (execBlt b0 b1 b2 b3 b4) := by
  unfold execBlt
  try dsimp only
  repeat' with_reducible first
    | assumption | apply issue_ok | apply branch_ok

theorem execBltu_ok {b0 b1 b2 b3 b4} (h0 : Good q b4) : OutGood q (execBltu b0 b1 b2 b3 b4) := by
  unfold execBltu
  try dsimp only
  repeat' with_reducible first
    | assumption | apply issue_ok | apply branch_ok

theorem execBne_ok {b0 b1 b2 b3 b4} (h0 : Good q b4) : OutGood q (execBne b0 b1 b2 b3 b4) := by
  unfold execBne
  try dsimp only
  repeat' with_reducible first
    | assumption | apply issue_ok | apply branch_ok

theorem State.endBoost_ok {b0 b1} (h0 : Good q b0) : Good q (State.endBoost b0 b1) := by
  unfold State.endBoost
  try dsimp only
  repeat' with_reducible first
    | assumption | apply State.setBlob_ok | apply State.setNum_ok | apply Good.ite

theorem execBoostTimeout_ok {b0 b1} (h0 : Good q b1) : OutGood q (execBoostTimeout b0 b1) := by
  unfold execBoostTimeout
  try dsimp only
  repeat' with_reducible first
    | assumption | apply when'_ok | apply State.endBoost_ok | apply OutGood.next

theorem execBootRetry_ok {b0 b1 b2} (h0 : Good q b2) : OutGood q (execBootRetry b0 b1 b2) := by
  unfold execBootRetry
  try dsimp only
  repeat' with_reducible first
    | assumption | apply when'_ok | apply State.tryBoot_ok | apply OutGood.next

theorem cntTo_ok {b0 b1 b2} (h0 : Sparse.wf (b2).store = true) : Ran.sw (cntTo b0 b1 b2) := by
  unfold cntTo
  try dsimp only
  repeat' with_reducible first
    | assumption | apply Ran.sw_ite | apply Ran.sw_done | apply Ran.sw_fault

theorem execCadd_ok {b0 b1 b2 b3} (h0 : Good q b3) : OutGood q (execCadd b0 b1 b2 b3) := by
  unfold execCadd
  try dsimp only
  repeat' with_reducible first
    | intro _ | assumption | apply cntTo_ok | apply issue_ok

theorem execCfgrd_ok {b0 b1 b2 b3} (h0 : Good q b3) : OutGood q (execCfgrd b0 b1 b2 b3) := by
  unfold execCfgrd
  try dsimp only
  repeat' first
    | with_reducible first
        | intro _ | assumption | apply State.draw_ok | apply Core.setS_ok | apply issueS_ok | apply Ran.sw_done
        | apply Ran.sw_fault
    | split

theorem execChannelFailure_ok {b0 b1 b2} (h0 : Good q b2) : OutGood q (execChannelFailure b0 b1 b2) := by
  unfold execChannelFailure
  try dsimp only
  repeat' with_reducible first
    | intro _ | assumption | apply State.modField_ok | apply State.modChan_ok | apply onChan_ok

theorem State.writeClass0_ok {b0 b1 b2 b3} (h0 : Good q b0) : Good q (State.writeClass0 b0 b1 b2 b3).1 := by
  unfold State.writeClass0
  try dsimp only
  repeat' first
    | with_reducible first
        | assumption | apply State.setNum_ok
    | split

theorem execClass0LimitWrite_ok {b0 b1 b2 b3} (h0 : Good q b3) : OutGood q (execClass0LimitWrite b0 b1 b2 b3) := by
  unfold execClass0LimitWrite
  try dsimp only
  repeat' with_reducible first
    | intro _ | assumption | apply State.writeClass0_ok | apply onPart_ok

theorem State.putSession_ok {b0 b1} (h0 : Good q b0) : Good q (State.putSession b0 b1) := by
  unfold State.putSession
  try dsimp only
  repeat' first
    | with_reducible first
        | assumption
    | fail_if_no_progress with_reducible refine Good.of_eq ?_ rfl rfl rfl rfl

theorem State.sendHdp_ok {b0 b1 b2} (h0 : Good q b0) : Good q (State.sendHdp b0 b1 b2) := by
  unfold State.sendHdp
  try dsimp only
  repeat' with_reducible first
    | intro _ | assumption | apply State.draw_ok | apply State.emitIp_ok | apply Good.foldl

theorem State.replyIn_ok {b0 b1 b2 b3 b4 b5} (h0 : Good q b0) : Good q (State.replyIn b0 b1 b2 b3 b4 b5) := by
  unfold State.replyIn
  try dsimp only
  repeat' first
    | with_reducible first
        | assumption | apply State.sendHdp_ok | apply State.putSession_ok
    | split

theorem State.answer_ok {b0 b1 b2 b3 b4 b5} (h0 : Good q b0) : Good q (State.answer b0 b1 b2 b3 b4 b5) := by
  unfold State.answer
  try dsimp only
  repeat' first
    | with_reducible first
        | assumption | apply State.replyIn_ok | apply State.putSession_ok
    | split

theorem State.endSession_ok {b0 b1} (h0 : Good q b0) : Good q (State.endSession b0 b1) := by
  unfold State.endSession
  try dsimp only
  repeat' first
    | with_reducible first
        | assumption
    | fail_if_no_progress with_reducible refine Good.of_eq ?_ rfl rfl rfl rfl

theorem State.takeReady_ok {b0 b1 v} (e : State.takeReady b0 b1 = some v) (h0 : Good q b0) : Good q v := by
  unfold State.takeReady at e
  split at e
  · split at e <;> cases e
    exact ⟨h0.1, h0.2⟩
  · cases e

theorem State.hdpRequest_ok {b0 b1 b2 b3 b4 b5} (h0 : Good q b0) (h1 : (∀ a1 a2, Good q a1 → Good q (b5 a1 a2))) :
    Good q (State.hdpRequest b0 b1 b2 b3 b4 b5) := by
  unfold State.hdpRequest
  try dsimp only
  repeat' first
    | with_reducible first
        | assumption | apply h1 | apply State.replyIn_ok | apply State.takeReady_ok (by assumption)
    | split

theorem execClose_ok {b0 b1 b2} (h0 : Good q b2) : OutGood q (execClose b0 b1 b2) := by
  unfold execClose
  try dsimp only
  repeat' with_reducible first
    | intro _ | assumption | apply State.answer_ok | apply State.hdpRequest_ok | apply State.endSession_ok
    | apply OutGood.next

theorem State.writeClusterReset_ok {b0 b1 b2} (h0 : Good q b0) : Good q (State.writeClusterReset b0 b1 b2).1 := by
  unfold State.writeClusterReset
  try dsimp only
  repeat' first
    | with_reducible first
        | intro _ | assumption | apply State.coreReset_ok | apply State.modCluster_ok | apply Good.foldl
    | split

theorem execClusterReset_ok {b0 b1 b2} (h0 : Good q b2) : OutGood q (execClusterReset b0 b1 b2) := by
  unfold execClusterReset
  try dsimp only
  repeat' with_reducible first
    | intro _ | assumption | apply onCluster_ok | apply State.writeClusterReset_ok

theorem State.writeCoef_ok {b0 b1} (h0 : Good q b0) : Good q (State.writeCoef b0 b1).1 := by
  unfold State.writeCoef
  try dsimp only
  repeat' first
    | with_reducible first
        | assumption | apply State.setBlob_ok
    | split

theorem execCoefTable_ok {b0 b1} (h0 : Good q b1) : OutGood q (execCoefTable b0 b1) := by
  unfold execCoefTable
  try dsimp only
  repeat' with_reducible first
    | assumption | apply State.writeCoef_ok | apply OutGood.next

theorem execCombineContribution_ok {b0 b1 b2} (h0 : Good q b2) : OutGood q (execCombineContribution b0 b1 b2) := by
  unfold execCombineContribution
  try dsimp only
  repeat' first
    | with_reducible first
        | intro _ | assumption | apply State.setCluster_ok | apply Cluster.report_ok | apply onCluster_ok
        | apply Cluster.bump_ok | apply (State.cluster_ok (q := q)) | apply (State.cluster_ok (q := q))
    | split

theorem State.depart_ok {b0 b1 b2 b3 b4} (h0 : Good q b0) : Good q (State.depart b0 b1 b2 b3 b4) := by
  unfold State.depart
  try dsimp only
  repeat' first
    | with_reducible first
        | intro _ | assumption | apply Cluster.report_ok | apply State.addFlight_ok | apply State.modCluster_ok
        | apply Cluster.bump_ok | apply State.sendOut_ok
    | split

theorem execCombineResultDeparture_ok {b0 b1 b2 b3} (h0 : Good q b3) :
    OutGood q (execCombineResultDeparture b0 b1 b2 b3) := by
  unfold execCombineResultDeparture
  try dsimp only
  repeat' first
    | with_reducible first
        | intro _ | assumption | apply State.setCluster_ok | apply onCluster_ok | apply State.atFabric_ok
        | apply State.depart_ok | apply Cluster.close_ok | apply (State.cluster_ok (q := q))
        | apply (State.cluster_ok (q := q))
    | split

theorem execCommitPoint_ok {b0 b1 b2} (h0 : Good q b2) : OutGood q (execCommitPoint b0 b1 b2) := by
  unfold execCommitPoint
  try dsimp only
  repeat' first
    | with_reducible first
        | intro _ | assumption | apply State.setNum_ok | apply State.addNum_ok | apply onPart_ok
        | apply State.modPeriod_ok | apply State.modPart_ok | apply State.atTime_ok
    | split

theorem State.writeConfigClear_ok {b0 b1} (h0 : Good q b0) : Good q (State.writeConfigClear b0 b1).1 := by
  unfold State.writeConfigClear
  try dsimp only
  repeat' first
    | with_reducible first
        | assumption | apply State.setNum_ok
    | fail_if_no_progress with_reducible refine Good.of_eq ?_ rfl rfl rfl rfl | split

theorem execConfigClear_ok {b0 b1} (h0 : Good q b1) : OutGood q (execConfigClear b0 b1) := by
  unfold execConfigClear
  try dsimp only
  repeat' with_reducible first
    | assumption | apply State.writeConfigClear_ok | apply OutGood.next

theorem State.writeConfigSave_ok {b0 b1} (h0 : Good q b0) : Good q (State.writeConfigSave b0 b1).1 := by
  unfold State.writeConfigSave
  try dsimp only
  repeat' first
    | with_reducible first
        | assumption | apply State.setNum_ok
    | fail_if_no_progress with_reducible refine Good.of_eq ?_ rfl rfl rfl rfl | split

theorem execConfigSave_ok {b0 b1} (h0 : Good q b1) : OutGood q (execConfigSave b0 b1) := by
  unfold execConfigSave
  try dsimp only
  repeat' with_reducible first
    | assumption | apply State.writeConfigSave_ok | apply OutGood.next

theorem State.applySaved_ok {b0} (h0 : Good q b0) : Good q (State.applySaved b0) := by
  unfold State.applySaved
  try dsimp only
  repeat' first
    | with_reducible first
        | assumption
    | fail_if_no_progress with_reducible refine Good.of_eq ?_ rfl rfl rfl rfl | split

theorem State.sendFrames_ok {b0 b1 b2} (h0 : Good q b0) : Good q (State.sendFrames b0 b1 b2) := by
  unfold State.sendFrames
  try dsimp only
  repeat' first
    | with_reducible first
        | intro _ | assumption | apply Good.foldl
    | fail_if_no_progress with_reducible refine Good.of_eq ?_ rfl rfl rfl rfl | split

theorem State.keepTrain_ok {b0 b1 b2} (h0 : Good q b0) : Good q (State.keepTrain b0 b1 b2) := by
  unfold State.keepTrain
  try dsimp only
  repeat' with_reducible first
    | assumption | apply State.modPort_ok | apply State.sendFrames_ok

theorem State.train_ok {b0 b1} (h0 : Good q b0) : Good q (State.train b0 b1) := by
  unfold State.train
  try dsimp only
  repeat' with_reducible first
    | assumption | apply State.modPort_ok | apply State.setNum_ok | apply State.addNum_ok
    | apply State.keepTrain_ok | apply State.dropPort_ok | apply Good.ite

theorem State.loadControl_ok {b0} (h0 : Good q b0) : Good q (State.loadControl b0) := by
  unfold State.loadControl
  try dsimp only
  repeat' first
    | with_reducible first
        | assumption | apply State.setNum_ok | apply State.train_ok | apply Good.ite | apply Good.foldl
    | fail_if_no_progress with_reducible refine Good.of_eq ?_ rfl rfl rfl rfl

theorem State.readSlot_ok {b0 b1} (h0 : Good q b0) : Good q (State.readSlot b0 b1) := by
  unfold State.readSlot
  try dsimp only
  repeat' with_reducible first
    | assumption | apply State.post_ok | apply State.draw_ok | apply State.setNum_ok | apply Good.ite

theorem State.showLicences_ok {b0} (h0 : Good q b0) : Good q (State.showLicences b0) := by
  unfold State.showLicences
  try dsimp only
  repeat' with_reducible first
    | assumption | apply State.setNum_ok

theorem State.reverify_ok {b0 b1} (h0 : Good q b0) : Good q (State.reverify b0 b1) := by
  unfold State.reverify
  try dsimp only
  repeat' first
    | with_reducible first
        | assumption | apply State.showLicences_ok
    | fail_if_no_progress with_reducible refine Good.of_eq ?_ rfl rfl rfl rfl

theorem execControlImageLoad_ok {b0 b1 b2} (h0 : Good q b2) : OutGood q (execControlImageLoad b0 b1 b2) := by
  unfold execControlImageLoad
  try dsimp only
  repeat' with_reducible first
    | assumption | apply State.readSlot_ok | apply State.loadControl_ok | apply State.applySaved_ok
    | apply State.setNum_ok | apply State.reverify_ok | apply Good.ite | apply OutGood.next

theorem State.closeCtl_ok {b0 b1 b2} (h0 : Good q b0) : Good q (State.closeCtl b0 b1 b2) := by
  unfold State.closeCtl
  try dsimp only
  repeat' first
    | with_reducible first
        | assumption
    | fail_if_no_progress with_reducible refine Good.of_eq ?_ rfl rfl rfl rfl

theorem execControlResponse_ok {b0 b1} (h0 : Good q b1) : OutGood q (execControlResponse b0 b1) := by
  unfold execControlResponse
  try dsimp only
  repeat' with_reducible first
    | intro _ | assumption | apply State.closeCtl_ok | apply State.late_ok | apply deliver_ok | apply Good.ite

theorem State.dropLoads_ok {b0} (h0 : Good q b0) : Good q (State.dropLoads b0) := by
  unfold State.dropLoads
  try dsimp only
  repeat' first
    | with_reducible first
        | assumption
    | fail_if_no_progress with_reducible refine Good.of_eq ?_ rfl rfl rfl rfl

theorem State.holdWafer_ok {b0} (h0 : Good q b0) : Good q (State.holdWafer b0) := by
  unfold State.holdWafer
  try dsimp only
  repeat' first
    | with_reducible first
        | intro _ | assumption | apply State.setNum_ok | apply State.stopSigning_ok | apply State.waferReset_ok
        | apply Good.foldl
    | fail_if_no_progress with_reducible refine Good.of_eq ?_ rfl rfl rfl rfl

theorem State.postMsc_ok {b0 b1 b2 b3} (h0 : Good q b0) : Good q (State.postMsc b0 b1 b2 b3) := by
  unfold State.postMsc
  try dsimp only
  repeat' with_reducible first
    | assumption | apply State.post_ok

theorem execCoolantShutdown_ok {b0 b1} (h0 : Good q b1) : OutGood q (execCoolantShutdown b0 b1) := by
  unfold execCoolantShutdown
  try dsimp only
  repeat' with_reducible first
    | intro _ | assumption | apply State.dropLoads_ok | apply State.setNum_ok | apply State.holdWafer_ok
    | apply State.endBoost_ok | apply State.postMsc_ok | apply State.modPower_ok | apply Good.ite
    | apply Good.foldl | apply OutGood.next

theorem State.coreDead_ok {b0 b1 b2 b3 b4} (h0 : Good q b0) : Good q (State.coreDead b0 b1 b2 b3 b4) := by
  unfold State.coreDead
  try dsimp only
  repeat' with_reducible first
    | intro _ | assumption | apply State.coreReset_ok | apply State.setClusterState_ok
    | apply State.faultPart_ok | apply State.addNum_ok | apply State.modCore_ok | apply State.postField_ok
    | apply State.softFuse_ok | apply State.closeBoundary_ok | apply State.modPart_ok | apply Good.ite

theorem execCoreDead_ok {b0 b1} (h0 : Good q b1) : OutGood q (execCoreDead b0 b1) := by
  unfold execCoreDead
  try dsimp only
  repeat' with_reducible first
    | intro _ | assumption | apply State.pushCause_ok | apply onCore_ok | apply State.coreDead_ok
    | apply Good.ite

theorem execCrd_ok {b0 b1 b2 b3} (h0 : Good q b3) : OutGood q (execCrd b0 b1 b2 b3) := by
  unfold execCrd
  try dsimp only
  repeat' with_reducible first
    | intro _ | assumption | apply Core.setS_ok | apply issue_ok | apply Ran.sw_done

theorem State.endSessionsOf_ok {b0 b1} (h0 : Good q b0) : Good q (State.endSessionsOf b0 b1) := by
  unfold State.endSessionsOf
  try dsimp only
  repeat' first
    | with_reducible first
        | assumption
    | fail_if_no_progress with_reducible refine Good.of_eq ?_ rfl rfl rfl rfl

theorem State.writeCredKey_ok {b0 b1 b2} (h0 : Good q b0) : Good q (State.writeCredKey b0 b1 b2).1 := by
  unfold State.writeCredKey
  try dsimp only
  repeat' first
    | with_reducible first
        | assumption | apply State.endSessionsOf_ok
    | fail_if_no_progress with_reducible refine Good.of_eq ?_ rfl rfl rfl rfl | split

theorem onCred_ok {b0 b1 b2} (h0 : Good q b1) (h1 : (∀ a1, Good q a1 → Good q (b2 a1))) :
    OutGood q (onCred b0 b1 b2) := by
  unfold onCred
  try dsimp only
  repeat' with_reducible first
    | assumption | apply h1 | apply OutGood.next | apply OutGood.fault | apply OutGood.ite

theorem execCredKey_ok {b0 b1 b2} (h0 : Good q b2) : OutGood q (execCredKey b0 b1 b2) := by
  unfold execCredKey
  try dsimp only
  repeat' with_reducible first
    | intro _ | assumption | apply State.writeCredKey_ok | apply onCred_ok

theorem State.writeCredRole_ok {b0 b1 b2} (h0 : Good q b0) : Good q (State.writeCredRole b0 b1 b2).1 := by
  unfold State.writeCredRole
  try dsimp only
  repeat' first
    | with_reducible first
        | assumption | apply State.setNum_ok | apply State.endSessionsOf_ok
    | split

theorem execCredRole_ok {b0 b1 b2} (h0 : Good q b2) : OutGood q (execCredRole b0 b1 b2) := by
  unfold execCredRole
  try dsimp only
  repeat' with_reducible first
    | intro _ | assumption | apply onCred_ok | apply State.writeCredRole_ok

theorem execCreditArrival_ok {b0 b1 b2 b3} (h0 : Good q b3) : OutGood q (execCreditArrival b0 b1 b2 b3) := by
  unfold execCreditArrival
  try dsimp only
  repeat' with_reducible first
    | assumption | apply arrival_ok

theorem State.takeCredits_ok {b0 b1 b2} (h0 : Good q b0) : Good q (State.takeCredits b0 b1 b2).2 := by
  unfold State.takeCredits
  try dsimp only
  repeat' first
    | with_reducible first
        | assumption | apply State.setCluster_ok | apply (State.core_ok (q := q)) | apply Cluster.setSteer_ok
        | apply State.setCore_ok | apply (State.cluster_ok (q := q)) | apply (State.core_ok (q := q))
        | apply (State.cluster_ok (q := q))
    | split

theorem execCreditFlitSend_ok {b0 b1 b2 b3} (h0 : Good q b3) : OutGood q (execCreditFlitSend b0 b1 b2 b3) := by
  unfold execCreditFlitSend
  try dsimp only
  repeat' first
    | with_reducible first
        | intro _ | assumption | apply State.modCluster_ok | apply onCluster_ok | apply State.atFabric_ok
        | apply State.depart_ok | apply State.takeCredits_ok | apply Cluster.close_ok
    | split

theorem State.setEntry_ok {b0 b1 b2 b3} (h0 : Good q b0) : Good q (State.setEntry b0 b1 b2 b3) := by
  unfold State.setEntry
  try dsimp only
  repeat' with_reducible first
    | assumption | apply State.modPort_ok

theorem State.putEntry_ok {b0 b1 b2 b3} (h0 : Good q b0) : Good q (State.putEntry b0 b1 b2 b3) := by
  unfold State.putEntry
  try dsimp only
  repeat' with_reducible first
    | assumption | apply State.modPort_ok | apply State.setEntry_ok | apply Good.ite

theorem State.grant_ok {b0 b1 b2 b3} (h0 : Good q b0) : Good q (State.grant b0 b1 b2 b3).1 := by
  unfold State.grant
  try dsimp only
  repeat' first
    | with_reducible first
        | assumption | apply State.putEntry_ok
    | split

theorem State.sendMsg_ok {b0 b1 b2 b3 b4 b5 b6} (h0 : Good q b0) : Good q (State.sendMsg b0 b1 b2 b3 b4 b5 b6) := by
  unfold State.sendMsg
  try dsimp only
  repeat' with_reducible first
    | assumption | apply State.queueMsg_ok | apply State.modAssoc_ok | apply Good.ite

theorem State.reply_ok {b0 b1 b2 b3 b4 b5 b6 b7 b8 b9} (h0 : Good q b0) :
    Good q (State.reply b0 b1 b2 b3 b4 b5 b6 b7 b8 b9) := by
  unfold State.reply
  try dsimp only
  repeat' with_reducible first
    | assumption | apply State.sendMsg_ok

theorem State.streamRequest_ok {b0 b1 b2 b3 b4 b5 b6} (h0 : Good q b0)
    (h1 : (∀ a1 a2, Good q a1 → Good q (b6 a1 a2).1)) :
    Good q (State.streamRequest b0 b1 b2 b3 b4 b5 b6) := by
  unfold State.streamRequest
  try dsimp only
  repeat' first
    | with_reducible first
        | assumption | apply h1 | apply State.reply_ok
    | split

theorem State.sendNack_ok {b0 b1 b2 b3 b4 b5} (h0 : Good q b0) : Good q (State.sendNack b0 b1 b2 b3 b4 b5) := by
  unfold State.sendNack
  try dsimp only
  repeat' with_reducible first
    | assumption | apply State.addNum_ok | apply State.sendMsg_ok

theorem onRecord_ok {b0 b1 b2 b3 b4 b5} (h0 : Good q b3) (h1 : (∀ a1 a2 a3, Good q a1 → Good q (b5 a1 a2 a3))) :
    OutGood q (onRecord b0 b1 b2 b3 b4 b5) := by
  unfold onRecord
  try dsimp only
  repeat' first
    | with_reducible first
        | intro _ | assumption | apply h1 | apply State.gaRead_ok | apply State.sendNack_ok
        | apply State.modAssoc_ok | apply onPort_ok
    | split

theorem execCreditGrant_ok {b0 b1 b2} (h0 : Good q b2) : OutGood q (execCreditGrant b0 b1 b2) := by
  unfold execCreditGrant
  try dsimp only
  repeat' with_reducible first
    | intro _ | assumption | apply State.streamRequest_ok | apply State.grant_ok | apply onRecord_ok

theorem execCset_ok {b0 b1 b2 b3} (h0 : Good q b3) : OutGood q (execCset b0 b1 b2 b3) := by
  unfold execCset
  try dsimp only
  repeat' with_reducible first
    | assumption | apply cntTo_ok | apply issue_ok

theorem markStall_ok {b0 b1 b2} (h0 : Ran.sw b0) (h1 : Sparse.wf (b1).store = true) :
    Sparse.wf ((markStall b0 b1 b2)).store = true := by
  unfold markStall
  try dsimp only
  repeat' first
    | with_reducible first
        | assumption | apply Ran.finish_ok
    | split

theorem Core.setTile_ok {b0 b1 b2} (h0 : Sparse.wf (b0).store = true) :
    Sparse.wf ((Core.setTile b0 b1 b2)).store = true := by
  unfold Core.setTile
  try dsimp only
  repeat' with_reducible first
    | assumption

theorem Core.takeRetain_ok {b0 b1} (h0 : Sparse.wf (b0).store = true) :
    Sparse.wf ((Core.takeRetain b0 b1).1).store = true := by
  unfold Core.takeRetain
  try dsimp only
  repeat' with_reducible first
    | assumption | apply Core.storeBytes_ok

theorem cvtGo_ok {b0 b1 b2 b3 b4} (h0 : Sparse.wf (b3).store = true) : Ran.sw (cvtGo b0 b1 b2 b3 b4) := by
  unfold cvtGo
  try dsimp only
  repeat' first
    | with_reducible first
        | assumption | apply Core.storeBytes_ok | apply Core.setTile_ok | apply Core.takeRetain_ok
        | apply Ran.sw_done | apply Ran.sw_fault | refine Core.sw_fst (by assumption) ?_
    | split

theorem Core.load_ok {b0 b1 b2} (h0 : Sparse.wf (b0).store = true) :
    Sparse.wf ((Core.load b0 b1 b2).1).store = true := by
  unfold Core.load
  try dsimp only
  repeat' first
    | with_reducible first
        | assumption | apply Core.bumpCount_ok
    | split

theorem Core.useAcc_ok {b0 b1} (h0 : Sparse.wf (b0).store = true) : Sparse.wf ((Core.useAcc b0 b1)).store = true := by
  unfold Core.useAcc
  try dsimp only
  repeat' with_reducible first
    | assumption

theorem cvtImage_ok {b0 b1} (h0 : Sparse.wf (b0).store = true) : Sparse.wf ((cvtImage b0 b1).1).store = true := by
  unfold cvtImage
  try dsimp only
  repeat' first
    | with_reducible first
        | assumption | apply Core.load_ok | apply Core.useAcc_ok
    | split

theorem runCvt_ok {b0 b1 b2 b3} (h0 : Sparse.wf (b3).store = true) : Ran.sw (runCvt b0 b1 b2 b3) := by
  unfold runCvt
  try dsimp only
  repeat' first
    | with_reducible first
        | assumption | apply cvtImage_ok | apply cvtGo_ok | apply Core.setTile_ok | apply Ran.sw_done
        | apply Ran.sw_fault | apply Ran.sw_wait | apply Ran.sw_block | refine Core.sw_fst (by assumption) ?_
    | split

theorem execCvt_ok {b0 b1 b2} (h0 : Good q b2) : OutGood q (execCvt b0 b1 b2) := by
  unfold execCvt
  try dsimp only
  repeat' first
    | with_reducible first
        | intro _ | assumption | apply State.draw_ok | apply (State.core_ok (q := q)) | apply markStall_ok
        | apply Core.fetch_ok1 (by assumption) | apply Core.fetch_ok2 (by assumption) | apply State.setCore_ok
        | apply runCvt_ok | apply onCore_ok | apply (State.core_ok (q := q))
    | split

theorem runCwait_ok {b0 b1 b2} (h0 : Sparse.wf (b2).store = true) : Ran.sw (runCwait b0 b1 b2) := by
  unfold runCwait
  try dsimp only
  repeat' with_reducible first
    | assumption | apply Ran.sw_ite | apply Ran.sw_done | apply Ran.sw_wait

theorem execCwait_ok {b0 b1 b2 b3} (h0 : Good q b3) : OutGood q (execCwait b0 b1 b2 b3) := by
  unfold execCwait
  try dsimp only
  repeat' with_reducible first
    | assumption | apply runCwait_ok | apply issue_ok

theorem execCwr_ok {b0 b1 b2 b3} (h0 : Good q b3) : OutGood q (execCwr b0 b1 b2 b3) := by
  unfold execCwr
  try dsimp only
  repeat' with_reducible first
    | intro _ | assumption | apply cntTo_ok | apply issue_ok

theorem State.ackIfDue_ok {b0 b1 b2} (h0 : Good q b0) : Good q (State.ackIfDue b0 b1 b2) := by
  unfold State.ackIfDue
  try dsimp only
  repeat' with_reducible first
    | assumption | apply State.sendAck_ok | apply Good.ite

theorem State.acceptSeg_ok {b0 b1 b2 b3 b4} (h0 : Good q b0) : Good q (State.acceptSeg b0 b1 b2 b3 b4) := by
  unfold State.acceptSeg
  try dsimp only
  repeat' with_reducible first
    | assumption | apply State.addNum_ok | apply State.modAssoc_ok

theorem State.plainSegment_ok {b0 b1 b2 b3 b4 b5} (h0 : Good q b0) :
    Good q (State.plainSegment b0 b1 b2 b3 b4 b5) := by
  unfold State.plainSegment
  try dsimp only
  repeat' with_reducible first
    | assumption | apply State.modPort_ok | apply State.sendNack_ok | apply State.acceptSeg_ok
    | apply State.modAssoc_ok | apply Good.ite

theorem State.beginRec_ok {b0 b1 b2 b3 b4 b5 v} (e : State.beginRec b0 b1 b2 b3 b4 b5 = some v) (h0 : Good q b0) :
    Good q v := by
  unfold State.beginRec at e
  dsimp only at e
  split at e
  · cases e
  · split at e <;> split at e <;> cases e
    all_goals repeat' with_reducible first
      | assumption | apply State.gaWrite_ok | apply State.modPort_ok | apply State.modAssoc_ok

theorem State.spoilRing_ok {b0 b1 b2 b3 b4 b5} (h0 : Good q b0) : Good q (State.spoilRing b0 b1 b2 b3 b4 b5) := by
  unfold State.spoilRing
  try dsimp only
  repeat' with_reducible first
    | assumption | apply State.sendNack_ok | apply State.modAssoc_ok | apply State.gaWrite_ok

theorem State.ringSegment_ok {b0 b1 b2 b3 b4 b5} (h0 : Good q b0) : Good q (State.ringSegment b0 b1 b2 b3 b4 b5) := by
  unfold State.ringSegment
  dsimp only
  split
  · exact State.addNum_ok h0
  · rename_i s1 e
    have h : Good q s1 := Good.ite_some e h0 fun e => State.beginRec_ok e h0
    split
    · exact h
    · refine Good.ite (State.spoilRing_ok (State.acceptSeg_ok h)) (State.acceptSeg_ok (State.modAssoc_ok (Good.ite h ?_)))
      exact State.gaWrite_ok h

theorem State.dataSegment_ok {b0 b1 b2 b3 b4 b5} (h0 : Good q b0) : Good q (State.dataSegment b0 b1 b2 b3 b4 b5) := by
  unfold State.dataSegment
  try dsimp only
  repeat' first
    | with_reducible first
        | assumption | apply State.pump_ok | apply State.sendNack_ok | apply State.ringSegment_ok
        | apply State.addNum_ok | apply State.acceptSeg_ok | apply State.spoilRing_ok
        | apply State.plainSegment_ok | apply State.modAssoc_ok
    | split

theorem execDataSegment_ok {b0 b1 b2 b3 b4} (h0 : Good q b4) : OutGood q (execDataSegment b0 b1 b2 b3 b4) := by
  unfold execDataSegment
  try dsimp only
  repeat' with_reducible first
    | intro _ | assumption | apply State.ackIfDue_ok | apply when'_ok | apply onSegment_ok
    | apply State.dataSegment_ok

theorem State.countDrop_ok {b0 b1 b2} (h0 : Good q b0) : Good q (State.countDrop b0 b1 b2) := by
  unfold State.countDrop
  try dsimp only
  repeat' with_reducible first
    | assumption | apply State.setBlob_ok

theorem State.dropPeriod_ok {b0 b1 b2 b3 b4 b5} (h0 : Good q b0) : Good q (State.dropPeriod b0 b1 b2 b3 b4 b5) := by
  unfold State.dropPeriod
  try dsimp only
  repeat' with_reducible first
    | assumption | apply State.modPeriod_ok | apply State.modPart_ok

theorem execDeadline_ok {b0 b1 b2} (h0 : Good q b2) : OutGood q (execDeadline b0 b1 b2) := by
  unfold execDeadline
  try dsimp only
  repeat' first
    | with_reducible first
        | intro _ | assumption | apply State.dropPeriod_ok | apply onPart_ok | apply State.countDrop_ok
        | apply State.modPeriod_ok | apply State.atTime_ok
    | split

end Sys2Proof.Machine
end

