-- ==== Sys2Proof/Laws/Frame4.lean ====
section
/-! SUPPORT. What each operation leaves of the queue and of the canonical form of the memories, one lemma for each, callees
first (part 4 of 6). -/

namespace Sys2Proof.Machine

variable {q : List Instr}

theorem State.eraseOwner_ok {b0} (h0 : Good q b0) : Good q (State.eraseOwner b0) := by
  unfold State.eraseOwner
  try dsimp only
  repeat' first
    | with_reducible first
        | assumption
    | fail_if_no_progress with_reducible refine Good.of_eq ?_ rfl rfl rfl rfl

theorem State.storeWear_ok {b0} (h0 : Good q b0) : Good q (State.storeWear b0) := by
  unfold State.storeWear
  try dsimp only
  repeat' first
    | with_reducible first
        | assumption | apply State.modPower_ok | apply Good.ite
    | fail_if_no_progress with_reducible refine Good.of_eq ?_ rfl rfl rfl rfl

theorem State.writeDecommission_ok {b0 b1 b2 b3} (h0 : Good q b0) :
    Good q (State.writeDecommission b0 b1 b2 b3).1 := by
  unfold State.writeDecommission
  try dsimp only
  repeat' first
    | with_reducible first
        | assumption | apply State.eraseOwner_ok | apply State.beginCold_ok | apply State.storeWear_ok
    | split

theorem execDecommission_ok {b0 b1 b2 b3} (h0 : Good q b3) : OutGood q (execDecommission b0 b1 b2 b3) := by
  unfold execDecommission
  try dsimp only
  repeat' with_reducible first
    | assumption | apply State.writeDecommission_ok | apply OutGood.next

theorem execDescribe_ok {b0 b1 b2 b3} (h0 : Good q b3) : OutGood q (execDescribe b0 b1 b2 b3) := by
  unfold execDescribe
  try dsimp only
  repeat' with_reducible first
    | intro _ | assumption | apply State.answer_ok | apply State.hdpRequest_ok | apply OutGood.next

theorem execDonePoll_ok {b0 b1 b2} (h0 : Good q b2) : OutGood q (execDonePoll b0 b1 b2) := by
  unfold execDonePoll
  try dsimp only
  repeat' first
    | with_reducible first
        | intro _ | assumption | apply onPart_ok | apply State.modPeriod_ok | apply State.engineRead_ok
        | apply State.atTime_ok
    | split

theorem execDramTemperatureRead_ok {b0 b1 b2 b3} (h0 : Good q b3) :
    OutGood q (execDramTemperatureRead b0 b1 b2 b3) := by
  unfold execDramTemperatureRead
  try dsimp only
  repeat' with_reducible first
    | intro _ | assumption | apply State.modChan_ok | apply onChan_ok

theorem State.dropCause_ok {b0 b1 b2 b3} (h0 : Good q b0) : Good q (State.dropCause b0 b1 b2 b3) := by
  unfold State.dropCause
  try dsimp only
  repeat' first
    | with_reducible first
        | assumption | apply State.dropPeriod_ok | apply State.addNum_ok | apply State.countDrop_ok
        | apply State.modPeriod_ok
    | split

theorem execDropCauseArrival_ok {b0 b1 b2 b3 b4} (h0 : Good q b4) :
    OutGood q (execDropCauseArrival b0 b1 b2 b3 b4) := by
  unfold execDropCauseArrival
  try dsimp only
  repeat' with_reducible first
    | intro _ | assumption | apply State.dropCause_ok | apply when'_ok | apply onPart_ok
    | apply State.modPart_ok | apply State.atTime_ok

theorem Cluster.clearPlane_ok {b0} (h0 : Sparse.wf (b0).cmem = true) :
    Sparse.wf ((Cluster.clearPlane b0)).cmem = true := by
  unfold Cluster.clearPlane
  try dsimp only
  repeat' with_reducible first
    | assumption

theorem Core.inboxControl_ok {b0 b1 b2} (h0 : Sparse.wf (b0).store = true) :
    Sparse.wf ((Core.inboxControl b0 b1 b2)).store = true := by
  unfold Core.inboxControl
  try dsimp only
  repeat' first
    | with_reducible first
        | assumption | apply Core.storeBytes_ok | apply Core.raise_ok | refine Core.sw_fst (by assumption) ?_
    | split

theorem Core.clearPlane_ok {b0 b1} (h0 : Sparse.wf (b0).store = true) :
    Sparse.wf ((Core.clearPlane b0 b1)).store = true := by
  unfold Core.clearPlane
  try dsimp only
  repeat' with_reducible first
    | intro _ | assumption | apply Core.inboxControl_ok | apply Core.sw_foldl

theorem State.clearPlane_ok {b0 b1} (h0 : Good q b0) : Good q (State.clearPlane b0 b1) := by
  unfold State.clearPlane
  dsimp only
  refine Good.cores_map (State.setCluster_ok h0 (Cluster.clearPlane_ok (State.cluster_ok h0))) fun p hp => ?_
  split
  · exact Core.clearPlane_ok hp
  · exact hp

theorem execDropWindowStart_ok {b0 b1 b2} (h0 : Good q b2) : OutGood q (execDropWindowStart b0 b1 b2) := by
  unfold execDropWindowStart
  try dsimp only
  repeat' with_reducible first
    | intro _ | assumption | apply State.clearPlane_ok | apply State.modCluster_ok | apply onCluster_ok
    | apply State.atFabric_ok | apply when'_ok

theorem Core.unEvent_ok {b0 b1 b2 b3} (h0 : Sparse.wf (b0).store = true) :
    Sparse.wf ((Core.unEvent b0 b1 b2 b3)).store = true := by
  unfold Core.unEvent
  try dsimp only
  repeat' with_reducible first
    | intro _ | assumption | apply Core.sw_ite | apply Core.sw_foldl

theorem Core.dropTiles_ok {b0 b1 b2} (h0 : Sparse.wf (b0).store = true) :
    Sparse.wf ((Core.dropTiles b0 b1 b2).1).store = true := by
  unfold Core.dropTiles
  try dsimp only
  repeat' first
    | with_reducible first
        | assumption | apply Core.unEvent_ok
    | split

theorem Core.inboxSwap_ok {b0 b1 b2} (h0 : Sparse.wf (b0).store = true) :
    Sparse.wf ((Core.inboxSwap b0 b1 b2)).store = true := by
  unfold Core.inboxSwap
  try dsimp only
  repeat' first
    | with_reducible first
        | assumption | apply Core.inboxControl_ok | apply Core.event_ok
    | split

theorem Core.inboxRelease_ok {b0 b1 b2} (h0 : Sparse.wf (b0).store = true) :
    Sparse.wf ((Core.inboxRelease b0 b1 b2)).store = true := by
  unfold Core.inboxRelease
  try dsimp only
  repeat' first
    | with_reducible first
        | assumption | apply Core.inboxControl_ok | apply Core.inboxSwap_ok
    | split

theorem runDropr_ok1 {b0 b1 b2 b3} (h0 : Good q b2) (h1 : Sparse.wf (b3).store = true) :
    Good q (runDropr b0 b1 b2 b3).1 := by
  unfold runDropr
  try dsimp only
  repeat' first
    | with_reducible first
        | intro _ | assumption | apply State.modCluster_ok | apply Cluster.bump_ok
    | split

theorem runDropr_ok2 {b0 b1 b2 b3} (h0 : Good q b2) (h1 : Sparse.wf (b3).store = true) :
    Ran.sw (runDropr b0 b1 b2 b3).2 := by
  unfold runDropr
  try dsimp only
  repeat' first
    | with_reducible first
        | assumption | apply Core.inboxRelease_ok | apply Core.dropTiles_ok | apply Ran.sw_done
        | apply Ran.sw_fault
    | split

theorem execDropr_ok {b0 b1 b2} (h0 : Good q b2) : OutGood q (execDropr b0 b1 b2) := by
  unfold execDropr
  try dsimp only
  repeat' with_reducible first
    | intro _ | assumption | apply runDropr_ok1 | apply (runDropr_ok2 (q := q)) | apply issueS_ok

theorem execEchoRequest_ok {b0 b1 b2 b3 b4 b5 b6} (h0 : Good q b6) :
    OutGood q (execEchoRequest b0 b1 b2 b3 b4 b5 b6) := by
  unfold execEchoRequest
  try dsimp only
  repeat' with_reducible first
    | intro _ | assumption | apply State.draw_ok | apply when'_ok | apply State.emitIp_ok | apply onIfc_ok

theorem Core.endFiring_ok {b0} (h0 : Sparse.wf (b0).store = true) : Sparse.wf ((Core.endFiring b0)).store = true := by
  unfold Core.endFiring
  try dsimp only
  repeat' with_reducible first
    | assumption | apply Core.bumpCount_ok

theorem execEndComplete_ok {b0 b1} (h0 : Good q b1) : OutGood q (execEndComplete b0 b1) := by
  unfold execEndComplete
  try dsimp only
  repeat' with_reducible first
    | intro _ | assumption | apply (State.core_ok (q := q)) | apply when'_ok | apply State.setCore_ok
    | apply Core.endFiring_ok | apply onCore_ok | apply (State.core_ok (q := q))

theorem execEndFiring_ok {b0 b1} (h0 : Good q b1) : OutGood q (execEndFiring b0 b1) := by
  unfold execEndFiring
  try dsimp only
  repeat' with_reducible first
    | intro _ | assumption | apply issue_ok | apply Ran.sw_jump

theorem State.sendReport_ok {b0 b1 b2 b3 b4 b5} (h0 : Good q b0) : Good q (State.sendReport b0 b1 b2 b3 b4 b5) := by
  unfold State.sendReport
  try dsimp only
  repeat' with_reducible first
    | assumption | apply State.sendMsg_ok

theorem State.freeClosed_ok {b0 b1} (h0 : Good q b0) : Good q (State.freeClosed b0 b1) := by
  unfold State.freeClosed
  try dsimp only
  repeat' with_reducible first
    | assumption | apply State.modPort_ok | apply State.sweep_ok | apply State.sendReport_ok | apply Good.ite

theorem State.apportion_ok {b0 b1 b2 b3 b4 b5} (h0 : Good q b0) : Good q (State.apportion b0 b1 b2 b3 b4 b5) := by
  unfold State.apportion
  try dsimp only
  repeat' first
    | with_reducible first
        | intro _ | assumption | apply State.modPort_ok | apply State.setEntry_ok | apply State.addNum_ok
        | apply State.modPart_ok | apply State.freeClosed_ok | apply Good.foldl
    | split

theorem execEnergyApportion_ok {b0 b1} (h0 : Good q b1) : OutGood q (execEnergyApportion b0 b1) := by
  unfold execEnergyApportion
  try dsimp only
  repeat' first
    | with_reducible first
        | intro _ | assumption | apply onPart_ok | apply State.apportion_ok
    | split

theorem execFaultLogClear_ok {b0 b1 b2} (h0 : Good q b2) : OutGood q (execFaultLogClear b0 b1 b2) := by
  unfold execFaultLogClear
  try dsimp only
  repeat' with_reducible first
    | intro _ | assumption | apply Core.writeLog_ok | apply (State.core_ok (q := q)) | apply when'_ok
    | apply State.setCore_ok | apply onCore_ok | apply (State.core_ok (q := q))

theorem State.keepRecord_ok {b0 b1} (h0 : Good q b0) : Good q (State.keepRecord b0 b1) := by
  unfold State.keepRecord
  try dsimp only
  repeat' first
    | with_reducible first
        | assumption | apply State.setNum_ok | apply State.addNum_ok
    | fail_if_no_progress with_reducible refine Good.of_eq ?_ rfl rfl rfl rfl

theorem execFaultRecord_ok {b0 b1} (h0 : Good q b1) : OutGood q (execFaultRecord b0 b1) := by
  unfold execFaultRecord
  try dsimp only
  repeat' first
    | with_reducible first
        | assumption | apply State.keepRecord_ok | apply OutGood.next
    | fail_if_no_progress with_reducible refine Good.of_eq ?_ rfl rfl rfl rfl | split

theorem State.measureFeed_ok {b0 b1} (h0 : Good q b0) : Good q (State.measureFeed b0 b1) := by
  unfold State.measureFeed
  try dsimp only
  repeat' with_reducible first
    | assumption | apply State.draw_ok | apply State.setBlob_ok

theorem execFeedLost_ok {b0 b1} (h0 : Good q b1) : OutGood q (execFeedLost b0 b1) := by
  unfold execFeedLost
  try dsimp only
  repeat' with_reducible first
    | assumption | apply State.setNum_ok | apply State.measureFeed_ok | apply State.endBoost_ok
    | apply State.postMsc_ok | apply Good.ite | apply OutGood.next

theorem execFeedSupplying_ok {b0 b1} (h0 : Good q b1) : OutGood q (execFeedSupplying b0 b1) := by
  unfold execFeedSupplying
  try dsimp only
  repeat' with_reducible first
    | assumption | apply State.setNum_ok | apply State.measureFeed_ok | apply Good.ite | apply OutGood.next

theorem runFence_ok {b0} (h0 : Sparse.wf (b0).store = true) : Ran.sw (runFence b0) := by
  unfold runFence
  try dsimp only
  repeat' with_reducible first
    | assumption | apply Ran.sw_ite | apply Ran.sw_done | apply Ran.sw_wait

theorem execFence_ok {b0 b1} (h0 : Good q b1) : OutGood q (execFence b0 b1) := by
  unfold execFence
  try dsimp only
  repeat' with_reducible first
    | assumption | apply issue_ok | apply runFence_ok

theorem execFinish_ok {b0 b1 b2 b3} (h0 : Good q b3) : OutGood q (execFinish b0 b1 b2 b3) := by
  unfold execFinish
  try dsimp only
  repeat' first
    | with_reducible first
        | assumption | apply State.answer_ok | apply State.setNum_ok | apply State.replyIn_ok
        | apply State.addNum_ok | apply State.takeReady_ok (by assumption) | apply State.putSession_ok
        | apply State.endSession_ok | apply OutGood.next
    | fail_if_no_progress with_reducible refine Good.of_eq ?_ rfl rfl rfl rfl | split

theorem execFiringOverrun_ok {b0 b1 b2} (h0 : Good q b2) : OutGood q (execFiringOverrun b0 b1 b2) := by
  unfold execFiringOverrun
  try dsimp only
  repeat' with_reducible first
    | intro _ | assumption | apply (State.core_ok (q := q)) | apply when'_ok | apply Core.raise_ok
    | apply State.setCore_ok | apply onCore_ok | apply (State.core_ok (q := q))

theorem State.flushWear_ok {b0} (h0 : Good q b0) : Good q (State.flushWear b0) := by
  unfold State.flushWear
  try dsimp only
  repeat' first
    | with_reducible first
        | assumption | apply State.modPower_ok
    | fail_if_no_progress with_reducible refine Good.of_eq ?_ rfl rfl rfl rfl

theorem State.planeAt_ok {b0 b1} (h0 : Good q b0) : Good q (State.planeAt b0 b1) := by
  unfold State.planeAt
  try dsimp only
  repeat' with_reducible first
    | intro _ | assumption | apply State.setNum_ok | apply State.endBoost_ok | apply State.modPower_ok
    | apply Good.ite | apply Good.foldl

theorem execFlashInhibitClear_ok {b0 b1 b2} (h0 : Good q b2) : OutGood q (execFlashInhibitClear b0 b1 b2) := by
  unfold execFlashInhibitClear
  try dsimp only
  repeat' first
    | with_reducible first
        | assumption | apply State.setNum_ok | apply State.flushWear_ok | apply State.planeAt_ok
        | apply Good.ite | apply OutGood.next
    | fail_if_no_progress with_reducible refine Good.of_eq ?_ rfl rfl rfl rfl

theorem execFlashInhibitSet_ok {b0 b1 b2} (h0 : Good q b2) : OutGood q (execFlashInhibitSet b0 b1 b2) := by
  unfold execFlashInhibitSet
  try dsimp only
  repeat' with_reducible first
    | assumption | apply State.setNum_ok | apply State.planeAt_ok | apply State.postMsc_ok
    | apply State.abandonUpdate_ok | apply Good.ite | apply OutGood.next

theorem State.portCount_ok {b0 b1 b2 b3 b4} (h0 : Good q b0) : Good q (State.portCount b0 b1 b2 b3 b4) := by
  unfold State.portCount
  try dsimp only
  repeat' with_reducible first
    | intro _ | assumption | apply State.modCluster_ok | apply Cluster.bump_ok | apply Good.ite

theorem State.stallOthers_ok {b0 b1 b2 b3} (h0 : Good q b0) : Good q (State.stallOthers b0 b1 b2 b3) := by
  unfold State.stallOthers
  try dsimp only
  repeat' with_reducible first
    | intro _ | assumption | apply State.portCount_ok | apply Good.ite | apply Good.foldl

theorem State.takeBc_ok {b0 b1 b2 b3} (h0 : Good q b0) : Good q (State.takeBc b0 b1 b2 b3).1 := by
  unfold State.takeBc
  try dsimp only
  repeat' with_reducible first
    | assumption | apply State.modNode_ok

theorem State.refill_ok {b0 b1 b2} (h0 : Good q b0) : Good q (State.refill b0 b1 b2) := by
  unfold State.refill
  try dsimp only
  repeat' with_reducible first
    | assumption | apply State.notePeak_ok | apply State.modNode_ok | apply State.portCount_ok | apply Good.ite

theorem State.popFlit_ok {b0 b1 b2 b3} (h0 : Good q b0) : Good q (State.popFlit b0 b1 b2 b3) := by
  unfold State.popFlit
  try dsimp only
  repeat' with_reducible first
    | assumption | apply State.modNode_ok | apply State.refill_ok | apply Good.ite

theorem State.takePlan_ok {b0 b1 b2 b3} (h0 : Good q b0) : Good q (State.takePlan b0 b1 b2 b3) := by
  unfold State.takePlan
  try dsimp only
  repeat' first
    | with_reducible first
        | assumption | apply State.setPacket_ok | apply State.portCount_ok
    | split

theorem State.takeFlit_ok {b0 b1 b2 b3 b4} (h0 : Good q b0) : Good q (State.takeFlit b0 b1 b2 b3 b4).1 := by
  unfold State.takeFlit
  try dsimp only
  repeat' first
    | with_reducible first
        | assumption | apply State.popFlit_ok | apply State.modNode_ok | apply State.takePlan_ok
    | split

theorem State.newFlit_ok {b0 b1 b2} (h0 : Good q b0) : Good q (State.newFlit b0 b1 b2).1 := by
  unfold State.newFlit
  try dsimp only
  repeat' first
    | with_reducible first
        | assumption | apply State.takeBc_ok | apply State.stallOthers_ok | apply State.takeFlit_ok
    | split

theorem State.nextFlit_ok {b0 b1 b2} (h0 : Good q b0) : Good q (State.nextFlit b0 b1 b2).1 := by
  unfold State.nextFlit
  try dsimp only
  repeat' first
    | with_reducible first
        | assumption | apply State.modNode_ok | apply State.portCount_ok | apply State.stallOthers_ok
        | apply State.newFlit_ok
    | split

theorem State.bcHead_ok {b0 b1 b2 b3} (h0 : Good q b0) : Good q (State.bcHead b0 b1 b2 b3) := by
  unfold State.bcHead
  try dsimp only
  repeat' with_reducible first
    | assumption | apply State.modNode_ok

theorem State.accept_ok {b0 b1 b2 b3} (h0 : Good q b0) : Good q (State.accept b0 b1 b2 b3) := by
  unfold State.accept
  try dsimp only
  repeat' with_reducible first
    | assumption | apply State.notePeak_ok | apply State.modNode_ok | apply State.portCount_ok
    | apply State.modPacket_ok | apply State.cutBc_ok | apply State.bcHead_ok | apply Good.ite

theorem State.takeWord_ok {b0 b1 b2 b3 b4 b5} (h0 : Good q b0) : Good q (State.takeWord b0 b1 b2 b3 b4 b5) := by
  unfold State.takeWord
  try dsimp only
  repeat' first
    | with_reducible first
        | assumption | apply State.modNode_ok | apply State.portCount_ok | apply State.accept_ok
    | split

theorem State.transmit_ok {b0 b1 b2 b3 b4 b5} (h0 : Good q b0) : Good q (State.transmit b0 b1 b2 b3 b4 b5) := by
  unfold State.transmit
  try dsimp only
  repeat' first
    | with_reducible first
        | assumption | apply State.modNode_ok | apply State.takeWord_ok
    | split

theorem onNode_ok {b0 b1 b2} (h0 : Good q b1) (h1 : (∀ a1, Good q a1 → Good q (b2 a1))) :
    OutGood q (onNode b0 b1 b2) := by
  unfold onNode
  try dsimp only
  repeat' with_reducible first
    | assumption | apply h1 | apply OutGood.next | apply OutGood.fault | apply OutGood.ite

theorem execFlitNak_ok {b0 b1 b2 b3} (h0 : Good q b3) : OutGood q (execFlitNak b0 b1 b2 b3) := by
  unfold execFlitNak
  try dsimp only
  repeat' first
    | with_reducible first
        | intro _ | assumption | apply when'_ok | apply State.transmit_ok | apply onNode_ok
        | apply State.nextFlit_ok | apply State.freeBc_ok
    | split

theorem execFragmentTimeout_ok {b0 b1 b2 b3 b4} (h0 : Good q b4) :
    OutGood q (execFragmentTimeout b0 b1 b2 b3 b4) := by
  unfold execFragmentTimeout
  try dsimp only
  repeat' first
    | with_reducible first
        | assumption | apply OutGood.next
    | fail_if_no_progress with_reducible refine Good.of_eq ?_ rfl rfl rfl rfl

theorem State.dropFrame_ok {b0 b1 b2} (h0 : Good q b0) : Good q (State.dropFrame b0 b1 b2) := by
  unfold State.dropFrame
  try dsimp only
  repeat' with_reducible first
    | assumption | apply State.setBlob_ok

theorem State.passInband_ok {b0 b1 b2} (h0 : Good q b0) : Good q (State.passInband b0 b1 b2) := by
  unfold State.passInband
  try dsimp only
  repeat' with_reducible first
    | assumption | apply State.modPort_ok | apply State.addNum_ok | apply Good.ite

theorem execFrameReceive_ok {b0 b1 b2} (h0 : Good q b2) : OutGood q (execFrameReceive b0 b1 b2) := by
  unfold execFrameReceive
  try dsimp only
  repeat' first
    | with_reducible first
        | intro _ | assumption | apply State.passInband_ok | apply State.dropFrame_ok | apply State.addNum_ok
        | apply onPort_ok
    | split

theorem State.loseRegionNodes_ok {b0 b1} (h0 : Good q b0) : Good q (State.loseRegionNodes b0 b1) := by
  unfold State.loseRegionNodes
  try dsimp only
  repeat' first
    | with_reducible first
        | intro _ | assumption | apply State.loseNode_ok | apply State.loseField_ok | apply Good.foldl
    | fail_if_no_progress with_reducible refine Good.of_eq ?_ rfl rfl rfl rfl

theorem State.darken_ok {b0 b1} (h0 : Good q b0) : Good q (State.darken b0 b1) := by
  have g := State.loseRegionNodes_ok (b1 := b1) h0
  unfold State.darken
  generalize State.loseRegionNodes b0 b1 = s1 at g ⊢
  refine ⟨g.1, ?_, fun p hp => g.2.2.1 p (List.mem_of_mem_filter hp), fun p hp => g.2.2.2 p (List.mem_of_mem_filter hp)⟩
  have h := (Sparse.wf_iff _).1 g.2.1
  exact (Sparse.wf_iff _).2 ⟨h.1.filter _, fun p hp => h.2 p (List.mem_of_mem_filter hp)⟩

theorem State.loseRegion_ok {b0 b1 b2} (h0 : Good q b0) : Good q (State.loseRegion b0 b1 b2) := by
  unfold State.loseRegion
  try dsimp only
  repeat' with_reducible first
    | assumption | apply State.regionOut_ok | apply State.rebuild_ok

theorem State.modRegion_ok {b0 b1 b2} (h0 : Good q b0) : Good q (State.modRegion b0 b1 b2) := by
  unfold State.modRegion
  try dsimp only
  repeat' first
    | with_reducible first
        | assumption
    | fail_if_no_progress with_reducible refine Good.of_eq ?_ rfl rfl rfl rfl

theorem State.postRegion_ok {b0 b1 b2 b3 b4} (h0 : Good q b0) : Good q (State.postRegion b0 b1 b2 b3 b4) := by
  unfold State.postRegion
  try dsimp only
  repeat' with_reducible first
    | assumption | apply State.post_ok

theorem State.openFuse_ok {b0 b1 b2} (h0 : Good q b0) : Good q (State.openFuse b0 b1 b2) := by
  unfold State.openFuse
  try dsimp only
  repeat' with_reducible first
    | assumption | apply State.setNum_ok | apply State.darken_ok | apply State.pushCause_ok
    | apply State.loseRegion_ok | apply State.endBoost_ok | apply State.postRegion_ok | apply State.modRegion_ok
    | apply Good.ite

theorem execFuseOpen_ok {b0 b1 b2} (h0 : Good q b2) : OutGood q (execFuseOpen b0 b1 b2) := by
  unfold execFuseOpen
  try dsimp only
  repeat' with_reducible first
    | intro _ | assumption | apply onRegion_ok | apply State.openFuse_ok

theorem State.writeFwCommit_ok {b0 b1 b2} (h0 : Good q b0) : Good q (State.writeFwCommit b0 b1 b2).1 := by
  unfold State.writeFwCommit
  try dsimp only
  repeat' first
    | with_reducible first
        | assumption | apply State.setNum_ok
    | fail_if_no_progress with_reducible refine Good.of_eq ?_ rfl rfl rfl rfl | split

theorem execFwUpdateCommit_ok {b0 b1 b2} (h0 : Good q b2) : OutGood q (execFwUpdateCommit b0 b1 b2) := by
  unfold execFwUpdateCommit
  try dsimp only
  repeat' with_reducible first
    | assumption | apply State.writeFwCommit_ok | apply OutGood.next

theorem State.writeFwData_ok {b0 b1} (h0 : Good q b0) : Good q (State.writeFwData b0 b1).1 := by
  unfold State.writeFwData
  try dsimp only
  repeat' first
    | with_reducible first
        | assumption
    | fail_if_no_progress with_reducible refine Good.of_eq ?_ rfl rfl rfl rfl | split

theorem execFwUpdateData_ok {b0 b1} (h0 : Good q b1) : OutGood q (execFwUpdateData b0 b1) := by
  unfold execFwUpdateData
  try dsimp only
  repeat' with_reducible first
    | assumption | apply State.writeFwData_ok | apply OutGood.next

theorem State.writeFwOpen_ok {b0 b1} (h0 : Good q b0) : Good q (State.writeFwOpen b0 b1).1 := by
  unfold State.writeFwOpen
  try dsimp only
  repeat' first
    | with_reducible first
        | assumption | apply State.setNum_ok | apply State.abandonUpdate_ok
    | fail_if_no_progress with_reducible refine Good.of_eq ?_ rfl rfl rfl rfl | split

theorem execFwUpdateOpen_ok {b0 b1} (h0 : Good q b1) : OutGood q (execFwUpdateOpen b0 b1) := by
  unfold execFwUpdateOpen
  try dsimp only
  repeat' with_reducible first
    | assumption | apply State.writeFwOpen_ok | apply OutGood.next

theorem Core.startOp_ok {b0 b1} (h0 : Sparse.wf (b0).store = true) :
    Sparse.wf ((Core.startOp b0 b1)).store = true := by
  unfold Core.startOp
  try dsimp only
  repeat' first
    | with_reducible first
        | assumption | apply Core.addOp_ok | apply Core.complete_ok
    | split

theorem readPart_ok {b0 b1 b2 b3 b4 b5} (h0 : Good q b4) (h1 : Sparse.wf (b5).store = true) :
    Good q (readPart b0 b1 b2 b3 b4 b5).1 := by
  unfold readPart
  try dsimp only
  repeat' first
    | with_reducible first
        | assumption | apply State.setCluster_ok | apply Cluster.lookup_ok | apply State.addPacket_ok
        | apply (State.cluster_ok (q := q)) | refine Cluster.mw_fst (by assumption) ?_
        | apply (State.cluster_ok (q := q))
    | split

theorem readParts_ok {b0 b1 b2 b3 b4} (h0 : Sparse.wf (b1).store = true) (h1 : Good q b4) :
    Good q (readParts b0 b1 b2 b3 b4).1 := by
  fun_induction readParts b0 b1 b2 b3 b4
  all_goals try dsimp only
  all_goals repeat' with_reducible first
    | apply_assumption | apply readPart_ok

theorem runGet_ok1 {b0 b1 b2 b3 b4 b5 b6 b7} (h0 : Good q b6) (h1 : Sparse.wf (b7).store = true) :
    Good q (runGet b0 b1 b2 b3 b4 b5 b6 b7).1 := by
  unfold runGet
  try dsimp only
  repeat' first
    | with_reducible first
        | assumption | apply readParts_ok
    | split

theorem runGet_ok2 {b0 b1 b2 b3 b4 b5 b6 b7} (h0 : Good q b6) (h1 : Sparse.wf (b7).store = true) :
    Ran.sw (runGet b0 b1 b2 b3 b4 b5 b6 b7).2 := by
  unfold runGet
  try dsimp only
  repeat' first
    | with_reducible first
        | assumption | apply Core.startOp_ok | apply Ran.sw_done | apply Ran.sw_fault | apply Ran.sw_wait
        | apply Ran.sw_block
    | split

theorem execGet_ok {b0 b1 b2 b3 b4 b5 b6} (h0 : Good q b6) : OutGood q (execGet b0 b1 b2 b3 b4 b5 b6) := by
  unfold execGet
  try dsimp only
  repeat' with_reducible first
    | intro _ | assumption | apply issueS_ok | apply runGet_ok1 | apply (runGet_ok2 (q := q))

theorem State.meter_ok {b0 b1 b2} (h0 : Good q b0) : Good q (State.meter b0 b1 b2) := by
  unfold State.meter
  try dsimp only
  repeat' with_reducible first
    | assumption | apply State.modRegion_ok

theorem State.sampleFeeds_ok {b0 b1} (h0 : Good q b0) : Good q (State.sampleFeeds b0 b1) := by
  unfold State.sampleFeeds
  try dsimp only
  repeat' with_reducible first
    | assumption | apply State.draw_ok | apply State.measureFeed_ok | apply State.modPower_ok

theorem execGovernorTick_ok {b0 b1 b2 b3} (h0 : Good q b3) : OutGood q (execGovernorTick b0 b1 b2 b3) := by
  unfold execGovernorTick
  try dsimp only
  repeat' with_reducible first
    | intro _ | assumption | apply State.setNum_ok | apply State.sampleFeeds_ok | apply State.addNum_ok
    | apply State.modPower_ok | apply State.meter_ok | apply Good.ite | apply Good.foldl | apply OutGood.next

theorem State.readLine_ok {b0 b1 b2} (h0 : Good q b0) : Good q (State.readLine b0 b1 b2).1 := by
  unfold State.readLine
  try dsimp only
  repeat' first
    | with_reducible first
        | intro _ | assumption | apply State.dramRead_ok | apply Good.foldl1
    | split

theorem State.readLines_ok {b0 b1 b2 b3 b4 b5} (h0 : Good q b5) : Good q (State.readLines b0 b1 b2 b3 b4 b5).1 := by
  induction b2 generalizing b3 b4 b5 with
  | zero => exact h0
  | succ n ih =>
    unfold State.readLines
    split
    · exact h0
    · split
      · rename_i e
        exact ih (Good.fst e (State.readLine_ok h0))
      · rename_i e
        exact Good.fst e (State.readLine_ok h0)

theorem State.copyPackage_ok {b0 b1} (h0 : Good q b0) : Good q (State.copyPackage b0 b1).1 := by
  unfold State.copyPackage
  try dsimp only
  repeat' first
    | with_reducible first
        | assumption | apply State.readLines_ok
    | split

theorem State.recordLoad_ok {b0 b1 b2} (h0 : Good q b0) : Good q (State.recordLoad b0 b1 b2) := by
  unfold State.recordLoad
  try dsimp only
  repeat' with_reducible first
    | assumption | apply State.setBlob_ok | apply State.setNum_ok

theorem State.writeLoad_ok {b0 b1 b2} (h0 : Good q b0) : Good q (State.writeLoad b0 b1 b2).1 := by
  unfold State.writeLoad
  try dsimp only
  repeat' first
    | with_reducible first
        | assumption | apply State.setNum_ok | apply State.copyPackage_ok | apply State.recordLoad_ok
        | apply State.modPart_ok
    | split

theorem execGraphLoad_ok {b0 b1 b2} (h0 : Good q b2) : OutGood q (execGraphLoad b0 b1 b2) := by
  unfold execGraphLoad
  try dsimp only
  repeat' with_reducible first
    | intro _ | assumption | apply when'_ok | apply State.writeLoad_ok | apply onPart_ok

theorem Cluster.blank_ok {b0} (h0 : Sparse.wf (b0).cmem = true) : Sparse.wf ((Cluster.blank b0)).cmem = true := by
  unfold Cluster.blank
  try dsimp only
  repeat' with_reducible first
    | assumption

theorem State.modClusters_ok {b0 b1 b2} (h0 : Good q b0)
    (h1 : ∀ x : Cluster, Sparse.wf x.cmem = true → Sparse.wf (b2 x).cmem = true) : Good q (State.modClusters b0 b1 b2) := by
  refine ⟨h0.1, h0.2.1, h0.2.2.1, fun p hp => ?_⟩
  obtain ⟨a, ha, rfl⟩ := List.mem_map.1 hp
  split
  · exact h1 _ (h0.2.2.2 a ha)
  · exact h0.2.2.2 a ha

theorem State.placeSteers_ok {b0 b1} (h0 : Good q b0) : Good q (State.placeSteers b0 b1) := by
  unfold State.placeSteers
  try dsimp only
  repeat' with_reducible first
    | intro _ | assumption | apply State.modCluster_ok | apply Good.foldl

theorem State.resetCores_ok {b0 b1} (h0 : Good q b0) : Good q (State.resetCores b0 b1) := by
  refine ⟨h0.1, h0.2.1, fun p hp => ?_, h0.2.2.2⟩
  obtain ⟨a, ha, e⟩ := List.mem_filterMap.1 hp
  have hs := h0.2.2.1 a ha
  dsimp only at e
  split at e
  · cases e; exact hs
  · split at e <;> cases e
    rfl

theorem State.writeEnable_ok {b0 b1} (h0 : Good q b0) : Good q (State.writeEnable b0 b1) := by
  unfold State.writeEnable
  try dsimp only
  repeat' with_reducible first
    | intro _ | assumption | apply State.writeCfgWord_ok | apply Good.foldl

theorem State.install_ok {b0 b1 b2 b3} (h0 : Good q b0) : Good q (State.install b0 b1 b2 b3) := by
  unfold State.install
  try dsimp only
  repeat' with_reducible first
    | intro _ | assumption | apply State.placeSteers_ok | apply State.place_ok | apply State.writeRec_ok
    | apply State.writeEnable_ok | apply State.keepScales_ok | apply State.writeVariant_ok
    | apply State.resetCores_ok | apply State.modClusters_ok | apply Cluster.blank_ok | apply Good.foldl

theorem State.checkLoad_ok {b0 b1 b2 v} (e : State.checkLoad b0 b1 b2 = .ok v) (h0 : Good q b0) : Good q v.1 := by
  unfold State.checkLoad at e
  dsimp only at e
  repeat' split at e
  all_goals first
    | contradiction
    | (injection e with e; subst e; exact State.install_ok h0)

theorem State.failLoad_ok {b0 b1 b2} (h0 : Good q b0) : Good q (State.failLoad b0 b1 b2) := by
  unfold State.failLoad
  try dsimp only
  repeat' with_reducible first
    | assumption | apply State.setNum_ok | apply State.recordLoad_ok | apply State.modPart_ok

theorem State.showFrame_ok {b0 b1} (h0 : Good q b0) : Good q (State.showFrame b0 b1) := by
  unfold State.showFrame
  try dsimp only
  repeat' first
    | with_reducible first
        | assumption | apply State.setNum_ok
    | split

theorem State.loaded_ok {b0 b1 b2 b3} (h0 : Good q b0) : Good q (State.loaded b0 b1 b2 b3) := by
  unfold State.loaded
  try dsimp only
  repeat' with_reducible first
    | assumption | apply State.setNum_ok | apply State.showFrame_ok | apply State.recordLoad_ok
    | apply State.modPart_ok | apply Good.ite

theorem execGraphLoadRun_ok {b0 b1 b2} (h0 : Good q b2) : OutGood q (execGraphLoadRun b0 b1 b2) := by
  unfold execGraphLoadRun
  refine onPart_ok h0 fun s h => ?_
  split
  · exact h
  · split
    · exact State.failLoad_ok h
    · rename_i e
      split
      · exact State.failLoad_ok h
      · exact State.loaded_ok (State.checkLoad_ok e h)

theorem State.askReset_ok {b0 b1 b2} (h0 : Good q b0) : Good q (State.askReset b0 b1 b2) := by
  unfold State.askReset
  try dsimp only
  repeat' first
    | with_reducible first
        | assumption | apply State.setNum_ok | apply State.modPart_ok | apply Good.ite
    | fail_if_no_progress with_reducible refine Good.of_eq ?_ rfl rfl rfl rfl

theorem State.writeUnload_ok {b0 b1 b2} (h0 : Good q b0) : Good q (State.writeUnload b0 b1 b2).1 := by
  unfold State.writeUnload
  try dsimp only
  repeat' first
    | with_reducible first
        | assumption | apply State.askReset_ok
    | split

theorem execGraphUnload_ok {b0 b1 b2} (h0 : Good q b2) : OutGood q (execGraphUnload b0 b1 b2) := by
  unfold execGraphUnload
  try dsimp only
  repeat' with_reducible first
    | intro _ | assumption | apply when'_ok | apply State.writeUnload_ok | apply onPart_ok

theorem onRequester_ok {b0 b1 b2} (h0 : Good q b1) (h1 : (∀ a1, Good q a1 → Good q (b2 a1))) :
    OutGood q (onRequester b0 b1 b2) := by
  unfold onRequester
  try dsimp only
  repeat' with_reducible first
    | assumption | apply h1 | apply OutGood.next | apply OutGood.fault | apply OutGood.ite

theorem execHazardRelease_ok {b0 b1 b2} (h0 : Good q b2) : OutGood q (execHazardRelease b0 b1 b2) := by
  unfold execHazardRelease
  try dsimp only
  repeat' first
    | with_reducible first
        | intro _ | assumption | apply State.modCluster_ok | apply Cluster.bump_ok | apply onRequester_ok
        | apply State.setPacket_ok
    | fail_if_no_progress with_reducible refine Good.of_eq ?_ rfl rfl rfl rfl | split

theorem State.complete1_ok {b0 b1 b2 b3 b4 b5} (h0 : Good q b0) : Good q (State.complete1 b0 b1 b2 b3 b4 b5) := by
  unfold State.complete1
  try dsimp only
  repeat' first
    | with_reducible first
        | assumption | apply State.replyIn_ok | apply State.addNum_ok
    | fail_if_no_progress with_reducible refine Good.of_eq ?_ rfl rfl rfl rfl | split

theorem State.join_ok {b0 b1 b2} (h0 : Good q b0) : Good q (State.join b0 b1 b2) := by
  unfold State.join
  try dsimp only
  repeat' first
    | with_reducible first
        | assumption | apply State.complete1_ok | apply Good.ite
    | fail_if_no_progress with_reducible refine Good.of_eq ?_ rfl rfl rfl rfl

theorem State.takeInband_ok {b0 b1} (h0 : Good q b0) : Good q (State.takeInband b0 b1) := by
  unfold State.takeInband
  try dsimp only
  repeat' first
    | with_reducible first
        | assumption | apply State.modPort_ok
    | split

theorem execHdpFragment_ok {b0 b1 b2 b3} (h0 : Good q b3) : OutGood q (execHdpFragment b0 b1 b2 b3) := by
  unfold execHdpFragment
  try dsimp only
  repeat' first
    | with_reducible first
        | intro _ | assumption | apply State.dropFrame_ok | apply State.join_ok | apply State.addNum_ok
        | apply State.putSession_ok | apply State.takeInband_ok | apply onIfc_ok | apply State.atTime_ok
    | split

theorem execHeartbeat_ok {b0} (h0 : Good q b0) : OutGood q (execHeartbeat b0) := by
  unfold execHeartbeat
  try dsimp only
  repeat' first
    | with_reducible first
        | assumption | apply OutGood.next
    | fail_if_no_progress with_reducible refine Good.of_eq ?_ rfl rfl rfl rfl

theorem State.abandonLoads_ok {b0} (h0 : Good q b0) : Good q (State.abandonLoads b0) := by
  unfold State.abandonLoads
  try dsimp only
  repeat' with_reducible first
    | intro _ | assumption | apply State.setBlob_ok | apply State.setNum_ok | apply State.modPart_ok
    | apply Good.ite | apply Good.foldl

theorem execHeartbeatTimeout_ok {b0} (h0 : Good q b0) : OutGood q (execHeartbeatTimeout b0) := by
  unfold execHeartbeatTimeout
  try dsimp only
  repeat' first
    | with_reducible first
        | assumption | apply State.post_ok | apply State.setNum_ok | apply State.addNum_ok
        | apply State.abandonLoads_ok | apply Good.ite | apply OutGood.next
    | fail_if_no_progress with_reducible refine Good.of_eq ?_ rfl rfl rfl rfl

theorem State.openPending_ok {b0 b1 b2 b3 b4} (h0 : Good q b0) : Good q (State.openPending b0 b1 b2 b3 b4) := by
  unfold State.openPending
  try dsimp only
  repeat' first
    | with_reducible first
        | assumption | apply State.sendHdp_ok
    | fail_if_no_progress with_reducible refine Good.of_eq ?_ rfl rfl rfl rfl

theorem execHello_ok {b0 b1 b2 b3 b4} (h0 : Good q b4) : OutGood q (execHello b0 b1 b2 b3 b4) := by
  unfold execHello
  try dsimp only
  repeat' first
    | with_reducible first
        | intro _ | assumption | apply State.draw_ok | apply State.openPending_ok
        | apply State.takeReady_ok (by assumption) | apply State.sendHdp_ok | apply onIfc_ok
    | fail_if_no_progress with_reducible refine Good.of_eq ?_ rfl rfl rfl rfl | split

theorem execIdentityRequest_ok {b0 b1 b2} (h0 : Good q b2) : OutGood q (execIdentityRequest b0 b1 b2) := by
  unfold execIdentityRequest
  try dsimp only
  repeat' first
    | with_reducible first
        | intro _ | assumption | apply State.takeReady_ok (by assumption) | apply State.sendHdp_ok
        | apply onIfc_ok
    | split

theorem Core.inboxPut_ok {b0 b1 b2 b3} (h0 : Sparse.wf (b0).store = true) :
    Sparse.wf ((Core.inboxPut b0 b1 b2 b3).1).store = true := by
  unfold Core.inboxPut
  try dsimp only
  repeat' first
    | with_reducible first
        | assumption | apply Core.inboxSwap_ok | apply Core.storeBytes_ok | apply Core.raise_ok
        | refine Core.sw_fst (by assumption) ?_
    | split | dsimp only

theorem State.serveInbox_ok {b0 b1} (h0 : Good q b0) : Good q (State.serveInbox b0 b1) := by
  unfold State.serveInbox
  try dsimp only
  repeat' with_reducible first
    | intro _ | assumption | apply State.modCluster_ok | apply (State.core_ok (q := q)) | apply Cluster.bump_ok
    | apply State.protect_ok | apply State.setCore_ok | apply State.absent_ok | apply Core.inboxPut_ok
    | apply State.respond_ok | apply Good.ite | apply (State.core_ok (q := q))

theorem execInboxDelivery_ok {b0 b1} (h0 : Good q b1) : OutGood q (execInboxDelivery b0 b1) := by
  unfold execInboxDelivery
  try dsimp only
  repeat' first
    | with_reducible first
        | intro _ | assumption | apply State.draw_ok | apply State.modCluster_ok | apply State.serveInbox_ok
        | apply Cluster.bump_ok | apply deliver_ok | apply OutGood.next
    | split

theorem execInterlockChange_ok {b0 b1} (h0 : Good q b1) : OutGood q (execInterlockChange b0 b1) := by
  unfold execInterlockChange
  try dsimp only
  repeat' with_reducible first
    | assumption | apply State.setNum_ok | apply OutGood.next

theorem runLdg_ok1 {b0 b1 b2 b3 b4} (h0 : Good q b3) (h1 : Sparse.wf (b4).store = true) :
    Good q (runLdg b0 b1 b2 b3 b4).1 := by
  unfold runLdg
  try dsimp only
  repeat' first
    | with_reducible first
        | assumption | apply readPart_ok
    | split

theorem runLdg_ok2 {b0 b1 b2 b3 b4} (h0 : Good q b3) (h1 : Sparse.wf (b4).store = true) :
    Ran.sw (runLdg b0 b1 b2 b3 b4).2 := by
  unfold runLdg
  try dsimp only
  repeat' first
    | with_reducible first
        | assumption | apply Core.addOp_ok | apply Core.complete_ok | apply Ran.sw_done | apply Ran.sw_fault
        | apply Ran.sw_wait | apply Ran.sw_block
    | split

theorem writeParts_ok {b0 b1 b2 b3 b4 b5 b6} (h0 : Sparse.wf (b1).store = true) (h1 : Good q b6) :
    Good q (writeParts b0 b1 b2 b3 b4 b5 b6).1 := by
  fun_induction writeParts b0 b1 b2 b3 b4 b5 b6
  all_goals try dsimp only
  all_goals repeat' with_reducible first
    | apply_assumption

theorem runPut_ok1 {b0 b1 b2 b3 b4 b5 b6 b7} (h0 : Good q b6) (h1 : Sparse.wf (b7).store = true) :
    Good q (runPut b0 b1 b2 b3 b4 b5 b6 b7).1 := by
  unfold runPut
  try dsimp only
  repeat' first
    | with_reducible first
        | assumption | apply Core.load_ok | apply writeParts_ok | refine Core.sw_fst (by assumption) ?_
    | split

theorem runPut_ok2 {b0 b1 b2 b3 b4 b5 b6 b7} (h0 : Good q b6) (h1 : Sparse.wf (b7).store = true) :
    Ran.sw (runPut b0 b1 b2 b3 b4 b5 b6 b7).2 := by
  unfold runPut
  try dsimp only
  repeat' first
    | with_reducible first
        | assumption | apply Core.load_ok | apply Core.addOp_ok | apply Ran.sw_done | apply Ran.sw_fault
        | apply Ran.sw_wait | refine Core.sw_fst (by assumption) ?_
    | split

theorem runStg_ok1 {b0 b1 b2 b3 b4 b5 b6} (h0 : Good q b5) (h1 : Sparse.wf (b6).store = true) :
    Good q (runStg b0 b1 b2 b3 b4 b5 b6).1 := by
  unfold runStg
  try dsimp only
  repeat' first
    | with_reducible first
        | assumption | apply writeParts_ok
    | split

theorem runStg_ok2 {b0 b1 b2 b3 b4 b5 b6} (h0 : Good q b5) (h1 : Sparse.wf (b6).store = true) :
    Ran.sw (runStg b0 b1 b2 b3 b4 b5 b6).2 := by
  unfold runStg
  try dsimp only
  repeat' first
    | with_reducible first
        | assumption | apply Core.addOp_ok | apply Ran.sw_done | apply Ran.sw_fault | apply Ran.sw_wait
    | split

theorem Core.readEntry_ok {b0 b1} (h0 : Sparse.wf (b0).store = true) :
    Sparse.wf ((Core.readEntry b0 b1).1).store = true := by
  unfold Core.readEntry
  try dsimp only
  repeat' first
    | with_reducible first
        | assumption | apply Core.load_ok | refine Core.sw_fst (by assumption) ?_
    | split

theorem runTpop_ok {b0 b1 b2 b3 b4} (h0 : Sparse.wf (b4).store = true) : Ran.sw (runTpop b0 b1 b2 b3 b4) := by
  unfold runTpop
  try dsimp only
  repeat' first
    | with_reducible first
        | assumption | apply Core.bumpCount_ok | apply Core.readEntry_ok | apply Core.setTile_ok
        | apply Ran.sw_done | apply Ran.sw_fault | apply Ran.sw_wait | apply Ran.sw_block
        | refine Core.sw_fst (by assumption) ?_
    | split | dsimp only

theorem runTpopS_ok1 {b0 b1 b2 b3 b4} (h0 : Good q b3) (h1 : Sparse.wf (b4).store = true) :
    Good q (runTpopS b0 b1 b2 b3 b4).1 := by
  unfold runTpopS
  try dsimp only
  repeat' with_reducible first
    | assumption | apply State.draw_ok

theorem runTpopS_ok2 {b0 b1 b2 b3 b4} (h0 : Good q b3) (h1 : Sparse.wf (b4).store = true) :
    Ran.sw (runTpopS b0 b1 b2 b3 b4).2 := by
  unfold runTpopS
  try dsimp only
  repeat' with_reducible first
    | assumption | apply runTpop_ok

theorem Core.pushRetained_ok {b0 b1 b2 b3 b4} (h0 : Sparse.wf (b0).store = true) :
    Sparse.wf ((Core.pushRetained b0 b1 b2 b3 b4)).store = true := by
  unfold Core.pushRetained
  try dsimp only
  repeat' first
    | with_reducible first
        | assumption
    | split

theorem runTpush_ok {b0 b1 b2 b3 b4} (h0 : Sparse.wf (b4).store = true) : Ran.sw (runTpush b0 b1 b2 b3 b4) := by
  unfold runTpush
  try dsimp only
  repeat' first
    | with_reducible first
        | assumption | apply Core.pushRetained_ok | apply Core.storeBytes_ok | apply Ran.sw_done
        | apply Ran.sw_fault | apply Ran.sw_wait | refine Core.sw_fst (by assumption) ?_
    | split | dsimp only

theorem Core.setRegs_ok {b0 b1 b2} (h0 : Sparse.wf (b0).store = true) :
    Sparse.wf ((Core.setRegs b0 b1 b2)).store = true := by
  fun_induction Core.setRegs b0 b1 b2
  all_goals try dsimp only
  all_goals repeat' with_reducible first
    | apply_assumption | apply Core.setS_ok

theorem runWrecv_ok {b0 b1 b2 b3 b4} (h0 : Sparse.wf (b4).store = true) : Ran.sw (runWrecv b0 b1 b2 b3 b4) := by
  unfold runWrecv
  try dsimp only
  repeat' first
    | with_reducible first
        | assumption | apply Core.setRegs_ok | apply Ran.sw_done | apply Ran.sw_fault | apply Ran.sw_wait
    | split

theorem runWsend_ok {b0 b1 b2 b3 b4} (h0 : Sparse.wf (b4).store = true) : Ran.sw (runWsend b0 b1 b2 b3 b4).2 := by
  unfold runWsend
  try dsimp only
  repeat' first
    | with_reducible first
        | assumption | apply Ran.sw_done | apply Ran.sw_fault | apply Ran.sw_wait
    | split

theorem runWsendS_ok1 {b0 b1 b2 b3 b4 b5} (h0 : Good q b4) (h1 : Sparse.wf (b5).store = true) :
    Good q (runWsendS b0 b1 b2 b3 b4 b5).1 := by
  unfold runWsendS
  try dsimp only
  repeat' with_reducible first
    | intro _ | assumption | apply State.modCluster_ok | apply Cluster.bump_ok | apply Good.ite

theorem runWsendS_ok2 {b0 b1 b2 b3 b4 b5} (h0 : Good q b4) (h1 : Sparse.wf (b5).store = true) :
    Ran.sw (runWsendS b0 b1 b2 b3 b4 b5).2 := by
  unfold runWsendS
  try dsimp only
  repeat' with_reducible first
    | assumption | apply runWsend_ok

theorem rerun_ok1 {b0 b1 b2 b3} (h0 : Good q b2) (h1 : Sparse.wf (b3).store = true) :
    Good q (rerun b0 b1 b2 b3).1 := by
  unfold rerun
  try dsimp only
  repeat' first
    | with_reducible first
        | assumption | apply runAmo_ok1 | apply runAcq_ok1 | apply runWsendS_ok1 | apply runTpopS_ok1
        | apply runStg_ok1 | apply runPut_ok1 | apply runLdg_ok1 | apply runGet_ok1
    | split

theorem rerun_ok2 {b0 b1 b2 b3} (h0 : Good q b2) (h1 : Sparse.wf (b3).store = true) :
    Ran.sw (rerun b0 b1 b2 b3).2 := by
  unfold rerun
  try dsimp only
  repeat' first
    | with_reducible first
        | assumption | apply runCwait_ok | apply (runAmo_ok2 (q := q)) | apply (runAcq_ok2 (q := q))
        | apply (runWsendS_ok2 (q := q)) | apply (runTpopS_ok2 (q := q)) | apply (runStg_ok2 (q := q))
        | apply runWrecv_ok | apply (runPut_ok2 (q := q)) | apply (runLdg_ok2 (q := q)) | apply runTpush_ok
        | apply runFence_ok | apply (runGet_ok2 (q := q)) | apply Ran.sw_block
    | split

theorem execIssueStallRelease_ok {b0 b1 b2} (h0 : Good q b2) : OutGood q (execIssueStallRelease b0 b1 b2) := by
  unfold execIssueStallRelease
  try dsimp only
  repeat' first
    | with_reducible first
        | intro _ | assumption | apply Ran.finish_ok | apply Core.bumpCount_ok | apply (State.core_ok (q := q))
        | apply rerun_ok1 | apply (rerun_ok2 (q := q)) | apply when'_ok | apply State.setCore_ok
        | apply onCore_ok | refine Good.fst (by assumption) ?_ | refine Ran.sw_snd (by assumption) ?_
        | apply (State.core_ok (q := q))
    | split

theorem execJ_ok {b0 b1 b2} (h0 : Good q b2) : OutGood q (execJ b0 b1 b2) := by
  unfold execJ
  try dsimp only
  repeat' with_reducible first
    | intro _ | assumption | apply issue_ok | apply Ran.sw_jump

theorem execJal_ok {b0 b1 b2 b3} (h0 : Good q b3) : OutGood q (execJal b0 b1 b2 b3) := by
  unfold execJal
  try dsimp only
  repeat' with_reducible first
    | intro _ | assumption | apply Core.setS_ok | apply issue_ok | apply Ran.sw_jump

theorem execJr_ok {b0 b1 b2} (h0 : Good q b2) : OutGood q (execJr b0 b1 b2) := by
  unfold execJr
  try dsimp only
  repeat' with_reducible first
    | intro _ | assumption | apply issue_ok | apply Ran.sw_jump

theorem execKindle_ok {b0 b1} (h0 : Good q b1) : OutGood q (execKindle b0 b1) := by
  unfold execKindle
  try dsimp only
  repeat' with_reducible first
    | intro _ | assumption | apply (State.core_ok (q := q)) | apply State.setCore_ok | apply onCore_ok
    | apply State.modRegion_ok | apply Good.ite | apply (State.core_ok (q := q))

theorem Core.leaveSmoulder_ok {b0 b1 b2} (h0 : Sparse.wf (b0).store = true) :
    Sparse.wf ((Core.leaveSmoulder b0 b1 b2)).store = true := by
  unfold Core.leaveSmoulder
  try dsimp only
  repeat' with_reducible first
    | assumption

theorem execKindlePermitGrant_ok {b0 b1 b2} (h0 : Good q b2) : OutGood q (execKindlePermitGrant b0 b1 b2) := by
  unfold execKindlePermitGrant
  try dsimp only
  repeat' first
    | with_reducible first
        | intro _ | assumption | apply Core.bumpCount_ok | apply (State.core_ok (q := q)) | apply onRegion_ok
        | apply Core.leaveSmoulder_ok | apply State.setCore_ok | apply State.modRegion_ok
        | apply (State.core_ok (q := q))
    | split

theorem execLaneRepair_ok {b0 b1 b2 b3 b4 b5 b6} (h0 : Good q b6) :
    OutGood q (execLaneRepair b0 b1 b2 b3 b4 b5 b6) := by
  unfold execLaneRepair
  try dsimp only
  repeat' with_reducible first
    | intro _ | assumption | apply State.modCluster_ok | apply Cluster.bump_ok | apply State.modCrossing_ok
    | apply State.rewriteMap_ok | apply onField_ok | apply Cluster.postTelem_ok | apply Good.ite

theorem scalarLoad_ok {b0 b1 b2 b3 b4} (h0 : Sparse.wf (b4).store = true) : Ran.sw (scalarLoad b0 b1 b2 b3 b4) := by
  unfold scalarLoad
  try dsimp only
  repeat' first
    | with_reducible first
        | assumption | apply Core.load_ok | apply Core.setS_ok | apply Ran.sw_done | apply Ran.sw_fault
        | refine Core.sw_fst (by assumption) ?_
    | split

theorem execLbu_ok {b0 b1 b2 b3 b4} (h0 : Good q b4) : OutGood q (execLbu b0 b1 b2 b3 b4) := by
  unfold execLbu
  try dsimp only
  repeat' with_reducible first
    | assumption | apply scalarLoad_ok | apply issue_ok

theorem execLdg_ok {b0 b1 b2 b3} (h0 : Good q b3) : OutGood q (execLdg b0 b1 b2 b3) := by
  unfold execLdg
  try dsimp only
  repeat' with_reducible first
    | intro _ | assumption | apply runLdg_ok1 | apply (runLdg_ok2 (q := q)) | apply issueS_ok

theorem State.writeLease_ok {b0 b1} (h0 : Good q b0) : Good q (State.writeLease b0 b1).1 := by
  unfold State.writeLease
  try dsimp only
  repeat' first
    | with_reducible first
        | assumption | apply State.endBoost_ok | apply State.modPower_ok
    | split

theorem execLeaseGrant_ok {b0 b1} (h0 : Good q b1) : OutGood q (execLeaseGrant b0 b1) := by
  unfold execLeaseGrant
  try dsimp only
  repeat' with_reducible first
    | assumption | apply State.writeLease_ok | apply OutGood.next

end Sys2Proof.Machine
end

