-- ==== Sys2Proof/Laws/Frame5.lean ====
section
/-! SUPPORT. What each operation leaves of the queue and of the canonical form of the memories, one lemma for each, callees
first (part 5 of 6). -/

namespace Sys2Proof.Machine

variable {q : List Instr}

theorem execLeaseTick_ok {b0} (h0 : Good q b0) : OutGood q (execLeaseTick b0) := by
  unfold execLeaseTick
  try dsimp only
  repeat' with_reducible first
    | assumption | apply State.addNum_ok | apply State.endBoost_ok | apply State.modPower_ok | apply Good.ite
    | apply OutGood.next

theorem State.writeLicence_ok {b0 b1 b2} (h0 : Good q b0) : Good q (State.writeLicence b0 b1 b2).1 := by
  unfold State.writeLicence
  try dsimp only
  repeat' first
    | with_reducible first
        | assumption | apply State.setNum_ok | apply State.showLicences_ok
    | fail_if_no_progress with_reducible refine Good.of_eq ?_ rfl rfl rfl rfl | split

theorem execLicenceInstall_ok {b0 b1 b2} (h0 : Good q b2) : OutGood q (execLicenceInstall b0 b1 b2) := by
  unfold execLicenceInstall
  try dsimp only
  repeat' with_reducible first
    | assumption | apply State.writeLicence_ok | apply OutGood.next

theorem State.writeLicenceRemove_ok {b0 b1} (h0 : Good q b0) : Good q (State.writeLicenceRemove b0 b1).1 := by
  unfold State.writeLicenceRemove
  try dsimp only
  repeat' first
    | with_reducible first
        | assumption | apply State.showLicences_ok
    | fail_if_no_progress with_reducible refine Good.of_eq ?_ rfl rfl rfl rfl | split

theorem execLicenceRemove_ok {b0 b1} (h0 : Good q b1) : OutGood q (execLicenceRemove b0 b1) := by
  unfold execLicenceRemove
  try dsimp only
  repeat' with_reducible first
    | assumption | apply State.writeLicenceRemove_ok | apply OutGood.next

theorem State.checkPath_ok {b0 b1} (h0 : Good q b0) : Good q (State.checkPath b0 b1) := by
  unfold State.checkPath
  try dsimp only
  repeat' with_reducible first
    | assumption | apply State.applyPath_ok | apply Good.foldl

theorem execLinkDown_ok {b0 b1 b2 b3} (h0 : Good q b3) : OutGood q (execLinkDown b0 b1 b2 b3) := by
  unfold execLinkDown
  try dsimp only
  repeat' with_reducible first
    | intro _ | assumption | apply State.downLink_ok | apply State.checkPath_ok | apply onNode_ok
    | apply Good.ite

theorem execList_ok {b0 b1 b2 b3} (h0 : Good q b3) : OutGood q (execList b0 b1 b2 b3) := by
  unfold execList
  try dsimp only
  repeat' with_reducible first
    | intro _ | assumption | apply State.answer_ok | apply State.hdpRequest_ok | apply OutGood.next

theorem execLoop_ok {b0 b1 b2 b3} (h0 : Good q b3) : OutGood q (execLoop b0 b1 b2 b3) := by
  unfold execLoop
  try dsimp only
  repeat' with_reducible first
    | intro _ | assumption | apply issue_ok | apply Ran.sw_ite | apply Ran.sw_done | apply Ran.sw_jump
    | apply Ran.sw_fault

theorem execLui_ok {b0 b1 b2 b3} (h0 : Good q b3) : OutGood q (execLui b0 b1 b2 b3) := by
  unfold execLui
  try dsimp only
  repeat' with_reducible first
    | intro _ | assumption | apply Core.setS_ok | apply issue_ok | apply Ran.sw_done

theorem execLw_ok {b0 b1 b2 b3 b4} (h0 : Good q b4) : OutGood q (execLw b0 b1 b2 b3 b4) := by
  unfold execLw
  try dsimp only
  repeat' with_reducible first
    | assumption | apply scalarLoad_ok | apply issue_ok

theorem execMax_ok {b0 b1 b2 b3 b4} (h0 : Good q b4) : OutGood q (execMax b0 b1 b2 b3 b4) := by
  unfold execMax
  try dsimp only
  repeat' with_reducible first
    | assumption | apply aluReg_ok | apply issue_ok

theorem execMaxu_ok {b0 b1 b2 b3 b4} (h0 : Good q b4) : OutGood q (execMaxu b0 b1 b2 b3 b4) := by
  unfold execMaxu
  try dsimp only
  repeat' with_reducible first
    | assumption | apply aluReg_ok | apply issue_ok

theorem execMergeRoundComplete_ok {b0 b1 b2} (h0 : Good q b2) : OutGood q (execMergeRoundComplete b0 b1 b2) := by
  unfold execMergeRoundComplete
  try dsimp only
  repeat' first
    | with_reducible first
        | intro _ | assumption | apply State.setCluster_ok | apply Cluster.report_ok | apply onCluster_ok
        | apply Cluster.bump_ok | apply Cluster.setSteer_ok | apply (State.cluster_ok (q := q))
        | apply (State.cluster_ok (q := q))
    | split

theorem execMgtLinkChange_ok {b0 b1 b2} (h0 : Good q b2) : OutGood q (execMgtLinkChange b0 b1 b2) := by
  unfold execMgtLinkChange
  try dsimp only
  repeat' with_reducible first
    | assumption | apply State.setNum_ok | apply Good.ite | apply OutGood.next

theorem execMin_ok {b0 b1 b2 b3 b4} (h0 : Good q b4) : OutGood q (execMin b0 b1 b2 b3 b4) := by
  unfold execMin
  try dsimp only
  repeat' with_reducible first
    | assumption | apply aluReg_ok | apply issue_ok

theorem execMinu_ok {b0 b1 b2 b3 b4} (h0 : Good q b4) : OutGood q (execMinu b0 b1 b2 b3 b4) := by
  unfold execMinu
  try dsimp only
  repeat' with_reducible first
    | assumption | apply aluReg_ok | apply issue_ok

theorem State.askedModule_ok {b0} (h0 : Good q b0) : Good q (State.askedModule b0) := by
  unfold State.askedModule
  try dsimp only
  repeat' first
    | with_reducible first
        | assumption
    | fail_if_no_progress with_reducible refine Good.of_eq ?_ rfl rfl rfl rfl

theorem State.beginWarm_ok {b0} (h0 : Good q b0) : Good q (State.beginWarm b0) := by
  unfold State.beginWarm
  try dsimp only
  repeat' first
    | with_reducible first
        | assumption | apply State.setNum_ok | apply State.startOver_ok | apply Good.ite
    | fail_if_no_progress with_reducible refine Good.of_eq ?_ rfl rfl rfl rfl

theorem State.warmTrigger_ok {b0} (h0 : Good q b0) : Good q (State.warmTrigger b0) := by
  unfold State.warmTrigger
  try dsimp only
  repeat' with_reducible first
    | assumption | apply State.beginWarm_ok | apply State.beginCold_ok | apply Good.ite

theorem State.writeModuleReset_ok {b0 b1 b2 b3} (h0 : Good q b0) : Good q (State.writeModuleReset b0 b1 b2 b3).1 := by
  unfold State.writeModuleReset
  try dsimp only
  repeat' first
    | with_reducible first
        | assumption | apply State.warmTrigger_ok | apply State.askedModule_ok | apply State.beginCold_ok
        | apply State.storeWear_ok
    | split

theorem execModuleResetCold_ok {b0 b1 b2} (h0 : Good q b2) : OutGood q (execModuleResetCold b0 b1 b2) := by
  unfold execModuleResetCold
  try dsimp only
  repeat' with_reducible first
    | assumption | apply State.writeModuleReset_ok | apply when'_ok | apply OutGood.next

theorem execModuleResetWarm_ok {b0} (h0 : Good q b0) : OutGood q (execModuleResetWarm b0) := by
  unfold execModuleResetWarm
  try dsimp only
  repeat' with_reducible first
    | assumption | apply State.writeModuleReset_ok | apply when'_ok | apply OutGood.next

theorem execMordantAckTimeout_ok {b0 b1} (h0 : Good q b1) : OutGood q (execMordantAckTimeout b0 b1) := by
  unfold execMordantAckTimeout
  try dsimp only
  repeat' with_reducible first
    | intro _ | assumption | apply State.draw_ok | apply State.addNum_ok | apply onCore_ok
    | apply State.coreDead_ok | apply Good.ite

theorem Core.processSlots_ok {b0 b1} (h0 : Sparse.wf (b0).store = true) :
    Sparse.wf ((Core.processSlots b0 b1)).store = true := by
  unfold Core.processSlots
  try dsimp only
  repeat' with_reducible first
    | assumption

theorem execMordantSlotProcess_ok {b0 b1} (h0 : Good q b1) : OutGood q (execMordantSlotProcess b0 b1) := by
  unfold execMordantSlotProcess
  try dsimp only
  repeat' first
    | with_reducible first
        | intro _ | assumption | apply (State.core_ok (q := q)) | apply when'_ok | apply State.setCore_ok
        | apply onCore_ok | apply Core.processSlots_ok | apply (State.core_ok (q := q))
    | split

theorem execMscWatchdogHold_ok {b0} (h0 : Good q b0) : OutGood q (execMscWatchdogHold b0) := by
  unfold execMscWatchdogHold
  try dsimp only
  repeat' first
    | with_reducible first
        | assumption | apply State.holdWafer_ok | apply State.abandonUpdate_ok | apply OutGood.next
    | fail_if_no_progress with_reducible refine Good.of_eq ?_ rfl rfl rfl rfl

theorem execMul_ok {b0 b1 b2 b3 b4} (h0 : Good q b4) : OutGood q (execMul b0 b1 b2 b3 b4) := by
  unfold execMul
  try dsimp only
  repeat' with_reducible first
    | assumption | apply aluReg_ok | apply issue_ok

theorem execMulhu_ok {b0 b1 b2 b3 b4} (h0 : Good q b4) : OutGood q (execMulhu b0 b1 b2 b3 b4) := by
  unfold execMulhu
  try dsimp only
  repeat' with_reducible first
    | assumption | apply aluReg_ok | apply issue_ok

theorem State.answerOut_ok {b0 b1 b2 b3 b4 b5 b6} (h0 : Good q b0) :
    Good q (State.answerOut b0 b1 b2 b3 b4 b5 b6) := by
  unfold State.answerOut
  try dsimp only
  repeat' first
    | with_reducible first
        | assumption | apply State.modPort_ok | apply State.addNum_ok | apply State.respond_ok
    | split

theorem onReady_ok {b0 b1 b2 b3 b4} (h0 : Good q b3) (h1 : ∀ s m v, Good q s → b4 s m = some v → Good q v) :
    OutGood q (onReady b0 b1 b2 b3 b4) := by
  unfold onReady
  refine onPort_ok h0 fun s h => ?_
  split
  · rename_i p _
    cases e : b4 (s.modPort b0 (fun x => { x with ready := x.ready.erase p })) p.2 with
    | none => exact h
    | some v => exact h1 _ _ _ (State.modPort_ok h) e
  · exact h

theorem execNack_ok {b0 b1 b2} (h0 : Good q b2) : OutGood q (execNack b0 b1 b2) := by
  refine onReady_ok h0 fun s m v h e => ?_
  cases e
  have g := State.addNum_ok (b1 := o4HwtNacksReceived b0) (b2 := 1) h
  exact Good.ite (State.answerOut_ok g) (Good.ite (State.addNum_ok g) g)

theorem execNeighbourSolicitation_ok {b0 b1 b2 b3 b4} (h0 : Good q b4) :
    OutGood q (execNeighbourSolicitation b0 b1 b2 b3 b4) := by
  unfold execNeighbourSolicitation
  try dsimp only
  repeat' with_reducible first
    | intro _ | assumption | apply State.draw_ok | apply when'_ok | apply State.emitIp_ok | apply onIfc_ok

theorem execNop_ok {b0 b1} (h0 : Good q b1) : OutGood q (execNop b0 b1) := by
  unfold execNop
  try dsimp only
  repeat' with_reducible first
    | assumption | apply issue_ok | apply Ran.sw_done

theorem execOr_ok {b0 b1 b2 b3 b4} (h0 : Good q b4) : OutGood q (execOr b0 b1 b2 b3 b4) := by
  unfold execOr
  try dsimp only
  repeat' with_reducible first
    | assumption | apply aluReg_ok | apply issue_ok

theorem execOri_ok {b0 b1 b2 b3 b4} (h0 : Good q b4) : OutGood q (execOri b0 b1 b2 b3 b4) := by
  unfold execOri
  try dsimp only
  repeat' with_reducible first
    | assumption | apply issue_ok | apply aluImm_ok

theorem State.linkCycle_ok {b0 b1 b2} (h0 : Good q b0) : Good q (State.linkCycle b0 b1 b2) := by
  unfold State.linkCycle
  try dsimp only
  repeat' with_reducible first
    | assumption | apply State.transmit_ok | apply State.nextFlit_ok | apply State.freeBc_ok

theorem State.channelCut_ok {b0 b1} (h0 : Good q b0) : Good q (State.channelCut b0 b1) := by
  unfold State.channelCut
  try dsimp only
  repeat' with_reducible first
    | assumption | apply State.faultPart_ok | apply Good.ite

theorem State.unreachable_ok {b0 b1 b2} (h0 : Good q b0) : Good q (State.unreachable b0 b1 b2) := by
  unfold State.unreachable
  try dsimp only
  repeat' with_reducible first
    | intro _ | assumption | apply State.modCluster_ok | apply State.channelCut_ok | apply Cluster.bump_ok
    | apply State.respond_ok | apply Good.ite

theorem State.localHead_ok {b0 b1 b2 b3} (h0 : Good q b0) : Good q (State.localHead b0 b1 b2 b3) := by
  unfold State.localHead
  try dsimp only
  repeat' first
    | with_reducible first
        | intro _ | assumption | apply State.unreachable_ok | apply State.modCluster_ok | apply Cluster.bump_ok
    | split

theorem State.localTail_ok {b0 b1 b2 b3 b4} (h0 : Good q b0) : Good q (State.localTail b0 b1 b2 b3 b4) := by
  unfold State.localTail
  try dsimp only
  repeat' first
    | with_reducible first
        | intro _ | assumption | apply State.dropPacket_ok | apply State.modCluster_ok | apply Cluster.bump_ok
        | apply State.setPacket_ok | apply State.modNode_ok
    | split

theorem State.localFlit_ok {b0 b1 b2 b3} (h0 : Good q b0) : Good q (State.localFlit b0 b1 b2 b3) := by
  unfold State.localFlit
  try dsimp only
  repeat' first
    | with_reducible first
        | assumption | apply State.localHead_ok | apply State.popFlit_ok | apply State.modNode_ok
        | apply State.portCount_ok | apply State.localTail_ok | apply State.collect_ok
    | split

theorem State.localCycle_ok {b0 b1} (h0 : Good q b0) : Good q (State.localCycle b0 b1) := by
  unfold State.localCycle
  try dsimp only
  repeat' first
    | with_reducible first
        | assumption | apply State.stallOthers_ok | apply State.localFlit_ok
    | split

theorem execPacketHop_ok {b0 b1 b2} (h0 : Good q b2) : OutGood q (execPacketHop b0 b1 b2) := by
  unfold execPacketHop
  try dsimp only
  repeat' with_reducible first
    | intro _ | assumption | apply when'_ok | apply State.linkCycle_ok | apply State.localCycle_ok
    | apply onNode_ok | apply Good.ite

theorem State.injectBroadcast_ok {b0 b1 b2} (h0 : Good q b0) : Good q (State.injectBroadcast b0 b1 b2) := by
  unfold State.injectBroadcast
  try dsimp only
  repeat' with_reducible first
    | intro _ | assumption | apply State.modCluster_ok | apply Cluster.bump_ok | apply State.setPacket_ok
    | apply State.modNode_ok | apply State.bcHead_ok | apply State.freeBc_ok

theorem State.enter_ok {b0 b1 b2 b3} (h0 : Good q b0) : Good q (State.enter b0 b1 b2 b3) := by
  unfold State.enter
  try dsimp only
  repeat' with_reducible first
    | assumption | apply State.setPacket_ok | apply State.modNode_ok | apply State.refill_ok

theorem State.passController_ok {b0 b1} (h0 : Good q b0) : Good q (State.passController b0 b1) := by
  unfold State.passController
  try dsimp only
  repeat' with_reducible first
    | intro _ | assumption | apply State.setCluster_ok | apply (State.writeThrough_ok (q := q))
    | apply State.modCluster_ok | apply (State.cluster_ok (q := q)) | apply Cluster.invalidate_ok
    | apply Good.ite | apply (State.cluster_ok (q := q))

theorem State.injectLocal_ok {b0 b1 b2} (h0 : Good q b0) : Good q (State.injectLocal b0 b1 b2) := by
  unfold State.injectLocal
  try dsimp only
  repeat' with_reducible first
    | assumption | apply State.setCluster_ok | apply Cluster.bump_ok | apply State.passController_ok
    | apply State.enter_ok | apply (State.cluster_ok (q := q)) | apply Good.ite
    | apply (State.cluster_ok (q := q))

theorem State.injectPort_ok {b0 b1 b2} (h0 : Good q b0) : Good q (State.injectPort b0 b1 b2) := by
  unfold State.injectPort
  try dsimp only
  repeat' first
    | with_reducible first
        | assumption | apply State.modPort_ok | apply State.enter_ok
    | split

theorem State.localAnswer_ok {b0 b1 b2 b3} (h0 : Good q b0) : Good q (State.localAnswer b0 b1 b2 b3) := by
  unfold State.localAnswer
  try dsimp only
  repeat' with_reducible first
    | assumption | apply State.setPacket_ok

theorem State.inject_ok {b0 b1 b2} (h0 : Good q b0) : Good q (State.inject b0 b1 b2) := by
  unfold State.inject
  try dsimp only
  repeat' first
    | with_reducible first
        | intro _ | assumption | apply State.dropPacket_ok | apply State.injectPort_ok
        | apply State.modCluster_ok | apply State.injectBroadcast_ok | apply State.injectLocal_ok
        | apply Cluster.bump_ok | apply State.setPacket_ok | apply State.localAnswer_ok | apply Good.ite
    | fail_if_no_progress with_reducible refine Good.of_eq ?_ rfl rfl rfl rfl

theorem execPacketInject_ok {b0 b1} (h0 : Good q b1) : OutGood q (execPacketInject b0 b1) := by
  unfold execPacketInject
  try dsimp only
  repeat' first
    | with_reducible first
        | assumption | apply State.inject_ok | apply OutGood.next
    | split

theorem State.writePartReset_ok {b0 b1 b2} (h0 : Good q b0) : Good q (State.writePartReset b0 b1 b2).1 := by
  unfold State.writePartReset
  try dsimp only
  repeat' first
    | with_reducible first
        | assumption | apply State.askReset_ok
    | split

theorem execPartitionResetKeep_ok {b0 b1} (h0 : Good q b1) : OutGood q (execPartitionResetKeep b0 b1) := by
  unfold execPartitionResetKeep
  try dsimp only
  repeat' with_reducible first
    | intro _ | assumption | apply State.writePartReset_ok | apply when'_ok | apply onPart_ok

theorem execPartitionResetRemove_ok {b0 b1} (h0 : Good q b1) : OutGood q (execPartitionResetRemove b0 b1) := by
  unfold execPartitionResetRemove
  try dsimp only
  repeat' with_reducible first
    | intro _ | assumption | apply State.writePartReset_ok | apply when'_ok | apply onPart_ok

theorem State.resetPlane_ok {b0 b1} (h0 : Good q b0) : Good q (State.resetPlane b0 b1) := by
  unfold State.resetPlane
  dsimp only
  refine Good.cores_map (State.modClusters_ok (State.resetCores_ok h0) fun x hx => Cluster.clearPlane_ok hx) fun p hp => ?_
  split <;> exact hp

theorem State.resetKeep_ok {b0 b1} (h0 : Good q b0) : Good q (State.resetKeep b0 b1) := by
  unfold State.resetKeep
  try dsimp only
  repeat' first
    | with_reducible first
        | assumption | apply State.resetPlane_ok | apply State.install_ok | apply State.modPart_ok
    | split

theorem State.resetOver_ok {b0 b1} (h0 : Good q b0) : Good q (State.resetOver b0 b1) := by
  unfold State.resetOver
  try dsimp only
  repeat' first
    | with_reducible first
        | assumption | apply State.setNum_ok | apply State.modPart_ok | apply Good.ite
    | fail_if_no_progress with_reducible refine Good.of_eq ?_ rfl rfl rfl rfl

theorem State.placeMark_ok {b0 b1 b2 b3} (h0 : Good q b0) : Good q (State.placeMark b0 b1 b2 b3) := by
  unfold State.placeMark
  try dsimp only
  repeat' first
    | with_reducible first
        | assumption | apply State.modPart_ok
    | fail_if_no_progress with_reducible refine Good.of_eq ?_ rfl rfl rfl rfl

theorem State.endWindow_ok {b0 b1 b2} (h0 : Good q b0) : Good q (State.endWindow b0 b1 b2) := by
  unfold State.endWindow
  try dsimp only
  repeat' first
    | with_reducible first
        | assumption | apply State.placeMark_ok
    | split

theorem State.holdPart_ok {b0 b1} (h0 : Good q b0) : Good q (State.holdPart b0 b1) := by
  unfold State.holdPart
  try dsimp only
  repeat' with_reducible first
    | intro _ | assumption | apply State.modPort_ok | apply State.sendReport_ok | apply Good.ite
    | apply Good.foldl

theorem State.removeGraph_ok {b0 b1} (h0 : Good q b0) : Good q (State.removeGraph b0 b1) := by
  unfold State.removeGraph
  try dsimp only
  repeat' with_reducible first
    | assumption | apply State.setNum_ok | apply State.modPart_ok

theorem State.resetRemove_ok {b0 b1} (h0 : Good q b0) : Good q (State.resetRemove b0 b1) := by
  unfold State.resetRemove
  try dsimp only
  repeat' with_reducible first
    | assumption | apply State.resetPlane_ok | apply State.holdPart_ok | apply State.endWindow_ok
    | apply State.removeGraph_ok

theorem State.voidAdmission_ok {b0 b1} (h0 : Good q b0) : Good q (State.voidAdmission b0 b1) := by
  unfold State.voidAdmission
  try dsimp only
  repeat' first
    | with_reducible first
        | intro _ | assumption | apply State.modPort_ok | apply State.applyPath_ok | apply State.modPart_ok
        | apply State.freeClosed_ok | apply Good.foldl
    | split

theorem execPartitionResetRun_ok {b0 b1} (h0 : Good q b1) : OutGood q (execPartitionResetRun b0 b1) := by
  unfold execPartitionResetRun
  try dsimp only
  repeat' first
    | with_reducible first
        | intro _ | assumption | apply State.resetRemove_ok | apply State.resetOver_ok
        | apply State.resetKeep_ok | apply onPart_ok | apply State.voidAdmission_ok
    | split

theorem State.closeWindows_ok {b0 b1} (h0 : Good q b0) : Good q (State.closeWindows b0 b1) := by
  unfold State.closeWindows
  try dsimp only
  repeat' with_reducible first
    | intro _ | assumption | apply State.setBlob_ok | apply Good.ite | apply Good.foldl

theorem State.freshPart_ok {b0 b1} (h0 : Good q b0) : Good q (State.freshPart b0 b1) := by
  unfold State.freshPart
  exact Good.of_eq (State.modPart_ok (State.setNum_ok (State.removeGraph_ok h0))) rfl rfl rfl rfl

theorem State.writeSplit_ok {b0 b1} (h0 : Good q b0) : Good q (State.writeSplit b0 b1).1 := by
  unfold State.writeSplit
  try dsimp only
  repeat' first
    | with_reducible first
        | assumption | apply State.closeWindows_ok | apply State.windows_ok | apply State.setNum_ok
        | apply State.freshPart_ok | apply State.resetPlane_ok | apply Good.foldl
    | split

theorem execPartitionSplit_ok {b0 b1} (h0 : Good q b1) : OutGood q (execPartitionSplit b0 b1) := by
  unfold execPartitionSplit
  try dsimp only
  repeat' with_reducible first
    | assumption | apply State.writeSplit_ok | apply OutGood.next

theorem execPendingSessionTimeout_ok {b0 b1} (h0 : Good q b1) : OutGood q (execPendingSessionTimeout b0 b1) := by
  unfold execPendingSessionTimeout
  try dsimp only
  repeat' first
    | with_reducible first
        | assumption | apply State.endSession_ok | apply OutGood.next
    | split

theorem State.endPort_ok {b0 b1 b2 b3 b4 b5} (h0 : Good q b5.1) : Good q (State.endPort b0 b1 b2 b3 b4 b5) := by
  unfold State.endPort
  try dsimp only
  repeat' with_reducible first
    | assumption | apply State.modPort_ok | apply State.applyPath_ok | apply State.sendReport_ok
    | apply State.modPeriod_ok | apply State.freeClosed_ok | apply Good.ite

theorem commitOne_ok {b0 b1 b2 b3 b4} (h0 : Good q b3.1) : Good q (commitOne b0 b1 b2 b3 b4).1 := by
  unfold commitOne
  try dsimp only
  repeat' first
    | with_reducible first
        | assumption | apply State.setEntry_ok | apply State.gaRead_ok | apply State.gaWrite_ok
    | split

theorem execPeriodCommit_ok {b0 b1} (h0 : Good q b1) : OutGood q (execPeriodCommit b0 b1) := by
  unfold execPeriodCommit
  try dsimp only
  repeat' first
    | with_reducible first
        | intro _ | assumption | apply commitOne_ok | apply onPort_ok | apply State.endPort_ok
        | apply Good.foldl1
    | split

theorem dropOne_ok {b0 b1 b2 b3} (h0 : Good q b2.1) : Good q (dropOne b0 b1 b2 b3).1 := by
  unfold dropOne
  try dsimp only
  repeat' first
    | with_reducible first
        | assumption | apply State.setEntry_ok
    | split

theorem execPeriodDrop_ok {b0 b1} (h0 : Good q b1) : OutGood q (execPeriodDrop b0 b1) := by
  unfold execPeriodDrop
  try dsimp only
  repeat' first
    | with_reducible first
        | intro _ | assumption | apply dropOne_ok | apply onPort_ok | apply State.endPort_ok | apply Good.foldl1
    | split

theorem execPeriodStartWrite_ok {b0 b1 b2} (h0 : Good q b2) : OutGood q (execPeriodStartWrite b0 b1 b2) := by
  unfold execPeriodStartWrite
  try dsimp only
  repeat' with_reducible first
    | intro _ | assumption | apply State.writePeriodStart_ok | apply onCluster_ok

theorem execPermitRefill_ok {b0 b1} (h0 : Good q b1) : OutGood q (execPermitRefill b0 b1) := by
  unfold execPermitRefill
  try dsimp only
  repeat' with_reducible first
    | intro _ | assumption | apply onRegion_ok | apply when'_ok | apply State.modRegion_ok

theorem execPlaneHold_ok {b0} (h0 : Good q b0) : OutGood q (execPlaneHold b0) := by
  unfold execPlaneHold
  try dsimp only
  repeat' first
    | with_reducible first
        | assumption | apply State.holdWafer_ok | apply State.endBoost_ok | apply State.postMsc_ok
        | apply State.modPower_ok | apply OutGood.next
    | fail_if_no_progress with_reducible refine Good.of_eq ?_ rfl rfl rfl rfl

theorem execPlaneRecovered_ok {b0} (h0 : Good q b0) : OutGood q (execPlaneRecovered b0) := by
  unfold execPlaneRecovered
  try dsimp only
  repeat' with_reducible first
    | assumption | apply State.warmTrigger_ok | apply when'_ok | apply State.modPower_ok | apply OutGood.next

theorem State.writeRouters_ok {b0 b1 b2 b3} (h0 : Good q b0) : Good q (State.writeRouters b0 b1 b2 b3) := by
  unfold State.writeRouters
  try dsimp only
  repeat' with_reducible first
    | intro _ | assumption | apply State.modCluster_ok | apply State.periodInvalidate_ok | apply Good.foldl

theorem State.startPeriod_ok {b0 b1 b2 b3 b4} (h0 : Good q b0) : Good q (State.startPeriod b0 b1 b2 b3 b4) := by
  unfold State.startPeriod
  try dsimp only
  repeat' with_reducible first
    | intro _ | assumption | apply State.modPort_ok | apply State.setNum_ok | apply State.placeMark_ok
    | apply State.writeRouters_ok | apply State.modPart_ok | apply Good.foldl

theorem execPlannedStart_ok {b0 b1 b2 b3 b4} (h0 : Good q b4) : OutGood q (execPlannedStart b0 b1 b2 b3 b4) := by
  unfold execPlannedStart
  try dsimp only
  repeat' first
    | with_reducible first
        | intro _ | assumption | apply State.startPeriod_ok | apply onPart_ok | apply State.modPart_ok
        | apply State.endWindow_ok | apply State.voidAdmission_ok | apply State.atTime_ok
    | split

theorem State.writePoolBase_ok {b0 b1 b2} (h0 : Good q b0) : Good q (State.writePoolBase b0 b1 b2).1 := by
  unfold State.writePoolBase
  try dsimp only
  repeat' first
    | with_reducible first
        | assumption | apply State.setNum_ok
    | split

theorem execPoolBaseWrite_ok {b0 b1 b2} (h0 : Good q b2) : OutGood q (execPoolBaseWrite b0 b1 b2) := by
  unfold execPoolBaseWrite
  try dsimp only
  repeat' with_reducible first
    | intro _ | assumption | apply onPort_ok | apply State.writePoolBase_ok

theorem State.writePoolEntries_ok {b0 b1 b2} (h0 : Good q b0) : Good q (State.writePoolEntries b0 b1 b2).1 := by
  unfold State.writePoolEntries
  try dsimp only
  repeat' first
    | with_reducible first
        | assumption | apply State.modPort_ok | apply State.setNum_ok
    | split

theorem execPoolEntriesWrite_ok {b0 b1 b2} (h0 : Good q b2) : OutGood q (execPoolEntriesWrite b0 b1 b2) := by
  unfold execPoolEntriesWrite
  try dsimp only
  repeat' with_reducible first
    | intro _ | assumption | apply State.writePoolEntries_ok | apply onPort_ok

theorem execPortDarkRetry_ok {b0 b1} (h0 : Good q b1) : OutGood q (execPortDarkRetry b0 b1) := by
  unfold execPortDarkRetry
  try dsimp only
  repeat' with_reducible first
    | intro _ | assumption | apply State.train_ok | apply when'_ok | apply onPort_ok

theorem State.postPort_ok {b0 b1 b2} (h0 : Good q b0) : Good q (State.postPort b0 b1 b2) := by
  unfold State.postPort
  try dsimp only
  repeat' with_reducible first
    | assumption | apply State.post_ok

theorem execPortDown_ok {b0 b1} (h0 : Good q b1) : OutGood q (execPortDown b0 b1) := by
  unfold execPortDown
  try dsimp only
  repeat' with_reducible first
    | intro _ | assumption | apply State.postPort_ok | apply State.applyPath_ok | apply State.dropPort_ok
    | apply onPort_ok | apply Good.ite

theorem State.writePortMode_ok {b0 b1 b2} (h0 : Good q b0) : Good q (State.writePortMode b0 b1 b2).1 := by
  unfold State.writePortMode
  try dsimp only
  repeat' first
    | with_reducible first
        | assumption | apply State.modPort_ok | apply State.setNum_ok | apply State.train_ok
        | apply State.dropPort_ok
    | split

theorem execPortMode_ok {b0 b1 b2} (h0 : Good q b2) : OutGood q (execPortMode b0 b1 b2) := by
  unfold execPortMode
  try dsimp only
  repeat' with_reducible first
    | intro _ | assumption | apply State.writePortMode_ok | apply onPort_ok

theorem State.writeRetrain_ok {b0 b1 b2} (h0 : Good q b0) : Good q (State.writeRetrain b0 b1 b2).1 := by
  unfold State.writeRetrain
  try dsimp only
  repeat' first
    | with_reducible first
        | assumption | apply State.modPort_ok | apply State.train_ok
    | split

theorem execPortRetrain_ok {b0 b1 b2} (h0 : Good q b2) : OutGood q (execPortRetrain b0 b1 b2) := by
  unfold execPortRetrain
  try dsimp only
  repeat' with_reducible first
    | intro _ | assumption | apply State.writeRetrain_ok | apply onPort_ok

theorem State.countFec_ok {b0 b1 b2} (h0 : Good q b0) : Good q (State.countFec b0 b1 b2) := by
  unfold State.countFec
  try dsimp only
  repeat' with_reducible first
    | assumption | apply State.draw_ok | apply State.setNum_ok | apply State.addNum_ok

theorem execPortRetrainTrigger_ok {b0 b1 b2 b3} (h0 : Good q b3) :
    OutGood q (execPortRetrainTrigger b0 b1 b2 b3) := by
  unfold execPortRetrainTrigger
  try dsimp only
  repeat' with_reducible first
    | intro _ | assumption | apply State.countFec_ok | apply State.train_ok | apply onPort_ok | apply Good.ite

theorem execPortTrainingEnd_ok {b0 b1} (h0 : Good q b1) : OutGood q (execPortTrainingEnd b0 b1) := by
  unfold execPortTrainingEnd
  try dsimp only
  repeat' first
    | with_reducible first
        | intro _ | assumption | apply State.modPort_ok | apply State.pump_ok | apply State.setNum_ok
        | apply State.postPort_ok | apply State.applyPath_ok | apply State.dropPort_ok | apply onPort_ok
        | apply State.freeClosed_ok
    | split

theorem execPortTrainingStart_ok {b0 b1} (h0 : Good q b1) : OutGood q (execPortTrainingStart b0 b1) := by
  unfold execPortTrainingStart
  try dsimp only
  repeat' with_reducible first
    | intro _ | assumption | apply State.train_ok | apply when'_ok | apply onPort_ok

theorem State.submit_ok {b0 b1 b2 b3 b4} (h0 : Good q b0) : Good q (State.submit b0 b1 b2 b3 b4).1 := by
  unfold State.submit
  try dsimp only
  repeat' first
    | with_reducible first
        | assumption | apply State.putEntry_ok | apply State.gaWrite_ok
    | split

theorem execPromptSubmission_ok {b0 b1 b2} (h0 : Good q b2) : OutGood q (execPromptSubmission b0 b1 b2) := by
  unfold execPromptSubmission
  try dsimp only
  repeat' with_reducible first
    | intro _ | assumption | apply State.streamRequest_ok | apply State.submit_ok | apply onRecord_ok

theorem execPut_ok {b0 b1 b2 b3 b4 b5 b6} (h0 : Good q b6) : OutGood q (execPut b0 b1 b2 b3 b4 b5 b6) := by
  unfold execPut
  try dsimp only
  repeat' with_reducible first
    | intro _ | assumption | apply runPut_ok1 | apply (runPut_ok2 (q := q)) | apply issueS_ok

theorem execRailCheck_ok {b0 b1 b2} (h0 : Good q b2) : OutGood q (execRailCheck b0 b1 b2) := by
  unfold execRailCheck
  try dsimp only
  repeat' with_reducible first
    | intro _ | assumption | apply State.setNum_ok | apply onRegion_ok | apply State.postRegion_ok
    | apply State.modRegion_ok | apply Good.ite | apply Good.foldl

theorem execRateUpdate_ok {b0 b1 b2} (h0 : Good q b2) : OutGood q (execRateUpdate b0 b1 b2) := by
  unfold execRateUpdate
  try dsimp only
  repeat' with_reducible first
    | intro _ | assumption | apply when'_ok | apply State.modAssoc_ok | apply onPort_ok

theorem State.afterRead_ok {b0 b1 b2 b3} (h0 : Good q b0) : Good q (State.afterRead b0 b1 b2 b3) := by
  unfold State.afterRead
  try dsimp only
  repeat' with_reducible first
    | intro _ | assumption | apply State.modCluster_ok | apply State.setNum_ok | apply Good.ite
    | apply Good.foldl

theorem State.beforeRead_ok {b0 b1 b2 b3} (h0 : Good q b0) : Good q (State.beforeRead b0 b1 b2 b3) := by
  unfold State.beforeRead
  try dsimp only
  repeat' with_reducible first
    | assumption | apply State.draw_ok | apply State.setNum_ok | apply State.addNum_ok | apply Good.ite

theorem State.readObj_ok {b0 b1 b2 b3} (h0 : Good q b0) : Good q (State.readObj b0 b1 b2 b3).1 := by
  unfold State.readObj
  try dsimp only
  repeat' first
    | with_reducible first
        | assumption | apply State.beforeRead_ok | apply State.afterRead_ok
    | split

theorem State.readAll_ok {b0 b1 b2 b3} (h0 : Good q b0) : Good q (State.readAll b0 b1 b2 b3).1 := by
  fun_induction State.readAll b0 b1 b2 b3
  all_goals try dsimp only
  all_goals repeat' with_reducible first
    | apply_assumption | apply State.readObj_ok | apply Good.ite

theorem execRead_ok {b0 b1 b2 b3} (h0 : Good q b3) : OutGood q (execRead b0 b1 b2 b3) := by
  unfold execRead
  try dsimp only
  repeat' with_reducible first
    | intro _ | assumption | apply State.answer_ok | apply State.readAll_ok | apply State.hdpRequest_ok
    | apply OutGood.next

theorem State.windowRequest_ok {b0 b1} (h0 : Good q b0) : Good q (State.windowRequest b0 b1) := by
  unfold State.windowRequest
  try dsimp only
  repeat' with_reducible first
    | assumption | apply State.modPort_ok | apply State.respond_ok | apply State.sendMsg_ok | apply Good.ite

theorem State.serveRead_ok {b0 b1} (h0 : Good q b0) : Good q (State.serveRead b0 b1) := by
  unfold State.serveRead
  try dsimp only
  repeat' first
    | with_reducible first
        | assumption | apply Core.load_ok | apply State.setCluster_ok | apply (State.core_ok (q := q))
        | apply Cluster.scratchRead_ok | apply State.windowRequest_ok | apply Core.raise_ok
        | apply State.dramRead_ok | apply State.setCore_ok | apply State.respond_ok
        | apply (State.cluster_ok (q := q)) | apply State.channelDown_ok | apply (State.core_ok (q := q))
        | apply (State.cluster_ok (q := q))
    | split

theorem execReadRequest_ok {b0 b1} (h0 : Good q b1) : OutGood q (execReadRequest b0 b1) := by
  unfold execReadRequest
  try dsimp only
  repeat' with_reducible first
    | intro _ | assumption | apply State.serve_ok | apply deliver_ok | apply State.serveRead_ok

theorem execReadResponse_ok {b0 b1} (h0 : Good q b1) : OutGood q (execReadResponse b0 b1) := by
  unfold execReadResponse
  try dsimp only
  repeat' with_reducible first
    | assumption | apply State.takeResponse_ok | apply deliver_ok

theorem execRecoveryEnd_ok {b0} (h0 : Good q b0) : OutGood q (execRecoveryEnd b0) := by
  unfold execRecoveryEnd
  try dsimp only
  repeat' with_reducible first
    | assumption | apply State.setNum_ok | apply when'_ok | apply OutGood.next

theorem execReferenceRelock_ok {b0 b1} (h0 : Good q b1) : OutGood q (execReferenceRelock b0 b1) := by
  unfold execReferenceRelock
  try dsimp only
  repeat' with_reducible first
    | assumption | apply State.setNum_ok | apply State.train_ok | apply State.markSource_ok
    | apply State.useSource_ok | apply Good.ite | apply Good.foldl | apply OutGood.next

theorem execRefreshCommand_ok {b0 b1 b2} (h0 : Good q b2) : OutGood q (execRefreshCommand b0 b1 b2) := by
  unfold execRefreshCommand
  try dsimp only
  repeat' with_reducible first
    | intro _ | assumption | apply State.modChan_ok | apply onChan_ok

theorem execRegionBankSwitchOn_ok {b0 b1} (h0 : Good q b1) : OutGood q (execRegionBankSwitchOn b0 b1) := by
  unfold execRegionBankSwitchOn
  try dsimp only
  repeat' with_reducible first
    | intro _ | assumption | apply State.setNum_ok | apply onRegion_ok | apply State.modRegion_ok
    | apply Good.ite

theorem execRegisterFileParityError_ok {b0 b1 b2} (h0 : Good q b2) :
    OutGood q (execRegisterFileParityError b0 b1 b2) := by
  unfold execRegisterFileParityError
  try dsimp only
  repeat' with_reducible first
    | intro _ | assumption | apply (State.core_ok (q := q)) | apply when'_ok | apply Core.raise_ok
    | apply State.setCore_ok | apply onCore_ok | apply (State.core_ok (q := q))

theorem Core.charge_ok {b0 b1 b2} (h0 : Sparse.wf (b0).store = true) :
    Sparse.wf ((Core.charge b0 b1 b2)).store = true := by
  unfold Core.charge
  try dsimp only
  repeat' with_reducible first
    | assumption | apply Core.bumpCount_ok

theorem Core.answerFetch_ok {b0 b1 b2 b3 b4 b5 b6} (h0 : Sparse.wf (b0).store = true) :
    Sparse.wf ((Core.answerFetch b0 b1 b2 b3 b4 b5 b6)).store = true := by
  unfold Core.answerFetch
  try dsimp only
  repeat' first
    | with_reducible first
        | assumption | apply Core.raise_ok | apply Core.charge_ok
    | split

theorem execRekindleFetchResponse_ok {b0 b1 b2} (h0 : Good q b2) :
    OutGood q (execRekindleFetchResponse b0 b1 b2) := by
  unfold execRekindleFetchResponse
  try dsimp only
  repeat' first
    | with_reducible first
        | intro _ | assumption | apply Core.answerFetch_ok | apply (State.core_ok (q := q))
        | apply State.late_ok | apply State.setCore_ok | apply deliver_ok | apply (State.core_ok (q := q))
    | split

theorem Core.setAcc_ok {b0 b1 b2} (h0 : Sparse.wf (b0).store = true) :
    Sparse.wf ((Core.setAcc b0 b1 b2)).store = true := by
  unfold Core.setAcc
  try dsimp only
  repeat' with_reducible first
    | assumption

theorem Core.mulInto_ok {b0 b1 b2 b3 b4} (h0 : Sparse.wf (b0).store = true) :
    Sparse.wf ((Core.mulInto b0 b1 b2 b3 b4)).store = true := by
  unfold Core.mulInto
  try dsimp only
  repeat' with_reducible first
    | assumption | apply Core.bumpCount_ok | apply Core.setAcc_ok

theorem Core.rekindleDone_ok {b0 b1 b2} (h0 : Sparse.wf (b0).store = true) :
    Sparse.wf ((Core.rekindleDone b0 b1 b2)).store = true := by
  unfold Core.rekindleDone
  try dsimp only
  repeat' first
    | with_reducible first
        | assumption | apply Core.bumpCount_ok | apply Core.mulInto_ok
    | split

theorem execRekindleMultiply_ok {b0 b1 b2} (h0 : Good q b2) : OutGood q (execRekindleMultiply b0 b1 b2) := by
  unfold execRekindleMultiply
  try dsimp only
  repeat' first
    | with_reducible first
        | intro _ | assumption | apply (State.core_ok (q := q)) | apply when'_ok | apply State.setCore_ok
        | apply Core.rekindleDone_ok | apply onCore_ok | apply (State.core_ok (q := q))
    | split

theorem portParts_ok {b0 b1 b2 b3 b4 b5 b6} (h0 : Good q b6) : Good q (portParts b0 b1 b2 b3 b4 b5 b6).1 := by
  fun_induction portParts b0 b1 b2 b3 b4 b5 b6
  all_goals try dsimp only
  all_goals repeat' with_reducible first
    | apply_assumption

theorem State.startPortOp_ok {b0 b1 b2 b3 b4 b5 b6 v} (e : State.startPortOp b0 b1 b2 b3 b4 b5 b6 = some v) (h0 : Good q b0) :
    Good q v := by
  unfold State.startPortOp at e
  dsimp only at e
  split at e <;> cases e
  exact State.modPort_ok (portParts_ok h0)

theorem execRemoteRead_ok {b0 b1 b2} (h0 : Good q b2) : OutGood q (execRemoteRead b0 b1 b2) := by
  refine onReady_ok h0 fun s m v h e => ?_
  refine Good.ite_some e (State.sendNack_ok h) fun e => ?_
  obtain ⟨t, et, rfl⟩ := Option.map_eq_some_iff.1 e
  exact State.finishRead_ok (State.startPortOp_ok et h)

theorem execRemoteReadResponse_ok {b0 b1 b2} (h0 : Good q b2) : OutGood q (execRemoteReadResponse b0 b1 b2) := by
  refine onReady_ok h0 fun s m v h e => ?_
  cases e
  exact State.answerOut_ok h

theorem execRemoteWrite_ok {b0 b1 b2} (h0 : Good q b2) : OutGood q (execRemoteWrite b0 b1 b2) := by
  refine onReady_ok h0 fun s m v h e => ?_
  exact Good.ite_some e (State.sendNack_ok h) fun e => State.startPortOp_ok e h

theorem State.notify_ok {b0 b1 b2} (h0 : Good q b0) : Good q (State.notify b0 b1 b2) := by
  unfold State.notify
  try dsimp only
  repeat' with_reducible first
    | assumption | apply State.addPacket_ok | apply Good.ite

theorem execRemoteWriteComplete_ok {b0 b1 b2} (h0 : Good q b2) : OutGood q (execRemoteWriteComplete b0 b1 b2) := by
  unfold execRemoteWriteComplete
  try dsimp only
  repeat' first
    | with_reducible first
        | intro _ | assumption | apply State.modPort_ok | apply State.notify_ok | apply State.sendAnswer_ok
        | apply onPort_ok
    | split

theorem Core.fetchTimeout_ok {b0 b1} (h0 : Sparse.wf (b0).store = true) :
    Sparse.wf ((Core.fetchTimeout b0 b1)).store = true := by
  unfold Core.fetchTimeout
  try dsimp only
  repeat' with_reducible first
    | assumption

theorem State.giveUp_ok {b0 b1 b2 v} (e : State.giveUp b0 b1 b2 = some v) (h0 : Good q b0) : Good q v := by
  unfold State.giveUp at e
  split at e
  · cases e
    exact State.closeCtl_ok h0
  · split at e
    · obtain ⟨o, -, rfl⟩ := Option.map_eq_some_iff.1 e
      exact State.setCore_ok h0 (Core.sw_ite (Core.fetchTimeout_ok (State.core_ok h0)) (Core.answerPart_ok (State.core_ok h0)))
    · obtain ⟨o, -, rfl⟩ := Option.map_eq_some_iff.1 e
      exact State.finishRead_ok (State.setPort_ok h0)
    · cases e

theorem execRequestTimeout_ok {b0 b1 b2} (h0 : Good q b2) : OutGood q (execRequestTimeout b0 b1 b2) := by
  unfold execRequestTimeout
  try dsimp only
  repeat' first
    | with_reducible first
        | intro _ | assumption | apply State.modCluster_ok | apply Cluster.bump_ok | apply onRequester_ok
        | apply State.giveUp_ok (by assumption)
    | split

theorem execResendTimeout_ok {b0 b1 b2 b3} (h0 : Good q b3) : OutGood q (execResendTimeout b0 b1 b2 b3) := by
  unfold execResendTimeout
  try dsimp only
  repeat' first
    | with_reducible first
        | intro _ | assumption | apply State.sendSeg_ok | apply State.addNum_ok | apply State.modAssoc_ok
        | apply State.assocDown_ok | apply onPort_ok | apply State.atTime_ok
    | split

theorem execReservedInstruction_ok {b0 b1 b2} (h0 : Good q b2) : OutGood q (execReservedInstruction b0 b1 b2) := by
  unfold execReservedInstruction
  try dsimp only
  repeat' with_reducible first
    | intro _ | assumption | apply issue_ok | apply Ran.sw_ite | apply Ran.sw_fault | apply Ran.sw_block

theorem execRestartAckTimeout_ok {b0 b1} (h0 : Good q b1) : OutGood q (execRestartAckTimeout b0 b1) := by
  unfold execRestartAckTimeout
  try dsimp only
  repeat' with_reducible first
    | intro _ | assumption | apply State.draw_ok | apply when'_ok | apply onCore_ok | apply State.coreDead_ok

theorem execRetainCtrlWrite_ok {b0 b1 b2} (h0 : Good q b2) : OutGood q (execRetainCtrlWrite b0 b1 b2) := by
  unfold execRetainCtrlWrite
  try dsimp only
  repeat' with_reducible first
    | intro _ | assumption | apply (State.core_ok (q := q)) | apply Core.writeRetainCtrl_ok | apply when'_ok
    | apply State.setCore_ok | apply onCore_ok | apply (State.core_ok (q := q))

theorem execRetainStallResume_ok {b0 b1} (h0 : Good q b1) : OutGood q (execRetainStallResume b0 b1) := by
  unfold execRetainStallResume
  try dsimp only
  repeat' first
    | with_reducible first
        | intro _ | assumption | apply Ran.finish_ok | apply State.draw_ok | apply (State.core_ok (q := q))
        | apply State.setCore_ok | apply runCvt_ok | apply onCore_ok | apply (State.core_ok (q := q))
    | split

theorem State.serveFetch_ok {b0 b1 b2 b3} (h0 : Good q b0) : Good q (State.serveFetch b0 b1 b2 b3) := by
  unfold State.serveFetch
  try dsimp only
  repeat' first
    | with_reducible first
        | assumption | apply Core.load_ok | apply (State.core_ok (q := q)) | apply Core.raise_ok
        | apply State.setCore_ok | apply State.respond_ok | apply (State.core_ok (q := q))
    | split

theorem execRetainedCopyFetch_ok {b0 b1} (h0 : Good q b1) : OutGood q (execRetainedCopyFetch b0 b1) := by
  unfold execRetainedCopyFetch
  try dsimp only
  repeat' first
    | with_reducible first
        | intro _ | assumption | apply State.serve_ok | apply deliver_ok | apply State.serveFetch_ok
    | split

theorem State.announceMove_ok {b0 b1} (h0 : Good q b0) : Good q (State.announceMove b0 b1) := by
  unfold State.announceMove
  try dsimp only
  repeat' first
    | with_reducible first
        | assumption | apply Good.ite
    | fail_if_no_progress with_reducible refine Good.of_eq ?_ rfl rfl rfl rfl

theorem execRouterFailedInService_ok {b0 b1 b2} (h0 : Good q b2) :
    OutGood q (execRouterFailedInService b0 b1 b2) := by
  unfold execRouterFailedInService
  try dsimp only
  repeat' with_reducible first
    | intro _ | assumption | apply State.loseNode_ok | apply State.draw_ok | apply State.setClusterState_ok
    | apply onCluster_ok | apply State.faultPart_ok | apply State.announceMove_ok | apply State.postField_ok
    | apply State.softFuse_ok | apply State.checkPath_ok | apply Good.ite

theorem Core.startPeriod_ok {b0} (h0 : Sparse.wf (b0).store = true) :
    Sparse.wf ((Core.startPeriod b0)).store = true := by
  unfold Core.startPeriod
  try dsimp only
  repeat' with_reducible first
    | assumption

theorem State.modCores_ok {b0 b1 b2} (h0 : Good q b0)
    (h1 : ∀ k : Core, Sparse.wf k.store = true → Sparse.wf (b2 k).store = true) : Good q (State.modCores b0 b1 b2) := by
  unfold State.modCores
  refine Good.cores_map h0 fun p hp => ?_
  split
  · exact h1 _ hp
  · exact hp

theorem execRouterPeriodStart_ok {b0 b1 b2} (h0 : Good q b2) : OutGood q (execRouterPeriodStart b0 b1 b2) := by
  unfold execRouterPeriodStart
  try dsimp only
  repeat' with_reducible first
    | intro _ | assumption | apply State.setCluster_ok | apply onCluster_ok | apply State.atFabric_ok
    | apply State.modCores_ok | apply Core.startPeriod_ok | apply (State.cluster_ok (q := q)) | apply Good.ite
    | apply (State.cluster_ok (q := q))

end Sys2Proof.Machine
end

