-- ==== Sys2Proof/Laws/Frame6.lean ====
section
/-! SUPPORT. What each operation leaves of the queue and of the canonical form of the memories, one lemma for each, callees
first (part 6 of 6). -/

namespace Sys2Proof.Machine

variable {q : List Instr}

theorem scalarStore_ok {b0 b1 b2 b3 b4} (h0 : Sparse.wf (b4).store = true) : Ran.sw (scalarStore b0 b1 b2 b3 b4) := by
  unfold scalarStore
  try dsimp only
  repeat' first
    | with_reducible first
        | assumption | apply Core.storeBytes_ok | apply Ran.sw_done | apply Ran.sw_fault
        | refine Core.sw_fst (by assumption) ?_
    | split

theorem execSb_ok {b0 b1 b2 b3 b4} (h0 : Good q b4) : OutGood q (execSb b0 b1 b2 b3 b4) := by
  unfold execSb
  try dsimp only
  repeat' with_reducible first
    | assumption | apply scalarStore_ok | apply issue_ok

theorem execScrubRead_ok {b0 b1 b2} (h0 : Good q b2) : OutGood q (execScrubRead b0 b1 b2) := by
  unfold execScrubRead
  try dsimp only
  repeat' first
    | with_reducible first
        | intro _ | assumption | apply State.lineError_ok | apply State.modChan_ok | apply onChan_ok
        | apply State.correct_ok
    | split

theorem execSeed_ok {b0 b1 b2} (h0 : Good q b2) : OutGood q (execSeed b0 b1 b2) := by
  unfold execSeed
  try dsimp only
  repeat' with_reducible first
    | intro _ | assumption | apply issue_ok | apply Ran.sw_ite | apply Ran.sw_done | apply Ran.sw_fault

theorem execSeqCtrlWrite_ok {b0 b1 b2} (h0 : Good q b2) : OutGood q (execSeqCtrlWrite b0 b1 b2) := by
  unfold execSeqCtrlWrite
  try dsimp only
  repeat' with_reducible first
    | intro _ | assumption | apply (State.core_ok (q := q)) | apply when'_ok | apply Core.writeSeqCtrl_ok
    | apply State.setCore_ok | apply onCore_ok | apply (State.core_ok (q := q))

theorem execSessionIdleTimeout_ok {b0 b1} (h0 : Good q b1) : OutGood q (execSessionIdleTimeout b0 b1) := by
  unfold execSessionIdleTimeout
  try dsimp only
  repeat' first
    | with_reducible first
        | assumption | apply State.endSession_ok | apply OutGood.next
    | split

theorem State.writeSessionKill_ok {b0 b1} (h0 : Good q b0) : Good q (State.writeSessionKill b0 b1).1 := by
  unfold State.writeSessionKill
  try dsimp only
  repeat' first
    | with_reducible first
        | assumption | apply State.endSession_ok
    | split

theorem execSessionKill_ok {b0 b1} (h0 : Good q b1) : OutGood q (execSessionKill b0 b1) := by
  unfold execSessionKill
  try dsimp only
  repeat' with_reducible first
    | assumption | apply State.writeSessionKill_ok | apply OutGood.next

theorem execShedAssert_ok {b0} (h0 : Good q b0) : OutGood q (execShedAssert b0) := by
  unfold execShedAssert
  try dsimp only
  repeat' with_reducible first
    | assumption | apply State.setNum_ok | apply State.addNum_ok | apply State.endBoost_ok
    | apply State.modPower_ok | apply Good.ite | apply OutGood.next

theorem execShedRelease_ok {b0} (h0 : Good q b0) : OutGood q (execShedRelease b0) := by
  unfold execShedRelease
  try dsimp only
  repeat' with_reducible first
    | assumption | apply State.setNum_ok | apply OutGood.next

theorem execSll_ok {b0 b1 b2 b3 b4} (h0 : Good q b4) : OutGood q (execSll b0 b1 b2 b3 b4) := by
  unfold execSll
  try dsimp only
  repeat' with_reducible first
    | assumption | apply aluReg_ok | apply issue_ok

theorem execSlli_ok {b0 b1 b2 b3 b4} (h0 : Good q b4) : OutGood q (execSlli b0 b1 b2 b3 b4) := by
  unfold execSlli
  try dsimp only
  repeat' with_reducible first
    | assumption | apply issue_ok | apply aluImm_ok

theorem State.writeSlot_ok {b0 b1} (h0 : Good q b0) : Good q (State.writeSlot b0 b1).1 := by
  unfold State.writeSlot
  try dsimp only
  repeat' first
    | with_reducible first
        | assumption | apply State.setNum_ok
    | fail_if_no_progress with_reducible refine Good.of_eq ?_ rfl rfl rfl rfl | split

theorem execSlotAccept_ok {b0 b1} (h0 : Good q b1) : OutGood q (execSlotAccept b0 b1) := by
  unfold execSlotAccept
  try dsimp only
  repeat' with_reducible first
    | assumption | apply State.writeSlot_ok | apply OutGood.next

theorem Cluster.noteRetry_ok {b0 b1 b2 b3 b4} (h0 : Sparse.wf (b0).cmem = true) :
    Sparse.wf ((Cluster.noteRetry b0 b1 b2 b3 b4)).cmem = true := by
  unfold Cluster.noteRetry
  try dsimp only
  repeat' first
    | with_reducible first
        | assumption | apply Cluster.bump_ok | apply Cluster.setSteer_ok | apply Cluster.postTelem_ok
    | split

theorem State.takeBeat_ok1 {b0 b1 b2 v} (e : State.takeBeat b0 b1 b2 = some (.error v)) (h0 : Good q b0) : Good q v := by
  unfold State.takeBeat at e
  dsimp only at e
  repeat' split at e
  all_goals cases e
  rename_i k1 w y
  exact State.setCore_ok h0 (Core.raise_ok (Core.sw_fst y (Core.readEntry_ok (State.core_ok h0))))

theorem State.takeBeat_ok2 {b0 b1 b2 v} (e : State.takeBeat b0 b1 b2 = some (.ok v)) (h0 : Good q b0) : Good q v.2 := by
  unfold State.takeBeat at e
  dsimp only at e
  repeat' split at e
  all_goals cases e
  · rename_i k1 l y
    have h : Sparse.wf k1.store = true := Core.sw_fst y (Core.readEntry_ok (State.core_ok h0))
    exact State.setCore_ok h0 h
  · exact State.setCluster_ok h0 (Cluster.bump_ok (Cluster.setSteer_ok (State.cluster_ok h0)))

theorem execSlotDeparture_ok {b0 b1 b2 b3} (h0 : Good q b3) : OutGood q (execSlotDeparture b0 b1 b2 b3) := by
  unfold execSlotDeparture
  refine onCluster_ok h0 fun s h => ?_
  dsimp only
  split
  · exact h
  · refine Good.ite h ?_
    split
    · exact h
    · rename_i e
      exact State.takeBeat_ok1 e h
    · rename_i e
      exact State.atFabric_ok (State.depart_ok (State.modCluster_ok (State.takeBeat_ok2 e h) fun x hx =>
        Cluster.close_ok (Cluster.noteRetry_ok hx)))

theorem Cluster.missSlot_ok {b0 b1 b2} (h0 : Sparse.wf (b0).cmem = true) :
    Sparse.wf ((Cluster.missSlot b0 b1 b2)).cmem = true := by
  unfold Cluster.missSlot
  try dsimp only
  repeat' first
    | with_reducible first
        | assumption | apply Cluster.report_ok | apply Cluster.bump_ok | apply Cluster.setSteer_ok
    | split

theorem execSlotMiss_ok {b0 b1 b2 b3} (h0 : Good q b3) : OutGood q (execSlotMiss b0 b1 b2 b3) := by
  unfold execSlotMiss
  try dsimp only
  repeat' first
    | with_reducible first
        | intro _ | assumption | apply State.modCluster_ok | apply onCluster_ok | apply State.atFabric_ok
        | apply Cluster.setSteer_ok | apply Cluster.close_ok | apply Cluster.missSlot_ok
    | split

theorem execSlt_ok {b0 b1 b2 b3 b4} (h0 : Good q b4) : OutGood q (execSlt b0 b1 b2 b3 b4) := by
  unfold execSlt
  try dsimp only
  repeat' with_reducible first
    | assumption | apply aluReg_ok | apply issue_ok

theorem execSlti_ok {b0 b1 b2 b3 b4} (h0 : Good q b4) : OutGood q (execSlti b0 b1 b2 b3 b4) := by
  unfold execSlti
  try dsimp only
  repeat' with_reducible first
    | assumption | apply issue_ok | apply aluImm_ok

theorem execSltiu_ok {b0 b1 b2 b3 b4} (h0 : Good q b4) : OutGood q (execSltiu b0 b1 b2 b3 b4) := by
  unfold execSltiu
  try dsimp only
  repeat' with_reducible first
    | assumption | apply issue_ok | apply aluImm_ok

theorem execSltu_ok {b0 b1 b2 b3 b4} (h0 : Good q b4) : OutGood q (execSltu b0 b1 b2 b3 b4) := by
  unfold execSltu
  try dsimp only
  repeat' with_reducible first
    | assumption | apply aluReg_ok | apply issue_ok

theorem Core.toSmoulder_ok {b0 b1 b2} (h0 : Sparse.wf (b0).store = true) :
    Sparse.wf ((Core.toSmoulder b0 b1 b2)).store = true := by
  unfold Core.toSmoulder
  try dsimp only
  repeat' with_reducible first
    | assumption

theorem State.freePermit_ok {b0 b1} (h0 : Good q b0) : Good q (State.freePermit b0 b1) := by
  unfold State.freePermit
  try dsimp only
  repeat' first
    | with_reducible first
        | assumption | apply Good.ite
    | fail_if_no_progress with_reducible refine Good.of_eq ?_ rfl rfl rfl rfl

theorem execSmoulderEntry_ok {b0 b1 b2} (h0 : Good q b2) : OutGood q (execSmoulderEntry b0 b1 b2) := by
  unfold execSmoulderEntry
  try dsimp only
  repeat' with_reducible first
    | intro _ | assumption | apply (State.core_ok (q := q)) | apply State.freePermit_ok | apply when'_ok
    | apply State.setCore_ok | apply onCore_ok | apply Core.toSmoulder_ok | apply Good.ite
    | apply (State.core_ok (q := q))

theorem execSootAdvance_ok {b0 b1 b2} (h0 : Good q b2) : OutGood q (execSootAdvance b0 b1 b2) := by
  unfold execSootAdvance
  try dsimp only
  repeat' with_reducible first
    | intro _ | assumption | apply State.modCluster_ok | apply onCluster_ok

theorem execSra_ok {b0 b1 b2 b3 b4} (h0 : Good q b4) : OutGood q (execSra b0 b1 b2 b3 b4) := by
  unfold execSra
  try dsimp only
  repeat' with_reducible first
    | assumption | apply aluReg_ok | apply issue_ok

theorem execSrai_ok {b0 b1 b2 b3 b4} (h0 : Good q b4) : OutGood q (execSrai b0 b1 b2 b3 b4) := by
  unfold execSrai
  try dsimp only
  repeat' with_reducible first
    | assumption | apply issue_ok | apply aluImm_ok

theorem execSrl_ok {b0 b1 b2 b3 b4} (h0 : Good q b4) : OutGood q (execSrl b0 b1 b2 b3 b4) := by
  unfold execSrl
  try dsimp only
  repeat' with_reducible first
    | assumption | apply aluReg_ok | apply issue_ok

theorem execSrli_ok {b0 b1 b2 b3 b4} (h0 : Good q b4) : OutGood q (execSrli b0 b1 b2 b3 b4) := by
  unfold execSrli
  try dsimp only
  repeat' with_reducible first
    | assumption | apply issue_ok | apply aluImm_ok

theorem execStg_ok {b0 b1 b2 b3 b4 b5} (h0 : Good q b5) : OutGood q (execStg b0 b1 b2 b3 b4 b5) := by
  unfold execStg
  try dsimp only
  repeat' with_reducible first
    | intro _ | assumption | apply runStg_ok1 | apply (runStg_ok2 (q := q)) | apply issueS_ok

theorem State.startRetrain_ok {b0 b1} (h0 : Good q b0) : Good q (State.startRetrain b0 b1) := by
  unfold State.startRetrain
  try dsimp only
  repeat' with_reducible first
    | intro _ | assumption | apply State.postField_ok | apply State.pushCause_ok | apply State.modCrossing_ok
    | apply State.downLink_ok | apply State.modPart_ok | apply Good.foldl

theorem State.writeStitch_ok {b0 b1 b2} (h0 : Good q b0) : Good q (State.writeStitch b0 b1 b2).1 := by
  unfold State.writeStitch
  try dsimp only
  repeat' first
    | with_reducible first
        | assumption | apply State.startRetrain_ok
    | split

theorem execStitchRetrain_ok {b0 b1 b2} (h0 : Good q b2) : OutGood q (execStitchRetrain b0 b1 b2) := by
  unfold execStitchRetrain
  try dsimp only
  repeat' with_reducible first
    | intro _ | assumption | apply State.writeStitch_ok | apply onField_ok

theorem State.recheck_ok {b0 b1 b2} (h0 : Good q b0) : Good q (State.recheck b0 b1 b2) := by
  unfold State.recheck
  try dsimp only
  repeat' first
    | with_reducible first
        | assumption | apply State.setNum_ok | apply State.recordLoad_ok | apply State.modPart_ok
    | split

theorem State.retrainVoid_ok {b0 b1} (h0 : Good q b0) : Good q (State.retrainVoid b0 b1) := by
  unfold State.retrainVoid
  try dsimp only
  repeat' with_reducible first
    | assumption | apply State.modCrossing_ok

theorem State.raiseLink_ok {b0 b1} (h0 : Good q b0) : Good q (State.raiseLink b0 b1) := by
  unfold State.raiseLink
  try dsimp only
  repeat' with_reducible first
    | assumption | apply State.modNode_ok

theorem State.retrained_ok {b0 b1 b2} (h0 : Good q b0) : Good q (State.retrained b0 b1 b2) := by
  unfold State.retrained
  try dsimp only
  repeat' with_reducible first
    | intro _ | assumption | apply State.modCluster_ok | apply State.raiseLink_ok | apply State.takeTraining_ok
    | apply Cluster.bump_ok | apply State.postField_ok | apply Good.ite

theorem execStitchRetrainComplete_ok {b0 b1 b2 b3 b4} (h0 : Good q b4) :
    OutGood q (execStitchRetrainComplete b0 b1 b2 b3 b4) := by
  unfold execStitchRetrainComplete
  try dsimp only
  repeat' with_reducible first
    | intro _ | assumption | apply State.retrainVoid_ok | apply State.retrained_ok | apply State.recheck_ok
    | apply onField_ok | apply Good.ite | apply Good.foldl

theorem State.noteMargin_ok {b0 b1 b2 b3} (h0 : Good q b0) : Good q (State.noteMargin b0 b1 b2 b3) := by
  unfold State.noteMargin
  try dsimp only
  repeat' with_reducible first
    | intro _ | assumption | apply State.modCluster_ok | apply State.setNum_ok | apply State.modCrossing_ok
    | apply Cluster.postTelem_ok

theorem execStitchRetrainRequest_ok {b0 b1 b2 b3 b4} (h0 : Good q b4) :
    OutGood q (execStitchRetrainRequest b0 b1 b2 b3 b4) := by
  unfold execStitchRetrainRequest
  try dsimp only
  repeat' first
    | with_reducible first
        | intro _ | assumption | apply State.noteMargin_ok | apply State.startRetrain_ok | apply onField_ok
    | split

theorem State.closeStream_ok {b0 b1 b2} (h0 : Good q b0) : Good q (State.closeStream b0 b1 b2) := by
  unfold State.closeStream
  try dsimp only
  repeat' with_reducible first
    | assumption | apply State.setEntry_ok | apply Good.ite

theorem State.writeStreamClose_ok {b0 b1 b2} (h0 : Good q b0) : Good q (State.writeStreamClose b0 b1 b2).1 := by
  unfold State.writeStreamClose
  try dsimp only
  repeat' first
    | with_reducible first
        | assumption | apply State.closeStream_ok | apply State.freeClosed_ok
    | split

theorem execStreamClose_ok {b0 b1 b2} (h0 : Good q b2) : OutGood q (execStreamClose b0 b1 b2) := by
  unfold execStreamClose
  try dsimp only
  repeat' with_reducible first
    | intro _ | assumption | apply State.writeStreamClose_ok | apply onPort_ok

theorem execStreamCloseRequest_ok {b0 b1 b2} (h0 : Good q b2) : OutGood q (execStreamCloseRequest b0 b1 b2) := by
  unfold execStreamCloseRequest
  try dsimp only
  repeat' with_reducible first
    | intro _ | assumption | apply State.streamRequest_ok | apply State.closeStream_ok | apply onRecord_ok
    | apply State.freeClosed_ok

theorem State.popPage_ok {b0 b1} (h0 : Good q b0) : Good q (State.popPage b0 b1).1 := by
  unfold State.popPage
  try dsimp only
  repeat' with_reducible first
    | assumption | apply State.modPort_ok | apply State.setNum_ok | apply State.gaRead_ok

theorem State.mapPages_ok {b0 b1 b2 b3} (h0 : Good q b3) : Good q (State.mapPages b0 b1 b2 b3).1 := by
  induction b1 generalizing b2 b3 with
  | zero => exact h0
  | succ n ih =>
    unfold State.mapPages
    split
    · exact h0
    · exact ih (State.gaWrite_ok (State.popPage_ok h0))

theorem State.openStream_ok {b0 b1 b2 b3 b4} (h0 : Good q b0) : Good q (State.openStream b0 b1 b2 b3 b4) := by
  unfold State.openStream
  try dsimp only
  repeat' with_reducible first
    | assumption | apply State.reply_ok | apply State.mapPages_ok | apply State.addNum_ok
    | apply State.putEntry_ok | apply State.gaWrite_ok | apply Good.ite

theorem execStreamOpen_ok {b0 b1 b2} (h0 : Good q b2) : OutGood q (execStreamOpen b0 b1 b2) := by
  unfold execStreamOpen
  try dsimp only
  repeat' with_reducible first
    | intro _ | assumption | apply State.sendNack_ok | apply State.openStream_ok | apply onRecord_ok
    | apply Good.ite

theorem execSub_ok {b0 b1 b2 b3 b4} (h0 : Good q b4) : OutGood q (execSub b0 b1 b2 b3 b4) := by
  unfold execSub
  try dsimp only
  repeat' with_reducible first
    | assumption | apply aluReg_ok | apply issue_ok

theorem State.recheckBanks_ok {b0} (h0 : Good q b0) : Good q (State.recheckBanks b0) := by
  unfold State.recheckBanks
  try dsimp only
  repeat' first
    | with_reducible first
        | assumption
    | fail_if_no_progress with_reducible refine Good.of_eq ?_ rfl rfl rfl rfl

theorem State.writeSvn_ok {b0 b1} (h0 : Good q b0) : Good q (State.writeSvn b0 b1).1 := by
  unfold State.writeSvn
  try dsimp only
  repeat' first
    | with_reducible first
        | assumption | apply State.setNum_ok | apply State.recheckBanks_ok
    | split

theorem execSvnCommit_ok {b0 b1} (h0 : Good q b1) : OutGood q (execSvnCommit b0 b1) := by
  unfold execSvnCommit
  try dsimp only
  repeat' with_reducible first
    | assumption | apply State.writeSvn_ok | apply OutGood.next

theorem execSw_ok {b0 b1 b2 b3 b4} (h0 : Good q b4) : OutGood q (execSw b0 b1 b2 b3 b4) := by
  unfold execSw
  try dsimp only
  repeat' with_reducible first
    | assumption | apply scalarStore_ok | apply issue_ok

theorem execSyncSegment_ok {b0 b1 b2 b3} (h0 : Good q b3) : OutGood q (execSyncSegment b0 b1 b2 b3) := by
  unfold execSyncSegment
  try dsimp only
  repeat' with_reducible first
    | intro _ | assumption | apply State.tryUp_ok | apply onSegment_ok | apply State.sendAck_ok
    | apply State.modAssoc_ok | apply State.assocDown_ok | apply Good.ite

theorem execSyncSend_ok {b0 b1 b2 b3} (h0 : Good q b3) : OutGood q (execSyncSend b0 b1 b2 b3) := by
  unfold execSyncSend
  try dsimp only
  repeat' with_reducible first
    | intro _ | assumption | apply State.modAssoc_ok | apply State.emitHwt_ok | apply onPort_ok | apply Good.ite

theorem execTelemAdvance_ok {b0 b1 b2} (h0 : Good q b2) : OutGood q (execTelemAdvance b0 b1 b2) := by
  unfold execTelemAdvance
  try dsimp only
  repeat' with_reducible first
    | intro _ | assumption | apply State.modCluster_ok | apply onCluster_ok

theorem State.readHeat_ok {b0 b1 b2 b3 b4} (h0 : Good q b0) : Good q (State.readHeat b0 b1 b2 b3 b4) := by
  unfold State.readHeat
  try dsimp only
  repeat' with_reducible first
    | intro _ | assumption | apply State.setBlob_ok | apply State.setNum_ok | apply State.endBoost_ok
    | apply State.postRegion_ok | apply State.modRegion_ok | apply State.modPower_ok | apply Good.ite
    | apply Good.foldl

theorem execThermalSample_ok {b0 b1 b2 b3 b4} (h0 : Good q b4) : OutGood q (execThermalSample b0 b1 b2 b3 b4) := by
  unfold execThermalSample
  try dsimp only
  repeat' with_reducible first
    | intro _ | assumption | apply onRegion_ok | apply State.openFuse_ok | apply State.readHeat_ok
    | apply Good.ite

theorem Core.setPair_ok {b0 b1 b2} (h0 : Sparse.wf (b0).store = true) :
    Sparse.wf ((Core.setPair b0 b1 b2)).store = true := by
  unfold Core.setPair
  try dsimp only
  repeat' with_reducible first
    | assumption | apply Core.setS_ok

theorem execTime_ok {b0 b1 b2} (h0 : Good q b2) : OutGood q (execTime b0 b1 b2) := by
  unfold execTime
  try dsimp only
  repeat' with_reducible first
    | intro _ | assumption | apply issue_ok | apply Core.setPair_ok | apply Ran.sw_ite | apply Ran.sw_done
    | apply Ran.sw_fault

theorem runTld_ok {b0 b1 b2 b3 b4} (h0 : Sparse.wf (b4).store = true) : Ran.sw (runTld b0 b1 b2 b3 b4) := by
  unfold runTld
  try dsimp only
  repeat' first
    | with_reducible first
        | assumption | apply Core.load_ok | apply Core.setTile_ok | apply Ran.sw_done | apply Ran.sw_fault
        | apply Ran.sw_block | refine Core.sw_fst (by assumption) ?_
    | split

theorem execTld_ok {b0 b1 b2 b3 b4 b5} (h0 : Good q b5) : OutGood q (execTld b0 b1 b2 b3 b4 b5) := by
  unfold execTld
  try dsimp only
  repeat' with_reducible first
    | assumption | apply issue_ok | apply runTld_ok

theorem loadBlocks_ok {b0 b1 b2} (h0 : Sparse.wf (b2).store = true) :
    Sparse.wf ((loadBlocks b0 b1 b2).1).store = true := by
  fun_induction loadBlocks b0 b1 b2
  all_goals try dsimp only
  all_goals repeat' with_reducible first
    | apply_assumption | apply Core.load_ok | refine Core.sw_fst (by assumption) ?_

theorem runTldl_ok {b0 b1 b2 b3 b4 b5} (h0 : Sparse.wf (b5).store = true) : Ran.sw (runTldl b0 b1 b2 b3 b4 b5) := by
  unfold runTldl
  try dsimp only
  repeat' first
    | with_reducible first
        | assumption | apply loadBlocks_ok | apply Core.setTile_ok | apply Ran.sw_done | apply Ran.sw_fault
        | apply Ran.sw_block | refine Core.sw_fst (by assumption) ?_
    | split

theorem execTldl_ok {b0 b1 b2 b3 b4 b5 b6} (h0 : Good q b6) : OutGood q (execTldl b0 b1 b2 b3 b4 b5 b6) := by
  unfold execTldl
  try dsimp only
  repeat' with_reducible first
    | assumption | apply runTldl_ok | apply issue_ok

theorem Cluster.postSoot_ok {b0 b1} (h0 : Sparse.wf (b0).cmem = true) :
    Sparse.wf ((Cluster.postSoot b0 b1)).cmem = true := by
  unfold Cluster.postSoot
  try dsimp only
  repeat' first
    | with_reducible first
        | assumption | apply Cluster.bump_ok
    | split

theorem Core.countOutcome_ok {b0 b1 b2} (h0 : Sparse.wf (b0).store = true) :
    Sparse.wf ((Core.countOutcome b0 b1 b2)).store = true := by
  unfold Core.countOutcome
  try dsimp only
  repeat' first
    | with_reducible first
        | assumption | apply Core.bumpCount_ok
    | split

theorem sendFetch_ok1 {b0 b1 b2 b3 b4} (h0 : Good q b3) (h1 : Sparse.wf (b4).store = true) :
    Good q (sendFetch b0 b1 b2 b3 b4).1 := by
  unfold sendFetch
  try dsimp only
  repeat' first
    | with_reducible first
        | assumption | apply State.addPacket_ok
    | split

theorem sendFetch_ok2 {b0 b1 b2 b3 b4} (h0 : Good q b3) (h1 : Sparse.wf (b4).store = true) :
    Sparse.wf ((sendFetch b0 b1 b2 b3 b4).2).store = true := by
  unfold sendFetch
  try dsimp only
  repeat' first
    | with_reducible first
        | assumption | apply Core.addOp_ok
    | split

theorem runTmul_ok1 {b0 b1 b2 b3 b4 b5 b6 b7} (h0 : Good q b6) (h1 : Sparse.wf (b7).store = true) :
    Good q (runTmul b0 b1 b2 b3 b4 b5 b6 b7).1 := by
  unfold runTmul
  try dsimp only
  repeat' first
    | with_reducible first
        | intro _ | assumption | apply Core.bumpCount_ok | apply State.modCluster_ok | apply sendFetch_ok1
        | apply (sendFetch_ok2 (q := q)) | apply Cluster.postSoot_ok | apply Core.countOutcome_ok
        | apply Core.charge_ok
    | split

theorem runTmul_ok2 {b0 b1 b2 b3 b4 b5 b6 b7} (h0 : Good q b6) (h1 : Sparse.wf (b7).store = true) :
    Ran.sw (runTmul b0 b1 b2 b3 b4 b5 b6 b7).2 := by
  unfold runTmul
  try dsimp only
  repeat' first
    | with_reducible first
        | intro _ | assumption | apply Core.bumpCount_ok | apply State.modCluster_ok | apply Core.mulInto_ok
        | apply sendFetch_ok1 | apply (sendFetch_ok2 (q := q)) | apply Cluster.postSoot_ok
        | apply Core.countOutcome_ok | apply Core.charge_ok | apply Ran.sw_done | apply Ran.sw_fault
        | apply Ran.sw_block
    | split

theorem execTmul_ok {b0 b1 b2 b3 b4 b5 b6} (h0 : Good q b6) : OutGood q (execTmul b0 b1 b2 b3 b4 b5 b6) := by
  unfold execTmul
  try dsimp only
  repeat' with_reducible first
    | intro _ | assumption | apply runTmul_ok1 | apply (runTmul_ok2 (q := q)) | apply issueS_ok

theorem execTpop_ok {b0 b1 b2 b3} (h0 : Good q b3) : OutGood q (execTpop b0 b1 b2 b3) := by
  unfold execTpop
  try dsimp only
  repeat' with_reducible first
    | intro _ | assumption | apply runTpopS_ok1 | apply (runTpopS_ok2 (q := q)) | apply issueS_ok

theorem execTpush_ok {b0 b1 b2 b3} (h0 : Good q b3) : OutGood q (execTpush b0 b1 b2 b3) := by
  unfold execTpush
  try dsimp only
  repeat' with_reducible first
    | assumption | apply issue_ok | apply runTpush_ok

theorem State.discover_ok {b0 b1 b2 b3 b4} (h0 : Good q b0) : Good q (State.discover b0 b1 b2 b3 b4) := by
  unfold State.discover
  try dsimp only
  repeat' first
    | with_reducible first
        | assumption | apply State.keepTrain_ok
    | split

theorem State.equalise_ok {b0 b1 b2 b3 b4} (h0 : Good q b0) : Good q (State.equalise b0 b1 b2 b3 b4) := by
  unfold State.equalise
  try dsimp only
  repeat' with_reducible first
    | assumption | apply State.draw_ok | apply State.keepTrain_ok

theorem State.trainFrame_ok {b0 b1 b2 b3 b4} (h0 : Good q b0) : Good q (State.trainFrame b0 b1 b2 b3 b4) := by
  unfold State.trainFrame
  try dsimp only
  repeat' first
    | with_reducible first
        | assumption | apply State.equalise_ok | apply State.keepTrain_ok | apply State.discover_ok
    | split

theorem execTrainingFrame_ok {b0 b1 b2 b3} (h0 : Good q b3) : OutGood q (execTrainingFrame b0 b1 b2 b3) := by
  unfold execTrainingFrame
  try dsimp only
  repeat' first
    | with_reducible first
        | intro _ | assumption | apply State.trainFrame_ok | apply when'_ok | apply onPort_ok
    | split

theorem execTrainingPhaseTimeout_ok {b0 b1 b2 b3} (h0 : Good q b3) :
    OutGood q (execTrainingPhaseTimeout b0 b1 b2 b3) := by
  unfold execTrainingPhaseTimeout
  try dsimp only
  repeat' first
    | with_reducible first
        | intro _ | assumption | apply State.setNum_ok | apply State.keepTrain_ok | apply onPort_ok
    | split

theorem execTrap_ok {b0 b1 b2} (h0 : Good q b2) : OutGood q (execTrap b0 b1 b2) := by
  unfold execTrap
  try dsimp only
  repeat' with_reducible first
    | intro _ | assumption | apply issue_ok | apply Ran.sw_fault

theorem runTst_ok {b0 b1 b2 b3 b4} (h0 : Sparse.wf (b4).store = true) : Ran.sw (runTst b0 b1 b2 b3 b4) := by
  unfold runTst
  try dsimp only
  repeat' first
    | with_reducible first
        | assumption | apply Core.storeBytes_ok | apply Ran.sw_done | apply Ran.sw_fault
        | refine Core.sw_fst (by assumption) ?_
    | split

theorem execTst_ok {b0 b1 b2 b3 b4 b5} (h0 : Good q b5) : OutGood q (execTst b0 b1 b2 b3 b4 b5) := by
  unfold execTst
  try dsimp only
  repeat' with_reducible first
    | assumption | apply issue_ok | apply runTst_ok

theorem execTstat_ok {b0 b1 b2 b3} (h0 : Good q b3) : OutGood q (execTstat b0 b1 b2 b3) := by
  unfold execTstat
  try dsimp only
  repeat' with_reducible first
    | intro _ | assumption | apply Core.setS_ok | apply issue_ok | apply Ran.sw_done

theorem execTupleArrival_ok {b0 b1 b2 b3} (h0 : Good q b3) : OutGood q (execTupleArrival b0 b1 b2 b3) := by
  unfold execTupleArrival
  try dsimp only
  repeat' with_reducible first
    | assumption | apply arrival_ok

theorem execTupleDeparture_ok {b0 b1 b2 b3} (h0 : Good q b3) : OutGood q (execTupleDeparture b0 b1 b2 b3) := by
  unfold execTupleDeparture
  try dsimp only
  repeat' first
    | with_reducible first
        | intro _ | assumption | apply State.modCluster_ok | apply (State.core_ok (q := q)) | apply onCluster_ok
        | apply State.atFabric_ok | apply State.depart_ok | apply State.setCore_ok | apply Cluster.close_ok
        | apply (State.core_ok (q := q))
    | split

theorem vDest_ok {b0 b1 b2 b3 b4} (h0 : Sparse.wf (b0).store = true) : Ran.sw (vDest b0 b1 b2 b3 b4) := by
  unfold vDest
  try dsimp only
  repeat' first
    | with_reducible first
        | assumption | apply Core.setAcc_ok | apply Core.storeBytes_ok | apply Core.setTile_ok
        | apply Ran.sw_done | apply Ran.sw_fault | refine Core.sw_fst (by assumption) ?_
    | split

theorem vSource_ok {b0 b1 b2} (h0 : Sparse.wf (b0).store = true) : Sparse.wf ((vSource b0 b1 b2).1).store = true := by
  unfold vSource
  try dsimp only
  repeat' first
    | with_reducible first
        | assumption | apply Core.load_ok | apply Core.useAcc_ok | refine Core.sw_fst (by assumption) ?_
    | split

theorem vSources_ok {b0 b1 b2} (h0 : Sparse.wf (b2).store = true) :
    Sparse.wf ((vSources b0 b1 b2).1).store = true := by
  fun_induction vSources b0 b1 b2
  all_goals try dsimp only
  all_goals repeat' with_reducible first
    | apply_assumption | apply vSource_ok | refine Core.sw_fst (by assumption) ?_

theorem runVec_ok {b0 b1 b2 b3} (h0 : Sparse.wf (b3).store = true) : Ran.sw (runVec b0 b1 b2 b3) := by
  unfold runVec
  try dsimp only
  repeat' first
    | with_reducible first
        | assumption | apply vSources_ok | apply vDest_ok | apply Ran.sw_fault | apply Ran.sw_block
        | refine Core.sw_fst (by assumption) ?_
    | split

theorem execVabs_ok {b0 b1 b2 b3 b4 b5} (h0 : Good q b5) : OutGood q (execVabs b0 b1 b2 b3 b4 b5) := by
  unfold execVabs
  try dsimp only
  repeat' with_reducible first
    | assumption | apply issue_ok | apply runVec_ok

theorem execVadd_ok {b0 b1 b2 b3 b4 b5 b6} (h0 : Good q b6) : OutGood q (execVadd b0 b1 b2 b3 b4 b5 b6) := by
  unfold execVadd
  try dsimp only
  repeat' with_reducible first
    | assumption | apply issue_ok | apply runVec_ok

theorem execVcmpeq_ok {b0 b1 b2 b3 b4 b5 b6} (h0 : Good q b6) : OutGood q (execVcmpeq b0 b1 b2 b3 b4 b5 b6) := by
  unfold execVcmpeq
  try dsimp only
  repeat' with_reducible first
    | assumption | apply issue_ok | apply runVec_ok

theorem execVcmple_ok {b0 b1 b2 b3 b4 b5 b6} (h0 : Good q b6) : OutGood q (execVcmple b0 b1 b2 b3 b4 b5 b6) := by
  unfold execVcmple
  try dsimp only
  repeat' with_reducible first
    | assumption | apply issue_ok | apply runVec_ok

theorem execVcmplt_ok {b0 b1 b2 b3 b4 b5 b6} (h0 : Good q b6) : OutGood q (execVcmplt b0 b1 b2 b3 b4 b5 b6) := by
  unfold execVcmplt
  try dsimp only
  repeat' with_reducible first
    | assumption | apply issue_ok | apply runVec_ok

theorem issueFree_ok {b0 b1 b2 b3 b4} (h0 : Good q b3)
    (h1 : (∀ a1 a2, Sparse.wf (a2).store = true → Ran.sw (b4 a1 a2))) :
    OutGood q (issueFree b0 b1 b2 b3 b4) := by
  unfold issueFree
  try dsimp only
  repeat' first
    | with_reducible first
        | intro _ | assumption | apply h1 | apply issueS_ok
    | fail_if_no_progress with_reducible refine Good.of_eq ?_ rfl rfl rfl rfl

theorem execVexp2_ok {b0 b1 b2 b3 b4 b5} (h0 : Good q b5) : OutGood q (execVexp2 b0 b1 b2 b3 b4 b5) := by
  unfold execVexp2
  try dsimp only
  repeat' with_reducible first
    | intro _ | assumption | apply issueFree_ok | apply runVec_ok

theorem execVfma_ok {b0 b1 b2 b3 b4 b5 b6 b7} (h0 : Good q b7) : OutGood q (execVfma b0 b1 b2 b3 b4 b5 b6 b7) := by
  unfold execVfma
  try dsimp only
  repeat' with_reducible first
    | assumption | apply issue_ok | apply runVec_ok

theorem execViotc_ok {b0 b1 b2 b3 b4} (h0 : Good q b4) : OutGood q (execViotc b0 b1 b2 b3 b4) := by
  unfold execViotc
  try dsimp only
  repeat' with_reducible first
    | assumption | apply issue_ok | apply runVec_ok

theorem execViotr_ok {b0 b1 b2 b3 b4} (h0 : Good q b4) : OutGood q (execViotr b0 b1 b2 b3 b4) := by
  unfold execViotr
  try dsimp only
  repeat' with_reducible first
    | assumption | apply issue_ok | apply runVec_ok

theorem execVlog2_ok {b0 b1 b2 b3 b4 b5} (h0 : Good q b5) : OutGood q (execVlog2 b0 b1 b2 b3 b4 b5) := by
  unfold execVlog2
  try dsimp only
  repeat' with_reducible first
    | intro _ | assumption | apply issueFree_ok | apply runVec_ok

theorem execVmax_ok {b0 b1 b2 b3 b4 b5 b6} (h0 : Good q b6) : OutGood q (execVmax b0 b1 b2 b3 b4 b5 b6) := by
  unfold execVmax
  try dsimp only
  repeat' with_reducible first
    | assumption | apply issue_ok | apply runVec_ok

theorem execVmin_ok {b0 b1 b2 b3 b4 b5 b6} (h0 : Good q b6) : OutGood q (execVmin b0 b1 b2 b3 b4 b5 b6) := by
  unfold execVmin
  try dsimp only
  repeat' with_reducible first
    | assumption | apply issue_ok | apply runVec_ok

theorem execVmov_ok {b0 b1 b2 b3 b4 b5} (h0 : Good q b5) : OutGood q (execVmov b0 b1 b2 b3 b4 b5) := by
  unfold execVmov
  try dsimp only
  repeat' with_reducible first
    | assumption | apply issue_ok | apply runVec_ok

theorem execVmul_ok {b0 b1 b2 b3 b4 b5 b6} (h0 : Good q b6) : OutGood q (execVmul b0 b1 b2 b3 b4 b5 b6) := by
  unfold execVmul
  try dsimp only
  repeat' with_reducible first
    | assumption | apply issue_ok | apply runVec_ok

theorem execVneg_ok {b0 b1 b2 b3 b4 b5} (h0 : Good q b5) : OutGood q (execVneg b0 b1 b2 b3 b4 b5) := by
  unfold execVneg
  try dsimp only
  repeat' with_reducible first
    | assumption | apply issue_ok | apply runVec_ok

theorem execVrecip_ok {b0 b1 b2 b3 b4 b5} (h0 : Good q b5) : OutGood q (execVrecip b0 b1 b2 b3 b4 b5) := by
  unfold execVrecip
  try dsimp only
  repeat' with_reducible first
    | intro _ | assumption | apply issueFree_ok | apply runVec_ok

theorem execVrmax_ok {b0 b1 b2 b3 b4 b5} (h0 : Good q b5) : OutGood q (execVrmax b0 b1 b2 b3 b4 b5) := by
  unfold execVrmax
  try dsimp only
  repeat' with_reducible first
    | assumption | apply issue_ok | apply runVec_ok

theorem execVrsqrt_ok {b0 b1 b2 b3 b4 b5} (h0 : Good q b5) : OutGood q (execVrsqrt b0 b1 b2 b3 b4 b5) := by
  unfold execVrsqrt
  try dsimp only
  repeat' with_reducible first
    | intro _ | assumption | apply issueFree_ok | apply runVec_ok

theorem execVrsum_ok {b0 b1 b2 b3 b4 b5} (h0 : Good q b5) : OutGood q (execVrsum b0 b1 b2 b3 b4 b5) := by
  unfold execVrsum
  try dsimp only
  repeat' with_reducible first
    | assumption | apply issue_ok | apply runVec_ok

theorem execVsel_ok {b0 b1 b2 b3 b4 b5 b6 b7} (h0 : Good q b7) : OutGood q (execVsel b0 b1 b2 b3 b4 b5 b6 b7) := by
  unfold execVsel
  try dsimp only
  repeat' with_reducible first
    | assumption | apply issue_ok | apply runVec_ok

theorem execVsub_ok {b0 b1 b2 b3 b4 b5 b6} (h0 : Good q b6) : OutGood q (execVsub b0 b1 b2 b3 b4 b5 b6) := by
  unfold execVsub
  try dsimp only
  repeat' with_reducible first
    | assumption | apply issue_ok | apply runVec_ok

theorem execVtrans_ok {b0 b1 b2 b3} (h0 : Good q b3) : OutGood q (execVtrans b0 b1 b2 b3) := by
  unfold execVtrans
  try dsimp only
  repeat' with_reducible first
    | assumption | apply issue_ok | apply runVec_ok

theorem execWearStore_ok {b0} (h0 : Good q b0) : OutGood q (execWearStore b0) := by
  unfold execWearStore
  try dsimp only
  repeat' with_reducible first
    | assumption | apply State.storeWear_ok | apply OutGood.next

theorem execWearTick_ok {b0 b1 b2 b3} (h0 : Good q b3) : OutGood q (execWearTick b0 b1 b2 b3) := by
  unfold execWearTick
  try dsimp only
  repeat' with_reducible first
    | intro _ | assumption | apply State.setNum_ok | apply onRegion_ok | apply State.modRegion_ok
    | apply Good.ite

theorem State.writeWindow_ok {b0 b1 b2 b3} (h0 : Good q b0) : Good q (State.writeWindow b0 b1 b2 b3).1 := by
  unfold State.writeWindow
  try dsimp only
  repeat' first
    | with_reducible first
        | assumption | apply State.setBlob_ok
    | split

theorem execWindowWrite_ok {b0 b1 b2 b3} (h0 : Good q b3) : OutGood q (execWindowWrite b0 b1 b2 b3) := by
  unfold execWindowWrite
  try dsimp only
  repeat' with_reducible first
    | intro _ | assumption | apply State.writeWindow_ok | apply onPort_ok | apply Good.ite

theorem execWrecv_ok {b0 b1 b2 b3 b4} (h0 : Good q b4) : OutGood q (execWrecv b0 b1 b2 b3 b4) := by
  unfold execWrecv
  try dsimp only
  repeat' with_reducible first
    | assumption | apply issue_ok | apply runWrecv_ok

theorem State.writeBytes_ok {b0 b1 b2 b3} (h0 : Good q b0) : Good q (State.writeBytes b0 b1 b2 b3).1 := by
  unfold State.writeBytes
  try dsimp only
  repeat' first
    | with_reducible first
        | assumption | apply State.setBlob_ok
    | split

theorem State.writeModule_ok {b0 b1 b2 b3 v} (e : State.writeModule b0 b1 b2 b3 = some v) (h0 : Good q b0) :
    Good q v.1 := by
  unfold State.writeModule at e
  split at e <;> cases e
  · exact State.writeSplit_ok h0
  · exact State.writeModuleReset_ok (State.draw_ok h0)
  · exact State.writeConfigSave_ok h0
  · exact State.writeConfigClear_ok h0
  · exact State.writeSessionKill_ok h0
  · exact State.writeSampleMark_ok h0
  · exact State.writeFwOpen_ok h0
  · exact State.writeFwData_ok h0
  · exact State.writeFwCommit_ok (State.draw_ok h0)
  · exact State.writeAvailClear_ok h0
  · exact State.writeSlot_ok h0

theorem State.writeOther_ok {b0 b1 b2 b3 b4 b5 v} (e : State.writeOther b0 b1 b2 b3 b4 b5 = some v) (h0 : Good q b0) :
    Good q v.1 := by
  unfold State.writeOther at e
  split at e <;> cases e
  · exact State.writeLoad_ok h0
  · exact State.writeUnload_ok h0
  · exact State.writeClass0_ok h0
  · exact State.writeClass0_ok h0
  · exact State.writePartReset_ok h0
  · exact State.writeCredKey_ok h0
  · exact State.writeCredRole_ok h0
  · exact State.writeLicence_ok (State.draw_ok h0)
  · exact State.writeLicenceRemove_ok h0
  · exact State.writeSvn_ok h0
  · exact State.writeAttest_ok h0
  · exact State.writeDecommission_ok (State.draw_ok h0)
  · exact State.writeLease_ok h0
  · exact State.writeCoef_ok h0

theorem State.writePlain_ok {b0 b1 b2 b3 b4} (h0 : Good q b0) : Good q (State.writePlain b0 b1 b2 b3 b4).1 := by
  unfold State.writePlain
  try dsimp only
  repeat' first
    | with_reducible first
        | intro _ | assumption | apply State.loseSource_ok | apply State.setNum_ok | apply State.setRouters_ok
        | apply State.applyPath_ok | apply Good.foldl
    | split

theorem State.writePort_ok {b0 b1 b2 b3 b4 v} (e : State.writePort b0 b1 b2 b3 b4 = some v) (h0 : Good q b0) :
    Good q v.1 := by
  unfold State.writePort at e
  split at e
  · cases e; exact State.writeAssoc_ok h0
  split at e
  · cases e; exact State.writeWindow_ok h0
  split at e <;> cases e
  · exact State.writePoolBase_ok h0
  · exact State.writePoolEntries_ok h0
  · exact State.writePortMode_ok h0
  · exact State.writeRetrain_ok h0

theorem State.applyWrite_ok {b0 b1 b2 b3} (h0 : Good q b0) : Good q (State.applyWrite b0 b1 b2 b3).1 := by
  unfold State.applyWrite
  dsimp only
  split
  · rename_i e
    split at e
    · exact State.writeModule_ok e h0
    · cases e; exact State.writeStitch_ok h0
    · cases e; exact State.writeFreqObj_ok h0
    · cases e; exact State.writeClusterReset_ok h0
    · exact State.writePort_ok e h0
    · cases e; exact State.writeStreamClose_ok h0
    · exact State.writeOther_ok e h0
  · split
    · exact State.writePlain_ok h0
    · exact State.writeBytes_ok h0

theorem State.writeObj_ok {b0 b1 b2 b3 b4 b5} (h0 : Good q b0) : Good q (State.writeObj b0 b1 b2 b3 b4 b5).1 := by
  unfold State.writeObj
  try dsimp only
  repeat' first
    | with_reducible first
        | assumption | apply State.applyWrite_ok
    | split

theorem State.writeAll_ok {b0 b1 b2 b3 b4} (h0 : Good q b0) : Good q (State.writeAll b0 b1 b2 b3 b4).1 := by
  fun_induction State.writeAll b0 b1 b2 b3 b4
  all_goals try dsimp only
  all_goals repeat' with_reducible first
    | apply_assumption | apply State.writeObj_ok

theorem execWrite_ok {b0 b1 b2 b3} (h0 : Good q b3) : OutGood q (execWrite b0 b1 b2 b3) := by
  unfold execWrite
  try dsimp only
  repeat' with_reducible first
    | intro _ | assumption | apply State.answer_ok | apply State.hdpRequest_ok | apply State.writeAll_ok
    | apply OutGood.next

theorem execWriteCompletion_ok {b0 b1 b2} (h0 : Good q b2) : OutGood q (execWriteCompletion b0 b1 b2) := by
  refine onReady_ok h0 fun s m v h e => ?_
  cases e
  exact State.answerOut_ok h

theorem State.serveWrite_ok {b0 b1} (h0 : Good q b0) : Good q (State.serveWrite b0 b1) := by
  unfold State.serveWrite
  try dsimp only
  repeat' first
    | with_reducible first
        | assumption | apply State.setCluster_ok | apply Cluster.scratchWrite_ok | apply State.dramWrite_ok
        | apply (State.core_ok (q := q)) | apply Core.storeBytes_ok | apply State.windowRequest_ok
        | apply Core.raise_ok | apply State.setCore_ok | apply State.respond_ok
        | apply (State.cluster_ok (q := q)) | apply State.channelDown_ok | refine Core.sw_fst (by assumption) ?_
        | apply (State.core_ok (q := q)) | apply (State.cluster_ok (q := q))
    | split

theorem execWriteRequest_ok {b0 b1} (h0 : Good q b1) : OutGood q (execWriteRequest b0 b1) := by
  unfold execWriteRequest
  try dsimp only
  repeat' with_reducible first
    | intro _ | assumption | apply State.serve_ok | apply State.serveWrite_ok | apply deliver_ok

theorem execWriteResponse_ok {b0 b1} (h0 : Good q b1) : OutGood q (execWriteResponse b0 b1) := by
  unfold execWriteResponse
  try dsimp only
  repeat' with_reducible first
    | assumption | apply State.takeResponse_ok | apply deliver_ok

theorem execWsend_ok {b0 b1 b2 b3 b4} (h0 : Good q b4) : OutGood q (execWsend b0 b1 b2 b3 b4) := by
  unfold execWsend
  try dsimp only
  repeat' with_reducible first
    | intro _ | assumption | apply runWsendS_ok1 | apply (runWsendS_ok2 (q := q)) | apply issueS_ok

theorem execXor_ok {b0 b1 b2 b3 b4} (h0 : Good q b4) : OutGood q (execXor b0 b1 b2 b3 b4) := by
  unfold execXor
  try dsimp only
  repeat' with_reducible first
    | assumption | apply aluReg_ok | apply issue_ok

theorem execXori_ok {b0 b1 b2 b3 b4} (h0 : Good q b4) : OutGood q (execXori b0 b1 b2 b3 b4) := by
  unfold execXori
  try dsimp only
  repeat' with_reducible first
    | assumption | apply issue_ok | apply aluImm_ok











theorem State.writeRows_ok {b0 b1 b2 b3 b4 b5 b6} (h0 : Good q b0) :
    Good q (State.writeRows b0 b1 b2 b3 b4 b5 b6) := by
  unfold State.writeRows
  try dsimp only
  repeat' with_reducible first
    | intro _ | assumption | apply State.gaRead_ok | apply State.gaWrite_ok | apply Good.foldl

theorem admitOne_s {p no n chunk pt : Nat} {x : AdmitAcc} {e : Nat × StreamEntry} (h : Good q x.s) :
    Good q (admitOne p no n chunk pt x e).s := by
  unfold admitOne
  dsimp only
  repeat' first
    | with_reducible first
        | assumption | apply State.setEntry_ok | apply State.writeRows_ok | apply Good.ite | apply State.addNum_ok
        | apply State.mapPages_ok
    | split
    | dsimp only

theorem admitPort_s {p no chunk pt n row0 : Nat} {x : AdmitAcc} {g : List (Nat × Nat)} (h : Good q x.s) :
    Good q (admitPort p no chunk pt x n row0 g).s := by
  have fold : ∀ (l : List (Nat × StreamEntry)) (y : AdmitAcc), Good q y.s →
      Good q (l.foldl (admitOne p no n chunk pt) y).s := by
    intro l
    induction l with
    | nil => exact fun y hy => hy
    | cons e r ih => exact fun y hy => ih _ (admitOne_s hy)
  exact fold _ _ (State.modPort_ok h)

theorem admitPorts_s {p no chunk pt : Nat} {l : List (Nat × List (Nat × Nat))} {row0 : Nat} {x : AdmitAcc}
    (h : Good q x.s) : Good q (admitPorts p no chunk pt l row0 x).s := by
  induction l generalizing row0 x with
  | nil => exact h
  | cons e r ih => exact ih (admitPort_s h)

theorem execAdmission_ok {b0 b1 b2} (h0 : Good q b2) : OutGood q (execAdmission b0 b1 b2) := by
  unfold execAdmission
  refine onPart_ok h0 fun s h => ?_
  dsimp only
  refine Good.ite (State.modPart_ok (Good.ite (State.addNum_ok (admitPorts_s ?_)) (State.writeBatch_ok (admitPorts_s ?_)))) h <;>
    exact State.atTime_ok h

end Sys2Proof.Machine
end

