-- ==== Sys2Proof/Laws/Issue.lean ====
section
/-! SUPPORT. What the frame of a core's instruction does with an instruction that is fetched. -/

namespace Sys2Proof.Machine

variable {s : State} {c : Nat} {w mask : Word} {k : Core} {i : Instr}

/-- An instruction that stays in its core, fetched and run. -/
theorem issue_fetched (h : Fetched s c w mask k) (f : Core → Ran) :
    issue c i w mask s f =
      .next (match f k with
        | .block => s
        | r => s.setCore c (r.finish k i)) := by
  obtain ⟨hc, hi, hf⟩ := h
  simp only [issue, onCore, hc, hi, hf, if_true]
  all_goals (cases f k <;> rfl)

/-- An instruction that acts outside its core too, fetched and run. -/
theorem issueS_fetched (h : Fetched s c w mask k) (f : State → Core → State × Ran) :
    issueS c i w mask s f =
      .next (match f s k with
        | (_, .block) => s
        | (s', r) => s'.setCore c (r.finish k i)) := by
  obtain ⟨hc, hi, hf⟩ := h
  simp only [issueS, onCore, hc, hi, hf, if_true]
  all_goals (obtain ⟨s', r⟩ := f s k; cases r <;> rfl)

theorem issue_done (h : Fetched s c w mask k) {f : Core → Ran} {k' : Core} (e : f k = .done k') :
    issue c i w mask s f = goesOn s c k k' := by
  rw [issue_fetched h, e]; rfl

theorem issue_jump (h : Fetched s c w mask k) {f : Core → Ran} {k' : Core} {pc : Nat} (e : f k = .jump k' pc) :
    issue c i w mask s f = goesTo s c k' pc := by
  rw [issue_fetched h, e]; rfl

theorem issue_fault (h : Fetched s c w mask k) {f : Core → Ran} {k' : Core} {cause detail : Nat}
    (e : f k = .fault k' cause detail) : issue c i w mask s f = faults s c k' cause detail := by
  rw [issue_fetched h, e]; rfl

theorem issue_wait (h : Fetched s c w mask k) {f : Core → Ran} (e : f k = .wait) :
    issue c i w mask s f = waits s c k i := by
  rw [issue_fetched h, e]; rfl

theorem issueS_done (h : Fetched s c w mask k) {f : State → Core → State × Ran} {s' : State} {k' : Core}
    (e : f s k = (s', .done k')) : issueS c i w mask s f = goesOn s' c k k' := by
  rw [issueS_fetched h, e]; rfl

theorem issueS_fault (h : Fetched s c w mask k) {f : State → Core → State × Ran} {s' : State} {k' : Core}
    {cause detail : Nat} (e : f s k = (s', .fault k' cause detail)) :
    issueS c i w mask s f = faults s' c k' cause detail := by
  rw [issueS_fetched h, e]; rfl

theorem issueS_wait (h : Fetched s c w mask k) {f : State → Core → State × Ran} {s' : State}
    (e : f s k = (s', .wait)) : issueS c i w mask s f = waits s' c k i := by
  rw [issueS_fetched h, e]; rfl

end Sys2Proof.Machine
end

