-- ==== Sys2Proof/Laws/State.lean ====
section
/-! SUPPORT. What each update of the state leaves of each field, and what is read back after it: no later proof unfolds an
update. -/

namespace Sys2Proof.Machine

variable (s : State)

/-! ### setCore -/

@[simp] theorem State.setCore_pending (c : Nat) (k : Core) : (s.setCore c k).pending = s.pending := rfl
@[simp] theorem State.setCore_free (c : Nat) (k : Core) : (s.setCore c k).free = s.free := rfl
@[simp] theorem State.setCore_wt (c : Nat) (k : Core) : (s.setCore c k).wt = s.wt := rfl
@[simp] theorem State.setCore_wtFrac (c : Nat) (k : Core) : (s.setCore c k).wtFrac = s.wtFrac := rfl
@[simp] theorem State.setCore_clusters (c : Nat) (k : Core) : (s.setCore c k).clusters = s.clusters :=
    rfl
@[simp] theorem State.setCore_net (c : Nat) (k : Core) : (s.setCore c k).net = s.net := rfl
@[simp] theorem State.setCore_dram (c : Nat) (k : Core) : (s.setCore c k).dram = s.dram := rfl
@[simp] theorem State.setCore_fields (c : Nat) (k : Core) : (s.setCore c k).fields = s.fields := rfl
@[simp] theorem State.setCore_parts (c : Nat) (k : Core) : (s.setCore c k).parts = s.parts := rfl
@[simp] theorem State.setCore_ports (c : Nat) (k : Core) : (s.setCore c k).ports = s.ports := rfl
@[simp] theorem State.setCore_sent (c : Nat) (k : Core) : (s.setCore c k).sent = s.sent := rfl
@[simp] theorem State.setCore_clocks (c : Nat) (k : Core) : (s.setCore c k).clocks = s.clocks := rfl
@[simp] theorem State.setCore_regions (c : Nat) (k : Core) : (s.setCore c k).regions = s.regions := rfl
@[simp] theorem State.setCore_power (c : Nat) (k : Core) : (s.setCore c k).power = s.power := rfl
@[simp] theorem State.setCore_hdp (c : Nat) (k : Core) : (s.setCore c k).hdp = s.hdp := rfl
@[simp] theorem State.setCore_msc (c : Nat) (k : Core) : (s.setCore c k).msc = s.msc := rfl
@[simp] theorem State.setCore_fabric (c : Nat) (k : Core) : (s.setCore c k).fabric = s.fabric := rfl
@[simp] theorem State.setCore_dict (c : Nat) (k : Core) : (s.setCore c k).dict = s.dict := rfl

/-! ### modCore -/

@[simp] theorem State.modCore_pending (c : Nat) (f : Core → Core) : (s.modCore c f).pending = s.pending :=
    rfl
@[simp] theorem State.modCore_free (c : Nat) (f : Core → Core) : (s.modCore c f).free = s.free := rfl
@[simp] theorem State.modCore_wt (c : Nat) (f : Core → Core) : (s.modCore c f).wt = s.wt := rfl
@[simp] theorem State.modCore_wtFrac (c : Nat) (f : Core → Core) : (s.modCore c f).wtFrac = s.wtFrac := rfl
@[simp] theorem State.modCore_clusters (c : Nat) (f : Core → Core) : (s.modCore c f).clusters = s.clusters :=
    rfl
@[simp] theorem State.modCore_net (c : Nat) (f : Core → Core) : (s.modCore c f).net = s.net := rfl
@[simp] theorem State.modCore_dram (c : Nat) (f : Core → Core) : (s.modCore c f).dram = s.dram := rfl
@[simp] theorem State.modCore_fields (c : Nat) (f : Core → Core) : (s.modCore c f).fields = s.fields :=
    rfl
@[simp] theorem State.modCore_parts (c : Nat) (f : Core → Core) : (s.modCore c f).parts = s.parts := rfl
@[simp] theorem State.modCore_ports (c : Nat) (f : Core → Core) : (s.modCore c f).ports = s.ports := rfl
@[simp] theorem State.modCore_sent (c : Nat) (f : Core → Core) : (s.modCore c f).sent = s.sent := rfl
@[simp] theorem State.modCore_clocks (c : Nat) (f : Core → Core) : (s.modCore c f).clocks = s.clocks :=
    rfl
@[simp] theorem State.modCore_regions (c : Nat) (f : Core → Core) : (s.modCore c f).regions = s.regions :=
    rfl
@[simp] theorem State.modCore_power (c : Nat) (f : Core → Core) : (s.modCore c f).power = s.power := rfl
@[simp] theorem State.modCore_hdp (c : Nat) (f : Core → Core) : (s.modCore c f).hdp = s.hdp := rfl
@[simp] theorem State.modCore_msc (c : Nat) (f : Core → Core) : (s.modCore c f).msc = s.msc := rfl
@[simp] theorem State.modCore_fabric (c : Nat) (f : Core → Core) : (s.modCore c f).fabric = s.fabric :=
    rfl
@[simp] theorem State.modCore_dict (c : Nat) (f : Core → Core) : (s.modCore c f).dict = s.dict := rfl

/-! ### setCluster -/

@[simp] theorem State.setCluster_pending (k : Nat) (x : Cluster) : (s.setCluster k x).pending = s.pending :=
    rfl
@[simp] theorem State.setCluster_free (k : Nat) (x : Cluster) : (s.setCluster k x).free = s.free := rfl
@[simp] theorem State.setCluster_wt (k : Nat) (x : Cluster) : (s.setCluster k x).wt = s.wt := rfl
@[simp] theorem State.setCluster_wtFrac (k : Nat) (x : Cluster) : (s.setCluster k x).wtFrac = s.wtFrac := rfl
@[simp] theorem State.setCluster_cores (k : Nat) (x : Cluster) : (s.setCluster k x).cores = s.cores :=
    rfl
@[simp] theorem State.setCluster_net (k : Nat) (x : Cluster) : (s.setCluster k x).net = s.net := rfl
@[simp] theorem State.setCluster_dram (k : Nat) (x : Cluster) : (s.setCluster k x).dram = s.dram := rfl
@[simp] theorem State.setCluster_fields (k : Nat) (x : Cluster) : (s.setCluster k x).fields = s.fields :=
    rfl
@[simp] theorem State.setCluster_parts (k : Nat) (x : Cluster) : (s.setCluster k x).parts = s.parts :=
    rfl
@[simp] theorem State.setCluster_ports (k : Nat) (x : Cluster) : (s.setCluster k x).ports = s.ports :=
    rfl
@[simp] theorem State.setCluster_sent (k : Nat) (x : Cluster) : (s.setCluster k x).sent = s.sent := rfl
@[simp] theorem State.setCluster_clocks (k : Nat) (x : Cluster) : (s.setCluster k x).clocks = s.clocks :=
    rfl
@[simp] theorem State.setCluster_regions (k : Nat) (x : Cluster) : (s.setCluster k x).regions = s.regions :=
    rfl
@[simp] theorem State.setCluster_power (k : Nat) (x : Cluster) : (s.setCluster k x).power = s.power :=
    rfl
@[simp] theorem State.setCluster_hdp (k : Nat) (x : Cluster) : (s.setCluster k x).hdp = s.hdp := rfl
@[simp] theorem State.setCluster_msc (k : Nat) (x : Cluster) : (s.setCluster k x).msc = s.msc := rfl
@[simp] theorem State.setCluster_fabric (k : Nat) (x : Cluster) : (s.setCluster k x).fabric = s.fabric :=
    rfl
@[simp] theorem State.setCluster_dict (k : Nat) (x : Cluster) : (s.setCluster k x).dict = s.dict := rfl

/-! ### modCluster -/

@[simp] theorem State.modCluster_pending (k : Nat) (f : Cluster → Cluster) : (s.modCluster k f).pending = s.pending :=
    rfl
@[simp] theorem State.modCluster_free (k : Nat) (f : Cluster → Cluster) : (s.modCluster k f).free = s.free :=
    rfl
@[simp] theorem State.modCluster_wt (k : Nat) (f : Cluster → Cluster) : (s.modCluster k f).wt = s.wt :=
    rfl
@[simp] theorem State.modCluster_wtFrac (k : Nat) (f : Cluster → Cluster) : (s.modCluster k f).wtFrac = s.wtFrac :=
    rfl
@[simp] theorem State.modCluster_cores (k : Nat) (f : Cluster → Cluster) : (s.modCluster k f).cores = s.cores :=
    rfl
@[simp] theorem State.modCluster_net (k : Nat) (f : Cluster → Cluster) : (s.modCluster k f).net = s.net :=
    rfl
@[simp] theorem State.modCluster_dram (k : Nat) (f : Cluster → Cluster) : (s.modCluster k f).dram = s.dram :=
    rfl
@[simp] theorem State.modCluster_fields (k : Nat) (f : Cluster → Cluster) : (s.modCluster k f).fields = s.fields :=
    rfl
@[simp] theorem State.modCluster_parts (k : Nat) (f : Cluster → Cluster) : (s.modCluster k f).parts = s.parts :=
    rfl
@[simp] theorem State.modCluster_ports (k : Nat) (f : Cluster → Cluster) : (s.modCluster k f).ports = s.ports :=
    rfl
@[simp] theorem State.modCluster_sent (k : Nat) (f : Cluster → Cluster) : (s.modCluster k f).sent = s.sent :=
    rfl
@[simp] theorem State.modCluster_clocks (k : Nat) (f : Cluster → Cluster) : (s.modCluster k f).clocks = s.clocks :=
    rfl
@[simp] theorem State.modCluster_regions (k : Nat) (f : Cluster → Cluster) : (s.modCluster k f).regions = s.regions :=
    rfl
@[simp] theorem State.modCluster_power (k : Nat) (f : Cluster → Cluster) : (s.modCluster k f).power = s.power :=
    rfl
@[simp] theorem State.modCluster_hdp (k : Nat) (f : Cluster → Cluster) : (s.modCluster k f).hdp = s.hdp :=
    rfl
@[simp] theorem State.modCluster_msc (k : Nat) (f : Cluster → Cluster) : (s.modCluster k f).msc = s.msc :=
    rfl
@[simp] theorem State.modCluster_fabric (k : Nat) (f : Cluster → Cluster) : (s.modCluster k f).fabric = s.fabric :=
    rfl
@[simp] theorem State.modCluster_dict (k : Nat) (f : Cluster → Cluster) : (s.modCluster k f).dict = s.dict :=
    rfl

/-! ### setField -/

@[simp] theorem State.setField_pending (f : Nat) (x : FieldSt) : (s.setField f x).pending = s.pending :=
    rfl
@[simp] theorem State.setField_free (f : Nat) (x : FieldSt) : (s.setField f x).free = s.free := rfl
@[simp] theorem State.setField_wt (f : Nat) (x : FieldSt) : (s.setField f x).wt = s.wt := rfl
@[simp] theorem State.setField_wtFrac (f : Nat) (x : FieldSt) : (s.setField f x).wtFrac = s.wtFrac := rfl
@[simp] theorem State.setField_cores (f : Nat) (x : FieldSt) : (s.setField f x).cores = s.cores := rfl
@[simp] theorem State.setField_clusters (f : Nat) (x : FieldSt) : (s.setField f x).clusters = s.clusters :=
    rfl
@[simp] theorem State.setField_net (f : Nat) (x : FieldSt) : (s.setField f x).net = s.net := rfl
@[simp] theorem State.setField_dram (f : Nat) (x : FieldSt) : (s.setField f x).dram = s.dram := rfl
@[simp] theorem State.setField_parts (f : Nat) (x : FieldSt) : (s.setField f x).parts = s.parts := rfl
@[simp] theorem State.setField_ports (f : Nat) (x : FieldSt) : (s.setField f x).ports = s.ports := rfl
@[simp] theorem State.setField_sent (f : Nat) (x : FieldSt) : (s.setField f x).sent = s.sent := rfl
@[simp] theorem State.setField_clocks (f : Nat) (x : FieldSt) : (s.setField f x).clocks = s.clocks := rfl
@[simp] theorem State.setField_regions (f : Nat) (x : FieldSt) : (s.setField f x).regions = s.regions :=
    rfl
@[simp] theorem State.setField_power (f : Nat) (x : FieldSt) : (s.setField f x).power = s.power := rfl
@[simp] theorem State.setField_hdp (f : Nat) (x : FieldSt) : (s.setField f x).hdp = s.hdp := rfl
@[simp] theorem State.setField_msc (f : Nat) (x : FieldSt) : (s.setField f x).msc = s.msc := rfl
@[simp] theorem State.setField_fabric (f : Nat) (x : FieldSt) : (s.setField f x).fabric = s.fabric := rfl
@[simp] theorem State.setField_dict (f : Nat) (x : FieldSt) : (s.setField f x).dict = s.dict := rfl

/-! ### modField -/

@[simp] theorem State.modField_pending (f : Nat) (g : FieldSt → FieldSt) : (s.modField f g).pending = s.pending :=
    rfl
@[simp] theorem State.modField_free (f : Nat) (g : FieldSt → FieldSt) : (s.modField f g).free = s.free :=
    rfl
@[simp] theorem State.modField_wt (f : Nat) (g : FieldSt → FieldSt) : (s.modField f g).wt = s.wt := rfl
@[simp] theorem State.modField_wtFrac (f : Nat) (g : FieldSt → FieldSt) : (s.modField f g).wtFrac = s.wtFrac :=
  rfl
@[simp] theorem State.modField_cores (f : Nat) (g : FieldSt → FieldSt) : (s.modField f g).cores = s.cores :=
    rfl
@[simp] theorem State.modField_clusters (f : Nat) (g : FieldSt → FieldSt) : (s.modField f g).clusters = s.clusters :=
    rfl
@[simp] theorem State.modField_net (f : Nat) (g : FieldSt → FieldSt) : (s.modField f g).net = s.net :=
    rfl
@[simp] theorem State.modField_dram (f : Nat) (g : FieldSt → FieldSt) : (s.modField f g).dram = s.dram :=
    rfl
@[simp] theorem State.modField_parts (f : Nat) (g : FieldSt → FieldSt) : (s.modField f g).parts = s.parts :=
    rfl
@[simp] theorem State.modField_ports (f : Nat) (g : FieldSt → FieldSt) : (s.modField f g).ports = s.ports :=
    rfl
@[simp] theorem State.modField_sent (f : Nat) (g : FieldSt → FieldSt) : (s.modField f g).sent = s.sent :=
    rfl
@[simp] theorem State.modField_clocks (f : Nat) (g : FieldSt → FieldSt) : (s.modField f g).clocks = s.clocks :=
    rfl
@[simp] theorem State.modField_regions (f : Nat) (g : FieldSt → FieldSt) : (s.modField f g).regions = s.regions :=
    rfl
@[simp] theorem State.modField_power (f : Nat) (g : FieldSt → FieldSt) : (s.modField f g).power = s.power :=
    rfl
@[simp] theorem State.modField_hdp (f : Nat) (g : FieldSt → FieldSt) : (s.modField f g).hdp = s.hdp :=
    rfl
@[simp] theorem State.modField_msc (f : Nat) (g : FieldSt → FieldSt) : (s.modField f g).msc = s.msc :=
    rfl
@[simp] theorem State.modField_fabric (f : Nat) (g : FieldSt → FieldSt) : (s.modField f g).fabric = s.fabric :=
    rfl
@[simp] theorem State.modField_dict (f : Nat) (g : FieldSt → FieldSt) : (s.modField f g).dict = s.dict :=
    rfl

/-! ### setPart -/

@[simp] theorem State.setPart_pending (p : Nat) (x : PartSt) : (s.setPart p x).pending = s.pending := rfl
@[simp] theorem State.setPart_free (p : Nat) (x : PartSt) : (s.setPart p x).free = s.free := rfl
@[simp] theorem State.setPart_wt (p : Nat) (x : PartSt) : (s.setPart p x).wt = s.wt := rfl
@[simp] theorem State.setPart_wtFrac (p : Nat) (x : PartSt) : (s.setPart p x).wtFrac = s.wtFrac := rfl
@[simp] theorem State.setPart_cores (p : Nat) (x : PartSt) : (s.setPart p x).cores = s.cores := rfl
@[simp] theorem State.setPart_clusters (p : Nat) (x : PartSt) : (s.setPart p x).clusters = s.clusters :=
    rfl
@[simp] theorem State.setPart_net (p : Nat) (x : PartSt) : (s.setPart p x).net = s.net := rfl
@[simp] theorem State.setPart_dram (p : Nat) (x : PartSt) : (s.setPart p x).dram = s.dram := rfl
@[simp] theorem State.setPart_fields (p : Nat) (x : PartSt) : (s.setPart p x).fields = s.fields := rfl
@[simp] theorem State.setPart_ports (p : Nat) (x : PartSt) : (s.setPart p x).ports = s.ports := rfl
@[simp] theorem State.setPart_sent (p : Nat) (x : PartSt) : (s.setPart p x).sent = s.sent := rfl
@[simp] theorem State.setPart_clocks (p : Nat) (x : PartSt) : (s.setPart p x).clocks = s.clocks := rfl
@[simp] theorem State.setPart_regions (p : Nat) (x : PartSt) : (s.setPart p x).regions = s.regions := rfl
@[simp] theorem State.setPart_power (p : Nat) (x : PartSt) : (s.setPart p x).power = s.power := rfl
@[simp] theorem State.setPart_hdp (p : Nat) (x : PartSt) : (s.setPart p x).hdp = s.hdp := rfl
@[simp] theorem State.setPart_msc (p : Nat) (x : PartSt) : (s.setPart p x).msc = s.msc := rfl
@[simp] theorem State.setPart_fabric (p : Nat) (x : PartSt) : (s.setPart p x).fabric = s.fabric := rfl
@[simp] theorem State.setPart_dict (p : Nat) (x : PartSt) : (s.setPart p x).dict = s.dict := rfl

/-! ### modPart -/

@[simp] theorem State.modPart_pending (p : Nat) (g : PartSt → PartSt) : (s.modPart p g).pending = s.pending :=
    rfl
@[simp] theorem State.modPart_free (p : Nat) (g : PartSt → PartSt) : (s.modPart p g).free = s.free := rfl
@[simp] theorem State.modPart_wt (p : Nat) (g : PartSt → PartSt) : (s.modPart p g).wt = s.wt := rfl
@[simp] theorem State.modPart_wtFrac (p : Nat) (g : PartSt → PartSt) : (s.modPart p g).wtFrac = s.wtFrac :=
  rfl
@[simp] theorem State.modPart_cores (p : Nat) (g : PartSt → PartSt) : (s.modPart p g).cores = s.cores :=
    rfl
@[simp] theorem State.modPart_clusters (p : Nat) (g : PartSt → PartSt) : (s.modPart p g).clusters = s.clusters :=
    rfl
@[simp] theorem State.modPart_net (p : Nat) (g : PartSt → PartSt) : (s.modPart p g).net = s.net := rfl
@[simp] theorem State.modPart_dram (p : Nat) (g : PartSt → PartSt) : (s.modPart p g).dram = s.dram := rfl
@[simp] theorem State.modPart_fields (p : Nat) (g : PartSt → PartSt) : (s.modPart p g).fields = s.fields :=
    rfl
@[simp] theorem State.modPart_ports (p : Nat) (g : PartSt → PartSt) : (s.modPart p g).ports = s.ports :=
    rfl
@[simp] theorem State.modPart_sent (p : Nat) (g : PartSt → PartSt) : (s.modPart p g).sent = s.sent := rfl
@[simp] theorem State.modPart_clocks (p : Nat) (g : PartSt → PartSt) : (s.modPart p g).clocks = s.clocks :=
    rfl
@[simp] theorem State.modPart_regions (p : Nat) (g : PartSt → PartSt) : (s.modPart p g).regions = s.regions :=
    rfl
@[simp] theorem State.modPart_power (p : Nat) (g : PartSt → PartSt) : (s.modPart p g).power = s.power :=
    rfl
@[simp] theorem State.modPart_hdp (p : Nat) (g : PartSt → PartSt) : (s.modPart p g).hdp = s.hdp := rfl
@[simp] theorem State.modPart_msc (p : Nat) (g : PartSt → PartSt) : (s.modPart p g).msc = s.msc := rfl
@[simp] theorem State.modPart_fabric (p : Nat) (g : PartSt → PartSt) : (s.modPart p g).fabric = s.fabric :=
    rfl
@[simp] theorem State.modPart_dict (p : Nat) (g : PartSt → PartSt) : (s.modPart p g).dict = s.dict := rfl

/-! ### setPort -/

@[simp] theorem State.setPort_pending (n : Nat) (x : PortSt) : (s.setPort n x).pending = s.pending := rfl
@[simp] theorem State.setPort_free (n : Nat) (x : PortSt) : (s.setPort n x).free = s.free := rfl
@[simp] theorem State.setPort_wt (n : Nat) (x : PortSt) : (s.setPort n x).wt = s.wt := rfl
@[simp] theorem State.setPort_wtFrac (n : Nat) (x : PortSt) : (s.setPort n x).wtFrac = s.wtFrac := rfl
@[simp] theorem State.setPort_cores (n : Nat) (x : PortSt) : (s.setPort n x).cores = s.cores := rfl
@[simp] theorem State.setPort_clusters (n : Nat) (x : PortSt) : (s.setPort n x).clusters = s.clusters :=
    rfl
@[simp] theorem State.setPort_net (n : Nat) (x : PortSt) : (s.setPort n x).net = s.net := rfl
@[simp] theorem State.setPort_dram (n : Nat) (x : PortSt) : (s.setPort n x).dram = s.dram := rfl
@[simp] theorem State.setPort_fields (n : Nat) (x : PortSt) : (s.setPort n x).fields = s.fields := rfl
@[simp] theorem State.setPort_parts (n : Nat) (x : PortSt) : (s.setPort n x).parts = s.parts := rfl
@[simp] theorem State.setPort_sent (n : Nat) (x : PortSt) : (s.setPort n x).sent = s.sent := rfl
@[simp] theorem State.setPort_clocks (n : Nat) (x : PortSt) : (s.setPort n x).clocks = s.clocks := rfl
@[simp] theorem State.setPort_regions (n : Nat) (x : PortSt) : (s.setPort n x).regions = s.regions := rfl
@[simp] theorem State.setPort_power (n : Nat) (x : PortSt) : (s.setPort n x).power = s.power := rfl
@[simp] theorem State.setPort_hdp (n : Nat) (x : PortSt) : (s.setPort n x).hdp = s.hdp := rfl
@[simp] theorem State.setPort_msc (n : Nat) (x : PortSt) : (s.setPort n x).msc = s.msc := rfl
@[simp] theorem State.setPort_fabric (n : Nat) (x : PortSt) : (s.setPort n x).fabric = s.fabric := rfl
@[simp] theorem State.setPort_dict (n : Nat) (x : PortSt) : (s.setPort n x).dict = s.dict := rfl

/-! ### modPort -/

@[simp] theorem State.modPort_pending (n : Nat) (g : PortSt → PortSt) : (s.modPort n g).pending = s.pending :=
    rfl
@[simp] theorem State.modPort_free (n : Nat) (g : PortSt → PortSt) : (s.modPort n g).free = s.free := rfl
@[simp] theorem State.modPort_wt (n : Nat) (g : PortSt → PortSt) : (s.modPort n g).wt = s.wt := rfl
@[simp] theorem State.modPort_wtFrac (n : Nat) (g : PortSt → PortSt) : (s.modPort n g).wtFrac = s.wtFrac :=
  rfl
@[simp] theorem State.modPort_cores (n : Nat) (g : PortSt → PortSt) : (s.modPort n g).cores = s.cores :=
    rfl
@[simp] theorem State.modPort_clusters (n : Nat) (g : PortSt → PortSt) : (s.modPort n g).clusters = s.clusters :=
    rfl
@[simp] theorem State.modPort_net (n : Nat) (g : PortSt → PortSt) : (s.modPort n g).net = s.net := rfl
@[simp] theorem State.modPort_dram (n : Nat) (g : PortSt → PortSt) : (s.modPort n g).dram = s.dram := rfl
@[simp] theorem State.modPort_fields (n : Nat) (g : PortSt → PortSt) : (s.modPort n g).fields = s.fields :=
    rfl
@[simp] theorem State.modPort_parts (n : Nat) (g : PortSt → PortSt) : (s.modPort n g).parts = s.parts :=
    rfl
@[simp] theorem State.modPort_sent (n : Nat) (g : PortSt → PortSt) : (s.modPort n g).sent = s.sent := rfl
@[simp] theorem State.modPort_clocks (n : Nat) (g : PortSt → PortSt) : (s.modPort n g).clocks = s.clocks :=
    rfl
@[simp] theorem State.modPort_regions (n : Nat) (g : PortSt → PortSt) : (s.modPort n g).regions = s.regions :=
    rfl
@[simp] theorem State.modPort_power (n : Nat) (g : PortSt → PortSt) : (s.modPort n g).power = s.power :=
    rfl
@[simp] theorem State.modPort_hdp (n : Nat) (g : PortSt → PortSt) : (s.modPort n g).hdp = s.hdp := rfl
@[simp] theorem State.modPort_msc (n : Nat) (g : PortSt → PortSt) : (s.modPort n g).msc = s.msc := rfl
@[simp] theorem State.modPort_fabric (n : Nat) (g : PortSt → PortSt) : (s.modPort n g).fabric = s.fabric :=
    rfl
@[simp] theorem State.modPort_dict (n : Nat) (g : PortSt → PortSt) : (s.modPort n g).dict = s.dict := rfl

/-! ### modAssoc -/

@[simp] theorem State.modAssoc_pending (n a : Nat) (g : Assoc → Assoc) : (s.modAssoc n a g).pending = s.pending :=
    rfl
@[simp] theorem State.modAssoc_free (n a : Nat) (g : Assoc → Assoc) : (s.modAssoc n a g).free = s.free :=
    rfl
@[simp] theorem State.modAssoc_wt (n a : Nat) (g : Assoc → Assoc) : (s.modAssoc n a g).wt = s.wt := rfl
@[simp] theorem State.modAssoc_wtFrac (n a : Nat) (g : Assoc → Assoc) : (s.modAssoc n a g).wtFrac = s.wtFrac :=
  rfl
@[simp] theorem State.modAssoc_cores (n a : Nat) (g : Assoc → Assoc) : (s.modAssoc n a g).cores = s.cores :=
    rfl
@[simp] theorem State.modAssoc_clusters (n a : Nat) (g : Assoc → Assoc) : (s.modAssoc n a g).clusters = s.clusters :=
    rfl
@[simp] theorem State.modAssoc_net (n a : Nat) (g : Assoc → Assoc) : (s.modAssoc n a g).net = s.net :=
    rfl
@[simp] theorem State.modAssoc_dram (n a : Nat) (g : Assoc → Assoc) : (s.modAssoc n a g).dram = s.dram :=
    rfl
@[simp] theorem State.modAssoc_fields (n a : Nat) (g : Assoc → Assoc) : (s.modAssoc n a g).fields = s.fields :=
    rfl
@[simp] theorem State.modAssoc_parts (n a : Nat) (g : Assoc → Assoc) : (s.modAssoc n a g).parts = s.parts :=
    rfl
@[simp] theorem State.modAssoc_sent (n a : Nat) (g : Assoc → Assoc) : (s.modAssoc n a g).sent = s.sent :=
    rfl
@[simp] theorem State.modAssoc_clocks (n a : Nat) (g : Assoc → Assoc) : (s.modAssoc n a g).clocks = s.clocks :=
    rfl
@[simp] theorem State.modAssoc_regions (n a : Nat) (g : Assoc → Assoc) : (s.modAssoc n a g).regions = s.regions :=
    rfl
@[simp] theorem State.modAssoc_power (n a : Nat) (g : Assoc → Assoc) : (s.modAssoc n a g).power = s.power :=
    rfl
@[simp] theorem State.modAssoc_hdp (n a : Nat) (g : Assoc → Assoc) : (s.modAssoc n a g).hdp = s.hdp :=
    rfl
@[simp] theorem State.modAssoc_msc (n a : Nat) (g : Assoc → Assoc) : (s.modAssoc n a g).msc = s.msc :=
    rfl
@[simp] theorem State.modAssoc_fabric (n a : Nat) (g : Assoc → Assoc) : (s.modAssoc n a g).fabric = s.fabric :=
    rfl
@[simp] theorem State.modAssoc_dict (n a : Nat) (g : Assoc → Assoc) : (s.modAssoc n a g).dict = s.dict :=
    rfl

/-! ### setNum -/

@[simp] theorem State.setNum_pending (key v : Nat) : (s.setNum key v).pending = s.pending := rfl
@[simp] theorem State.setNum_free (key v : Nat) : (s.setNum key v).free = s.free := rfl
@[simp] theorem State.setNum_wt (key v : Nat) : (s.setNum key v).wt = s.wt := rfl
@[simp] theorem State.setNum_wtFrac (key v : Nat) : (s.setNum key v).wtFrac = s.wtFrac := rfl
@[simp] theorem State.setNum_cores (key v : Nat) : (s.setNum key v).cores = s.cores := rfl
@[simp] theorem State.setNum_clusters (key v : Nat) : (s.setNum key v).clusters = s.clusters := rfl
@[simp] theorem State.setNum_net (key v : Nat) : (s.setNum key v).net = s.net := rfl
@[simp] theorem State.setNum_dram (key v : Nat) : (s.setNum key v).dram = s.dram := rfl
@[simp] theorem State.setNum_fields (key v : Nat) : (s.setNum key v).fields = s.fields := rfl
@[simp] theorem State.setNum_parts (key v : Nat) : (s.setNum key v).parts = s.parts := rfl
@[simp] theorem State.setNum_ports (key v : Nat) : (s.setNum key v).ports = s.ports := rfl
@[simp] theorem State.setNum_sent (key v : Nat) : (s.setNum key v).sent = s.sent := rfl
@[simp] theorem State.setNum_clocks (key v : Nat) : (s.setNum key v).clocks = s.clocks := rfl
@[simp] theorem State.setNum_regions (key v : Nat) : (s.setNum key v).regions = s.regions := rfl
@[simp] theorem State.setNum_power (key v : Nat) : (s.setNum key v).power = s.power := rfl
@[simp] theorem State.setNum_hdp (key v : Nat) : (s.setNum key v).hdp = s.hdp := rfl
@[simp] theorem State.setNum_msc (key v : Nat) : (s.setNum key v).msc = s.msc := rfl
@[simp] theorem State.setNum_fabric (key v : Nat) : (s.setNum key v).fabric = s.fabric := rfl

/-! ### addNum -/

@[simp] theorem State.addNum_pending (key n : Nat) : (s.addNum key n).pending = s.pending := rfl
@[simp] theorem State.addNum_free (key n : Nat) : (s.addNum key n).free = s.free := rfl
@[simp] theorem State.addNum_wt (key n : Nat) : (s.addNum key n).wt = s.wt := rfl
@[simp] theorem State.addNum_wtFrac (key n : Nat) : (s.addNum key n).wtFrac = s.wtFrac := rfl
@[simp] theorem State.addNum_cores (key n : Nat) : (s.addNum key n).cores = s.cores := rfl
@[simp] theorem State.addNum_clusters (key n : Nat) : (s.addNum key n).clusters = s.clusters := rfl
@[simp] theorem State.addNum_net (key n : Nat) : (s.addNum key n).net = s.net := rfl
@[simp] theorem State.addNum_dram (key n : Nat) : (s.addNum key n).dram = s.dram := rfl
@[simp] theorem State.addNum_fields (key n : Nat) : (s.addNum key n).fields = s.fields := rfl
@[simp] theorem State.addNum_parts (key n : Nat) : (s.addNum key n).parts = s.parts := rfl
@[simp] theorem State.addNum_ports (key n : Nat) : (s.addNum key n).ports = s.ports := rfl
@[simp] theorem State.addNum_sent (key n : Nat) : (s.addNum key n).sent = s.sent := rfl
@[simp] theorem State.addNum_clocks (key n : Nat) : (s.addNum key n).clocks = s.clocks := rfl
@[simp] theorem State.addNum_regions (key n : Nat) : (s.addNum key n).regions = s.regions := rfl
@[simp] theorem State.addNum_power (key n : Nat) : (s.addNum key n).power = s.power := rfl
@[simp] theorem State.addNum_hdp (key n : Nat) : (s.addNum key n).hdp = s.hdp := rfl
@[simp] theorem State.addNum_msc (key n : Nat) : (s.addNum key n).msc = s.msc := rfl
@[simp] theorem State.addNum_fabric (key n : Nat) : (s.addNum key n).fabric = s.fabric := rfl

/-! ### setBlob -/

@[simp] theorem State.setBlob_pending (key : Nat) (v : List Byte) : (s.setBlob key v).pending = s.pending :=
    rfl
@[simp] theorem State.setBlob_free (key : Nat) (v : List Byte) : (s.setBlob key v).free = s.free := rfl
@[simp] theorem State.setBlob_wt (key : Nat) (v : List Byte) : (s.setBlob key v).wt = s.wt := rfl
@[simp] theorem State.setBlob_wtFrac (key : Nat) (v : List Byte) : (s.setBlob key v).wtFrac = s.wtFrac := rfl
@[simp] theorem State.setBlob_cores (key : Nat) (v : List Byte) : (s.setBlob key v).cores = s.cores :=
    rfl
@[simp] theorem State.setBlob_clusters (key : Nat) (v : List Byte) : (s.setBlob key v).clusters = s.clusters :=
    rfl
@[simp] theorem State.setBlob_net (key : Nat) (v : List Byte) : (s.setBlob key v).net = s.net := rfl
@[simp] theorem State.setBlob_dram (key : Nat) (v : List Byte) : (s.setBlob key v).dram = s.dram := rfl
@[simp] theorem State.setBlob_fields (key : Nat) (v : List Byte) : (s.setBlob key v).fields = s.fields :=
    rfl
@[simp] theorem State.setBlob_parts (key : Nat) (v : List Byte) : (s.setBlob key v).parts = s.parts :=
    rfl
@[simp] theorem State.setBlob_ports (key : Nat) (v : List Byte) : (s.setBlob key v).ports = s.ports :=
    rfl
@[simp] theorem State.setBlob_sent (key : Nat) (v : List Byte) : (s.setBlob key v).sent = s.sent := rfl
@[simp] theorem State.setBlob_clocks (key : Nat) (v : List Byte) : (s.setBlob key v).clocks = s.clocks :=
    rfl
@[simp] theorem State.setBlob_regions (key : Nat) (v : List Byte) : (s.setBlob key v).regions = s.regions :=
    rfl
@[simp] theorem State.setBlob_power (key : Nat) (v : List Byte) : (s.setBlob key v).power = s.power :=
    rfl
@[simp] theorem State.setBlob_hdp (key : Nat) (v : List Byte) : (s.setBlob key v).hdp = s.hdp := rfl
@[simp] theorem State.setBlob_msc (key : Nat) (v : List Byte) : (s.setBlob key v).msc = s.msc := rfl
@[simp] theorem State.setBlob_fabric (key : Nat) (v : List Byte) : (s.setBlob key v).fabric = s.fabric :=
    rfl

/-! ### modRegion -/

@[simp] theorem State.modRegion_pending (r : Nat) (g : RegionSt → RegionSt) : (s.modRegion r g).pending = s.pending :=
    rfl
@[simp] theorem State.modRegion_free (r : Nat) (g : RegionSt → RegionSt) : (s.modRegion r g).free = s.free :=
    rfl
@[simp] theorem State.modRegion_wt (r : Nat) (g : RegionSt → RegionSt) : (s.modRegion r g).wt = s.wt :=
    rfl
@[simp] theorem State.modRegion_wtFrac (r : Nat) (g : RegionSt → RegionSt) : (s.modRegion r g).wtFrac = s.wtFrac :=
    rfl
@[simp] theorem State.modRegion_cores (r : Nat) (g : RegionSt → RegionSt) : (s.modRegion r g).cores = s.cores :=
    rfl
@[simp] theorem State.modRegion_clusters (r : Nat) (g : RegionSt → RegionSt) : (s.modRegion r g).clusters = s.clusters :=
    rfl
@[simp] theorem State.modRegion_net (r : Nat) (g : RegionSt → RegionSt) : (s.modRegion r g).net = s.net :=
    rfl
@[simp] theorem State.modRegion_dram (r : Nat) (g : RegionSt → RegionSt) : (s.modRegion r g).dram = s.dram :=
    rfl
@[simp] theorem State.modRegion_fields (r : Nat) (g : RegionSt → RegionSt) : (s.modRegion r g).fields = s.fields :=
    rfl
@[simp] theorem State.modRegion_parts (r : Nat) (g : RegionSt → RegionSt) : (s.modRegion r g).parts = s.parts :=
    rfl
@[simp] theorem State.modRegion_ports (r : Nat) (g : RegionSt → RegionSt) : (s.modRegion r g).ports = s.ports :=
    rfl
@[simp] theorem State.modRegion_sent (r : Nat) (g : RegionSt → RegionSt) : (s.modRegion r g).sent = s.sent :=
    rfl
@[simp] theorem State.modRegion_clocks (r : Nat) (g : RegionSt → RegionSt) : (s.modRegion r g).clocks = s.clocks :=
    rfl
@[simp] theorem State.modRegion_power (r : Nat) (g : RegionSt → RegionSt) : (s.modRegion r g).power = s.power :=
    rfl
@[simp] theorem State.modRegion_hdp (r : Nat) (g : RegionSt → RegionSt) : (s.modRegion r g).hdp = s.hdp :=
    rfl
@[simp] theorem State.modRegion_msc (r : Nat) (g : RegionSt → RegionSt) : (s.modRegion r g).msc = s.msc :=
    rfl
@[simp] theorem State.modRegion_fabric (r : Nat) (g : RegionSt → RegionSt) : (s.modRegion r g).fabric = s.fabric :=
    rfl
@[simp] theorem State.modRegion_dict (r : Nat) (g : RegionSt → RegionSt) : (s.modRegion r g).dict = s.dict :=
    rfl

/-! ### modPower -/

@[simp] theorem State.modPower_pending (g : Power → Power) : (s.modPower g).pending = s.pending := rfl
@[simp] theorem State.modPower_free (g : Power → Power) : (s.modPower g).free = s.free := rfl
@[simp] theorem State.modPower_wt (g : Power → Power) : (s.modPower g).wt = s.wt := rfl
@[simp] theorem State.modPower_wtFrac (g : Power → Power) : (s.modPower g).wtFrac = s.wtFrac := rfl
@[simp] theorem State.modPower_cores (g : Power → Power) : (s.modPower g).cores = s.cores := rfl
@[simp] theorem State.modPower_clusters (g : Power → Power) : (s.modPower g).clusters = s.clusters := rfl
@[simp] theorem State.modPower_net (g : Power → Power) : (s.modPower g).net = s.net := rfl
@[simp] theorem State.modPower_dram (g : Power → Power) : (s.modPower g).dram = s.dram := rfl
@[simp] theorem State.modPower_fields (g : Power → Power) : (s.modPower g).fields = s.fields := rfl
@[simp] theorem State.modPower_parts (g : Power → Power) : (s.modPower g).parts = s.parts := rfl
@[simp] theorem State.modPower_ports (g : Power → Power) : (s.modPower g).ports = s.ports := rfl
@[simp] theorem State.modPower_sent (g : Power → Power) : (s.modPower g).sent = s.sent := rfl
@[simp] theorem State.modPower_clocks (g : Power → Power) : (s.modPower g).clocks = s.clocks := rfl
@[simp] theorem State.modPower_regions (g : Power → Power) : (s.modPower g).regions = s.regions := rfl
@[simp] theorem State.modPower_hdp (g : Power → Power) : (s.modPower g).hdp = s.hdp := rfl
@[simp] theorem State.modPower_msc (g : Power → Power) : (s.modPower g).msc = s.msc := rfl
@[simp] theorem State.modPower_fabric (g : Power → Power) : (s.modPower g).fabric = s.fabric := rfl
@[simp] theorem State.modPower_dict (g : Power → Power) : (s.modPower g).dict = s.dict := rfl

/-! ### setPacket -/

@[simp] theorem State.setPacket_pending (id : Nat) (p : Packet) : (s.setPacket id p).pending = s.pending :=
    rfl
@[simp] theorem State.setPacket_free (id : Nat) (p : Packet) : (s.setPacket id p).free = s.free := rfl
@[simp] theorem State.setPacket_wt (id : Nat) (p : Packet) : (s.setPacket id p).wt = s.wt := rfl
@[simp] theorem State.setPacket_wtFrac (id : Nat) (p : Packet) : (s.setPacket id p).wtFrac = s.wtFrac := rfl
@[simp] theorem State.setPacket_cores (id : Nat) (p : Packet) : (s.setPacket id p).cores = s.cores := rfl
@[simp] theorem State.setPacket_clusters (id : Nat) (p : Packet) : (s.setPacket id p).clusters = s.clusters :=
    rfl
@[simp] theorem State.setPacket_dram (id : Nat) (p : Packet) : (s.setPacket id p).dram = s.dram := rfl
@[simp] theorem State.setPacket_fields (id : Nat) (p : Packet) : (s.setPacket id p).fields = s.fields :=
    rfl
@[simp] theorem State.setPacket_parts (id : Nat) (p : Packet) : (s.setPacket id p).parts = s.parts := rfl
@[simp] theorem State.setPacket_ports (id : Nat) (p : Packet) : (s.setPacket id p).ports = s.ports := rfl
@[simp] theorem State.setPacket_sent (id : Nat) (p : Packet) : (s.setPacket id p).sent = s.sent := rfl
@[simp] theorem State.setPacket_clocks (id : Nat) (p : Packet) : (s.setPacket id p).clocks = s.clocks :=
    rfl
@[simp] theorem State.setPacket_regions (id : Nat) (p : Packet) : (s.setPacket id p).regions = s.regions :=
    rfl
@[simp] theorem State.setPacket_power (id : Nat) (p : Packet) : (s.setPacket id p).power = s.power := rfl
@[simp] theorem State.setPacket_hdp (id : Nat) (p : Packet) : (s.setPacket id p).hdp = s.hdp := rfl
@[simp] theorem State.setPacket_msc (id : Nat) (p : Packet) : (s.setPacket id p).msc = s.msc := rfl
@[simp] theorem State.setPacket_fabric (id : Nat) (p : Packet) : (s.setPacket id p).fabric = s.fabric :=
    rfl
@[simp] theorem State.setPacket_dict (id : Nat) (p : Packet) : (s.setPacket id p).dict = s.dict := rfl

/-! ### addPacket -/

@[simp] theorem State.addPacket_pending (p : Packet) : (s.addPacket p).pending = s.pending := rfl
@[simp] theorem State.addPacket_free (p : Packet) : (s.addPacket p).free = s.free := rfl
@[simp] theorem State.addPacket_wt (p : Packet) : (s.addPacket p).wt = s.wt := rfl
@[simp] theorem State.addPacket_wtFrac (p : Packet) : (s.addPacket p).wtFrac = s.wtFrac := rfl
@[simp] theorem State.addPacket_cores (p : Packet) : (s.addPacket p).cores = s.cores := rfl
@[simp] theorem State.addPacket_clusters (p : Packet) : (s.addPacket p).clusters = s.clusters := rfl
@[simp] theorem State.addPacket_dram (p : Packet) : (s.addPacket p).dram = s.dram := rfl
@[simp] theorem State.addPacket_fields (p : Packet) : (s.addPacket p).fields = s.fields := rfl
@[simp] theorem State.addPacket_parts (p : Packet) : (s.addPacket p).parts = s.parts := rfl
@[simp] theorem State.addPacket_ports (p : Packet) : (s.addPacket p).ports = s.ports := rfl
@[simp] theorem State.addPacket_sent (p : Packet) : (s.addPacket p).sent = s.sent := rfl
@[simp] theorem State.addPacket_clocks (p : Packet) : (s.addPacket p).clocks = s.clocks := rfl
@[simp] theorem State.addPacket_regions (p : Packet) : (s.addPacket p).regions = s.regions := rfl
@[simp] theorem State.addPacket_power (p : Packet) : (s.addPacket p).power = s.power := rfl
@[simp] theorem State.addPacket_hdp (p : Packet) : (s.addPacket p).hdp = s.hdp := rfl
@[simp] theorem State.addPacket_msc (p : Packet) : (s.addPacket p).msc = s.msc := rfl
@[simp] theorem State.addPacket_fabric (p : Packet) : (s.addPacket p).fabric = s.fabric := rfl
@[simp] theorem State.addPacket_dict (p : Packet) : (s.addPacket p).dict = s.dict := rfl

/-! ### dropPacket -/

@[simp] theorem State.dropPacket_pending (id : Nat) : (s.dropPacket id).pending = s.pending := rfl
@[simp] theorem State.dropPacket_free (id : Nat) : (s.dropPacket id).free = s.free := rfl
@[simp] theorem State.dropPacket_wt (id : Nat) : (s.dropPacket id).wt = s.wt := rfl
@[simp] theorem State.dropPacket_wtFrac (id : Nat) : (s.dropPacket id).wtFrac = s.wtFrac := rfl
@[simp] theorem State.dropPacket_cores (id : Nat) : (s.dropPacket id).cores = s.cores := rfl
@[simp] theorem State.dropPacket_clusters (id : Nat) : (s.dropPacket id).clusters = s.clusters := rfl
@[simp] theorem State.dropPacket_dram (id : Nat) : (s.dropPacket id).dram = s.dram := rfl
@[simp] theorem State.dropPacket_fields (id : Nat) : (s.dropPacket id).fields = s.fields := rfl
@[simp] theorem State.dropPacket_parts (id : Nat) : (s.dropPacket id).parts = s.parts := rfl
@[simp] theorem State.dropPacket_ports (id : Nat) : (s.dropPacket id).ports = s.ports := rfl
@[simp] theorem State.dropPacket_sent (id : Nat) : (s.dropPacket id).sent = s.sent := rfl
@[simp] theorem State.dropPacket_clocks (id : Nat) : (s.dropPacket id).clocks = s.clocks := rfl
@[simp] theorem State.dropPacket_regions (id : Nat) : (s.dropPacket id).regions = s.regions := rfl
@[simp] theorem State.dropPacket_power (id : Nat) : (s.dropPacket id).power = s.power := rfl
@[simp] theorem State.dropPacket_hdp (id : Nat) : (s.dropPacket id).hdp = s.hdp := rfl
@[simp] theorem State.dropPacket_msc (id : Nat) : (s.dropPacket id).msc = s.msc := rfl
@[simp] theorem State.dropPacket_fabric (id : Nat) : (s.dropPacket id).fabric = s.fabric := rfl
@[simp] theorem State.dropPacket_dict (id : Nat) : (s.dropPacket id).dict = s.dict := rfl

/-! ### modChan -/

@[simp] theorem State.modChan_pending (ch : Nat) (g : Chan → Chan) : (s.modChan ch g).pending = s.pending :=
    rfl
@[simp] theorem State.modChan_free (ch : Nat) (g : Chan → Chan) : (s.modChan ch g).free = s.free := rfl
@[simp] theorem State.modChan_wt (ch : Nat) (g : Chan → Chan) : (s.modChan ch g).wt = s.wt := rfl
@[simp] theorem State.modChan_wtFrac (ch : Nat) (g : Chan → Chan) : (s.modChan ch g).wtFrac = s.wtFrac := rfl
@[simp] theorem State.modChan_cores (ch : Nat) (g : Chan → Chan) : (s.modChan ch g).cores = s.cores :=
    rfl
@[simp] theorem State.modChan_clusters (ch : Nat) (g : Chan → Chan) : (s.modChan ch g).clusters = s.clusters :=
    rfl
@[simp] theorem State.modChan_net (ch : Nat) (g : Chan → Chan) : (s.modChan ch g).net = s.net := rfl
@[simp] theorem State.modChan_fields (ch : Nat) (g : Chan → Chan) : (s.modChan ch g).fields = s.fields :=
    rfl
@[simp] theorem State.modChan_parts (ch : Nat) (g : Chan → Chan) : (s.modChan ch g).parts = s.parts :=
    rfl
@[simp] theorem State.modChan_ports (ch : Nat) (g : Chan → Chan) : (s.modChan ch g).ports = s.ports :=
    rfl
@[simp] theorem State.modChan_sent (ch : Nat) (g : Chan → Chan) : (s.modChan ch g).sent = s.sent := rfl
@[simp] theorem State.modChan_clocks (ch : Nat) (g : Chan → Chan) : (s.modChan ch g).clocks = s.clocks :=
    rfl
@[simp] theorem State.modChan_regions (ch : Nat) (g : Chan → Chan) : (s.modChan ch g).regions = s.regions :=
    rfl
@[simp] theorem State.modChan_power (ch : Nat) (g : Chan → Chan) : (s.modChan ch g).power = s.power :=
    rfl
@[simp] theorem State.modChan_hdp (ch : Nat) (g : Chan → Chan) : (s.modChan ch g).hdp = s.hdp := rfl
@[simp] theorem State.modChan_msc (ch : Nat) (g : Chan → Chan) : (s.modChan ch g).msc = s.msc := rfl
@[simp] theorem State.modChan_fabric (ch : Nat) (g : Chan → Chan) : (s.modChan ch g).fabric = s.fabric :=
    rfl
@[simp] theorem State.modChan_dict (ch : Nat) (g : Chan → Chan) : (s.modChan ch g).dict = s.dict := rfl

/-! ### modClk -/

@[simp] theorem State.modClk_pending (f : Nat) (g : ClkSt → ClkSt) : (s.modClk f g).pending = s.pending :=
    rfl
@[simp] theorem State.modClk_free (f : Nat) (g : ClkSt → ClkSt) : (s.modClk f g).free = s.free := rfl
@[simp] theorem State.modClk_wt (f : Nat) (g : ClkSt → ClkSt) : (s.modClk f g).wt = s.wt := rfl
@[simp] theorem State.modClk_wtFrac (f : Nat) (g : ClkSt → ClkSt) : (s.modClk f g).wtFrac = s.wtFrac := rfl
@[simp] theorem State.modClk_cores (f : Nat) (g : ClkSt → ClkSt) : (s.modClk f g).cores = s.cores := rfl
@[simp] theorem State.modClk_clusters (f : Nat) (g : ClkSt → ClkSt) : (s.modClk f g).clusters = s.clusters :=
    rfl
@[simp] theorem State.modClk_net (f : Nat) (g : ClkSt → ClkSt) : (s.modClk f g).net = s.net := rfl
@[simp] theorem State.modClk_dram (f : Nat) (g : ClkSt → ClkSt) : (s.modClk f g).dram = s.dram := rfl
@[simp] theorem State.modClk_fields (f : Nat) (g : ClkSt → ClkSt) : (s.modClk f g).fields = s.fields :=
    rfl
@[simp] theorem State.modClk_parts (f : Nat) (g : ClkSt → ClkSt) : (s.modClk f g).parts = s.parts := rfl
@[simp] theorem State.modClk_ports (f : Nat) (g : ClkSt → ClkSt) : (s.modClk f g).ports = s.ports := rfl
@[simp] theorem State.modClk_sent (f : Nat) (g : ClkSt → ClkSt) : (s.modClk f g).sent = s.sent := rfl
@[simp] theorem State.modClk_regions (f : Nat) (g : ClkSt → ClkSt) : (s.modClk f g).regions = s.regions :=
    rfl
@[simp] theorem State.modClk_power (f : Nat) (g : ClkSt → ClkSt) : (s.modClk f g).power = s.power := rfl
@[simp] theorem State.modClk_hdp (f : Nat) (g : ClkSt → ClkSt) : (s.modClk f g).hdp = s.hdp := rfl
@[simp] theorem State.modClk_msc (f : Nat) (g : ClkSt → ClkSt) : (s.modClk f g).msc = s.msc := rfl
@[simp] theorem State.modClk_fabric (f : Nat) (g : ClkSt → ClkSt) : (s.modClk f g).fabric = s.fabric :=
    rfl
@[simp] theorem State.modClk_dict (f : Nat) (g : ClkSt → ClkSt) : (s.modClk f g).dict = s.dict := rfl

/-! ### modPtp -/

@[simp] theorem State.modPtp_pending (g : Ptp → Ptp) : (s.modPtp g).pending = s.pending := rfl
@[simp] theorem State.modPtp_free (g : Ptp → Ptp) : (s.modPtp g).free = s.free := rfl
@[simp] theorem State.modPtp_wt (g : Ptp → Ptp) : (s.modPtp g).wt = s.wt := rfl
@[simp] theorem State.modPtp_wtFrac (g : Ptp → Ptp) : (s.modPtp g).wtFrac = s.wtFrac := rfl
@[simp] theorem State.modPtp_cores (g : Ptp → Ptp) : (s.modPtp g).cores = s.cores := rfl
@[simp] theorem State.modPtp_clusters (g : Ptp → Ptp) : (s.modPtp g).clusters = s.clusters := rfl
@[simp] theorem State.modPtp_net (g : Ptp → Ptp) : (s.modPtp g).net = s.net := rfl
@[simp] theorem State.modPtp_dram (g : Ptp → Ptp) : (s.modPtp g).dram = s.dram := rfl
@[simp] theorem State.modPtp_fields (g : Ptp → Ptp) : (s.modPtp g).fields = s.fields := rfl
@[simp] theorem State.modPtp_parts (g : Ptp → Ptp) : (s.modPtp g).parts = s.parts := rfl
@[simp] theorem State.modPtp_ports (g : Ptp → Ptp) : (s.modPtp g).ports = s.ports := rfl
@[simp] theorem State.modPtp_sent (g : Ptp → Ptp) : (s.modPtp g).sent = s.sent := rfl
@[simp] theorem State.modPtp_regions (g : Ptp → Ptp) : (s.modPtp g).regions = s.regions := rfl
@[simp] theorem State.modPtp_power (g : Ptp → Ptp) : (s.modPtp g).power = s.power := rfl
@[simp] theorem State.modPtp_hdp (g : Ptp → Ptp) : (s.modPtp g).hdp = s.hdp := rfl
@[simp] theorem State.modPtp_msc (g : Ptp → Ptp) : (s.modPtp g).msc = s.msc := rfl
@[simp] theorem State.modPtp_fabric (g : Ptp → Ptp) : (s.modPtp g).fabric = s.fabric := rfl
@[simp] theorem State.modPtp_dict (g : Ptp → Ptp) : (s.modPtp g).dict = s.dict := rfl

/-! ### atTime -/

@[simp] theorem State.atTime_pending (t : Nat) : (s.atTime t).pending = s.pending := rfl
@[simp] theorem State.atTime_free (t : Nat) : (s.atTime t).free = s.free := rfl
@[simp] theorem State.atTime_cores (t : Nat) : (s.atTime t).cores = s.cores := rfl
@[simp] theorem State.atTime_clusters (t : Nat) : (s.atTime t).clusters = s.clusters := rfl
@[simp] theorem State.atTime_net (t : Nat) : (s.atTime t).net = s.net := rfl
@[simp] theorem State.atTime_dram (t : Nat) : (s.atTime t).dram = s.dram := rfl
@[simp] theorem State.atTime_fields (t : Nat) : (s.atTime t).fields = s.fields := rfl
@[simp] theorem State.atTime_parts (t : Nat) : (s.atTime t).parts = s.parts := rfl
@[simp] theorem State.atTime_ports (t : Nat) : (s.atTime t).ports = s.ports := rfl
@[simp] theorem State.atTime_sent (t : Nat) : (s.atTime t).sent = s.sent := rfl
@[simp] theorem State.atTime_clocks (t : Nat) : (s.atTime t).clocks = s.clocks := rfl
@[simp] theorem State.atTime_regions (t : Nat) : (s.atTime t).regions = s.regions := rfl
@[simp] theorem State.atTime_power (t : Nat) : (s.atTime t).power = s.power := rfl
@[simp] theorem State.atTime_hdp (t : Nat) : (s.atTime t).hdp = s.hdp := rfl
@[simp] theorem State.atTime_msc (t : Nat) : (s.atTime t).msc = s.msc := rfl
@[simp] theorem State.atTime_fabric (t : Nat) : (s.atTime t).fabric = s.fabric := rfl
@[simp] theorem State.atTime_dict (t : Nat) : (s.atTime t).dict = s.dict := rfl

/-! ### atFabric -/

@[simp] theorem State.atFabric_wtFrac (k n : Nat) : (s.atFabric k n).wtFrac = s.wtFrac := by
  unfold State.atFabric State.runIsland; dsimp only; split <;> rfl
@[simp] theorem State.atFabric_units (k n : Nat) : (s.atFabric k n).clocks.units = s.clocks.units := by
  unfold State.atFabric State.runIsland; dsimp only; split <;> rfl
@[simp] theorem State.atFabric_pending (k n : Nat) : (s.atFabric k n).pending = s.pending := by
  unfold State.atFabric State.runIsland; dsimp only; split <;> rfl
@[simp] theorem State.atFabric_free (k n : Nat) : (s.atFabric k n).free = s.free := by
  unfold State.atFabric State.runIsland; dsimp only; split <;> rfl
@[simp] theorem State.atFabric_wt (k n : Nat) : (s.atFabric k n).wt = s.wt := by
  unfold State.atFabric State.runIsland; dsimp only; split <;> rfl
@[simp] theorem State.atFabric_cores (k n : Nat) : (s.atFabric k n).cores = s.cores := by
  unfold State.atFabric State.runIsland; dsimp only; split <;> rfl
@[simp] theorem State.atFabric_clusters (k n : Nat) : (s.atFabric k n).clusters = s.clusters := by
  unfold State.atFabric State.runIsland; dsimp only; split <;> rfl
@[simp] theorem State.atFabric_net (k n : Nat) : (s.atFabric k n).net = s.net := by
  unfold State.atFabric State.runIsland; dsimp only; split <;> rfl
@[simp] theorem State.atFabric_dram (k n : Nat) : (s.atFabric k n).dram = s.dram := by
  unfold State.atFabric State.runIsland; dsimp only; split <;> rfl
@[simp] theorem State.atFabric_fields (k n : Nat) : (s.atFabric k n).fields = s.fields := by
  unfold State.atFabric State.runIsland; dsimp only; split <;> rfl
@[simp] theorem State.atFabric_parts (k n : Nat) : (s.atFabric k n).parts = s.parts := by
  unfold State.atFabric State.runIsland; dsimp only; split <;> rfl
@[simp] theorem State.atFabric_ports (k n : Nat) : (s.atFabric k n).ports = s.ports := by
  unfold State.atFabric State.runIsland; dsimp only; split <;> rfl
@[simp] theorem State.atFabric_sent (k n : Nat) : (s.atFabric k n).sent = s.sent := by
  unfold State.atFabric State.runIsland; dsimp only; split <;> rfl
@[simp] theorem State.atFabric_regions (k n : Nat) : (s.atFabric k n).regions = s.regions := by
  unfold State.atFabric State.runIsland; dsimp only; split <;> rfl
@[simp] theorem State.atFabric_power (k n : Nat) : (s.atFabric k n).power = s.power := by
  unfold State.atFabric State.runIsland; dsimp only; split <;> rfl
@[simp] theorem State.atFabric_hdp (k n : Nat) : (s.atFabric k n).hdp = s.hdp := by
  unfold State.atFabric State.runIsland; dsimp only; split <;> rfl
@[simp] theorem State.atFabric_msc (k n : Nat) : (s.atFabric k n).msc = s.msc := by
  unfold State.atFabric State.runIsland; dsimp only; split <;> rfl
@[simp] theorem State.atFabric_dict (k n : Nat) : (s.atFabric k n).dict = s.dict := by
  unfold State.atFabric State.runIsland; dsimp only; split <;> rfl

/-! ### post -/

@[simp] theorem State.post_pending (a b c d e f g h i : Nat) : (s.post a b c d e f g h i).pending = s.pending :=
    rfl
@[simp] theorem State.post_free (a b c d e f g h i : Nat) : (s.post a b c d e f g h i).free = s.free :=
    rfl
@[simp] theorem State.post_wt (a b c d e f g h i : Nat) : (s.post a b c d e f g h i).wt = s.wt := rfl
@[simp] theorem State.post_wtFrac (a b c d e f g h i : Nat) : (s.post a b c d e f g h i).wtFrac = s.wtFrac :=
  rfl
@[simp] theorem State.post_cores (a b c d e f g h i : Nat) : (s.post a b c d e f g h i).cores = s.cores :=
    rfl
@[simp] theorem State.post_clusters (a b c d e f g h i : Nat) : (s.post a b c d e f g h i).clusters = s.clusters :=
    rfl
@[simp] theorem State.post_net (a b c d e f g h i : Nat) : (s.post a b c d e f g h i).net = s.net := rfl
@[simp] theorem State.post_dram (a b c d e f g h i : Nat) : (s.post a b c d e f g h i).dram = s.dram :=
    rfl
@[simp] theorem State.post_fields (a b c d e f g h i : Nat) : (s.post a b c d e f g h i).fields = s.fields :=
    rfl
@[simp] theorem State.post_parts (a b c d e f g h i : Nat) : (s.post a b c d e f g h i).parts = s.parts :=
    rfl
@[simp] theorem State.post_ports (a b c d e f g h i : Nat) : (s.post a b c d e f g h i).ports = s.ports :=
    rfl
@[simp] theorem State.post_sent (a b c d e f g h i : Nat) : (s.post a b c d e f g h i).sent = s.sent :=
    rfl
@[simp] theorem State.post_clocks (a b c d e f g h i : Nat) : (s.post a b c d e f g h i).clocks = s.clocks :=
    rfl
@[simp] theorem State.post_regions (a b c d e f g h i : Nat) : (s.post a b c d e f g h i).regions = s.regions :=
    rfl
@[simp] theorem State.post_power (a b c d e f g h i : Nat) : (s.post a b c d e f g h i).power = s.power :=
    rfl
@[simp] theorem State.post_hdp (a b c d e f g h i : Nat) : (s.post a b c d e f g h i).hdp = s.hdp := rfl
@[simp] theorem State.post_fabric (a b c d e f g h i : Nat) : (s.post a b c d e f g h i).fabric = s.fabric :=
    rfl
@[simp] theorem State.post_dict (a b c d e f g h i : Nat) : (s.post a b c d e f g h i).dict = s.dict :=
    rfl

/-! ### A free value is drawn -/

@[simp] theorem State.draw_pending : s.draw.2.pending = s.pending := rfl
@[simp] theorem State.draw_wt : s.draw.2.wt = s.wt := rfl
@[simp] theorem State.draw_wtFrac : s.draw.2.wtFrac = s.wtFrac := rfl
@[simp] theorem State.draw_cores : s.draw.2.cores = s.cores := rfl
@[simp] theorem State.draw_clusters : s.draw.2.clusters = s.clusters := rfl
@[simp] theorem State.draw_net : s.draw.2.net = s.net := rfl
@[simp] theorem State.draw_dram : s.draw.2.dram = s.dram := rfl
@[simp] theorem State.draw_fields : s.draw.2.fields = s.fields := rfl
@[simp] theorem State.draw_parts : s.draw.2.parts = s.parts := rfl
@[simp] theorem State.draw_ports : s.draw.2.ports = s.ports := rfl
@[simp] theorem State.draw_sent : s.draw.2.sent = s.sent := rfl
@[simp] theorem State.draw_clocks : s.draw.2.clocks = s.clocks := rfl
@[simp] theorem State.draw_regions : s.draw.2.regions = s.regions := rfl
@[simp] theorem State.draw_power : s.draw.2.power = s.power := rfl
@[simp] theorem State.draw_hdp : s.draw.2.hdp = s.hdp := rfl
@[simp] theorem State.draw_msc : s.draw.2.msc = s.msc := rfl
@[simp] theorem State.draw_fabric : s.draw.2.fabric = s.fabric := rfl
@[simp] theorem State.draw_dict : s.draw.2.dict = s.dict := rfl
@[simp] theorem State.draw_fst : s.draw.1 = s.free := rfl
@[simp] theorem State.draw_free : s.draw.2.free = s.free + 1 := rfl

/-! ### Something leaves the module -/

@[simp] theorem State.emit_pending (x : Sent) : (s.emit x).pending = s.pending := by unfold emit; dsimp only; split <;> rfl
@[simp] theorem State.emit_free (x : Sent) : (s.emit x).free = s.free := by unfold emit; dsimp only; split <;> rfl
@[simp] theorem State.emit_wt (x : Sent) : (s.emit x).wt = s.wt := by unfold emit; dsimp only; split <;> rfl
@[simp] theorem State.emit_wtFrac (x : Sent) : (s.emit x).wtFrac = s.wtFrac := by
  unfold emit; dsimp only; split <;> rfl
@[simp] theorem State.emit_cores (x : Sent) : (s.emit x).cores = s.cores := by unfold emit; dsimp only; split <;> rfl
@[simp] theorem State.emit_clusters (x : Sent) : (s.emit x).clusters = s.clusters := by unfold emit; dsimp only; split <;> rfl
@[simp] theorem State.emit_net (x : Sent) : (s.emit x).net = s.net := by unfold emit; dsimp only; split <;> rfl
@[simp] theorem State.emit_dram (x : Sent) : (s.emit x).dram = s.dram := by unfold emit; dsimp only; split <;> rfl
@[simp] theorem State.emit_fields (x : Sent) : (s.emit x).fields = s.fields := by unfold emit; dsimp only; split <;> rfl
@[simp] theorem State.emit_parts (x : Sent) : (s.emit x).parts = s.parts := by unfold emit; dsimp only; split <;> rfl
@[simp] theorem State.emit_ports (x : Sent) : (s.emit x).ports = s.ports := by unfold emit; dsimp only; split <;> rfl
@[simp] theorem State.emit_clocks (x : Sent) : (s.emit x).clocks = s.clocks := by unfold emit; dsimp only; split <;> rfl
@[simp] theorem State.emit_regions (x : Sent) : (s.emit x).regions = s.regions := by unfold emit; dsimp only; split <;> rfl
@[simp] theorem State.emit_power (x : Sent) : (s.emit x).power = s.power := by unfold emit; dsimp only; split <;> rfl
@[simp] theorem State.emit_hdp (x : Sent) : (s.emit x).hdp = s.hdp := by unfold emit; dsimp only; split <;> rfl
@[simp] theorem State.emit_msc (x : Sent) : (s.emit x).msc = s.msc := by unfold emit; dsimp only; split <;> rfl
@[simp] theorem State.emit_fabric (x : Sent) : (s.emit x).fabric = s.fabric := by unfold emit; dsimp only; split <;> rfl
@[simp] theorem State.emit_sent (x : Sent) : (s.emit x).sent = s.sent ++ [x] := by unfold emit; dsimp only; split <;> rfl

/-! ### Numbers and byte strings of the dictionary -/

@[simp] theorem State.num_setNum_same (key v : Nat) : (s.setNum key v).num key = v := by simp [num, setNum]
theorem State.num_setNum_ne {key key' : Nat} (v : Nat) (h : key' ≠ key) : (s.setNum key v).num key' = s.num key' := by
  simp [num, setNum, SMap.get_put_ne h]
@[simp] theorem State.num_addNum_same (key n : Nat) : (s.addNum key n).num key = (s.num key + n) % 2 ^ 64 := by
  simp [addNum]
theorem State.num_addNum_ne {key key' : Nat} (n : Nat) (h : key' ≠ key) : (s.addNum key n).num key' = s.num key' :=
  num_setNum_ne s _ h
@[simp] theorem State.num_setBlob (key : Nat) (v : List Byte) (key' : Nat) : (s.setBlob key v).num key' = s.num key' :=
    rfl
@[simp] theorem State.blob_setBlob_same (key : Nat) (v : List Byte) : (s.setBlob key v).blob key = v := by
  simp [blob, setBlob]
theorem State.blob_setBlob_ne {key key' : Nat} (v : List Byte) (h : key' ≠ key) :
    (s.setBlob key v).blob key' = s.blob key' := by simp [blob, setBlob, SMap.get_put_ne h]
@[simp] theorem State.blob_setNum (key v key' : Nat) : (s.setNum key v).blob key' = s.blob key' := rfl
@[simp] theorem State.blob_addNum (key n key' : Nat) : (s.addNum key n).blob key' = s.blob key' := rfl

/-- What the dictionary reads depends on the dictionary alone. -/
theorem State.num_of_dict {t : State} (h : t.dict = s.dict) (key : Nat) : t.num key = s.num key := by simp only [num, h]
theorem State.blob_of_dict {t : State} (h : t.dict = s.dict) (key : Nat) : t.blob key = s.blob key := by
  simp only [blob, h]

@[simp] theorem State.num_setCore (c : Nat) (k : Core) (key : Nat) : (s.setCore c k).num key = s.num key :=
    rfl
@[simp] theorem State.num_modCore (c : Nat) (f : Core → Core) (key : Nat) : (s.modCore c f).num key = s.num key :=
    rfl
@[simp] theorem State.num_setCluster (k : Nat) (x : Cluster) (key : Nat) : (s.setCluster k x).num key = s.num key :=
    rfl
@[simp] theorem State.num_modCluster (k : Nat) (f : Cluster → Cluster) (key : Nat) : (s.modCluster k f).num key = s.num key :=
    rfl
@[simp] theorem State.num_setField (f : Nat) (x : FieldSt) (key : Nat) : (s.setField f x).num key = s.num key :=
    rfl
@[simp] theorem State.num_modField (f : Nat) (g : FieldSt → FieldSt) (key : Nat) : (s.modField f g).num key = s.num key :=
    rfl
@[simp] theorem State.num_setPart (p : Nat) (x : PartSt) (key : Nat) : (s.setPart p x).num key = s.num key :=
    rfl
@[simp] theorem State.num_modPart (p : Nat) (g : PartSt → PartSt) (key : Nat) : (s.modPart p g).num key = s.num key :=
    rfl
@[simp] theorem State.num_setPort (n : Nat) (x : PortSt) (key : Nat) : (s.setPort n x).num key = s.num key :=
    rfl
@[simp] theorem State.num_modPort (n : Nat) (g : PortSt → PortSt) (key : Nat) : (s.modPort n g).num key = s.num key :=
    rfl
@[simp] theorem State.num_modAssoc (n a : Nat) (g : Assoc → Assoc) (key : Nat) : (s.modAssoc n a g).num key = s.num key :=
    rfl
@[simp] theorem State.num_modRegion (r : Nat) (g : RegionSt → RegionSt) (key : Nat) : (s.modRegion r g).num key = s.num key :=
    rfl
@[simp] theorem State.num_modPower (g : Power → Power) (key : Nat) : (s.modPower g).num key = s.num key :=
    rfl
@[simp] theorem State.num_setPacket (id : Nat) (p : Packet) (key : Nat) : (s.setPacket id p).num key = s.num key :=
    rfl
@[simp] theorem State.num_addPacket (p : Packet) (key : Nat) : (s.addPacket p).num key = s.num key := rfl
@[simp] theorem State.num_dropPacket (id : Nat) (key : Nat) : (s.dropPacket id).num key = s.num key :=
    rfl
@[simp] theorem State.num_modChan (ch : Nat) (g : Chan → Chan) (key : Nat) : (s.modChan ch g).num key = s.num key :=
    rfl
@[simp] theorem State.num_modClk (f : Nat) (g : ClkSt → ClkSt) (key : Nat) : (s.modClk f g).num key = s.num key :=
    rfl
@[simp] theorem State.num_modPtp (g : Ptp → Ptp) (key : Nat) : (s.modPtp g).num key = s.num key := rfl
@[simp] theorem State.num_atTime (t : Nat) (key : Nat) : (s.atTime t).num key = s.num key := rfl
@[simp] theorem State.num_atFabric (k n : Nat) (key : Nat) : (s.atFabric k n).num key = s.num key := by
  unfold State.num; simp only [State.atFabric_dict]
@[simp] theorem State.num_post (a b c d e f g h i : Nat) (key : Nat) : (s.post a b c d e f g h i).num key = s.num key :=
    rfl
/-! ### Units that an update does not touch -/

/-- A core that nothing has touched depends on its region's last reset alone. -/
theorem State.freshCore_of_region {t : State} {d : Nat}
    (h1 : (t.region (d / 32 / 96 % 12)).seedAt = (s.region (d / 32 / 96 % 12)).seedAt)
    (h2 : (t.region (d / 32 / 96 % 12)).sinceAt = (s.region (d / 32 / 96 % 12)).sinceAt)
    (h3 : (t.region (d / 32 / 96 % 12)).sinceNsAt = (s.region (d / 32 / 96 % 12)).sinceNsAt) :
    t.freshCore d = s.freshCore d := by
  simp only [region] at h1 h2 h3
  simp only [freshCore, seedFor, h1, h2, h3]

/-- An update of a region that keeps its last reset changes no core. -/
theorem State.core_modRegion {r : Nat} {g : RegionSt → RegionSt} (h1 : (g (s.region r)).seedAt = (s.region r).seedAt)
    (h2 : (g (s.region r)).sinceAt = (s.region r).sinceAt) (h3 : (g (s.region r)).sinceNsAt = (s.region r).sinceNsAt)
    (d : Nat) : (s.modRegion r g).core d = s.core d := by
  have e : (s.modRegion r g).freshCore d = s.freshCore d := by
    by_cases q : d / 32 / 96 % 12 = r
    · apply freshCore_of_region <;> simpa only [q, region, modRegion, SMap.get_put_same]
    · apply freshCore_of_region <;> simp only [region, modRegion, SMap.get_put_ne q]
  rw [core, e]; rfl
/-- An update of a region that keeps its message plane's last reset changes no cluster. -/
theorem State.cluster_modRegion {r : Nat} {g : RegionSt → RegionSt}
    (h : (g (s.region r)).mpSeedAt = (s.region r).mpSeedAt) (j : Nat) : (s.modRegion r g).cluster j = s.cluster j := by
  have e : (s.modRegion r g).mpSeedFor j = s.mpSeedFor j := by
    simp only [mpSeedFor, modRegion]
    by_cases q : j / 96 % 12 = r
    · simp only [q, SMap.get_put_same, h]; rfl
    · simp only [SMap.get_put_ne q]
  simp only [cluster, e]; rfl

@[simp] theorem State.core_setCluster (k : Nat) (x : Cluster) (d : Nat) : (s.setCluster k x).core d = s.core d :=
    rfl
@[simp] theorem State.core_modCluster (k : Nat) (f : Cluster → Cluster) (d : Nat) : (s.modCluster k f).core d = s.core d :=
    rfl
@[simp] theorem State.core_setField (f : Nat) (x : FieldSt) (d : Nat) : (s.setField f x).core d = s.core d :=
    rfl
@[simp] theorem State.core_modField (f : Nat) (g : FieldSt → FieldSt) (d : Nat) : (s.modField f g).core d = s.core d :=
    rfl
@[simp] theorem State.core_setPart (p : Nat) (x : PartSt) (d : Nat) : (s.setPart p x).core d = s.core d :=
    rfl
@[simp] theorem State.core_modPart (p : Nat) (g : PartSt → PartSt) (d : Nat) : (s.modPart p g).core d = s.core d :=
    rfl
@[simp] theorem State.core_setPort (n : Nat) (x : PortSt) (d : Nat) : (s.setPort n x).core d = s.core d :=
    rfl
@[simp] theorem State.core_modPort (n : Nat) (g : PortSt → PortSt) (d : Nat) : (s.modPort n g).core d = s.core d :=
    rfl
@[simp] theorem State.core_modAssoc (n a : Nat) (g : Assoc → Assoc) (d : Nat) : (s.modAssoc n a g).core d = s.core d :=
    rfl
@[simp] theorem State.core_setNum (key v : Nat) (d : Nat) : (s.setNum key v).core d = s.core d := rfl
@[simp] theorem State.core_addNum (key n : Nat) (d : Nat) : (s.addNum key n).core d = s.core d := rfl
@[simp] theorem State.core_setBlob (key : Nat) (v : List Byte) (d : Nat) : (s.setBlob key v).core d = s.core d :=
    rfl
@[simp] theorem State.core_modPower (g : Power → Power) (d : Nat) : (s.modPower g).core d = s.core d :=
    rfl
@[simp] theorem State.core_setPacket (id : Nat) (p : Packet) (d : Nat) : (s.setPacket id p).core d = s.core d :=
    rfl
@[simp] theorem State.core_addPacket (p : Packet) (d : Nat) : (s.addPacket p).core d = s.core d := rfl
@[simp] theorem State.core_dropPacket (id : Nat) (d : Nat) : (s.dropPacket id).core d = s.core d := rfl
@[simp] theorem State.core_modChan (ch : Nat) (g : Chan → Chan) (d : Nat) : (s.modChan ch g).core d = s.core d :=
    rfl
@[simp] theorem State.core_modClk (f : Nat) (g : ClkSt → ClkSt) (d : Nat) : (s.modClk f g).core d = s.core d :=
    rfl
@[simp] theorem State.core_modPtp (g : Ptp → Ptp) (d : Nat) : (s.modPtp g).core d = s.core d := rfl
@[simp] theorem State.core_atTime (t : Nat) (d : Nat) : (s.atTime t).core d = s.core d := rfl
@[simp] theorem State.core_atFabric (k n : Nat) (d : Nat) : (s.atFabric k n).core d = s.core d := by
  simp only [core, atFabric_cores, freshCore, seedFor, atFabric_regions]
@[simp] theorem State.core_post (a b c d e f g h i : Nat) (_d : Nat) : (s.post a b c d e f g h i).core d = s.core d :=
    rfl
@[simp] theorem State.core_draw (d : Nat) : s.draw.2.core d = s.core d := rfl
@[simp] theorem State.core_emit (x : Sent) (d : Nat) : (s.emit x).core d = s.core d := by
  simp only [core, emit_cores, freshCore, seedFor, emit_regions]

@[simp] theorem State.cluster_setCore (c : Nat) (k : Core) (j : Nat) : (s.setCore c k).cluster j = s.cluster j :=
    rfl
@[simp] theorem State.cluster_modCore (c : Nat) (f : Core → Core) (j : Nat) : (s.modCore c f).cluster j = s.cluster j :=
    rfl
@[simp] theorem State.cluster_setField (f : Nat) (x : FieldSt) (j : Nat) : (s.setField f x).cluster j = s.cluster j :=
    rfl
@[simp] theorem State.cluster_modField (f : Nat) (g : FieldSt → FieldSt) (j : Nat) : (s.modField f g).cluster j = s.cluster j :=
    rfl
@[simp] theorem State.cluster_setPart (p : Nat) (x : PartSt) (j : Nat) : (s.setPart p x).cluster j = s.cluster j :=
    rfl
@[simp] theorem State.cluster_modPart (p : Nat) (g : PartSt → PartSt) (j : Nat) : (s.modPart p g).cluster j = s.cluster j :=
    rfl
@[simp] theorem State.cluster_setPort (n : Nat) (x : PortSt) (j : Nat) : (s.setPort n x).cluster j = s.cluster j :=
    rfl
@[simp] theorem State.cluster_modPort (n : Nat) (g : PortSt → PortSt) (j : Nat) : (s.modPort n g).cluster j = s.cluster j :=
    rfl
@[simp] theorem State.cluster_modAssoc (n a : Nat) (g : Assoc → Assoc) (j : Nat) : (s.modAssoc n a g).cluster j = s.cluster j :=
    rfl
@[simp] theorem State.cluster_setNum (key v : Nat) (j : Nat) : (s.setNum key v).cluster j = s.cluster j :=
    rfl
@[simp] theorem State.cluster_addNum (key n : Nat) (j : Nat) : (s.addNum key n).cluster j = s.cluster j :=
    rfl
@[simp] theorem State.cluster_setBlob (key : Nat) (v : List Byte) (j : Nat) : (s.setBlob key v).cluster j = s.cluster j :=
    rfl
@[simp] theorem State.cluster_modPower (g : Power → Power) (j : Nat) : (s.modPower g).cluster j = s.cluster j :=
    rfl
@[simp] theorem State.cluster_setPacket (id : Nat) (p : Packet) (j : Nat) : (s.setPacket id p).cluster j = s.cluster j :=
    rfl
@[simp] theorem State.cluster_addPacket (p : Packet) (j : Nat) : (s.addPacket p).cluster j = s.cluster j :=
    rfl
@[simp] theorem State.cluster_dropPacket (id : Nat) (j : Nat) : (s.dropPacket id).cluster j = s.cluster j :=
    rfl
@[simp] theorem State.cluster_modChan (ch : Nat) (g : Chan → Chan) (j : Nat) : (s.modChan ch g).cluster j = s.cluster j :=
    rfl
@[simp] theorem State.cluster_modClk (f : Nat) (g : ClkSt → ClkSt) (j : Nat) : (s.modClk f g).cluster j = s.cluster j :=
    rfl
@[simp] theorem State.cluster_modPtp (g : Ptp → Ptp) (j : Nat) : (s.modPtp g).cluster j = s.cluster j :=
    rfl
@[simp] theorem State.cluster_atTime (t : Nat) (j : Nat) : (s.atTime t).cluster j = s.cluster j := rfl
@[simp] theorem State.cluster_atFabric (k n : Nat) (j : Nat) : (s.atFabric k n).cluster j = s.cluster j := by
  simp only [cluster, atFabric_clusters, mpSeedFor, atFabric_regions]
@[simp] theorem State.cluster_post (a b c d e f g h i : Nat) (j : Nat) : (s.post a b c d e f g h i).cluster j = s.cluster j :=
    rfl
@[simp] theorem State.cluster_draw (j : Nat) : s.draw.2.cluster j = s.cluster j := rfl
@[simp] theorem State.cluster_emit (x : Sent) (j : Nat) : (s.emit x).cluster j = s.cluster j := by simp only [cluster, emit_clusters, mpSeedFor, emit_regions]

@[simp] theorem State.field_setCore (c : Nat) (k : Core) (j : Nat) : (s.setCore c k).field j = s.field j :=
    rfl
@[simp] theorem State.field_modCore (c : Nat) (f : Core → Core) (j : Nat) : (s.modCore c f).field j = s.field j :=
    rfl
@[simp] theorem State.field_setCluster (k : Nat) (x : Cluster) (j : Nat) : (s.setCluster k x).field j = s.field j :=
    rfl
@[simp] theorem State.field_modCluster (k : Nat) (f : Cluster → Cluster) (j : Nat) : (s.modCluster k f).field j = s.field j :=
    rfl
@[simp] theorem State.field_setPart (p : Nat) (x : PartSt) (j : Nat) : (s.setPart p x).field j = s.field j :=
    rfl
@[simp] theorem State.field_modPart (p : Nat) (g : PartSt → PartSt) (j : Nat) : (s.modPart p g).field j = s.field j :=
    rfl
@[simp] theorem State.field_setPort (n : Nat) (x : PortSt) (j : Nat) : (s.setPort n x).field j = s.field j :=
    rfl
@[simp] theorem State.field_modPort (n : Nat) (g : PortSt → PortSt) (j : Nat) : (s.modPort n g).field j = s.field j :=
    rfl
@[simp] theorem State.field_modAssoc (n a : Nat) (g : Assoc → Assoc) (j : Nat) : (s.modAssoc n a g).field j = s.field j :=
    rfl
@[simp] theorem State.field_setNum (key v : Nat) (j : Nat) : (s.setNum key v).field j = s.field j := rfl
@[simp] theorem State.field_addNum (key n : Nat) (j : Nat) : (s.addNum key n).field j = s.field j := rfl
@[simp] theorem State.field_setBlob (key : Nat) (v : List Byte) (j : Nat) : (s.setBlob key v).field j = s.field j :=
    rfl
@[simp] theorem State.field_modRegion (r : Nat) (g : RegionSt → RegionSt) (j : Nat) : (s.modRegion r g).field j = s.field j :=
    rfl
@[simp] theorem State.field_modPower (g : Power → Power) (j : Nat) : (s.modPower g).field j = s.field j :=
    rfl
@[simp] theorem State.field_setPacket (id : Nat) (p : Packet) (j : Nat) : (s.setPacket id p).field j = s.field j :=
    rfl
@[simp] theorem State.field_addPacket (p : Packet) (j : Nat) : (s.addPacket p).field j = s.field j := rfl
@[simp] theorem State.field_dropPacket (id : Nat) (j : Nat) : (s.dropPacket id).field j = s.field j :=
    rfl
@[simp] theorem State.field_modChan (ch : Nat) (g : Chan → Chan) (j : Nat) : (s.modChan ch g).field j = s.field j :=
    rfl
@[simp] theorem State.field_modClk (f : Nat) (g : ClkSt → ClkSt) (j : Nat) : (s.modClk f g).field j = s.field j :=
    rfl
@[simp] theorem State.field_modPtp (g : Ptp → Ptp) (j : Nat) : (s.modPtp g).field j = s.field j := rfl
@[simp] theorem State.field_atTime (t : Nat) (j : Nat) : (s.atTime t).field j = s.field j := rfl
@[simp] theorem State.field_atFabric (k n : Nat) (j : Nat) : (s.atFabric k n).field j = s.field j := by
  unfold State.field; simp only [State.atFabric_fields]
@[simp] theorem State.field_post (a b c d e f g h i : Nat) (j : Nat) : (s.post a b c d e f g h i).field j = s.field j :=
    rfl
@[simp] theorem State.field_draw (j : Nat) : s.draw.2.field j = s.field j := rfl
@[simp] theorem State.field_emit (x : Sent) (j : Nat) : (s.emit x).field j = s.field j := by simp only [field, emit_fields]

@[simp] theorem State.part_setCore (c : Nat) (k : Core) (j : Nat) : (s.setCore c k).part j = s.part j :=
    rfl
@[simp] theorem State.part_modCore (c : Nat) (f : Core → Core) (j : Nat) : (s.modCore c f).part j = s.part j :=
    rfl
@[simp] theorem State.part_setCluster (k : Nat) (x : Cluster) (j : Nat) : (s.setCluster k x).part j = s.part j :=
    rfl
@[simp] theorem State.part_modCluster (k : Nat) (f : Cluster → Cluster) (j : Nat) : (s.modCluster k f).part j = s.part j :=
    rfl
@[simp] theorem State.part_setField (f : Nat) (x : FieldSt) (j : Nat) : (s.setField f x).part j = s.part j :=
    rfl
@[simp] theorem State.part_modField (f : Nat) (g : FieldSt → FieldSt) (j : Nat) : (s.modField f g).part j = s.part j :=
    rfl
@[simp] theorem State.part_setPort (n : Nat) (x : PortSt) (j : Nat) : (s.setPort n x).part j = s.part j :=
    rfl
@[simp] theorem State.part_modPort (n : Nat) (g : PortSt → PortSt) (j : Nat) : (s.modPort n g).part j = s.part j :=
    rfl
@[simp] theorem State.part_modAssoc (n a : Nat) (g : Assoc → Assoc) (j : Nat) : (s.modAssoc n a g).part j = s.part j :=
    rfl
@[simp] theorem State.part_setNum (key v : Nat) (j : Nat) : (s.setNum key v).part j = s.part j := rfl
@[simp] theorem State.part_addNum (key n : Nat) (j : Nat) : (s.addNum key n).part j = s.part j := rfl
@[simp] theorem State.part_setBlob (key : Nat) (v : List Byte) (j : Nat) : (s.setBlob key v).part j = s.part j :=
    rfl
@[simp] theorem State.part_modRegion (r : Nat) (g : RegionSt → RegionSt) (j : Nat) : (s.modRegion r g).part j = s.part j :=
    rfl
@[simp] theorem State.part_modPower (g : Power → Power) (j : Nat) : (s.modPower g).part j = s.part j :=
    rfl
@[simp] theorem State.part_setPacket (id : Nat) (p : Packet) (j : Nat) : (s.setPacket id p).part j = s.part j :=
    rfl
@[simp] theorem State.part_addPacket (p : Packet) (j : Nat) : (s.addPacket p).part j = s.part j := rfl
@[simp] theorem State.part_dropPacket (id : Nat) (j : Nat) : (s.dropPacket id).part j = s.part j := rfl
@[simp] theorem State.part_modChan (ch : Nat) (g : Chan → Chan) (j : Nat) : (s.modChan ch g).part j = s.part j :=
    rfl
@[simp] theorem State.part_modClk (f : Nat) (g : ClkSt → ClkSt) (j : Nat) : (s.modClk f g).part j = s.part j :=
    rfl
@[simp] theorem State.part_modPtp (g : Ptp → Ptp) (j : Nat) : (s.modPtp g).part j = s.part j := rfl
@[simp] theorem State.part_atTime (t : Nat) (j : Nat) : (s.atTime t).part j = s.part j := rfl
@[simp] theorem State.part_atFabric (k n : Nat) (j : Nat) : (s.atFabric k n).part j = s.part j := by
  unfold State.part; simp only [State.atFabric_parts]
@[simp] theorem State.part_post (a b c d e f g h i : Nat) (j : Nat) : (s.post a b c d e f g h i).part j = s.part j :=
    rfl
@[simp] theorem State.part_draw (j : Nat) : s.draw.2.part j = s.part j := rfl
@[simp] theorem State.part_emit (x : Sent) (j : Nat) : (s.emit x).part j = s.part j := by simp only [part, emit_parts]

@[simp] theorem State.port_setCore (c : Nat) (k : Core) (j : Nat) : (s.setCore c k).port j = s.port j :=
    rfl
@[simp] theorem State.port_modCore (c : Nat) (f : Core → Core) (j : Nat) : (s.modCore c f).port j = s.port j :=
    rfl
@[simp] theorem State.port_setCluster (k : Nat) (x : Cluster) (j : Nat) : (s.setCluster k x).port j = s.port j :=
    rfl
@[simp] theorem State.port_modCluster (k : Nat) (f : Cluster → Cluster) (j : Nat) : (s.modCluster k f).port j = s.port j :=
    rfl
@[simp] theorem State.port_setField (f : Nat) (x : FieldSt) (j : Nat) : (s.setField f x).port j = s.port j :=
    rfl
@[simp] theorem State.port_modField (f : Nat) (g : FieldSt → FieldSt) (j : Nat) : (s.modField f g).port j = s.port j :=
    rfl
@[simp] theorem State.port_setPart (p : Nat) (x : PartSt) (j : Nat) : (s.setPart p x).port j = s.port j :=
    rfl
@[simp] theorem State.port_modPart (p : Nat) (g : PartSt → PartSt) (j : Nat) : (s.modPart p g).port j = s.port j :=
    rfl
@[simp] theorem State.port_setNum (key v : Nat) (j : Nat) : (s.setNum key v).port j = s.port j := rfl
@[simp] theorem State.port_addNum (key n : Nat) (j : Nat) : (s.addNum key n).port j = s.port j := rfl
@[simp] theorem State.port_setBlob (key : Nat) (v : List Byte) (j : Nat) : (s.setBlob key v).port j = s.port j :=
    rfl
@[simp] theorem State.port_modRegion (r : Nat) (g : RegionSt → RegionSt) (j : Nat) : (s.modRegion r g).port j = s.port j :=
    rfl
@[simp] theorem State.port_modPower (g : Power → Power) (j : Nat) : (s.modPower g).port j = s.port j :=
    rfl
@[simp] theorem State.port_setPacket (id : Nat) (p : Packet) (j : Nat) : (s.setPacket id p).port j = s.port j :=
    rfl
@[simp] theorem State.port_addPacket (p : Packet) (j : Nat) : (s.addPacket p).port j = s.port j := rfl
@[simp] theorem State.port_dropPacket (id : Nat) (j : Nat) : (s.dropPacket id).port j = s.port j := rfl
@[simp] theorem State.port_modChan (ch : Nat) (g : Chan → Chan) (j : Nat) : (s.modChan ch g).port j = s.port j :=
    rfl
@[simp] theorem State.port_modClk (f : Nat) (g : ClkSt → ClkSt) (j : Nat) : (s.modClk f g).port j = s.port j :=
    rfl
@[simp] theorem State.port_modPtp (g : Ptp → Ptp) (j : Nat) : (s.modPtp g).port j = s.port j := rfl
@[simp] theorem State.port_atTime (t : Nat) (j : Nat) : (s.atTime t).port j = s.port j := rfl
@[simp] theorem State.port_atFabric (k n : Nat) (j : Nat) : (s.atFabric k n).port j = s.port j := by
  unfold State.port; simp only [State.atFabric_ports]
@[simp] theorem State.port_post (a b c d e f g h i : Nat) (j : Nat) : (s.post a b c d e f g h i).port j = s.port j :=
    rfl
@[simp] theorem State.port_draw (j : Nat) : s.draw.2.port j = s.port j := rfl
@[simp] theorem State.port_emit (x : Sent) (j : Nat) : (s.emit x).port j = s.port j := by simp only [port, emit_ports]

@[simp] theorem State.region_setCore (c : Nat) (k : Core) (j : Nat) : (s.setCore c k).region j = s.region j :=
    rfl
@[simp] theorem State.region_modCore (c : Nat) (f : Core → Core) (j : Nat) : (s.modCore c f).region j = s.region j :=
    rfl
@[simp] theorem State.region_setCluster (k : Nat) (x : Cluster) (j : Nat) : (s.setCluster k x).region j = s.region j :=
    rfl
@[simp] theorem State.region_modCluster (k : Nat) (f : Cluster → Cluster) (j : Nat) : (s.modCluster k f).region j = s.region j :=
    rfl
@[simp] theorem State.region_setField (f : Nat) (x : FieldSt) (j : Nat) : (s.setField f x).region j = s.region j :=
    rfl
@[simp] theorem State.region_modField (f : Nat) (g : FieldSt → FieldSt) (j : Nat) : (s.modField f g).region j = s.region j :=
    rfl
@[simp] theorem State.region_setPart (p : Nat) (x : PartSt) (j : Nat) : (s.setPart p x).region j = s.region j :=
    rfl
@[simp] theorem State.region_modPart (p : Nat) (g : PartSt → PartSt) (j : Nat) : (s.modPart p g).region j = s.region j :=
    rfl
@[simp] theorem State.region_setPort (n : Nat) (x : PortSt) (j : Nat) : (s.setPort n x).region j = s.region j :=
    rfl
@[simp] theorem State.region_modPort (n : Nat) (g : PortSt → PortSt) (j : Nat) : (s.modPort n g).region j = s.region j :=
    rfl
@[simp] theorem State.region_modAssoc (n a : Nat) (g : Assoc → Assoc) (j : Nat) : (s.modAssoc n a g).region j = s.region j :=
    rfl
@[simp] theorem State.region_setNum (key v : Nat) (j : Nat) : (s.setNum key v).region j = s.region j :=
    rfl
@[simp] theorem State.region_addNum (key n : Nat) (j : Nat) : (s.addNum key n).region j = s.region j :=
    rfl
@[simp] theorem State.region_setBlob (key : Nat) (v : List Byte) (j : Nat) : (s.setBlob key v).region j = s.region j :=
    rfl
@[simp] theorem State.region_modPower (g : Power → Power) (j : Nat) : (s.modPower g).region j = s.region j :=
    rfl
@[simp] theorem State.region_setPacket (id : Nat) (p : Packet) (j : Nat) : (s.setPacket id p).region j = s.region j :=
    rfl
@[simp] theorem State.region_addPacket (p : Packet) (j : Nat) : (s.addPacket p).region j = s.region j :=
    rfl
@[simp] theorem State.region_dropPacket (id : Nat) (j : Nat) : (s.dropPacket id).region j = s.region j :=
    rfl
@[simp] theorem State.region_modChan (ch : Nat) (g : Chan → Chan) (j : Nat) : (s.modChan ch g).region j = s.region j :=
    rfl
@[simp] theorem State.region_modClk (f : Nat) (g : ClkSt → ClkSt) (j : Nat) : (s.modClk f g).region j = s.region j :=
    rfl
@[simp] theorem State.region_modPtp (g : Ptp → Ptp) (j : Nat) : (s.modPtp g).region j = s.region j := rfl
@[simp] theorem State.region_atTime (t : Nat) (j : Nat) : (s.atTime t).region j = s.region j := rfl
@[simp] theorem State.region_atFabric (k n : Nat) (j : Nat) : (s.atFabric k n).region j = s.region j := by
  unfold State.region; simp only [State.atFabric_regions]
@[simp] theorem State.region_post (a b c d e f g h i : Nat) (j : Nat) : (s.post a b c d e f g h i).region j = s.region j :=
    rfl
@[simp] theorem State.region_draw (j : Nat) : s.draw.2.region j = s.region j := rfl
@[simp] theorem State.region_emit (x : Sent) (j : Nat) : (s.emit x).region j = s.region j := by simp only [region, emit_regions]

@[simp] theorem State.chan_setCore (c : Nat) (k : Core) (j : Nat) : (s.setCore c k).chan j = s.chan j :=
    rfl
@[simp] theorem State.chan_modCore (c : Nat) (f : Core → Core) (j : Nat) : (s.modCore c f).chan j = s.chan j :=
    rfl
@[simp] theorem State.chan_setCluster (k : Nat) (x : Cluster) (j : Nat) : (s.setCluster k x).chan j = s.chan j :=
    rfl
@[simp] theorem State.chan_modCluster (k : Nat) (f : Cluster → Cluster) (j : Nat) : (s.modCluster k f).chan j = s.chan j :=
    rfl
@[simp] theorem State.chan_setField (f : Nat) (x : FieldSt) (j : Nat) : (s.setField f x).chan j = s.chan j :=
    rfl
@[simp] theorem State.chan_modField (f : Nat) (g : FieldSt → FieldSt) (j : Nat) : (s.modField f g).chan j = s.chan j :=
    rfl
@[simp] theorem State.chan_setPart (p : Nat) (x : PartSt) (j : Nat) : (s.setPart p x).chan j = s.chan j :=
    rfl
@[simp] theorem State.chan_modPart (p : Nat) (g : PartSt → PartSt) (j : Nat) : (s.modPart p g).chan j = s.chan j :=
    rfl
@[simp] theorem State.chan_setPort (n : Nat) (x : PortSt) (j : Nat) : (s.setPort n x).chan j = s.chan j :=
    rfl
@[simp] theorem State.chan_modPort (n : Nat) (g : PortSt → PortSt) (j : Nat) : (s.modPort n g).chan j = s.chan j :=
    rfl
@[simp] theorem State.chan_modAssoc (n a : Nat) (g : Assoc → Assoc) (j : Nat) : (s.modAssoc n a g).chan j = s.chan j :=
    rfl
@[simp] theorem State.chan_setNum (key v : Nat) (j : Nat) : (s.setNum key v).chan j = s.chan j := rfl
@[simp] theorem State.chan_addNum (key n : Nat) (j : Nat) : (s.addNum key n).chan j = s.chan j := rfl
@[simp] theorem State.chan_setBlob (key : Nat) (v : List Byte) (j : Nat) : (s.setBlob key v).chan j = s.chan j :=
    rfl
@[simp] theorem State.chan_modRegion (r : Nat) (g : RegionSt → RegionSt) (j : Nat) : (s.modRegion r g).chan j = s.chan j :=
    rfl
@[simp] theorem State.chan_modPower (g : Power → Power) (j : Nat) : (s.modPower g).chan j = s.chan j :=
    rfl
@[simp] theorem State.chan_setPacket (id : Nat) (p : Packet) (j : Nat) : (s.setPacket id p).chan j = s.chan j :=
    rfl
@[simp] theorem State.chan_addPacket (p : Packet) (j : Nat) : (s.addPacket p).chan j = s.chan j := rfl
@[simp] theorem State.chan_dropPacket (id : Nat) (j : Nat) : (s.dropPacket id).chan j = s.chan j := rfl
@[simp] theorem State.chan_modClk (f : Nat) (g : ClkSt → ClkSt) (j : Nat) : (s.modClk f g).chan j = s.chan j :=
    rfl
@[simp] theorem State.chan_modPtp (g : Ptp → Ptp) (j : Nat) : (s.modPtp g).chan j = s.chan j := rfl
@[simp] theorem State.chan_atTime (t : Nat) (j : Nat) : (s.atTime t).chan j = s.chan j := rfl
@[simp] theorem State.chan_atFabric (k n : Nat) (j : Nat) : (s.atFabric k n).chan j = s.chan j := by
  unfold State.chan; simp only [State.atFabric_dram]
@[simp] theorem State.chan_post (a b c d e f g h i : Nat) (j : Nat) : (s.post a b c d e f g h i).chan j = s.chan j :=
    rfl
@[simp] theorem State.chan_draw (j : Nat) : s.draw.2.chan j = s.chan j := rfl
@[simp] theorem State.chan_emit (x : Sent) (j : Nat) : (s.emit x).chan j = s.chan j := by simp only [chan, emit_dram]

@[simp] theorem State.clk_setCore (c : Nat) (k : Core) (j : Nat) : (s.setCore c k).clk j = s.clk j := rfl
@[simp] theorem State.clk_modCore (c : Nat) (f : Core → Core) (j : Nat) : (s.modCore c f).clk j = s.clk j :=
    rfl
@[simp] theorem State.clk_setCluster (k : Nat) (x : Cluster) (j : Nat) : (s.setCluster k x).clk j = s.clk j :=
    rfl
@[simp] theorem State.clk_modCluster (k : Nat) (f : Cluster → Cluster) (j : Nat) : (s.modCluster k f).clk j = s.clk j :=
    rfl
@[simp] theorem State.clk_setField (f : Nat) (x : FieldSt) (j : Nat) : (s.setField f x).clk j = s.clk j :=
    rfl
@[simp] theorem State.clk_modField (f : Nat) (g : FieldSt → FieldSt) (j : Nat) : (s.modField f g).clk j = s.clk j :=
    rfl
@[simp] theorem State.clk_setPart (p : Nat) (x : PartSt) (j : Nat) : (s.setPart p x).clk j = s.clk j :=
    rfl
@[simp] theorem State.clk_modPart (p : Nat) (g : PartSt → PartSt) (j : Nat) : (s.modPart p g).clk j = s.clk j :=
    rfl
@[simp] theorem State.clk_setPort (n : Nat) (x : PortSt) (j : Nat) : (s.setPort n x).clk j = s.clk j :=
    rfl
@[simp] theorem State.clk_modPort (n : Nat) (g : PortSt → PortSt) (j : Nat) : (s.modPort n g).clk j = s.clk j :=
    rfl
@[simp] theorem State.clk_modAssoc (n a : Nat) (g : Assoc → Assoc) (j : Nat) : (s.modAssoc n a g).clk j = s.clk j :=
    rfl
@[simp] theorem State.clk_setNum (key v : Nat) (j : Nat) : (s.setNum key v).clk j = s.clk j := rfl
@[simp] theorem State.clk_addNum (key n : Nat) (j : Nat) : (s.addNum key n).clk j = s.clk j := rfl
@[simp] theorem State.clk_setBlob (key : Nat) (v : List Byte) (j : Nat) : (s.setBlob key v).clk j = s.clk j :=
    rfl
@[simp] theorem State.clk_modRegion (r : Nat) (g : RegionSt → RegionSt) (j : Nat) : (s.modRegion r g).clk j = s.clk j :=
    rfl
@[simp] theorem State.clk_modPower (g : Power → Power) (j : Nat) : (s.modPower g).clk j = s.clk j := rfl
@[simp] theorem State.clk_setPacket (id : Nat) (p : Packet) (j : Nat) : (s.setPacket id p).clk j = s.clk j :=
    rfl
@[simp] theorem State.clk_addPacket (p : Packet) (j : Nat) : (s.addPacket p).clk j = s.clk j := rfl
@[simp] theorem State.clk_dropPacket (id : Nat) (j : Nat) : (s.dropPacket id).clk j = s.clk j := rfl
@[simp] theorem State.clk_modChan (ch : Nat) (g : Chan → Chan) (j : Nat) : (s.modChan ch g).clk j = s.clk j :=
    rfl
@[simp] theorem State.clk_atTime (t : Nat) (j : Nat) : (s.atTime t).clk j = s.clk j := rfl
@[simp] theorem State.clk_atFabric (k n : Nat) (j : Nat) : (s.atFabric k n).clk j = s.clk j := by
  unfold State.clk; simp only [State.atFabric_units]
@[simp] theorem State.clk_post (a b c d e f g h i : Nat) (j : Nat) : (s.post a b c d e f g h i).clk j = s.clk j :=
    rfl
@[simp] theorem State.clk_draw (j : Nat) : s.draw.2.clk j = s.clk j := rfl
@[simp] theorem State.clk_emit (x : Sent) (j : Nat) : (s.emit x).clk j = s.clk j := by simp only [clk, emit_clocks]

@[simp] theorem State.session_setCore (c : Nat) (k : Core) (sid : Nat) : (s.setCore c k).session sid = s.session sid :=
    rfl
@[simp] theorem State.session_modCore (c : Nat) (f : Core → Core) (sid : Nat) : (s.modCore c f).session sid = s.session sid :=
    rfl
@[simp] theorem State.session_setCluster (k : Nat) (x : Cluster) (sid : Nat) : (s.setCluster k x).session sid = s.session sid :=
    rfl
@[simp] theorem State.session_modCluster (k : Nat) (f : Cluster → Cluster) (sid : Nat) : (s.modCluster k f).session sid = s.session sid :=
    rfl
@[simp] theorem State.session_setField (f : Nat) (x : FieldSt) (sid : Nat) : (s.setField f x).session sid = s.session sid :=
    rfl
@[simp] theorem State.session_modField (f : Nat) (g : FieldSt → FieldSt) (sid : Nat) : (s.modField f g).session sid = s.session sid :=
    rfl
@[simp] theorem State.session_setPart (p : Nat) (x : PartSt) (sid : Nat) : (s.setPart p x).session sid = s.session sid :=
    rfl
@[simp] theorem State.session_modPart (p : Nat) (g : PartSt → PartSt) (sid : Nat) : (s.modPart p g).session sid = s.session sid :=
    rfl
@[simp] theorem State.session_setPort (n : Nat) (x : PortSt) (sid : Nat) : (s.setPort n x).session sid = s.session sid :=
    rfl
@[simp] theorem State.session_modPort (n : Nat) (g : PortSt → PortSt) (sid : Nat) : (s.modPort n g).session sid = s.session sid :=
    rfl
@[simp] theorem State.session_modAssoc (n a : Nat) (g : Assoc → Assoc) (sid : Nat) : (s.modAssoc n a g).session sid = s.session sid :=
    rfl
@[simp] theorem State.session_setNum (key v : Nat) (sid : Nat) : (s.setNum key v).session sid = s.session sid :=
    rfl
@[simp] theorem State.session_addNum (key n : Nat) (sid : Nat) : (s.addNum key n).session sid = s.session sid :=
    rfl
@[simp] theorem State.session_setBlob (key : Nat) (v : List Byte) (sid : Nat) : (s.setBlob key v).session sid = s.session sid :=
    rfl
@[simp] theorem State.session_modRegion (r : Nat) (g : RegionSt → RegionSt) (sid : Nat) : (s.modRegion r g).session sid = s.session sid :=
    rfl
@[simp] theorem State.session_modPower (g : Power → Power) (sid : Nat) : (s.modPower g).session sid = s.session sid :=
    rfl
@[simp] theorem State.session_setPacket (id : Nat) (p : Packet) (sid : Nat) : (s.setPacket id p).session sid = s.session sid :=
    rfl
@[simp] theorem State.session_addPacket (p : Packet) (sid : Nat) : (s.addPacket p).session sid = s.session sid :=
    rfl
@[simp] theorem State.session_dropPacket (id : Nat) (sid : Nat) : (s.dropPacket id).session sid = s.session sid :=
    rfl
@[simp] theorem State.session_modChan (ch : Nat) (g : Chan → Chan) (sid : Nat) : (s.modChan ch g).session sid = s.session sid :=
    rfl
@[simp] theorem State.session_modClk (f : Nat) (g : ClkSt → ClkSt) (sid : Nat) : (s.modClk f g).session sid = s.session sid :=
    rfl
@[simp] theorem State.session_modPtp (g : Ptp → Ptp) (sid : Nat) : (s.modPtp g).session sid = s.session sid :=
    rfl
@[simp] theorem State.session_atTime (t : Nat) (sid : Nat) : (s.atTime t).session sid = s.session sid :=
    rfl
@[simp] theorem State.session_atFabric (k n : Nat) (sid : Nat) : (s.atFabric k n).session sid = s.session sid := by
  unfold State.session; simp only [State.atFabric_hdp]
@[simp] theorem State.session_post (a b c d e f g h i : Nat) (sid : Nat) : (s.post a b c d e f g h i).session sid = s.session sid :=
    rfl
@[simp] theorem State.session_draw (sid : Nat) : s.draw.2.session sid = s.session sid := rfl
@[simp] theorem State.session_emit (x : Sent) (sid : Nat) : (s.emit x).session sid = s.session sid := by simp only [session, emit_hdp]

@[simp] theorem State.blob_setCore (c : Nat) (k : Core) (key : Nat) : (s.setCore c k).blob key = s.blob key :=
    rfl
@[simp] theorem State.blob_modCore (c : Nat) (f : Core → Core) (key : Nat) : (s.modCore c f).blob key = s.blob key :=
    rfl
@[simp] theorem State.blob_setCluster (k : Nat) (x : Cluster) (key : Nat) : (s.setCluster k x).blob key = s.blob key :=
    rfl
@[simp] theorem State.blob_modCluster (k : Nat) (f : Cluster → Cluster) (key : Nat) : (s.modCluster k f).blob key = s.blob key :=
    rfl
@[simp] theorem State.blob_setField (f : Nat) (x : FieldSt) (key : Nat) : (s.setField f x).blob key = s.blob key :=
    rfl
@[simp] theorem State.blob_modField (f : Nat) (g : FieldSt → FieldSt) (key : Nat) : (s.modField f g).blob key = s.blob key :=
    rfl
@[simp] theorem State.blob_setPart (p : Nat) (x : PartSt) (key : Nat) : (s.setPart p x).blob key = s.blob key :=
    rfl
@[simp] theorem State.blob_modPart (p : Nat) (g : PartSt → PartSt) (key : Nat) : (s.modPart p g).blob key = s.blob key :=
    rfl
@[simp] theorem State.blob_setPort (n : Nat) (x : PortSt) (key : Nat) : (s.setPort n x).blob key = s.blob key :=
    rfl
@[simp] theorem State.blob_modPort (n : Nat) (g : PortSt → PortSt) (key : Nat) : (s.modPort n g).blob key = s.blob key :=
    rfl
@[simp] theorem State.blob_modAssoc (n a : Nat) (g : Assoc → Assoc) (key : Nat) : (s.modAssoc n a g).blob key = s.blob key :=
    rfl
@[simp] theorem State.blob_modRegion (r : Nat) (g : RegionSt → RegionSt) (key : Nat) : (s.modRegion r g).blob key = s.blob key :=
    rfl
@[simp] theorem State.blob_modPower (g : Power → Power) (key : Nat) : (s.modPower g).blob key = s.blob key :=
    rfl
@[simp] theorem State.blob_setPacket (id : Nat) (p : Packet) (key : Nat) : (s.setPacket id p).blob key = s.blob key :=
    rfl
@[simp] theorem State.blob_addPacket (p : Packet) (key : Nat) : (s.addPacket p).blob key = s.blob key :=
    rfl
@[simp] theorem State.blob_dropPacket (id : Nat) (key : Nat) : (s.dropPacket id).blob key = s.blob key :=
    rfl
@[simp] theorem State.blob_modChan (ch : Nat) (g : Chan → Chan) (key : Nat) : (s.modChan ch g).blob key = s.blob key :=
    rfl
@[simp] theorem State.blob_modClk (f : Nat) (g : ClkSt → ClkSt) (key : Nat) : (s.modClk f g).blob key = s.blob key :=
    rfl
@[simp] theorem State.blob_modPtp (g : Ptp → Ptp) (key : Nat) : (s.modPtp g).blob key = s.blob key := rfl
@[simp] theorem State.blob_atTime (t : Nat) (key : Nat) : (s.atTime t).blob key = s.blob key := rfl
@[simp] theorem State.blob_atFabric (k n : Nat) (key : Nat) : (s.atFabric k n).blob key = s.blob key := by
  unfold State.blob; simp only [State.atFabric_dict]
@[simp] theorem State.blob_post (a b c d e f g h i : Nat) (key : Nat) : (s.post a b c d e f g h i).blob key = s.blob key :=
    rfl


/-! ### setNode -/

@[simp] theorem State.setNode_pending (k : Nat) (x : Node) : (s.setNode k x).pending = s.pending := rfl
@[simp] theorem State.setNode_free (k : Nat) (x : Node) : (s.setNode k x).free = s.free := rfl
@[simp] theorem State.setNode_wt (k : Nat) (x : Node) : (s.setNode k x).wt = s.wt := rfl
@[simp] theorem State.setNode_wtFrac (k : Nat) (x : Node) : (s.setNode k x).wtFrac = s.wtFrac := rfl
@[simp] theorem State.setNode_cores (k : Nat) (x : Node) : (s.setNode k x).cores = s.cores := rfl
@[simp] theorem State.setNode_clusters (k : Nat) (x : Node) : (s.setNode k x).clusters = s.clusters := rfl
@[simp] theorem State.setNode_dram (k : Nat) (x : Node) : (s.setNode k x).dram = s.dram := rfl
@[simp] theorem State.setNode_fields (k : Nat) (x : Node) : (s.setNode k x).fields = s.fields := rfl
@[simp] theorem State.setNode_parts (k : Nat) (x : Node) : (s.setNode k x).parts = s.parts := rfl
@[simp] theorem State.setNode_ports (k : Nat) (x : Node) : (s.setNode k x).ports = s.ports := rfl
@[simp] theorem State.setNode_sent (k : Nat) (x : Node) : (s.setNode k x).sent = s.sent := rfl
@[simp] theorem State.setNode_clocks (k : Nat) (x : Node) : (s.setNode k x).clocks = s.clocks := rfl
@[simp] theorem State.setNode_regions (k : Nat) (x : Node) : (s.setNode k x).regions = s.regions := rfl
@[simp] theorem State.setNode_power (k : Nat) (x : Node) : (s.setNode k x).power = s.power := rfl
@[simp] theorem State.setNode_hdp (k : Nat) (x : Node) : (s.setNode k x).hdp = s.hdp := rfl
@[simp] theorem State.setNode_msc (k : Nat) (x : Node) : (s.setNode k x).msc = s.msc := rfl
@[simp] theorem State.setNode_fabric (k : Nat) (x : Node) : (s.setNode k x).fabric = s.fabric := rfl
@[simp] theorem State.setNode_dict (k : Nat) (x : Node) : (s.setNode k x).dict = s.dict := rfl
@[simp] theorem State.setNode_packets (k : Nat) (x : Node) : (s.setNode k x).net.packets = s.net.packets := rfl
@[simp] theorem State.setNode_nextId (k : Nat) (x : Node) : (s.setNode k x).net.nextId = s.net.nextId := rfl
@[simp] theorem State.setNode_ctl (k : Nat) (x : Node) : (s.setNode k x).net.ctl = s.net.ctl := rfl
@[simp] theorem State.core_setNode (k : Nat) (x : Node) (d : Nat) : (s.setNode k x).core d = s.core d := rfl
@[simp] theorem State.cluster_setNode (k : Nat) (x : Node) (j : Nat) : (s.setNode k x).cluster j = s.cluster j := rfl
@[simp] theorem State.field_setNode (k : Nat) (x : Node) (j : Nat) : (s.setNode k x).field j = s.field j := rfl
@[simp] theorem State.part_setNode (k : Nat) (x : Node) (j : Nat) : (s.setNode k x).part j = s.part j := rfl
@[simp] theorem State.port_setNode (k : Nat) (x : Node) (j : Nat) : (s.setNode k x).port j = s.port j := rfl
@[simp] theorem State.region_setNode (k : Nat) (x : Node) (j : Nat) : (s.setNode k x).region j = s.region j := rfl
@[simp] theorem State.chan_setNode (k : Nat) (x : Node) (j : Nat) : (s.setNode k x).chan j = s.chan j := rfl
@[simp] theorem State.clk_setNode (k : Nat) (x : Node) (j : Nat) : (s.setNode k x).clk j = s.clk j := rfl
@[simp] theorem State.num_setNode (k : Nat) (x : Node) (key : Nat) : (s.setNode k x).num key = s.num key := rfl
@[simp] theorem State.blob_setNode (k : Nat) (x : Node) (key : Nat) : (s.setNode k x).blob key = s.blob key := rfl
@[simp] theorem State.session_setNode (k : Nat) (x : Node) (sid : Nat) : (s.setNode k x).session sid = s.session sid := rfl

/-! ### modNode -/

@[simp] theorem State.modNode_pending (k : Nat) (g : Node → Node) : (s.modNode k g).pending = s.pending := rfl
@[simp] theorem State.modNode_free (k : Nat) (g : Node → Node) : (s.modNode k g).free = s.free := rfl
@[simp] theorem State.modNode_wt (k : Nat) (g : Node → Node) : (s.modNode k g).wt = s.wt := rfl
@[simp] theorem State.modNode_wtFrac (k : Nat) (g : Node → Node) : (s.modNode k g).wtFrac = s.wtFrac := rfl
@[simp] theorem State.modNode_cores (k : Nat) (g : Node → Node) : (s.modNode k g).cores = s.cores := rfl
@[simp] theorem State.modNode_clusters (k : Nat) (g : Node → Node) : (s.modNode k g).clusters = s.clusters := rfl
@[simp] theorem State.modNode_dram (k : Nat) (g : Node → Node) : (s.modNode k g).dram = s.dram := rfl
@[simp] theorem State.modNode_fields (k : Nat) (g : Node → Node) : (s.modNode k g).fields = s.fields := rfl
@[simp] theorem State.modNode_parts (k : Nat) (g : Node → Node) : (s.modNode k g).parts = s.parts := rfl
@[simp] theorem State.modNode_ports (k : Nat) (g : Node → Node) : (s.modNode k g).ports = s.ports := rfl
@[simp] theorem State.modNode_sent (k : Nat) (g : Node → Node) : (s.modNode k g).sent = s.sent := rfl
@[simp] theorem State.modNode_clocks (k : Nat) (g : Node → Node) : (s.modNode k g).clocks = s.clocks := rfl
@[simp] theorem State.modNode_regions (k : Nat) (g : Node → Node) : (s.modNode k g).regions = s.regions := rfl
@[simp] theorem State.modNode_power (k : Nat) (g : Node → Node) : (s.modNode k g).power = s.power := rfl
@[simp] theorem State.modNode_hdp (k : Nat) (g : Node → Node) : (s.modNode k g).hdp = s.hdp := rfl
@[simp] theorem State.modNode_msc (k : Nat) (g : Node → Node) : (s.modNode k g).msc = s.msc := rfl
@[simp] theorem State.modNode_fabric (k : Nat) (g : Node → Node) : (s.modNode k g).fabric = s.fabric := rfl
@[simp] theorem State.modNode_dict (k : Nat) (g : Node → Node) : (s.modNode k g).dict = s.dict := rfl
@[simp] theorem State.modNode_packets (k : Nat) (g : Node → Node) : (s.modNode k g).net.packets = s.net.packets := rfl
@[simp] theorem State.modNode_nextId (k : Nat) (g : Node → Node) : (s.modNode k g).net.nextId = s.net.nextId := rfl
@[simp] theorem State.modNode_ctl (k : Nat) (g : Node → Node) : (s.modNode k g).net.ctl = s.net.ctl := rfl
@[simp] theorem State.core_modNode (k : Nat) (g : Node → Node) (d : Nat) : (s.modNode k g).core d = s.core d := rfl
@[simp] theorem State.cluster_modNode (k : Nat) (g : Node → Node) (j : Nat) : (s.modNode k g).cluster j = s.cluster j := rfl
@[simp] theorem State.field_modNode (k : Nat) (g : Node → Node) (j : Nat) : (s.modNode k g).field j = s.field j := rfl
@[simp] theorem State.part_modNode (k : Nat) (g : Node → Node) (j : Nat) : (s.modNode k g).part j = s.part j := rfl
@[simp] theorem State.port_modNode (k : Nat) (g : Node → Node) (j : Nat) : (s.modNode k g).port j = s.port j := rfl
@[simp] theorem State.region_modNode (k : Nat) (g : Node → Node) (j : Nat) : (s.modNode k g).region j = s.region j := rfl
@[simp] theorem State.chan_modNode (k : Nat) (g : Node → Node) (j : Nat) : (s.modNode k g).chan j = s.chan j := rfl
@[simp] theorem State.clk_modNode (k : Nat) (g : Node → Node) (j : Nat) : (s.modNode k g).clk j = s.clk j := rfl
@[simp] theorem State.num_modNode (k : Nat) (g : Node → Node) (key : Nat) : (s.modNode k g).num key = s.num key := rfl
@[simp] theorem State.blob_modNode (k : Nat) (g : Node → Node) (key : Nat) : (s.modNode k g).blob key = s.blob key := rfl
@[simp] theorem State.session_modNode (k : Nat) (g : Node → Node) (sid : Nat) : (s.modNode k g).session sid = s.session sid := rfl

/-! ### Nodes of the message plane -/

@[simp] theorem State.node_setCore (c : Nat) (k : Core) (j : Nat) : (s.setCore c k).node j = s.node j := rfl
@[simp] theorem State.node_modCore (c : Nat) (f : Core → Core) (j : Nat) : (s.modCore c f).node j = s.node j := rfl
@[simp] theorem State.node_setCluster (k : Nat) (x : Cluster) (j : Nat) : (s.setCluster k x).node j = s.node j := rfl
@[simp] theorem State.node_modCluster (k : Nat) (f : Cluster → Cluster) (j : Nat) : (s.modCluster k f).node j = s.node j := rfl
@[simp] theorem State.node_setField (f : Nat) (x : FieldSt) (j : Nat) : (s.setField f x).node j = s.node j := rfl
@[simp] theorem State.node_modField (f : Nat) (g : FieldSt → FieldSt) (j : Nat) : (s.modField f g).node j = s.node j := rfl
@[simp] theorem State.node_setPart (p : Nat) (x : PartSt) (j : Nat) : (s.setPart p x).node j = s.node j := rfl
@[simp] theorem State.node_modPart (p : Nat) (g : PartSt → PartSt) (j : Nat) : (s.modPart p g).node j = s.node j := rfl
@[simp] theorem State.node_setPort (n : Nat) (x : PortSt) (j : Nat) : (s.setPort n x).node j = s.node j := rfl
@[simp] theorem State.node_modPort (n : Nat) (g : PortSt → PortSt) (j : Nat) : (s.modPort n g).node j = s.node j := rfl
@[simp] theorem State.node_modAssoc (n a : Nat) (g : Assoc → Assoc) (j : Nat) : (s.modAssoc n a g).node j = s.node j := rfl
@[simp] theorem State.node_setNum (key v : Nat) (j : Nat) : (s.setNum key v).node j = s.node j := rfl
@[simp] theorem State.node_addNum (key n : Nat) (j : Nat) : (s.addNum key n).node j = s.node j := rfl
@[simp] theorem State.node_setBlob (key : Nat) (v : List Byte) (j : Nat) : (s.setBlob key v).node j = s.node j := rfl
@[simp] theorem State.node_modRegion (r : Nat) (g : RegionSt → RegionSt) (j : Nat) : (s.modRegion r g).node j = s.node j := rfl
@[simp] theorem State.node_modPower (g : Power → Power) (j : Nat) : (s.modPower g).node j = s.node j := rfl
@[simp] theorem State.node_modChan (ch : Nat) (g : Chan → Chan) (j : Nat) : (s.modChan ch g).node j = s.node j := rfl
@[simp] theorem State.node_modClk (f : Nat) (g : ClkSt → ClkSt) (j : Nat) : (s.modClk f g).node j = s.node j := rfl
@[simp] theorem State.node_modPtp (g : Ptp → Ptp) (j : Nat) : (s.modPtp g).node j = s.node j := rfl
@[simp] theorem State.node_atTime (t : Nat) (j : Nat) : (s.atTime t).node j = s.node j := rfl
@[simp] theorem State.node_atFabric (k n : Nat) (j : Nat) : (s.atFabric k n).node j = s.node j := by
  unfold State.node; simp only [State.atFabric_net]
@[simp] theorem State.node_post (a b c d e f g h i : Nat) (j : Nat) : (s.post a b c d e f g h i).node j = s.node j := rfl
@[simp] theorem State.node_setPacket (id : Nat) (p : Packet) (j : Nat) : (s.setPacket id p).node j = s.node j := rfl
@[simp] theorem State.node_addPacket (p : Packet) (j : Nat) : (s.addPacket p).node j = s.node j := rfl
@[simp] theorem State.node_dropPacket (id : Nat) (j : Nat) : (s.dropPacket id).node j = s.node j := rfl
@[simp] theorem State.node_draw (j : Nat) : s.draw.2.node j = s.node j := rfl
@[simp] theorem State.node_emit (x : Sent) (j : Nat) : (s.emit x).node j = s.node j := by simp only [node, emit_net]
@[simp] theorem State.node_setNode_same (k : Nat) (x : Node) : (s.setNode k x).node k = x := by simp [node, setNode]
theorem State.node_setNode_ne {k j : Nat} (x : Node) (h : j ≠ k) : (s.setNode k x).node j = s.node j := by
  simp [node, setNode, SMap.get_put_ne h]
@[simp] theorem State.node_modNode_same (k : Nat) (g : Node → Node) : (s.modNode k g).node k = g (s.node k) := by
  simp [modNode]
theorem State.node_modNode_ne {k j : Nat} (g : Node → Node) (h : j ≠ k) : (s.modNode k g).node j = s.node j :=
  node_setNode_ne s _ h

/-! ### Units read back -/

@[simp] theorem State.core_setCore_same (c : Nat) (k : Core) : (s.setCore c k).core c = k := by simp [core, setCore]
theorem State.core_setCore_ne {c d : Nat} (k : Core) (h : d ≠ c) : (s.setCore c k).core d = s.core d := by
  exact SMap.get_put_ne h
@[simp] theorem State.cluster_setCluster_same (k : Nat) (x : Cluster) : (s.setCluster k x).cluster k = x := by
  simp [cluster, setCluster]
theorem State.cluster_setCluster_ne {k j : Nat} (x : Cluster) (h : j ≠ k) :
    (s.setCluster k x).cluster j = s.cluster j := by
  exact SMap.get_put_ne h
@[simp] theorem State.cluster_modCluster_same (k : Nat) (f : Cluster → Cluster) :
    (s.modCluster k f).cluster k = f (s.cluster k) := by simp [modCluster]
theorem State.cluster_modCluster_ne {k j : Nat} (f : Cluster → Cluster) (h : j ≠ k) :
    (s.modCluster k f).cluster j = s.cluster j := cluster_setCluster_ne s _ h
@[simp] theorem State.port_setPort_same (n : Nat) (x : PortSt) : (s.setPort n x).port n = x := by simp [port, setPort]
theorem State.port_setPort_ne {n m : Nat} (x : PortSt) (h : m ≠ n) : (s.setPort n x).port m = s.port m := by
  simp [port, setPort, SMap.get_put_ne h]
@[simp] theorem State.port_modPort_same (n : Nat) (g : PortSt → PortSt) : (s.modPort n g).port n = g (s.port n) := by
  simp [modPort]
@[simp] theorem State.assoc_modAssoc_same (n a : Nat) (g : Assoc → Assoc) :
    (s.modAssoc n a g).assoc n a = g (s.assoc n a) := by simp [modAssoc, assoc, PortSt.assoc]
@[simp] theorem State.field_setField_same (f : Nat) (x : FieldSt) : (s.setField f x).field f = x := by
  simp [field, setField]
@[simp] theorem State.part_setPart_same (p : Nat) (x : PartSt) : (s.setPart p x).part p = x := by simp [part, setPart]
theorem State.part_setPart_ne {p r : Nat} (x : PartSt) (h : r ≠ p) : (s.setPart p x).part r = s.part r := by
  simp [part, setPart, SMap.get_put_ne h]
@[simp] theorem State.part_modPart_same (p : Nat) (g : PartSt → PartSt) : (s.modPart p g).part p = g (s.part p) := by
  simp [modPart]
@[simp] theorem State.region_modRegion_same (r : Nat) (g : RegionSt → RegionSt) :
    (s.modRegion r g).region r = g (s.region r) := by simp [region, modRegion]
theorem State.region_modRegion_ne {r j : Nat} (g : RegionSt → RegionSt) (h : j ≠ r) :
    (s.modRegion r g).region j = s.region j := by simp [region, modRegion, SMap.get_put_ne h]
@[simp] theorem State.chan_modChan_same (ch : Nat) (g : Chan → Chan) : (s.modChan ch g).chan ch = g (s.chan ch) := by
  simp [chan, modChan]
@[simp] theorem State.clk_modClk_same (f : Nat) (g : ClkSt → ClkSt) : (s.modClk f g).clk f = g (s.clk f) := by
  simp [clk, modClk]
theorem State.clk_modClk_ne {f j : Nat} (g : ClkSt → ClkSt) (h : j ≠ f) : (s.modClk f g).clk j = s.clk j := by
  simp [clk, modClk, SMap.get_put_ne h]
@[simp] theorem State.modChan_mem (ch : Nat) (g : Chan → Chan) : (s.modChan ch g).dram.mem = s.dram.mem :=
    rfl
@[simp] theorem State.modChan_err (ch : Nat) (g : Chan → Chan) : (s.modChan ch g).dram.err = s.dram.err :=
    rfl
@[simp] theorem State.addPacket_nextId (p : Packet) : (s.addPacket p).net.nextId = s.net.nextId + 1 :=
    rfl
@[simp] theorem State.addPacket_look (p : Packet) : (s.addPacket p).net.packets.look s.net.nextId = some p := by
  simp [addPacket]

/-! ### Registers of a core -/

variable (k : Core)

@[simp] theorem Core.s_zero : k.s 0 = 0 := rfl
@[simp] theorem Core.setS_zero (v : Word) : k.setS 0 v = k := rfl
theorem Core.s_setS_same {r : Nat} (v : Word) (h : r ≠ 0) : (k.setS r v).s r = v := by simp [setS, s, h]
theorem Core.s_setS_ne {r q : Nat} (v : Word) (h : q ≠ r) : (k.setS r v).s q = k.s q := by
  unfold setS s
  split
  · rfl
  · split
    · rfl
    · exact Sparse.rd_wr_ne h
@[simp] theorem Core.tile_setTile_same (t : Nat) (x : TileReg) : (k.setTile t x).tile t = x := by simp [tile, setTile]
theorem Core.tile_setTile_ne {t u : Nat} (x : TileReg) (h : u ≠ t) : (k.setTile t x).tile u = k.tile u := by
  simp [tile, setTile, SMap.get_put_ne h]
@[simp] theorem Core.setS_tiles (r : Nat) (v : Word) : (k.setS r v).tiles = k.tiles := by unfold setS; split <;> rfl
@[simp] theorem Core.setS_accs (r : Nat) (v : Word) : (k.setS r v).accs = k.accs := by unfold setS; split <;> rfl
@[simp] theorem Core.setS_cnt (r : Nat) (v : Word) : (k.setS r v).cnt = k.cnt := by unfold setS; split <;> rfl
@[simp] theorem Core.setS_pc (r : Nat) (v : Word) : (k.setS r v).pc = k.pc := by unfold setS; split <;> rfl
@[simp] theorem Core.setS_acct (r : Nat) (v : Word) : (k.setS r v).acct = k.acct := by unfold setS; split <;> rfl
@[simp] theorem Core.setS_pmem (r : Nat) (v : Word) : (k.setS r v).pmem = k.pmem := by unfold setS; split <;> rfl
@[simp] theorem Core.setS_pmemErr (r : Nat) (v : Word) : (k.setS r v).pmemErr = k.pmemErr := by unfold setS; split <;> rfl
@[simp] theorem Core.setS_store (r : Nat) (v : Word) : (k.setS r v).store = k.store := by unfold setS; split <;> rfl
@[simp] theorem Core.setS_storeErr (r : Nat) (v : Word) : (k.setS r v).storeErr = k.storeErr := by unfold setS; split <;> rfl
@[simp] theorem Core.setS_gen (r : Nat) (v : Word) : (k.setS r v).gen = k.gen := by unfold setS; split <;> rfl
@[simp] theorem Core.setS_seqCtrl (r : Nat) (v : Word) : (k.setS r v).seqCtrl = k.seqCtrl := by unfold setS; split <;> rfl
@[simp] theorem Core.setS_lastStation (r : Nat) (v : Word) : (k.setS r v).lastStation = k.lastStation := by unfold setS; split <;> rfl
@[simp] theorem Core.setS_curStation (r : Nat) (v : Word) : (k.setS r v).curStation = k.curStation := by unfold setS; split <;> rfl
@[simp] theorem Core.setS_firing (r : Nat) (v : Word) : (k.setS r v).firing = k.firing := by unfold setS; split <;> rfl
@[simp] theorem Core.setS_smoulder (r : Nat) (v : Word) : (k.setS r v).smoulder = k.smoulder := by unfold setS; split <;> rfl
@[simp] theorem Core.setS_faulted (r : Nat) (v : Word) : (k.setS r v).faulted = k.faulted := by unfold setS; split <;> rfl
@[simp] theorem Core.setS_restarting (r : Nat) (v : Word) : (k.setS r v).restarting = k.restarting := by unfold setS; split <;> rfl
@[simp] theorem Core.setS_counts (r : Nat) (v : Word) : (k.setS r v).counts = k.counts := by unfold setS; split <;> rfl
@[simp] theorem Core.setS_thresh (r : Nat) (v : Word) : (k.setS r v).thresh = k.thresh := by unfold setS; split <;> rfl
@[simp] theorem Core.setS_cinit (r : Nat) (v : Word) : (k.setS r v).cinit = k.cinit := by unfold setS; split <;> rfl
@[simp] theorem Core.setS_bind (r : Nat) (v : Word) : (k.setS r v).bind = k.bind := by unfold setS; split <;> rfl
@[simp] theorem Core.setS_stations (r : Nat) (v : Word) : (k.setS r v).stations = k.stations := by unfold setS; split <;> rfl
@[simp] theorem Core.setS_log (r : Nat) (v : Word) : (k.setS r v).log = k.log := by unfold setS; split <;> rfl
@[simp] theorem Core.setS_profiles (r : Nat) (v : Word) : (k.setS r v).profiles = k.profiles := by unfold setS; split <;> rfl
@[simp] theorem Core.setS_rkUsed (r : Nat) (v : Word) : (k.setS r v).rkUsed = k.rkUsed := by unfold setS; split <;> rfl
@[simp] theorem Core.setS_retainCtrl (r : Nat) (v : Word) : (k.setS r v).retainCtrl = k.retainCtrl := by unfold setS; split <;> rfl
@[simp] theorem Core.setS_ring (r : Nat) (v : Word) : (k.setS r v).ring = k.ring := by unfold setS; split <;> rfl
@[simp] theorem Core.setS_ringNext (r : Nat) (v : Word) : (k.setS r v).ringNext = k.ringNext := by unfold setS; split <;> rfl
@[simp] theorem Core.setS_scale (r : Nat) (v : Word) : (k.setS r v).scale = k.scale := by unfold setS; split <;> rfl
@[simp] theorem Core.setS_restore (r : Nat) (v : Word) : (k.setS r v).restore = k.restore := by unfold setS; split <;> rfl
@[simp] theorem Core.setS_rk (r : Nat) (v : Word) : (k.setS r v).rk = k.rk := by unfold setS; split <;> rfl
@[simp] theorem Core.setS_mordant (r : Nat) (v : Word) : (k.setS r v).mordant = k.mordant := by unfold setS; split <;> rfl
@[simp] theorem Core.setS_ops (r : Nat) (v : Word) : (k.setS r v).ops = k.ops := by unfold setS; split <;> rfl
@[simp] theorem Core.setS_held (r : Nat) (v : Word) : (k.setS r v).held = k.held := by unfold setS; split <;> rfl
@[simp] theorem Core.setS_retainStall (r : Nat) (v : Word) : (k.setS r v).retainStall = k.retainStall := by unfold setS; split <;> rfl
@[simp] theorem Core.setS_ended (r : Nat) (v : Word) : (k.setS r v).ended = k.ended := by unfold setS; split <;> rfl
@[simp] theorem Core.setS_waitOp (r : Nat) (v : Word) : (k.setS r v).waitOp = k.waitOp := by unfold setS; split <;> rfl
@[simp] theorem Core.setS_acq (r : Nat) (v : Word) : (k.setS r v).acq = k.acq := by unfold setS; split <;> rfl
@[simp] theorem Core.setS_inQ (r : Nat) (v : Word) : (k.setS r v).inQ = k.inQ := by unfold setS; split <;> rfl
@[simp] theorem Core.setS_outQ (r : Nat) (v : Word) : (k.setS r v).outQ = k.outQ := by unfold setS; split <;> rfl
@[simp] theorem Core.setS_inW (r : Nat) (v : Word) : (k.setS r v).inW = k.inW := by unfold setS; split <;> rfl
@[simp] theorem Core.setS_outW (r : Nat) (v : Word) : (k.setS r v).outW = k.outW := by unfold setS; split <;> rfl
@[simp] theorem Core.setS_inbox (r : Nat) (v : Word) : (k.setS r v).inbox = k.inbox := by unfold setS; split <;> rfl
@[simp] theorem Core.setS_sent (r : Nat) (v : Word) : (k.setS r v).sent = k.sent := by unfold setS; split <;> rfl
@[simp] theorem Core.setS_acks (r : Nat) (v : Word) : (k.setS r v).acks = k.acks := by unfold setS; split <;> rfl
@[simp] theorem Core.setS_kindle (r : Nat) (v : Word) : (k.setS r v).kindle = k.kindle := by unfold setS; split <;> rfl
@[simp] theorem Core.setS_inReset (r : Nat) (v : Word) : (k.setS r v).inReset = k.inReset := by unfold setS; split <;> rfl
@[simp] theorem Core.setS_dead (r : Nat) (v : Word) : (k.setS r v).dead = k.dead := by unfold setS; split <;> rfl
@[simp] theorem Core.setS_ueHour (r : Nat) (v : Word) : (k.setS r v).ueHour = k.ueHour := by unfold setS; split <;> rfl
@[simp] theorem Core.setS_begun (r : Nat) (v : Word) : (k.setS r v).begun = k.begun := by unfold setS; split <;> rfl
@[simp] theorem Core.setTile_regs (t : Nat) (x : TileReg) : (k.setTile t x).regs = k.regs := rfl
@[simp] theorem Core.setTile_accs (t : Nat) (x : TileReg) : (k.setTile t x).accs = k.accs := rfl
@[simp] theorem Core.setTile_cnt (t : Nat) (x : TileReg) : (k.setTile t x).cnt = k.cnt := rfl
@[simp] theorem Core.setTile_pc (t : Nat) (x : TileReg) : (k.setTile t x).pc = k.pc := rfl
@[simp] theorem Core.setTile_acct (t : Nat) (x : TileReg) : (k.setTile t x).acct = k.acct := rfl
@[simp] theorem Core.setTile_pmem (t : Nat) (x : TileReg) : (k.setTile t x).pmem = k.pmem := rfl
@[simp] theorem Core.setTile_pmemErr (t : Nat) (x : TileReg) : (k.setTile t x).pmemErr = k.pmemErr := rfl
@[simp] theorem Core.setTile_store (t : Nat) (x : TileReg) : (k.setTile t x).store = k.store := rfl
@[simp] theorem Core.setTile_storeErr (t : Nat) (x : TileReg) : (k.setTile t x).storeErr = k.storeErr :=
    rfl
@[simp] theorem Core.setTile_gen (t : Nat) (x : TileReg) : (k.setTile t x).gen = k.gen := rfl
@[simp] theorem Core.setTile_seqCtrl (t : Nat) (x : TileReg) : (k.setTile t x).seqCtrl = k.seqCtrl := rfl
@[simp] theorem Core.setTile_lastStation (t : Nat) (x : TileReg) : (k.setTile t x).lastStation = k.lastStation :=
    rfl
@[simp] theorem Core.setTile_curStation (t : Nat) (x : TileReg) : (k.setTile t x).curStation = k.curStation :=
    rfl
@[simp] theorem Core.setTile_firing (t : Nat) (x : TileReg) : (k.setTile t x).firing = k.firing := rfl
@[simp] theorem Core.setTile_smoulder (t : Nat) (x : TileReg) : (k.setTile t x).smoulder = k.smoulder :=
    rfl
@[simp] theorem Core.setTile_faulted (t : Nat) (x : TileReg) : (k.setTile t x).faulted = k.faulted := rfl
@[simp] theorem Core.setTile_restarting (t : Nat) (x : TileReg) : (k.setTile t x).restarting = k.restarting :=
    rfl
@[simp] theorem Core.setTile_counts (t : Nat) (x : TileReg) : (k.setTile t x).counts = k.counts := rfl
@[simp] theorem Core.setTile_thresh (t : Nat) (x : TileReg) : (k.setTile t x).thresh = k.thresh := rfl
@[simp] theorem Core.setTile_cinit (t : Nat) (x : TileReg) : (k.setTile t x).cinit = k.cinit := rfl
@[simp] theorem Core.setTile_bind (t : Nat) (x : TileReg) : (k.setTile t x).bind = k.bind := rfl
@[simp] theorem Core.setTile_stations (t : Nat) (x : TileReg) : (k.setTile t x).stations = k.stations :=
    rfl
@[simp] theorem Core.setTile_log (t : Nat) (x : TileReg) : (k.setTile t x).log = k.log := rfl
@[simp] theorem Core.setTile_profiles (t : Nat) (x : TileReg) : (k.setTile t x).profiles = k.profiles :=
    rfl
@[simp] theorem Core.setTile_rkUsed (t : Nat) (x : TileReg) : (k.setTile t x).rkUsed = k.rkUsed := rfl
@[simp] theorem Core.setTile_retainCtrl (t : Nat) (x : TileReg) : (k.setTile t x).retainCtrl = k.retainCtrl :=
    rfl
@[simp] theorem Core.setTile_ring (t : Nat) (x : TileReg) : (k.setTile t x).ring = k.ring := rfl
@[simp] theorem Core.setTile_ringNext (t : Nat) (x : TileReg) : (k.setTile t x).ringNext = k.ringNext :=
    rfl
@[simp] theorem Core.setTile_scale (t : Nat) (x : TileReg) : (k.setTile t x).scale = k.scale := rfl
@[simp] theorem Core.setTile_restore (t : Nat) (x : TileReg) : (k.setTile t x).restore = k.restore := rfl
@[simp] theorem Core.setTile_rk (t : Nat) (x : TileReg) : (k.setTile t x).rk = k.rk := rfl
@[simp] theorem Core.setTile_mordant (t : Nat) (x : TileReg) : (k.setTile t x).mordant = k.mordant := rfl
@[simp] theorem Core.setTile_ops (t : Nat) (x : TileReg) : (k.setTile t x).ops = k.ops := rfl
@[simp] theorem Core.setTile_held (t : Nat) (x : TileReg) : (k.setTile t x).held = k.held := rfl
@[simp] theorem Core.setTile_retainStall (t : Nat) (x : TileReg) : (k.setTile t x).retainStall = k.retainStall :=
    rfl
@[simp] theorem Core.setTile_ended (t : Nat) (x : TileReg) : (k.setTile t x).ended = k.ended := rfl
@[simp] theorem Core.setTile_waitOp (t : Nat) (x : TileReg) : (k.setTile t x).waitOp = k.waitOp := rfl
@[simp] theorem Core.setTile_acq (t : Nat) (x : TileReg) : (k.setTile t x).acq = k.acq := rfl
@[simp] theorem Core.setTile_inQ (t : Nat) (x : TileReg) : (k.setTile t x).inQ = k.inQ := rfl
@[simp] theorem Core.setTile_outQ (t : Nat) (x : TileReg) : (k.setTile t x).outQ = k.outQ := rfl
@[simp] theorem Core.setTile_inW (t : Nat) (x : TileReg) : (k.setTile t x).inW = k.inW := rfl
@[simp] theorem Core.setTile_outW (t : Nat) (x : TileReg) : (k.setTile t x).outW = k.outW := rfl
@[simp] theorem Core.setTile_inbox (t : Nat) (x : TileReg) : (k.setTile t x).inbox = k.inbox := rfl
@[simp] theorem Core.setTile_sent (t : Nat) (x : TileReg) : (k.setTile t x).sent = k.sent := rfl
@[simp] theorem Core.setTile_acks (t : Nat) (x : TileReg) : (k.setTile t x).acks = k.acks := rfl
@[simp] theorem Core.setTile_kindle (t : Nat) (x : TileReg) : (k.setTile t x).kindle = k.kindle := rfl
@[simp] theorem Core.setTile_inReset (t : Nat) (x : TileReg) : (k.setTile t x).inReset = k.inReset := rfl
@[simp] theorem Core.setTile_dead (t : Nat) (x : TileReg) : (k.setTile t x).dead = k.dead := rfl
@[simp] theorem Core.setTile_ueHour (t : Nat) (x : TileReg) : (k.setTile t x).ueHour = k.ueHour := rfl
@[simp] theorem Core.setTile_begun (t : Nat) (x : TileReg) : (k.setTile t x).begun = k.begun := rfl
@[simp] theorem Core.bumpCount_regs (off n : Nat) : (k.bumpCount off n).regs = k.regs := rfl
@[simp] theorem Core.bumpCount_tiles (off n : Nat) : (k.bumpCount off n).tiles = k.tiles := rfl
@[simp] theorem Core.bumpCount_accs (off n : Nat) : (k.bumpCount off n).accs = k.accs := rfl
@[simp] theorem Core.bumpCount_cnt (off n : Nat) : (k.bumpCount off n).cnt = k.cnt := rfl
@[simp] theorem Core.bumpCount_pc (off n : Nat) : (k.bumpCount off n).pc = k.pc := rfl
@[simp] theorem Core.bumpCount_acct (off n : Nat) : (k.bumpCount off n).acct = k.acct := rfl
@[simp] theorem Core.bumpCount_pmem (off n : Nat) : (k.bumpCount off n).pmem = k.pmem := rfl
@[simp] theorem Core.bumpCount_pmemErr (off n : Nat) : (k.bumpCount off n).pmemErr = k.pmemErr := rfl
@[simp] theorem Core.bumpCount_store (off n : Nat) : (k.bumpCount off n).store = k.store := rfl
@[simp] theorem Core.bumpCount_storeErr (off n : Nat) : (k.bumpCount off n).storeErr = k.storeErr := rfl
@[simp] theorem Core.bumpCount_gen (off n : Nat) : (k.bumpCount off n).gen = k.gen := rfl
@[simp] theorem Core.bumpCount_seqCtrl (off n : Nat) : (k.bumpCount off n).seqCtrl = k.seqCtrl := rfl
@[simp] theorem Core.bumpCount_lastStation (off n : Nat) : (k.bumpCount off n).lastStation = k.lastStation :=
    rfl
@[simp] theorem Core.bumpCount_curStation (off n : Nat) : (k.bumpCount off n).curStation = k.curStation :=
    rfl
@[simp] theorem Core.bumpCount_firing (off n : Nat) : (k.bumpCount off n).firing = k.firing := rfl
@[simp] theorem Core.bumpCount_smoulder (off n : Nat) : (k.bumpCount off n).smoulder = k.smoulder := rfl
@[simp] theorem Core.bumpCount_faulted (off n : Nat) : (k.bumpCount off n).faulted = k.faulted := rfl
@[simp] theorem Core.bumpCount_restarting (off n : Nat) : (k.bumpCount off n).restarting = k.restarting :=
    rfl
@[simp] theorem Core.bumpCount_thresh (off n : Nat) : (k.bumpCount off n).thresh = k.thresh := rfl
@[simp] theorem Core.bumpCount_cinit (off n : Nat) : (k.bumpCount off n).cinit = k.cinit := rfl
@[simp] theorem Core.bumpCount_bind (off n : Nat) : (k.bumpCount off n).bind = k.bind := rfl
@[simp] theorem Core.bumpCount_stations (off n : Nat) : (k.bumpCount off n).stations = k.stations := rfl
@[simp] theorem Core.bumpCount_log (off n : Nat) : (k.bumpCount off n).log = k.log := rfl
@[simp] theorem Core.bumpCount_profiles (off n : Nat) : (k.bumpCount off n).profiles = k.profiles := rfl
@[simp] theorem Core.bumpCount_rkUsed (off n : Nat) : (k.bumpCount off n).rkUsed = k.rkUsed := rfl
@[simp] theorem Core.bumpCount_retainCtrl (off n : Nat) : (k.bumpCount off n).retainCtrl = k.retainCtrl :=
    rfl
@[simp] theorem Core.bumpCount_ring (off n : Nat) : (k.bumpCount off n).ring = k.ring := rfl
@[simp] theorem Core.bumpCount_ringNext (off n : Nat) : (k.bumpCount off n).ringNext = k.ringNext := rfl
@[simp] theorem Core.bumpCount_scale (off n : Nat) : (k.bumpCount off n).scale = k.scale := rfl
@[simp] theorem Core.bumpCount_restore (off n : Nat) : (k.bumpCount off n).restore = k.restore := rfl
@[simp] theorem Core.bumpCount_rk (off n : Nat) : (k.bumpCount off n).rk = k.rk := rfl
@[simp] theorem Core.bumpCount_mordant (off n : Nat) : (k.bumpCount off n).mordant = k.mordant := rfl
@[simp] theorem Core.bumpCount_ops (off n : Nat) : (k.bumpCount off n).ops = k.ops := rfl
@[simp] theorem Core.bumpCount_held (off n : Nat) : (k.bumpCount off n).held = k.held := rfl
@[simp] theorem Core.bumpCount_retainStall (off n : Nat) : (k.bumpCount off n).retainStall = k.retainStall :=
    rfl
@[simp] theorem Core.bumpCount_ended (off n : Nat) : (k.bumpCount off n).ended = k.ended := rfl
@[simp] theorem Core.bumpCount_waitOp (off n : Nat) : (k.bumpCount off n).waitOp = k.waitOp := rfl
@[simp] theorem Core.bumpCount_acq (off n : Nat) : (k.bumpCount off n).acq = k.acq := rfl
@[simp] theorem Core.bumpCount_inQ (off n : Nat) : (k.bumpCount off n).inQ = k.inQ := rfl
@[simp] theorem Core.bumpCount_outQ (off n : Nat) : (k.bumpCount off n).outQ = k.outQ := rfl
@[simp] theorem Core.bumpCount_inW (off n : Nat) : (k.bumpCount off n).inW = k.inW := rfl
@[simp] theorem Core.bumpCount_outW (off n : Nat) : (k.bumpCount off n).outW = k.outW := rfl
@[simp] theorem Core.bumpCount_inbox (off n : Nat) : (k.bumpCount off n).inbox = k.inbox := rfl
@[simp] theorem Core.bumpCount_sent (off n : Nat) : (k.bumpCount off n).sent = k.sent := rfl
@[simp] theorem Core.bumpCount_acks (off n : Nat) : (k.bumpCount off n).acks = k.acks := rfl
@[simp] theorem Core.bumpCount_kindle (off n : Nat) : (k.bumpCount off n).kindle = k.kindle := rfl
@[simp] theorem Core.bumpCount_inReset (off n : Nat) : (k.bumpCount off n).inReset = k.inReset := rfl
@[simp] theorem Core.bumpCount_dead (off n : Nat) : (k.bumpCount off n).dead = k.dead := rfl
@[simp] theorem Core.bumpCount_ueHour (off n : Nat) : (k.bumpCount off n).ueHour = k.ueHour := rfl
@[simp] theorem Core.bumpCount_begun (off n : Nat) : (k.bumpCount off n).begun = k.begun := rfl

end Sys2Proof.Machine
end

