-- ==== Sys2Proof/Tests/Slice0.lean ====
section
/-! SUPPORT. Tests of single commands on small states, and for each statement a state and operands that meet its
hypotheses. Expected results are worked by hand from the rules that are named. -/

open Sys2Proof Sys2Proof.Machine

namespace Sys2Proof.Tests

set_option Elab.async false

/-! ### Small states -/

/-- A core in a firing whose next instruction is the word `w`. -/
def at_ (w : Word) (k : Core) : Core := { k with pmem := Sparse.ofList 0 [w], firing := true, seqCtrl := 1 }

/-- A fresh core with some registers. -/
def core (l : List (Nat × Word)) : Core := l.foldl (fun k e => k.setS e.1 e.2) (Core.resetWith 1)

/-- The module after reset with core 0 as given. -/
def withCore (k : Core) : State := State.reset.setCore 0 k

/-- Nothing but a firing and the instruction's word is wanting for core 0 to issue. -/
def ready (k : Core) : Bool :=
  !k.faulted && !k.restarting && !k.smoulder && !k.inReset && !k.ended && k.held.isNone && k.waitOp.isNone &&
    k.pmemErr.isEmpty && k.pc == 0

/-- A core that is ready fetches the word, whatever the rest of the module holds. -/
theorem fetchedIn (s : State) (w mask : Word) (k : Core) (e : s.core 0 = at_ w k) (h : ready k = true) :
    Fetched s 0 w mask (at_ w k) := by
  have hw : Sparse.rd (Sparse.ofList 0 [w]) 0 = w := by
    simp only [Sparse.ofList]
    split
    · next e => subst e; rfl
    · simp [Sparse.rd]
  simp only [ready, Bool.and_eq_true, Bool.not_eq_true', List.isEmpty_iff, beq_iff_eq] at h
  obtain ⟨⟨⟨⟨⟨⟨⟨⟨h1, h2⟩, h3⟩, h4⟩, h5⟩, h6⟩, h7⟩, h8⟩, h9⟩ := h
  have hp : (at_ w k).pmemErr = [] := h8
  refine ⟨by decide, ?_, ?_⟩ <;> rw [e]
  · simp [Core.canIssue, at_, h1, h2, h3, h4, h5, h6, h7, h9, hw]
  · simp only [Core.fetch, hp, SMap.look]

theorem fetched (w mask : Word) (k : Core) (h : ready k = true) :
    Fetched (withCore (at_ w k)) 0 w mask (at_ w k) := fetchedIn _ w mask k (State.core_setCore_same ..) h

/-- A command leads to a next state of which `f` holds. -/
def after (o : Out) (f : State → Bool) : Bool :=
  match o with
  | .next s => f s
  | _ => false

/-- The core after an instruction, run from a core in a firing, in a module around the core. -/
def runsIn (m : Core → State) (i : Instr) (w : Word) (k : Core) (f : Core → Bool) : Bool :=
  after (exec i (m (at_ w k))) (fun s => f (s.core 0))
def runs : Instr → Word → Core → (Core → Bool) → Bool := runsIn withCore

/-! ### Ill-formed commands, one for each check (R20) -/

theorem test_illformed :
    (Instr.add 258048 1 2 3).check = some .core ∧ (Instr.install 8064).check = some .cluster ∧
    (Instr.roundBitmapTimeout 84).check = some .field ∧ (Instr.permitRefill 12).check = some .region ∧
    (Instr.scrubRead 0 24).check = some .channel ∧ (Instr.portTrainingEnd 24).check = some .port ∧
    (Instr.partitionResetKeep 12).check = some .partition ∧
    (Instr.echoRequest (.port 24) 0 false 0 0 []).check = some .interface ∧
    (Instr.credRole 0 1).check = some .credential ∧ (Instr.dividerStep 252 0).check = some .domain ∧
    (Instr.configurationRead (.send (.core 258048, 0, 4))).check = some .sender ∧
    (Instr.markLatch false (.regulator 12)).check = some .markUnit := by decide

theorem test_illformed_stops : exec (.add 258048 1 2 3) State.reset = .fault .noSuchUnit := rfl
theorem test_wellformed_last_core : (Instr.add 258047 1 2 3).wf = true := by decide

/-! ### Scalar instructions, expected results by hand from R187 to R189 -/

theorem test_add_wraps : runs (.add 0 1 2 3) (encAlu 0 1 2 3) (core [(2, 0xFFFFFFFF), (3, 2)])
    (fun k => k.s 1 = 1 && k.pc = 1) = true := by decide
theorem test_sra_keeps_sign : runs (.sra 0 1 2 3) (encAlu 7 1 2 3) (core [(2, 0x80000000), (3, 36)])
    (fun k => k.s 1 = 0xF8000000) = true := by decide
theorem test_mulhu : runs (.mulhu 0 1 2 2) (encAlu 9 1 2 2) (core [(2, 0xFFFFFFFF)])
    (fun k => k.s 1 = 0xFFFFFFFE) = true := by decide
theorem test_slt_signed : runs (.slt 0 1 2 3) (encAlu 10 1 2 3) (core [(2, 0xFFFFFFFF), (3, 0)])
    (fun k => k.s 1 = 1) = true := by decide
theorem test_addi_extends : runs (.addi 0 1 2 0xFFFF) (encImm 2 0 1 2 0xFFFF) (core [(2, 5)])
    (fun k => k.s 1 = 4) = true := by decide
theorem test_ori_zero_extends : runs (.ori 0 1 0 0xFFFF) (encImm 2 3 1 0 0xFFFF) (core [])
    (fun k => k.s 1 = 0xFFFF) = true := by decide
theorem test_writes_of_s0_are_discarded : runs (.lui 0 0 1) (encImm 2 15 0 0 1) (core [])
    (fun k => k.s 0 = 0 && k.pc = 1) = true := by decide
theorem test_jal_links : runs (.jal 0 15 100) (encBr 7 15 0 100) (core [])
    (fun k => k.s 15 = 1 && k.pc = 100) = true := by decide
theorem test_blt_signed : runs (.blt 0 1 2 9) (encBr 2 1 2 9) (core [(1, 0xFFFFFFFF)])
    (fun k => k.pc = 9) = true := by decide
theorem test_seed_of_zero : runs (.seed 0 2) (encImm 0 3 0 2 0) (core []) (fun k => k.gen = 1 && !k.faulted) = true := by
  decide
theorem test_trap : runs (.trap 0 77) (encImm 0 6 0 0 77) (core [])
    (fun k => k.faulted && k.log.cause = 7 && k.log.detail = 77 && k.log.cls = 0) = true := by decide
theorem test_store_then_bytes : runs (.sw 0 1 2 4) (encSmem 1 1 2 4) (core [(1, 0x04030201), (2, 0x100)])
    (fun k => Sparse.dense k.store 0x103 6 = [0, 1, 2, 3, 4, 0]) = true := by decide
theorem test_misaligned_load : runs (.lw 0 1 2 2) (encSmem 0 1 2 2) (core [(2, 0x100)])
    (fun k => k.faulted && k.log.cause = 3 && k.log.detail = 0x102) = true := by decide
theorem test_cadd_below_zero : runs (.cadd 0 3 0xFFFF) (encCtr 1 3 0 0xFFFF) (core [])
    (fun k => k.faulted && k.log.cause = 5 && Sparse.rd k.cnt 3 = 0) = true := by decide
theorem test_loop_goes_back : runs (.loop 0 3 7) (encCtr 4 3 0 7) { core [] with cnt := Sparse.ofList 3 [2] }
    (fun k => k.pc = 7 && Sparse.rd k.cnt 3 = 1) = true := by decide

/-! ### Witnesses of the statements on instructions -/

/-- A fresh core in a firing fetches the word `w`. -/
def Plain (w : Word) : Prop := Fetched (withCore (at_ w (core []))) 0 w fullMask (at_ w (core []))

theorem plain (w : Word) : Plain w := fetched _ _ _ (by decide)

theorem witness_AluResults :
    (∀ op, Plain (encAlu op 0 15 15) ∧ Plain (encImm 2 op 1 2 0x8000) ∧ Plain (encImm 2 op 1 2 31)) ∧
    Plain (encImm 2 15 1 0 7) := ⟨fun _ => ⟨plain _, plain _, plain _⟩, plain _⟩

theorem witness_BranchResults :
    (∀ op, Plain (encBr op 1 2 0)) ∧ Plain (encBr 0 1 2 2047) ∧ Plain (encBr 6 0 0 2047) ∧ Plain (encBr 7 1 0 3) :=
  ⟨fun _ => plain _, plain _, plain _, plain _⟩

theorem witness_SystemInstructionResults :
    (∀ e ∈ [(encImm 0 0 0 0 0, fullMask), (encImm 0 1 0 0 0, fullMask), (encImm 0 2 0 5 0, 0xFF0F0000#32)] ++
        [(encImm 0 3 0 5 0, 0xFF0F0000#32), (encImm 0 3 0 4 0, 0xFF0F0000#32), (encImm 0 4 5 0 0, 0xFFF00000#32)] ++
        [(encImm 0 4 14 0 0, 0xFFF00000#32), (encImm 0 5 0 0 3, 0xFF00FFFF#32), (encImm 0 6 0 0 65535, 0xFF00FFFF#32),
        (0xFFFFFFFF#32, fullMask)],
      Fetched (withCore (at_ e.1 (core []))) 0 e.1 e.2 (at_ e.1 (core []))) ∧ reservedWord 0xFFFFFFFF = true :=
  ⟨fun _ _ => fetched _ _ _ (by decide), by decide⟩

theorem witness_ScalarStoreAccess :
    let k := { core [(2, 0x17FFC), (3, 0x17FFF)] with storeErr := [(0x2FFF, false)] }
    (∀ w ∈ [encSmem 0 1 2 0, encSmem 1 1 2 0, encSmem 2 1 3 0, encSmem 3 1 3 0],
      Fetched (withCore (at_ w k)) 0 w fullMask (at_ w k)) ∧
    (k.s 2).toNat ≤ 0x17FFF ∧ (k.s 3).toNat ≤ 0x17FFF ∧ (k.s 2).toNat % 4 = 0 ∧
    k.storeErr.look ((k.s 2).toNat / 8) ≠ some true ∧ k.storeErr.look ((k.s 3).toNat / 8) ≠ some true ∧
    Sparse.wf k.store = true := by
  intro k
  exact ⟨fun _ _ => fetched _ _ _ (by decide), by decide⟩

theorem witness_CounterInstructionResults :
    ∀ w ∈ [encCtr 0 15 0 9, encCtr 1 0 0 0x8000, encCtr 2 1 15 0, encCtr 3 1 0 0, encCtr 4 1 0 2047, encCtr 5 1 0 0],
      Fetched (withCore (at_ w (core []))) 0 w fullMask (at_ w (core [])) := fun _ _ => fetched _ _ _ (by decide)

theorem witness_RegisterZeroIsZero : (15 : Nat) ≠ 0 ∧ (14 : Nat) ≠ 15 := by decide

/-- A core with a BF16 tile in t0 that ends at the end of core store, a null tile in t1, and t2 as after reset. -/
def tiled : Core :=
  ((core [(1, 0x17800), (2, 0)]).setTile 0 ⟨[], 0, 1, false⟩).setTile 1 ⟨[], 0, 1, true⟩

theorem witness_TileLoadAndStoreResults :
    (∀ w ∈ [encTmem 0 2 1 2 1 0, encTmem 1 0 1 2 1 0, encTmem 1 1 1 2 1 0],
      Fetched (withCore (at_ w tiled)) 0 w fullMask (at_ w tiled)) ∧
    fmtTile 1 = true ∧ (tiled.s 1).toNat / 64 * 64 + (tiled.s 2).toNat * fmtSize 1 + fmtSize 1 ≤ 0x18000 ∧
    tiled.tileBusy 2 = false ∧ badWord tiled.storeErr 0x17800 (fmtSize 1) = none ∧ (tiled.tile 0).null = false ∧
    (tiled.tile 0).fmt = 1 ∧ (tiled.tile 1).null = true ∧ (tiled.tile 1).fmt = 1 ∧ tiled.storeErr = [] :=
  ⟨fun _ _ => fetched _ _ _ (by decide), by decide⟩

theorem witness_TileLoadAndStoreResults_expansion :
    let k := at_ (encTmem 2 2 1 2 7 3) (core [])
    Fetched (withCore k) 0 (encTmem 2 2 1 2 7 3) fullMask k ∧ (∀ j, j < 32 → lampAddr k 1 2 3 j + 33 ≤ 0x18000) ∧
    k.tileBusy 2 = false ∧ ∃ k' bs, loadBlocks (lampAddr k 1 2 3) (List.range 32) k = (k', .ok bs) :=
  ⟨fetched _ _ _ (by decide), by decide, by decide, _, _, rfl⟩

theorem witness_TileMultiplyResults :
    let w := encTmul 0 0 2 false 0
    let n := encTmul 0 0 1 false 0
    let k := tiled.setTile 2 ⟨[], 0, 1, false⟩
    let other := k.setTile 2 ⟨[], 0, 2, false⟩
    let flagged := k.setTile 2 ⟨[], 1023, 1, false⟩
    Fetched (withCore (at_ w k)) 0 w fullMask (at_ w k) ∧ Fetched (withCore (at_ n k)) 0 n fullMask (at_ n k) ∧
    Fetched (withCore (at_ w other)) 0 w fullMask (at_ w other) ∧
    Fetched (withCore (at_ w flagged)) 0 w fullMask (at_ w flagged) ∧ k.rk = none ∧ (k.tile 1).null = true ∧
    ((k.tile 0).null || (k.tile 2).null) = false ∧ (other.tile 0).fmt ≠ (other.tile 2).fmt ∧ fmtTile 1 = true ∧
    sootFlag (k.profile 0) (k.tile 2).tag = false ∧ sootFlag (flagged.profile 0) (flagged.tile 2).tag = true ∧
    sootOutcome flagged 0 1 0 1023 < 4 :=
  ⟨fetched _ _ _ (by decide), fetched _ _ _ (by decide), fetched _ _ _ (by decide), fetched _ _ _ (by decide),
    by decide⟩

theorem witness_AccumulatorElementsAfterMultiply :
    (List.replicate 1024 (Val.fin false 0 0)).length = 1024 ∧ 31 < 32 ∧ (1 : Nat) ≠ 0 :=
  ⟨List.length_replicate, by decide, by decide⟩

/-- A conversion of t0 to FP16 in t2. -/
def toHalf : CvtArgs := ⟨2, 0, 2, false, false, false, 0, false, 0, 0⟩

theorem witness_ConversionResults :
    let k := at_ (encCvt toHalf) tiled
    let n := at_ (encCvt { toHalf with src := 1 }) tiled
    Fetched (withCore k) 0 (encCvt toHalf) fullMask k ∧ Fetched (withCore n) 0 (encCvt { toHalf with src := 1 }) fullMask n ∧
    k.tileBusy 2 = false ∧ cvtFormatFault k toHalf = false ∧ cvtFormatFault n { toHalf with src := 1 } = false ∧
    resCvt (Sparse.rd k.pmem k.pc).toNat = false ∧ resCvt (Sparse.rd n.pmem n.pc).toNat = false ∧ k.mordant = none ∧
    (k.tile 0).null = false ∧ (n.tile 1).null = true ∧ (k.tile 0).fmt ≠ 2 :=
  ⟨fetched _ _ _ (by decide), fetched _ _ _ (by decide), by decide⟩

/-- A vector instruction on accumulators. -/
def onAccs (vc : BitVec 4) : VecOps := ⟨0, 1, 2, vc, 0, false⟩

/-- The operands of a vector instruction, and its word. -/
def vecCases : List (Nat × VecOps × Word) :=
  let two := onAccs 0
  let one : VecOps := { two with vb := 0 }
  [(0, two, encVec 0 0 1 2 0 0 false), (3, onAccs 3, encVec 3 0 1 2 3 0 false)] ++
    ([10, 12, 18].map (fun vop => (vop, one, encVec vop 0 1 0 0 0 false))) ++
    [(20, { one with va := 0 }, encVec 20 0 0 0 0 0 false)]

/-- A read found no error. -/
def isOk {ε α : Type} : Except ε α → Bool
  | .ok _ => true
  | .error _ => false

/-- What `VectorReads` asks for. -/
def readsWell (k : Core) (vop : Nat) (o : VecOps) : Bool :=
  let codes := [o.va.toNat, o.vb.toNat, o.vc.toNat].take (vecArity vop)
  !resVec (Sparse.rd k.pmem k.pc).toNat && (vecFormatFault k codes).isNone && !vecBusy k o.vd.toNat codes &&
    isOk (vSources o.sr codes k).2

theorem witness_VectorInstructionResults :
    (∀ e ∈ vecCases, Fetched (withCore (at_ e.2.2 (core []))) 0 e.2.2 fullMask (at_ e.2.2 (core [])) ∧
      readsWell (at_ e.2.2 (core [])) e.1 e.2.1 = true) ∧ ∀ k l, ∃ k2, vDest k 0 0 false l = .done k2 :=
  ⟨fun e he => ⟨fetched _ _ _ (by decide),
    (by decide +kernel : ∀ e ∈ vecCases, readsWell (at_ e.2.2 (core [])) e.1 e.2.1 = true) e he⟩, fun _ _ => ⟨_, rfl⟩⟩

theorem witness_VectorDestinations :
    (List.replicate 1024 (1#32)).length = 1024 ∧ 3 < 4 ∧ 4 ≤ 11 ∧ 11 < 12 ∧ 12 ≤ 12 ∧
    ((core [(1, 0x17004)]).s 1).toNat % 4 = 0 ∧ 0x18000 < ((core [(1, 0x17004)]).s 1).toNat + 4096 ∧
    ((core [(1, 2)]).s 1).toNat % 4 ≠ 0 := ⟨List.length_replicate, by decide⟩

/-- The frame of a null beat that ends its packet. -/
def nullFrame : List Byte := frameBytes 0 0 ⟨1, true, true, 0, []⟩

/-- A core whose first entry of core store holds that frame, the oldest of two of its input tile queues; its first input channel holds
a tuple of one word, and its second output channel one tuple. -/
def queued : Core := { core [(1, 7)] with
  store := Sparse.ofList 0 nullFrame
  inQ := [(0, { InQ.reset with n := 1 }), (1, { InQ.reset with n := 1, lastPop := some false }),
    (2, { InQ.reset with lastPop := some false })]
  inW := [(0, { InW.reset with buf := [[9]] })]
  outW := [(1, { OutW.reset with buf := [[3]] })] }

/-- The module after reset with the descriptor `d` for every queue of core 0. -/
def described (d : Long) (k : Core) : State := (withCore k).modCluster 0 (fun x => { x with
  desc := (List.range 36).map (fun j => (j, d)) })

/-- A descriptor of depth 1 with entries of 64 bytes at the start of core store; and one of an advisory channel. -/
def depth1 : Long := 0x8100004000000000
def advisory1 : Long := 0xC100004000000000

theorem fetchedQ (d : Long) (w mask : Word) : Fetched (described d (at_ w queued)) 0 w mask (at_ w queued) :=
  fetchedIn _ w mask queued (by simp [described, withCore]) (by decide)

theorem witness_QueueInstructionResults :
    (∀ d w mask, Fetched (described d (at_ w queued)) 0 w mask (at_ w queued)) ∧
    (queued.inq 7).n = 0 ∧ 0 < (queued.inq 0).n ∧ queued.tileBusy 3 = false ∧ (queued.inw 1).buf = [] ∧
    (queued.inw 0).buf = [[9]] ∧ (queued.outq 0).n = 0 ∧ (queued.outw 0).buf = [] ∧ (queued.outw 1).buf.length = 1 ∧
    queued.storeErr = [] ∧ outEntries 0x10000 = 0 ∧ outEntries depth1 = 1 ∧ outEntries advisory1 = 1 ∧ descValid depth1 = true ∧
    descAdvisory depth1 = false ∧ descAdvisory advisory1 = true :=
  ⟨fetchedQ, by decide⟩

theorem witness_QueueInstructionResults_pop (w : Word) :
    ((described depth1 (at_ w queued)).cluster 0).inTile 0 0 = depth1 ∧
    (described depth1 (at_ w queued)).outDesc 0 7 = depth1 ∧ (described depth1 (at_ w queued)).outWDesc 0 7 = depth1 ∧
    isOk ((at_ (encQue 0 0 3 0) queued).readEntry (descBase depth1)).2 = true := ⟨rfl, rfl, rfl, by decide +kernel⟩

theorem witness_QueueInstructionResults_drop :
    (queued.inq 1).lastPop = some false ∧ (queued.inq 1).n = 1 ∧ (queued.inq 1).rd < inDepth depth1 ∧
    headLast (frameHead (Sparse.dense queued.store (descBase depth1) 16)) = true ∧
    (queued.inq 2).lastPop = some false ∧ (queued.inq 2).n = 0 ∧ (queued.inq 0).lastPop ≠ some false := by decide

theorem witness_QueueInstructionResults_complete :
    0 < (queued.inq 0).n ∧ descValid depth1 = true ∧ queued.tileBusy 3 = false ∧ queued.storeErr = [] ∧
    (queued.outq 7).n < outEntries depth1 ∧ 15 + 0 ≤ 15 ∧ (queued.outw 7).buf.length < outEntries depth1 ∧
    (queued.inw 0).buf ≠ [] ∧ ((queued.inw 0).buf.headD []).length = 0 + 1 ∧ (11 : BitVec 4).toNat < 12 := by decide

/-- A core whose registers name a transfer of 4 bytes from DRAM to the end of core store. -/
def mover : Core := core ([(2, 0x40), (4, 0x17FFC), (5, 4)] ++ [(6, 0x18000), (8, 1), (10, 0x12)])

theorem witness_MessageInstructionResults :
    (∀ e ∈ [(encMsg 0 2 4 5 1 1, 0xFFFFFF01#32), (encMsg 1 2 4 5 1 1, 0xFFFFFF01#32), (encMsg 2 2 0 5 0 0, 0xFFF0F000#32)] ++
        [(encMsg 3 2 4 0 1 1, 0xFFFF0F01#32), (encMsg 4 2 4 5 0 4, 0xFFFFF007#32), (encMsg 5 2 4 0 0 0, 0xFFFF0001#32)] ++
        [(encMsg 5 3 4 0 0 1, 0xFFFF0001#32), (encMsg 6 0 0 0 0 0, 0xFF000000#32), (encCfg 5 0x2FC, fullMask),
        (encCfg 5 0x300, fullMask)],
      Fetched (withCore (at_ e.1 mover)) 0 e.1 e.2 (at_ e.1 mover)) ∧
    msgBad (mover.pair 2).toNat (mover.s 4).toNat (mover.s 5).toNat = none ∧ (mover.pair 2).toNat % 4 = 0 ∧
    mover.outstanding < 16 ∧ mover.acq = none ∧
    ((withCore { mover with acq := some ⟨true, 0, 0⟩ }).core 0).acq.isSome = true := 
  ⟨fun _ _ => fetched _ _ _ (by decide), by decide⟩

theorem witness_MessageInstructionResults_put :
    ∃ k' d, (at_ (encMsg 1 2 4 5 1 1) mover).load 0x17FFC 4 = (k', .ok d) := ⟨_, _, rfl⟩

theorem witness_AccessFaults :
    (∀ w ∈ [encSmem 0 1 6 0, encSmem 1 1 6 0, encSmem 2 1 6 0, encSmem 3 1 6 0] ++ [encSmem 0 1 8 0, encSmem 1 1 8 0,
        encSmem 0 1 4 0, encTmem 0 0 4 0 0 0] ++ [encTmem 0 0 4 0 10 0, encTmem 0 0 4 0 1 0, encTmem 1 0 4 0 2 0,
        encTmem 1 0 4 0 1 0],
      Fetched (withCore (at_ w { mover with storeErr := [(0x2FFF, true)] })) 0 w fullMask
        (at_ w { mover with storeErr := [(0x2FFF, true)] })) ∧
    0x17FFF < (mover.s 6).toNat ∧ (mover.s 8).toNat % 4 ≠ 0 ∧ (mover.s 4).toNat ≤ 0x17FFF ∧ (mover.s 4).toNat % 4 = 0 ∧
    SMap.look [(0x2FFF, true)] ((mover.s 4).toNat / 8) = some true ∧ fmtTile 1 = true ∧
    0x18000 < (mover.s 4).toNat / 64 * 64 + (mover.s 0).toNat * fmtSize 1 + fmtSize 1 ∧ (mover.tile 0).fmt = 1 ∧
    (mover.tile 0).null = false ∧ (2 : Nat) ≠ (mover.tile 0).fmt :=
  ⟨fun _ _ => fetched _ _ _ (by decide), by decide⟩

theorem witness_AccessFaults_transfers :
    (∀ op, ∀ ra ∈ [3, 10, 2], Fetched (withCore (at_ (encMsg op ra 6 5 0 0) mover)) 0 (encMsg op ra 6 5 0 0) 0xFFFFFF01#32
        (at_ (encMsg op ra 6 5 0 0) mover)) ∧
    (mover.pair 10).toNat % 4 ≠ 0 ∧ (mover.pair 2).toNat % 4 = 0 ∧
    0x18000 < (mover.s 6).toNat + (mover.s 5).toNat := ⟨fun _ _ _ => fetched _ _ _ (by decide), by decide⟩

theorem witness_AccessFaults_fetch (bad : Bool) :
    let s := withCore { at_ (encAlu 0 1 2 3) (core []) with pmemErr := [(0, bad)] }
    (s.core 0).canIssue (encAlu 0 1 2 3) fullMask = true ∧ (s.core 0).pmemErr.look (s.core 0).pc = some bad := by
  cases bad <;> decide

theorem test_wide_get_starts : runs (.get 0 2 4 5 1 true) (encMsg 0 2 4 5 1 1) mover
    (fun k => k.outstanding = 1 && k.pc = 1 && !k.faulted) = true := by decide
theorem test_odd_pair_is_illegal : runs (.get 0 3 4 5 1 true) (encMsg 0 3 4 5 1 1) mover
    (fun k => k.faulted && k.log.cause = 1) = true := by decide
theorem test_pop_of_null_beat : runsIn (described depth1) (.tpop 0 0 3) (encQue 0 0 3 0) queued
    (fun k => (k.tile 3).null && (k.tile 3).fmt = 1 && (k.inq 0).n = 0) = true := by decide
theorem test_receive_of_wrong_length : runs (.wrecv 0 0 1 1) (encQue 3 0 1 1) queued
    (fun k => k.faulted && k.log.cause = 0xA && k.s 1 = 7) = true := by decide

/-! ### Periods and packets -/

/-- A period of number 1 that ended, or runs. -/
def period (e : PeriodEnd) : Period :=
  { no := 1, start := 0, start0 := 0, hz := 0, deadline := 0, ended := e, endAt := 0, polled := none, portsDue := []
    causes := [], restarted := [], mordants := [], toldRestart := [], toldMordant := [], toldStart := [], closed := false
    drop0 := 0, began := 0 }

/-- Partition 0 with that period. -/
def inPeriod (q : Period) (s : State) : State := s.modPart 0 (fun x => { x with period := some q })

/-- The module with cluster 0's message router enabled and field 0 serving. -/
def routed (s : State) : State := (s.setNum (o2FieldState 0) 1).modCluster 0 (fun x => { x with mpCtrl := 0x0008000F })

/-- A packet at cluster 0 for a unit of it, landed there. -/
def packet (typ : Nat) (dst : Endpoint) (payload : List Byte) (addr : Nat) : Packet :=
  { (routed State.reset).mkPacket 0 ⟨7, 0⟩ 0 dst typ 0 0 payload.length addr with
    payload := payload, injected := true, landed := true }

/-- A control request of a command for a unit of cluster 0. -/
def control (cmd : Nat) (dst : Endpoint) (payload : List Byte) (addr : Nat) : Packet :=
  { packet 7 dst payload addr with auxA := cmd }

/-- A state in which a packet stands. -/
def carrying (s : State) (p : Packet) : State := routed { s with net := { Net.reset with packets := [(0, p)], nextId := 1 } }

/-! ### Starts and bring-up -/

/-- The module in a cold start on both feeds, its controller running, in a phase. -/
def starting (phase : Nat) : State :=
  ({ State.reset with msc := { Msc.reset with starting := some true, booted := true } }.setNum o8FeedsOk 3).setNum o0StartPhase phase

/-- The module in service: its controller runs and no start is under way. -/
def running : State := { State.reset with msc := { Msc.reset with booted := true, trained := true } }

/-- A region with supply. -/
def powering (s : State) (r : Nat) : State := s.modRegion r (fun x => { x with powered := true })

/-- An image of 56 bytes that Tinder accepts: its body is empty. -/
def image : List Byte := leBytes 4 0x474D4948 ++ [1, 0, 0, 0] ++ leBytes 8 7 ++ leBytes 8 56 ++ sha256 []

/-- Two images in the banks, `a` and `b` say which are valid. -/
def banked (a b : Nat) : State :=
  { State.reset with msc := { Msc.reset with starting := some true, banks := [(0, ⟨a, 7, 56, image⟩), (1, ⟨b, 7, 56, image⟩)] } }

theorem witness_StartsAndSupply :
    running.msc.booted = true ∧ running.power.shutdown = false ∧ running.msc.starting ≠ some true ∧
    running.msc.trained = true ∧
    ({ running with msc := { running.msc with planeHeld := true } } : State).msc.planeHeld = true ∧
    ¬(running.power.shutdown = true ∧ running.coolantBad = true) := by decide

theorem witness_StartsAndSupply_boot :
    (banked 1 2).msc.starting = some true ∧ (banked 1 2).msc.booted = false ∧
    (banked 1 2).bootable 0 true = true ∧ (banked 2 1).bootable 0 true = false ∧ (banked 2 1).bootable 1 true = true ∧
    (banked 2 2).bootable 0 true = false ∧ (banked 2 2).bootable 1 true = false ∧
    (banked 1 2).power.aux12 = true ∧ ((banked 1 2).setAux false).power.aux12 = false ∧
    (banked 1 1).bootable 0 false = false := by decide +kernel

theorem witness_StartsAndSupply_supply :
    (starting 1).bankNext 0 = true ∧ (powering (starting 1) 0).inPhase 1 = true ∧
    ((powering (starting 1) 0).region 0).powered = true ∧
    (powering (starting 1) 11).bankNext 11 = false := by decide

/-- Every region bank switched on, but those of a list, which are lost. -/
def supplied (lost : List Nat) : State :=
  lost.foldl (fun s r => s.setNum (o1RegionState r) 3)
    (((List.range 12).filter (fun r => !lost.contains r)).foldl powering (starting 1))

theorem witness_StartsAndSupply_phase2 :
    (supplied []).banksDone = true ∧ ((supplied []).region 5).powered = true ∧
    (supplied [5]).banksDone = true ∧ ((supplied [5]).region 5).powered = false ∧ ((supplied [5]).region 6).powered = true ∧
    (supplied [5, 6]).banksDone = true ∧ ((supplied [5, 6]).region 6).powered = false := by decide

/-- Every region lost but those of a list. -/
def only (keep : List Nat) (s : State) : State :=
  ((List.range 12).filter (fun r => !keep.contains r)).foldl (fun s r => s.setNum (o1RegionState r) 3) s

/-- Phase 3 with supply in region 11, all of its fields tested but those of a list. -/
def testing (untested : List Nat) : State :=
  ((List.range 7).map (fun j => 12 * j + 11)).foldl
    (fun s f => s.modField f (fun x => { x with tested := !untested.contains f })) (only [11] (starting 3))

theorem witness_FieldBringUp :
    (testing [83]).testDue 83 = true ∧ ((testing [83]).field 83).softFull = false ∧
    (testing []).sparingDue 83 = true ∧ (testing []).num (o2StartResult 83) = 0 ∧
    ((testing []).setSelectors 83 15).allSpared = false := by decide +kernel

/-- Phase 5 with the fields of regions 0 and 1 spared, of which a list serves. -/
def spared (serving : List Nat) : State :=
  let s := ((List.range 84).filter (fun f => f % 12 < 2)).foldl
    (fun s f => s.modField f (fun x => { x with dm := { x.dm with built := true } })) (only [0, 1] (starting 5))
  serving.foldl (fun s f => s.setNum (o2FieldState f) 1) s

theorem witness_FieldBringUp_training :
    (spared [0, 1]).crossingDue (0, 1, 7) = true ∧ (spared [1]).dramDue 1 23 = true ∧
    ((spared [1]).field 1).softRows 23 = [] ∧ ((spared [1]).field 1).fuses.rows.get [] 23 = [] ∧
    ((spared [1]).field 1).dramBad = [] ∧ (spared [0, 1]).msc.starting = some true := by decide +kernel

/-- The same in a warm start, with a record of the crossing `h`. -/
def remembered (h : Nat × Nat × Nat) : State :=
  let s := spared [0, 1]
  let q := sideOf h
  { s with msc := { s.msc with starting := some false } }.modField q.1 (fun x => { x with
    kept := [(stitchIdx q.2.1 q.2.2, (some 5, [], s.edgeSparing q))] })

theorem witness_FieldBringUp_warm :
    let s := remembered (0, 1, 7)
    s.msc.starting = some false ∧ s.crossingDue (0, 1, 7) = true ∧ (s.keptCrossing (0, 1, 7)).isSome = true := by
  decide +kernel

/-- Phase 7 with field 0 serving and a broadcast. -/
def casting (b : Bcast) : State :=
  let s := ((only [0] (starting 7)).setNum (o2FieldState 0) 1).setNum (o2StartResult 0) 1
  { s with msc := { s.msc with bcast := some b, manifest := [0, 0, 0, 0, 0, 0, 1, 0] } }

/-- A broadcast after so many rounds, of a field that has reported the chunks of a list, or nothing. -/
def cast (rounds : Nat) (maps : SMap (List Nat)) : Bcast :=
  { rounds := rounds, missing := [0], waiting := [0], maps := maps, sentEnd := 0 < rounds, tries := [], install := false }

theorem witness_BroadcastRounds :
    (only [] (starting 6)).broadcastDue = true ∧ (casting (cast 0 [])).roundDue (cast 0 []) = true ∧
    (cast 1 []).sentEnd = true ∧ ((casting (cast 1 [])).bcastFields (cast 1 [])).contains 0 = true ∧
    (casting (cast 1 [])).reported (cast 1 []) 0 = false := by decide +kernel

theorem witness_BroadcastRounds_install :
    let b := cast 1 [(0, [])]
    (casting b).roundDue b = false ∧ (casting b).roundsOver b = true ∧ (casting b).allLoaded b = true ∧ b.install = false := by
  decide +kernel

/-- The last loader of field 0 has its manifest and misses a chunk, after the rounds and two unicasts, and every other has had
three. -/
def unicasting : State :=
  let b := { cast 8 [(0, [0])] with tries := (95, 0, 2) :: (List.range 95).map (fun k => (k, 0, 3)) }
  (casting b).modCluster 95 (fun x => { x with
    ldr := { x.ldr with state := 2, missing := [0], parts := [(0, (casting b).msc.manifest)] } })

theorem witness_BroadcastRounds_unicast :
    let s := unicasting
    let x := s.cluster 95
    (∃ b, s.msc.bcast = some b ∧ s.unicastDue b 95 0 = true ∧ b.tried 95 0 = 2) ∧ x.ldr.taken = true ∧ x.cmemErr = [] ∧
    Sparse.wf x.cmem = true ∧ x.ldr.manifest = s.msc.manifest :=
  ⟨⟨_, rfl, by decide +kernel, by decide +kernel⟩, by decide +kernel⟩

/-- R307, R636: two lanes of a group that a fuse block names need both spares of it, and a third keeps the crossing from training. -/
theorem test_fused_lanes_take_spares :
    let fused (l : List (Nat × Nat × Nat)) := State.reset.modField 0 (fun x => { x with fuses := { x.fuses with lanes := l } })
    let h : Nat × Nat × Nat := (0, 1, 0)
    let i := stitchIdx 1 0
    ((fused [(i, 0, 3), (i, 0, 9)]).withFuses h ⟨some 6, [1]⟩).spares = [2] ∧
    trainedByte ((fused [(i, 0, 3), (i, 0, 9), (i, 0, 4)]).withFuses h ⟨some 6, [1]⟩) = 0x80#8 ∧
    ((fused []).withFuses h ⟨some 6, [1, 0]⟩).spares = [1, 0] := by decide +kernel

/-- A manifest of one chunk of one byte, and the firmware behind it. -/
def firmware1 : List Byte :=
  leBytes 4 0x4D434648 ++ [1, 0, 1, 0] ++ leBytes 4 1 ++ List.replicate 84 0 ++ [7]

theorem witness_BroadcastRounds_image :
    manifestOk firmware1 = true ∧ firmware1.length = manifestLen firmware1 + mfLength firmware1 := by decide +kernel

theorem witness_BroadcastRounds_tries :
    let s := unicasting
    ∀ j ∈ s.presentIn 0, ∀ c ∈ (s.cluster j).ldr.missing, c < mfChunks s.msc.manifest → (j = 95 ∧ c = 0) ∨
      ∃ b, s.msc.bcast = some b ∧ 3 ≤ b.tried j c := by decide +kernel

/-- Phase 8, the install broadcast being sent. -/
def installed : State := (casting { cast 8 [(0, [])] with install := true }).setNum o0StartPhase 8

theorem witness_StartCompletes : installed.completeDue = true := by decide +kernel

theorem test_complete_counts_regions :
    after (exec (.startComplete 70000) installed)
      (fun s => s.num o0StartPhase = 9 && s.num o0ModuleState = 3 && s.num o0StartMs = 70000) = true := by decide +kernel
theorem test_boot_falls_back :
    after (exec (.bootRetry true true) (banked 2 1)) (fun s => s.msc.booted && s.num o0BootBank = 1 &&
      s.num o0FwFallbacks = 1 && s.num o0StartPhase = 1) = true := by decide +kernel

/-! ### Sequencer, faults and mordant -/

/-- A core that runs, with slot `j` valid over counter 0 and the account 2. -/
def slotted (j : Nat) : Core := { core [] with
  seqCtrl := 1, cnt := Sparse.ofList 0 [3], stations := Sparse.ofList (4 * j) [0xC0000100#32, 1#32] }

theorem witness_RaisingAFault :
    (core []).log.valid = false ∧
    ((core []).raise 0x20 0).log.valid = true ∧ causeClass 0x03 ≤ ((core []).raise 0x20 0).log.cls ∧
    ((core []).raise 0x03 0).log.cls < causeClass 0x20 := by decide

theorem witness_FiringRule :
    (slotted 7).mayFire = true ∧ (slotted 7).choose = some 7 ∧ (slotted 0).choose = some 0 ∧
    (slotted 7).eligible (((slotted 7).lastStation + 1 + 7) % 8) = true ∧
    (∀ e, e < 7 → (slotted 7).eligible (((slotted 7).lastStation + 1 + e) % 8) = false) ∧
    (core []).mayFire = false ∧ (core []).choose = none ∧ (∀ j, j < 8 → (core []).eligible j = false) ∧
    ((withCore (slotted 7)).core 0).choose = some 7 ∧ (withCore (slotted 7)).betweenPeriods 0 = false ∧
    (inPeriod (period .committed) (withCore { slotted 7 with between := true })).betweenPeriods 0 = true := by decide +kernel

theorem test_firing_takes_threshold :
    after (exec (.firingStart 0) (withCore (slotted 3))) (fun s =>
      (s.core 0).pc = 0x100 && (s.core 0).acct = 2 && Sparse.rd (s.core 0).cnt 0 = 2 && (s.core 0).curStation = 3) = true := by
  decide

/-- A core whose firing has issued `END`. -/
def ending : Core := { core [] with firing := true, ended := true, seqCtrl := 1, stations := Sparse.ofList 0 [0x00010000#32] }

theorem witness_FiringsEndAndOverrun :
    ending.ended = true ∧ ending.firing = true ∧ ending.faulted = false ∧ ending.drained = true ∧
    fld (ending.station ending.curStation 0) 16 11 ≠ 0 ∧ fld (ending.station ending.curStation 0) 16 11 * 256 < 257 := by
  decide

theorem witness_SequencerAndHeldInstructions :
    let wait (imm : Half) : Core := { ending with ended := false, held := some (.cwait 0 1 imm) }
    let answered : Core := { ending with ended := false, waitOp := some 4 }
    (∃ s' k', rerun 0 (.cwait 0 1 0) (withCore (wait 0)) { wait 0 with held := none } = (s', .done k')) ∧
    (core []).run = false ∧ nbit (1#32).toNat 0 = true ∧ nbit (0#32).toNat 0 = false ∧
    (wait 0).firing = true ∧ (wait 0).faulted = false ∧ (wait 0).restarting = false ∧ (wait 0).inReset = false ∧
    (0#16).toNat ≤ (Sparse.rd (wait 0).cnt 1).toNat ∧ (Sparse.rd (wait 1).cnt 1).toNat < (1#16).toNat ∧
    answered.held = none ∧ answered.waitOp = some 4 ∧ answered.ops.has 4 = false :=
  ⟨⟨_, _, rfl⟩, by decide⟩

theorem witness_SequencerAndHeldInstructions_writes :
    let k : Core := { core [] with logPosted := true, restarted := true }
    let hollow := (withCore (core [])).modField 0 (fun x => { x with dm := { x.dm with clState := Sparse.ofList 0 [1] } })
    k.logPosted = true ∧ k.restarted = true ∧ k.faulted = false ∧
    ((core []).logPosted && (core []).restarted && !(core []).faulted) = false ∧
    (withCore (core [])).coreGone 0 = false ∧ hollow.coreGone 0 = true := by decide +kernel

/-- A number that a sender may use is left. -/
theorem maySend (s : State) (u : Requester) (h : s.usedTxns u = []) : MaySend s u := ⟨0, by decide, by simp [h]⟩

theorem witness_RestartsAndMordant :
    let s := inPeriod (period .committed) State.reset
    MaySend s (.fieldController (fieldOf (clusterOf 0))) ∧
    (s.part (s.coresPart 0)).period = some (period .committed) ∧ (period .committed).ended ≠ .running ∧
    (period .committed).dropAt ≤ s.fabricIn (coreRegion 0) ∧ s.inPresent 0 = true := ⟨maySend _ _ (by decide +kernel), by decide +kernel⟩

theorem witness_RestartsAndMordant_commands :
    let q := { period .committed with restarted := [0] }
    let s := inPeriod q State.reset
    MaySend s (.fieldController (fieldOf (clusterOf 0))) ∧
    (s.part (s.coresPart 0)).period = some q ∧ q.restarted.contains 0 = true ∧ q.toldMordant.contains 0 = false ∧
    q.commits = true ∧ { q with ended := .dropped 0 0, causes := [3] }.commits = false :=
  ⟨maySend _ _ (by decide +kernel), by decide +kernel⟩

theorem witness_RestartsAndMordant_arrivals :
    ∀ cmd ∈ [4, 5, 6], CtlArrives (carrying State.reset (control cmd ⟨0, 0⟩ [] 0)) 0 (control cmd ⟨0, 0⟩ [] 0) cmd ∧
      (control cmd ⟨0, 0⟩ [] 0).dstCore = 0 := by
  unfold CtlArrives Deliverable; decide +kernel

theorem witness_RestartsAndMordant_core :
    let idle : Core := { core [] with seqCtrl := 0x4002 }
    let held : Core := (core []).raise 0x20 0
    (core []).ignoresRestart = false ∧ held.ignoresRestart = true ∧ (core []).inReset = false ∧ idle.stayAwake = false ∧
    idle.idleNow = true ∧ idle.idleDelay ≤ 64 ∧ { idle with stayAwake := true }.stayAwake = true ∧
    { core [] with mordant := some true }.mordant = some true ∧ (core []).rk = none ∧ (core []).smoulder = false := by
  decide

theorem witness_RekindleCompletes :
    let r : Rekindle := ⟨0, 0, 1, false, none, none, false, false, false, 0, 40⟩
    let k : Core := { core [] with rk := some r }
    k.rk = some r ∧ r.waitN = 0 ∧ r.uncorrectable = false ∧ r.fellBack = false ∧ 40 = max 32 r.lastCycle ∧
    { r with fellBack := true }.fellBack = true ∧ { r with uncorrectable := true }.uncorrectable = true := by decide

/-! ### Loaders, firmware, licences, graphs and faults -/

/-- A manifest of one chunk of 4 bytes whose image and chunk hashes are as given. -/
def manifestOf (img : List Byte) (chunk : List Byte) : List Byte :=
  [0, 0, 0, 0, 0, 0, 1, 0] ++ leBytes 4 4 ++ leBytes 4 9 ++ img ++ List.replicate 16 0 ++ chunk

/-- The module with the loader of cluster 0 given. -/
def loading (l : Loader) : State := State.reset.modCluster 0 (fun x => { x with ldr := l })

/-- A loader that receives and has taken its manifest. -/
def taking (miss : List Nat) (m : List Byte) : Loader :=
  { Loader.reset with receive := true, reportEn := true, state := 2, missing := miss, parts := [(0, m)] }

/-- A broadcast of a kind and an index that stands whole in the buffer of cluster 0's router. -/
def brought (kind index : Nat) (d : List Byte) (s : State) : State :=
  let p : Packet := { packet 9 ⟨3, 0⟩ d 0 with auxA := kind * 4096, auxB := index }
  { routed s with net := { Net.reset with packets := [(0, p)], nextId := 1 } }.modNode 0 (fun x => { x with
    bc := some ⟨0, 4, p.flits, p.flits, false, [], true⟩ })

/-- Four bytes of firmware, and other four. -/
def four : List Byte := [0, 0, 0, 0]
def else4 : List Byte := [1, 2, 3, 4]

theorem witness_LoaderCommands :
    (∀ kind ∈ [0, 1, 2, 3], ((brought kind 0 else4 State.reset).bcFor 0).any (fun p =>
      nfld p.auxA 12 4 = kind && p.auxB = 0 && p.payload = else4) = true) ∧
    (taking [] []).receive = true ∧ Loader.reset.receive = false := by decide +kernel

theorem witness_LoaderCommands_chunks :
    let s := loading (taking [0] (manifestOf (sha256 four) (sha256 else4)))
    (s.cluster 0).ldr.taken = true ∧ (s.cluster 0).inReset = false ∧
    (s.cluster 0).ldr.missing.contains 0 = true ∧ (s.cluster 0).cmemErr = [] ∧ Sparse.wf (s.cluster 0).cmem = true ∧
    else4.length = mfChunkLen (s.cluster 0).ldr.manifest 0 ∧
    sha256 else4 = mfHash (s.cluster 0).ldr.manifest 0 ∧ sha256 four ≠ mfHash (s.cluster 0).ldr.manifest 0 ∧
    (s.cluster 0).ldr.reportEn = true := by decide +kernel

theorem witness_LoaderCommands_install :
    let s := loading (taking [] (manifestOf (sha256 four) (sha256 four)))
    (s.cluster 0).ldr.taken = true ∧ (s.cluster 0).ldr.missing = [] ∧
    sha256 (Sparse.dense (s.cluster 0).cmem 0x100000 (mfLength (s.cluster 0).ldr.manifest)) =
      mfImage (s.cluster 0).ldr.manifest := by decide +kernel

theorem test_chunk_clears_its_bit :
    after (exec (.chunk 0) (brought 1 0 else4 (loading (taking [0, 7] (manifestOf [] (List.replicate 32 0 ++ sha256 else4))))))
      (fun s => (s.cluster 0).ldr.missing = [7] && (s.cluster 0).ldr.chunksReceived = 1) = true := by decide +kernel

/-- The module with a firmware update open. -/
def updating (u : Update) : State := { running with msc := { running.msc with upd := some u } }

theorem witness_FirmwareAndLicences :
    let part : Update := ⟨1, 16385, [(0, image)]⟩
    let all : Update := ⟨1, 56, [(0, image)]⟩
    0 < (536870912#32).toNat ∧ (536870912#32).toNat ≤ 536870912 ∧ running.msc.upd = none ∧ running.inhibited = false ∧
    (updating part).msc.upd = some part ∧ (List.replicate 16392 (0#8)).length = 16392 ∧ 0 < part.len ∧
    part.whole = false ∧ all.whole = true ∧ (updating all).verifies all.image all.len true = true ∧
    (updating all).verifies all.image all.len false = false := by
  refine ⟨by decide, by decide, rfl, by decide, rfl, List.length_replicate, ?_⟩
  decide +kernel

/-- A licence with features `feat` and id `id` for the module that `digest` names. -/
def licence (feat id : Nat) (digest : List Byte) : List Byte :=
  leBytes 4 0x43494C48 ++ leBytes 2 1 ++ leBytes 2 0 ++ leBytes 8 id ++ digest ++ leBytes 4 feat ++ leBytes 12 0

theorem witness_FirmwareAndLicences_licences :
    let held : State := { running with msc := { running.msc with licences := [⟨licence 2 9 [], true⟩] } }
    let d := licence 1 5 idDigest ++ List.replicate 16224 0
    let other := licence 1 5 (List.replicate 32 0) ++ List.replicate 16224 0
    d.length = 16288 ∧ licenceForm d = true ∧ sliceB d 0x10 32 = idDigest ∧ running.msc.licences.length < 16 ∧
    licenceForm (List.replicate 16288 0) = false ∧ licenceForm other = true ∧
    (held.msc.licences).any (fun x => x.id = 9) = true ∧ held.withdraws (featuresOf []) = false := by
  refine ⟨?_, ?_, rfl, by decide, ?_, ?_, by decide, by decide +kernel⟩ <;> decide +kernel

theorem witness_FirmwareAndLicences_other :
    ∃ d : List Byte, d.length = 16288 ∧ licenceForm d = true ∧ sliceB d 0x10 32 ≠ idDigest := by
  by_cases h : idDigest = List.replicate 32 0
  · refine ⟨licence 1 5 (List.replicate 32 1) ++ List.replicate 16224 0, ?_, ?_, ?_⟩
    · decide +kernel
    · decide +kernel
    · rw [h]; decide +kernel
  · refine ⟨licence 1 5 (List.replicate 32 0) ++ List.replicate 16224 0, ?_, ?_, ?_⟩
    · decide +kernel
    · decide +kernel
    · have e : sliceB (licence 1 5 (List.replicate 32 0) ++ List.replicate 16224 0) 0x10 32 = List.replicate 32 0 := by
        decide +kernel
      rw [e]; exact fun he => h he.symm

/-- A package without records for region 0 alone. -/
def package : List Byte :=
  let h := leBytes 4 0x4B504748 ++ [1, 0, 0, 0] ++ leBytes 8 77 ++ leBytes 4 1 ++ leBytes 8 0 ++ leBytes 4 256 ++
    List.replicate 216 0
  h ++ leBytes 4 (crc32c h) ++ leBytes 4 0

/-- Every region a partition of its own, and partition 0 with a copied package. -/
def copied (b : List Byte) : State :=
  (running.setNum o0PartitionSplit 2047).modPart 0 (fun x => { x with copy := some b })

theorem witness_GraphLoads :
    let s := copied package
    s.isPart 0 = true ∧ gaSpace 0x4000000000000000 = 4 ∧ nfld 0x4000000000000000 56 4 = 0 ∧
    s.gaValid 0x4000000000000000 1 = true ∧ s.cutOff (s.partRegions 0) = false ∧ s.num (o6GraphState 0) = 0 ∧
    (s.setNum (o6GraphState 0) 2).num (o6GraphState 0) ≠ 0 ∧
    ([] : List Nat).find? (fun k => k < 8064 && s.partOfCluster k = 0) = none ∧
    [671, 0].find? (fun k => k < 8064 && s.partOfCluster k = 0) = some 0 := by decide +kernel

theorem witness_GraphLoads_copied (b : List Byte) : ((copied b).part 0).copy = some b := rfl
theorem witness_GraphLoads_taken : ((copied package).checkLoad 0 package).toOption.isSome = true := by decide +kernel
theorem witness_GraphLoads_refused : ((copied []).checkLoad 0 []).toOption.isNone = true := by decide +kernel

/-- Partition 0 at its boundary, with a reset asked for. -/
def resetting (remove : Bool) : State :=
  running.modPart 0 (fun x => { x with
    period := some (period .committed), reset? := some remove })

/-- A variant of region 0's graph for core 3 of cluster 0. -/
def spareCore : Variant := ⟨0, 3, [], []⟩

theorem witness_PartitionSplitsAndResets :
    (running.changedRegions 2047).any (fun r => running.regionUp r && running.cutOff [r]) = false ∧
    (∀ r ∈ running.changedRegions 2047, running.num (o6GraphState (running.partOfRegion r)) = 0 ∧
      running.openOf r = 0 ∧ running.openOf (r + 12) = 0) ∧
    running.isPart 0 = true ∧ running.num (o6GraphState 0) ≠ 1 ∧ running.num (o6PartitionState 0) ≠ 3 ∧
    running.msc.starting = none ∧ running.openIn 0 = 0 ∧
    (running.setNum (o6GraphState 0) 2).num (o6GraphState 0) = 2 ∧ 0 ∈ running.changedRegions 2047 ∧ ((resetting true).part 0).reset? = some true ∧
    ((resetting false).part 0).reset? = some false ∧ ((resetting true).part 0).boundary = true := by decide +kernel

/-- Partition 0 with a graph and its variant, core 3 lost, at a boundary that is done. -/
def losing : State :=
  let s := (running.setNum (o6GraphState 0) 2).modPart 0 (fun x => { x with
    lost := [3], pkg := some ⟨false, 1, 4095, [], [], [], [], [], [], [], [spareCore], [], []⟩ })
  s

theorem witness_DeadCoresAndResets :
    let bad := withCore { (core []).raise 0x20 0 with logPosted := true }
    let worn : Core := { core [] with ueHour := [(5, [3600000000007, 7])] }
    let late := inPeriod { period .committed with toldMordant := [0], toldRestart := [0] } (withCore (core []))
    bad.mortal 0 = true ∧ (bad.core 0).logPosted = true ∧ (bad.core 0).faulted = true ∧ (bad.core 0).log.valid = true ∧ (bad.core 0).log.cls = 2 ∧
    worn.faulted = false ∧ worn.worn = true ∧ (withCore worn).mortal 0 = true ∧
    (late.part (late.coresPart 0)).ended = true ∧ (late.part (late.coresPart 0)).told true 0 = true ∧
    (late.part (late.coresPart 0)).told false 0 = true ∧ late.mortal 0 = true ∧
    (late.part (late.coresPart 0)).acked true 0 = false ∧ (late.part (late.coresPart 0)).acked false 0 = false := by
  decide +kernel

theorem witness_DeadCoresAndResets_routers :
    let s := (State.reset.setNum (o2FieldState 83) 1).modCluster 8063 (fun x => { x with mpCtrl := 1 })
    s.routerOk 8063 = true ∧ s.fieldState 83 = 1 ∧
    running.num (o6GraphState (running.partOfCluster 8063)) = 0 ∧ running.msc.starting = none ∧
    (running.part (running.partOfCluster 8063)).reset? = none := by decide +kernel

theorem witness_DeadCoresAndResets_variant :
    (losing.part 0).reset? = none ∧ (losing.part 0).boundary = true ∧ losing.boundaryDone 0 = true ∧
    losing.num (o6GraphState 0) = 2 ∧ (losing.part 0).lost = [3] ∧ (losing.part 0).variants.has 0 = false ∧
    ∃ g, (losing.part 0).pkg = some g ∧ g.variant 0 3 = some spareCore ∧ g.variantBad spareCore = false :=
  ⟨rfl, by decide +kernel, by decide +kernel, by decide +kernel, by decide +kernel, by decide +kernel, _, rfl, rfl, rfl⟩

/-- A fault record. -/
def record (n : Nat) : FaultRec := ⟨0, n, 2, 1, 0, 2, 3, 0, 255, 0⟩

/-- The standby's field is in service. -/
def standing (s : State) : State := s.setNum (o2FieldState 42) 1

theorem witness_SupervisorAndRecords :
    running.num o0WsPrimary = 0x29 ∧ running.msc.failedOver = false ∧ (standing running).fieldState 42 = 1 ∧
    ((running.setNum (o6GraphState 11) 1).num (o6GraphState 11)) = 1 ∧
    [(83, record 0), (96, record 1)].find? (fun e => e.1 = 96) = some (96, record 1) ∧
    ((List.range 256).map record).length = 256 := by decide +kernel

theorem test_takeover_abandons_loads :
    after (exec .heartbeatTimeout (standing (running.setNum (o6GraphState 11) 1))) (fun s =>
      s.num o0WsPrimary = 0x2A && s.num (o6GraphState 11) = 0 && s.num (o6LoadResult 11) = 0x0D) = true := by
  decide +kernel

/-! ### Control, and the commands of a period -/

theorem witness_RegisterWrites :
    let off := State.reset
    let on := off.modCluster 8063 (fun x => { x with spCtrl := 1 })
    0x7FFFFC % 4 = 0 ∧ 0x7FFFFC < 0x800000 ∧ nbit (off.cluster 8063).spCtrl.toNat 0 = false ∧
    nbit (on.cluster 8063).spCtrl.toNat 0 = true ∧ 64 ≤ (64#32).toNat % 2 ^ 22 ∧ off.coresStopped 0 = true ∧
    (16#32).toNat % 32 ≤ 16 ∧ (withCore (slotted 0)).coresStopped 0 = false ∧ off.clusterState 0 ≠ 1 ∧
    off.blockAbsent 8063 0x7FFFFC = false ∧ off.blockAbsent 0 0 = false ∧
    (let hollow := off.modField 0 (fun x => { x with dm := { x.dm with clState := Sparse.ofList 0 [1] } })
     hollow.blockAbsent 0 0 = true ∧ hollow.blockAbsent 0 0xA1000 = true ∧ hollow.clusterState 0 = 1) := by decide +kernel

theorem witness_ControlRequests :
    (Requester.fieldController 0).exists_ = true ∧ mayConfigure (.fieldController 0) = true ∧
    MaySend State.reset (.fieldController 0) := ⟨by decide, by decide, maySend _ _ (by decide +kernel)⟩

theorem witness_ControlRequests_arrivals :
    (∀ cmd ∈ [1, 2], CtlArrives (carrying State.reset (control cmd ⟨3, 0⟩ four 0xA0004)) 0 (control cmd ⟨3, 0⟩ four 0xA0004) cmd) ∧
    (∀ cmd ∈ [1, 2], let p := control cmd ⟨3, 0⟩ four 0
      let s := carrying (withCore { core [] with dead := true }) p
      Deliverable s 0 p ∧ p.typ = 7 ∧ s.ctlAbsent p = true) := by
  unfold CtlArrives Deliverable; decide +kernel

/-- A control response for the field controller of field 0, and a module in which its request is open. -/
def closing (awaited : Bool) : State :=
  let s := carrying State.reset (packet 8 ⟨7, 0⟩ [] 0)
  if awaited then { s with net := { s.net with ctl := [⟨(packet 8 ⟨7, 0⟩ [] 0).receiver, 0, 0, 0⟩] } } else s

theorem witness_ControlRequests_responses :
    ∀ b, let p := packet 8 ⟨7, 0⟩ [] 0
      Deliverable (closing b) 0 p ∧ p.typ = 8 ∧ (closing b).ctlOpen p.receiver p.txn = b := by
  unfold Deliverable; decide +kernel

/-- A package with one station, on core 0. -/
def hosting : Package :=
  { remote := false, graphId := 1, span := 4095, stations := [⟨0, 0, 0, 0, 0, 0, 0, 0, 0, 0, 0, 0, 0⟩], programs := []
    edges := [], recs3 := [], recs4 := [], recs5 := [], stitch := [], variants := [], report := [], digest := [] }

theorem witness_PeriodMessages :
    let s := inPeriod (period .running) (withCore { core [] with acks := [4] })
    (s.part (s.coresPart 0)).period = some (period .running) ∧ (period .running).toldStart.contains 0 = false ∧
    s.inPresent 0 = true ∧ (s.core 0).acks = [4] ∧ MaySend s (.fieldController 0) ∧ MaySend s (.core 0) :=
  ⟨by decide +kernel, by decide, by decide +kernel, by decide +kernel, maySend _ _ (by decide +kernel),
    maySend _ _ (by decide +kernel)⟩

theorem witness_PeriodMessages_begin :
    let k : Core := { core [] with begun := true }
    (core []).begun = false ∧ k.begun = true ∧ k.smoulder = false ∧ (∀ n, n < 16 → k.bound n 5 0 = false) ∧
    (∀ n, n < 16 → (core []).bound n 5 0 = false) ∧
    ((withCore (core [])).modPart 0 (fun x => { x with pkg := some hosting })).placed 0 = true := by decide +kernel

theorem witness_PeriodMessages_arrivals :
    ∀ cmd ∈ [3, 7, 8], ∀ code ∈ [4, 5], let p := { control cmd ⟨0, 0⟩ (leBytes 4 code) 0 with src := ⟨0, 0⟩ }
      CtlArrives (carrying State.reset p) 0 p cmd ∧ p.dstCore = 0 ∧ p.srcCore = 0 ∧ ofLe p.payload = code ∧
      (control 8 ⟨0, 0⟩ [] 0).src.kind ≠ 0 := by
  unfold CtlArrives Deliverable; decide +kernel

theorem witness_PeriodMessages_reports :
    (State.reset.setClusterState 0 0).coreGone 0 = false ∧ (withCore { core [] with dead := true }).coreGone 0 = true ∧
    (core []).lethal ((core []).raise 0x20 0).log.bytes 0 = true ∧ (core []).lethal ((core []).raise 0x05 0).log.bytes 0 = false ∧
    (core []).lethal ((core []).raise 0x10 8).log.bytes 5 = false ∧
    { core [] with ueHour := [(8, [0])] }.lethal ((core []).raise 0x10 8).log.bytes 5 = true := by decide +kernel

theorem witness_PeriodMessages_faults :
    let s := (withCore ((core []).raise 0x20 0)).modCluster 0 (fun x => { x with sent := [⟨.core 0, 3⟩] })
    (∃ m rest, (s.core 0).sent = m :: rest) ∧ (s.cluster 0).sent = [⟨.core 0, 3⟩] ∧ MaySend s (.core 0) ∧ MaySend s (.router 0) :=
  ⟨⟨_, _, rfl⟩, by decide +kernel, maySend _ _ (by decide +kernel), maySend _ _ (by decide +kernel)⟩

/-! ### The message plane and the homes -/

/-- Core 0 has issued a write to the line at 0x40 that has not left it yet; cluster 0 keeps lines of that address. -/
def writeOnItsWay : State :=
  let p : Packet := { packet 1 ⟨2, 0⟩ (List.replicate 4 9) 0x40 with src := ⟨0, 0⟩, len := 4, injected := false, landed := false }
  { withCore (at_ (encMsg 2 2 0 5 0 0) mover) with net := { Net.reset with packets := [(0, p)], nextId := 1 } }.modCluster 0
    (fun x => { x with cmemCtrl := 1, ranges := Sparse.ofList 1 [0x8000000000000001#64] })

theorem witness_MessageInstructionResults_waits :
    (cutParts 34 0x40 4).any (fun r => (withCore mover).writeWaits 0 r.1 r.2) = false ∧
    (withCore mover).writeWaits 0 0x40 4 = false ∧ writeOnItsWay.writeWaits 0 0x40 4 = true := by decide +kernel

/-- A read of a global address that core 0 of cluster 0 is about to send. -/
def asking (addr : Nat) : Packet :=
  { packet 0 ⟨7, 0⟩ [] addr with src := ⟨0, 0⟩, len := 4, injected := false, landed := false, leg := 0 }

/-- Core 0 with two parts outstanding, the second the packet's. -/
def twoParts (a b : Nat) : State :=
  let op (addr txn : Nat) : MsgOp := ⟨.get, addr, 0, 4, 0, 0, false, [⟨txn, addr, 4, false, []⟩], false⟩
  withCore { core [] with ops := [(0, op a 9), (1, op b 0)] }

/-- A response at cluster 0 on its way to cluster 1. -/
def leaving : Packet := { packet 3 ⟨0, 0⟩ [7] 0 with cls := 1, dstX := 1, landed := false }

/-- Clusters 0 and 1 enabled. -/
def pairUp (s : State) : State := s.modCluster 1 (fun x => { x with mpCtrl := 0x0008000F })

/-- The island of cluster 0 ends at column 11. -/
def short (s : State) : State := s.modCluster 0 (fun x => { x with mpWindow := 0xB0000000 })

/-- A broadcast that the supervisor is about to send, and a message of port 0's engine. -/
def telling : Packet := { packet 9 ⟨3, 0⟩ [] 0 with injected := false, landed := false }
def porting : Packet := { packet 6 ⟨4, 0⟩ [] 0 with src := ⟨6, 0⟩, injected := false, landed := false }

theorem witness_PacketMovement_injection :
    (∀ e ∈ [(State.reset, asking 0x9000000000000000), (twoParts 0x40 0x80, asking 0x80), (twoParts 0x40 0x44, asking 0x44),
        (State.reset, telling), (State.reset, { leaving with injected := false })],
      (carrying e.1 e.2).net.packets.look 0 = some e.2 ∧ (carrying e.1 e.2).mayInject e.2 = true) ∧
    (carrying State.reset (asking 0x9000000000000000)).absentHere (asking 0x9000000000000000) = true ∧
    (carrying (twoParts 0x40 0x80) (asking 0x80)).absentHere (asking 0x80) = false ∧
    (carrying (twoParts 0x40 0x44) (asking 0x44)).hazard (asking 0x44) = true ∧
    (carrying (twoParts 0x40 0x80) (asking 0x80)).hazard (asking 0x80) = false ∧
    (pairUp (carrying State.reset porting)).mayInject porting = true ∧
    (pairUp (carrying State.reset telling)).treeOuts 0 4 ≠ [] := by decide +kernel

theorem witness_PacketMovement_islands :
    let s := short (carrying State.reset (asking 0x58000000000))
    let r := short (carrying State.reset { leaving with injected := false, dstX := 143 })
    (s.cluster 0).islandX0 = 0 ∧ (s.cluster 0).islandX1 = 11 ∧ 11 < (s.aim (asking 0x58000000000)).dstX ∧
    s.mayInject (asking 0x58000000000) = true ∧ s.absentHere (asking 0x58000000000) = false ∧
    (asking 0x58000000000).isRequest = true ∧ leaving.isRequest = false ∧ 11 < (r.aim { leaving with dstX := 143 }).dstX ∧
    (s.aim (asking 0x40)).dstX ≤ 11 := by decide +kernel

/-- A packet that stands at router 0's local input, on its way; router 1 works or not. -/
def standingAt (p : Packet) (s : State) : State :=
  (carrying s p).modNode 0 (fun x => { x with bufs := [(128 + p.vc, p.toFlits 0 p.vc)] })

theorem witness_PacketMovement :
    let s := pairUp (standingAt leaving State.reset)
    (s.setNum (o2FieldState 0) 0).linkUp 0 1 = false ∧ s.linkUp 0 1 = true ∧ linkPeer 0 1 = some (1, 3) ∧
    ((s.node 0).out 1).resend = none ∧ ((s.node 0).out 1).replay = [] ∧ s.bcNext 0 1 = none ∧
    s.forwards 0 0 = true ∧ (s.node 0).feed.get [] 6 = [] ∧ (s.node 0).buf 4 6 = leaving.toFlits 0 6 ∧ s.before 0 1 = [(4, 6, 6)] ∧ s.arbiter 0 1 = some (4, 6, 6) ∧
    (s.wants 0 4 6).any (fun w => w.1 = 1 && w.2.1 = 6) = true ∧ s.takes 0 1 6 true = true ∧
    ((s.node 0).out 1).seq = 0 ∧ ((s.node 1).in_ 3).expect = 0 := by decide +kernel

theorem witness_PacketMovement_ends :
    let p : Packet := { leaving with payload := [], dstX := 0 }
    let here := standingAt p State.reset
    let lost := (standingAt { leaving with leg := 2 } State.reset).modNode 0 (fun x => x.setOut 1 { x.out 1 with down := 1 })
    (p.toFlits 0 6).length = 1 ∧ here.before 0 4 = [(4, 6, 6)] ∧ here.wants 0 4 6 = some (4, 6, some .land) ∧ p.cut = false ∧
    lost.before 0 4 = [(4, 8, 8)] ∧ lost.wants 0 4 8 = some (4, 8, some .unreachable) ∧
    lost.net.packets.look 0 = some { leaving with leg := 2 } ∧ 0 < lost.net.nextId := by decide +kernel

theorem test_hop_moves_the_header :
    after (exec (.packetHop 0 1) (pairUp (standingAt leaving State.reset)))
      (fun s => ((s.node 1).buf 3 6).map (·.head) = [true] && ((s.node 0).buf 4 6).map (·.tail) = [true]) = true := by
  decide +kernel

/-- The sending side of the link from router 0 to router 1. -/
def linked (f : LinkOut → LinkOut) : State :=
  (pairUp (standingAt leaving State.reset)).modNode 0 (fun x => x.setOut 1 (f (x.out 1)))

theorem witness_LinksAndTimeouts :
    let s := linked id
    let tired := linked (fun o => { o with tries := 16 })
    let slow := linked (fun o => { o with replay := leaving.toFlits 0 6 })
    linkPeer 1 3 = some (0, 1) ∧ linkPeer 0 1 = some (1, 3) ∧ s.linkUp 0 1 = true ∧
    (s.nextFlit 0 1).2.any (fun f => (s.nextFlit 0 1).1.fails 0 1 1 3 f 1 && !(s.nextFlit 0 1).1.fails 0 1 1 3 f 0) = true ∧
    tired.linkUp 0 1 = true ∧ ((tired.node 0).out 1).tries = 16 ∧ slow.linkUp 0 1 = true ∧
    ((slow.node 0).out 1).tries < 16 ∧ ((slow.node 0).out 1).replay ≠ [] ∧ ((slow.node 0).out 1).since = 0 := by
  decide +kernel

theorem witness_LinksAndTimeouts_requests :
    let held := { asking 0x80 with held := true }
    let s := carrying (twoParts 0x40 0x80) held
    let f := withCore { core [] with ops := [(5, ⟨.fetch true, 0x80, 0, 2048, 0, 0, false, [⟨7, 0x80, 2048, false, []⟩], false⟩)] }
    (Requester.core 0).exists_ = true ∧
    s.net.packets.find? (fun e => e.2.held && e.2.requester = .core 0 && !s.hazard e.2) = some (0, held) ∧
    (closing true).wasSent (packet 8 ⟨7, 0⟩ [] 0).receiver 0 = true ∧
    (closing true).ctlOpen (packet 8 ⟨7, 0⟩ [] 0).receiver 0 = true ∧
    (twoParts 0x40 0x80).wasSent (.core 0) 9 = true ∧ (twoParts 0x40 0x80).ctlOpen (.core 0) 9 = false ∧
    (((twoParts 0x40 0x80).core 0).opOf 9).any (fun o => o.1 = 0 && !o.2.isFetch) = true ∧
    ((f.core 0).opOf 7).any (fun o => o.1 = 5 && o.2.isFetch) = true ∧ f.wasSent (.core 0) 7 = true := by decide +kernel

/-- Core 0 waits for the answer to one operation of kind `m`. -/
def awaiting (m : OpKind) (typ status : Nat) (data : List Byte) : State :=
  let op : MsgOp := ⟨m, 0x80, 0, 4, 3, 2, true, [⟨0, 0x80, 4, false, []⟩], false⟩
  carrying (withCore { core [] with ops := [(0, op)], rk := some ⟨0, 0, 1, false, none, none, false, false, false, 1, 0⟩ })
    { packet typ ⟨0, 0⟩ data 0x80 with status := status }

theorem witness_ResponsesAtTheCore :
    let op (m : OpKind) : MsgOp := ⟨m, 0x80, 0, 4, 3, 2, true, [⟨0, 0x80, 4, false, []⟩], false⟩
    let p (typ status : Nat) (data : List Byte) : Packet := { packet typ ⟨0, 0⟩ data 0x80 with status := status }
    (∀ e ∈ [(OpKind.ldg, 3, 0, [1#8, 2, 3, 4]), (.stg, 4, 0, []), (.put, 4, 0, []), (.amo, 5, 0, [])] ++
        [1, 2, 3].map (fun st => (.stg, 4, st, [])) ++ [(.fetch false, 3, 0, [5]), (.fetch true, 3, 0, [5])] ++
        [(.fetch true, 3, 1, []), (.fetch false, 3, 3, [])],
      let s := awaiting e.1 e.2.1 e.2.2.1 e.2.2.2
      Deliverable s 0 (p e.2.1 e.2.2.1 e.2.2.2) ∧ (s.core 0).opOf 0 = some (0, op e.1) ∧ (s.core 0).rk.isSome = true) ∧
    (p 4 1 []).dst.kind = 0 := by unfold Deliverable; decide +kernel

theorem test_load_writes_its_register :
    after (exec (.readResponse 0) (awaiting .ldg 3 0 [1, 2, 3, 4])) (fun s => (s.core 0).s 3 = 0x04030201) = true := by
  decide +kernel
theorem test_protected_store_faults :
    after (exec (.writeResponse 0) (awaiting .stg 4 2 [])) (fun s =>
      (s.core 0).faulted && (s.core 0).log.cause = 9 && (s.core 0).log.detail = 0x80) = true := by decide +kernel

/-- A request of type `typ` with 64 bytes, if it writes, that has come to a unit of cluster 0. -/
def arriving (typ : Nat) (dst : Endpoint) (addr : Nat) : Packet :=
  { packet typ dst (if typ = 1 then List.replicate 64 9 else []) addr with len := if typ = 0 then 8 else 64 }

theorem witness_RequestsAtTheirHome :
    (∀ e ∈ [(0, (⟨0, 0⟩ : Endpoint), 0x2000000000000000), (0, ⟨1, 0⟩, 0x1000000000000000)] ++
        [(0, ⟨2, 0⟩, 0x40), (1, ⟨0, 0⟩, 0)] ++ [1, 2].map (fun typ => (typ, ⟨2, 0⟩, 0x40)),
      let p := arriving e.1 e.2.1 e.2.2
      let s := carrying State.reset p
      Deliverable s 0 p ∧ p.src.kind ≠ 6 ∧ (s.received 0 p).refused p = false ∧ (s.received 0 p).absentAt p = false ∧
      p.fetch = none ∧ badWord (s.core p.dstCore).storeErr (nfld p.addr 0 17) p.len = none ∧
      badWord ((s.received 0 p).cluster p.home).cmemErr (nfld p.addr 0 21) p.len = none ∧
      (s.core p.dstCore).storeErr = [] ∧ s.dram.err = [] ∧
      (s.chan (chanOf ((s.received 0 p).dramKey p.addr))).chState ≠ 3) ∧
    ((carrying State.reset (arriving 1 ⟨2, 0⟩ 0x40)).received 0 (arriving 1 ⟨2, 0⟩ 0x40)).dramKey 0x40 % 64 = 0 ∧
    (arriving 1 ⟨2, 0⟩ 0x40).payload.length = 64 ∧
    (let p := { arriving 1 ⟨2, 0⟩ 0x40 with part := 3 }
     let s := carrying State.reset p
     Deliverable s 0 p ∧ (s.received 0 p).refused p = true) := by unfold Deliverable; decide +kernel

theorem test_write_then_memory :
    after (exec (.writeRequest 0) (carrying State.reset (arriving 1 ⟨2, 0⟩ 0x40))) (fun s =>
      Sparse.rd s.dram.mem (s.dramKey 0x40 + 63) = 9 && Sparse.rd s.dram.mem (s.dramKey 0x40 + 64) = 0) = true := by
  decide +kernel

/-- A fetch of retain slot 0 of core 0. -/
def fetching (gen : Nat) : Packet := { packet 0 ⟨0, 0⟩ [] 0 with fetch := some (0, gen), len := 2048 }

/-- A message of 8 bytes to the first inbox of core 0. -/
def message : Packet := { packet 6 ⟨4, 0⟩ (List.replicate 8 1) 0 with inbox := 0 }

/-- An inbox of core 0 whose descriptor is `d`, with `fill` already in its filling bank. -/
def inboxed (d : Long) (fill : List Nat) (p : Packet) : State :=
  (carrying (withCore { core [] with
      inbox := [(0, { Inbox.reset with drainLens := [16], fillLens := fill })], retainCtrl := 0x00200000 }) p).modCluster 0
    (fun x => { x with desc := [(32, d)] })

theorem witness_CopiesAndInboxes :
    let f := inboxed 0 [] (fetching 0)
    let g := inboxed 0 [] (fetching 1)
    let room := inboxed 0x8A00000000000000#64 [] message
    let small := inboxed 0x8300000000000000#64 [] message
    let full := inboxed 0x8500000000000000#64 [32] message
    Deliverable f 0 (fetching 0) ∧ Deliverable g 0 (fetching 1) ∧ (fetching 0).src.kind ≠ 6 ∧
    (f.received 0 (fetching 0)).refused (fetching 0) = false ∧ (f.received 0 (fetching 0)).absentAt (fetching 0) = false ∧
    0 < (f.core 0).retainDepth ∧ ((f.core 0).ringAt 0).gen = 0 ∧ (f.core 0).storeErr = [] ∧
    ((g.core 0).ringAt 0).gen ≠ 1 ∧ Deliverable room 0 message ∧ room.refused message = false ∧
    room.absentAt message = false ∧ ((room.core 0).inboxAt 0).drainLens ≠ [] ∧
    room.inboxRoom message = true ∧ 16 ≤ bankBytes 0x8A00000000000000#64 ∧ bankBytes 0x8300000000000000#64 < 16 ∧
    Deliverable small 0 message ∧ Deliverable full 0 message ∧ full.inboxRoom message = false := by unfold Deliverable; decide +kernel

theorem witness_ChannelEvents :
    let s := State.reset.modChan (83 * 24 + 23) (fun x => { x with chState := 2 })
    (s.chan (83 * 24 + 23)).scrubEn = true ∧ (s.chan (83 * 24 + 23)).chState = 2 ∧
    s.dram.mark ((83 * 24 + 23) * 2 ^ 32) ≠ some true ∧ SMap.look [(64, LineErr.symbol 3)] 64 = some (.symbol 3) ∧
    SMap.look [(64, LineErr.symbols 3 4)] 64 = some (.symbols 3 4) ∧ SMap.look [(64, LineErr.address)] 64 = some .address ∧ 85 < (86#8).toNat ∧ (82#8).toNat < 83 ∧ 83 ≤ (85#8).toNat ∧
    (85#8).toNat ≤ 85 := by decide +kernel

theorem test_refresh_doubles_over_85 :
    after (exec (.dramTemperatureRead 0 0 86) State.reset) (fun s => (s.chan 0).refresh2x) = true := by decide +kernel

/-! ### The scheduled plane and the crossings -/

/-- Entry 0 of a router: occurs in cycle 10 of each turn, with the second word as given. -/
def slotEntry (lane : Nat) (w1 : Nat) : SlotEntry := ⟨BitVec.ofNat 64 (2 ^ 63 + lane * 2 ^ 62 + 10 * 2 ^ 37), BitVec.ofNat 64 w1⟩

/-- A descriptor of a queue of 4 entries of one flit, of route 5. -/
def desc4 : Long := BitVec.ofNat 64 (2 ^ 63 + 4 * 2 ^ 56 + 5 * 2 ^ 44 + 2 ^ 38)

/-- Cluster 0 applies one entry in a frame of 100 cycles, one turn, and core 0 is as given; the first queue or channel of
each kind of core 0 has that descriptor. -/
def scheduling (y : SlotEntry) (k : Core) : State := (withCore k).modCluster 0 (fun x => { x with
  spCtrl := 1, frameLen := 100, turns := 1, slots := [(0, y)], desc := [0, 8, 16, 24].map (fun j => (j, desc4)) })

/-- An entry of the local source `kind`, queue 0 of core 0, with check 5, that leaves by the north and the east. -/
def leaveBy (lane kind : Nat) : SlotEntry := slotEntry lane (5 * 2 ^ 44 + 4 * 2 ^ 41 + 2 ^ 40 + 2 ^ 39 + kind * 2 ^ 33)

/-- An entry from the west with check 5 whose sink is queue 0 of core 0, of a kind. -/
def comeIn (lane kind : Nat) : SlotEntry := slotEntry lane (5 * 2 ^ 44 + 3 * 2 ^ 41 + 2 ^ 36 + kind * 2 ^ 22)

/-- A null beat, the last of its packet, and its frame on a route. -/
def oneBeat : Beat := ⟨1, true, true, 0, []⟩
def oneFrame (route seq : Nat) : List Byte := frameBytes route seq oneBeat

/-- Core 0 with one entry, which holds that beat, and a credit in its first output tile queue. -/
def sending : Core :=
  { core [] with outQ := [(0, { OutQ.reset with n := 1, credits := [1] })], store := Sparse.ofList 0 (oneFrame 0 0) }

/-- Core 0 with one tuple and a credit in its first output word channel. -/
def telling1 : Core := { core [] with outW := [(0, { OutW.reset with buf := [[7]], credits := [1] })] }

theorem witness_SourcesSend :
    let beat := scheduling (leaveBy 0 1) sending
    let tuple := scheduling (leaveBy 1 2) telling1
    let due := scheduling (leaveBy 1 5) { core [] with inQ := [(0, { InQ.reset with pend := 2 })] }
    let none_ := scheduling (leaveBy 1 5) (core [])
    (∀ s ∈ [beat, scheduling (leaveBy 0 1) (core []), tuple, due, none_], s.open? 0 0 10 = some (10, 0)) ∧
    (leaveBy 0 1).lane = 0 ∧ (leaveBy 0 1).srcKind = 1 ∧ (leaveBy 1 2).lane = 1 ∧ (leaveBy 1 2).srcKind = 2 ∧
    (leaveBy 1 5).srcKind = 5 ∧ ((beat.core 0).outq 0).n = 1 ∧ ((beat.core 0).outq 0).credits = [1] ∧
    descValid desc4 = true ∧ descAdvisory desc4 = false ∧ ((core []).outq 0).n = 0 ∧ (leaveBy 0 1).retries = 0 ∧
    ((tuple.core 0).outw 0).buf = [[7]] ∧ ((due.core 0).inq 0).pend = 2 ∧ ((none_.core 0).inq 0).pend = 0 := by
  decide +kernel

theorem witness_SourcesSend_frame :
    let beat := scheduling (leaveBy 0 1) sending
    (∃ k1 l, (beat.core 0).readEntry (entryAt ((beat.cluster 0).outTile 0 0) 0) = (k1, .ok l)) ∧
    (beat.cluster 0).outTile 0 0 = desc4 ∧ (beat.cluster 0).fanOut (leaveBy 0 1) 10 = [(0, leaveBy 0 1)] ∧
    (∀ j, j < (Cargo.frame (oneFrame 5 0)).flits → (beat.cluster 0).dropsAt (10 + j) = false) ∧
    (leaveBy 0 1).check = (Cargo.frame (oneFrame 5 0)).route ∧ (leaveBy 0 1).out 1 = true ∧ beat.laneUp 0 1 = true ∧
    neighbour 0 1 = some 1 :=
  ⟨⟨_, _, rfl⟩, by decide +kernel⟩

theorem test_beat_takes_six_cycles_to_the_next_router :
    after (exec (.slotDeparture 0 0 10) (scheduling (leaveBy 0 1) sending))
      (fun s => s.net.flights.look 0 = some ⟨1, 3, 16, false, .frame (oneFrame 5 0)⟩) = true := by decide +kernel

/-- A flight that reaches cluster 0 from the west in cycle 10. -/
def inbound (y : SlotEntry) (cargo : Cargo) (window : Bool) : State :=
  let s := (scheduling y (core [])).modCluster 0 (fun x => { x with discarding := window })
  { s with net := { Net.reset with flights := [(0, ⟨0, 3, 10, false, cargo⟩)] } }

/-- A tuple of one word, and a credit flit of consumer 0, on route 5. -/
def tuple5 : Cargo := .token [BitVec.ofNat 64 (2 ^ 62 + 5 * 2 ^ 44 + 9)]
def credit5 : Cargo := .token [BitVec.ofNat 64 (2 ^ 63 + 5 * 2 ^ 44 + 2)]

theorem witness_TrainsArrive :
    let frame (r n : Nat) : Cargo := .frame (oneFrame r n)
    (∀ e ∈ [(comeIn 0 1, frame 5 0), (comeIn 0 1, frame 5 1), (comeIn 0 1, frame 6 0), (comeIn 1 2, tuple5)] ++
        [(comeIn 1 6, credit5), (comeIn 1 5, credit5)],
      let s := inbound e.1 e.2 false
      s.net.flights.look 0 = some ⟨0, 3, 10, false, e.2⟩ ∧ s.spRuns 0 = true ∧ (s.cluster 0).dropsAt 10 = false ∧
      (∀ j, j < e.2.flits → (s.cluster 0).dropsAt (10 + j) = false) ∧ e.2.isIdle = false ∧ e.2.isReserved = false ∧ (s.cluster 0).expecting 3 e.2.lane 10 = [(0, e.1)] ∧
      e.1.out 4 = true ∧ (s.core 0).inReset = false ∧ (s.core 0).inq 0 = InQ.reset ∧ (s.core 0).storeErr = []) := by
  decide +kernel

theorem witness_TrainsArrive_sinks :
    let lost := inbound (comeIn 1 2) (.frame (oneFrame 5 0)) false
    let gone := inbound (comeIn 0 1) (.frame (oneFrame 5 0)) true
    [(comeIn 0 1).sinkKind, (comeIn 1 2).sinkKind, (comeIn 1 6).sinkKind, (comeIn 1 5).sinkKind] = [1, 2, 6, 5] ∧
    (comeIn 0 1).check = (Cargo.frame (oneFrame 5 0)).route ∧ (comeIn 0 1).check ≠ (Cargo.frame (oneFrame 6 0)).route ∧
    (comeIn 0 1).sinkUnit = 0 ∧ InQ.reset.dropping = false ∧ InQ.reset.n < inDepth desc4 ∧
    headSeq (frameHead (oneFrame 5 1)) ≠ InQ.reset.got % 2 ^ 32 ∧ (lost.cluster 0).expecting 3 0 10 = [] ∧
    tokenType [BitVec.ofNat 64 (2 ^ 62 + 5 * 2 ^ 44 + 9)] = 1 ∧ tokenType [BitVec.ofNat 64 (2 ^ 63 + 5 * 2 ^ 44 + 2)] = 2 ∧
    gone.spRuns 0 = true ∧ (gone.cluster 0).dropsAt 10 = true := by decide +kernel

/-- A frame of two flits whose second one the drop window overtakes. -/
theorem witness_TrainsArrive_overtaken :
    let l := frameBytes 5 0 { oneBeat with null := false, img := List.replicate 32 1 }
    let s := (inbound (comeIn 0 1) (.frame l) false).modCluster 0 (fun x => { x with dropAt := 11 })
    1 < (Cargo.frame l).flits ∧ s.net.flights.look 0 = some ⟨0, 3, 10, false, .frame l⟩ ∧ (s.cluster 0).dropsAt 10 = false ∧
    (s.cluster 0).dropsAt (10 + 1) = true ∧ (comeIn 0 1).check = (Cargo.frame l).route ∧ s.spRuns 0 = true ∧
    (s.cluster 0).expecting 3 0 10 = [(0, comeIn 0 1)] := by decide +kernel

/-- A merge of two ways with the heads given, in station 0 of cluster 0, and the outputs of its earlier rounds. -/
def merging (b0 b1 : Beat) (out : List (Option Beat)) : State := State.reset.modCluster 0 (fun x => { x with
  steer := [(0, { Steer.reset with station := 4, kind := 3, ways := [0, 1], hold := [(0, [b0]), (1, [b1])], out := out })] })

/-- Combining queue 0 of cluster 0 with 2 contributors, words of one, and a contribution of `ws`, `n` already combined. -/
def combining (ws : List Word) (n : Nat) : State := State.reset.modCluster 0 (fun x => { x with
  combine := [(0, { Combine.reset with ctl := 0x80005002, arrived := [⟨false, ws, 8, 3⟩], bank0 := ⟨n, [4]⟩ })] })

/-- Cluster 0 of a state applies one entry of a source of kind `kind`. -/
def applying (lane kind : Nat) (s : State) : State := s.modCluster 0 (fun x => { x with
  spCtrl := 1, frameLen := 100, turns := 1, slots := [(0, leaveBy lane kind)] })

theorem witness_CombiningAndPeriods_merge :
    let tile : Beat := { oneBeat with null := false }
    let m := merging tile oneBeat []
    let c := merging tile tile []
    let u := applying 0 3 (merging tile tile [none])
    (∀ s ∈ [m, c], (s.cluster 0).steer.has 0 = true ∧ ((s.cluster 0).steerAt 0).kind = 3 ∧
      ((s.cluster 0).steerAt 0).ways = [0, 1] ∧ ((s.cluster 0).steerAt 0).held 0 = [tile]) ∧
    ((m.cluster 0).steerAt 0).held 1 = [oneBeat] ∧ ((c.cluster 0).steerAt 0).held 1 = [tile] ∧ tile.null = false ∧
    oneBeat.null = true ∧ u.open? 0 0 10 = some (10, 0) ∧ ((u.cluster 0).entry 0).lane = 0 ∧
    ((u.cluster 0).entry 0).srcKind = 3 ∧ ((u.cluster 0).entry 0).retries = 0 ∧ ((u.cluster 0).steerAt 0).kind = 3 ∧
    ((u.cluster 0).steerAt 0).out = [none] := by decide +kernel

theorem witness_CombiningAndPeriods :
    let z (s : State) := (s.cluster 0).combine.get Combine.reset 0
    let full := applying 1 4 (combining [] 2)
    (z (combining [6] 0)).arrived = [⟨false, [6], 8, 3⟩] ∧ nbit (z (combining [6] 0)).ctl.toNat 31 = true ∧
    (z (combining [6] 0)).words = 1 ∧ (z (combining [6] 0)).contributors = 2 ∧ (z (combining [6] 1)).bank0.count = 1 ∧
    (z (combining [6] 2)).contributors ≤ (z (combining [6] 2)).bank0.count ∧
    ((full.cluster 0).entry 0).lane = 1 ∧ ((full.cluster 0).entry 0).srcKind = 4 ∧
    full.open? 0 0 10 = some (10, 0) ∧ (z full).nextBank = false ∧ (z full).bank0.count = 2 := by decide +kernel

/-- Cluster 0 with a period start of 500, a drop cycle of 600, and an item in each advisory queue. -/
def routerMarked : State := State.reset.modCluster 0 (fun x => { x with
  spCtrl := 1, periodStart := 500, dropAt := 600, soot := [(3, 9)], telem := [(4, 8)] })

theorem witness_CombiningAndPeriods_routers :
    let d := inPeriod (period (.dropped 3 600)) State.reset
    let p := control 9 ⟨3, 0⟩ (leBytes 8 600) 0
    MaySend d (.fieldController (fieldOf 0)) ∧ CtlArrives (carrying State.reset p) 0 p 9 ∧
    nbit (routerMarked.cluster 0).spCtrl.toNat 0 = true ∧ (500#64).toNat = (routerMarked.cluster 0).periodStart ∧
    (routerMarked.cluster 0).dropsAt (600#64).toNat = true ∧ (routerMarked.cluster 0).discarding = false ∧
    (routerMarked.cluster 0).soot = [(3, 9)] ∧ (routerMarked.cluster 0).telem = [(4, 8)] ∧
    routerMarked.fabricOf (fieldOf 0) ≤ (0#64).toNat ∧ (0#64).toNat < (routerMarked.atFabric 0 1).fabricOf (fieldOf 0) ∧
    d.dropK (d.partOfRegion (regionOfCluster 0)) = some 600 :=
  ⟨maySend _ _ (by decide +kernel), by unfold CtlArrives Deliverable; decide +kernel⟩

/-- Crossing 11 of the south edge of field 0 as given, its two sides trained with latency `b`. -/
def crossed (x : Crossing) (b : Byte) : State :=
  let stitch (f edge : Nat) (s : State) := s.modField f (fun y => { y with
    dm := { y.dm with stitch := Sparse.ofList (stitchIdx edge 11) [b] }, crossings := [(stitchIdx edge 11, x)] })
  stitch 0 2 (stitch 12 0 State.reset)

theorem witness_StitchCrossings :
    let x : Crossing := { Crossing.reset with laneFaults := [10 ^ 9 + 5, 10 ^ 9], spares := [(0, 2)] }
    let s := crossed x 6
    let failed := s.modNode (sideCluster (0, 2, 11)) (fun n => n.setOut 2 { n.out 2 with down := 1 })
    let r := crossed { Crossing.reset with retraining := true } 6
    s.crossingExists (0, 2, 11) = true ∧ s.mayRetrain (0, 2, 11) = true ∧ (s.field 0).crossing 2 11 = x ∧
    (Sparse.rd x.spares 3).toNat < 2 ∧ (otherSide (0, 2, 11)) = (12, 0, 11) ∧ (s.field 12).crossing 0 11 = x ∧
    4 ≤ (x.laneFaults ++ x.laneFaults).countP (fun b => decide (b ≤ 10 ^ 9 + 5 ∧ 10 ^ 9 + 5 ≤ b + 10 ^ 9)) ∧
    x.spares.any (fun e => 2 ≤ e.2.toNat) = true ∧ failed.mayRetrain (0, 2, 11) = true ∧
    ((failed.node (sideCluster (0, 2, 11))).out 2).down = 1 ∧
    (nfld (0x800B#16).toNat 14 2, nfld (0x800B#16).toNat 0 4) = (2, 11) ∧
    (nfld (0x800A#16).toNat 14 2, nfld (0x800A#16).toNat 0 4) = (2, 10) ∧ s.mayRetrain (0, 2, 10) = false ∧
    (crossed Crossing.reset 7).tracked (0, 2, 11) = true ∧ (crossed Crossing.reset 7).mayRetrain (0, 2, 11) = false ∧
    r.crossingExists (0, 2, 11) = true ∧ r.crossingExists (12, 0, 11) = true ∧ edgeOk 2 11 = true ∧
    ((r.field 0).crossing 2 11).retraining = true ∧
    (let gone := crossed { Crossing.reset with retraining := true } 0
     gone.crossingExists (0, 2, 11) = false ∧ ((gone.field 0).crossing 2 11).retraining = true) := by
  decide +kernel

/-! ### Streams and periods -/

/-- Partition 0 with a graph that runs, its parameters in order, and streams at port 0. -/
def graphed (l : SMap StreamEntry) : State :=
  let set (l : List (Nat × Nat)) (s : State) : State := l.foldl (fun s e => s.setNum e.1 e.2) s
  (set [(o6GraphState 0, 2), (o6BatchRows 0, 2), (o6DoneTarget 0, 1), (o6KvTokenBytes 0, 64), (o6AttnBudget 0, 100)]
    (set [(o6BatchTable 0, 0x4000000000000000), (o6PeriodNs 0, 1000000), (o6BoundaryNs 0, 1000), (o6PageTokens 0, 16)]
      (set [(o6Class0Max 0, 2), (o6Class0CtxMax 0, 20), (o4PoolFree 0, 100), (o7StreamTier, 240)] State.reset))).modPort 0
    (fun x => { x with streams := l })

/-- The stream in slot 3 of port 0. -/
def stream (inPeriod owed : Bool) : StreamEntry :=
  { StreamEntry.reset with state := 1, hostTag := 77, ctxMax := 16, tokenCount := 14, inPeriod := inPeriod, owed := b2n owed, rows := 2 }

/-- The record of a request at the head of the ring of association 0 of port 0, which stands at global address 0. -/
def reqRec (op : Nat) (b : List Byte) : RingRec := ⟨0, 128, op, 9, b.length, [(0, b.length)], false, 0⟩
def asks (op : Nat) (b : List Byte) (s : State) : State :=
  let t : State := { s with dram := { s.dram with mem := Sparse.ofList (s.dramKey 64) b } }
  (t.setBlob (assocKey 0 0) (0x80#8 :: 16#8 :: List.replicate 46 0)).modAssoc 0 0 (fun x => { x with ring := [reqRec op b] })

/-- The payload of an open of 2 tokens, its longest context `n`, and one of a request of stream 3 with the bytes given after. -/
def opening (n : Nat) : List Byte :=
  leBytes 8 77 ++ leBytes 8 0x4000000000000000 ++ leBytes 8 0x4000000000001000 ++ leBytes 4 n ++ leBytes 4 5 ++ [0, 1, 0, 0] ++
    leBytes 4 2 ++ leBytes 4 1 ++ leBytes 4 2
def onStream (l : List Byte) : List Byte := leBytes 8 77 ++ leBytes 2 3 ++ l

/-- What the port reads of the request: the state without the record, and the payload. -/
def readReq (op : Nat) (b : List Byte) (s : State) : State × List Byte :=
  let d := (asks op b s).gaRead ((asks op b s).ringAt 0 0 64) b.length
  (d.1.modAssoc 0 0 (fun x => x.setRing (x.ring.filter (fun q => q.skip || q.off ≠ 0))), d.2)

theorem witness_StreamRequests_open :
    let ok := readReq 1 (opening 16) (graphed [])
    let no := readReq 1 (opening 0) (graphed [])
    let cut := (opening 16).take 40
    ((asks 1 (opening 16) (graphed [])).assoc 0 0).ring.find? (fun r => !r.skip) = some (reqRec 1 (opening 16)) ∧
    ((asks 1 (opening 16) (graphed [])).port 0).firstCome (reqRec 1 (opening 16)).stamp = true ∧
    (reqRec 1 (opening 16)).complete = true ∧ (reqRec 1 cut).complete = true ∧ ok.2 = opening 16 ∧
    (opening 16).length = 40 + 4 * leAt (opening 16) 0x24 4 ∧ leAt (opening 16) 0x20 1 ≤ 3 ∧
    ok.1.openResult 0 (openReq (opening 16)) = 0 ∧ ok.1.freeSlot 0 = some 0 ∧ no.2 = opening 0 ∧
    no.1.openResult 0 (openReq (opening 0)) ≠ 0 ∧ (readReq 1 cut (graphed [])).2 = cut ∧
    cut.length ≠ 40 + 4 * leAt cut 0x24 4 := by decide +kernel

theorem witness_StreamRequests :
    let on (i o : Bool) := graphed [(3, stream i o)]
    let tokens := onStream ([1, 0] ++ leBytes 4 1 ++ leBytes 4 5)
    let short := onStream [0, 0, 9, 0, 0, 0]
    (∀ e ∈ [(2, tokens, true, false), (3, short, true, false), (4, short, true, false), (4, short, false, true)],
      let r := readReq e.1 e.2.1 (on e.2.2.1 e.2.2.2)
      r.2 = e.2.1 ∧ r.1.slotOf 0 (leAt e.2.1 8 2) (leAt e.2.1 0 8) = some 3 ∧ r.1.entry 0 3 = stream e.2.2.1 e.2.2.2) ∧
    tokens.length = 16 + 4 * leAt tokens 0xC 4 ∧ short.length = 16 ∧
    (stream true false).tokenCount + (tokens.length - 16) / 4 ≤ (stream true false).ctxMax ∧ (stream true false).state = 1 ∧
    (stream true false).inPeriod = true ∧ (stream false true).inPeriod = false ∧ (stream false true).owed ≠ 0 := by
  decide +kernel

theorem witness_StreamRequests_parameters :
    let s := graphed []
    let on := graphed [(3, stream true false)]
    3 / 1024 = 0 ∧ on.entry 0 (3 % 1024) = stream true false ∧
    s.openIn 0 = 0 ∧ (2#32).toNat ≤ s.num (o6BatchRows 0) ∧
    (2#32).toNat * (s.num (o6Class0CtxMax 0) + 1) ≤ s.num (o6AttnBudget 0) ∧
    s.num (o6Class0Max 0) ≤ s.num (o6BatchRows 0) ∧
    s.num (o6Class0Max 0) * ((49#32).toNat + 1) ≤ s.num (o6AttnBudget 0) ∧
    s.openOf 0 = 0 ∧ on.openOf 0 ≠ 0 ∧ powerOfTwo (16777216#32).toNat = true ∧ powerOfTwo (1024#32).toNat = true := by
  decide +kernel

theorem witness_PeriodsOfAPartition :
    let s := graphed []
    let ad : Admitted := ⟨1, 50, [(0, (3, 0))]⟩
    let planned := s.modPart 0 (fun x => { x with admitted := some ad, planned := 2000 })
    s.mayAdmit 0 = true ∧ (planned.part 0).admitted = some ad ∧ (2000#64).toNat = (planned.part 0).planned ∧
    (1200#64).toNat = planned.cycleAt (planned.partRoot 0) 2000 ∧ (600000000#64).toNat = planned.rootHz (planned.partRoot 0) ∧
    ad.rows ≠ [] ∧ (planned.atTime 2000).startPasses 0 (1200#64).toNat = true := by decide +kernel

theorem witness_PeriodsOfAPartition_runs :
    let q := { period .running with deadline := 900000, polled := some 1 }
    let runs := inPeriod q (graphed [])
    let dead : State := { runs with dram := { runs.dram with
      err := [((runs.atTime 900000).dramKey ((runs.atTime 900000).doneAddr 0 1) / 64 * 64, .symbols 0 1)] } }
    let word (s : State) := ((s.atTime 900000).engineRead ((s.atTime 900000).dramKey ((s.atTime 900000).doneAddr 0 1)) 4).2
    (runs.part 0).period = some q ∧ q.ended = .running ∧ (900000#64).toNat ≤ q.deadline ∧ q.deadline ≤ (900000#64).toNat ∧
    word runs = some [0, 0, 0, 0] ∧ word dead = none ∧ (dead.part 0).period = some q ∧
    runs.num (o6DoneTarget 0) ≤ q.polled.getD 0 := by decide +kernel

theorem witness_PeriodsOfAPartition_causes :
    let onWay (e : PeriodEnd) := ((inPeriod (period e) (graphed [])).setBlob (o6DropCauses 0) (List.replicate 128 0)).modPart 0
      (fun x => { x with onWay := [9] })
    (∀ e ∈ [PeriodEnd.running, .committed], ((onWay e).part 0).period = some (period e) ∧
      ((onWay e).part 0).onWay.contains 9 = true) ∧
    (period .committed).ended ≠ .running ∧ ((onWay .committed).blob (o6DropCauses 0)).length = 128 ∧
    leAt ((onWay .committed).blob (o6DropCauses 0)) (8 * 9) 8 + 1 < 2 ^ 64 ∧
    ((onWay .running).part 0).onWay.contains 8 = false := by decide +kernel

theorem witness_PeriodsOfAPartition_port :
    let e := stream true false
    let w : Window := ⟨0, none, [], 0, 1, some ([], 5, 6)⟩
    let sums := (graphed []).modPart 0 (fun x => { x with windows := [w] })
    (∀ how ∈ [PeriodEnd.committed, .dropped 3 400],
      let q := { period how with portsDue := [0] }
      let s := inPeriod q (graphed [(3, e)])
      (s.part (s.portPart 0)).period = some q ∧ q.portsDue.contains 0 = true ∧ (s.port 0).streams = [(3, e)]) ∧
    e.inPeriod = true ∧ e.closeReq = false ∧ e.state ≠ 4 ∧ (sums.part 0).windows = [w] ∧ w.no = none ∧
    w.sums = some ([], 5, 6) := by decide +kernel

theorem test_commit_moves_the_context :
    after (exec (.periodCommit 0) (inPeriod { period .committed with portsDue := [0] } (graphed [(3, stream true false)])))
      (fun s => (s.entry 0 3).ctxLen = 2 && (s.entry 0 3).committed = 1) = true := by decide +kernel

/-! ### Ports and clocks -/

/-- Every region with supply and a start past phase 2. -/
def supplying : State := powering (starting 3) 0

/-- Port 0 in training. -/
def trainingAt (x : Train) : State := (State.reset.setNum (o4PortState 0) 1).modPort 0 (fun y => { y with train := some x })

/-- A control block whose peer says that it failed, with the right check. -/
def failedBlock : BitVec 128 :=
  let n := 0xA7 * 2 ^ 120 + 2 ^ 116 + 3 * 2 ^ 113
  BitVec.ofNat 128 (n + crc16 (controlBits (BitVec.ofNat 128 n)))

/-- A port of the north side up, with an attachment to the fabric. -/
def portUpAt (n : Nat) (s : State) : State :=
  ((s.setNum (o4PortState n) 2).setNum (o2FieldState n) 1).modCluster (portClusterAt n 1)
    (fun x => { x with mpCtrl := 0x0008000F })
def portUp (s : State) : State := portUpAt 0 s

theorem witness_PortTraining :
    let s := supplying
    let up := portUp s
    let dark := s.setNum (o4PortState 0) 3
    (∀ v : Fin 3, (s.setNum (o4PortMode 0) v).mayTrain 0 = true) ∧ s.mayTrain 0 = true ∧ 3 < (4#8).toNat ∧
    s.num (o4PortState 0) ≠ 1 ∧ s.num (o4PortState 0) ≠ 2 ∧ dark.mayTrain 0 = true ∧ (dark.port 0).dark = true ∧
    dark.num (o4PortState 0) = 3 ∧ up.num (o4PortState 0) = 2 ∧ up.portDown 0 = false ∧
    (up.countFec 0 1001).mayTrain 0 = true ∧ (up.countFec 0 1000).mayTrain 0 = true ∧ (s.port 0).asked = false ∧
    (let y := (trainingAt (Train.start 1 none)).modPort 0 (fun x => { x with asked := true })
     (y.port 0).asked = true ∧ (y.port 0).train.isSome = true) := by decide +kernel

theorem witness_PortTraining_training :
    let x := Train.start 1 none
    let v := { Train.start 2 none with phase := 3 }
    let e := { Train.start 2 none with reached := some (2, 15) }
    let l := Train.start 7 none
    (∀ t ∈ [x, v, e, l], ((trainingAt t).port 0).train = some t) ∧
    frameBlock [] = none ∧ frameBlock (frameSymbols 0 []) = some 0 ∧ controlOk 0 = false ∧
    frameBlock (frameSymbols failedBlock [1]) = some failedBlock ∧ controlOk failedBlock = true ∧
    fld failedBlock 113 3 = 3 ∧ vendorAttempt x.attempt = true ∧ x.reached = none ∧ v.attempt ≤ 6 ∧ v.reached = none ∧
    v.phase = 3 ∧ (lanesOf v.lanes).all (laneOk [0, 239999, 0, 0]) = true ∧ e.reached = some (2, 15) ∧ l.reached = none ∧
    6 < l.attempt := by decide +kernel

theorem witness_PortTraining_lanes :
    laneReceive 0 (laneSend 0 [0, 1, 2, 3] [3, 3, 0, 1]) = ([0, 1, 2, 3], [3, 3, 0, 1]) ∧
    laneReceive 2 (laneSend 2 [] []) = ([], []) := by decide

theorem test_marker_and_control_block_take_1088_symbols : (frameSymbols 0 []).length = 1088 := by decide +kernel

/-- A frame of PTP of a length, and port 0 up and listening to it. -/
def ptpFrame (len : Nat) : Frame := ⟨0x011B19000000, len, true, none, .ptp⟩
def listening : State := ((portUp State.reset).setNum (o4PtpEnable 0) 1).setNum (o4PtpTransport 0) 0

theorem witness_FramesAndAnswers :
    let v4 := (portUp State.reset).setNum (o4PortIpv4 0) 0x0A000001
    let v6 := v4.setBlob (o4PortIpv6 0) (List.replicate 15 0 ++ [7])
    listening.num (o4PortState 0) = 2 ∧ 9216 < (ptpFrame 9217).len ∧ (ptpFrame 63).len < 64 ∧ (ptpFrame 9216).len ≤ 9216 ∧
    listening.bodyDrop 0 false .ptp = none ∧
    ifcExists (.port 23) = true ∧ ifcExists (.port 0) = true ∧ v4.ifcUp (.port 0) = true ∧
    (0x0A000001#32).toNat = v4.ifcV4 (.port 0) ∧ (0x0A000002#32).toNat ≠ v4.ifcV4 (.port 0) ∧
    (v6.ifcV6 (.port 0)).contains (7#128).toNat = true ∧ echoes (.port 0) = true ∧ echoes (.inband 0) = false := by decide +kernel

theorem witness_FramesAndAnswers_for_me : listening.frameForMe 0 (ptpFrame 64) = true := by
  have h : (decide (listening.num (o4PtpEnable 0) = 1) && listening.ptpGroup 0 (ptpFrame 64).dst.toNat (ptpFrame 64).body) =
    true := by decide +kernel
  simp only [State.frameForMe, h, Bool.or_true]

theorem witness_FramesAndAnswers_not_for_me :
    ∃ d : BitVec 48, (portUp State.reset).frameForMe 0 ⟨d, 64, true, none, .ptp⟩ = false := by
  refine ⟨BitVec.ofNat 48 (portMacOf 0 + 1), ?_⟩
  have h1 : (portUp State.reset).portV6 0 = 0 := by decide +kernel
  have h2 : (portUp State.reset).num (o4PtpEnable 0) = 0 := by decide +kernel
  have h3 : portMacOf 0 < 2 ^ 48 := Nat.mod_lt _ (by decide)
  have h4 : (portMacOf 0 + 1) % 2 ^ 48 ≠ portMacOf 0 := by omega
  simp only [State.frameForMe, State.inbandAsk, State.inbandTag, h1, h2, State.portMac, BitVec.toNat_ofNat, h4]
  simp

/-- The module with ports 3 and 4 up, the sources of its reference and the one in use. -/
def sources (primary alternate osc : Bool) (use : Nat) : State :=
  let s := portUpAt 3 (portUpAt 4 (((State.reset.setNum o0RefPort 3).setNum o0RefPortAlt 4).setNum o0RefSource use))
  { s with clocks := { s.clocks with validPrimary := primary, validAlt := alternate, oscFail := !osc } }

theorem witness_ReferenceAndDividers :
    let s := sources true true true 1
    let a := sources true true true 2
    let lost := sources false false false 3
    let own := sources true false true 0
    let tree := State.reset.modClk 41 (fun x => { x with root := true })
    s.refInUse = refRank .primary ∧ (s.markSource .primary false).firstSource = some .alternate ∧
    ((sources true false true 1).markSource .primary false).firstSource = some .onModule ∧
    s.refInUse ≠ refRank .alternate ∧ (a.markSource .primary true).sourceValid .primary = true ∧ a.refLost = false ∧
    refRank .primary < a.refInUse ∧ (a.setNum o0RefRevertS 5).num o0RefRevertS = 5 ∧
    ((sources true true true 2).setNum o0RefRevertS 0).num o0RefRevertS = 0 ∧
    (sources false false false 1).firstSource = none ∧ (sources false false false 1).refLost = false ∧ lost.refLost = true ∧
    (lost.markSource .onModule true).sourceValid .onModule = true ∧ (200 : Int) < 201 ∧ (-201 : Int) < -200 ∧
    own.refInUse = 2 ∧ (own.markSource .onModule false).firstSource = some .primary ∧
    (tree.clk 41).root = true ∧ 83 ∈ islandFields (tree.island (41 % 12)) := by decide +kernel

def chosenClock : AnnounceMsg := ⟨5, 99, 128, 6, 0x21, 0, 128, 77, 0, 37⟩

/-- A receiver at port 0 that has chosen a transmitter. -/
def synced (first : Bool) : State :=
  let s := [(o4PtpEnable 0, 1), (o4PtpDomain 0, 5), (o4PortState 0, 2), (o0PtpPort, 0), (o0TimeState, 2)].foldl
    (fun s e => s.setNum e.1 e.2) State.reset
  { s with clocks := { s.clocks with ptp := { Ptp.reset with
    first := first, chosen := some ⟨0, chosenClock⟩, twoStep := some (3, 40),
    syncAt := some (10, 40), delayReq := some (3, 50, 0) } } }

theorem witness_TimeAndFrequency :
    let t := State.reset.modClk 3 (fun x => { x with parent := 1, depth := 2, busy := true })
    let late := t.modClk 3 (fun x => { x with slip := true })
    let told (s : State) : State := { s with clocks := { s.clocks with markers := [(s.treeRoot 3, 100, 7)] } }
    ((State.reset.modClk 41 (fun x => { x with root := true })).clk 41).root = true ∧ (t.clk 3).parent ≠ 7 ∧
    t.clocks.stepPending = none ∧ (t.clk 3).slip = false ∧ (late.clk 3).parent ≠ 7 ∧ (late.clk 3).slip = true ∧
    ((100#64).toNat + 8 * (t.clk 3).depth) % 2 ^ 64 = (116#64).toNat ∧
    ((100#64).toNat + 8 * (t.clk 3).depth) % 2 ^ 64 ≠ (117#64).toNat ∧ (State.reset.clk 83).busy = false ∧
    (t.clk 3).busy = true ∧ (∀ s ∈ [t, late], (told s).clocks.markers.look ((told s).treeRoot 3) = some ((100#64).toNat, (7#64).toNat) ∧
      (told s).clk 3 = s.clk 3 ∧ (told s).clocks.stepPending = none) ∧
    t.clocks.markers.look (t.treeRoot 3) ≠ some ((100#64).toNat, (7#64).toNat) := by decide +kernel

theorem witness_TimeAndFrequency_codes :
    let codes (f : Nat) (v : BitVec 32) : Bool := clockCode f (v.toNat / 2 ^ 24 % 16) && clockCode f (v.toNat / 2 ^ 20 % 16)
    codes 0 0x01200000 = true ∧ codes 0 0x01F00000 = false := by decide

theorem witness_TimeAndFrequency_receiver :
    let s := synced false
    s.takesPtp 0 chosenClock.domain.toNat = true ∧ s.fromChosen 0 5 99 = true ∧
    (synced true).fromChosen 0 5 99 = true ∧ (synced true).clocks.ptp.first = true ∧ s.clocks.ptp.first = false ∧
    s.clocks.ptp.twoStep = some ((3#16).toNat, 40) ∧ s.clocks.ptp.delayReq = some ((3#16).toNat, 50, 0) ∧
    s.clocks.ptp.syncAt = some (10, 40) ∧ s.num (o4PtpEnable 0) = 1 ∧ s.num (o4PortState 0) = 2 ∧ s.ptpHere 0 = true ∧
    s.num o0TimeState = 2 := by decide +kernel

theorem witness_TimeAndFrequency_tree :
    let s1 := (State.reset.modClk 0 (fun x => { x with inputLost := true })).postField 0 8 6 2 0 0
    (s1.plant (fun g => s1.hasSupply g && (List.range 84).contains g) false).2 = [] := by decide +kernel

/-- A pending mark of the module. -/
def marked (l : List Mark) : State := { State.reset with clocks := { State.reset.clocks with marks0 := l } }

theorem witness_SampleMarks :
    let one : Mark := ⟨200000, 0, [], []⟩
    let s := (marked []).setNum o0MarkIntervalMs 1
    let serving := (marked [one]).setNum (o1RegionState 0) 1
    s.num o0MarkIntervalMs ≠ 0 ∧ s.wt + 100000 ≤ (100000#64).toNat ∧ s.clocks.marks0 = [] ∧ (marked [one]).clocks.marks0 ≠ [] ∧
    100 ≤ (100#32).toNat ∧ (1000000#32).toNat ≤ 1000000 ∧ unitExists (.regulator 11) = true ∧ unitExists (.core 258047) = true ∧
    (marked [one]).num (o1RegionState 11) ≠ 3 ∧ MarkUnit.regulator 11 ∉ one.latched ∧
    (marked [one]).markDone false one = true ∧ serving.clocks.marks0 = [one] ∧ serving.markDone false one = false := by
  decide +kernel

theorem test_mark_too_soon :
    after (exec (.sampleMark 99) State.reset) (fun s => s.clocks.marks0.isEmpty) = true := by decide +kernel
theorem test_port_mode_off :
    after (exec (.portMode 0 3) (portUp State.reset)) (fun s => s.num (o4PortState 0) = 0) = true := by decide +kernel

/-! ### Power, cooling and the wafer transport -/

/-- A core that asks to be kindled. -/
def asleep (kindle : Nat) : Core := { core [] with smoulder := true, kindle := kindle }

/-- A lease grant. -/
def grantOf (g b ms id : Nat) : List Byte := leBytes 4 g ++ leBytes 4 b ++ leBytes 4 ms ++ leBytes 4 id

def poweredBy (p : Power) : State := { State.reset with power := p }

theorem witness_PermitsAndLease :
    let s := (withCore (asleep 2)).modRegion 0 (fun x => { x with waiting := [(0, 0)], permits := 1 })
    ((withCore (asleep 1)).core 0).kindling = true ∧ (s.region 0).waiting = [(0, 0)] ∧ (s.core 0).kindle = 2 ∧
    (s.core 0).smoulder = true ∧ 0 < (s.region 0).permits ∧ s.power.halted = false ∧
    (s.region 0).held.length < s.awakeCeiling 0 ∧ s.power.upStep = false ∧
    (poweredBy { Power.reset with upStep := true }).power.upStep = true ∧ (s.setNum o8FeedsOk 1).num o8FeedsOk = 1 ∧
    (s.setNum o8FeedsOk 2).num o8FeedsOk = 2 := by decide +kernel

theorem witness_PermitsAndLease_grants :
    (∀ e ∈ [(26000, 0, 60000), (18000, 26000, 100), (18000, 18000, 100)],
      let d := grantOf e.1 e.2.1 e.2.2 9
      d.length = 16 ∧ 18000 ≤ leAt d 0 4 ∧ leAt d 0 4 ≤ 26000 ∧ (leAt d 4 4 = 0 ∨ leAt d 0 4 ≤ leAt d 4 4 ∧ leAt d 4 4 ≤ 26000) ∧
      100 ≤ leAt d 8 4 ∧ leAt d 8 4 ≤ 60000) ∧
    (∀ e ∈ [(17999, 100), (26001, 100), (18000, 99), (18000, 60001)],
      let d := grantOf e.1 0 e.2 9
      d.length = 16 ∧ (leAt d 0 4 < 18000 ∨ 26000 < leAt d 0 4 ∨ leAt d 8 4 < 100 ∨ 60000 < leAt d 8 4)) := by decide

theorem witness_PermitsAndLease_terms :
    let leased (n : Nat) := poweredBy { Power.reset with leaseState := 1, ticks := n }
    (leased 1).power.leaseState = 1 ∧ (leased 2).power.leaseState = 1 ∧
    1 < (leased 2).power.ticks ∧ (leased 1).power.ticks ≤ 1 ∧ State.reset.num o0ShedInput ≠ 1 ∧
    (State.reset.setNum o8BoostState 1).num o8BoostState = 1 ∧ (State.reset.setNum o8BoostState 2).num o8BoostState = 2 := by
  decide +kernel

theorem test_governor_halts_over_the_cap :
    after (exec (.governorTick [] 0 false)
      ((poweredBy { Power.reset with samples := List.replicate 20 30000 }).setNum o8FeedsOk 1)) (fun s => s.power.halted) = true := by
  decide +kernel

theorem witness_HeatAndSupplies :
    let s := State.reset
    let hot := s.modRegion 11 (fun x => { x with rows := 4 })
    let table := List.replicate 40 (0 : Byte) ++ leBytes 4 0x3F800000 ++ List.replicate 20 0
    s.num (o1RegionState 11) ≠ 3 ∧ (-64 : Int) ≤ (-555 - 85) / 10 ∧ s.num o8FlashInhibit ≠ 1 ∧
    (s.setNum o8FlashInhibit 1).num o8FlashInhibit = 1 ∧ (s.setNum o8FlashInhibit 1).storeWear.power.wearDue = true ∧ nbit (hot.region 11).rows 2 = true ∧
    nbit (s.region 11).rows 2 = false ∧ s.num (o8FuseState 11) = 0 ∧
    (s.setNum (o8FuseState 11) 1).num (o8FuseState 11) ≠ 0 ∧
    nbit ((s.setNum o8FeedsOk 3).num o8FeedsOk) (b2n true) = true ∧
    nbit ((s.setNum o8FeedsOk 1).num o8FeedsOk) (b2n true) = false ∧ table.length = 64 ∧ coefOk table = true ∧
    coefOk (List.replicate 64 0) = false := by decide +kernel

theorem test_ceiling_has_a_floor :
    after (exec (.awakeCeilingStep 0) ((State.reset.modRegion 0 (fun x => { x with rows := 4 })).setNum (o8AwakeCeiling 0) 6000))
      (fun s => s.num (o8AwakeCeiling 0) = 5376) = true := by decide +kernel

/-- Association 0 of port 0: enabled, for a host, from the peer at IPv4 address 7 and UDP port 9. -/
def entryOf : List Byte :=
  [0x80, 0, 0, 0] ++ leBytes 2 9 ++ [0, 0] ++ leBytes 2 1024 ++ [0, 0] ++ leBytes 4 4096 ++ beBytes 16 7 ++ List.replicate 16 0

/-- Port 0 up with that association in a state. -/
def associated (x : Assoc) : State :=
  ((portUp State.reset).setBlob (assocKey 0 0) entryOf).modAssoc 0 0 (fun _ => x)

def upAssoc : Assoc := { Assoc.reset with ownSeq := some 1, ownAcked := true, peerTaken := true, rxNext := 5, unacked := 1 }

/-- A datagram of a segment of a kind and operation code, number 5, of message 3, without payload. -/
def segment (kind op : Nat) : List Byte :=
  segBytes ⟨1, BitVec.ofNat 8 kind, 0, 0, BitVec.ofNat 8 op, 0, 5, 0, 0, 3, 0, 0, 0, 0, 0⟩ []

theorem witness_TransportCommands :
    let s := associated upAssoc
    let down := associated Assoc.reset
    let from_ : SegFrom := ⟨false, 7, 9⟩
    s.portDown 0 = false ∧ s.assocUp 0 0 = true ∧ (s.assoc 0 0).up = true ∧ (s.assoc 0 0).queue = [] ∧
    (∀ kind ∈ [0, 1, 2], s.segOk 0 from_ (segment kind (if kind = 0 then 8 else 0)) = true ∧
      (segHeader (segment kind 0)).kind = BitVec.ofNat 8 kind ∧ s.segOk 0 from_ (segment kind 0 ++ [1]) = false) ∧
    (segHeader (segment 0 8)).assoc.toNat = 0 ∧ (segHeader (segment 0 8)).seq.toNat = (s.assoc 0 0).rxNext ∧
    (s.assoc 0 0).rxHeld = [] ∧ (segHeader (segment 0 8)).opcode = 8 ∧ s.msgRefused 0 0 8 0 = 0 ∧
    (s.assoc 0 0).reasm.look (reasmKey 8 3) = none ∧ (s.assoc 0 0).openRec 3 = none ∧ (segHeader (segment 0 8)).msgLen.toNat = ((segment 0 8).drop 52).length ∧
    (segHeader (segment 0 8)).segOffset = 0 ∧ down.segOk 0 from_ (segment 2 0) = true ∧ down.assocUp 0 0 = false ∧
    aEnable (down.assocBytes 0 0) = true ∧ (down.assoc 0 0).up = false ∧ (s.assoc 0 0).unacked ≠ 0 ∧
    (s.assoc 0 0).acksCe = 0 := by decide +kernel

/-- A window of 4,096 bytes of DRAM that association 0 may read and write. -/
def windowOf : List Byte :=
  [14, 0, 0, 0] ++ List.replicate 4 0 ++ leBytes 8 0x4000000000000000 ++ leBytes 8 4096 ++ List.replicate 8 0 ++ leBytes 8 1 ++
    List.replicate 8 0

/-- Port 0 holds a message of association 0 that is ready, and has taken one core request of a type for message 3. -/
def told (op status : Nat) (target : Nat) (payload : List Byte) (typ : Nat) : State :=
  ((associated upAssoc).setBlob (windowKey 0 63) windowOf).modPort 0 (fun x => { x with
    ready := [(0, ⟨op, status, 3, target, payload⟩)], outReqs := [⟨packet typ ⟨4, 0⟩ [] 0, 0, 3⟩] })

theorem witness_TransportCommands_messages :
    (∀ e ∈ [(7, 4092, 4, 0), (7, 4093, 4, 3), (9, 4092, 4, 0), (9, 4093, 4, 3)],
      let m : HwtMsg := ⟨e.1, 0, 3, 63 * 2 ^ 49 + e.2.1, leBytes 4 4⟩
      let s := told e.1 0 m.target m.payload 0
      (s.port 0).ready.find? (fun y => y.1 = 0 && y.2.opcode = e.1) = some (0, m) ∧ nfld m.target 49 6 = 63 ∧
      windowNack (s.windowBytes 0 63) 0 (nfld m.target 0 49) 4 (e.1 = 7) = e.2.2.2) ∧
    (let s := told 7 0 0 [] 0
     (s.portTxns 0).eraseDups.length + (cutParts 1026 (wInBase (s.windowBytes 0 63) + 4092) 4).length ≤ 4096 ∧
      4 ≤ 2097150 ∧ 4 ≤ aPeerMax (s.assocBytes 0 0)) := by decide +kernel

theorem witness_TransportCommands_answers :
    let op : PortOp := ⟨true, 0, 3, 0, 0, 0, [], []⟩
    let done := (associated upAssoc).modPort 0 (fun x => { x with ops := [(0, op)] })
    (∀ e ∈ [(8, 1, 1), (10, 0, 0), (15, 1, 9), (15, 0, 9)],
      let s := told e.1 0 0 (leBytes 4 3) e.2.1
      let id := if e.1 = 15 then leAt (leBytes 4 3) 0 4 else 3
      (s.port 0).ready.find? (fun y => y.1 = 0 && y.2.opcode = e.1) = some (0, ⟨e.1, 0, 3, 0, leBytes 4 3⟩) ∧
      (s.port 0).outReqs.find? (fun y => y.assoc = 0 && y.msgId = id && (e.2.2 = 9 || y.req.typ = e.2.2)) =
        some ⟨packet e.2.1 ⟨4, 0⟩ [] 0, 0, 3⟩) ∧
    (done.port 0).ops.look 0 = some op ∧ op.write = true ∧ op.parts.all (·.done) = true := by decide +kernel

theorem witness_TransportCommands_resends :
    let seg (n : Nat) : OutSeg := ⟨5, ⟨8, 0, 3, 0, []⟩, 0, 0, n, 0⟩
    (∀ n ∈ [15, 16], ((associated { upAssoc with flight := [seg n] }).assoc 0 0).flight.find? (fun y => y.seq = (5#32).toNat) =
      some (seg n)) ∧ (seg 15).resends < 16 ∧ 16 ≤ (seg 16).resends ∧
    State.reset.assocRefused 0 entryOf = 0 ∧ State.reset.assocRefused 0 [] ≠ 0 ∧ State.reset.windowRefused 0 windowOf = 0 ∧
    State.reset.windowRefused 0 [] ≠ 0 := by decide +kernel

theorem test_next_segment_is_taken :
    after (exec (.dataSegment 0 ⟨false, 7, 9⟩ (segment 0 8) false) (associated upAssoc))
      (fun s => (s.assoc 0 0).rxNext = 6 && (s.assoc 0 0).unacked = 2) = true := by decide +kernel

/-! ### The dictionary protocol, configuration and identity -/

/-- The module in service with its first management port up. -/
def managed : State := (running.setNum o0MgtLink 1).setNum o0MgtAIpv4 7
def client : HdpSource := ⟨.mgt false, 1, 2, 3⟩

/-- A session of credential 1. -/
def sessionOf (isOpen : Bool) : Session :=
  ⟨9, 1, 4, client, isOpen, [], [], [], List.replicate 32 7, none, [], 0, [], 0⟩

/-- That session, with a request at the front of those that are ready. -/
def requesting (isOpen : Bool) (sid typ : Nat) (body : List Byte) : State :=
  { managed with hdp := { Hdp.reset with sessions := [sessionOf isOpen], ready := [(client, sid, 5, typ, body)] } }

/-- The header of a request for the identity, or of one in session 8. -/
def datagram (typ sid : Nat) : List Byte :=
  hdpHeader typ sid 0 5 0 0 1 0 0 ++ List.replicate (if typ = 1 then 0 else 32) 0

def refOne : ObjRef := ⟨0, 0, 1, 0⟩

theorem witness_DictionaryProtocol :
    let d := datagram 1 0
    let own : HdpSource := { client with ifc := .port 0 }
    let up := portUp managed
    managed.msc.booted = true ∧ ifcExists client.ifc = true ∧ managed.ifcUp client.ifc = true ∧
    ownPort client.ifc = none ∧ managed.mscTakes client = true ∧ (running.setNum o0MgtLink 1).mscTakes client = false ∧ up.msc.booted = true ∧ ifcExists own.ifc = true ∧ up.ifcUp own.ifc = true ∧ datagramOk [] = false ∧
    datagramOk (datagram 0x14 8) = true ∧ freeType (hType (datagram 0x14 8)) = false ∧
    managed.session (hSid (datagram 0x14 8)) = none ∧ datagramOk d = true ∧ freeType (hType d) = true ∧ hCount d = 1 ∧
    managed.hdp.msgs = [] ∧ hTotal d = hLen d ∧ bodyOk (hType d) ((d.drop 32).take (hLen d)) = true ∧
    managed.session (hSid d) = none ∧ (requesting true 0 1 []).hdp.ready = [(client, 0, (5#32).toNat, 1, [])] := by decide +kernel

theorem witness_DictionaryProtocol_sessions :
    (requesting false 9 5 (List.replicate 32 7)).session 9 = some (sessionOf false) ∧
    (requesting false 9 5 (List.replicate 32 7)).hdp.ready = [(client, 9, (5#32).toNat, 5, (sessionOf false).proof)] ∧
    (List.replicate 32 8 : List Byte) ≠ (sessionOf false).proof ∧
    (requesting false 9 5 []).session 9 = some (sessionOf false) ∧
    (requesting true 9 5 []).session 9 = some (sessionOf true) := by decide +kernel

theorem witness_DictionaryProtocol_requests :
    (∀ e ∈ [(0x14, []), (0x10, readBody [refOne]), (0x11, writeBody [⟨refOne, [1]⟩]), (0x12, refBytes refOne),
        (0x13, refBytes refOne)], (requesting true 9 e.1 e.2).hdp.ready = [(client, 9, (5#32).toNat, e.1, e.2)]) ∧
    (∀ typ ∈ [0x10, 0x11, 0x12, 0x13, 0x14], (requesting true 9 typ []).session 9 = some (sessionOf true)) ∧
    (sessionOf true).open_ = true ∧ (sessionOf true).kept 5 = none := by decide +kernel

/-- A hello of credential 2, which has a role and a key. -/
def helloBody : List Byte := List.replicate 32 0 ++ beBytes 2 2 ++ List.replicate 2274 0

theorem witness_DictionaryProtocol_hello :
    let s0 := { managed with hdp := { Hdp.reset with ready := [(client, 0, 5, 3, helloBody)] } }
    let s := ({ s0 with msc := { s0.msc with credKeys := [(2, List.replicate 32 1)] } } : State).setNum (o7CredRole 2) 1
    s.hdp.ready = [(client, 0, (5#32).toNat, 3, helloBody)] ∧ bodyOk 3 helloBody = true ∧ s.idFree (9#32).toNat = true ∧
    s.helloCount < 20 ∧ s.helloRefused (beAt helloBody 0x20 2) = 0 := by decide +kernel

theorem witness_DictionaryProtocol_kem (s : State) :
    ∃ kem : KemResult, kem.sid.toNat = (9#32).toNat ∧ s.kemAgrees helloBody kem = true := by
  refine ⟨⟨Config.kemDecap (sliceB helloBody 0x24 1088), (Config.kemEncap (sliceB helloBody 0x464 1184) s.free).1,
    (Config.kemEncap (sliceB helloBody 0x464 1184) s.free).2, [], 9⟩, rfl, ?_⟩
  simp [State.kemAgrees]

theorem witness_ConfigurationAndIdentity :
    let s := State.reset
    let owned := (s.setNum (o7CredRole 1) 4)
    let loaded := { s with msc := { s.msc with image := image } }
    s.inhibited = false ∧ (1 : Nat) ≤ 32 ∧ (List.replicate 32 (0 : Byte)).length = 32 ∧
    (owned.setNum (o7CredRole 32) 0).custodianRemains = true ∧ (owned.setNum (o7CredRole 1) 3).custodianRemains = false ∧
    max (loaded.num o7SvnCounter) (fiSvn (loaded.msc.image.set 12 5)) ≠ loaded.num o7SvnCounter ∧
    (s.setNum o0SlotId 4).num o0SlotId ≠ 0 ∧ (∀ p, p < 12 → s.num (o6GraphState p) ≠ 2) ∧
    (requesting true 9 5 []).session 9 = some (sessionOf true) ∧ s.session 9 = none ∧ s.num o7AttestState = 0 ∧
    (s.setNum o7AttestState 1).num o7AttestState = 1 ∧ running.msc.booted = true ∧
    nbit (running.num o0MgtLink) (b2n true) = false ∧ nbit (managed.num o0MgtLink) (b2n false) = true := by decide +kernel

theorem witness_ConfigurationAndIdentity_decommission : idDigest.length = 32 ∧ ∃ d : List Byte, d ≠ idDigest := by
  have h : idDigest.length = 32 := by simp [idDigest, sha256, beBytes, leBytes]
  exact ⟨h, [], fun e => by rw [← e] at h; exact absurd h (by decide)⟩

theorem test_role_of_the_last_custodian_stays :
    after (exec (.credRole 1 0) (State.reset.setNum (o7CredRole 1) 4)) (fun s => s.num (o7CredRole 1) = 4) = true := by
  decide +kernel

/-! ### The block as a whole -/

theorem witness_StepTakesTheFrontCommand :
    let s := { State.reset with pending := [Instr.leaseTick, .shedAssert] }
    s.pending = .leaseTick :: [.shedAssert] ∧ State.reset.pending = [] := by decide

theorem test_step_runs_in_order :
    after (step { State.reset with pending := [Instr.shedAssert, .leaseTick] }) (fun s =>
      s.pending == [.leaseTick] && s.num o0ShedInput = 1) = true := by decide +kernel
theorem test_step_stops_on_an_ill_formed_command :
    step { State.reset with pending := [.install 8064] } = .fault .noSuchUnit := rfl

theorem witness_CommandsCompleteOnTheirUnits :
    (Instr.install 8063).wf = true ∧ (Instr.install 8064).wf = false := by decide

theorem witness_EveryStepKeepsCanonicalMemories :
    ∃ s t, State.wf s ∧ step s = .next t ∧ s.pending ≠ [] :=
  ⟨State.reset.command .shedAssert, _, by simp only [State.wf]; decide, rfl, by decide⟩

/-- No row of the table has bits, so no word spells a command. -/
theorem test_no_word_is_a_command :
    decodeTableWord 32 0x10123000 = none ∧ (State.reset.withFetchWord 32 0x10123000).pending = [] := by decide

/-- Words worked out by hand from the encodings of R187 to R189: `ADD s1, s2, s3`, `BLT s1, s2, 9` and `LUI s5, 0xABCD`. -/
theorem test_words : encAlu 0 1 2 3 = 0x10123000 ∧ encBr 2 1 2 9 = 0x44240009 ∧ encImm 2 15 5 0 0xABCD = 0x2F50ABCD := by
  decide

theorem witness_ResetState : 258047 < 258048 ∧ 8063 < 8064 ∧ 83 < 84 := by decide

end Sys2Proof.Tests
end

section
/-! SUPPORT. What the firing rule chooses (R173) and what a firing that starts leaves of its core. -/

namespace Sys2Proof.Machine

/-! ### The mask and the eligibility of a slot -/

theorem Core.mem_maskOf (k : Core) (j n : Nat) :
    n ∈ k.maskOf j ↔ n < 16 ∧ nbit (k.station j 1).toNat n = true := by
  simp [maskOf]

theorem Core.nodup_maskOf (k : Core) (j : Nat) : (k.maskOf j).Nodup := List.nodup_range.filter _

theorem Core.eligible_iff (k : Core) (j : Nat) :
    k.eligible j = true ↔ nbit (k.station j 0).toNat 31 = true ∧
      ∀ n, n < 16 → nbit (k.station j 1).toNat n = true → (k.thr n).toNat ≤ (Sparse.rd k.cnt n).toNat := by
  simp [eligible, mem_maskOf]

theorem Core.mayFire_iff (k : Core) :
    k.mayFire = true ↔
      k.run = true ∧ k.faulted = false ∧ k.restarting = false ∧ k.firing = false ∧ k.inReset = false := by
  simp [mayFire, and_assoc]

/-! ### The search for a slot -/

/-- The search of the rule is the search for the least distance from the slot that fired last. -/
theorem Core.choose_eq_map_find? (k : Core) :
    k.choose = ((List.range 8).find? (fun d => k.eligible ((k.lastStation + 1 + d) % 8))).map
      (fun d => (k.lastStation + 1 + d) % 8) := by
  rw [choose, List.find?_map]; rfl

theorem Core.choose_eq_first_eligible (k : Core) {d : Nat} (hd : d < 8)
    (he : k.eligible ((k.lastStation + 1 + d) % 8) = true)
    (hbefore : ∀ e, e < d → k.eligible ((k.lastStation + 1 + e) % 8) = false) :
    k.choose = some ((k.lastStation + 1 + d) % 8) := by
  have hfind : (List.range 8).find? (fun d => k.eligible ((k.lastStation + 1 + d) % 8)) = some d :=
    List.find?_range_eq_some.mpr ⟨he, List.mem_range.mpr hd, fun e h => by simp [hbefore e h]⟩
  rw [choose_eq_map_find?, hfind]; rfl

theorem Core.choose_eq_none (k : Core) (h : ∀ j, j < 8 → k.eligible j = false) : k.choose = none := by
  rw [choose_eq_map_find?, Option.map_eq_none_iff, List.find?_eq_none]
  intro d _
  simp [h _ (Nat.mod_lt _ (by decide))]

/-! ### The thresholds are taken -/

/-- Taking thresholds touches the counters alone. -/
theorem Core.consume_eq_with_cnt (k : Core) (l : List Nat) : k.consume l = { k with cnt := (k.consume l).cnt } := by
  induction l generalizing k with
  | nil => rfl
  | cons n r ih => rw [consume, ih]

theorem Core.rd_consume_cnt (k : Core) {l : List Nat} (hl : l.Nodup) (n : Nat) :
    Sparse.rd (k.consume l).cnt n = if n ∈ l then Sparse.rd k.cnt n - k.thr n else Sparse.rd k.cnt n := by
  induction l generalizing k with
  | nil => rfl
  | cons m r ih =>
    obtain ⟨hm, hr⟩ := List.nodup_cons.mp hl
    rw [consume, ih _ hr]
    by_cases h : n = m
    · subst h; simp [hm]
    · simp [h, Sparse.rd_wr_ne h, thr]

/-! ### The firing starts -/

/-- A firing that starts, written as one update: the thresholds taken change the counters alone. -/
theorem Core.fire_eq (k : Core) (j : Nat) :
    k.fire j = { k with
      cnt := (k.consume (k.maskOf j)).cnt
      curStation := j
      lastStation := j
      acct := nfld (k.station j 0).toNat 29 2
      stations := Sparse.wr k.stations (4 * j + 3) (k.station j 3 + 1)
      pc := nfld (k.station j 0).toNat 0 11
      firing := true
      ended := false
      held := none
      waitOp := none
      stayAwake := false } := by
  rw [fire, consume_eq_with_cnt]; rfl

@[simp] theorem Core.fire_firing (k : Core) (j : Nat) : (k.fire j).firing = true := rfl
@[simp] theorem Core.fire_curStation (k : Core) (j : Nat) : (k.fire j).curStation = j := rfl
@[simp] theorem Core.fire_lastStation (k : Core) (j : Nat) : (k.fire j).lastStation = j := rfl
@[simp] theorem Core.fire_pc (k : Core) (j : Nat) : (k.fire j).pc = nfld (k.station j 0).toNat 0 11 := by rw [fire_eq]
@[simp] theorem Core.fire_acct (k : Core) (j : Nat) : (k.fire j).acct = nfld (k.station j 0).toNat 29 2 := by
  rw [fire_eq]
@[simp] theorem Core.fire_regs (k : Core) (j : Nat) : (k.fire j).regs = k.regs := by rw [fire_eq]
@[simp] theorem Core.fire_tiles (k : Core) (j : Nat) : (k.fire j).tiles = k.tiles := by rw [fire_eq]
@[simp] theorem Core.fire_accs (k : Core) (j : Nat) : (k.fire j).accs = k.accs := by rw [fire_eq]
@[simp] theorem Core.fire_store (k : Core) (j : Nat) : (k.fire j).store = k.store := by rw [fire_eq]

theorem Core.fire_station_fires (k : Core) (j : Nat) : (k.fire j).station j 3 = k.station j 3 + 1 := by
  rw [fire_eq]; exact Sparse.rd_wr_same ..

theorem Core.rd_fire_cnt (k : Core) (j : Nat) {n : Nat} (hn : n < 16) :
    Sparse.rd (k.fire j).cnt n =
      if nbit (k.station j 1).toNat n then Sparse.rd k.cnt n - k.thr n else Sparse.rd k.cnt n := by
  have hmem : n ∈ k.maskOf j ↔ nbit (k.station j 1).toNat n = true := by simp [mem_maskOf, hn]
  simp only [fire_eq, rd_consume_cnt k (k.nodup_maskOf j), hmem]

/-! ### The command -/

variable {s : State} {c : Nat}

theorem exec_firingStart (c : Nat) (s : State) : exec (.firingStart c) s = execFiringStart c s := rfl

/-- R147, R173: the command starts no firing while the rule is not applied, no slot is chosen, or the boundary stands open. -/
theorem exec_firingStart_idle (hc : c < 258048)
    (h : (s.core c).mayFire = false ∨ (s.core c).choose = none ∨ s.betweenPeriods c = true) :
    exec (.firingStart c) s = .next s := by
  simp only [exec_firingStart, execFiringStart, onCore, if_pos hc]
  cases hch : (s.core c).choose with
  | none => rfl
  | some j =>
    obtain hmay | hnone | hbetween := h
    · simp [when', hmay]
    · simp [hch] at hnone
    · simp [when', hbetween]

theorem exec_firingStart_fires {j : Nat} (hc : c < 258048) (hmay : (s.core c).mayFire = true)
    (hch : (s.core c).choose = some j) (hbetween : s.betweenPeriods c = false) :
    exec (.firingStart c) s = .next (s.setCore c ((s.core c).fire j)) := by
  simp [exec_firingStart, execFiringStart, onCore, hc, hch, when', hmay, hbetween]

end Sys2Proof.Machine

open Sys2Proof Sys2Proof.Machine

/-- Settles O6: s0 has no cell of its own, and a write to any other register is read back from that register only. -/
theorem registerZeroIsZero : Obligations.RegisterZeroIsZero := fun k _ _ v =>
  ⟨k.s_zero, k.setS_zero v, k.s_setS_same v, k.s_setS_ne v⟩

/-- Settles O21: the search is for the least distance from the slot that fired last, and the mask lists each counter once,
so that its threshold is taken once. -/
theorem firingRule : Obligations.FiringRule := by
  refine ⟨fun k => ⟨fun _ => k.choose_eq_first_eligible, k.choose_eq_none, k.eligible_iff, k.mayFire_iff⟩, ?_⟩
  intro s c k hc
  refine ⟨exec_firingStart_idle hc, fun j hmay hch hbetween => ?_⟩
  exact ⟨k.fire j, exec_firingStart_fires hc hmay hch hbetween, k.fire_firing j, k.fire_curStation j,
    k.fire_lastStation j, k.fire_pc j, k.fire_acct j, k.fire_station_fires j, k.fire_regs j, k.fire_tiles j,
    k.fire_accs j, k.fire_store j, fun _ => k.rd_fire_cnt j⟩

end

section
/-! SUPPORT. What every step keeps of the queue and of the memories: the frame laws of the commands, put together. -/

namespace Sys2Proof.Machine

/-- Every command leaves the queue as it is and the memories canonical: the frame laws of the meanings, one for each. -/
theorem exec_good {q : List Instr} {s : State} (i : Instr) (h : Good q s) : OutGood q (exec i s) := by
  cases i with
  | auxInputApplied => exact execAuxInputApplied_ok h
  | moduleResetWarm => exact execModuleResetWarm_ok h
  | moduleResetCold => exact execModuleResetCold_ok h
  | planeRecovered => exact execPlaneRecovered_ok h
  | bootRetry => exact execBootRetry_ok h
  | regionBankSwitchOn => exact execRegionBankSwitchOn_ok h
  | railCheck => exact execRailCheck_ok h
  | controlImageLoad => exact execControlImageLoad_ok h
  | builtInTest => exact execBuiltInTest_ok h
  | sparingSelect => exact execSparingSelect_ok h
  | stitchTraining => exact execStitchTraining_ok h
  | dramTraining => exact execDramTraining_ok h
  | firmwareBroadcast => exact execFirmwareBroadcast_ok h
  | broadcastRound => exact execBroadcastRound_ok h
  | roundBitmapTimeout => exact execRoundBitmapTimeout_ok h
  | roundBitmapFallback => exact execRoundBitmapFallback_ok h
  | chunkUnicastCheck => exact execChunkUnicastCheck_ok h
  | manifestPart => exact execManifestPart_ok h
  | chunk => exact execChunk_ok h
  | roundEnd => exact execRoundEnd_ok h
  | install => exact execInstall_ok h
  | chunkDone => exact execChunkDone_ok h
  | startComplete => exact execStartComplete_ok h
  | fwUpdateOpen => exact execFwUpdateOpen_ok h
  | fwUpdateData => exact execFwUpdateData_ok h
  | fwUpdateCommit => exact execFwUpdateCommit_ok h
  | licenceInstall => exact execLicenceInstall_ok h
  | licenceRemove => exact execLicenceRemove_ok h
  | partitionSplit => exact execPartitionSplit_ok h
  | graphLoad => exact execGraphLoad_ok h
  | graphLoadRun => exact execGraphLoadRun_ok h
  | graphUnload => exact execGraphUnload_ok h
  | alternateInstall => exact execAlternateInstall_ok h
  | partitionResetKeep => exact execPartitionResetKeep_ok h
  | partitionResetRemove => exact execPartitionResetRemove_ok h
  | partitionResetRun => exact execPartitionResetRun_ok h
  | clusterReset => exact execClusterReset_ok h
  | firingStart => exact execFiringStart_ok h
  | endComplete => exact execEndComplete_ok h
  | firingOverrun => exact execFiringOverrun_ok h
  | faultLogClear => exact execFaultLogClear_ok h
  | seqCtrlWrite => exact execSeqCtrlWrite_ok h
  | retainCtrlWrite => exact execRetainCtrlWrite_ok h
  | cacheConfigWrite => exact execCacheConfigWrite_ok h
  | registerWrite => exact execRegisterWrite_ok h
  | smoulderEntry => exact execSmoulderEntry_ok h
  | kindle => exact execKindle_ok h
  | kindlePermitGrant => exact execKindlePermitGrant_ok h
  | permitRefill => exact execPermitRefill_ok h
  | issueStallRelease => exact execIssueStallRelease_ok h
  | reservedInstruction => exact execReservedInstruction_ok h
  | nop => exact execNop_ok h
  | endFiring => exact execEndFiring_ok h
  | jr => exact execJr_ok h
  | seed => exact execSeed_ok h
  | time => exact execTime_ok h
  | acct => exact execAcct_ok h
  | trap => exact execTrap_ok h
  | add => exact execAdd_ok h
  | sub => exact execSub_ok h
  | and => exact execAnd_ok h
  | or => exact execOr_ok h
  | xor => exact execXor_ok h
  | sll => exact execSll_ok h
  | srl => exact execSrl_ok h
  | sra => exact execSra_ok h
  | mul => exact execMul_ok h
  | mulhu => exact execMulhu_ok h
  | slt => exact execSlt_ok h
  | sltu => exact execSltu_ok h
  | min => exact execMin_ok h
  | max => exact execMax_ok h
  | minu => exact execMinu_ok h
  | maxu => exact execMaxu_ok h
  | addi => exact execAddi_ok h
  | andi => exact execAndi_ok h
  | ori => exact execOri_ok h
  | xori => exact execXori_ok h
  | slli => exact execSlli_ok h
  | srli => exact execSrli_ok h
  | srai => exact execSrai_ok h
  | slti => exact execSlti_ok h
  | sltiu => exact execSltiu_ok h
  | lui => exact execLui_ok h
  | beq => exact execBeq_ok h
  | bne => exact execBne_ok h
  | blt => exact execBlt_ok h
  | bge => exact execBge_ok h
  | bltu => exact execBltu_ok h
  | bgeu => exact execBgeu_ok h
  | j => exact execJ_ok h
  | jal => exact execJal_ok h
  | lw => exact execLw_ok h
  | sw => exact execSw_ok h
  | lbu => exact execLbu_ok h
  | sb => exact execSb_ok h
  | cset => exact execCset_ok h
  | cadd => exact execCadd_ok h
  | crd => exact execCrd_ok h
  | cwr => exact execCwr_ok h
  | loop => exact execLoop_ok h
  | cwait => exact execCwait_ok h
  | tld => exact execTld_ok h
  | tst => exact execTst_ok h
  | tldl => exact execTldl_ok h
  | tmul => exact execTmul_ok h
  | cvt => exact execCvt_ok h
  | retainStallResume => exact execRetainStallResume_ok h
  | vadd => exact execVadd_ok h
  | vsub => exact execVsub_ok h
  | vmul => exact execVmul_ok h
  | vfma => exact execVfma_ok h
  | vmin => exact execVmin_ok h
  | vmax => exact execVmax_ok h
  | vcmplt => exact execVcmplt_ok h
  | vcmple => exact execVcmple_ok h
  | vcmpeq => exact execVcmpeq_ok h
  | vsel => exact execVsel_ok h
  | vabs => exact execVabs_ok h
  | vneg => exact execVneg_ok h
  | vrecip => exact execVrecip_ok h
  | vrsqrt => exact execVrsqrt_ok h
  | vexp2 => exact execVexp2_ok h
  | vlog2 => exact execVlog2_ok h
  | vrsum => exact execVrsum_ok h
  | vrmax => exact execVrmax_ok h
  | vtrans => exact execVtrans_ok h
  | vmov => exact execVmov_ok h
  | viotr => exact execViotr_ok h
  | viotc => exact execViotc_ok h
  | tpop => exact execTpop_ok h
  | tpush => exact execTpush_ok h
  | wsend => exact execWsend_ok h
  | wrecv => exact execWrecv_ok h
  | dropr => exact execDropr_ok h
  | tstat => exact execTstat_ok h
  | get => exact execGet_ok h
  | put => exact execPut_ok h
  | ldg => exact execLdg_ok h
  | stg => exact execStg_ok h
  | amo => exact execAmo_ok h
  | acq => exact execAcq_ok h
  | acquireComplete => exact execAcquireComplete_ok h
  | fence => exact execFence_ok h
  | cfgrd => exact execCfgrd_ok h
  | rekindleFetchResponse => exact execRekindleFetchResponse_ok h
  | rekindleMultiply => exact execRekindleMultiply_ok h
  | retainedCopyFetch => exact execRetainedCopyFetch_ok h
  | mordantCommit => exact execMordantCommit_ok h
  | mordantDiscard => exact execMordantDiscard_ok h
  | mordantSlotProcess => exact execMordantSlotProcess_ok h
  | mordantAckTimeout => exact execMordantAckTimeout_ok h
  | periodStartCommand => exact execPeriodStartCommand_ok h
  | periodRestart => exact execPeriodRestart_ok h
  | restartAckTimeout => exact execRestartAckTimeout_ok h
  | acknowledge => exact execAcknowledge_ok h
  | faultReport => exact execFaultReport_ok h
  | dropCycle => exact execDropCycle_ok h
  | configurationRead => exact execConfigurationRead_ok h
  | configurationWrite => exact execConfigurationWrite_ok h
  | controlResponse => exact execControlResponse_ok h
  | slotDeparture => exact execSlotDeparture_ok h
  | slotMiss => exact execSlotMiss_ok h
  | beatArrival => exact execBeatArrival_ok h
  | mergeRoundComplete => exact execMergeRoundComplete_ok h
  | tupleDeparture => exact execTupleDeparture_ok h
  | tupleArrival => exact execTupleArrival_ok h
  | creditFlitSend => exact execCreditFlitSend_ok h
  | creditArrival => exact execCreditArrival_ok h
  | combineContribution => exact execCombineContribution_ok h
  | combineResultDeparture => exact execCombineResultDeparture_ok h
  | routerPeriodStart => exact execRouterPeriodStart_ok h
  | periodStartWrite => exact execPeriodStartWrite_ok h
  | dropWindowStart => exact execDropWindowStart_ok h
  | sootAdvance => exact execSootAdvance_ok h
  | telemAdvance => exact execTelemAdvance_ok h
  | laneRepair f edge idx group lane corrected => exact execLaneRepair_ok (b4 := lane) h
  | stitchRetrainRequest => exact execStitchRetrainRequest_ok h
  | stitchRetrain => exact execStitchRetrain_ok h
  | stitchRetrainComplete => exact execStitchRetrainComplete_ok h
  | packetInject => exact execPacketInject_ok h
  | packetHop => exact execPacketHop_ok h
  | flitNak => exact execFlitNak_ok h
  | linkDown => exact execLinkDown_ok h
  | readRequest => exact execReadRequest_ok h
  | writeRequest => exact execWriteRequest_ok h
  | atomicRequest => exact execAtomicRequest_ok h
  | readResponse => exact execReadResponse_ok h
  | writeResponse => exact execWriteResponse_ok h
  | atomicResponse => exact execAtomicResponse_ok h
  | inboxDelivery => exact execInboxDelivery_ok h
  | requestTimeout => exact execRequestTimeout_ok h
  | hazardRelease => exact execHazardRelease_ok h
  | scrubRead => exact execScrubRead_ok h
  | dramTemperatureRead => exact execDramTemperatureRead_ok h
  | refreshCommand => exact execRefreshCommand_ok h
  | channelFailure => exact execChannelFailure_ok h
  | streamOpen => exact execStreamOpen_ok h
  | promptSubmission => exact execPromptSubmission_ok h
  | creditGrant => exact execCreditGrant_ok h
  | streamCloseRequest => exact execStreamCloseRequest_ok h
  | streamClose => exact execStreamClose_ok h
  | class0LimitWrite => exact execClass0LimitWrite_ok h
  | poolEntriesWrite => exact execPoolEntriesWrite_ok h
  | poolBaseWrite => exact execPoolBaseWrite_ok h
  | admission => exact execAdmission_ok h
  | plannedStart => exact execPlannedStart_ok h
  | donePoll => exact execDonePoll_ok h
  | commitPoint => exact execCommitPoint_ok h
  | deadline => exact execDeadline_ok h
  | dropCauseArrival => exact execDropCauseArrival_ok h
  | periodCommit => exact execPeriodCommit_ok h
  | periodDrop => exact execPeriodDrop_ok h
  | energyApportion => exact execEnergyApportion_ok h
  | portMode => exact execPortMode_ok h
  | portRetrain => exact execPortRetrain_ok h
  | portRetrainTrigger => exact execPortRetrainTrigger_ok h
  | portTrainingStart => exact execPortTrainingStart_ok h
  | trainingFrame => exact execTrainingFrame_ok h
  | trainingPhaseTimeout => exact execTrainingPhaseTimeout_ok h
  | portTrainingEnd => exact execPortTrainingEnd_ok h
  | portDarkRetry => exact execPortDarkRetry_ok h
  | portDown => exact execPortDown_ok h
  | frameReceive => exact execFrameReceive_ok h
  | arpRequest => exact execArpRequest_ok h
  | neighbourSolicitation => exact execNeighbourSolicitation_ok h
  | echoRequest => exact execEchoRequest_ok h
  | announce => exact execAnnounce_ok h
  | sync => exact execSync_ok h
  | followUp => exact execFollowUp_ok h
  | delayResp => exact execDelayResp_ok h
  | delayReqSend => exact execDelayReqSend_ok h
  | syncTimeout => exact execSyncTimeout_ok h
  | dataSegment => exact execDataSegment_ok h
  | acknowledgementSegment => exact execAcknowledgementSegment_ok h
  | syncSegment => exact execSyncSegment_ok h
  | syncSend => exact execSyncSend_ok h
  | ackTimer => exact execAckTimer_ok h
  | resendTimeout => exact execResendTimeout_ok h
  | rateUpdate => exact execRateUpdate_ok h
  | remoteWrite => exact execRemoteWrite_ok h
  | remoteWriteComplete => exact execRemoteWriteComplete_ok h
  | writeCompletion => exact execWriteCompletion_ok h
  | remoteRead => exact execRemoteRead_ok h
  | remoteReadResponse => exact execRemoteReadResponse_ok h
  | nack => exact execNack_ok h
  | assocWrite => exact execAssocWrite_ok h
  | windowWrite => exact execWindowWrite_ok h
  | hdpFragment => exact execHdpFragment_ok h
  | fragmentTimeout => exact execFragmentTimeout_ok h
  | identityRequest => exact execIdentityRequest_ok h
  | hello => exact execHello_ok h
  | finish => exact execFinish_ok h
  | pendingSessionTimeout => exact execPendingSessionTimeout_ok h
  | read => exact execRead_ok h
  | write => exact execWrite_ok h
  | list => exact execList_ok h
  | describe => exact execDescribe_ok h
  | close => exact execClose_ok h
  | sessionIdleTimeout => exact execSessionIdleTimeout_ok h
  | sessionKill => exact execSessionKill_ok h
  | credKey => exact execCredKey_ok h
  | credRole => exact execCredRole_ok h
  | configSave => exact execConfigSave_ok h
  | configClear => exact execConfigClear_ok h
  | refSourceInvalid => exact execRefSourceInvalid_ok h
  | refRevert => exact execRefRevert_ok h
  | referenceLost => exact execReferenceLost_ok h
  | referenceRelock => exact execReferenceRelock_ok h
  | dividerStep => exact execDividerStep_ok h
  | markerSend => exact execMarkerSend_ok h
  | marker => exact execMarker_ok h
  | forwardedInputLost => exact execForwardedInputLost_ok h
  | oscillatorCheck => exact execOscillatorCheck_ok h
  | freqMeasure => exact execFreqMeasure_ok h
  | frequencyCountDone => exact execFrequencyCountDone_ok h
  | frequencyCountLost => exact execFrequencyCountLost_ok h
  | moduleMark => exact execModuleMark_ok h
  | sampleMark => exact execSampleMark_ok h
  | markLatch => exact execMarkLatch_ok h
  | markComplete => exact execMarkComplete_ok h
  | markAbandon => exact execMarkAbandon_ok h
  | governorTick => exact execGovernorTick_ok h
  | boostTimeout => exact execBoostTimeout_ok h
  | recoveryEnd => exact execRecoveryEnd_ok h
  | leaseGrant => exact execLeaseGrant_ok h
  | leaseTick => exact execLeaseTick_ok h
  | wearTick => exact execWearTick_ok h
  | wearStore => exact execWearStore_ok h
  | thermalSample => exact execThermalSample_ok h
  | awakeCeilingStep => exact execAwakeCeilingStep_ok h
  | coolantShutdown => exact execCoolantShutdown_ok h
  | fuseOpen => exact execFuseOpen_ok h
  | flashInhibitSet => exact execFlashInhibitSet_ok h
  | flashInhibitClear => exact execFlashInhibitClear_ok h
  | feedLost => exact execFeedLost_ok h
  | feedSupplying => exact execFeedSupplying_ok h
  | planeHold => exact execPlaneHold_ok h
  | auxInputLow => exact execAuxInputLow_ok h
  | coefTable => exact execCoefTable_ok h
  | coreDead => exact execCoreDead_ok h
  | heartbeat => exact execHeartbeat_ok h
  | heartbeatTimeout => exact execHeartbeatTimeout_ok h
  | faultRecord => exact execFaultRecord_ok h
  | availabilityTick => exact execAvailabilityTick_ok h
  | availClear => exact execAvailClear_ok h
  | attestRequest => exact execAttestRequest_ok h
  | attestSigned => exact execAttestSigned_ok h
  | svnCommit => exact execSvnCommit_ok h
  | slotAccept => exact execSlotAccept_ok h
  | decommission => exact execDecommission_ok h
  | interlockChange => exact execInterlockChange_ok h
  | shedAssert => exact execShedAssert_ok h
  | shedRelease => exact execShedRelease_ok h
  | routerFailedInService => exact execRouterFailedInService_ok h
  | registerFileParityError => exact execRegisterFileParityError_ok h
  | mscWatchdogHold => exact execMscWatchdogHold_ok h
  | mgtLinkChange => exact execMgtLinkChange_ok h

theorem step_good {s : State} (h : s.wf) : OutGood s.pending.tail (step s) := by
  unfold step
  cases hq : s.pending with
  | nil => exact .next ⟨hq, h⟩
  | cons c rest => exact exec_good c ⟨rfl, h⟩

end Sys2Proof.Machine
open Sys2Proof Sys2Proof.Machine

/-- Settles O60: a step runs the front command over the rest of the queue, and each command's frame law keeps both. -/
theorem everyStepKeepsCanonicalMemories : Obligations.EveryStepKeepsCanonicalMemories := by
  intro s t h ht
  obtain ⟨hq, hw⟩ := step_good h t ht
  exact ⟨hw, hq⟩
end

section
/-! SUPPORT. What a command answers by its check (R20): a next state where every unit that it names exists, and the stop where
one does not. -/

namespace Sys2Proof.Machine

variable {s : State}

/-- A command answers as its check says: a next state where nothing is wrong, and the fault where something is. -/
def ByCheck (e : Option IllFormed) (o : Out) : Prop :=
  (e.isNone = true → ∃ t, o = .next t) ∧ (e.isNone = false → o = .fault .noSuchUnit)

/-! ### The frames of the commands -/

theorem ByCheck.next (t : State) : ByCheck none (.next t) := ⟨fun _ => ⟨t, rfl⟩, nofun⟩

/-- A frame that tests what its check tests. -/
theorem ByCheck.guard {why : IllFormed} {ok : Bool} {p : Prop} [Decidable p] {t : State} (h : ok = true ↔ p) :
    ByCheck (refuse why ok) (if p then .next t else .fault .noSuchUnit) := by
  by_cases hp : p
  · rw [if_pos hp, refuse, if_pos (h.mpr hp)]; exact .next t
  · rw [if_neg hp, refuse, if_neg (mt h.mp hp)]; exact ⟨nofun, fun _ => rfl⟩

theorem ByCheck.unit {why : IllFormed} {n m : Nat} {t : State} :
    ByCheck (refuse why (decide (n < m))) (if n < m then .next t else .fault .noSuchUnit) :=
  .guard decide_eq_true_iff

theorem ByCheck.units {why : IllFormed} {n m n' m' : Nat} {t : State} :
    ByCheck (refuse why (decide (n < m) && decide (n' < m'))) (if n < m ∧ n' < m' then .next t else .fault .noSuchUnit) :=
  .guard (by simp)

theorem ByCheck.iface {i : Iface} {t : State} :
    ByCheck (needIfc i) (if ifcExists i then .next t else .fault .noSuchUnit) := by
  cases i with
  | mgt b => exact .next _
  | port n => exact .guard Iff.rfl
  | inband n => exact .guard Iff.rfl

/-- A divider's domain is one of three for each field. -/
theorem ByCheck.domain {ix : Nat} {t : State} :
    ByCheck (needDomain ix) (if (if ix < 252 then ix % 84 else ix) < 84 then .next t else .fault .noSuchUnit) :=
  .guard (by rw [decide_eq_true_iff]; split <;> omega)

theorem ByCheck.latch (which : Bool) (u : MarkUnit) (s : State) : ByCheck (needUnit u) (execMarkLatch which u s) := by
  cases u with
  | msc => exact .next _
  | core c => exact .guard Iff.rfl
  | schedRouter k => exact .guard Iff.rfl
  | msgRouter k => exact .guard Iff.rfl
  | clusterMemory k => exact .guard Iff.rfl
  | channel n ch => exact .guard Iff.rfl
  | regulator r => exact .guard Iff.rfl

/-! ### The frames of what has arrived: a packet or a flight is named by its number, and a number that names none is no event -/

theorem ByCheck.deliver {id : Nat} {ok : Packet → Bool} {f : State → Packet → State} :
    ByCheck none (deliver id s ok f) := by
  unfold Machine.deliver
  split
  · split <;> exact .next _
  · exact .next s

theorem ByCheck.arrival {id fixed : Nat} {bad : Bool} {ok : Cargo → Bool} : ByCheck none (arrival id fixed bad ok s) := by
  unfold Machine.arrival
  split
  · split <;> exact .next _
  · exact .next s

theorem ByCheck.ctlStep {α : Type} {e : CtlStep α} {cmd : Nat} {need : α → Option IllFormed} {ok : α → Bool}
    {send : State → α → State} {f : State → Packet → State × List Byte} {why : IllFormed}
    (h : ∀ a, need a = refuse why (ok a)) : ByCheck (e.need need) (ctlStep e cmd s ok send f) := by
  cases e with
  | send a =>
    rw [show (CtlStep.send a).need need = refuse why (ok a) from h a]
    exact .guard Iff.rfl
  | arrive id =>
    unfold Machine.ctlStep Machine.ctlArrive
    exact .deliver

theorem ByCheck.packetInject (id : Nat) (s : State) : ByCheck none (execPacketInject id s) := by
  unfold execPacketInject
  split
  · split <;> exact .next _
  · exact .next s

theorem ByCheck.inboxDelivery (id : Nat) (s : State) : ByCheck none (execInboxDelivery id s) := by
  unfold execInboxDelivery
  split
  · split
    · exact .next _
    · exact .deliver
  · exact .next s

/-! ### Every command -/

/-- Every command stands in a frame that tests the units which its check names (R20). -/
theorem exec_byCheck (i : Instr) (s : State) : ByCheck i.check (exec i s) := by
  cases i with
  | auxInputApplied => exact .next _
  | moduleResetWarm => exact .next _
  | moduleResetCold => exact .next _
  | planeRecovered => exact .next _
  | bootRetry => exact .next _
  | regionBankSwitchOn => exact .unit
  | railCheck => exact .unit
  | controlImageLoad => exact .next _
  | builtInTest => exact .unit
  | sparingSelect => exact .unit
  | stitchTraining => exact .unit
  | dramTraining => exact .units
  | firmwareBroadcast => exact .next _
  | broadcastRound => exact .next _
  | roundBitmapTimeout => exact .unit
  | roundBitmapFallback => exact .unit
  | chunkUnicastCheck => exact .unit
  | manifestPart => exact .unit
  | chunk => exact .unit
  | roundEnd => exact .unit
  | install => exact .unit
  | chunkDone => exact .unit
  | startComplete => exact .next _
  | fwUpdateOpen => exact .next _
  | fwUpdateData => exact .next _
  | fwUpdateCommit => exact .next _
  | licenceInstall => exact .next _
  | licenceRemove => exact .next _
  | partitionSplit => exact .next _
  | graphLoad => exact .unit
  | graphLoadRun => exact .unit
  | graphUnload => exact .unit
  | alternateInstall => exact .unit
  | partitionResetKeep => exact .unit
  | partitionResetRemove => exact .unit
  | partitionResetRun => exact .unit
  | clusterReset => exact .unit
  | firingStart => exact .unit
  | endComplete => exact .unit
  | firingOverrun => exact .unit
  | faultLogClear => exact .unit
  | seqCtrlWrite => exact .unit
  | retainCtrlWrite => exact .unit
  | cacheConfigWrite => exact .unit
  | registerWrite => exact .unit
  | smoulderEntry => exact .unit
  | kindle => exact .unit
  | kindlePermitGrant => exact .unit
  | permitRefill => exact .unit
  | issueStallRelease => exact .unit
  | reservedInstruction => exact .unit
  | nop => exact .unit
  | endFiring => exact .unit
  | jr => exact .unit
  | seed => exact .unit
  | time => exact .unit
  | acct => exact .unit
  | trap => exact .unit
  | add => exact .unit
  | sub => exact .unit
  | and => exact .unit
  | or => exact .unit
  | xor => exact .unit
  | sll => exact .unit
  | srl => exact .unit
  | sra => exact .unit
  | mul => exact .unit
  | mulhu => exact .unit
  | slt => exact .unit
  | sltu => exact .unit
  | min => exact .unit
  | max => exact .unit
  | minu => exact .unit
  | maxu => exact .unit
  | addi => exact .unit
  | andi => exact .unit
  | ori => exact .unit
  | xori => exact .unit
  | slli => exact .unit
  | srli => exact .unit
  | srai => exact .unit
  | slti => exact .unit
  | sltiu => exact .unit
  | lui => exact .unit
  | beq => exact .unit
  | bne => exact .unit
  | blt => exact .unit
  | bge => exact .unit
  | bltu => exact .unit
  | bgeu => exact .unit
  | j => exact .unit
  | jal => exact .unit
  | lw => exact .unit
  | sw => exact .unit
  | lbu => exact .unit
  | sb => exact .unit
  | cset => exact .unit
  | cadd => exact .unit
  | crd => exact .unit
  | cwr => exact .unit
  | loop => exact .unit
  | cwait => exact .unit
  | tld => exact .unit
  | tst => exact .unit
  | tldl => exact .unit
  | tmul => exact .unit
  | cvt => exact .unit
  | retainStallResume => exact .unit
  | vadd => exact .unit
  | vsub => exact .unit
  | vmul => exact .unit
  | vfma => exact .unit
  | vmin => exact .unit
  | vmax => exact .unit
  | vcmplt => exact .unit
  | vcmple => exact .unit
  | vcmpeq => exact .unit
  | vsel => exact .unit
  | vabs => exact .unit
  | vneg => exact .unit
  | vrecip => exact .unit
  | vrsqrt => exact .unit
  | vexp2 => exact .unit
  | vlog2 => exact .unit
  | vrsum => exact .unit
  | vrmax => exact .unit
  | vtrans => exact .unit
  | vmov => exact .unit
  | viotr => exact .unit
  | viotc => exact .unit
  | tpop => exact .unit
  | tpush => exact .unit
  | wsend => exact .unit
  | wrecv => exact .unit
  | dropr => exact .unit
  | tstat => exact .unit
  | get => exact .unit
  | put => exact .unit
  | ldg => exact .unit
  | stg => exact .unit
  | amo => exact .unit
  | acq => exact .unit
  | acquireComplete => exact .unit
  | fence => exact .unit
  | cfgrd => exact .unit
  | rekindleFetchResponse => unfold exec execRekindleFetchResponse; exact .deliver
  | rekindleMultiply => exact .unit
  | retainedCopyFetch => unfold exec execRetainedCopyFetch; exact .deliver
  | mordantCommit => unfold exec execMordantCommit; exact .ctlStep fun _ => rfl
  | mordantDiscard => unfold exec execMordantDiscard; exact .ctlStep fun _ => rfl
  | mordantSlotProcess => exact .unit
  | mordantAckTimeout => exact .unit
  | periodStartCommand => unfold exec execPeriodStartCommand; exact .ctlStep fun _ => rfl
  | periodRestart => unfold exec execPeriodRestart; exact .ctlStep fun _ => rfl
  | restartAckTimeout => exact .unit
  | acknowledge => unfold exec execAcknowledge; exact .ctlStep fun _ => rfl
  | faultReport => unfold exec execFaultReport; exact .ctlStep fun _ => rfl
  | dropCycle => unfold exec execDropCycle; exact .ctlStep fun _ => rfl
  | configurationRead => unfold exec execConfigurationRead; exact .ctlStep fun _ => rfl
  | configurationWrite => unfold exec execConfigurationWrite; exact .ctlStep fun _ => rfl
  | controlResponse => unfold exec execControlResponse; exact .deliver
  | slotDeparture => exact .unit
  | slotMiss => exact .unit
  | beatArrival => unfold exec execBeatArrival; exact .arrival
  | mergeRoundComplete => exact .unit
  | tupleDeparture => exact .unit
  | tupleArrival => unfold exec execTupleArrival; exact .arrival
  | creditFlitSend => exact .unit
  | creditArrival => unfold exec execCreditArrival; exact .arrival
  | combineContribution => exact .unit
  | combineResultDeparture => exact .unit
  | routerPeriodStart => exact .unit
  | periodStartWrite => exact .unit
  | dropWindowStart => exact .unit
  | sootAdvance => exact .unit
  | telemAdvance => exact .unit
  | laneRepair => exact .unit
  | stitchRetrainRequest => exact .unit
  | stitchRetrain => exact .unit
  | stitchRetrainComplete => exact .unit
  | packetInject => exact .packetInject ..
  | packetHop => exact .unit
  | flitNak => exact .unit
  | linkDown => exact .unit
  | readRequest => unfold exec execReadRequest; exact .deliver
  | writeRequest => unfold exec execWriteRequest; exact .deliver
  | atomicRequest => unfold exec execAtomicRequest; exact .deliver
  | readResponse => unfold exec execReadResponse; exact .deliver
  | writeResponse => unfold exec execWriteResponse; exact .deliver
  | atomicResponse => unfold exec execAtomicResponse; exact .deliver
  | inboxDelivery => exact .inboxDelivery ..
  | requestTimeout => exact .guard Iff.rfl
  | hazardRelease => exact .guard Iff.rfl
  | scrubRead => exact .units
  | dramTemperatureRead => exact .units
  | refreshCommand => exact .units
  | channelFailure => exact .units
  | streamOpen => exact .unit
  | promptSubmission => exact .unit
  | creditGrant => exact .unit
  | streamCloseRequest => exact .unit
  | streamClose => exact .unit
  | class0LimitWrite => exact .unit
  | poolEntriesWrite => exact .unit
  | poolBaseWrite => exact .unit
  | admission => exact .unit
  | plannedStart => exact .unit
  | donePoll => exact .unit
  | commitPoint => exact .unit
  | deadline => exact .unit
  | dropCauseArrival => exact .unit
  | periodCommit => exact .unit
  | periodDrop => exact .unit
  | energyApportion => exact .unit
  | portMode => exact .unit
  | portRetrain => exact .unit
  | portRetrainTrigger => exact .unit
  | portTrainingStart => exact .unit
  | trainingFrame => exact .unit
  | trainingPhaseTimeout => exact .unit
  | portTrainingEnd => exact .unit
  | portDarkRetry => exact .unit
  | portDown => exact .unit
  | frameReceive => exact .unit
  | arpRequest => exact .iface
  | neighbourSolicitation => exact .iface
  | echoRequest => exact .iface
  | announce => exact .unit
  | sync => exact .unit
  | followUp => exact .unit
  | delayResp => exact .unit
  | delayReqSend => exact .unit
  | syncTimeout => exact .next _
  | dataSegment => exact .unit
  | acknowledgementSegment => exact .unit
  | syncSegment => exact .unit
  | syncSend => exact .unit
  | ackTimer => exact .unit
  | resendTimeout => exact .unit
  | rateUpdate => exact .unit
  | remoteWrite => exact .unit
  | remoteWriteComplete => exact .unit
  | writeCompletion => exact .unit
  | remoteRead => exact .unit
  | remoteReadResponse => exact .unit
  | nack => exact .unit
  | assocWrite => exact .unit
  | windowWrite => exact .unit
  | hdpFragment => exact .iface
  | fragmentTimeout => exact .next _
  | identityRequest => exact .iface
  | hello => exact .iface
  | finish => exact .next _
  | pendingSessionTimeout => exact .next _
  | read => exact .next _
  | write => exact .next _
  | list => exact .next _
  | describe => exact .next _
  | close => exact .next _
  | sessionIdleTimeout => exact .next _
  | sessionKill => exact .next _
  | credKey => exact .guard (by simp)
  | credRole => exact .guard (by simp)
  | configSave => exact .next _
  | configClear => exact .next _
  | refSourceInvalid => exact .next _
  | refRevert => exact .next _
  | referenceLost => exact .next _
  | referenceRelock => exact .next _
  | dividerStep => exact .domain
  | markerSend => exact .unit
  | marker => exact .unit
  | forwardedInputLost => exact .unit
  | oscillatorCheck => exact .next _
  | freqMeasure => exact .unit
  | frequencyCountDone => exact .unit
  | frequencyCountLost => exact .unit
  | moduleMark => exact .next _
  | sampleMark => exact .next _
  | markLatch => exact .latch ..
  | markComplete => exact .next _
  | markAbandon => exact .next _
  | governorTick => exact .next _
  | boostTimeout => exact .next _
  | recoveryEnd => exact .next _
  | leaseGrant => exact .next _
  | leaseTick => exact .next _
  | wearTick => exact .unit
  | wearStore => exact .next _
  | thermalSample => exact .unit
  | awakeCeilingStep => exact .unit
  | coolantShutdown => exact .next _
  | fuseOpen => exact .unit
  | flashInhibitSet => exact .next _
  | flashInhibitClear => exact .next _
  | feedLost => exact .next _
  | feedSupplying => exact .next _
  | planeHold => exact .next _
  | auxInputLow => exact .next _
  | coefTable => exact .next _
  | coreDead => exact .unit
  | heartbeat => exact .next _
  | heartbeatTimeout => exact .next _
  | faultRecord => exact .next _
  | availabilityTick => exact .next _
  | availClear => exact .next _
  | attestRequest => exact .next _
  | attestSigned => exact .next _
  | svnCommit => exact .next _
  | slotAccept => exact .next _
  | decommission => exact .next _
  | interlockChange => exact .next _
  | shedAssert => exact .next _
  | shedRelease => exact .next _
  | routerFailedInService => exact .unit
  | registerFileParityError => exact .unit
  | mscWatchdogHold => exact .next _
  | mgtLinkChange => exact .next _

end Sys2Proof.Machine

open Sys2Proof Sys2Proof.Machine

/-- Settles O58: each command's frame tests the units that its check names, and answers a next state past the test. -/
theorem commandsCompleteOnTheirUnits : Obligations.CommandsCompleteOnTheirUnits := by
  intro i s
  obtain ⟨hnext, hstop⟩ := exec_byCheck i s
  refine ⟨fun h => ?_, hstop⟩
  obtain ⟨t, ht⟩ := hnext h
  exact ⟨t, ht, trivial⟩

end

section
/-! SUPPORT. Rows of a list, and the words of an accumulator after a write and after a multiply (R103, R104, R108). -/

namespace Sys2Proof.Machine

variable {α β : Type} {w : Nat}

/-! ### Rows -/

@[simp] theorem length_rowsOf (k n : Nat) (l : List α) : (rowsOf k n l).length = n := by
  induction n generalizing l with
  | zero => rfl
  | succ n ih => simp [rowsOf, ih]

theorem rowsOf_getElem {k n : Nat} {l : List α} {i : Nat} (hi : i < (rowsOf k n l).length) :
    (rowsOf k n l)[i] = (l.drop (k * i)).take k := by
  induction n generalizing l i with
  | zero => simp [rowsOf] at hi
  | succ n ih =>
    cases i with
    | zero => simp [rowsOf]
    | succ i => simp only [rowsOf, List.getElem_cons_succ, ih, List.drop_drop]; congr 2; ring

/-- Rows of one length laid end to end: word `n * i + j` is word `j` of row `i`. -/
theorem getElem?_flatMap_rows {l : List α} {f : α → List β} {n i j : Nat} (hf : ∀ a ∈ l, (f a).length = n)
    (hi : i < l.length) (hj : j < n) : (l.flatMap f)[n * i + j]? = (f l[i])[j]? := by
  induction l generalizing i with
  | nil => simp at hi
  | cons a l ih =>
    have ha : (f a).length = n := hf a (by simp)
    cases i with
    | zero => simp [List.getElem?_append_left (ha ▸ hj)]
    | succ i =>
      have hle : (f a).length ≤ n * (i + 1) + j := by rw [ha]; nlinarith
      have hsub : n * (i + 1) + j - (f a).length = n * i + j := by rw [ha, Nat.mul_succ]; omega
      rw [List.flatMap_cons, List.getElem?_append_right hle, hsub,
        ih (fun b hb => hf b (by simp [hb])) (by simpa using hi)]
      simp

/-! ### Accumulators -/

@[simp] theorem Sparse.length_dense (m : Sparse w) (a n : Nat) : (m.dense a n).length = n := by
  induction n generalizing m a with
  | zero => rfl
  | succ n ih =>
    simp only [dense]
    split
    · simp
    · split <;> simp [ih]

@[simp] theorem Sparse.length_rdN (m : Sparse w) (a n : Nat) : (m.rdN a n).length = n := by
  induction n generalizing a with
  | zero => rfl
  | succ n ih => simp [rdN, ih]

theorem Sparse.dense_ofList (l : List (BitVec w)) : (ofList 0 l).dense 0 l.length = l := by
  rw [dense_eq_rdN (wf_ofList 0 l)]
  refine List.ext_getElem (by simp) fun j h1 h2 => ?_
  have h := rdN_getD (ofList 0 l) 0 l.length j h2
  rw [rd_ofList] at h
  simpa [h2] using h

theorem Core.accWords_setAcc_same (k : Core) (a : Nat) {l : List Word} (h : l.length = 1024) :
    (k.setAcc a l).accWords a = l := by
  simp only [accWords, setAcc, SMap.get_put_same]
  exact h ▸ Sparse.dense_ofList l

theorem Core.accWords_setAcc_ne (k : Core) {a b : Nat} (l : List Word) (h : b ≠ a) :
    (k.setAcc a l).accWords b = k.accWords b := by
  simp only [accWords, setAcc, SMap.get_put_ne h]

@[simp] theorem Core.length_accWords (k : Core) (a : Nat) : (k.accWords a).length = 1024 := Sparse.length_dense ..

@[simp] theorem Core.accWords_bumpCount (k : Core) (off n a : Nat) : (k.bumpCount off n).accWords a = k.accWords a := rfl

/-! ### A multiply -/

/-- The words that a multiply adds to: those of the accumulator, or zeros in overwrite mode (R104). -/
def mulBefore (ovw : Bool) (acc : List Word) : List Word := if ovw then List.replicate 1024 0 else acc

/-- The dot products of the rows of the first operand with those of the second, row by row (R103). -/
def mulDots (va vb : List Val) : List Dot :=
  (rowsOf 32 32 va).flatMap (fun a => (rowsOf 32 32 vb).map (fun b => dotRows a b))

theorem mulTiles_fst (va vb : List Val) (ovw : Bool) (acc : List Word) :
    (mulTiles va vb ovw acc).1 = ((mulBefore ovw acc).zip (mulDots va vb)).map (fun p => accUpdate p.1 p.2) := rfl

@[simp] theorem length_mulBefore {ovw : Bool} {acc : List Word} (h : acc.length = 1024) :
    (mulBefore ovw acc).length = 1024 := by
  cases ovw
  · exact h
  · exact List.length_replicate

theorem mulBefore_getElem? {ovw : Bool} {acc : List Word} (h : acc.length = 1024) {n : Nat} (hn : n < 1024) :
    (mulBefore ovw acc)[n]? = some (if ovw then 0 else acc.getD n 0) := by
  have hacc : n < acc.length := h ▸ hn
  cases ovw
  · simp [mulBefore, hacc]
  · exact List.getElem?_replicate_of_lt hn

@[simp] theorem length_mulDots (va vb : List Val) : (mulDots va vb).length = 1024 := by
  simp [mulDots, List.length_flatMap]

theorem mulDots_getElem? (va vb : List Val) {i j : Nat} (hi : i < 32) (hj : j < 32) :
    (mulDots va vb)[32 * i + j]? = some (dotRows ((va.drop (32 * i)).take 32) ((vb.drop (32 * j)).take 32)) := by
  rw [mulDots, getElem?_flatMap_rows (fun a _ => by simp) (by simpa using hi) hj]
  simp [rowsOf_getElem, hj]

theorem length_mulTiles {va vb : List Val} {ovw : Bool} {acc : List Word} (h : acc.length = 1024) :
    (mulTiles va vb ovw acc).1.length = 1024 := by
  simp [mulTiles_fst, h]

theorem mulTiles_getD {va vb : List Val} {ovw : Bool} {acc : List Word} (h : acc.length = 1024) {i j : Nat}
    (hi : i < 32) (hj : j < 32) :
    (mulTiles va vb ovw acc).1.getD (32 * i + j) 0 = accUpdate (if ovw then 0 else acc.getD (32 * i + j) 0)
      (dotRows ((va.drop (32 * i)).take 32) ((vb.drop (32 * j)).take 32)) := by
  have hbefore := mulBefore_getElem? (ovw := ovw) h (show 32 * i + j < 1024 by omega)
  rw [mulTiles_fst, List.getD_eq_getElem?_getD, List.getElem?_map,
    List.getElem?_zip_eq_some (z := (_, _)) |>.mpr ⟨hbefore, mulDots_getElem? va vb hi hj⟩]
  rfl

end Sys2Proof.Machine

open Sys2Proof Sys2Proof.Machine

/-- Settles O9: the products are laid out row by row, so that element (i, j) takes the dot product of row i with row j. -/
theorem accumulatorElementsAfterMultiply : Obligations.AccumulatorElementsAfterMultiply := by
  intro k acc va vb ovw i j _ _ hi hj
  have hacc := k.length_accWords acc
  refine ⟨?_, fun other hother => ?_⟩
  · rw [Core.mulInto, Core.accWords_bumpCount, Core.accWords_setAcc_same _ _ (length_mulTiles hacc)]
    exact mulTiles_getD hacc hi hj
  · rw [Core.mulInto, Core.accWords_bumpCount, Core.accWords_setAcc_ne _ _ hother]

end

section
/-! SUPPORT. The scalar instructions (R187, R189): what the operations compute, and how an instruction that is fetched ends. -/

namespace Sys2Proof.Machine

/-! ### The operations (R187) -/

section
variable (a b : Word)

theorem opMulhu_eq : opMulhu a b = BitVec.ofNat 32 (a.toNat * b.toNat / 4294967296) := rfl

theorem opSlt_eq : opSlt a b = if a.toInt < b.toInt then 1 else 0 := by
  simp only [opSlt, BitVec.slt, decide_eq_true_eq]

theorem opSltu_eq : opSltu a b = if a.toNat < b.toNat then 1 else 0 := by
  simp only [opSltu, BitVec.ult, decide_eq_true_eq]

/-- Of two signed words with one value it does not matter which is taken: they are the same word. -/
theorem opMin_eq : opMin a b = if a.toInt ≤ b.toInt then a else b := by
  simp only [opMin, BitVec.slt, decide_eq_true_eq]
  rcases lt_trichotomy a.toInt b.toInt with h | h | h
  · simp [h, h.le]
  · simp [BitVec.eq_of_toInt_eq h]
  · simp [h.not_gt, h]

theorem opMax_eq : opMax a b = if a.toInt ≤ b.toInt then b else a := by
  simp only [opMax, BitVec.slt, decide_eq_true_eq]
  rcases lt_trichotomy a.toInt b.toInt with h | h | h
  · simp [h, h.le]
  · simp [BitVec.eq_of_toInt_eq h]
  · simp [h.not_gt, h]

theorem opMinu_eq : opMinu a b = if a.toNat ≤ b.toNat then a else b := by
  simp only [opMinu, BitVec.ult, decide_eq_true_eq]
  rcases lt_trichotomy a.toNat b.toNat with h | h | h
  · simp [h, h.le]
  · simp [BitVec.eq_of_toNat_eq h]
  · simp [h.not_gt, h]

theorem opMaxu_eq : opMaxu a b = if a.toNat ≤ b.toNat then b else a := by
  simp only [opMaxu, BitVec.ult, decide_eq_true_eq]
  rcases lt_trichotomy a.toNat b.toNat with h | h | h
  · simp [h, h.le]
  · simp [BitVec.eq_of_toNat_eq h]
  · simp [h.not_gt, h]

end

/-- A shift amount of five bits is taken whole. -/
theorem shift_amount (sh : BitVec 5) : (sh.setWidth 32 : Word).toNat % 32 = sh.toNat := by
  have h : sh.toNat < 32 := sh.isLt
  simp; omega

theorem zext16_shl (imm : Half) : zext16 imm <<< 16 = BitVec.ofNat 32 (imm.toNat * 65536) := by
  apply BitVec.eq_of_toNat_eq
  have h : imm.toNat < 65536 := imm.isLt
  simp [zext16, Nat.shiftLeft_eq]

/-! ### Register operations that are fetched (R184) -/

variable {s : State} {c : Nat} {w mask : Word} {k : Core} {i : Instr}

theorem issue_aluReg (h : Fetched s c w mask k) {rd ra rb : BitVec 4} {f : Word → Word → Word} {v : Word}
    (hv : f (k.s ra.toNat) (k.s rb.toNat) = v) :
    issue c i w mask s (aluReg rd ra rb f) = goesOn s c k (k.setS rd.toNat v) :=
  issue_done h (by rw [aluReg, hv])

theorem issue_aluImm (h : Fetched s c w mask k) {rd ra : BitVec 4} {x : Word} {f : Word → Word → Word} {v : Word}
    (hv : f (k.s ra.toNat) x = v) :
    issue c i w mask s (aluImm rd ra x f) = goesOn s c k (k.setS rd.toNat v) :=
  issue_done h (by rw [aluImm, hv])

/-! ### Branches (R187) -/

theorem issue_branch (h : Fetched s c w mask k) {cond : Nat} {ra rb : BitVec 4} {target : BitVec 11} {p : Prop} [Decidable p]
    (hp : brTaken cond (k.s ra.toNat) (k.s rb.toNat) = true ↔ p) :
    issue c i w mask s (branch cond ra rb target) = if p then goesTo s c k target.toNat else goesOn s c k k := by
  by_cases ht : p
  · rw [if_pos ht]; exact issue_jump h (if_pos (hp.mpr ht))
  · rw [if_neg ht]; exact issue_done h (if_neg (mt hp.mp ht))

/-! ### Instructions that need an even register, and the seed (R86, R159) -/

theorem evenReg_iff (r : Nat) : evenReg r = true ↔ r % 2 = 0 := decide_eq_true_iff

/-! ### Counters (R167, R189) -/

theorem ofNat_toNat_eq_ofInt {x : Int} (h : ¬ x < 0) : BitVec.ofNat 16 x.toNat = BitVec.ofInt 16 x := by
  obtain ⟨n, rfl⟩ := Int.eq_ofNat_of_zero_le (not_lt.mp h)
  rw [Int.toNat_natCast, BitVec.ofInt_natCast]

/-- A counter instruction whose new value is in range. -/
theorem issue_cntTo_ok (h : Fetched s c w mask k) {n : Nat} {x : Int} {f : Core → Ran} {v : Half} (hf : f k = cntTo n x k)
    (h0 : ¬ x < 0) (h1 : ¬ 65535 < x) (hv : BitVec.ofNat 16 x.toNat = v) :
    issue c i w mask s f = goesOn s c k { k with cnt := Sparse.wr k.cnt n v } :=
  issue_done h (by rw [hf, cntTo, cntBad, decide_eq_false h0, decide_eq_false h1, hv]; rfl)

theorem issue_cntTo_low (h : Fetched s c w mask k) {n : Nat} {x : Int} {f : Core → Ran} (hf : f k = cntTo n x k)
    (h0 : x < 0) : issue c i w mask s f = faults s c { k with cnt := Sparse.wr k.cnt n 0 } 0x05 n :=
  issue_fault h (by rw [hf, cntTo, cntBad, if_pos h0, decide_eq_true h0]; rfl)

theorem issue_cntTo_high (h : Fetched s c w mask k) {n : Nat} {x : Int} {f : Core → Ran} (hf : f k = cntTo n x k)
    (h0 : ¬ x < 0) (h1 : 65535 < x) :
    issue c i w mask s f = faults s c { k with cnt := Sparse.wr k.cnt n 0xFFFF#16 } 0x05 n :=
  issue_fault h (by rw [hf, cntTo, cntBad, if_neg h0, decide_eq_true h1, Bool.or_true]; rfl)

end Sys2Proof.Machine

open Sys2Proof Sys2Proof.Machine

/-- Settles O1: each operation is one function of its operands' words, written to the destination. -/
theorem aluResults : Obligations.AluResults := by
  constructor
  · intro s c rd ra rb k
    exact ⟨fun h => issue_aluReg h rfl, fun h => issue_aluReg h rfl, fun h => issue_aluReg h rfl,
      fun h => issue_aluReg h rfl, fun h => issue_aluReg h rfl, fun h => issue_aluReg h rfl,
      fun h => issue_aluReg h rfl, fun h => issue_aluReg h rfl, fun h => issue_aluReg h rfl,
      fun h => issue_aluReg h (opMulhu_eq _ _), fun h => issue_aluReg h (opSlt_eq _ _),
      fun h => issue_aluReg h (opSltu_eq _ _), fun h => issue_aluReg h (opMin_eq _ _),
      fun h => issue_aluReg h (opMax_eq _ _), fun h => issue_aluReg h (opMinu_eq _ _),
      fun h => issue_aluReg h (opMaxu_eq _ _)⟩
  · intro s c rd ra imm sh k
    exact ⟨fun h => issue_aluImm h rfl, fun h => issue_aluImm h rfl, fun h => issue_aluImm h rfl,
      fun h => issue_aluImm h rfl, fun h => issue_aluImm h (by rw [opSll, shift_amount]),
      fun h => issue_aluImm h (by rw [opSrl, shift_amount]), fun h => issue_aluImm h (by rw [opSra, shift_amount]),
      fun h => issue_aluImm h (opSlt_eq _ _), fun h => issue_aluImm h (opSltu_eq _ _),
      fun h => show execLui c rd imm s = _ from issue_done h (by rw [zext16_shl])⟩

/-- Settles O2: a branch is taken exactly where its comparison holds. -/
theorem branchResults : Obligations.BranchResults := by
  intro s c ra rb target k
  refine ⟨fun h => issue_branch h ?_, fun h => issue_branch h ?_, fun h => issue_branch h ?_, fun h => issue_branch h ?_,
    fun h => issue_branch h ?_, fun h => issue_branch h ?_, fun h => show execJ c target s = _ from issue_jump h rfl,
    fun h => show execJal c ra target s = _ from issue_jump h rfl⟩
  · exact beq_iff_eq
  · exact bne_iff_ne
  · simp [brTaken, BitVec.slt]
  · simp [brTaken, BitVec.slt]
  · simp [brTaken, BitVec.ult]
  · simp [brTaken, BitVec.ult]

/-- Settles O3: each instruction of the class does one thing, and the two that name a register pair fault on an odd one. -/
theorem systemInstructionResults : Obligations.SystemInstructionResults := by
  intro s c rd ra imm acc w k
  refine ⟨fun h => issue_done h rfl, fun h => show execEndFiring c s = _ from issue_jump h rfl,
    fun h => show execJr c ra s = _ from issue_jump h rfl, fun h => show execSeed c ra s = _ from ?_,
    fun h => show execTime c rd s = _ from ?_, fun h => show execAcct c acc s = _ from issue_done h rfl,
    fun h => show execTrap c imm s = _ from issue_fault h rfl,
    fun h hres => show execReservedInstruction c w s = _ from issue_fault h (if_pos hres)⟩
  · by_cases heven : ra.toNat % 2 = 0
    · rw [if_pos heven]; exact issue_done h (if_pos ((evenReg_iff _).mpr heven))
    · rw [if_neg heven]; exact issue_fault h (if_neg (mt (evenReg_iff _).mp heven))
  · by_cases heven : rd.toNat % 2 = 0
    · rw [if_pos heven]; exact issue_done h (if_pos ((evenReg_iff _).mpr heven))
    · rw [if_neg heven]; exact issue_fault h (if_neg (mt (evenReg_iff _).mp heven))

/-- Settles O5: the new value of a counter is split at its two limits. -/
theorem counterInstructionResults : Obligations.CounterInstructionResults := by
  intro s c cn ra imm target k
  have himm : imm.toNat < 65536 := imm.isLt
  refine ⟨fun h => show execCset c cn imm s = _ from ?_, fun h => show execCadd c cn imm s = _ from ?_,
    fun h => show execCrd c cn ra s = _ from issue_done h ?_, fun h => show execCwr c cn ra s = _ from ?_,
    fun h => show execLoop c cn target s = _ from ?_, fun h => show execCwait c cn imm s = _ from ?_⟩
  · exact issue_cntTo_ok h rfl (by omega) (by omega) (by simp)
  · split_ifs with h0 h1
    · exact issue_cntTo_low h rfl h0
    · exact issue_cntTo_high h rfl h0 h1
    · exact issue_cntTo_ok h rfl h0 h1 (ofNat_toNat_eq_ofInt h0)
  · simp [zext16, BitVec.ofNat_toNat]
  · exact issue_cntTo_ok h rfl (by omega) (by omega) (BitVec.eq_of_toNat_eq (by simp; omega))
  · split_ifs with h0 h1
    · exact issue_fault h (if_pos h0)
    · exact issue_done h (by rw [if_neg h0, if_pos h1, h1]; rfl)
    · exact issue_jump h (by rw [if_neg h0, if_neg h1])
  · split_ifs with hle
    · exact issue_done h (if_pos hle)
    · exact issue_wait h (if_neg hle)

end

section
/-! SUPPORT. Accesses of core store (R160, R188): the words that an access touches, the bytes it reads, and what a write leaves. -/

namespace Sys2Proof.Machine

/-! ### Bytes of a number -/

@[simp] theorem length_leBytes (n v : Nat) : (leBytes n v).length = n := by
  induction n generalizing v with
  | zero => rfl
  | succ n ih => simp [leBytes, ih]

theorem leBytes_getD {n j : Nat} (v : Nat) (h : j < n) : (leBytes n v).getD j 0 = BitVec.ofNat 8 (v / 256 ^ j) := by
  induction n generalizing v j with
  | zero => omega
  | succ n ih =>
    cases j with
    | zero => simp [leBytes]
    | succ j => rw [leBytes, List.getD_cons_succ, ih _ (by omega), Nat.div_div_eq_div_mul, pow_succ']

theorem toNat_append_byte {n : Nat} (x : BitVec n) (y : Byte) : (x ++ y).toNat = x.toNat * 256 + y.toNat := by
  rw [BitVec.toNat_append, ← Nat.shiftLeft_add_eq_or_of_lt y.isLt, Nat.shiftLeft_eq]

theorem ofNat_ofLe_four (b0 b1 b2 b3 : Byte) : BitVec.ofNat 32 (ofLe [b0, b1, b2, b3]) = b3 ++ b2 ++ b1 ++ b0 := by
  apply BitVec.eq_of_toNat_eq
  have h0 := b0.isLt; have h1 := b1.isLt; have h2 := b2.isLt; have h3 := b3.isLt
  simp only [ofLe, BitVec.toNat_ofNat, toNat_append_byte]
  omega

theorem ofNat_ofLe_one (b : Byte) : BitVec.ofNat 32 (ofLe [b]) = b.setWidth 32 := by
  apply BitVec.eq_of_toNat_eq
  simp [ofLe]

theorem ofNat_shift_byte (v : Word) (j : Nat) : BitVec.ofNat 8 (v.toNat / 256 ^ j) = (v >>> (8 * j)).setWidth 8 := by
  apply BitVec.eq_of_toNat_eq
  simp [Nat.shiftRight_eq_div_pow, pow_mul]

/-! ### The words of an access -/

variable {k : Core} {a n : Nat}

theorem wordsOf_single (hn : 0 < n) (h : (a + n - 1) / 8 = a / 8) : wordsOf a n = [a / 8] := by
  rw [wordsOf, if_neg (by omega), h]; simp

theorem partWords_single (hn : 0 < n) (hn8 : n < 8) (h : (a + n - 1) / 8 = a / 8) : partWords a n = [a / 8] := by
  have hpart : 8 * (a / 8) < a ∨ a + n < 8 * (a / 8) + 8 := by omega
  simpa [partWords, wordsOf_single hn h] using hpart

/-- A read within one 64-bit word that holds no uncorrectable error. -/
theorem Core.load_single (hn : 0 < n) (h : (a + n - 1) / 8 = a / 8) (herr : k.storeErr.look (a / 8) ≠ some true) :
    k.load a n = (k.bumpCount 0x50 (if k.storeErr.look (a / 8) = some false then 1 else 0), .ok (Sparse.dense k.store a n)) := by
  have hbad : badWord k.storeErr a n = none := by simp [badWord, wordsOf_single hn h, herr]
  have hsoft : softWords k.storeErr a n = if k.storeErr.look (a / 8) = some false then 1 else 0 := by
    simp [softWords, wordsOf_single hn h, List.countP_singleton]
  rw [load, hbad, ← hsoft]

/-- A read within one 64-bit word that holds an uncorrectable error. -/
theorem Core.load_single_bad (hn : 0 < n) (h : (a + n - 1) / 8 = a / 8) (herr : k.storeErr.look (a / 8) = some true) :
    k.load a n = (k, .error (8 * (a / 8))) := by
  have hbad : badWord k.storeErr a n = some (a / 8) := by simp [badWord, wordsOf_single hn h, herr]
  rw [load, hbad]

/-- A write of part of one 64-bit word that holds no uncorrectable error. -/
theorem Core.storeBytes_single {d : List Byte} (hn : 0 < d.length) (hn8 : d.length < 8)
    (h : (a + d.length - 1) / 8 = a / 8) (herr : k.storeErr.look (a / 8) ≠ some true) :
    k.storeBytes a d = (({ k with store := Sparse.blit k.store a d, storeErr := k.storeErr.del (a / 8) }).bumpCount 0x50
      (if k.storeErr.look (a / 8) = some false then 1 else 0), none) := by
  simp [storeBytes, partWords_single hn hn8 h, wordsOf_single hn h, herr, List.countP_singleton, SMap.del]

/-! ### Scalar accesses that are fetched -/

variable {s : State} {c : Nat} {w mask : Word} {i : Instr} {rd ra : BitVec 4} {off : BitVec 18}

theorem smemBad_eq_false : smemBad a n = false ↔ a ≤ 0x17FFF ∧ a % n = 0 := by
  simp [smemBad]

/-- A scalar load in range, aligned, of a word without an uncorrectable error. -/
theorem issue_scalarLoad (h : Fetched s c w mask k) (ha : smemAddr k ra off = a) (hn : 0 < n)
    (hw : (a + n - 1) / 8 = a / 8) (hok : smemBad a n = false) (herr : k.storeErr.look (a / 8) ≠ some true) :
    issue c i w mask s (scalarLoad n rd ra off) = goesOn s c k
      ((k.bumpCount 0x50 (if k.storeErr.look (a / 8) = some false then 1 else 0)).setS rd.toNat
        (BitVec.ofNat 32 (ofLe (Sparse.dense k.store a n)))) :=
  issue_done h (by simp only [scalarLoad, ha, hok, Core.load_single hn hw herr]; rfl)

/-- A scalar store in range, aligned, of part of a word without an uncorrectable error. -/
theorem issue_scalarStore (h : Fetched s c w mask k) (ha : smemAddr k ra off = a) (hn : 0 < n) (hn8 : n < 8)
    (hw : (a + n - 1) / 8 = a / 8) (hok : smemBad a n = false) (herr : k.storeErr.look (a / 8) ≠ some true) :
    issue c i w mask s (scalarStore n rd ra off) = goesOn s c k
      (({ k with
          store := Sparse.blit k.store a (leBytes n (k.s rd.toNat).toNat)
          storeErr := k.storeErr.del (a / 8) }).bumpCount 0x50 (if k.storeErr.look (a / 8) = some false then 1 else 0)) :=
  issue_done h (by
    simp only [scalarStore, ha, hok, Core.storeBytes_single (d := leBytes n _) (by simpa) (by simpa) (by simpa) herr]; rfl)

theorem issue_scalarLoad_refused (h : Fetched s c w mask k) (ha : smemAddr k ra off = a) (hbad : smemBad a n = true) :
    issue c i w mask s (scalarLoad n rd ra off) = faults s c k 0x03 a :=
  issue_fault h (by simp only [scalarLoad, ha, hbad]; rfl)

theorem issue_scalarStore_refused (h : Fetched s c w mask k) (ha : smemAddr k ra off = a) (hbad : smemBad a n = true) :
    issue c i w mask s (scalarStore n rd ra off) = faults s c k 0x03 a :=
  issue_fault h (by simp only [scalarStore, ha, hbad]; rfl)

theorem issue_scalarLoad_bad (h : Fetched s c w mask k) (ha : smemAddr k ra off = a) (hn : 0 < n)
    (hw : (a + n - 1) / 8 = a / 8) (hok : smemBad a n = false) (herr : k.storeErr.look (a / 8) = some true) :
    issue c i w mask s (scalarLoad n rd ra off) = faults s c k 0x10 (8 * (a / 8)) :=
  issue_fault h (by simp only [scalarLoad, ha, hok, Core.load_single_bad hn hw herr]; rfl)

theorem rd_blit_leBytes (m : Mem) {j : Nat} (v : Word) (hj : j < n) :
    Sparse.rd (Sparse.blit m a (leBytes n v.toNat)) (a + j) = (v >>> (8 * j)).setWidth 8 := by
  rw [Sparse.rd_blit, if_pos (by simp; omega), Nat.add_sub_cancel_left, leBytes_getD _ hj, ofNat_shift_byte]

theorem rd_blit_outside (m : Mem) {d : List Byte} {x : Nat} (h : x < a ∨ a + d.length ≤ x) :
    Sparse.rd (Sparse.blit m a d) x = Sparse.rd m x := by
  rw [Sparse.rd_blit, if_neg (by omega)]

end Sys2Proof.Machine

open Sys2Proof Sys2Proof.Machine

/-- Settles O4: an access of four aligned bytes, or of one, lies in one 64-bit word. -/
theorem scalarStoreAccess : Obligations.ScalarStoreAccess := by
  intro s c rd ra off k a hle herr hwf
  have hdense (n : Nat) : Sparse.dense k.store a n = Sparse.rdN k.store a n := Sparse.dense_eq_rdN hwf a n
  have hone : smemBad a 1 = false := smemBad_eq_false.mpr ⟨hle, Nat.mod_one a⟩
  refine ⟨fun h hal => show execLw c rd ra off s = _ from ?_, fun h => show execLbu c rd ra off s = _ from ?_,
    fun h hal => ⟨_, issue_scalarStore (a := a) h rfl (by omega) (by omega) (by omega)
      (smemBad_eq_false.mpr ⟨hle, hal⟩) herr, fun j hj => rd_blit_leBytes _ _ hj, fun x hx => rd_blit_outside _ (by simpa using hx)⟩,
    fun h => ⟨_, issue_scalarStore (a := a) h rfl (by omega) (by omega) (by omega) hone herr,
      (rd_blit_leBytes (j := 0) _ _ Nat.one_pos).trans (by simp), fun x hx => rd_blit_outside _ (by simp; omega)⟩⟩
  · refine (issue_scalarLoad (a := a) h rfl (by omega) (by omega) (smemBad_eq_false.mpr ⟨hle, hal⟩) herr).trans ?_
    rw [hdense]; exact congrArg (fun v => goesOn s c k (Core.setS _ _ v)) (ofNat_ofLe_four _ _ _ _)
  · refine (issue_scalarLoad (a := a) h rfl (by omega) (by omega) hone herr).trans ?_
    rw [hdense]; exact congrArg (fun v => goesOn s c k (Core.setS _ _ v)) (ofNat_ofLe_one _)

end

section
/-! SUPPORT. Accesses that are refused, and errors of program memory (R161, R188, R190, R191, R203). -/

namespace Sys2Proof.Machine

variable {s : State} {c : Nat} {w mask : Word} {k : Core} {i : Instr} {a n : Nat}

theorem smemBad_iff : smemBad a n = true ↔ 0x17FFF < a ∨ a % n ≠ 0 := by
  simp [smemBad]

/-! ### Tile loads and stores (R190, R191) -/

section
variable {t : BitVec 3} {ra rb fmt : BitVec 4}

theorem fmtTile_eq_false (h : n = 0 ∨ 10 ≤ n) : fmtTile n = false := by
  obtain rfl | h := h
  · rfl
  · obtain ⟨m, rfl⟩ := Nat.exists_eq_add_of_le' h
    rfl

theorem runTld_format (h : fmtTile fmt.toNat = false) : runTld t ra rb fmt k = .fault k 0x02 (17 * fmt.toNat) := by
  simp only [runTld, h, Bool.not_false, if_true]; congr 1; omega

theorem runTld_range (h : fmtTile fmt.toNat = true) (ha : storeSize < tileAddr k ra rb fmt.toNat + fmtSize fmt.toNat) :
    runTld t ra rb fmt k = .fault k 0x03 (tileAddr k ra rb fmt.toNat) := by
  simp [runTld, h, ha]

theorem runTst_format (h : fmt.toNat ≠ (k.tile t.toNat).fmt) :
    runTst t ra rb fmt k = .fault k 0x02 ((k.tile t.toNat).fmt * 16 + fmt.toNat) := if_pos h

theorem runTst_range (h : fmt.toNat = (k.tile t.toNat).fmt) (hnull : (k.tile t.toNat).null = false)
    (ha : storeSize < tileAddr k ra rb fmt.toNat + fmtSize fmt.toNat) :
    runTst t ra rb fmt k = .fault k 0x03 (tileAddr k ra rb fmt.toNat) := by
  rw [runTst, if_neg (not_not.mpr h), if_neg (by simp [hnull]), if_pos ha]

end

/-! ### Transfers (R203) -/

theorem msgBad_address {ga so len : Nat} (h : ga % 4 ≠ 0) : msgBad ga so len = some ga := if_pos h

theorem msgBad_range {ga so len : Nat} (hga : ga % 4 = 0)
    (h : so % 4 ≠ 0 ∨ len % 4 ≠ 0 ∨ len < 4 ∨ 65536 < len ∨ 0x18000 < so + len) : msgBad ga so len = some so := by
  rw [msgBad, if_neg (not_not.mpr hga)]; exact if_pos h

section
variable {ra rb rc cn : BitVec 4} {cnt : Bool}

theorem runGet_odd (h : ra.toNat % 2 ≠ 0) :
    runGet c ra rb rc cn cnt s k = (s, .fault k 0x01 (Sparse.rd k.pmem k.pc).toNat) := by
  simp [runGet, evenReg, h]

theorem runGet_refused (h : ra.toNat % 2 = 0)
    (hbad : msgBad (k.pair ra.toNat).toNat (k.s rb.toNat).toNat (k.s rc.toNat).toNat = some a) :
    runGet c ra rb rc cn cnt s k = (s, .fault k 0x03 a) := by
  simp [runGet, evenReg, h, hbad]

theorem runPut_odd (h : ra.toNat % 2 ≠ 0) :
    runPut c ra rb rc cn cnt s k = (s, .fault k 0x01 (Sparse.rd k.pmem k.pc).toNat) := by
  simp [runPut, evenReg, h]

theorem runPut_refused (h : ra.toNat % 2 = 0)
    (hbad : msgBad (k.pair ra.toNat).toNat (k.s rb.toNat).toNat (k.s rc.toNat).toNat = some a) :
    runPut c ra rb rc cn cnt s k = (s, .fault k 0x03 a) := by
  simp [runPut, evenReg, h, hbad]

end

/-! ### The fetch (R161) -/

/-- A word of program memory with an uncorrectable error is not run. -/
theorem issue_uncorrectable (hc : c < 258048) (hi : (s.core c).canIssue w mask = true)
    (herr : (s.core c).pmemErr.look (s.core c).pc = some true) (f : Core → Ran) :
    issue c i w mask s f = faults s c (s.core c) 0x20 (s.core c).pc := by
  simp [issue, onCore, hc, hi, Core.fetch, herr, faults]

theorem fetched_corrected (hc : c < 258048) (hi : (s.core c).canIssue w mask = true)
    (herr : (s.core c).pmemErr.look (s.core c).pc = some false) :
    Fetched s c w mask ((s.core c).bumpCount 0x58 1) :=
  ⟨hc, hi, by rw [Core.fetch, herr]⟩

end Sys2Proof.Machine

open Sys2Proof Sys2Proof.Machine

/-- Settles O15: each refusal comes before the access is made, in the order of the checks. -/
theorem accessFaults : Obligations.AccessFaults := by
  refine ⟨?_, ?_, ?_, ?_⟩
  · intro s c rd ra off k a
    refine ⟨fun h hbad => issue_scalarLoad_refused h rfl (smemBad_iff.mpr hbad),
      fun h hbad => issue_scalarStore_refused h rfl (smemBad_iff.mpr hbad),
      fun h hbad => issue_scalarLoad_refused h rfl (smemBad_iff.mpr (.inl hbad)),
      fun h hbad => issue_scalarStore_refused h rfl (smemBad_iff.mpr (.inl hbad)), fun h hle hal herr => ?_⟩
    exact issue_scalarLoad_bad (a := a) h rfl (by omega) (by omega) (smemBad_eq_false.mpr ⟨hle, hal⟩) herr
  · intro s c t ra rb fmt k
    exact ⟨fun h hf => issue_fault h (runTld_format (fmtTile_eq_false hf)), fun h hf ha => issue_fault h (runTld_range hf ha),
      fun h hf => issue_fault h (runTst_format hf), fun h hf hnull ha => issue_fault h (runTst_range hf hnull ha)⟩
  · intro s c ra rb rc cn cnt k
    exact ⟨fun h hodd => issueS_fault h (runGet_odd hodd),
      fun h heven hga => issueS_fault h (runGet_refused heven (msgBad_address hga)),
      fun h heven hga hbad => issueS_fault h (runGet_refused heven (msgBad_range hga hbad)),
      fun h hodd => issueS_fault h (runPut_odd hodd),
      fun h heven hga => issueS_fault h (runPut_refused heven (msgBad_address hga)),
      fun h heven hga hbad => issueS_fault h (runPut_refused heven (msgBad_range hga hbad))⟩
  · intro s c rd ra rb k hc hi
    refine ⟨fun herr => show execAdd c rd ra rb s = _ from issue_uncorrectable hc hi herr _, fun herr => ?_⟩
    exact issue_aluReg (fetched_corrected hc hi herr) rfl

end

section
/-! SUPPORT. Tile loads, tile stores and expansions that go through (R190). -/

namespace Sys2Proof.Machine

variable {s : State} {c : Nat} {w mask : Word} {k : Core} {i : Instr} {a n : Nat}

/-! ### Core store without errors -/

/-- A read whose words hold no uncorrectable error. -/
theorem Core.load_of_clean (h : badWord k.storeErr a n = none) :
    k.load a n = (k.bumpCount 0x50 (softWords k.storeErr a n), .ok (Sparse.dense k.store a n)) := by
  rw [load, h]

theorem badWord_nil (a n : Nat) : badWord [] a n = none := by
  simp [badWord, SMap.look]

/-- A write into a core store that holds no error at all. -/
theorem Core.storeBytes_clean (h : k.storeErr = []) (a : Nat) (d : List Byte) :
    k.storeBytes a d = (({ k with store := Sparse.blit k.store a d, storeErr := [] }).bumpCount 0x50 0, none) := by
  have hbad : (partWords a d.length).find? (fun w => decide (k.storeErr.look w = some true)) = none :=
    List.find?_eq_none.mpr (by simp [h, SMap.look])
  rw [storeBytes, hbad]
  simp [h, SMap.look]

theorem rd_blit_inside (m : Mem) {d : List Byte} {j : Nat} (h : j < d.length) :
    Sparse.rd (Sparse.blit m a d) (a + j) = d.getD j 0 := by
  rw [Sparse.rd_blit, if_pos (by omega), Nat.add_sub_cancel_left]

/-! ### Tile loads and stores (R190) -/

section
variable {t : BitVec 3} {ra rb fmt rc : BitVec 4}

theorem runTld_loads (hf : fmtTile fmt.toNat = true) (ha : tileAddr k ra rb fmt.toNat + fmtSize fmt.toNat ≤ storeSize)
    (hbusy : k.tileBusy t.toNat = false)
    (hbad : badWord k.storeErr (tileAddr k ra rb fmt.toNat) (fmtSize fmt.toNat) = none) :
    runTld t ra rb fmt k =
      .done ((k.bumpCount 0x50 (softWords k.storeErr (tileAddr k ra rb fmt.toNat) (fmtSize fmt.toNat))).setTile t.toNat
        (loadedTile fmt.toNat (Sparse.dense k.store (tileAddr k ra rb fmt.toNat) (fmtSize fmt.toNat)))) := by
  simp [runTld, hf, not_lt.mpr ha, hbusy, Core.load_of_clean hbad]

theorem runTst_null (hf : fmt.toNat = (k.tile t.toNat).fmt) (hnull : (k.tile t.toNat).null = true) :
    runTst t ra rb fmt k = .done k := by
  simp [runTst, ← hf, hnull]

theorem runTst_stores (hf : fmt.toNat = (k.tile t.toNat).fmt) (hnull : (k.tile t.toNat).null = false)
    (ha : tileAddr k ra rb fmt.toNat + fmtSize fmt.toNat ≤ storeSize) (herr : k.storeErr = []) :
    runTst t ra rb fmt k = .done (({ k with
      store := Sparse.blit k.store (tileAddr k ra rb fmt.toNat) (Sparse.dense (k.tile t.toNat).img 0 (fmtSize fmt.toNat))
      storeErr := [] }).bumpCount 0x50 0) := by
  simp only [runTst]
  rw [if_neg (not_not.mpr hf), if_neg (by simp [hnull]), if_neg (not_lt.mpr ha), Core.storeBytes_clean herr]

theorem runTldl_expands {k' : Core} {bs : List (List Byte)} (hf : fmt.toNat = 1 ∨ fmt.toNat = 7)
    (ha : ∀ j, j < 32 → lampAddr k ra rb rc j + 33 ≤ storeSize) (hbusy : k.tileBusy t.toNat = false)
    (hbs : loadBlocks (lampAddr k ra rb rc) (List.range 32) k = (k', .ok bs)) :
    runTldl t ra rb fmt rc k = .done (k'.setTile t.toNat
      ⟨Sparse.ofList 0 (lampTile fmt.toNat bs (32 * ((k.s rb.toNat).toNat / 65536) % 160)),
        storedTag ⟨0, 0, 32 * bs.countP lampBad⟩, fmt.toNat, false⟩) := by
  have hfmt : ¬ (fmt.toNat ≠ 1 ∧ fmt.toNat ≠ 7) := by omega
  have hrange : (List.range 32).find? (fun j => decide (storeSize < lampAddr k ra rb rc j + 33)) = none := by
    simpa using ha
  simp only [runTldl]
  rw [if_neg hfmt, hrange]
  simp [hbusy, hbs]

end

end Sys2Proof.Machine

open Sys2Proof Sys2Proof.Machine

/-- Settles O7: each instruction is followed past its checks of format, address and interlock. -/
theorem tileLoadAndStoreResults : Obligations.TileLoadAndStoreResults := by
  intro s c t ra rb fmt rc k f a x counted
  refine ⟨fun h hf ha hbusy hbad => issue_done h (runTld_loads hf ha hbusy hbad), fun h hf hnull => issue_done h (runTst_null hf hnull),
    fun h hf hnull ha herr => ?_, fun h hf ha hbusy k' bs hbs => issue_done h (runTldl_expands hf ha hbusy hbs)⟩
  refine ⟨_, _, issue_done h (runTst_stores hf hnull ha herr), fun j hj => rd_blit_inside _ (by simpa using hj), fun y hy => ?_⟩
  exact rd_blit_outside _ (by rw [Sparse.length_dense]; exact hy)

end

section
/-! SUPPORT. The tile multiply (R103 to R132, R192), and instructions that run to their end (R184). -/

namespace Sys2Proof.Machine

variable {s s' : State} {c : Nat} {w mask : Word} {k k' : Core} {i : Instr} {o : Out} {P : Core → Prop}

/-! ### Instructions that run to their end -/

/-- A core that issues holds no instruction. -/
theorem Fetched.held (h : Fetched s c w mask k) : k.held = none := by
  obtain ⟨-, hi, hf⟩ := h
  have hnone : (s.core c).held = none := by
    simp only [Core.canIssue, Bool.and_eq_true, Option.isNone_iff_eq_none] at hi
    tauto
  simp only [Core.fetch] at hf
  split at hf <;> cases hf <;> exact hnone

theorem Completes.of_goesOn (h : o = goesOn s' c k k') (hheld : k'.held = none)
    (hP : P { k' with pc := (k.pc + 1) % 2048 }) : Completes o c k P := by
  refine ⟨_, h, ?_⟩
  rw [State.core_setCore_same]
  exact ⟨rfl, hheld, hP⟩

/-! ### What the steps of a multiply leave -/

/-- Two cores agree on registers, tile registers, core store and the instruction held at issue. -/
def Core.SameData (k k' : Core) : Prop :=
  k'.regs = k.regs ∧ k'.tiles = k.tiles ∧ k'.store = k.store ∧ k'.held = k.held

theorem Core.SameData.trans {k k' k'' : Core} (h : k.SameData k') (h' : k'.SameData k'') : k.SameData k'' :=
  ⟨h'.1.trans h.1, h'.2.1.trans h.2.1, h'.2.2.1.trans h.2.2.1, h'.2.2.2.trans h.2.2.2⟩

theorem Core.mulInto_sameData (k : Core) (acc : Nat) (va vb : List Val) (ovw : Bool) :
    k.SameData (k.mulInto acc va vb ovw) := ⟨rfl, rfl, rfl, rfl⟩

/-- The product of a multiply depends on the accumulators alone. -/
theorem Core.mulInto_accWords_congr {k k' : Core} (h : k'.accs = k.accs) (acc : Nat) (va vb : List Val) (ovw : Bool) :
    (k'.mulInto acc va vb ovw).accWords acc = (k.mulInto acc va vb ovw).accWords acc := by
  have hwords : k'.accWords acc = k.accWords acc := by rw [accWords, accWords, h]
  simp only [mulInto, accWords_bumpCount, hwords, accWords_setAcc_same _ _ (length_mulTiles (k.length_accWords acc))]

theorem Core.countOutcome_sameData (k : Core) (sp o : Nat) : k.SameData (k.countOutcome sp o) := by
  unfold countOutcome; split <;> exact ⟨rfl, rfl, rfl, rfl⟩

theorem Core.countOutcome_accs (k : Core) (sp o : Nat) : (k.countOutcome sp o).accs = k.accs := by
  unfold countOutcome; split <;> rfl

theorem sendFetch_core (c : Nat) (b : Bool) (tag : Long) (s : State) (k : Core) :
    ∃ ops, (sendFetch c b tag s k).2 = { k with ops := ops } := by
  unfold sendFetch
  split
  · exact ⟨_, rfl⟩
  · exact ⟨k.ops, rfl⟩

/-! ### The cases of a multiply -/

section
variable {acc : BitVec 2} {ta tb : BitVec 3} {ovw : Bool} {sp : BitVec 3}

/-- The core as a multiply begins to run: its occupancy, `TMULS`, and the account's row of the format (R105, R133). -/
def Core.multiplying (k : Core) (acc : BitVec 2) (ta tb : BitVec 3) : Core :=
  (({ k with teBusy := some (acc.toNat, ta.toNat, tb.toNat) }).bumpCount 0x460 1).charge
    (if fmtMul (k.tile ta.toNat).fmt == some true then 0 else 8) 1

/-- The state after the soot report of a flagged multiply, where the profile asks for one (R120). -/
def State.sootReported (s : State) (c : Nat) (k : Core) (ta tb sp : BitVec 3) : State :=
  let a := k.tile ta.toNat
  let b := k.tile tb.toNat
  let prof := k.profile sp.toNat
  if nbit prof.toNat 34 then
    s.modCluster (clusterOf c) (fun x => x.postSoot (sootReport c sp.toNat
      (sootOutcome k sp.toNat a.fmt a.tag b.tag) (sootFlag prof a.tag) (sootFlag prof b.tag) a.tag b.tag))
  else s

theorem State.sootReported_keeps (s : State) (c : Nat) (k : Core) (ta tb sp : BitVec 3) :
    (s.sootReported c k ta tb sp).cores = s.cores ∧ (s.sootReported c k ta tb sp).dram = s.dram ∧
      (s.sootReported c k ta tb sp).net = s.net := by
  unfold sootReported; dsimp only; split <;> exact ⟨rfl, rfl, rfl⟩

theorem runTmul_null (hrk : k.rk = none) (h : ((k.tile ta.toNat).null || (k.tile tb.toNat).null) = true) :
    runTmul c acc ta tb ovw sp s k = (s, .done k) := by
  exact (if_neg (by simp [hrk])).trans (if_pos h)

theorem runTmul_format (hrk : k.rk = none) (h : ((k.tile ta.toNat).null || (k.tile tb.toNat).null) = false)
    (hf : (k.tile ta.toNat).fmt ≠ (k.tile tb.toNat).fmt ∨ fmtTile (k.tile ta.toNat).fmt = false) :
    runTmul c acc ta tb ovw sp s k = (s, .fault k 0x02 ((k.tile ta.toNat).fmt * 16 + (k.tile tb.toNat).fmt)) := by
  have hf' : (k.tile ta.toNat).fmt ≠ (k.tile tb.toNat).fmt ∨ (!fmtTile (k.tile ta.toNat).fmt) = true := by simpa using hf
  exact (if_neg (by simp [hrk])).trans ((if_neg (by simp [h])).trans (if_pos hf'))

/-- A multiply of operands that are not null, of one format that multiplies (R192). -/
theorem runTmul_runs (hrk : k.rk = none) (h : ((k.tile ta.toNat).null || (k.tile tb.toNat).null) = false)
    (hf : (k.tile ta.toNat).fmt = (k.tile tb.toNat).fmt) (hmul : fmtTile (k.tile ta.toNat).fmt = true) :
    runTmul c acc ta tb ovw sp s k =
      let a := k.tile ta.toNat
      let b := k.tile tb.toNat
      let o := sootOutcome k sp.toNat a.fmt a.tag b.tag
      let k2 := ((k.multiplying acc ta tb).bumpCount 0x468 1).countOutcome sp.toNat o
      if sootFlag (k.profile sp.toNat) a.tag || sootFlag (k.profile sp.toNat) b.tag then
        if o = 4 then
          let p1 := sendFetch c false a.tag (s.sootReported c k ta tb sp) (k2.charge 0x10 1)
          let p2 := sendFetch c true b.tag p1.1 p1.2
          (p2.1, .done { p2.2 with rk := some ⟨acc.toNat, ta.toNat, tb.toNat, ovw, none, none, false, false, false,
            b2n (tagSource a.tag == 1) + b2n (tagSource b.tag == 1), 0⟩ })
        else (s.sootReported c k ta tb sp, .done (k2.mulInto acc.toNat a.vals b.vals ovw))
      else (s, .done ((k.multiplying acc ta tb).mulInto acc.toNat a.vals b.vals ovw)) := by
  have hf' : ¬ ((k.tile ta.toNat).fmt ≠ (k.tile tb.toNat).fmt ∨ (!fmtTile (k.tile ta.toNat).fmt) = true) := by
    simp [hf, ← hmul]
  exact (if_neg (by simp [hrk])).trans ((if_neg (by simp [h])).trans ((if_neg hf').trans rfl))

theorem multiplying_sameData (k : Core) (acc : BitVec 2) (ta tb : BitVec 3) :
    k.SameData (k.multiplying acc ta tb) := by
  simp [Core.SameData, Core.multiplying, Core.charge]

theorem multiplying_accs (k : Core) (acc : BitVec 2) (ta tb : BitVec 3) : (k.multiplying acc ta tb).accs = k.accs := by
  simp [Core.multiplying, Core.charge]

theorem Core.bumpCount_sameData (k : Core) (off n : Nat) : k.SameData (k.bumpCount off n) := ⟨rfl, rfl, rfl, rfl⟩

theorem counted_sameData (k : Core) (acc : BitVec 2) (ta tb : BitVec 3) (sp o : Nat) :
    k.SameData (((k.multiplying acc ta tb).bumpCount 0x468 1).countOutcome sp o) :=
  (multiplying_sameData k acc ta tb).trans ((Core.bumpCount_sameData _ 0x468 1).trans (Core.countOutcome_sameData _ sp o))

theorem counted_accs (k : Core) (acc : BitVec 2) (ta tb : BitVec 3) (sp o : Nat) :
    (((k.multiplying acc ta tb).bumpCount 0x468 1).countOutcome sp o).accs = k.accs := by
  rw [Core.countOutcome_accs, Core.bumpCount_accs, multiplying_accs]

/-- R126: the fetches of a rekindle leave the core's data and its accumulators, and the rekindle is under way. -/
theorem rekindle_begins (c : Nat) (tagA tagB : Long) (st : State) (k : Core) (r : Rekindle) :
    let p1 := sendFetch c false tagA st (k.charge 0x10 1)
    let p2 := sendFetch c true tagB p1.1 p1.2
    let k' : Core := { p2.2 with rk := some r }
    k.SameData k' ∧ k'.accs = k.accs := by
  obtain ⟨ops1, h1⟩ := sendFetch_core c false tagA st (k.charge 0x10 1)
  intro p1
  obtain ⟨ops2, h2⟩ := sendFetch_core c true tagB p1.1 p1.2
  dsimp only
  rw [h2, h1]
  simp [Core.SameData, Core.charge]

end

end Sys2Proof.Machine

open Sys2Proof Sys2Proof.Machine

/-- Settles O8: a multiply that passes its checks is split by its flags and, where flagged, by its outcome. -/
theorem tileMultiplyResults : Obligations.TileMultiplyResults := by
  intro s c acc ta tb ovw sp k a b prof flagged k0 k1 o h hrk
  have hnull (hn : (a.null || b.null) = true) : exec (.tmul c acc ta tb ovw sp) s = goesOn s c k k :=
    issueS_done h (runTmul_null hrk hn)
  have hplain (hn : (a.null || b.null) = false) (hf : a.fmt = b.fmt) (hmul : fmtTile a.fmt = true) (hflag : flagged = false) :
      exec (.tmul c acc ta tb ovw sp) s = goesOn s c k (k1.mulInto acc.toNat a.vals b.vals ovw) :=
    issueS_done h ((runTmul_runs hrk hn hf hmul).trans (if_neg (Bool.eq_false_iff.mp hflag)))
  have hcounted (hn : (a.null || b.null) = false) (hf : a.fmt = b.fmt) (hmul : fmtTile a.fmt = true) (hflag : flagged = true)
      (ho : o ≠ 4) : exec (.tmul c acc ta tb ovw sp) s = goesOn (s.sootReported c k ta tb sp) c k
        (((k1.bumpCount 0x468 1).countOutcome sp.toNat o).mulInto acc.toNat a.vals b.vals ovw) :=
    issueS_done h ((runTmul_runs hrk hn hf hmul).trans ((if_pos hflag).trans (if_neg ho)))
  have hrekindles (hn : (a.null || b.null) = false) (hf : a.fmt = b.fmt) (hmul : fmtTile a.fmt = true) (hflag : flagged = true)
      (ho : o = 4) : ∃ s' k', exec (.tmul c acc ta tb ovw sp) s = goesOn s' c k k' ∧ k.SameData k' ∧ k'.accs = k.accs ∧
        k'.rk = some ⟨acc.toNat, ta.toNat, tb.toNat, ovw, none, none, false, false, false,
          b2n (tagSource a.tag == 1) + b2n (tagSource b.tag == 1), 0⟩ := by
    have hcount := counted_sameData k acc ta tb sp.toNat o
    have haccs := counted_accs k acc ta tb sp.toNat o
    obtain ⟨hbegins, haccs'⟩ := rekindle_begins c a.tag b.tag (s.sootReported c k ta tb sp) _ _
    exact ⟨_, _, issueS_done h ((runTmul_runs hrk hn hf hmul).trans ((if_pos hflag).trans (if_pos ho))),
      hcount.trans hbegins, haccs'.trans haccs, rfl⟩
  refine ⟨fun hcase => ?_, hnull, fun hn hf => issueS_fault h (runTmul_format hrk hn hf), hplain,
    fun hn hf hmul hflag ho => ?_, fun hn hf hmul hflag ho => ?_⟩
  · cases hn : a.null || b.null with
    | true => exact .of_goesOn (hnull hn) h.held ⟨rfl, rfl, rfl, nofun, fun _ => rfl⟩
    | false =>
      obtain ⟨hf, hmul⟩ := hcase.resolve_left (by simp [hn])
      cases hflag : flagged with
      | false =>
        obtain ⟨hregs, htiles, hstore, hheld⟩ :=
          (multiplying_sameData k acc ta tb).trans (Core.mulInto_sameData _ acc.toNat a.vals b.vals ovw)
        exact .of_goesOn (hplain hn hf hmul hflag) (hheld.trans h.held) ⟨hregs, htiles, hstore, fun _ _ =>
          Core.mulInto_accWords_congr (multiplying_accs k acc ta tb) acc.toNat a.vals b.vals ovw, nofun⟩
      | true =>
        by_cases ho : o = 4
        · obtain ⟨s', k', he, ⟨hregs, htiles, hstore, hheld⟩, -, -⟩ := hrekindles hn hf hmul hflag ho
          exact .of_goesOn he (hheld.trans h.held) ⟨hregs, htiles, hstore, nofun, nofun⟩
        · obtain ⟨hregs, htiles, hstore, hheld⟩ :=
            (counted_sameData k acc ta tb sp.toNat o).trans (Core.mulInto_sameData _ acc.toNat a.vals b.vals ovw)
          exact .of_goesOn (hcounted hn hf hmul hflag ho) (hheld.trans h.held) ⟨hregs, htiles, hstore, nofun, nofun⟩
  · obtain ⟨hcores, hdram, hnet⟩ := s.sootReported_keeps c k ta tb sp
    exact ⟨_, hcounted hn hf hmul hflag ho.ne, hcores, hdram, hnet, fun hbit => if_neg (by simp [prof, hbit])⟩
  · obtain ⟨s', k', he, -, haccs, hr⟩ := hrekindles hn hf hmul hflag ho
    exact ⟨s', k', he, haccs, hr⟩

end

section
/-! SUPPORT. The block as a whole: the step and the reset state. -/

namespace Sys2Proof.Machine

/-! ### The reset state lists no unit: each reads as after its own reset -/

theorem reset_core (c : Nat) : State.reset.core c =
    { Core.resetWith (State.reset.seedFor c) with since := 0, sinceNs := 0 } := rfl

theorem reset_cluster (k : Nat) : State.reset.cluster k = Cluster.resetWith (State.reset.mpSeedFor k) := rfl

theorem reset_clk (f : Nat) : State.reset.clk f = ClkSt.reset := rfl

theorem reset_wf : State.reset.wf := ⟨rfl, by simp [State.reset], by simp [State.reset]⟩

/-- `RUN` is 0 in the reset value of `SEQ_CTRL` (R164). -/
theorem run_reset : nbit (0x00004002#32).toNat 0 = false := by decide

theorem Core.s_eq_zero {k : Core} (h : k.regs = []) (r : Nat) : k.s r = 0 := by
  unfold s; split
  · rfl
  · rw [h]; rfl

end Sys2Proof.Machine

open Sys2Proof Sys2Proof.Machine

/-- Settles O57: the step matches on the queue. -/
theorem stepTakesTheFrontCommand : Obligations.StepTakesTheFrontCommand := by
  intro c s rest
  refine ⟨fun h => ?_, rfl, fun h => ?_⟩
  · simp only [step, h]
  · simp only [step, h]

/-- Settles O59: the reset state lists no unit, so that each unit reads as its own reset. -/
theorem resetState : Obligations.ResetState := by
  refine ⟨rfl, rfl, rfl, rfl, rfl, fun c _ => ?_, fun k _ => ?_, fun f _ => ?_, fun n => rfl, reset_wf⟩
  · rw [reset_core]
    exact ⟨run_reset, rfl, rfl, rfl, rfl, rfl, rfl, Core.s_eq_zero rfl, fun n => ⟨rfl, rfl, rfl⟩, fun t => ⟨rfl, rfl, rfl⟩⟩
  · rw [reset_cluster]
    exact ⟨rfl, rfl, rfl, rfl, fun n => rfl⟩
  · rw [reset_clk]
    exact ⟨rfl, rfl, rfl, rfl, rfl⟩

end

section
/-! SUPPORT. Conversions (R193 to R196) between tile registers. -/

namespace Sys2Proof.Machine

variable {s : State} {c n : Nat} {a : CvtArgs} {k k' : Core}

/-- The frame of a conversion that is fetched and runs to its end. -/
theorem execCvt_done (h : Fetched s c (encCvt a) fullMask k) (hr : runCvt c a s.free k = .done k') :
    exec (.cvt c a) s = goesOn s.draw.2 c k k' := by
  obtain ⟨hc, hi, hf⟩ := h
  unfold exec execCvt
  simp only [onCore, hc, hi, hf, hr, if_true]
  rfl

/-! ### A conversion that nothing holds back -/

section
variable (hsrc : a.src.toNat < 8) (hdst : a.dst.toNat < 8) (hbusy : k.tileBusy a.dst.toNat = false)
  (hfmt : cvtFormatFault k a = false) (hres : resCvt (Sparse.rd k.pmem k.pc).toNat = false) (hmordant : k.mordant = none)
include hsrc hdst hbusy hfmt hres hmordant

/-- R193: a null register makes its destination null. -/
theorem runCvt_null (hnull : (k.tile a.src.toNat).null = true) :
    runCvt c a n k = .done (k.setTile a.dst.toNat { k.tile a.dst.toNat with null := true, fmt := a.tfmt.toNat }) := by
  have hmem : ¬ (a.src.toNat = 12 ∨ a.dst.toNat = 8) := by omega
  have hacc : ¬ 8 ≤ a.src.toNat := by omega
  simp [runCvt, hres, hmordant, hfmt, hmem, hbusy, hacc, hsrc, hdst, hnull]

/-- R196: a register that is not null is converted, unless the conversion waits for a retain slot (R122). -/
theorem runCvt_goes (hnull : (k.tile a.src.toNat).null = false)
    (hring : ¬ (cvtRetains k a = true ∧ (k.ringAt (k.ringNext % k.retainDepth)).held ≠ 0)) :
    runCvt c a n k = cvtGo c a n k (Sparse.dense (k.tile a.src.toNat).img 0 2048) := by
  have hmem : ¬ (a.src.toNat = 12 ∨ a.dst.toNat = 8) := by omega
  have hacc : ¬ 8 ≤ a.src.toNat := by omega
  simp [runCvt, hres, hmordant, hfmt, hmem, hbusy, hacc, hsrc, hnull, hring, cvtImage]

end

/-- R196: a conversion that names no scale slot, draws no random bits and retains nothing. -/
theorem cvtGo_plain {img : List Byte} (hsrc : a.src.toNat < 8) (hdst : a.dst.toNat < 8) (hrnd : a.rnd = false)
    (hscale : a.scale = false) (hgather : a.gather = false) (hretain : a.retain = false)
    (hfmt : (k.tile a.src.toNat).fmt ≠ a.tfmt.toNat) :
    cvtGo c a n k img =
      let out := cvtVals a.tfmt.toNat none (tileVals (k.tile a.src.toNat).fmt img) (List.replicate 1024 Rnd.nearest)
      .done ({ k with retainStall := false }.setTile a.dst.toNat
        ⟨Sparse.ofList 0 out.1, mkTag 0 0 0 0 out.2.special out.2.sat out.2.zero, a.tfmt.toNat, false⟩) := by
  have hsf : cvtSrcFmt k a = (k.tile a.src.toNat).fmt := if_pos hsrc
  have hretains (k' : Core) : cvtRetains k' a = false := by simp [cvtRetains, hretain]
  simp only [cvtGo, hsf, hrnd, hscale, hgather, hretains, if_pos hdst, if_neg hfmt]
  rfl

/-- A conversion into a tile register writes no address, so that nothing is left to go wrong. -/
theorem cvtGo_done {img : List Byte} (hdst : a.dst.toNat < 8) : ∃ k', cvtGo c a n k img = .done k' := by
  unfold cvtGo
  simp only [if_pos hdst]
  split <;> exact ⟨_, rfl⟩

/-- R122: a conversion that waited for a retain slot runs to its end once the slot is free. -/
theorem execRetainStallResume_done {r : Ran} (hcore : s.core c = { k with held := some (.cvt c a), retainStall := true })
    (hc : c < 258048) (hfault : k.faulted = false) (hrestart : k.restarting = false) (hfiring : k.firing = true)
    (hr : runCvt c a s.free { k with held := none, retainStall := true } = r) (hdone : ∃ k', r = .done k') :
    exec (.retainStallResume c) s = .next (s.draw.2.setCore c
      (r.finish { k with held := none, retainStall := false } (.cvt c a))) := by
  obtain ⟨k', rfl⟩ := hdone
  have hgo : True ∧ (!k.faulted) = true ∧ (!k.restarting) = true ∧ k.firing = true := by simp [hfault, hrestart, hfiring]
  unfold exec execRetainStallResume
  simp only [onCore, if_pos hc, hcore, hr]
  rw [if_pos hgo]

end Sys2Proof.Machine

open Sys2Proof Sys2Proof.Machine

/-- Settles O10: between tile registers a conversion is stopped by nothing but a null source and a held retain slot. -/
theorem conversionResults : Obligations.ConversionResults := by
  intro s c a k src done hsrc hdst hbusy hfmt hres hmordant
  refine ⟨fun h hnull => execCvt_done h (runCvt_null hsrc hdst hbusy hfmt hres hmordant hnull),
    fun h hnull hrnd hscale hgather hretain hne => execCvt_done h ?_, fun hcore hc hheld hfault hrestart hfiring hnull hret hfree => ?_⟩
  · rw [runCvt_goes hsrc hdst hbusy hfmt hres hmordant hnull (by simp [cvtRetains, hretain])]
    exact cvtGo_plain hsrc hdst hrnd hscale hgather hretain hne
  · exact execRetainStallResume_done hcore hc hfault hrestart hfiring
      (runCvt_goes (k := { k with held := none, retainStall := true }) hsrc hdst hbusy hfmt hres hmordant hnull
        (fun hwait => hwait.2 hfree)) (cvtGo_done hdst)

end

section
/-! SUPPORT. Vector instructions (R198) whose sources are read. -/

namespace Sys2Proof.Machine

variable {s : State} {c : Nat} {w mask : Word} {k k' k2 : Core} {i : Instr} {vop : Nat} {o : VecOps} {ls : List (List Word)}
  {l : List Word}

theorem runVec_done (h : VectorReads k vop o k' ls) {f : List (List Word) → List Word} (hf : f ls = l)
    (hd : vDest k' o.vd.toNat o.sr o.nfmt l = .done k2) : runVec vop o f k = .done k2 := by
  obtain ⟨hres, hfmt, hbusy, hsrc⟩ := h
  simp only [runVec, hres, hfmt, hbusy, hsrc, hf, hd]
  rfl

theorem issue_runVec (h : Fetched s c w mask k) {f : List (List Word) → List Word} (hr : VectorReads k vop o k' ls)
    (hf : f ls = l) (hd : vDest k' o.vd.toNat o.sr o.nfmt l = .done k2) :
    issue c i w mask s (runVec vop o f) = goesOn s c k k2 :=
  issue_done h (runVec_done hr hf hd)

/-- The four whose results the spec bounds take 1,024 free values (R113, R114). -/
theorem issueFree_runVec (h : Fetched s c w fullMask k) {f : Nat → List (List Word) → List Word} (hr : VectorReads k vop o k' ls)
    (hf : f s.free ls = l) (hd : vDest k' o.vd.toNat o.sr o.nfmt l = .done k2) :
    issueFree c i w s (fun n => runVec vop o (f n)) = goesOn { s with free := s.free + 1024 } c k k2 :=
  issueS_done h (congrArg (Prod.mk _) (runVec_done hr hf hd))

/-! ### Elementwise results -/

theorem lane2_eq_zipWith (f : Word → Word → Word) (ls : List (List Word)) :
    lane2 f ls = List.zipWith f (ls.getD 0 []) (ls.getD 1 []) := by
  rw [lane2, List.zip, List.map_zipWith]

theorem lane3_eq_zipWith (f : Word → Word → Word → Word) (ls : List (List Word)) :
    lane3 f ls = List.zipWith (fun x y => f x y.1 y.2) (ls.getD 0 []) ((ls.getD 1 []).zip (ls.getD 2 [])) := by
  rw [lane3, List.zip, List.map_zipWith]

end Sys2Proof.Machine

open Sys2Proof Sys2Proof.Machine

/-- Settles O11: the words written are those that the instruction makes from its sources, element by element where it is a
function of elements. -/
theorem vectorInstructionResults : Obligations.VectorInstructionResults := by
  intro s c vd va vb vc sr nfmt k k' k2 ls
  exact ⟨fun h hr hd => issue_runVec h hr (lane2_eq_zipWith _ _) hd, fun h hr hd => issue_runVec h hr (lane2_eq_zipWith _ _) hd,
    fun h hr hd => issue_runVec h hr (lane2_eq_zipWith _ _) hd, fun h hr hd => issue_runVec h hr (lane3_eq_zipWith _ _) hd,
    fun h hr hd => issue_runVec h hr (lane2_eq_zipWith _ _) hd, fun h hr hd => issue_runVec h hr (lane2_eq_zipWith _ _) hd,
    fun h hr hd => issue_runVec h hr (lane2_eq_zipWith _ _) hd, fun h hr hd => issue_runVec h hr (lane2_eq_zipWith _ _) hd,
    fun h hr hd => issue_runVec h hr (lane2_eq_zipWith _ _) hd, fun h hr hd => issue_runVec h hr (lane3_eq_zipWith _ _) hd,
    fun h hr hd => issue_runVec h hr rfl hd, fun h hr hd => issue_runVec h hr rfl hd,
    fun h hr hd => show execVrecip c vd va sr nfmt s = _ from issueFree_runVec h hr rfl hd,
    fun h hr hd => show execVrsqrt c vd va sr nfmt s = _ from issueFree_runVec h hr rfl hd,
    fun h hr hd => show execVexp2 c vd va sr nfmt s = _ from issueFree_runVec h hr rfl hd,
    fun h hr hd => show execVlog2 c vd va sr nfmt s = _ from issueFree_runVec h hr rfl hd,
    fun h hr hd => show execVrsum c vd va sr nfmt s = _ from issue_runVec h hr rfl hd,
    fun h hr hd => show execVrmax c vd va sr nfmt s = _ from issue_runVec h hr rfl hd,
    fun h hr hd => show execVtrans c vd va s = _ from issue_runVec h hr rfl hd,
    fun h hr hd => show execVmov c vd va sr nfmt s = _ from issue_runVec h hr rfl hd,
    fun h hr hd => show execViotr c vd sr nfmt s = _ from issue_runVec h hr rfl hd,
    fun h hr hd => show execViotc c vd sr nfmt s = _ from issue_runVec h hr rfl hd⟩

end

section
/-! SUPPORT. The queue instructions (R199 to R201, R284, R285, R299). -/

namespace Sys2Proof.Machine

variable {s : State} {c : Nat} {k k' : Core}

/-! ### What faults and events leave of a core -/

/-- Two cores agree on registers, tile registers and the instruction held at issue. -/
def Core.SameRegs (k k' : Core) : Prop := k'.regs = k.regs ∧ k'.tiles = k.tiles ∧ k'.held = k.held

theorem Core.SameRegs.refl (k : Core) : k.SameRegs k := ⟨rfl, rfl, rfl⟩

theorem Core.SameRegs.trans {k k' k'' : Core} (h : k.SameRegs k') (h' : k'.SameRegs k'') : k.SameRegs k'' :=
  ⟨h'.1.trans h.1, h'.2.1.trans h.2.1, h'.2.2.trans h.2.2⟩

theorem Core.SameRegs.foldl {α : Type} {f : Core → α → Core} (hf : ∀ (k : Core) a, k.SameRegs (f k a)) (l : List α) (k : Core) :
    k.SameRegs (l.foldl f k) := by
  induction l generalizing k with
  | nil => exact .refl k
  | cons a r ih => exact (hf k a).trans (ih _)

theorem Core.raise_sameRegs (k : Core) (cause detail : Nat) : k.SameRegs (k.raise cause detail) := by
  simp only [raise, SameRegs]
  split <;> simp

theorem Core.satCnt_sameRegs (k : Core) (n : Nat) (d : Int) : k.SameRegs (k.satCnt n d) := ⟨rfl, rfl, rfl⟩

theorem Core.event_sameRegs (k : Core) (src idx m : Nat) : k.SameRegs (k.event src idx m) :=
  (SameRegs.foldl (fun k n => k.satCnt_sameRegs n m) _ k).trans (SameRegs.foldl (fun k (f : Nat × Nat) => k.raise_sameRegs f.1 f.2) _ _)

/-- What R285 takes back from the counters changes nothing else. -/
theorem Core.unEvent_eq_with_cnt (k : Core) (src idx m : Nat) : ∃ cnt, k.unEvent src idx m = { k with cnt := cnt } := by
  unfold unEvent
  induction List.range 16 generalizing k with
  | nil => exact ⟨k.cnt, rfl⟩
  | cons n r ih =>
    rw [List.foldl_cons]
    split
    · exact ih _
    · exact ih k

theorem Core.inboxControl_sameRegs (k : Core) (d : Long) (x : Inbox) : k.SameRegs (k.inboxControl d x) := by
  unfold inboxControl storeBytes
  dsimp only
  split
  · next k' heq => split at heq <;> cases heq; simp [SameRegs]
  · next k' w heq => split at heq <;> cases heq; exact k.raise_sameRegs _ _

theorem Core.inboxSet_sameRegs (k : Core) (m : SMap Inbox) (d : Long) (x : Inbox) :
    k.SameRegs ({ k with inbox := m }.inboxControl d x) :=
  inboxControl_sameRegs { k with inbox := m } d x

theorem Core.inboxSwap_sameRegs (k : Core) (d : Long) (b : Nat) : k.SameRegs (k.inboxSwap d b) := by
  unfold inboxSwap
  dsimp only
  split
  · exact (inboxSet_sameRegs k _ d _).trans (event_sameRegs _ 4 b _)
  · exact .refl k

theorem Core.inboxRelease_sameRegs (k : Core) (d : Long) (b : Nat) : k.SameRegs (k.inboxRelease d b) := by
  unfold inboxRelease
  dsimp only
  split
  · exact .refl k
  · exact (inboxSet_sameRegs k _ d _).trans (inboxSwap_sameRegs _ d b)

/-! ### Registers of a tuple -/

theorem Core.setRegs_inW (k : Core) (reg : Nat) (l : List Word) : (k.setRegs reg l).inW = k.inW := by
  induction l generalizing k reg with
  | nil => rfl
  | cons w r ih => rw [setRegs, ih, setS_inW]

theorem Core.setRegs_held (k : Core) (reg : Nat) (l : List Word) : (k.setRegs reg l).held = k.held := by
  induction l generalizing k reg with
  | nil => rfl
  | cons w r ih => rw [setRegs, ih, setS_held]

/-! ### Tile queues -/

theorem Core.load_clean (h : k.storeErr = []) (a n : Nat) :
    k.load a n = (k.bumpCount 0x50 (softWords k.storeErr a n), .ok (Sparse.dense k.store a n)) :=
  Core.load_of_clean (h ▸ badWord_nil a n)

/-- An entry of a core store that holds no error is read whole, and the read changes counts alone. -/
theorem Core.readEntry_clean (h : k.storeErr = []) (a : Nat) :
    ∃ counts l, k.readEntry a = ({ k with counts := counts }, .ok l) := by
  unfold readEntry
  rw [load_clean h]
  dsimp only
  split
  · exact ⟨_, _, rfl⟩
  · rw [load_clean (k := k.bumpCount _ _) h]
    exact ⟨_, _, rfl⟩

section
variable {d : Long} {busy : Nat} {q t : BitVec 3}

theorem runTpop_empty (h : (k.inq q.toNat).n = 0) : runTpop d busy q t k = .wait := if_pos (.inl h)

/-- The core `k` after it popped the frame `l` into tile register `t`, `k1` being the core after the entry was read. -/
def Core.popped (k k1 : Core) (d : Long) (busy : Nat) (q t : BitVec 3) (l : List Byte) : Core :=
  let x := k.inq q.toNat
  let b := frameBeat l
  let x' := { x with rd := nextEntry d x.rd, n := x.n - 1, lastPop := some b.last, atEnd := x.atEnd + 1 }
  ({ k1 with inQ := k1.inQ.put q.toNat x' }.bumpCount 0x48 busy).setTile t.toNat ⟨Sparse.ofList 0 b.img, b.tag, b.fmt, b.null⟩

theorem runTpop_beat {k1 : Core} {l : List Byte} (hn : 0 < (k.inq q.toNat).n) (hd : descValid d = true)
    (hbusy : k.tileBusy t.toNat = false) (hl : k.readEntry (entryAt d (k.inq q.toNat).rd) = (k1, .ok l)) :
    runTpop d busy q t k = .done (k.popped k1 d busy q t l) := by
  have hwait : ¬ ((k.inq q.toNat).n = 0 ∨ (!descValid d) = true) := by simp [hd]; omega
  simp only [runTpop, if_neg hwait, hbusy, hl]
  rfl

/-- With no error in core store, a pop takes its beat and lets nothing wait at issue. -/
theorem Core.popped_clean (herr : k.storeErr = []) (d : Long) (busy : Nat) (q t : BitVec 3) :
    ∃ k1 l, k.readEntry (entryAt d (k.inq q.toNat).rd) = (k1, .ok l) ∧ (k.popped k1 d busy q t l).held = k.held ∧
      ((k.popped k1 d busy q t l).inq q.toNat).n = (k.inq q.toNat).n - 1 := by
  obtain ⟨counts, l, hl⟩ := readEntry_clean herr (entryAt d (k.inq q.toNat).rd)
  exact ⟨_, l, hl, by simp [popped], by simp [popped, inq]⟩

/-- R123: a retained tile that leaves by a queue touches the ring alone. -/
theorem Core.pushRetained_eq_with_ring (k : Core) (c : Nat) (tag : Long) (q n : Nat) :
    ∃ ring, k.pushRetained c tag q n = { k with ring := ring } := by
  unfold pushRetained
  dsimp only
  split
  · split
    · exact ⟨_, rfl⟩
    · exact ⟨k.ring, rfl⟩
  · exact ⟨k.ring, rfl⟩

theorem runTpush_full (h : outEntries d ≤ (k.outq q.toNat).n) : runTpush c d q t k = .wait := if_pos h

/-- The core after a push of tile register `t`, the retain ring then being `ring`. -/
def Core.pushed (k : Core) (d : Long) (q t : BitVec 3) (ring : SMap RetSlot) : Core :=
  let x := k.outq q.toNat
  { ({ k with
      store := Sparse.blit k.store (entryAt d ((x.rd + x.n) % outEntries d)) (frameBytes 0 0 (k.tile t.toNat).beat)
      storeErr := [] }).bumpCount 0x50 0 with
    outQ := k.outQ.put q.toNat { x with n := x.n + 1, pushN := x.pushN + 1 }
    ring := ring }

/-- A push into a free entry of a core store without errors. -/
theorem runTpush_writes (hn : (k.outq q.toNat).n < outEntries d) (herr : k.storeErr = []) :
    ∃ ring, runTpush c d q t k = .done (k.pushed d q t ring) := by
  simp only [runTpush, if_neg (not_le.mpr hn), Core.storeBytes_clean herr]
  split
  · exact ⟨k.ring, rfl⟩
  · obtain ⟨ring, hring⟩ := Core.pushRetained_eq_with_ring _ c (k.tile t.toNat).tag q.toNat ((k.outq q.toNat).pushN + 1)
    exact ⟨ring, congrArg Ran.done hring⟩

end

/-! ### Word channels -/

section
variable {d : Long} {adv : Bool} {q : BitVec 3} {reg : BitVec 4} {n : BitVec 2}

theorem runWsend_range (h : 15 < reg.toNat + n.toNat) :
    runWsend d q reg n k = (0, .fault k 0x01 (Sparse.rd k.pmem k.pc).toNat) := if_pos h

/-- The core after a send that leaves the tuples `old` ahead of its own. -/
def Core.sending (k : Core) (q : BitVec 3) (reg : BitVec 4) (n : BitVec 2) (old : List (List Word)) : Core :=
  { k with outW := k.outW.put q.toNat { k.outw q.toNat with buf := old ++ [k.tupleRegs reg.toNat n.toNat] } }

theorem runWsend_room (hreg : reg.toNat + n.toNat ≤ 15) (h : (k.outw q.toNat).buf.length < outEntries d) :
    runWsend d q reg n k = (0, .done (k.sending q reg n (k.outw q.toNat).buf)) := by
  simp only [runWsend, if_neg (not_lt.mpr hreg), if_pos h]; rfl

theorem runWsend_full (hreg : reg.toNat + n.toNat ≤ 15) (h : outEntries d ≤ (k.outw q.toNat).buf.length)
    (hadv : descAdvisory d = false) : runWsend d q reg n k = (0, .wait) := by
  simp only [runWsend, if_neg (not_lt.mpr hreg), if_neg (not_lt.mpr h), hadv]; rfl

/-- R288: on a full advisory channel the oldest tuple is lost. -/
theorem runWsend_advisory (hreg : reg.toNat + n.toNat ≤ 15) (h : outEntries d ≤ (k.outw q.toNat).buf.length)
    (hadv : descAdvisory d = true) (hd : 0 < outEntries d) :
    runWsend d q reg n k = (1, .done (k.sending q reg n ((k.outw q.toNat).buf.drop 1))) := by
  simp only [runWsend, if_neg (not_lt.mpr hreg), if_neg (not_lt.mpr h), hadv, decide_eq_true hd]; rfl

theorem runWrecv_empty (hreg : reg.toNat + n.toNat ≤ 15) (h : (k.inw q.toNat).buf = []) :
    runWrecv adv q reg n k = .wait := by
  simp only [runWrecv, if_neg (not_lt.mpr hreg), h]

/-- The core after its channel gave up its oldest tuple, `rest` being what it still holds (R287, R288). -/
def Core.tupleTaken (k : Core) (adv : Bool) (q : BitVec 3) (rest : List (List Word)) : Core :=
  let x := k.inw q.toNat
  { k with inW := k.inW.put q.toNat { x with buf := rest, pend := if adv then x.pend else x.pend + 1 } }

theorem runWrecv_takes {w : List Word} {rest : List (List Word)} (hreg : reg.toNat + n.toNat ≤ 15)
    (h : (k.inw q.toNat).buf = w :: rest) (hlen : w.length = n.toNat + 1) :
    runWrecv adv q reg n k = .done ((k.tupleTaken adv q rest).setRegs reg.toNat w) := by
  simp only [runWrecv, if_neg (not_lt.mpr hreg), h, if_pos hlen]; rfl

theorem runWrecv_length {w : List Word} {rest : List (List Word)} (hreg : reg.toNat + n.toNat ≤ 15)
    (h : (k.inw q.toNat).buf = w :: rest) (hlen : w.length ≠ n.toNat + 1) :
    runWrecv adv q reg n k = .fault (k.tupleTaken adv q rest) 0x0A w.length := by
  simp only [runWrecv, if_neg (not_lt.mpr hreg), h, if_neg hlen]; rfl

end

/-- The fields of `TSTAT`'s word stand side by side. -/
theorem tstat_fields (f g : Nat) (b : Bool) : f + b2n b <<< 4 + g <<< 5 = f + (if b then 16 else 0) + 32 * g := by
  rw [Nat.shiftLeft_eq g, Nat.mul_comm g]
  cases b <;> rfl

/-! ### Packets of a tile queue (R284, R285) -/

/-- `LAST` of the beat that is held `j` entries after the oldest, which stands at `rd`. -/
def Core.lastHeld (k : Core) (d : Long) (rd j : Nat) : Bool :=
  headLast (frameHead (Sparse.dense k.store (entryAt d ((rd + j) % inDepth d)) 16))

theorem nextEntry_mod (d : Long) (j : Nat) : nextEntry d (j % inDepth d) = (j + 1) % inDepth d := by
  rw [nextEntry, Nat.mod_add_mod]

theorem Core.packetHead_succ (k : Core) (d : Long) (rd n i m : Nat) :
    k.packetHead d (n + 1) ((rd + i) % inDepth d) m =
      if k.lastHeld d rd i then (m + 1, true) else k.packetHead d n ((rd + (i + 1)) % inDepth d) (m + 1) := by
  rw [packetHead, nextEntry_mod]; rfl

/-- The search stops at the first beat that carries `LAST`. -/
theorem Core.packetHead_found {d : Long} {rd n i m p : Nat} (hp : p < n) (hlast : k.lastHeld d rd (i + p) = true)
    (hnone : ∀ j, j < p → k.lastHeld d rd (i + j) = false) :
    k.packetHead d n ((rd + i) % inDepth d) m = (m + p + 1, true) := by
  induction n generalizing i m p with
  | zero => omega
  | succ n ih =>
    rw [packetHead_succ]
    cases p with
    | zero => rw [if_pos (by simpa using hlast)]
    | succ p =>
      have h0 : k.lastHeld d rd i = false := hnone 0 (by omega)
      have hnext : k.lastHeld d rd (i + 1 + p) = true := by rw [show i + 1 + p = i + (p + 1) by omega]; exact hlast
      rw [if_neg (Bool.eq_false_iff.mp h0), ih (Nat.lt_of_succ_lt_succ hp) hnext
        (fun j hj => by rw [show i + 1 + j = i + (j + 1) by omega]; exact hnone (j + 1) (by omega))]
      congr 1; omega

theorem Core.packetHead_none {d : Long} {rd n i m : Nat} (hnone : ∀ j, j < n → k.lastHeld d rd (i + j) = false) :
    k.packetHead d n ((rd + i) % inDepth d) m = (m + n, false) := by
  induction n generalizing i m with
  | zero => rfl
  | succ n ih =>
    have h0 : k.lastHeld d rd i = false := hnone 0 (by omega)
    rw [packetHead_succ, if_neg (Bool.eq_false_iff.mp h0),
      ih (fun j hj => by rw [show i + 1 + j = i + (j + 1) by omega]; exact hnone (j + 1) (by omega))]
    congr 1; omega

/-- `DROPR` on a tile queue whose last beat popped was not its packet's last, `p` being what the search answers. -/
theorem Core.dropTiles_open {d : Long} {q : Nat} {p : Nat × Bool} (hopen : (k.inq q).lastPop = some false)
    (hp : k.packetHead d (k.inq q).n (k.inq q).rd 0 = p) :
    ∃ cnt, k.dropTiles d q =
      let x := k.inq q
      ({ k with
          inQ := k.inQ.put q { x with
            rd := (x.rd + p.1) % inDepth d, n := x.n - p.1, atEnd := x.atEnd + p.1, dropping := !p.2
            lastPop := if p.2 then some true else x.lastPop }
          cnt := cnt }, p.1) := by
  simp only [dropTiles, if_pos hopen, hp]
  obtain ⟨cnt, h⟩ := Core.unEvent_eq_with_cnt _ 1 q p.1
  exact ⟨cnt, congrArg (·, p.1) h⟩

theorem Core.dropTiles_closed {d : Long} {q : Nat} (h : (k.inq q).lastPop ≠ some false) : k.dropTiles d q = (k, 0) :=
  if_neg h

theorem Core.dropTiles_sameRegs (k : Core) (d : Long) (q : Nat) : k.SameRegs (k.dropTiles d q).1 := by
  by_cases h : (k.inq q).lastPop = some false
  · obtain ⟨cnt, he⟩ := Core.dropTiles_open h rfl
    rw [he]; exact ⟨rfl, rfl, rfl⟩
  · rw [dropTiles_closed h]; exact .refl k

section
variable {q : BitVec 4}

theorem runDropr_past (h : 12 ≤ q.toNat) : runDropr c q s k = (s, .fault k 0x01 (Sparse.rd k.pmem k.pc).toNat) :=
  if_pos h

theorem runDropr_tiles (h : q.toNat < 8) :
    runDropr c q s k =
      let p := k.dropTiles ((s.cluster (clusterOf c)).inTile (coreIdx c) q.toNat) q.toNat
      (s.modCluster (clusterOf c) (fun x => x.bump 0x80078 p.2), .done p.1) :=
  (if_neg (by omega)).trans (if_pos h)

theorem runDropr_inbox (h8 : 8 ≤ q.toNat) (h12 : q.toNat < 12) :
    runDropr c q s k =
      (s, .done (k.inboxRelease ((s.cluster (clusterOf c)).inboxDesc (coreIdx c) (q.toNat - 8)) (q.toNat - 8))) :=
  (if_neg (by omega)).trans (if_neg (by omega))

end

end Sys2Proof.Machine

open Sys2Proof Sys2Proof.Machine

/-- Settles O13: each instruction is followed past its checks; of a packet the search for `LAST` finds the first beat that carries it. -/
theorem queueInstructionResults : Obligations.QueueInstructionResults := by
  constructor
  · intro s c q t reg n k x y r u v dIn dOut dW pops pushes sends receives tuple sent
    have hpop : ∀ {k1 l}, pops → 0 < x.n → descValid dIn = true → k.tileBusy t.toNat = false →
        k.readEntry (entryAt dIn x.rd) = (k1, .ok l) →
        exec (.tpop c q t) s = goesOn s.draw.2 c k (k.popped k1 dIn (s.bankWait c q.toNat) q t l) := fun h hn hd hbusy hl =>
      show execTpop c q t s = _ from issueS_done h (congrArg (Prod.mk s.draw.2) (runTpop_beat hn hd hbusy hl))
    have hpush : pushes → y.n < outEntries dOut → k.storeErr = [] →
        ∃ ring, exec (.tpush c q t) s = goesOn s c k (k.pushed dOut q t ring) := fun h hn herr => by
      obtain ⟨ring, hring⟩ := runTpush_writes hn herr
      exact ⟨ring, show execTpush c q t s = _ from issue_done h hring⟩
    have hroom : sends → reg.toNat + n.toNat ≤ 15 → u.buf.length < outEntries dW →
        exec (.wsend c q reg n) s = goesOn s c k (sent u.buf) := fun h hreg hroom =>
      issueS_done h (by rw [runWsendS, runWsend_room hreg hroom]; rfl)
    have hstat : Fetched s c (encQue 5 t.toNat reg.toNat 0) queMask k → exec (.tstat c t reg) s = goesOn s c k (k.setS reg.toNat
        (BitVec.ofNat 32 (r.fmt % 16 + (if r.null then 16 else 0) + 32 * tagSource r.tag))) := fun h =>
      show execTstat c t reg s = _ from issue_done h (by rw [← tstat_fields])
    refine ⟨fun h hn => issueS_wait h (congrArg (Prod.mk _) (runTpop_empty hn)), fun _ _ => hpop,
      fun h hfull => show execTpush c q t s = _ from issue_wait h (runTpush_full hfull),
      fun h hn herr => ?_,
      fun h hreg hfull hadv => issueS_wait h (by rw [runWsendS, runWsend_full hreg hfull hadv]; rfl),
      hroom,
      fun h hreg hfull hadv hd => issueS_done h (by rw [runWsendS, runWsend_advisory hreg hfull hadv hd]; rfl),
      fun h hreg => issueS_fault h (by rw [runWsendS, runWsend_range hreg]; rfl),
      fun h hreg hv => show execWrecv c q reg n s = _ from issue_wait h (runWrecv_empty hreg hv),
      fun w rest h hreg hv => ?_,
      hstat,
      fun h hn hd hbusy herr => ?_,
      fun h hn herr => ?_,
      fun h hreg hr => .of_goesOn (hroom h hreg hr) h.held ?_,
      fun h hreg hv hlen => ?_,
      fun h => .of_goesOn (hstat h) ((k.setS_held _ _).trans h.held) (k.setS_tiles _ _)⟩
    · obtain ⟨ring, he⟩ := hpush h hn herr
      exact ⟨_, he, by simp [Core.pushed, Core.outq, y], fun j => rd_blit_inside _, fun z => rd_blit_outside _, rfl, rfl, rfl⟩
    · show execWrecv c q reg n s = _
      by_cases hlen : w.length = n.toNat + 1
      · rw [if_pos hlen]
        exact issue_done h (runWrecv_takes hreg hv hlen)
      · rw [if_neg hlen]
        exact issue_fault h (runWrecv_length hreg hv hlen)
    · obtain ⟨k1, l, hl, hheld, hleft⟩ := Core.popped_clean herr dIn (s.bankWait c q.toNat) q t
      exact .of_goesOn (hpop h hn hd hbusy hl) (hheld.trans h.held) hleft
    · obtain ⟨ring, he⟩ := hpush h hn herr
      exact .of_goesOn he h.held (by simp [Core.pushed, Core.outq, y])
    · simp [sent, Core.outw]
    · obtain ⟨w, rest, hv⟩ := List.exists_cons_of_ne_nil hv
      rw [hv] at hlen
      refine .of_goesOn (show execWrecv c q reg n s = _ from issue_done h (runWrecv_takes hreg hv hlen)) ((Core.setRegs_held _ _ _).trans h.held) ?_
      simp [Core.inw, Core.setRegs_inW, Core.tupleTaken, hv]
  · intro s c q k x d last discards h
    have htiles : q.toNat < 8 → exec (.dropr c q) s = goesOn (s.modCluster (clusterOf c) (fun y => y.bump 0x80078 (k.dropTiles d q.toNat).2))
        c k (k.dropTiles d q.toNat).1 := fun hq => issueS_done h (runDropr_tiles hq)
    have hdrops : ∀ p, q.toNat < 8 → x.lastPop = some false → k.packetHead d x.n x.rd 0 = p →
        discards p.1 (fun k' => (k'.inq q.toNat).dropping = !p.2 ∧
          (k'.inq q.toNat).lastPop = if p.2 then some true else x.lastPop) := fun p hq hopen hp => by
      obtain ⟨cnt, he⟩ := Core.dropTiles_open hopen hp
      refine ⟨_, (htiles hq).trans (by rw [he]), ?_⟩
      simp [Core.inq, x]
    refine ⟨fun m hq hopen hrd hm hlast hnone => ?_, fun hq hopen hrd hnone => ?_, fun hq hclosed => ?_, fun h8 h12 => ?_,
      fun h12 => issueS_fault h (runDropr_past h12), fun h12 herr => ?_⟩
    · have hp : k.packetHead d x.n x.rd 0 = (m + 1, true) := by
        have := Core.packetHead_found (k := k) (d := d) (rd := x.rd) (i := 0) (m := 0) hm (by rwa [Nat.zero_add])
          (fun j hj => by rw [Nat.zero_add]; exact hnone j hj)
        rwa [Nat.add_zero, Nat.mod_eq_of_lt hrd, Nat.zero_add] at this
      simpa using hdrops _ hq hopen hp
    · have hp : k.packetHead d x.n x.rd 0 = (x.n, false) := by
        have := Core.packetHead_none (k := k) (d := d) (rd := x.rd) (i := 0) (m := 0) (n := x.n)
          (fun j hj => by rw [Nat.zero_add]; exact hnone j hj)
        rwa [Nat.add_zero, Nat.mod_eq_of_lt hrd, Nat.zero_add] at this
      obtain ⟨k', he, ⟨hd, -⟩, hrest⟩ := hdrops _ hq hopen hp
      exact ⟨k', he, hd, hrest⟩
    · rw [htiles hq, Core.dropTiles_closed hclosed]
    · exact issueS_done h (runDropr_inbox h8 h12)
    · by_cases hq : q.toNat < 8
      · obtain ⟨hregs, htile, hheld⟩ := k.dropTiles_sameRegs d q.toNat
        exact .of_goesOn (htiles hq) (hheld.trans h.held) ⟨hregs, htile⟩
      · obtain ⟨hregs, htile, hheld⟩ := k.inboxRelease_sameRegs ((s.cluster (clusterOf c)).inboxDesc (coreIdx c) (q.toNat - 8)) (q.toNat - 8)
        exact .of_goesOn (issueS_done h (runDropr_inbox (by omega) h12)) (hheld.trans h.held) ⟨hregs, htile⟩

end

section
/-! SUPPORT. The message instructions (R202 to R206, R399), past the checks that refuse them. -/

namespace Sys2Proof.Machine

variable {s : State} {c : Nat} {k : Core} {ra rb rc cn : BitVec 4} {cnt all : Bool}

theorem runGet_starts (heven : ra.toNat % 2 = 0)
    (hgood : msgBad (k.pair ra.toNat).toNat (k.s rb.toNat).toNat (k.s rc.toNat).toNat = none)
    (hidle : k.outstanding < 16) (hacq : k.acq = none)
    (hwrites : (cutParts 34 (k.pair ra.toNat).toNat (k.s rc.toNat).toNat).any (fun r => s.writeWaits c r.1 r.2) = false) :
    runGet c ra rb rc cn cnt s k =
      let p := readParts c k (cutParts 34 (k.pair ra.toNat).toNat (k.s rc.toNat).toNat) [] s
      (p.1, .done (k.startOp ⟨.get, (k.pair ra.toNat).toNat, (k.s rb.toNat).toNat, (k.s rc.toNat).toNat, rc.toNat, cn.toNat,
        cnt, p.2, false⟩)) := by
  have hwait : ¬ (16 ≤ k.outstanding ∨ k.acq.isSome = true) := by simp [hacq, hidle]
  simp [runGet, evenReg, heven, hgood, hwait, hwrites]

theorem runPut_starts {k' : Core} {d : List Byte} (heven : ra.toNat % 2 = 0)
    (hgood : msgBad (k.pair ra.toNat).toNat (k.s rb.toNat).toNat (k.s rc.toNat).toNat = none)
    (hidle : k.outstanding < 16) (hload : k.load (k.s rb.toNat).toNat (k.s rc.toNat).toNat = (k', .ok d)) :
    runPut c ra rb rc cn cnt s k =
      let p := writeParts c k' d (k.pair ra.toNat).toNat (cutParts 34 (k.pair ra.toNat).toNat (k.s rc.toNat).toNat) [] s
      (p.1, .done (k'.addOp ⟨.put, (k.pair ra.toNat).toNat, (k.s rb.toNat).toNat, (k.s rc.toNat).toNat, rc.toNat, cn.toNat,
        cnt, p.2, false⟩)) := by
  simp [runPut, evenReg, heven, hgood, not_le.mpr hidle, hload]

/-- A load of a line that no write of the core still awaits: served by the cluster's cache, or awaited. -/
theorem runLdg_starts (heven : ra.toNat % 2 = 0) (hga : (k.pair ra.toNat).toNat % 4 = 0) (hacq : k.acq = none)
    (hwrites : s.writeWaits c (k.pair ra.toNat).toNat 4 = false) :
    runLdg c ra rc s k =
      let p := readPart c [] (k.pair ra.toNat).toNat 4 s k
      let o : MsgOp := ⟨.ldg, (k.pair ra.toNat).toNat, 0, 4, rc.toNat, 0, false, [p.2], false⟩
      (p.1, .done (if p.2.done then k.complete o else { k.addOp o with waitOp := some k.ops.fresh })) := by
  rw [runLdg, if_neg (by simp [evenReg, heven]), if_neg (not_not.mpr hga), if_neg (by simp [hacq]), if_neg (by simp [hwrites])]
  dsimp only
  split <;> rfl

theorem runLdg_blocked (heven : ra.toNat % 2 = 0) (hga : (k.pair ra.toNat).toNat % 4 = 0) (hacq : k.acq = none)
    (hwrites : s.writeWaits c (k.pair ra.toNat).toNat 4 = true) : runLdg c ra rc s k = (s, .block) := by
  simp [runLdg, evenReg, heven, hga, hacq, hwrites]

theorem runStg_starts (heven : ra.toNat % 2 = 0) (hga : (k.pair ra.toNat).toNat % 4 = 0) (hidle : k.outstanding < 16) :
    runStg c ra rb cn cnt s k =
      let p := writeParts c k (leBytes 4 (k.s rb.toNat).toNat) (k.pair ra.toNat).toNat [((k.pair ra.toNat).toNat, 4)] [] s
      (p.1, .done (k.addOp ⟨.stg, (k.pair ra.toNat).toNat, 0, 4, 0, cn.toNat, cnt, p.2, false⟩)) := by
  simp [runStg, evenReg, heven, hga, not_le.mpr hidle]

/-- The request that an atomic sends. -/
def State.amoRequest (s : State) (c : Nat) (k : Core) (ra rb rc : BitVec 4) (op : BitVec 3) : Packet :=
  { s.request c 2 0 (k.txnFree (s.netTxns c)) 4 (k.pair ra.toNat).toNat with
    amoOp := op.toNat, auxA := (k.s rb.toNat).toNat, auxB := (k.s rc.toNat).toNat }

theorem runAmo_starts {op : BitVec 3} (heven : ra.toNat % 2 = 0) (hga : (k.pair ra.toNat).toNat % 4 = 0)
    (hacq : k.acq = none) :
    runAmo c ra rb rc op s k =
      (s.addPacket (s.amoRequest c k ra rb rc op), .done
        { k.addOp ⟨.amo, (k.pair ra.toNat).toNat, 0, 4, rc.toNat, 0, false,
            [⟨k.txnFree (s.netTxns c), (k.pair ra.toNat).toNat, 4, false, []⟩], false⟩ with waitOp := some k.ops.fresh }) := by
  rw [runAmo, if_neg (by simp [evenReg, heven]), if_neg (not_not.mpr hga), if_neg (by simp [hacq])]
  rfl

theorem runAcq_starts (hpair : all = true ∨ ra.toNat % 2 = 0) (hacq : k.acq = none) :
    runAcq c ra rb all s k =
      let q : Acq := ⟨all, (k.pair ra.toNat).toNat, (k.s rb.toNat).toNat⟩
      (s.modCluster (clusterOf c) (fun x => (x.invalidate (s.acqCovers q)).suppress (s.acqCovers q)),
        .done { k with acq := some q }) := by
  have hodd : ¬ ((!all && !evenReg ra.toNat) = true) := by obtain h | h := hpair <;> simp [h, evenReg]
  simp only [runAcq, if_neg hodd, hacq]; rfl

theorem cfgrdOk_iff {off : Nat} : cfgrdOk off = true ↔ off % 4 = 0 ∧ (off ≤ 0x2FF ∨ (0x400 ≤ off ∧ off ≤ 0x4FF)) := by
  simp [cfgrdOk]

end Sys2Proof.Machine

open Sys2Proof Sys2Proof.Machine

/-- Settles O14: past its checks each instruction starts the one operation that the table gives it. -/
theorem messageInstructionResults : Obligations.MessageInstructionResults := by
  intro s c ra rb rc cn cnt all op off k ga so len idle next
  refine ⟨fun h heven hgood hidle hacq hw => issueS_done h (runGet_starts heven hgood hidle hacq hw),
    fun k' d h heven hgood hidle hload => issueS_done h (runPut_starts heven hgood hidle hload),
    fun h heven hga hacq hw => issueS_done h (runLdg_starts heven hga hacq hw),
    fun h heven hga hacq hw => show execLdg c ra rc s = _ from
      (issueS_fetched h _).trans (by rw [runLdg_blocked heven hga hacq hw]),
    fun h heven hga hidle => issueS_done h (runStg_starts heven hga hidle),
    fun h heven hga hacq => ⟨s.amoRequest c k ra rb rc op, _,
      show execAmo c ra rb rc op s = _ from issueS_done h (runAmo_starts heven hga hacq), rfl, rfl, rfl, rfl, rfl⟩,
    fun h hpair hacq => issueS_done h (runAcq_starts hpair hacq),
    fun h => ?_, fun h => ?_, fun hc hacq => ?_⟩
  · split
    · next hopen => exact show execFence c s = _ from issue_wait h (if_pos hopen)
    · next hopen => exact show execFence c s = _ from issue_done h (if_neg hopen)
  · split
    · next hok =>
      have hread := cfgrdOk_iff.mpr hok
      dsimp only
      split
      · next hte => exact show execCfgrd c rc off s = _ from issueS_done h (by rw [if_pos hread]; exact if_pos hte)
      · next hte => exact show execCfgrd c rc off s = _ from issueS_done h (by rw [if_pos hread]; exact if_neg hte)
    · next hok =>
      exact show execCfgrd c rc off s = _ from issueS_fault h (if_neg (fun hr => hok (cfgrdOk_iff.mp hr)))
  · show execAcquireComplete c s = _
    unfold execAcquireComplete
    simp [onCore, hc, when', hacq]

end

section
/-! SUPPORT. Reads of the dictionary after writes of other objects, and commands on units that exist. -/

namespace Sys2Proof.Machine

variable {s t : State} {P : State → Prop} {g : State → State}

/-! ### Keys and numbers of the dictionary -/

/-- Two objects with numbers of 16 bits are one object when their numbers, scopes and instances agree. -/
theorem okey_eq_okey {a b n a' b' n' : Nat} (hn : n < 65536) (hn' : n' < 65536) :
    okey a b n = okey a' b' n' ↔ n = n' ∧ a * 65536 + b = a' * 65536 + b' := by
  unfold okey; omega

theorem State.num_setNum (s : State) (key v key' : Nat) :
    (s.setNum key v).num key' = if key' = key then v else s.num key' := by
  split
  · next h => rw [h, num_setNum_same]
  · next h => rw [num_setNum_ne _ _ h]

theorem State.num_addNum (s : State) (key n key' : Nat) :
    (s.addNum key n).num key' = if key' = key then (s.num key + n) % 2 ^ 64 else s.num key' :=
  s.num_setNum key _ key'

theorem State.blob_setBlob (s : State) (key : Nat) (v : List Byte) (key' : Nat) :
    (s.setBlob key v).blob key' = if key' = key then v else s.blob key' := by
  split
  · next h => rw [h, blob_setBlob_same]
  · next h => rw [blob_setBlob_ne _ _ h]

/-! ### Commands on units that exist -/

theorem when'_true {b : Bool} (h : b = true) : when' b s t = t := if_pos h

theorem when'_false {b : Bool} (h : b = false) : when' b s t = s := if_neg (by simp [h])

theorem onCore_eq {c : Nat} (h : c < 258048) : onCore c s g = .next (g s) := if_pos h

theorem onCluster_eq {k : Nat} (h : k < 8064) : onCluster k s g = .next (g s) := if_pos h

theorem onField_eq {f : Nat} (h : f < 84) : onField f s g = .next (g s) := if_pos h

theorem onRegion_eq {r : Nat} (h : r < 12) : onRegion r s g = .next (g s) := if_pos h

theorem onChan_eq {f ch : Nat} (hf : f < 84) (hch : ch < 24) : onChan f ch s g = .next (g s) := if_pos ⟨hf, hch⟩

theorem onPort_eq {n : Nat} (h : n < 24) : onPort n s g = .next (g s) := if_pos h

theorem onPart_eq {p : Nat} (h : p < 12) : onPart p s g = .next (g s) := if_pos h

theorem onNode_eq {k : Nat} (h : k < 8088) : onNode k s g = .next (g s) := if_pos h

end Sys2Proof.Machine

end

section
/-! SUPPORT. The end of a start (R630, R631, R667). -/

namespace Sys2Proof.Machine

variable {s : State}

theorem o1RegionState_inj {r q : Nat} : o1RegionState r = o1RegionState q ↔ r = q := by
  rw [o1RegionState, o1RegionState, okey_eq_okey (by decide) (by decide)]; omega

/-- A region that still starts is in service. -/
def State.startRegion (s : State) (r : Nat) : State :=
  if s.num (o1RegionState r) = 0 then s.setNum (o1RegionState r) 1 else s

/-- The regions of `l` that still start are in service. -/
def State.startRegions (s : State) (l : List Nat) : State := l.foldl State.startRegion s

theorem State.startRegions_cons (s : State) (r : Nat) (l : List Nat) :
    s.startRegions (r :: l) = (s.startRegion r).startRegions l := rfl

theorem State.num_startRegion (s : State) (r key : Nat) :
    (s.startRegion r).num key = if key = o1RegionState r ∧ s.num key = 0 then 1 else s.num key := by
  unfold startRegion
  split
  · next h =>
    rw [num_setNum]
    by_cases hk : key = o1RegionState r
    · subst hk; rw [if_pos rfl, if_pos ⟨rfl, h⟩]
    · rw [if_neg hk, if_neg (fun e => hk e.1)]
  · next h => rw [if_neg (by rintro ⟨rfl, h0⟩; exact h h0)]

theorem State.num_startRegions (s : State) (l : List Nat) (key : Nat) :
    (s.startRegions l).num key = if (∃ r ∈ l, key = o1RegionState r) ∧ s.num key = 0 then 1 else s.num key := by
  induction l generalizing s with
  | nil => rw [if_neg (by simp)]; rfl
  | cons r l ih =>
    rw [startRegions_cons, ih, num_startRegion]
    by_cases hr : key = o1RegionState r
    · by_cases h0 : s.num key = 0 <;> simp [← hr, h0]
    · simp [hr]

/-- The regions that come up change numbers of the dictionary alone. -/
theorem State.startRegions_eq_with_dict (s : State) (l : List Nat) : ∃ d, s.startRegions l = { s with dict := d } := by
  induction l generalizing s with
  | nil => exact ⟨s.dict, rfl⟩
  | cons r l ih =>
    rw [startRegions_cons, startRegion]
    split
    · exact ih _
    · exact ih s

theorem State.serviceState_eq (s : State) :
    s.serviceState =
      let up := (List.range 12).countP (fun r => decide (s.num (o1RegionState r) = 1))
      if up = 12 then 1 else if up = 11 then 2 else 3 := by
  rw [serviceState, ← List.countP_eq_length_filter]
  split <;> simp_all

/-- What a start that completes does once its regions have come up. -/
def State.completeWith (s1 : State) (ms : Nat) : State :=
  let s2 := ((s1.setNum o0StartPhase 9).setNum o0StartMs ms).setNum o0ModuleState s1.serviceState
  { s2 with msc := { s2.msc with
    starting := none, bcast := none, startedAt := s2.wt, trained := s2.msc.trained || s2.msc.starting = some true
    asked := s2.msc.asked.filter (· ≠ 100) } }

theorem State.complete_eq (s : State) (ms : Nat) : s.complete ms = (s.startRegions (List.range 12)).completeWith ms :=
  congrArg (fun s1 => s1.completeWith ms) (rfl : (List.range 12).foldl (fun s r =>
    if s.num (o1RegionState r) = 0 then s.setNum (o1RegionState r) 1 else s) s = s.startRegions (List.range 12))

theorem State.num_completeWith (s1 : State) (ms key : Nat) :
    (s1.completeWith ms).num key =
      if key = o0ModuleState then s1.serviceState else if key = o0StartMs then ms
      else if key = o0StartPhase then 9 else s1.num key := by
  rw [← num_setNum, ← num_setNum, ← num_setNum]
  rfl

theorem State.completeWith_keeps (s1 : State) (ms : Nat) :
    (s1.completeWith ms).cores = s1.cores ∧ (s1.completeWith ms).dram = s1.dram ∧ (s1.completeWith ms).fields = s1.fields ∧
      (s1.completeWith ms).msc.startedAt = s1.wt ∧ (s1.completeWith ms).msc.starting = none := ⟨rfl, rfl, rfl, rfl, rfl⟩

theorem State.num_complete_region (s : State) (ms r : Nat) :
    (s.complete ms).num (o1RegionState r) = (s.startRegions (List.range 12)).num (o1RegionState r) := by
  rw [complete_eq, num_completeWith, if_neg, if_neg, if_neg] <;>
    simp [o1RegionState, o0StartMs, o0ModuleState, o0StartPhase, okey_eq_okey]

end Sys2Proof.Machine

open Sys2Proof Sys2Proof.Machine

/-- Settles O19: the regions come up one after the other, and `MODULE_STATE` counts those in service. -/
theorem startCompletes : Obligations.StartCompletes := by
  intro s ms hdue
  have hexec : exec (.startComplete ms) s = .next (s.complete ms.toNat) :=
    congrArg Host.Outcome.next (when'_true hdue)
  obtain ⟨d, hd⟩ := s.startRegions_eq_with_dict (List.range 12)
  obtain ⟨hcores, hdram, hfields, hwt, hstarting⟩ := (s.startRegions (List.range 12)).completeWith_keeps ms.toNat
  refine ⟨_, hexec, ?_⟩
  simp only [State.num_complete_region]
  rw [State.complete_eq, hcores, hdram, hfields, hwt, State.num_completeWith, State.num_completeWith, State.num_completeWith]
  refine ⟨?_, ?_, hstarting, by rw [hd], fun r hr hzero => ?_, ?_, by rw [hd], by rw [hd], by rw [hd]⟩
  · rw [if_neg, if_neg, if_pos rfl] <;> simp [o0StartMs, o0ModuleState, o0StartPhase, okey_eq_okey]
  · rw [if_neg, if_pos rfl]; simp [o0StartMs, o0ModuleState, okey_eq_okey]
  · rw [State.num_startRegions, if_pos ⟨⟨r, List.mem_range.mpr hr, rfl⟩, hzero⟩]
  · rw [if_pos rfl, State.serviceState_eq]

end

section
/-! SUPPORT. Core faults (R209, R210), and the ends of firings (R175, R177). -/

namespace Sys2Proof.Machine

variable {s : State} {c : Nat} {k : Core}

/-! ### Counts -/

theorem Core.rd_counts_bumpCount (k : Core) (off n off' : Nat) :
    Sparse.rd (k.bumpCount off n).counts off' =
      if off' = off then Sparse.rd k.counts off + BitVec.ofNat 64 n else Sparse.rd k.counts off' :=
  Sparse.rd_wr _ _ _ _

/-! ### The fault log -/

theorem FaultLog.take_higher {l n : FaultLog} (h : l.valid = false ∨ l.cls < n.cls) : (l.take n).1 = n := by
  unfold take
  split
  · rfl
  · next hv => rw [if_pos (h.resolve_left (by simpa using hv))]

theorem FaultLog.take_lower {l n : FaultLog} (hv : l.valid = true) (hc : n.cls ≤ l.cls) : l.take n = (l, true) := by
  rw [take, if_neg (by simp [hv]), if_neg (not_lt.mpr hc)]

/-- The core that raises a fault, before what is suppressed is counted. -/
def Core.raising (k : Core) (cause detail : Nat) : Core :=
  let st := (k.station k.curStation 2).toNat
  ({ k with
    logPosted := k.logPosted && k.log.valid && causeClass cause ≤ k.log.cls
    restarted := false
    log := (k.log.take ⟨true, causeClass cause, cause, k.curStation, k.pc, st, detail⟩).1
    faulted := true
    sent := k.sent ++ [FaultMsg.mk (.core cause) st] }.bumpCount 0x290 1).bumpCount (0x10000 + causeClass cause) 1

theorem Core.raise_eq (k : Core) (cause detail : Nat) :
    k.raise cause detail =
      if (k.log.take ⟨true, causeClass cause, cause, k.curStation, k.pc, (k.station k.curStation 2).toNat, detail⟩).2 then
        (k.raising cause detail).bumpCount 0x298 1
      else k.raising cause detail := rfl

theorem Core.rd_counts_raising (k : Core) (cause detail : Nat) {off : Nat} (h : off < 0x10000) :
    Sparse.rd (k.raising cause detail).counts off =
      if off = 0x290 then Sparse.rd k.counts 0x290 + 1 else Sparse.rd k.counts off := by
  rw [raising, rd_counts_bumpCount, if_neg (by omega), rd_counts_bumpCount]
  rfl

/-- What is suppressed changes a count alone. -/
theorem Core.raise_eq_with_counts (k : Core) (cause detail : Nat) :
    ∃ counts, k.raise cause detail = { k.raising cause detail with counts := counts } := by
  rw [raise_eq]
  split
  · exact ⟨_, rfl⟩
  · exact ⟨(k.raising cause detail).counts, rfl⟩

/-! ### Ends of firings -/

theorem execEndComplete_ends (hc : c < 258048) (hend : (s.core c).ended = true) (hf : (s.core c).firing = true)
    (hnf : (s.core c).faulted = false) (hdrained : (s.core c).drained = true) :
    execEndComplete c s = .next (s.setCore c (s.core c).endFiring) := by
  rw [execEndComplete, onCore_eq hc, when'_true (by simp [hend, hf, hnf, hdrained])]

theorem execFiringOverrun_raises {cycles : Nat} (hc : c < 258048) (hf : (s.core c).firing = true) (hnf : (s.core c).faulted = false)
    (hlim : fld ((s.core c).station (s.core c).curStation 0) 16 11 ≠ 0)
    (hover : fld ((s.core c).station (s.core c).curStation 0) 16 11 * 256 < cycles) :
    execFiringOverrun c cycles s = faults s c (s.core c) 0x06 cycles := by
  rw [execFiringOverrun, onCore_eq hc, when'_true (by simp [hf, hnf, hlim, hover]), faults]

theorem SMap.get_mapV_of_look {α β : Type} {m : SMap α} {f : α → β} {d : β} {n : Nat} {x : α} (h : m.look n = some x) :
    (m.mapV f).get d n = f x := by
  rw [SMap.get, SMap.look_mapV, h]; rfl

end Sys2Proof.Machine

open Sys2Proof Sys2Proof.Machine

/-- Settles O20: what a fault leaves, and which fault the log keeps. -/
theorem raisingAFault : Obligations.RaisingAFault := by
  intro k cause detail k' st
  obtain ⟨counts, he⟩ := k.raise_eq_with_counts cause detail
  have hfields : ∀ t : Core, t = { k.raising cause detail with counts := counts } →
      t.faulted = true ∧ t.regs = k.regs ∧ t.tiles = k.tiles ∧ t.accs = k.accs ∧ t.store = k.store ∧ t.cnt = k.cnt ∧
        t.pc = k.pc ∧ t.sent = k.sent ++ [⟨.core cause, st⟩] ∧
        t.log = (k.log.take ⟨true, causeClass cause, cause, k.curStation, k.pc, st, detail⟩).1 := by
    rintro t rfl
    exact ⟨rfl, rfl, rfl, rfl, rfl, rfl, rfl, rfl, rfl⟩
  obtain ⟨hf, hregs, htiles, haccs, hstore, hcnt, hpc, hsent, hlog⟩ := hfields _ he
  refine ⟨hf, hregs, htiles, haccs, hstore, hcnt, hpc, hsent, ?_, fun h => hlog.trans (FaultLog.take_higher h), fun hv hc => ?_⟩
  · show Sparse.rd (k.raise cause detail).counts 0x290 = _
    rw [Core.raise_eq]
    split
    · rw [Core.rd_counts_bumpCount, if_neg (by decide), Core.rd_counts_raising _ _ _ (by decide), if_pos rfl]
    · rw [Core.rd_counts_raising _ _ _ (by decide), if_pos rfl]
  · have htake := FaultLog.take_lower (n := ⟨true, causeClass cause, cause, k.curStation, k.pc, st, detail⟩) hv hc
    refine ⟨hlog.trans (by rw [htake]), ?_⟩
    show Sparse.rd (k.raise cause detail).counts 0x298 = _
    rw [Core.raise_eq, htake, if_pos rfl, Core.rd_counts_bumpCount, if_pos rfl, Core.rd_counts_raising _ _ _ (by decide),
      if_neg (by decide)]
    rfl

/-- Settles O22: the end of a firing settles each queue and each slot of the ring; a long firing raises its fault. -/
theorem firingsEndAndOverrun : Obligations.FiringsEndAndOverrun := by
  intro s c cycles k hc
  refine ⟨fun hend hfire hnf hdrained => ?_, fun hfire hnf hlim hover => execFiringOverrun_raises hc hfire hnf hlim hover⟩
  refine ⟨_, execEndComplete_ends hc hend hfire hnf hdrained, rfl, rfl, ?_, fun q x hx => ?_, fun r x hx hheld => ?_, rfl, rfl, rfl⟩
  · rw [Core.endFiring, Core.rd_counts_bumpCount, if_pos rfl]; rfl
  · have hq : k.endFiring.inq q = x.settle := SMap.get_mapV_of_look hx
    rw [hq]; exact ⟨rfl, rfl⟩
  · have hr : k.endFiring.ringAt r = x.settle := SMap.get_mapV_of_look hx
    rw [hr, RetSlot.settle, if_pos hheld]

end

section
/-! SUPPORT. Writes of a core's control registers, and the release of instructions held at issue (R164, R170, R183). -/

namespace Sys2Proof.Machine

variable {s : State} {c : Nat} {k : Core} {v : Word}

/-! ### Register writes -/

/-- `RUN` as a write of `SEQ_CTRL` leaves it. -/
theorem nbit_and_seqCtrl (v : Word) : nbit (v &&& 0x0000FF03#32).toNat 0 = nbit v.toNat 0 := by
  simp [nbit]

/-- A kindle event marks the core, and nothing else of it. -/
theorem Core.kindleEvent_eq_with (k : Core) : ∃ kindle stay, k.kindleEvent = { k with kindle := kindle, stayAwake := stay } := by
  unfold kindleEvent
  split
  · exact ⟨1, k.stayAwake, rfl⟩
  · exact ⟨k.kindle, _, rfl⟩

theorem Core.kindleEvent_kindles (hs : k.smoulder = true) (hk : k.kindle = 0) : k.kindleEvent.kindle = 1 := by
  rw [kindleEvent, if_pos (by simp [hs, hk])]

/-- The core with `SEQ_CTRL` written, before what `RUN` does. -/
def Core.seqWritten (k : Core) (v : Word) : Core :=
  { k with seqCtrl := v &&& 0x0000FF03#32, stayAwake := k.stayAwake && nbit v.toNat 1 }

theorem Core.writeSeqCtrl_runs (hrun : k.run = false) (hv : nbit v.toNat 0 = true) :
    k.writeSeqCtrl v = (k.seqWritten v).loadCounters.kindleEvent := by
  have hrun' : (k.seqWritten v).run = true := (nbit_and_seqCtrl v).trans hv
  exact if_pos (by rw [hrun]; exact hrun')

theorem Core.writeSeqCtrl_keeps (h : k.run = true ∨ nbit v.toNat 0 = false) : k.writeSeqCtrl v = k.seqWritten v := by
  refine if_neg ?_
  obtain h | h := h
  · simp [h]
  · have hrun' : (k.seqWritten v).run = false := (nbit_and_seqCtrl v).trans h
    simp only [seqWritten] at hrun'
    simp [hrun']

/-- What a write of `SEQ_CTRL` leaves as it was. -/
theorem Core.writeSeqCtrl_frame (k : Core) (v : Word) :
    (k.writeSeqCtrl v).seqCtrl = v &&& 0x0000FF03#32 ∧ (k.writeSeqCtrl v).regs = k.regs ∧ (k.writeSeqCtrl v).pc = k.pc ∧
      (k.writeSeqCtrl v).firing = k.firing := by
  by_cases h : k.run = true ∨ nbit v.toNat 0 = false
  · rw [writeSeqCtrl_keeps h]; exact ⟨rfl, rfl, rfl, rfl⟩
  · obtain ⟨hrun, hv⟩ := not_or.mp h
    rw [writeSeqCtrl_runs (by simpa using hrun) (by simpa using hv)]
    obtain ⟨kindle, stay, he⟩ := (k.seqWritten v).loadCounters.kindleEvent_eq_with
    rw [he]; exact ⟨rfl, rfl, rfl, rfl⟩

theorem execFaultLogClear_eq (hc : c < 258048) :
    execFaultLogClear c v s = .next (when' ((s.core c).logPosted && (s.core c).restarted && !(s.core c).faulted) s
      (s.setCore c ((s.core c).writeLog v))) := onCore_eq hc

/-! ### Instructions held at issue -/

/-- What the release of a core does that fires and is in no restart. -/
theorem execIssueStallRelease_eq {cycles : Nat} (hc : c < 258048) (hf : (s.core c).firing = true)
    (hnf : (s.core c).faulted = false) (hnr : (s.core c).restarting = false) (hreset : (s.core c).inReset = false) :
    execIssueStallRelease c cycles s = .next (match (s.core c).held with
      | some i =>
        match rerun c i s { s.core c with held := none } with
        | (_, .wait) => s
        | (_, .block) => s
        | (s', r) =>
          let k' := r.finish { s.core c with held := none } i
          s'.setCore c (if countsStall i then k'.bumpCount 0x48 cycles else k')
      | none =>
        match (s.core c).waitOp with
        | some n => when' (!(s.core c).ops.has n) s (s.setCore c ({ s.core c with waitOp := none }.bumpCount 0x48 cycles))
        | none => s) := by
  rw [execIssueStallRelease, onCore_eq hc]
  refine congrArg Host.Outcome.next ((if_neg (by simp [hf, hnf, hnr, hreset])).trans ?_)
  rfl

theorem runCwait_reached {cn : BitVec 4} {imm : Half} (h : imm.toNat ≤ (Sparse.rd k.cnt cn.toNat).toNat) :
    runCwait cn imm k = .done k := if_pos h

theorem runCwait_waits {cn : BitVec 4} {imm : Half} (h : (Sparse.rd k.cnt cn.toNat).toNat < imm.toNat) :
    runCwait cn imm k = .wait := if_neg (not_le.mpr h)

end Sys2Proof.Machine

open Sys2Proof Sys2Proof.Machine

/-- Settles O23: the registers by what their writes change; a held instruction by what running it again answers. -/
theorem sequencerAndHeldInstructions : Obligations.SequencerAndHeldInstructions := by
  constructor
  · intro s c v k d b hc
    refine ⟨fun hgone => ⟨k.writeSeqCtrl v, ?_, ?_⟩, fun hgone => ⟨?_, ?_⟩, fun hgone => ?_, fun hpost hrest hnf => ?_, fun h => ?_⟩
    · show execSeqCtrlWrite c v s = _
      rw [execSeqCtrlWrite, onCore_eq hc, when'_true (by simp [hgone])]
    · obtain ⟨hctrl, hframe⟩ := k.writeSeqCtrl_frame v
      refine ⟨hctrl, fun hrun hv => ?_, fun h => ?_, hframe⟩
      · rw [Core.writeSeqCtrl_runs hrun hv]
        refine ⟨?_, fun hs hk => Core.kindleEvent_kindles hs hk⟩
        obtain ⟨kindle, stay, he⟩ := (k.seqWritten v).loadCounters.kindleEvent_eq_with
        rw [he]; rfl
      · rw [Core.writeSeqCtrl_keeps h]; exact ⟨rfl, rfl⟩
    · show execSeqCtrlWrite c v s = _
      rw [execSeqCtrlWrite, onCore_eq hc, when'_false (by simp [hgone])]
    · show execRetainCtrlWrite c v s = _
      rw [execRetainCtrlWrite, onCore_eq hc, when'_false (by simp [hgone])]
    · show execRetainCtrlWrite c v s = _
      rw [execRetainCtrlWrite, onCore_eq hc, when'_true (by simp [hgone])]
      simp only [Core.writeRetainCtrl, Bool.or_eq_true, decide_eq_true_eq, or_assoc, Nat.shiftLeft_eq]
      rfl
    · exact (execFaultLogClear_eq hc).trans (by rw [when'_true (by simp [k, hpost, hrest, hnf])]; rfl)
    · exact (execFaultLogClear_eq hc).trans (by rw [when'_false h])
  · intro s c cycles cn imm k hc hf hnf hnr hreset
    have hexec := execIssueStallRelease_eq (cycles := cycles) hc hf hnf hnr hreset
    refine ⟨fun i s' k' hheld hrun => hexec.trans ?_, fun hheld hle => hexec.trans ?_, fun hheld hlt => hexec.trans ?_,
      fun n hheld hop hdone => hexec.trans ?_⟩
    · simp only [show (s.core c).held = some i from hheld, show rerun c i s { s.core c with held := none } = _ from hrun]
      rfl
    · have hrun : rerun c (.cwait c cn imm) s { s.core c with held := none } = (s, .done { s.core c with held := none }) :=
        congrArg (Prod.mk s) (runCwait_reached hle)
      simp only [show (s.core c).held = _ from hheld, hrun]
      rfl
    · have hrun : rerun c (.cwait c cn imm) s { s.core c with held := none } = (s, .wait) :=
        congrArg (Prod.mk s) (runCwait_waits hlt)
      simp only [show (s.core c).held = _ from hheld, hrun]
    · split
      · next i hi => cases hi.symm.trans hheld
      · split
        · next m hm =>
          cases hm.symm.trans hop
          rw [when'_true (by simp [show (s.core c).ops.has n = false from hdone])]
        · next hnone => cases hnone.symm.trans hop

end

section
/-! SUPPORT. Packets that are delivered, requests that are sent, and what is answered (R340, R349). -/

namespace Sys2Proof.Machine

variable {s t : State} {id cmd : Nat} {p : Packet} {P : State → Prop}

/-! ### Delivery -/

@[simp] theorem State.received_nextId (s : State) (id : Nat) (p : Packet) : (s.received id p).net.nextId = s.net.nextId := rfl
@[simp] theorem State.received_ctl (s : State) (id : Nat) (p : Packet) : (s.received id p).net.ctl = s.net.ctl := rfl
@[simp] theorem State.received_cores (s : State) (id : Nat) (p : Packet) : (s.received id p).cores = s.cores := rfl
@[simp] theorem State.received_clusters (s : State) (id : Nat) (p : Packet) : (s.received id p).clusters = s.clusters := rfl
@[simp] theorem State.received_dram (s : State) (id : Nat) (p : Packet) : (s.received id p).dram = s.dram := rfl
@[simp] theorem State.received_parts (s : State) (id : Nat) (p : Packet) : (s.received id p).parts = s.parts := rfl
@[simp] theorem State.received_dict (s : State) (id : Nat) (p : Packet) : (s.received id p).dict = s.dict := rfl
@[simp] theorem State.received_msc (s : State) (id : Nat) (p : Packet) : (s.received id p).msc = s.msc := rfl
@[simp] theorem State.received_wt (s : State) (id : Nat) (p : Packet) : (s.received id p).wt = s.wt := rfl
@[simp] theorem State.core_received (s : State) (id : Nat) (p : Packet) (c : Nat) : (s.received id p).core c = s.core c := rfl
@[simp] theorem State.cluster_received (s : State) (id : Nat) (p : Packet) (k : Nat) :
    (s.received id p).cluster k = s.cluster k := rfl

/-- A packet that has landed leaves the network for its unit. -/
theorem deliver_eq {ok : Packet → Bool} {f : State → Packet → State} (h : Deliverable s id p) (hok : ok p = true) :
    deliver id s ok f = .next (f (s.received id p) p) := by
  obtain ⟨hlook, hland⟩ := h
  simp only [deliver, hlook, hland, hok]
  rfl

/-! ### Answers -/

/-- The type of a response (R325, R327). -/
theorem State.responseTo_typ (s : State) (k : Nat) (p : Packet) (status : Nat) (d : List Byte) (auxB : Nat) :
    (s.responseTo k p status d auxB).typ = if p.typ = 6 then 4 else if p.typ = 7 then 8 else p.typ + 3 := rfl

/-- A unit that responds answers. -/
theorem Answers.of_respond {o : Out} {k typ status auxB : Nat} {d : List Byte} (h : o = .next (t.respond k p status d auxB))
    (hid : t.net.nextId = s.net.nextId) (htyp : (t.responseTo k p status d auxB).typ = typ)
    (hP : P (t.respond k p status d auxB)) : Answers o s p typ status d P :=
  ⟨_, h, hP, t.responseTo k p status d auxB, hid ▸ t.addPacket_look _, htyp, rfl, rfl, rfl, rfl⟩

/-! ### Control requests -/

/-- Whether a unit is absent does not depend on the network. -/
theorem State.ctlAbsent_received (s : State) (id : Nat) (p : Packet) : (s.received id p).ctlAbsent p = s.ctlAbsent p := rfl

theorem ctlStep_arrive {α : Type} {need : α → Bool} {send : State → α → State} {f : State → Packet → State × List Byte}
    (h : CtlArrives s id p cmd) :
    ctlStep (.arrive id) cmd s need send f =
      .next ((f (s.received id p) p).1.respond p.home p 0 (f (s.received id p) p).2 0) := by
  obtain ⟨hd, htyp, haux, habs⟩ := h
  have hgone : ¬ ((s.received id p).ctlAbsent p = true) := by rw [State.ctlAbsent_received, habs]; decide
  rw [ctlStep, ctlArrive, deliver_eq hd (by simp [htyp, haux]), if_neg hgone]

theorem ctlStep_absent {α : Type} {need : α → Bool} {send : State → α → State} {f : State → Packet → State × List Byte}
    (hd : Deliverable s id p) (htyp : p.typ = 7) (haux : p.auxA % 256 = cmd) (habs : s.ctlAbsent p = true) :
    ctlStep (.arrive id) cmd s need send f = .next (((s.received id p).absent p).respond p.home p 1 [] 0) := by
  have hgone : (s.received id p).ctlAbsent p = true := habs
  rw [ctlStep, ctlArrive, deliver_eq hd (by simp [htyp, haux]), if_pos hgone]

theorem ctlStep_send {α : Type} {a : α} {need : α → Bool} {send : State → α → State}
    {f : State → Packet → State × List Byte} (h : need a = true) :
    ctlStep (.send a) cmd s need send f = .next (send s a) := if_pos h

/-- A control request that arrives is answered with what its unit answers. -/
theorem Answers.of_arrive {α : Type} {need : α → Bool} {send : State → α → State}
    {f : State → Packet → State × List Byte} {r : State × List Byte} (h : CtlArrives s id p cmd)
    (hf : f (s.received id p) p = r) (hid : r.1.net.nextId = s.net.nextId) (hP : P (r.1.respond p.home p 0 r.2 0)) :
    Answers (ctlStep (.arrive id) cmd s need send f) s p 8 0 r.2 P := by
  refine .of_respond ((ctlStep_arrive h).trans (by rw [hf])) hid ?_ hP
  rw [State.responseTo_typ, if_neg (by simp [h.2.1]), if_pos h.2.1]

/-! ### Sending a control request -/

/-- The state in which unit `u` has sent a control request with transaction number `txn`. -/
def State.ctlSent (s : State) (u : Requester) (k : Nat) (dst : Endpoint) (cmd addr len : Nat) (d : List Byte) (txn : Nat) : State :=
  let s1 := s.addPacket { s.mkPacket (s.senderOf u).1 (s.senderOf u).2 k dst 7 3 txn len addr with auxA := cmd, payload := d }
  { s1 with net := { s1.net with ctl := s1.net.ctl ++ [⟨u, txn, addr, if cmd ≤ 2 then len else 0⟩] } }

theorem exists_find?_range {n a : Nat} {P : Nat → Bool} (ha : a < n) (hP : P a = true) :
    ∃ b, (List.range n).find? P = some b :=
  Option.isSome_iff_exists.mp (List.find?_isSome.mpr ⟨a, List.mem_range.mpr ha, hP⟩)

theorem State.sendCtl_eq {u : Requester} (h : MaySend s u) (k : Nat) (dst : Endpoint) (cmd addr len : Nat) (d : List Byte) :
    ∃ txn, s.sendCtl u k dst cmd addr len d = s.ctlSent u k dst cmd addr len d txn := by
  unfold MaySend at h
  obtain ⟨n, hn, hfree⟩ := h
  obtain ⟨txn, htxn⟩ := exists_find?_range (P := fun t => !(s.usedTxns u).contains t) hn (by simpa using hfree)
  refine ⟨txn, ?_⟩
  unfold sendCtl
  simp only [htxn]
  rfl

/-- The packet of a control request, and the request that awaits its response. -/
theorem State.ctlSent_packet (s : State) (u : Requester) (k : Nat) (dst : Endpoint) (cmd addr len : Nat) (d : List Byte) (txn : Nat) :
    ∃ q, (s.ctlSent u k dst cmd addr len d txn).net.packets.look s.net.nextId = some q ∧ q.typ = 7 ∧ q.cls = 3 ∧ q.auxA = cmd ∧
      q.addr = addr ∧ q.len = len ∧ q.src = (s.senderOf u).2 ∧ q.dst = dst ∧ q.dstX = clusterX k ∧ q.dstY = clusterY k ∧
      q.payload = d ∧ q.injected = false ∧ (s.ctlSent u k dst cmd addr len d txn).ctlOpen u q.txn = true :=
  ⟨_, s.addPacket_look _, rfl, rfl, rfl, rfl, rfl, rfl, rfl, rfl, rfl, rfl, rfl, by simp [ctlOpen, ctlSent, mkPacket]⟩

/-- A unit that sends from a state `t` in which it stands where it stood, with the transaction numbers that it had. -/
theorem Sends.of_sendCtl {o : Out} {u : Requester} {k addr len : Nat} {dst : Endpoint} {d : List Byte}
    (h : o = .next (t.sendCtl u k dst cmd addr len d)) (hmay : MaySend s u) (hused : t.usedTxns u = s.usedTxns u)
    (hid : t.net.nextId = s.net.nextId) (hsender : t.senderOf u = s.senderOf u)
    (hP : ∀ txn, P (t.ctlSent u k dst cmd addr len d txn)) : Sends o s u cmd k dst d P := by
  have hmay' : MaySend t u := by rw [MaySend, hused]; exact hmay
  obtain ⟨txn, he⟩ := State.sendCtl_eq hmay' k dst cmd addr len d
  obtain ⟨q, hlook, htyp, hcls, haux, -, -, hsrc, hdst, hx, hy, hpay, hinj, hopen⟩ := t.ctlSent_packet u k dst cmd addr len d txn
  exact ⟨_, h.trans (congrArg _ he), hP txn, q, hid ▸ hlook, htyp, hcls, haux, hsrc.trans (by rw [hsender]), hdst, hx, hy, hpay,
    hinj, hopen⟩

end Sys2Proof.Machine

end

section
/-! SUPPORT. Restarts and mordant of a core, smoulder, and the rekindle's end (R105, R126 to R132, R142 to R146, R178,
R179, R212 to R215). -/

namespace Sys2Proof.Machine

variable {s : State} {c : Nat} {k : Core}

theorem SMap.get_mapV {α β : Type} (m : SMap α) (f : α → β) (d : β) (n : Nat) : (m.mapV f).get d n = ((m.look n).map f).getD d := by
  rw [SMap.get, look_mapV]

/-! ### The commands of a boundary -/

theorem State.sendRestart_eq {q : Period} (hq : (s.part (s.coresPart c)).period = some q) (hended : q.ended ≠ .running)
    (hat : q.dropAt ≤ s.fabricIn (coreRegion c)) (htold : q.toldRestart.contains c = false) (hin : s.inPresent c = true) :
    s.sendRestart c =
      (s.modPeriod (s.coresPart c) (fun q => { q with toldRestart := q.toldRestart ++ [c] })).tellCore c 4 [] := by
  have hguard : (decide (q.ended ≠ .running) && decide (q.dropAt ≤ s.fabricIn (coreRegion c)) && !q.toldRestart.contains c &&
      s.inPresent c) = true := by rw [htold, hin]; simp [hended, hat]
  simp only [sendRestart, hq]
  exact when'_true hguard

theorem execPeriodRestart_send (hc : c < 258048) : execPeriodRestart (.send c) s = .next (s.sendRestart c) :=
  ctlStep_send (decide_eq_true hc)

theorem execMordantCommit_send (hc : c < 258048) : execMordantCommit (.send c) s = .next (s.sendMordant c true) :=
  ctlStep_send (decide_eq_true hc)

theorem execMordantDiscard_send (hc : c < 258048) : execMordantDiscard (.send c) s = .next (s.sendMordant c false) :=
  ctlStep_send (decide_eq_true hc)

theorem State.sendMordant_eq {q : Period} {b : Bool} (hq : (s.part (s.coresPart c)).period = some q) (hended : q.ended ≠ .running)
    (hrest : q.restarted.contains c = true) (htold : q.toldMordant.contains c = false) (hb : q.commits = b)
    (hin : s.inPresent c = true) :
    s.sendMordant c b =
      (s.modPeriod (s.coresPart c) (fun q => { q with toldMordant := q.toldMordant ++ [c] })).tellCore c (if b then 5 else 6) [] := by
  have hguard : (decide (q.ended ≠ .running) && q.restarted.contains c && !q.toldMordant.contains c && decide (q.commits = b) &&
      s.inPresent c) = true := by rw [hrest, htold, hin]; simp [hended, hb]
  simp only [sendMordant, hq]
  exact when'_true hguard

theorem State.part_modPeriod_period {p : Nat} {q : Period} (hq : (s.part p).period = some q) (g : Period → Period) :
    ((s.modPeriod p g).part p).period = some (g q) := by
  rw [modPeriod, part_modPart_same, hq]; rfl

theorem Period.commits_iff {q : Period} : q.commits = true ↔ q.ended = .committed ∨ ∀ x, x ∈ q.causes → x = 1 ∨ x = 2 := by
  unfold commits
  split
  · next h => simp [h]
  · next h =>
    have hne : q.ended ≠ .committed := h
    simp [hne]

/-! ### The restart of a core -/

/-- The core as a restart leaves it: in smoulder it kindles. -/
def Core.restartedCore (k : Core) : Core :=
  if k.restart.smoulder && k.restart.kindle = 0 then { k.restart with kindle := 1 } else k.restart

theorem Core.restartedCore_eq_with_kindle (k : Core) : ∃ kindle, k.restartedCore = { k.restart with kindle := kindle } := by
  unfold restartedCore
  split
  · exact ⟨1, rfl⟩
  · exact ⟨k.restart.kindle, rfl⟩

theorem State.restartCore_eq (h : (s.core c).ignoresRestart = false) :
    s.restartCore c = s.setCore c (s.core c).restartedCore :=
  when'_true (by rw [h]; rfl)

theorem State.restartCore_ignored (h : (s.core c).ignoresRestart = true) : s.restartCore c = s :=
  when'_false (by rw [h]; rfl)

theorem Core.ignoresRestart_iff :
    k.ignoresRestart = true ↔ k.inReset = true ∨ (k.faulted = true ∧ k.log.valid = true ∧ k.log.cls = 2) := by
  simp [ignoresRestart, and_assoc]

theorem Core.restart_ringAt_held (k : Core) (r : Nat) : (k.restart.ringAt r).held = 0 := by
  simp only [ringAt, restart, SMap.get_mapV]
  cases k.ring.look r <;> rfl

theorem Core.restart_outq_n (k : Core) (j : Nat) : (k.restart.outq j).n = 0 := by
  simp only [outq, restart, SMap.get_mapV]
  cases k.outQ.look j <;> rfl

/-! ### Smoulder -/

theorem State.freePermit_eq (s : State) (c : Nat) :
    s.freePermit c = if (s.region (coreRegion c)).held.contains c then
      s.modRegion (coreRegion c) (fun x => { x with held := x.held.filter (· ≠ c) }) else s := rfl

theorem State.core_freePermit (s : State) (c d : Nat) : (s.freePermit c).core d = s.core d := by
  rw [freePermit_eq]
  split
  · exact core_modRegion s rfl rfl rfl d
  · rfl

theorem State.freePermit_held (s : State) (c : Nat) : ((s.freePermit c).region (coreRegion c)).held.contains c = false := by
  rw [freePermit_eq]
  split
  · rw [region_modRegion_same]; simp
  · next h => simpa using h

theorem State.freePermit_keeps (s : State) (c : Nat) : (s.freePermit c).dram = s.dram ∧ (s.freePermit c).clusters = s.clusters := by
  rw [freePermit_eq]
  split <;> exact ⟨rfl, rfl⟩

theorem execSmoulderEntry_enters {idle : Nat} (hc : c < 258048) (hstay : (s.core c).stayAwake = false)
    (hidle : (s.core c).idleNow = true) (hle : (s.core c).idleDelay ≤ idle) :
    execSmoulderEntry c idle s =
      .next ((s.setCore c ((s.core c).toSmoulder (s.fabricIn (coreRegion c)) s.wt)).freePermit c) := by
  rw [execSmoulderEntry, onCore_eq hc]
  exact congrArg Host.Outcome.next ((if_neg (by simp [hstay])).trans (when'_true (by simp [hidle, hle])))

/-! ### Mordant -/

theorem ScaleSlot.mordant_discard (x : ScaleSlot) : x.mordant false = x.clear := rfl

theorem ScaleSlot.mordant_kindless {x : ScaleSlot} (h : x.kind = 0) : x.mordant true = x := by
  simp [mordant, h]

theorem ScaleSlot.mordant_frozen {x : ScaleSlot} (hk : x.kind ≠ 0) (h : x.frozen = true) : x.mordant true = x.clear := by
  simp [mordant, hk, h]

theorem ScaleSlot.mordant_unfrozen {x : ScaleSlot} (hk : x.kind ≠ 0) (h : x.frozen = false) :
    x.mordant true = x.headroom.rescale.clear := by
  simp [mordant, hk, h]

theorem ScaleSlot.setH_keeps (x : ScaleSlot) (h q : Nat) :
    (x.setH h q).conversions = x.conversions ∧ (x.setH h q).committed = x.committed := by
  rw [setH]; exact ⟨rfl, rfl⟩

theorem ScaleSlot.headroom_keeps (x : ScaleSlot) :
    x.headroom.conversions = x.conversions ∧ x.headroom.committed = x.committed := by
  rw [headroom]
  split
  · exact x.setH_keeps _ _
  · split
    · split <;> exact x.setH_keeps _ _
    · exact ⟨rfl, rfl⟩

theorem ScaleSlot.rescale_unused {x : ScaleSlot} (h : x.conversions = 0) : x.rescale = x :=
  if_neg (by simp [h])

/-- A commit clears the statistics of every slot that has a kind. -/
theorem ScaleSlot.mordant_clears {x : ScaleSlot} (hk : x.kind ≠ 0) :
    (x.mordant true).amax = 0 ∧ (x.mordant true).conversions = 0 ∧ (x.mordant true).satElements = 0 := by
  cases h : x.frozen with
  | true => rw [mordant_frozen hk h]; exact ⟨rfl, rfl, rfl⟩
  | false => rw [mordant_unfrozen hk h]; exact ⟨rfl, rfl, rfl⟩

/-- A slot without conversions keeps its scale at a commit. -/
theorem ScaleSlot.mordant_committed {x : ScaleSlot} (h : x.conversions = 0) : (x.mordant true).committed = x.committed := by
  by_cases hk : x.kind = 0
  · rw [mordant_kindless hk]
  · cases hf : x.frozen with
    | true => rw [mordant_frozen hk hf]; rfl
    | false =>
      obtain ⟨hconv, hcom⟩ := x.headroom_keeps
      rw [mordant_unfrozen hk hf, rescale_unused (hconv.trans h)]
      exact hcom

theorem execMordantSlotProcess_eq {b : Bool} (hc : c < 258048) (hreset : (s.core c).inReset = false)
    (hm : (s.core c).mordant = some b) (hrk : (s.core c).rk = none) (hsm : (s.core c).smoulder = false) :
    execMordantSlotProcess c s = .next (s.setCore c ((s.core c).processSlots b)) := by
  rw [execMordantSlotProcess, onCore_eq hc]
  simp only [hm]
  rw [when'_true (by simp [hreset, hrk, hsm])]

end Sys2Proof.Machine

open Sys2Proof Sys2Proof.Machine

/-- Settles O24: the commands of a boundary as control requests, and each slot under a mordant command by its case. -/
theorem restartsAndMordant : Obligations.RestartsAndMordant := by
  constructor
  · intro s c idle id unit p q k pt fc hc
    refine ⟨fun hq hended hat htold hin hmay => ?_, fun harr hdst => ⟨fun hign => ?_, fun hign => ?_⟩, Core.ignoresRestart_iff,
      fun hreset => ?_, fun hstay hidle hle => ?_, fun hstay => ?_⟩
    · show Sends (execPeriodRestart (.send c) s) s fc 4 _ _ _ _
      exact .of_sendCtl (t := s.modPeriod pt (fun q => { q with toldRestart := q.toldRestart ++ [c] }))
        ((execPeriodRestart_send hc).trans (congrArg _ (State.sendRestart_eq hq hended hat htold hin))) hmay rfl rfl rfl
        (fun txn => ⟨rfl, State.part_modPeriod_period hq _⟩)
    · subst hdst
      obtain ⟨kindle, hk⟩ := k.restartedCore_eq_with_kindle
      show Answers (execPeriodRestart (.arrive id) s) s p 8 0 [] _
      refine .of_arrive (r := (_, [])) harr (congrArg (·, []) (State.restartCore_eq (s := s.received id p) hign)) rfl ?_
      rw [State.respond, State.core_addPacket, State.core_setCore_same, State.core_received]
      rw [show (s.core p.dstCore).restartedCore = _ from hk]
      exact ⟨rfl, rfl, rfl, rfl, rfl, rfl, rfl, rfl, k.restart_ringAt_held, k.restart_outq_n, rfl, rfl, rfl⟩
    · subst hdst
      show Answers (execPeriodRestart (.arrive id) s) s p 8 0 [] _
      exact .of_arrive (r := (_, [])) harr (congrArg (·, []) (State.restartCore_ignored (s := s.received id p) hign)) rfl rfl
    · show execRegisterFileParityError c unit s = _
      rw [execRegisterFileParityError, onCore_eq hc, when'_true (by simp [show (s.core c).inReset = false from hreset]), faults]
    · refine ⟨_, execSmoulderEntry_enters hc hstay hidle hle, ?_⟩
      have hcore : ((s.setCore c (k.toSmoulder (s.fabricIn (coreRegion c)) s.wt)).freePermit c).core c =
          k.toSmoulder (s.fabricIn (coreRegion c)) s.wt := by rw [State.core_freePermit, State.core_setCore_same]
      obtain ⟨hdram, hclusters⟩ := (s.setCore c (k.toSmoulder (s.fabricIn (coreRegion c)) s.wt)).freePermit_keeps c
      dsimp only
      rw [hcore]
      exact ⟨rfl, rfl, rfl, rfl, Sparse.rd_wr_same _ _ _, State.freePermit_held _ c, hdram, hclusters⟩
    · show execSmoulderEntry c idle s = _
      rw [execSmoulderEntry, onCore_eq hc]
      exact congrArg Host.Outcome.next (if_pos hstay)
  · intro s c id b p q k pt fc cmd hc
    refine ⟨fun hq hended hrest htold hb hin hmay => ?_, Period.commits_iff, fun harr hdst => ?_, fun hreset hm hrk hsm => ?_⟩
    · have hP : ∀ (d : Nat) txn, ((s.modPeriod pt (fun q => { q with toldMordant := q.toldMordant ++ [c] })).ctlSent fc
          (clusterOf c) ⟨0, coreIdx c⟩ d 0 0 [] txn).cores = s.cores ∧ _ := fun d txn =>
        ⟨rfl, State.part_modPeriod_period hq (fun q => { q with toldMordant := q.toldMordant ++ [c] })⟩
      cases b
      · show Sends (execMordantDiscard (.send c) s) s fc 6 _ _ _ _
        exact .of_sendCtl (t := s.modPeriod pt (fun q => { q with toldMordant := q.toldMordant ++ [c] }))
          ((execMordantDiscard_send hc).trans (congrArg _ (State.sendMordant_eq hq hended hrest htold hb hin))) hmay rfl rfl rfl (hP 6)
      · show Sends (execMordantCommit (.send c) s) s fc 5 _ _ _ _
        exact .of_sendCtl (t := s.modPeriod pt (fun q => { q with toldMordant := q.toldMordant ++ [c] }))
          ((execMordantCommit_send hc).trans (congrArg _ (State.sendMordant_eq hq hended hrest htold hb hin))) hmay rfl rfl rfl (hP 5)
    · subst hdst
      have hP : ((s.received id p).takeMordant p.dstCore b).core p.dstCore =
          { k with mordant := some b, stayAwake := false }.kindleEvent := State.core_setCore_same _ _ _
      obtain ⟨kindle, stay, hk⟩ := { k with mordant := some b, stayAwake := false }.kindleEvent_eq_with
      have hfields : (((s.received id p).takeMordant p.dstCore b).core p.dstCore).mordant = some b ∧
          (((s.received id p).takeMordant p.dstCore b).core p.dstCore).scale = k.scale ∧
          (((s.received id p).takeMordant p.dstCore b).core p.dstCore).regs = k.regs := by
        rw [hP, hk]; exact ⟨rfl, rfl, rfl⟩
      cases b
      · show Answers (execMordantDiscard (.arrive id) s) s p 8 0 [] _
        exact .of_arrive (r := (_, [])) harr rfl rfl hfields
      · show Answers (execMordantCommit (.arrive id) s) s p 8 0 [] _
        exact .of_arrive (r := (_, [])) harr rfl rfl hfields
    · refine ⟨_, execMordantSlotProcess_eq hc hreset hm hrk hsm, rfl, rfl, rfl, rfl, rfl, fun j x hx => ?_⟩
      have hslot : (k.processSlots b).slotAt j = x.mordant b := SMap.get_mapV_of_look hx
      dsimp only
      rw [hslot]
      refine ⟨?_, ?_, ?_, ?_, ?_⟩ <;> rintro rfl
      · exact x.mordant_discard
      · exact ScaleSlot.mordant_kindless
      · exact ScaleSlot.mordant_frozen
      · exact ScaleSlot.mordant_clears
      · exact ScaleSlot.mordant_committed

end

section
/-! SUPPORT. When a rekindle completes (R105, R126 to R132). -/

namespace Sys2Proof.Machine

variable {s : State} {c cycle : Nat} {k : Core} {r : Rekindle}

theorem Rekindle.ends_fellBack (h : r.fellBack = true) (hc : cycle = r.lastCycle ∨ (r.timedOut = true ∧ r.lastCycle ≤ cycle)) :
    r.ends cycle = true := by
  rw [ends, h]
  cases ht : r.timedOut with
  | true => simpa using hc.elim (fun h => h.ge) (fun h => h.2)
  | false => simpa [ht] using hc

theorem Rekindle.ends_path (h : r.fellBack = false) : r.ends cycle = decide (cycle = max 32 r.lastCycle) := by
  rw [ends, h]; rfl

theorem execRekindleMultiply_eq (hc : c < 258048) (hrk : (s.core c).rk = some r) :
    execRekindleMultiply c cycle s =
      .next (when' (r.waitN = 0 && !r.uncorrectable && r.ends cycle) s (s.setCore c ((s.core c).rekindleDone r cycle))) := by
  rw [execRekindleMultiply, onCore_eq hc]
  simp only [hrk]

theorem execRekindleMultiply_done (hc : c < 258048) (hrk : (s.core c).rk = some r) (hw : r.waitN = 0)
    (hu : r.uncorrectable = false) (he : r.ends cycle = true) :
    execRekindleMultiply c cycle s = .next (s.setCore c ((s.core c).rekindleDone r cycle)) := by
  rw [execRekindleMultiply_eq hc hrk, when'_true (by simp [hw, hu, he])]

theorem Core.rekindleDone_fellBack (h : r.fellBack = true) :
    k.rekindleDone r cycle =
      ((({ k with rk := none, teBusy := none } : Core).bumpCount 0x488 1).bumpCount 0x490 cycle).mulInto r.acc
        (k.tile r.ta).vals (k.tile r.tb).vals r.ovw := if_pos h

theorem Core.rekindleDone_path (h : r.fellBack = false) :
    k.rekindleDone r cycle =
      (({ k with rk := none, teBusy := none } : Core).bumpCount 0x490 (cycle + 257 - issuedOccupancy (k.tile r.ta).fmt)).mulInto
        r.acc (rekindleVals k r.ta r.bufA) (rekindleVals k r.tb r.bufB) r.ovw := if_neg (by simp [h])

end Sys2Proof.Machine

open Sys2Proof Sys2Proof.Machine

/-- Settles O25: whether the rekindle ends in the cycle, and by which of its two paths. -/
theorem rekindleCompletes : Obligations.RekindleCompletes := by
  intro s c cycle r k done fmt issued vals hc hrk hw
  refine ⟨fun hu hfell hcycle => ?_, fun hu hfell hcycle => ?_, fun h => ?_⟩
  · refine (execRekindleMultiply_done hc hrk hw hu (Rekindle.ends_fellBack hfell hcycle)).trans ?_
    rw [Core.rekindleDone_fellBack hfell]
  · refine (execRekindleMultiply_done hc hrk hw hu ?_).trans ?_
    · rw [Rekindle.ends_path hfell]; exact decide_eq_true hcycle
    · rw [Core.rekindleDone_path hfell]; rfl
  · refine (execRekindleMultiply_eq hc hrk).trans ?_
    rw [when'_false]
    obtain hu | ⟨hfell, hcycle⟩ := h
    · simp [hu]
    · simp [Rekindle.ends_path hfell, hcycle]

end

section
/-! SUPPORT. The cluster loaders (R648 to R657). -/

namespace Sys2Proof.Machine

variable {s : State} {k kind : Nat} {p : Packet}

/-! ### Clusters under updates of one part -/

/-- What an update keeps of a cluster it keeps of every cluster. -/
theorem State.modCluster_keeps {α : Type} (π : Cluster → α) (s : State) {k : Nat} {f : Cluster → Cluster}
    (h : ∀ x, π (f x) = π x) (j : Nat) : π ((s.modCluster k f).cluster j) = π (s.cluster j) := by
  by_cases hj : j = k
  · rw [hj, cluster_modCluster_same, h]
  · rw [cluster_modCluster_ne _ _ hj]

/-! ### Memories -/

/-- Bytes written are read back. -/
theorem Sparse.dense_blit {w : Nat} {m : Sparse w} (h : m.wf = true) (a : Nat) (l : List (BitVec w)) :
    (Sparse.blit m a l).dense a l.length = l := by
  rw [dense_eq_rdN (wf_blit h a l)]
  refine List.ext_getElem (by simp) fun j h1 h2 => ?_
  have hj := rdN_getD (Sparse.blit m a l) a l.length j h2
  rw [rd_blit, if_pos (by omega), Nat.add_sub_cancel_left] at hj
  simpa [h2] using hj

/-! ### Taking a broadcast -/

@[simp] theorem Cluster.bump_ldr (x : Cluster) (off n : Nat) : (x.bump off n).ldr = x.ldr := rfl
@[simp] theorem Cluster.bump_cmem (x : Cluster) (off n : Nat) : (x.bump off n).cmem = x.cmem := rfl
@[simp] theorem Cluster.bump_cmemErr (x : Cluster) (off n : Nat) : (x.bump off n).cmemErr = x.cmemErr := rfl
@[simp] theorem Cluster.bump_combine (x : Cluster) (off n : Nat) : (x.bump off n).combine = x.combine := rfl

/-- The state in which a loader has taken the broadcast that stood in its router's buffer. -/
def State.bcTaken (s : State) (k : Nat) (p : Packet) : State :=
  (s.modNode k (fun x => { x with bc := x.bc.map (fun (b : BcBuf) => { b with loader := false }) })).modCluster k
    (fun x => (x.bump 0xA0028 1).bump 0xA0200 p.flits)

theorem onLoader_takes {f : State → Packet → State} (hk : k < 8064) (hbc : s.bcFor k = some p) (hkind : nfld p.auxA 12 4 = kind)
    (hrec : 2 ≤ kind ∨ (s.cluster k).ldr.receive = true) :
    onLoader k kind s f = .next ((f (s.bcTaken k p) p).freeBc k) := by
  have hrec' : (decide (2 ≤ kind) || (s.cluster k).ldr.receive) = true := by simpa using hrec
  rw [onLoader, onCluster_eq hk]
  simp only [hbc, if_pos hkind, if_pos hrec']
  rfl

theorem onLoader_ignores {f : State → Packet → State} (hk : k < 8064) (hbc : s.bcFor k = some p) (hkind : nfld p.auxA 12 4 = kind)
    (hlow : kind < 2) (hrec : (s.cluster k).ldr.receive = false) :
    onLoader k kind s f = .next ((s.bcTaken k p).freeBc k) := by
  have hrec' : ¬ (decide (2 ≤ kind) || (s.cluster k).ldr.receive) = true := by simp [hrec, hlow]
  rw [onLoader, onCluster_eq hk]
  simp only [hbc, if_pos hkind, if_neg hrec']
  rfl

/-- What the taking keeps of its cluster. -/
theorem State.bcTaken_keeps (s : State) (k : Nat) (p : Packet) (j : Nat) :
    ((s.bcTaken k p).cluster j).ldr = (s.cluster j).ldr ∧ ((s.bcTaken k p).cluster j).cmem = (s.cluster j).cmem ∧
      ((s.bcTaken k p).cluster j).cmemErr = (s.cluster j).cmemErr ∧ ((s.bcTaken k p).cluster j).combine = (s.cluster j).combine :=
  ⟨modCluster_keeps Cluster.ldr _ (by simp) j, modCluster_keeps Cluster.cmem _ (by simp) j,
    modCluster_keeps Cluster.cmemErr _ (by simp) j, modCluster_keeps Cluster.combine _ (by simp) j⟩

theorem State.collect_eq_with_net (s : State) (id : Nat) : ∃ net, s.collect id = { s with net := net } := by
  unfold collect
  split
  · split
    · exact ⟨_, rfl⟩
    · exact ⟨s.net, rfl⟩
  · exact ⟨s.net, rfl⟩

/-- The buffer of a router that has served its broadcast is part of the network alone. -/
theorem State.freeBc_eq_with_net (s : State) (k : Nat) : ∃ net, s.freeBc k = { s with net := net } := by
  unfold freeBc
  split
  · exact ⟨s.net, rfl⟩
  · split
    · exact collect_eq_with_net _ _
    · exact ⟨s.net, rfl⟩

theorem State.cluster_freeBc (s : State) (k j : Nat) : (s.freeBc k).cluster j = s.cluster j := by
  obtain ⟨net, h⟩ := s.freeBc_eq_with_net k
  rw [h]; rfl

theorem State.num_freeBc (s : State) (k key : Nat) : (s.freeBc k).num key = s.num key := by
  obtain ⟨net, h⟩ := s.freeBc_eq_with_net k
  rw [h]; rfl

/-- What holds of a cluster, and survives an update, holds after it whichever cluster the update was of. -/
theorem State.modCluster_pred {Q : Cluster → Prop} {f : Cluster → Cluster} (h : ∀ x, Q x → Q (f x)) {j : Nat}
    (hj : Q (s.cluster j)) (k : Nat) : Q ((s.modCluster k f).cluster j) := by
  by_cases hjk : j = k
  · rw [hjk, cluster_modCluster_same]; exact h _ (hjk ▸ hj)
  · rwa [cluster_modCluster_ne _ _ hjk]

/-! ### Manifest parts -/

theorem Loader.takePart_first (x : Loader) (d : List Byte) : (x.takePart 0 d).parts = [(0, d)] := by
  unfold takePart
  dsimp only
  rw [if_pos rfl]
  dsimp only
  split
  · rfl
  · split <;> rfl

/-! ### Chunks -/

theorem Cluster.scratchWrite_clean {x : Cluster} (h : x.cmemErr = []) (off : Nat) (d : List Byte) :
    (x.scratchWrite off d).1.cmem = Sparse.blit x.cmem off d ∧ (x.scratchWrite off d).1.cmemErr = [] ∧
      (x.scratchWrite off d).1.ldr = x.ldr := by
  rw [scratchWrite, if_neg (by simp [h, SMap.look])]
  exact ⟨rfl, by simp [h], rfl⟩

theorem Cluster.scratchRead_clean {x : Cluster} (h : x.cmemErr = []) (off n : Nat) :
    (x.scratchRead off n).2 = some (Sparse.dense x.cmem off n) := by
  rw [scratchRead, h, badWord_nil]

theorem Cluster.scratchRead_ldr (x : Cluster) (off n : Nat) : (x.scratchRead off n).1.ldr = x.ldr := by
  unfold scratchRead
  split <;> rfl

/-- A loader after the hash of chunk `j`, which matched when `ok`. -/
def Loader.hashed (x : Loader) (j : Nat) (ok : Bool) : Loader :=
  { x with
    chunksReceived := x.chunksReceived + 1
    hashFails := if ok then x.hashFails else x.hashFails + 1
    missing := if ok then x.missing.filter (· ≠ j) else x.missing
    state := if ok && (x.missing.filter (· ≠ j)).isEmpty && x.state = 2 then 3 else x.state }

/-- The hash of a chunk as its loader shows it. -/
theorem State.hashChunk_ldr (s : State) (k j : Nat) :
    ((s.hashChunk k j).cluster k).ldr = (s.cluster k).ldr.hashed j
      (match ((s.cluster k).scratchRead (stagingAt j) (mfChunkLen (s.cluster k).ldr.manifest j)).2 with
       | some d => decide (sha256 d = mfHash (s.cluster k).ldr.manifest j)
       | none => false) := by
  rw [hashChunk, cluster_setCluster_same]
  dsimp only
  rw [Cluster.scratchRead_ldr]
  rfl

/-- A whole chunk that is written into staging without errors is hashed as it came. -/
theorem State.chunkWritten_ldr {j : Nat} {d : List Byte} (herr : (s.cluster k).cmemErr = []) (hwf : Sparse.wf (s.cluster k).cmem = true)
    (hlen : d.length = mfChunkLen (s.cluster k).ldr.manifest j) :
    (((s.setCluster k ((s.cluster k).scratchWrite (stagingAt j) d).1).hashChunk k j).cluster k).ldr =
      (s.cluster k).ldr.hashed j (decide (sha256 d = mfHash (s.cluster k).ldr.manifest j)) := by
  obtain ⟨hmem, herr', hldr⟩ := Cluster.scratchWrite_clean herr (stagingAt j) d
  rw [hashChunk_ldr, cluster_setCluster_same, hldr, Cluster.scratchRead_clean herr', hmem, ← hlen, Sparse.dense_blit hwf]

/-! ### The install -/

/-- The cluster of a loader that installs what lies in staging. -/
def Cluster.withImage (x : Cluster) : Cluster :=
  { x.clearRoutes with
    cmem := Sparse.blit x.cmem (stagingAt 0) (List.replicate x.staged.length 0#8)
    ldr := { x.ldr with fwDigest := sha256 x.staged, state := 4, installed := x.staged } }

/-- What an install leaves of the loader, of which the bring-up routes are no part. -/
def Cluster.HoldsImage (fw : List Byte) (y : Cluster) : Prop :=
  y.ldr.fwDigest = sha256 fw ∧ y.ldr.installed = fw ∧ y.ldr.state = 4 ∧ y.slots = [] ∧ y.spCtrl = 0

theorem Cluster.HoldsImage.clearRoutes {fw : List Byte} {y : Cluster} (h : y.HoldsImage fw) : y.clearRoutes.HoldsImage fw :=
  ⟨h.1, h.2.1, h.2.2.1, rfl, rfl⟩

theorem Cluster.withImage_holds (x : Cluster) : x.withImage.HoldsImage x.staged := ⟨rfl, rfl, rfl, rfl, rfl⟩

theorem execInstall_eq (hk : k < 8064) (hbc : s.bcFor k = some p) (hkind : nfld p.auxA 12 4 = 3)
    (htaken : ((s.bcTaken k p).cluster k).ldr.taken = true) (hmiss : ((s.bcTaken k p).cluster k).ldr.missing = [])
    (hsha : sha256 ((s.bcTaken k p).cluster k).staged = mfImage ((s.bcTaken k p).cluster k).ldr.manifest) :
    execInstall k s =
      .next (((((s.bcTaken k p).setCluster k ((s.bcTaken k p).cluster k).withImage).modCluster
        ((s.bcTaken k p).controllerAt (fieldOf k)) Cluster.clearRoutes).setNum o0ClusterFwVersion
          (mfVersion ((s.bcTaken k p).cluster k).ldr.manifest)).freeBc k) := by
  rw [execInstall]
  refine (onLoader_takes hk hbc hkind (.inl (by decide))).trans (congrArg (fun t => Host.Outcome.next (State.freeBc t k)) ?_)
  exact if_pos (by rw [htaken, hmiss, hsha]; simp)

/-! ### Round ends -/

/-- A router's combining queue 7 with the two tuples that report bitmap `b` at fabric count `n`. -/
def Cluster.roundReport (y : Cluster) (b : List Byte) (n : Nat) : Cluster :=
  let q := y.combine.get Combine.reset 7
  { y with combine := y.combine.put 7 { q with arrived := q.arrived ++
    [⟨false, bitmapWords b 0, n, 4⟩, ⟨true, bitmapWords b 1, n, 4⟩] } }

theorem Cluster.roundReport_ldr (y : Cluster) (b : List Byte) (n : Nat) : (y.roundReport b n).ldr = y.ldr := rfl

theorem Cluster.roundReport_arrived (y : Cluster) (b : List Byte) (n : Nat) :
    ((y.roundReport b n).combine.get Combine.reset 7).arrived = (y.combine.get Combine.reset 7).arrived ++
      [⟨false, bitmapWords b 0, n, 4⟩, ⟨true, bitmapWords b 1, n, 4⟩] := by
  rw [roundReport, SMap.get_put_same]

/-- The loader's state after it took a round end, before it reports. -/
def State.roundTaken (s : State) (k : Nat) (p : Packet) : State :=
  (s.bcTaken k p).modLdr k (fun x => { x with round := ofLe p.payload % 256 })

theorem State.roundTaken_ldr (s : State) (k : Nat) (p : Packet) :
    ((s.roundTaken k p).cluster k).ldr = { (s.cluster k).ldr with round := ofLe p.payload % 256 } := by
  obtain ⟨hldr, -⟩ := s.bcTaken_keeps k p k
  rw [roundTaken, modLdr, cluster_modCluster_same, hldr]

theorem State.roundTaken_combine (s : State) (k : Nat) (p : Packet) (j : Nat) :
    ((s.roundTaken k p).cluster j).combine = (s.cluster j).combine := by
  obtain ⟨-, -, -, hcomb⟩ := s.bcTaken_keeps k p j
  refine (modCluster_keeps Cluster.combine _ ?_ j).trans hcomb
  intro x
  rfl

theorem execRoundEnd_eq (hk : k < 8064) (hbc : s.bcFor k = some p) (hkind : nfld p.auxA 12 4 = 2) :
    execRoundEnd k s =
      .next ((if ((s.roundTaken k p).cluster k).ldr.reportEn then
        (s.roundTaken k p).modCluster ((s.roundTaken k p).controllerAt (fieldOf k)) (fun y =>
          y.roundReport ((s.roundTaken k p).cluster k).ldr.bitmap ((s.roundTaken k p).fabricOf (fieldOf k)))
        else s.roundTaken k p).freeBc k) := by
  rw [execRoundEnd]
  exact onLoader_takes hk hbc hkind (.inl (by decide))

end Sys2Proof.Machine

open Sys2Proof Sys2Proof.Machine

/-- Settles O26: the broadcast is taken, and then the loader does what its kind asks. -/
theorem loaderCommands : Obligations.LoaderCommands := by
  intro s k idx p x m fw idx' comes
  obtain ⟨hldr, hcmem, hcerr, hcomb⟩ := s.bcTaken_keeps k p k
  refine ⟨fun ⟨hk, hbc, hkind⟩ hrec hzero => ?_, fun ⟨hk, hbc, hkind⟩ hrec => ?_, fun ⟨hk, hbc, hkind⟩ hrec => ?_,
    fun ⟨hk, hbc, hkind⟩ hrec htaken hmiss herr hwf hlen => ?_, fun hk hreset htaken hmiss => ?_, fun ⟨hk, hbc, hkind⟩ => ?_,
    fun ⟨hk, hbc, hkind⟩ htaken hmiss hsha => ?_⟩
  · show Gives (execManifestPart k s) _
    rw [execManifestPart]
    refine ⟨_, onLoader_takes hk hbc hkind (.inr hrec), ?_⟩
    dsimp only
    rw [State.cluster_freeBc, when'_true (by simp [hzero]), State.modLdr, State.cluster_modCluster_same, hzero]
    exact Loader.takePart_first _ _
  · show Gives (execManifestPart k s) _
    rw [execManifestPart]
    refine ⟨_, onLoader_ignores hk hbc hkind (by decide) hrec, ?_⟩
    dsimp only
    rw [State.cluster_freeBc]; exact hldr
  · show Gives (execChunk k s) _
    rw [execChunk]
    refine ⟨_, onLoader_ignores hk hbc hkind (by decide) hrec, ?_⟩
    dsimp only
    rw [State.cluster_freeBc]; exact ⟨hldr, hcmem⟩
  · show Gives (execChunk k s) _
    rw [execChunk]
    refine ⟨_, onLoader_takes hk hbc hkind (.inr hrec), ?_⟩
    have hdue : (((s.bcTaken k p).cluster k).ldr.taken && ((s.bcTaken k p).cluster k).ldr.missing.contains p.auxB) = true := by
      rw [hldr, Bool.and_eq_true]; exact ⟨htaken, hmiss⟩
    dsimp only
    rw [State.cluster_freeBc, when'_true hdue, State.chunkWritten_ldr (hcerr.trans herr) (hcmem ▸ hwf) (by rw [hldr]; exact hlen),
      hldr]
    refine ⟨rfl, fun h => ?_, fun h => ?_⟩
    · rw [decide_eq_true h]; exact ⟨rfl, rfl⟩
    · rw [decide_eq_false h]; exact ⟨rfl, rfl⟩
  · show Gives (execChunkDone k idx s) _
    refine ⟨_, (onCluster_eq hk).trans (congrArg _ (when'_true (by rw [show (s.cluster k).inReset = false from hreset]; rfl))), ?_⟩
    dsimp only
    rw [State.chunkDone, if_pos (by rw [Bool.and_eq_true]; exact ⟨htaken, hmiss⟩), State.hashChunk_ldr]
    rfl
  · show Gives (execRoundEnd k s) _
    refine ⟨_, execRoundEnd_eq hk hbc hkind, ?_⟩
    have hround : ((s.roundTaken k p).cluster k).ldr = { x.ldr with round := ofLe p.payload % 256 } := s.roundTaken_ldr k p
    simp only [State.cluster_freeBc, hround]
    split
    · refine ⟨?_, fun _ => ?_⟩
      · rw [State.modCluster_keeps Cluster.ldr _ (fun y => y.roundReport_ldr _ _), hround]
      · rw [show (s.roundTaken k p).controllerAt (fieldOf k) = s.controllerAt (fieldOf k) from rfl, State.cluster_modCluster_same,
          Cluster.roundReport_arrived, s.roundTaken_combine k p]
        rfl
    · next hoff => exact ⟨by rw [hround], fun hon => absurd hon hoff⟩
  · show Gives (execInstall k s) _
    have hstaged : ((s.bcTaken k p).cluster k).staged = fw := by
      rw [Cluster.staged, hldr, hcmem]; rfl
    refine ⟨_, execInstall_eq hk hbc hkind (by rw [hldr]; exact htaken) (by rw [hldr]; exact hmiss)
      (by rw [hstaged, hldr]; exact hsha), ?_⟩
    have himage : (((s.bcTaken k p).setCluster k ((s.bcTaken k p).cluster k).withImage).cluster k).HoldsImage fw := by
      rw [State.cluster_setCluster_same]; exact hstaged ▸ Cluster.withImage_holds _
    obtain ⟨hdigest, hinst, hstate, hslots, hctrl⟩ := State.modCluster_pred (fun _ h => h.clearRoutes) himage
      ((s.bcTaken k p).controllerAt (fieldOf k))
    simp only [State.cluster_freeBc, State.num_freeBc]
    exact ⟨hdigest, hinst, hstate, hslots, hctrl, (State.num_setNum_same _ _ _).trans (by rw [hldr])⟩

end

section
/-! SUPPORT. Starts, boot and supply (R628 to R635, R668, R742). -/

namespace Sys2Proof.Machine

variable {s t u : State} {r : Nat}

/-! ### Updates of the ports alone -/

/-- `t` is `s` but for its ports, what leaves them, and the objects of scope 4 and above. -/
def State.SameBelowPorts (s t : State) : Prop :=
  t.regions = s.regions ∧ t.msc = s.msc ∧ ∀ key, key < okey 4 0 0 → t.num key = s.num key

theorem State.SameBelowPorts.refl (s : State) : s.SameBelowPorts s := ⟨rfl, rfl, fun _ _ => rfl⟩

theorem State.SameBelowPorts.trans (h : s.SameBelowPorts t) (h' : t.SameBelowPorts u) : s.SameBelowPorts u :=
  ⟨h'.1.trans h.1, h'.2.1.trans h.2.1, fun key hk => (h'.2.2 key hk).trans (h.2.2 key hk)⟩

/-- An update that leaves regions, controller and dictionary. -/
theorem State.SameBelowPorts.of_eq (hr : t.regions = s.regions) (hm : t.msc = s.msc) (hd : t.dict = s.dict) :
    s.SameBelowPorts t := ⟨hr, hm, fun key _ => num_of_dict s hd key⟩

theorem State.SameBelowPorts.setNum (s : State) (n num v : Nat) : s.SameBelowPorts (s.setNum (okey 4 n num) v) :=
  ⟨rfl, rfl, fun key hk => num_setNum_ne s v (by unfold okey at *; omega)⟩

theorem State.SameBelowPorts.addNum (s : State) (n num v : Nat) : s.SameBelowPorts (s.addNum (okey 4 n num) v) :=
  .setNum s n num _

theorem State.SameBelowPorts.modPort (s : State) (n : Nat) (g : PortSt → PortSt) : s.SameBelowPorts (s.modPort n g) :=
  .of_eq rfl rfl rfl

theorem State.SameBelowPorts.foldl {α : Type} {f : State → α → State} (hf : ∀ (s : State) a, s.SameBelowPorts (f s a)) (l : List α) (s : State) :
    s.SameBelowPorts (l.foldl f s) := by
  induction l generalizing s with
  | nil => exact .refl s
  | cons a l ih => exact (hf s a).trans (ih _)

theorem State.dropPort_sameBelowPorts (s : State) (n : Nat) : s.SameBelowPorts (s.dropPort n) := by
  have hunmark : s.SameBelowPorts (s.unmark n) := .of_eq rfl rfl rfl
  have hnums := (((hunmark.trans (.setNum _ n 0x0A01 3)).trans (.setNum _ n 0x0A02 0)).trans (.setNum _ n 0x0A03 0)).trans
    (.setNum _ n 0x0A04 0)
  exact (hnums.trans (.modPort _ n _)).trans (.modPort _ n _)

theorem State.sendFrames_sameBelowPorts (s : State) (n : Nat) (x : Train) : s.SameBelowPorts (s.sendFrames n x) := by
  unfold sendFrames
  split
  · split
    · refine .foldl ?_ _ s
      intro _ _
      exact .of_eq rfl rfl rfl
    · exact .refl s
  · exact .refl s

theorem State.train_sameBelowPorts (s : State) (n : Nat) : s.SameBelowPorts (s.train n) := by
  unfold train
  split
  · have hdown := ((s.dropPort_sameBelowPorts n).trans (.setNum _ n 0x0A01 1)).trans (.addNum _ n 0x0A0A 1)
    exact ((hdown.trans (.modPort _ n _)).trans (.modPort _ n _)).trans (sendFrames_sameBelowPorts _ n _)
  · exact .refl s

/-! ### What a start leaves of the wafer (R629, R668) -/

/-- No core, cluster, partition or network runs, and every region bank is off. -/
def State.WaferDown (t : State) : Prop :=
  t.cores = [] ∧ t.clusters = [] ∧ t.parts = [] ∧ t.net = Net.reset ∧ t.fabric = 0 ∧ ∀ r, (t.region r).powered = false

theorem State.startOver_down (s : State) (cold : Bool) : (s.startOver cold).WaferDown := by
  refine ⟨rfl, rfl, rfl, rfl, rfl, fun r => ?_⟩
  unfold startOver
  simp only [region, SMap.get_mapV]
  generalize SMap.look _ r = x
  cases x <;> rfl

/-- The units of the wafer do not see what the controller and the dictionary take. -/
theorem State.WaferDown.congr (h : s.WaferDown) (hc : t.cores = s.cores) (hk : t.clusters = s.clusters) (hp : t.parts = s.parts)
    (hn : t.net = s.net) (hf : t.fabric = s.fabric) (hr : ∀ r, (t.region r).powered = (s.region r).powered) : t.WaferDown := by
  obtain ⟨hcores, hclusters, hparts, hnet, hfab, hpow⟩ := h
  exact ⟨hc.trans hcores, hk.trans hclusters, hp.trans hparts, hn.trans hnet, hf.trans hfab, fun r => (hr r).trans (hpow r)⟩

/-- Tinder changes what the controller runs, and numbers. -/
theorem State.bootFrom_eq_with (s : State) (b : Nat) (second : Bool) :
    ∃ dict, s.bootFrom b second =
      { s with msc := { s.msc with image := (s.bank b).image, booted := true, second := second }, dict := dict } := by
  unfold bootFrom
  dsimp only
  split <;> split <;> exact ⟨_, rfl⟩

section
variable {a b : Bool}

theorem State.tryBoot_absent (h : s.power.aux12 = false) : s.tryBoot a b = s := if_pos (by simp [h])

theorem State.tryBoot_first (h : s.power.aux12 = true)
    (hn : s.bootable (s.num o0NextBootBank % 2) (if s.num o0NextBootBank % 2 = 0 then a else b) = true) :
    s.tryBoot a b = s.bootFrom (s.num o0NextBootBank % 2) false :=
  (if_neg (by simp [h])).trans (if_pos hn)

theorem State.tryBoot_second (h : s.power.aux12 = true)
    (hn : s.bootable (s.num o0NextBootBank % 2) (if s.num o0NextBootBank % 2 = 0 then a else b) = false)
    (hm : s.bootable (1 - s.num o0NextBootBank % 2) (if 1 - s.num o0NextBootBank % 2 = 0 then a else b) = true) :
    s.tryBoot a b = s.bootFrom (1 - s.num o0NextBootBank % 2) true :=
  (if_neg (by simp [h])).trans ((if_neg (Bool.eq_false_iff.mp hn)).trans (if_pos hm))

theorem State.tryBoot_none (h : s.power.aux12 = true)
    (hn : s.bootable (s.num o0NextBootBank % 2) (if s.num o0NextBootBank % 2 = 0 then a else b) = false)
    (hm : s.bootable (1 - s.num o0NextBootBank % 2) (if 1 - s.num o0NextBootBank % 2 = 0 then a else b) = false) :
    s.tryBoot a b = s :=
  (if_neg (by simp [h])).trans ((if_neg (Bool.eq_false_iff.mp hn)).trans (if_neg (Bool.eq_false_iff.mp hm)))

theorem State.tryBoot_eq_with (s : State) (a b : Bool) :
    ∃ msc dict, s.tryBoot a b = { s with msc := msc, dict := dict } ∧ msc.starting = s.msc.starting ∧ msc.asked = s.msc.asked := by
  cases h : s.power.aux12 with
  | false => exact ⟨s.msc, s.dict, tryBoot_absent h, rfl, rfl⟩
  | true =>
    cases hn : s.bootable (s.num o0NextBootBank % 2) (if s.num o0NextBootBank % 2 = 0 then a else b) with
    | true =>
      obtain ⟨d, hd⟩ := s.bootFrom_eq_with (s.num o0NextBootBank % 2) false
      exact ⟨_, d, (tryBoot_first h hn).trans hd, rfl, rfl⟩
    | false =>
      cases hm : s.bootable (1 - s.num o0NextBootBank % 2) (if 1 - s.num o0NextBootBank % 2 = 0 then a else b) with
      | true =>
        obtain ⟨d, hd⟩ := s.bootFrom_eq_with (1 - s.num o0NextBootBank % 2) true
        exact ⟨_, d, (tryBoot_second h hn hm).trans hd, rfl, rfl⟩
      | false => exact ⟨s.msc, s.dict, tryBoot_none h hn hm, rfl, rfl⟩

end

/-- The state of a cold start before Tinder boots. -/
def State.coldReset (s : State) : State :=
  let s1 := s.startOver true
  let m := s1.msc
  { s1 with
    clocks := Clocks.reset, hdp := s1.hdp.restart
    power := { Power.reset with shed := s1.power.shed, wearDue := s1.power.wearDue, aux12 := s1.power.aux12 }
    regions := s1.regions.mapV (fun x => { x with energy := [] })
    msc := { Msc.reset with
      banks := m.banks, updLost := m.updLost, saved := m.saved, licences := m.licences
      slotStored := m.slotStored, credKeys := m.credKeys, starting := some true } }

theorem State.coldReset_powered (s : State) (r : Nat) :
    (s.coldReset.region r).powered = ((s.startOver true).region r).powered := by
  simp only [coldReset, region, SMap.get, SMap.look_mapV]
  cases (s.startOver true).regions.look r <;> rfl

theorem State.beginCold_eq (s : State) (a b : Bool) : s.beginCold a b = s.coldReset.tryBoot a b := rfl

theorem State.abandonUpdate_eq_with (s : State) : ∃ msc dict, s.abandonUpdate = { s with msc := msc, dict := dict } ∧
    msc.booted = s.msc.booted := by
  unfold abandonUpdate
  split
  · exact ⟨_, _, rfl, rfl⟩
  · exact ⟨s.msc, s.dict, rfl, rfl⟩

theorem State.stopSigning_eq_with (s : State) : ∃ msc dict, s.stopSigning = { s with msc := msc, dict := dict } ∧
    msc.booted = s.msc.booted := by
  unfold stopSigning
  split
  · exact ⟨_, _, rfl, rfl⟩
  · exact ⟨s.msc, s.dict, rfl, rfl⟩

/-- What both starts keep of the power, the time and the controller. -/
theorem State.startOver_keeps (s : State) (cold : Bool) :
    (s.startOver cold).power.shed = s.power.shed ∧ (s.startOver cold).power.wearDue = s.power.wearDue ∧
      (s.startOver cold).power.aux12 = s.power.aux12 ∧ (s.startOver cold).wt = s.wt ∧
      (s.startOver cold).msc.booted = s.msc.booted := by
  unfold startOver
  dsimp only
  obtain ⟨m1, d1, h1, hb1⟩ := ({ s with msc := { s.msc with updLost := s.msc.updLost || s.msc.upd.isSome } } : State).abandonUpdate_eq_with
  rw [h1]
  obtain ⟨m2, d2, h2, hb2⟩ := ({ s with msc := m1, dict := d1 } : State).stopSigning_eq_with
  rw [h2]
  exact ⟨rfl, rfl, rfl, rfl, hb2.trans hb1⟩

/-- What a cold start leaves, whatever Tinder boots. -/
theorem State.beginCold_leaves (s : State) (a b : Bool) :
    (s.beginCold a b).WaferDown ∧ (s.beginCold a b).msc.starting = some true ∧ (s.beginCold a b).clocks = Clocks.reset ∧
      (s.beginCold a b).power = { Power.reset with shed := s.power.shed, aux12 := s.power.aux12, wearDue := s.power.wearDue } ∧
      (s.beginCold a b).hdp.sessions = [] ∧ (s.beginCold a b).wt = s.wt := by
  obtain ⟨msc, dict, he, hstart, -⟩ := s.coldReset.tryBoot_eq_with a b
  obtain ⟨hshed, hdue, haux, hwt, -⟩ := s.startOver_keeps true
  rw [beginCold_eq, he]
  refine ⟨(s.startOver_down true).congr rfl rfl rfl rfl rfl fun r => ?_, hstart, rfl, ?_, rfl, hwt⟩
  · exact s.coldReset_powered r
  · simp only [coldReset, hshed, hdue, haux]

/-- A warm start, before the objects show it. -/
def State.warmReset (s : State) : State :=
  let s1 := s.startOver false
  { s1 with
    msc := { s1.msc with starting := some false, bcast := none, failedOver := false, heartbeat := false, planeHeld := false } }

theorem State.beginWarm_eq (s : State) :
    s.beginWarm =
      let s3 := ((s.warmReset.setNum o0ModuleState 4).setNum o0StartPhase 1).setNum o0LastStart 1
      if s.warmReset.msc.updLost then s3.setNum o0FwUpdateResult 5 else s3 := rfl

theorem State.beginWarm_leaves (s : State) :
    s.beginWarm.WaferDown ∧ s.beginWarm.msc.starting = some false ∧ s.beginWarm.msc.booted = s.msc.booted ∧
      s.beginWarm.num o0StartPhase = 1 ∧ s.beginWarm.num o0ModuleState = 4 ∧ s.beginWarm.num o0LastStart = 1 ∧
      s.beginWarm.msc.planeHeld = false := by
  obtain ⟨-, -, -, -, hbooted⟩ := s.startOver_keeps false
  have hdown : s.warmReset.WaferDown := (s.startOver_down false).congr rfl rfl rfl rfl rfl fun _ => rfl
  rw [beginWarm_eq]
  dsimp only
  split
  all_goals
    refine ⟨hdown.congr rfl rfl rfl rfl rfl fun _ => rfl, rfl, hbooted, ?_, ?_, ?_, rfl⟩ <;>
      simp [num_setNum, okey_eq_okey, o0StartPhase, o0ModuleState, o0LastStart, o0FwUpdateResult]

theorem State.storeWear_keeps (s : State) :
    s.storeWear.power.shed = s.power.shed ∧ s.storeWear.power.aux12 = s.power.aux12 ∧
      s.storeWear.power.wearDue = decide (s.num o8FlashInhibit = 1) ∧ s.storeWear.msc = s.msc := by
  unfold storeWear
  split
  · next h => exact ⟨rfl, rfl, (decide_eq_true h).symm, rfl⟩
  · next h => exact ⟨rfl, rfl, (decide_eq_false h).symm, rfl⟩

theorem State.warmTrigger_trained (h : s.msc.trained = true) : s.warmTrigger = s.beginWarm := if_pos h

theorem State.writeModuleReset_cold {a b : Bool} (h : ¬ (s.power.shutdown = true ∧ s.coolantBad = true)) :
    (s.writeModuleReset 2 a b).1 = (s.storeWear.beginCold a b).askedModule := by
  rw [writeModuleReset, if_neg (by decide), if_pos rfl, if_neg h]

theorem State.writeModuleReset_warm {a b : Bool} (h : s.power.shutdown = false) (hs : s.msc.starting ≠ some true) :
    (s.writeModuleReset 1 a b).1 = s.storeWear.warmTrigger.askedModule := by
  rw [writeModuleReset, if_pos rfl, if_neg (by simp [h]), if_neg hs]

/-! ### Phases 1 and 2 (R632, R634, R635) -/

theorem State.num_bootFrom (s : State) (b : Nat) (second : Bool) :
    (s.bootFrom b second).num o0BootBank = b ∧ (s.bootFrom b second).num o0StartPhase = 1 ∧
      (second = true → (s.bootFrom b second).num o0FwFallbacks = (s.num o0FwFallbacks + 1) % 2 ^ 64) := by
  have hs1 : ∀ key, ({ s with msc := { s.msc with image := (s.bank b).image, booted := true, second := second } } : State).num key =
      s.num key := num_of_dict s rfl
  have hboth : (s.bootFrom b second).num o0BootBank = b ∧ (s.bootFrom b second).num o0StartPhase = 1 := by
    unfold bootFrom
    dsimp only
    split <;> split <;> simp [num_setNum, num_addNum, okey_eq_okey, o0BootBank, o0StartPhase, o0FwFallbacks, o0FwUpdateResult]
  refine ⟨hboth.1, hboth.2, fun hsecond => ?_⟩
  unfold bootFrom
  dsimp only
  rw [if_pos hsecond]
  split <;> simp [num_setNum, okey_eq_okey, hs1, o0BootBank, o0StartPhase, o0FwFallbacks, o0FwUpdateResult]

/-- What a bank boots: the image runs, and the objects show it. -/
theorem State.bootFrom_boots (s : State) (b : Nat) (second : Bool) :
    (s.bootFrom b second).msc.booted = true ∧ (s.bootFrom b second).msc.image = (s.bank b).image ∧
      (s.bootFrom b second).msc.second = second ∧ (s.bootFrom b second).num o0BootBank = b ∧
      (s.bootFrom b second).num o0StartPhase = 1 ∧
      (second = true → (s.bootFrom b second).num o0FwFallbacks = (s.num o0FwFallbacks + 1) % 2 ^ 64) := by
  obtain ⟨d, hd⟩ := s.bootFrom_eq_with b second
  exact ⟨by rw [hd], by rw [hd], by rw [hd], s.num_bootFrom b second⟩

theorem regionFields_mem {f : Nat} (hf : f < 84) : f ∈ regionFields (f % 12) := by
  simp only [regionFields, List.mem_map, List.mem_range]
  exact ⟨f / 12, by omega, by omega⟩

theorem foldl_pred {α β : Type} {P : β → Prop} {f : β → α → β} (hf : ∀ b a, P b → P (f b a)) (l : List α) {b : β} (hb : P b) :
    P (l.foldl f b) := by
  induction l generalizing b with
  | nil => exact hb
  | cons a l ih => exact ih (hf b a hb)

/-- What one element of a list brings about, and the others keep, holds at the list's end. -/
theorem foldl_reaches {α β : Type} {P : β → Prop} {f : β → α → β} {a : α} {l : List α} (ha : a ∈ l) (hset : ∀ b, P (f b a))
    (hf : ∀ b a, P b → P (f b a)) (b : β) : P (l.foldl f b) := by
  induction l generalizing b with
  | nil => cases ha
  | cons x l ih =>
    obtain rfl | hx := List.mem_cons.mp ha
    · exact foldl_pred hf l (hset b)
    · exact ih hx _

/-- The fields of a region that a start loses. -/
def State.fieldLost (s : State) (f : Nat) : State := (s.setNum (o2FieldState f) 3).setNum (o2StartResult f) 7

theorem State.fieldLost_shows (s : State) (f : Nat) :
    (s.fieldLost f).num (o2FieldState f) = 3 ∧ (s.fieldLost f).num (o2StartResult f) = 7 := by
  simp [fieldLost, num_setNum, o2FieldState, o2StartResult, okey_eq_okey]

theorem State.fieldLost_keeps {f g : Nat} (h : s.num (o2FieldState f) = 3 ∧ s.num (o2StartResult f) = 7) :
    (s.fieldLost g).num (o2FieldState f) = 3 ∧ (s.fieldLost g).num (o2StartResult f) = 7 := by
  obtain ⟨h1, h2⟩ := h
  simp only [o2FieldState, o2StartResult] at h1 h2
  simp [fieldLost, num_setNum, o2FieldState, o2StartResult, okey_eq_okey, h1, h2]

theorem State.fieldLost_region (s : State) (f r q : Nat) :
    (s.fieldLost f).num (o1RegionState r) = s.num (o1RegionState r) ∧ (s.fieldLost f).region q = s.region q := by
  refine ⟨?_, rfl⟩
  simp [fieldLost, num_setNum, o2FieldState, o2StartResult, o1RegionState, okey_eq_okey]

/-- A region whose rails are out of their limits is lost with its fields. -/
def State.fieldsLost (s : State) (r : Nat) : State :=
  (regionFields r).foldl State.fieldLost ((s.modRegion r (fun x => { x with powered := false })).setNum (o1RegionState r) 3)

def State.railsLost (s : State) (r : Nat) : State := (s.fieldsLost r).postRegion r 7 7 6

theorem State.num_railsLost (s : State) (r key : Nat) : (s.railsLost r).num key = (s.fieldsLost r).num key :=
  num_post _ _ _ _ _ _ _ _ _ _ key

theorem State.region_postRegion (s : State) (r cls cause action q : Nat) :
    (s.postRegion r cls cause action).region q = s.region q := rfl

theorem State.region_railsLost (s : State) (r q : Nat) : (s.railsLost r).region q = (s.fieldsLost r).region q :=
  region_postRegion _ _ _ _ _ q


theorem State.fieldsLost_eq (s : State) (r : Nat) :
    (regionFields r).foldl (fun s f => (s.setNum (o2FieldState f) 3).setNum (o2StartResult f) 7)
      ((s.modRegion r (fun x => { x with powered := false })).setNum (o1RegionState r) 3) = s.fieldsLost r := rfl

theorem execRailCheck_lost (hr : r < 12) (hphase : s.inPhase 1 = true) (hpow : (s.region r).powered = true) :
    execRailCheck r false s = .next (s.railsLost r) := by
  have hguard : (s.inPhase 1 && (s.region r).powered && !false) = true := by rw [hphase, hpow]; rfl
  rw [execRailCheck, onRegion_eq hr, if_pos hguard]
  exact congrArg (fun t => Host.Outcome.next (State.postRegion t r 7 7 6)) (s.fieldsLost_eq r)

theorem execRailCheck_good (hr : r < 12) : execRailCheck r true s = .next s := by
  rw [execRailCheck, onRegion_eq hr]
  exact congrArg Host.Outcome.next (if_neg (by simp))

theorem State.fieldsLost_region (s : State) (r : Nat) :
    ((s.fieldsLost r).region r).powered = false ∧ (s.fieldsLost r).num (o1RegionState r) = 3 := by
  rw [fieldsLost]
  refine foldl_pred (P := fun t : State => (t.region r).powered = false ∧ t.num (o1RegionState r) = 3) ?_ (regionFields r) ?_
  · intro t f ht
    obtain ⟨hnum, hreg⟩ := t.fieldLost_region f r r
    rw [hnum, hreg]; exact ht
  · refine ⟨?_, num_setNum_same _ _ _⟩
    show ((s.modRegion r (fun x => { x with powered := false })).region r).powered = false
    rw [region_modRegion_same]

theorem State.fieldsLost_field (s : State) {f : Nat} (hf : f < 84) :
    (s.fieldsLost (f % 12)).num (o2FieldState f) = 3 ∧ (s.fieldsLost (f % 12)).num (o2StartResult f) = 7 := by
  rw [fieldsLost]
  exact foldl_reaches (P := fun t : State => t.num (o2FieldState f) = 3 ∧ t.num (o2StartResult f) = 7) (regionFields_mem hf)
    (fun t => t.fieldLost_shows f) (fun _ _ h => fieldLost_keeps h) _

/-- Phase 2 on supply for a middle region: the primary supervisor is named, and phase 3 begins. -/
theorem State.loadControl_runs (h : (s.region 5).powered = true ∨ (s.region 6).powered = true) :
    s.loadControl.num o0WsPrimary = (if (s.region 5).powered then 0x29 else 0x2A) ∧ s.loadControl.num o0StartPhase = 3 := by
  have hsupply : ¬ ((!(s.region 5).powered) = true ∧ (!(s.region 6).powered) = true) := by
    rintro ⟨h5, h6⟩
    obtain h | h := h
    · rw [h] at h5; cases h5
    · rw [h] at h6; cases h6
  rw [loadControl, if_neg hsupply]
  dsimp only
  obtain ⟨-, -, hnum⟩ := SameBelowPorts.foldl train_sameBelowPorts (List.range 24)
    ((s.setNum o0WsPrimary (if (s.region 5).powered then 0x29 else 0x2A)).setNum o0StartPhase 3)
  rw [hnum _ (by decide), hnum _ (by decide)]
  simp [num_setNum, okey_eq_okey, o0WsPrimary, o0StartPhase]

theorem State.loadControl_stops (h5 : (s.region 5).powered = false) (h6 : (s.region 6).powered = false) :
    s.loadControl.msc.starting = none ∧ s.loadControl.num o0ModuleState = 3 := by
  rw [loadControl, if_pos (by rw [h5, h6]; exact ⟨rfl, rfl⟩)]
  exact ⟨rfl, num_setNum_same _ _ _⟩

/-- The state in which the control-core image is loaded: the slot is read, and the licences and the saved configuration apply. -/
def State.beforeControl (s : State) (attempts : List (List Byte)) (lic : List Bool) : State :=
  let s0 := s.setNum o0StartPhase 2
  (if s0.msc.starting = some true then (s0.readSlot attempts).reverify lic else s0).applySaved

theorem execControlImageLoad_due {attempts : List (List Byte)} {lic : List Bool} (h : s.banksDone = true) :
    execControlImageLoad attempts lic s = .next (s.beforeControl attempts lic).loadControl :=
  congrArg Host.Outcome.next (if_pos h)

theorem State.readSlot_regions (s : State) (l : List (List Byte)) : (s.readSlot l).regions = s.regions := by
  simp only [readSlot, apply_ite State.regions, setNum_regions, post_regions, draw_regions, ite_self]

theorem State.reverify_regions (s : State) (l : List Bool) : (s.reverify l).regions = s.regions := rfl

theorem State.applySaved_regions (s : State) : s.applySaved.regions = s.regions := by
  unfold applySaved
  split <;> rfl

theorem State.beforeControl_regions (s : State) (attempts : List (List Byte)) (lic : List Bool) :
    (s.beforeControl attempts lic).regions = s.regions := by
  simp only [beforeControl, applySaved_regions, apply_ite State.regions, reverify_regions, readSlot_regions, setNum_regions, ite_self]

theorem State.beforeControl_region (s : State) (attempts : List (List Byte)) (lic : List Bool) (r : Nat) :
    (s.beforeControl attempts lic).region r = s.region r :=
  congrArg (fun m : SMap RegionSt => m.get RegionSt.reset r) (s.beforeControl_regions attempts lic)

/-- A region bank that is the next to be switched on. -/
theorem execRegionBankSwitchOn_next (hr : r < 12) (h : s.bankNext r = true) :
    execRegionBankSwitchOn r s =
      .next ((((s.modRegion r (fun x => { x with powered := true })).setNum (o8FuseState r) 0).setNum (o8FuseCause r) 0).setNum
        (o8BulkReservePct r) (bulkPct s.power.planeMv)) := by
  rw [execRegionBankSwitchOn, onRegion_eq hr, if_pos h]

end Sys2Proof.Machine

open Sys2Proof Sys2Proof.Machine

/-- Settles O16: what both starts reset, and then Tinder and the phases 1 and 2 by their cases. -/
theorem startsAndSupply : Obligations.StartsAndSupply := by
  constructor
  · intro s a b seedTime wafer cold warm
    refine ⟨?_, ?_, fun hb hcool => ?_, fun hb hshut hs htr => ?_, fun hb hshut hheld htr => ?_⟩
    · refine ⟨_, rfl, ?_⟩
      obtain ⟨hdown, hstart, hclocks, hpower, hsess, hwt⟩ := ((if seedTime then s.loseTime else s).setAux true).beginCold_leaves a b
      refine ⟨⟨hdown, hstart, hclocks, ?_, hsess⟩, ?_⟩
      · rw [hpower]; cases seedTime <;> rfl
      · rw [hwt]; cases seedTime <;> rfl
    · refine ⟨_, rfl, ?_⟩
      obtain ⟨hdown, hstart, hclocks, hpower, hsess, hwt⟩ := (s.loseTime.setAux false).beginCold_leaves a b
      exact ⟨⟨hdown, hstart, hclocks, hpower, hsess⟩, hwt⟩
    · refine ⟨_, congrArg Host.Outcome.next ((when'_true hb).trans (State.writeModuleReset_cold hcool)), ?_⟩
      obtain ⟨hdown, hstart, hclocks, hpower, hsess, hwt⟩ := s.storeWear.beginCold_leaves a b
      obtain ⟨hshed, haux, hdue, -⟩ := s.storeWear_keeps
      refine ⟨⟨hdown.congr rfl rfl rfl rfl rfl fun _ => rfl, hstart, hclocks, ?_, rfl⟩, rfl⟩
      exact hpower.trans (by rw [hshed, haux, hdue])
    · have htr' : s.storeWear.msc.trained = true := by rw [s.storeWear_keeps.2.2.2]; exact htr
      refine ⟨_, congrArg Host.Outcome.next ((when'_true hb).trans (State.writeModuleReset_warm hshut hs)), ?_⟩
      rw [State.warmTrigger_trained htr']
      obtain ⟨hdown, hstart, hbooted, hphase, hmodule, hlast, -⟩ := s.storeWear.beginWarm_leaves
      refine ⟨⟨hdown.congr rfl rfl rfl rfl rfl fun _ => rfl, hstart, ?_, hphase, hmodule, hlast⟩, rfl, rfl⟩
      exact hbooted.trans (by rw [s.storeWear_keeps.2.2.2]; exact hb)
    · refine ⟨_, congrArg Host.Outcome.next ((when'_true (by rw [hheld, hb, hshut]; rfl)).trans (State.warmTrigger_trained htr)), ?_⟩
      obtain ⟨hdown, hstart, hbooted, hphase, hmodule, hlast, hplane⟩ :=
        (s.modPower (fun x => { x with planeMv := max x.planeMv 51500 })).beginWarm_leaves
      exact ⟨⟨hdown, hstart, hbooted.trans hb, hphase, hmodule, hlast⟩, hplane⟩
  · intro s a b r attempts lic n sig boots
    have hretry : s.msc.starting = some true → s.msc.booted = false → exec (.bootRetry a b) s = .next (s.tryBoot a b) :=
      fun hs hb => congrArg Host.Outcome.next (when'_true (by rw [hs, hb]; rfl))
    refine ⟨fun hs hb haux => (hretry hs hb).trans (by rw [State.tryBoot_absent haux]), fun hs hb haux => ⟨fun hn => ?_,
      fun hn hm => ?_, fun hn hm => (hretry hs hb).trans (by rw [State.tryBoot_none haux hn hm])⟩, fun hr hnext => ?_,
      fun hr hphase hpow => ⟨?_, execRailCheck_good hr⟩, fun hdone => ?_⟩
    · exact ⟨_, (hretry hs hb).trans (by rw [State.tryBoot_first haux hn]), s.bootFrom_boots _ _⟩
    · exact ⟨_, (hretry hs hb).trans (by rw [State.tryBoot_second haux hn hm]), s.bootFrom_boots _ _⟩
    · refine ⟨_, execRegionBankSwitchOn_next hr hnext, ?_, ?_, ?_, fun q hq =>
        (State.region_modRegion_ne s (fun x => { x with powered := true }) hq : _)⟩
      · exact congrArg RegionSt.powered (s.region_modRegion_same r (fun x => { x with powered := true }))
      · simp [State.num_setNum, okey_eq_okey, o8FuseState, o8FuseCause, o8BulkReservePct]
      · simp [State.num_setNum, okey_eq_okey, o8FuseCause, o8BulkReservePct]
    · refine ⟨_, execRailCheck_lost hr hphase hpow, ?_⟩
      simp only [State.num_railsLost, State.region_railsLost]
      obtain ⟨hpow', hstate⟩ := s.fieldsLost_region r
      refine ⟨hpow', hstate, ?_⟩
      rintro f hf rfl
      exact s.fieldsLost_field hf
    · refine ⟨_, execControlImageLoad_due hdone, ?_⟩
      have h5 := s.beforeControl_region attempts lic 5
      have h6 := s.beforeControl_region attempts lic 6
      refine ⟨fun h => ?_, fun h h' => ?_, fun h h' => State.loadControl_stops (by rw [h5]; exact h) (by rw [h6]; exact h')⟩
      · obtain ⟨hws, hphase⟩ := State.loadControl_runs (s := s.beforeControl attempts lic) (.inl (by rw [h5]; exact h))
        exact ⟨hws.trans (by rw [h5, h]; rfl), hphase⟩
      · obtain ⟨hws, hphase⟩ := State.loadControl_runs (s := s.beforeControl attempts lic) (.inr (by rw [h6]; exact h'))
        exact ⟨hws.trans (by rw [h5, h]; rfl), hphase⟩

end

section
/-! SUPPORT. Writes of configuration words (R14, R349, R356, R393). -/

namespace Sys2Proof.Machine

variable {s : State} {k off : Nat} {v : BitVec 32}

/-- A word of a block that answers is written by its register's rule. -/
theorem execRegisterWrite_eq (hk : k < 8064) (hal : off % 4 = 0) (hoff : off < 0x800000) (hab : s.blockAbsent k off = false) :
    execRegisterWrite k off v s = .next (s.writeCfgWord k off v.toNat) := by
  rw [execRegisterWrite, onCluster_eq hk, when'_true (by simp [hal, hoff, hab])]

theorem execRegisterWrite_absent (hk : k < 8064) (hab : s.blockAbsent k off = true) :
    execRegisterWrite k off v s = .next s := by
  rw [execRegisterWrite, onCluster_eq hk, when'_false (by simp [hab])]

/-- The router blocks always answer (R368). -/
theorem State.blockAbsent_router (s : State) (k : Nat) (h1 : 0x80000 ≤ off) (h2 : off < 0xA1000) :
    s.blockAbsent k off = false := by
  simp only [State.blockAbsent, if_neg (Nat.not_lt.mpr h1), decide_eq_false (Nat.not_le.mpr h2),
    decide_eq_false (show ¬ 0xA3000 ≤ off by omega), Bool.false_and, Bool.or_false, Bool.and_false]

/-- A word of the message-plane router block goes to the router's cluster. -/
theorem State.writeCfgWord_mp (s : State) (k v : Nat) (h1 : 0xA0000 ≤ off) (h2 : off < 0xA1000) :
    s.writeCfgWord k off v = s.modCluster k (fun x => x.writeMp (off - 0xA0000) v s.net.nextId) := by
  rw [writeCfgWord, if_neg (by omega), if_neg (by omega), if_pos h2]

theorem State.writeCfgWord_frameLen (s : State) (k v : Nat) :
    s.writeCfgWord k 0x8000C v = when' (!nbit (s.cluster k).spCtrl.toNat 0 && 64 ≤ v % 2 ^ 22) s
      (s.setCluster k { s.cluster k with frameLen := v % 2 ^ 22 }) := by
  rw [writeCfgWord, if_neg (by omega), if_pos (by omega), writeSp, if_neg (by omega), if_pos (by omega)]

/-- Whether the cluster memory controller answers. -/
theorem State.blockAbsent_cm (s : State) (k : Nat) : s.blockAbsent k 0xA1000 = decide (s.clusterState k = 1) := by
  simp [State.blockAbsent]

theorem execCacheConfigWrite_eq (hk : k < 8064) :
    execCacheConfigWrite k 0 v s = .next (if s.clusterState k = 1 then s else s.writeCm k 0 v.toNat) := by
  rw [execCacheConfigWrite, onCluster_eq hk]
  by_cases h : s.clusterState k = 1
  · rw [when'_false (by simp [State.blockAbsent_cm, h]), if_pos h]
  · rw [when'_true (by simp [State.blockAbsent_cm, h]), if_neg h]

end Sys2Proof.Machine

open Sys2Proof Sys2Proof.Machine

/-- Settles O32: each write is the rule of the block that its offset falls in, where that block answers. -/
theorem registerWrites : Obligations.RegisterWrites := by
  unfold Obligations.RegisterWrites
  intro s k off v x writes hk
  have word : ∀ {o : Nat}, o % 4 = 0 → 0x80000 ≤ o → o < 0xA1000 →
      exec (.registerWrite k o v) s = .next (s.writeCfgWord k o v.toNat) := fun hal h1 h2 =>
    execRegisterWrite_eq hk hal (by omega) (s.blockAbsent_router k h1 h2)
  refine ⟨execRegisterWrite_eq hk, execRegisterWrite_absent hk, ?_, ?_, ?_, ?_, ?_, ?_⟩
  · refine ⟨_, (word (by decide) (by decide) (by decide)).trans
      (congrArg Host.Outcome.next (s.writeCfgWord_mp k _ (by decide) (by decide))), ?_, rfl, rfl⟩
    rw [State.cluster_modCluster_same]
    rfl
  · refine ⟨_, (word (by decide) (by decide) (by decide)).trans
      (congrArg Host.Outcome.next (s.writeCfgWord_mp k _ (by decide) (by decide))), ?_, ?_⟩ <;> rw [State.cluster_modCluster_same]
    · simp [Cluster.writeMp, Cluster.setMpCtrl]
    · rfl
  · intro hrun hlen
    refine ⟨_, (word (by decide) (by decide) (by decide)).trans (congrArg Host.Outcome.next ((s.writeCfgWord_frameLen k _).trans
      (when'_true (by simp only [show nbit (s.cluster k).spCtrl.toNat 0 = false from hrun, hlen]; rfl)))), ?_⟩
    dsimp only
    rw [State.cluster_setCluster_same]
  · intro hrun
    exact (word (by decide) (by decide) (by decide)).trans (congrArg Host.Outcome.next ((s.writeCfgWord_frameLen k _).trans
      (when'_false (by simp only [show nbit (s.cluster k).spCtrl.toNat 0 = true from hrun]; rfl))))
  · intro hstop hst hways
    refine ⟨_, (execCacheConfigWrite_eq hk).trans (congrArg Host.Outcome.next (if_neg hst)), ?_⟩
    rw [State.writeCm, if_neg (by simp [hstop]), if_pos rfl, if_neg (by omega)]
    dsimp only
    rw [State.cluster_setCluster_same]
    exact ⟨rfl, rfl, rfl⟩
  · intro h
    refine (execCacheConfigWrite_eq hk).trans (congrArg Host.Outcome.next ?_)
    by_cases hst : s.clusterState k = 1
    · exact if_pos hst
    · rw [if_neg hst, State.writeCm, if_pos (by simpa [hst] using h)]

end

section
/-! SUPPORT. Configuration reads and writes as control requests, and their responses (R345, R346, R349, R366 to R368). -/

namespace Sys2Proof.Machine

variable {s : State} {h : Requester} {cmd id : Nat} {p : Packet}

/-- A field that keeps its defect map leaves every cluster's state as it was. -/
theorem State.clusterState_modField (s : State) (f : Nat) {g : FieldSt → FieldSt} (hg : ∀ x, (g x).dm = x.dm) (k : Nat) :
    (s.modField f g).clusterState k = s.clusterState k := by
  unfold clusterState
  by_cases h : fieldOf k = f
  · rw [modField, h, field_setField_same, hg]
  · rw [show (s.modField f g).field (fieldOf k) = s.field (fieldOf k) from SMap.get_put_ne h]

theorem State.senderOf_of_clusterState {t : State} (ht : ∀ k, t.clusterState k = s.clusterState k) (u : Requester) :
    t.senderOf u = s.senderOf u := by
  cases u <;> simp only [senderOf, controllerAt, ht]

theorem State.sentBy_of_senderOf {t : State} {u : Requester} (ht : t.senderOf u = s.senderOf u) : t.sentBy u = s.sentBy u := by
  funext p
  simp only [sentBy, ht]

/-- The transaction numbers in use depend on the units' operations, the packets and the open control requests. -/
theorem State.usedTxns_of_eq {t : State} {u : Requester} (hsend : t.senderOf u = s.senderOf u) (hcore : ∀ c, t.core c = s.core c)
    (hports : t.ports = s.ports) (hnet : t.net = s.net) : t.usedTxns u = s.usedTxns u := by
  have hport : ∀ n, t.port n = s.port n := fun n => by unfold port; rw [hports]
  cases u <;> simp only [usedTxns, State.sentBy_of_senderOf hsend, hsend, hnet, hcore, hport]

/-- Before a configuration request a field controller that has moved notes that it has told a router so (R350). -/
def State.cfgAnnounced (s : State) (h : Requester) (cmd addr : Nat) : State :=
  match h with
  | .fieldController f =>
    if cmd = 2 ∧ nfld addr 0 23 = announceOff then
      s.modField f (fun x => { x with toTell := x.toTell.filter (fun j => j ≠ nfld addr 23 13) })
    else s
  | _ => s

theorem State.cfgAnnounced_keeps (s : State) (h : Requester) (cmd addr : Nat) :
    (s.cfgAnnounced h cmd addr).cores = s.cores ∧ (s.cfgAnnounced h cmd addr).dram = s.dram ∧
      (s.cfgAnnounced h cmd addr).ports = s.ports ∧ (s.cfgAnnounced h cmd addr).net = s.net ∧
      ∀ k, (s.cfgAnnounced h cmd addr).clusterState k = s.clusterState k := by
  unfold cfgAnnounced
  split
  · split
    · exact ⟨rfl, rfl, rfl, rfl, s.clusterState_modField _ fun _ => rfl⟩
    · exact ⟨rfl, rfl, rfl, rfl, fun _ => rfl⟩
  · exact ⟨rfl, rfl, rfl, rfl, fun _ => rfl⟩

theorem State.core_cfgAnnounced (s : State) (h : Requester) (cmd addr c : Nat) : (s.cfgAnnounced h cmd addr).core c = s.core c := by
  unfold cfgAnnounced
  split
  · split <;> rfl
  · rfl

theorem State.sendCfg_eq (hmay : mayConfigure h = true) {len : Nat} (h1 : 4 ≤ len) (h2 : len ≤ 256) (cmd addr : Nat) (d : List Byte) :
    s.sendCfg h cmd addr len d = (s.cfgAnnounced h cmd addr).sendCtl h (nfld addr 23 13) ⟨3, 0⟩ cmd addr len d :=
  when'_true (by simp only [hmay, decide_eq_true h1, decide_eq_true h2]; rfl)

/-- A unit that may configure sends its request to the window that the address names (R349). -/
theorem sends_configuration {o : Out} {addr len : Nat} {d : List Byte} (ho : o = .next (s.sendCfg h cmd addr len d))
    (hmay : mayConfigure h = true) (hfree : MaySend s h) (h1 : 4 ≤ len) (h2 : len ≤ 256) :
    Sends o s h cmd (nfld addr 23 13) ⟨3, 0⟩ d (fun t =>
      (∃ q, t.net.packets.look s.net.nextId = some q ∧ q.auxA = cmd ∧ q.addr = addr ∧ q.len = len) ∧
      t.cores = s.cores ∧ t.dram = s.dram) := by
  obtain ⟨hcores, hdram, hports, hnet, hstate⟩ := s.cfgAnnounced_keeps h cmd addr
  have hsend := State.senderOf_of_clusterState hstate h
  have hid : (s.cfgAnnounced h cmd addr).net.nextId = s.net.nextId := congrArg Net.nextId hnet
  refine .of_sendCtl (ho.trans (congrArg _ (State.sendCfg_eq hmay h1 h2 cmd addr d))) hfree
    (State.usedTxns_of_eq hsend (s.core_cfgAnnounced h cmd addr) hports hnet) hid hsend fun txn => ⟨?_, hcores, hdram⟩
  obtain ⟨q, hlook, -, -, haux, haddr, hlen, -⟩ := (s.cfgAnnounced h cmd addr).ctlSent_packet h (nfld addr 23 13) ⟨3, 0⟩ cmd addr len d txn
  exact ⟨q, hid ▸ hlook, haux, haddr, hlen⟩

/-- What a read clears is no packet and no DRAM. -/
theorem State.cfgClear_keeps (s : State) (k off : Nat) :
    (s.cfgClear k off).net = s.net ∧ (s.cfgClear k off).dram = s.dram := by
  unfold cfgClear
  split
  · unfold seeBusy
    dsimp only
    split <;> exact ⟨rfl, rfl⟩
  · split <;> exact ⟨rfl, rfl⟩

/-- An absent block or core leaves the packets and the cores as they are. -/
theorem State.absent_keeps (s : State) (p : Packet) : (s.absent p).net = s.net ∧ (s.absent p).cores = s.cores := by
  unfold absent
  split <;> exact ⟨rfl, rfl⟩

/-- Where the block or core does not answer, the response has the status absent (R368). -/
theorem answers_absent {α : Type} {need : α → Bool} {send : State → α → State} {f : State → Packet → State × List Byte}
    (hd : Deliverable s id p) (htyp : p.typ = 7) (haux : p.auxA % 256 = cmd) (habs : s.ctlAbsent p = true) :
    Answers (ctlStep (.arrive id) cmd s need send f) s p 8 1 [] (fun t => t.cores = s.cores) := by
  obtain ⟨hnet, hcores⟩ := (s.received id p).absent_keeps p
  have hid : ((s.received id p).absent p).net.nextId = s.net.nextId :=
    (congrArg Net.nextId hnet).trans (s.received_nextId id p)
  refine .of_respond (ctlStep_absent hd htyp haux habs) hid ?_ hcores
  rw [State.responseTo_typ, if_neg (by omega), if_pos htyp]

/-- A control request that is closed is open no longer. -/
theorem State.ctlOpen_closeCtl (s : State) (h : Requester) (txn : Nat) : (s.closeCtl h txn).ctlOpen h txn = false := by
  simp only [ctlOpen, closeCtl, List.any_filter]
  exact List.any_eq_false.mpr fun q _ => by rw [Bool.not_and_self]; decide

theorem execConfigurationRead_send {addr : BitVec 64} {len : Nat} (hex : h.exists_ = true) :
    execConfigurationRead (.send (h, addr, len)) s = .next (s.sendCfg h 1 addr.toNat len []) := ctlStep_send hex

theorem execConfigurationWrite_send {addr : BitVec 64} {d : List Byte} (hex : h.exists_ = true) :
    execConfigurationWrite (.send (h, addr, d)) s = .next (s.sendCfg h 2 addr.toNat d.length d) := ctlStep_send hex

theorem execControlResponse_eq (hd : Deliverable s id p) (htyp : p.typ = 8) :
    execControlResponse id s = .next (if s.ctlOpen p.receiver p.txn then (s.received id p).closeCtl p.receiver p.txn
      else (s.received id p).late p.home) :=
  deliver_eq hd (decide_eq_true htyp)

end Sys2Proof.Machine

open Sys2Proof Sys2Proof.Machine

/-- Settles O33: a request is a control request of the network (R349), and its response closes it. -/
theorem controlRequests : Obligations.ControlRequests := by
  unfold Obligations.ControlRequests
  intro s h addr len id data p k off names absent
  refine ⟨fun hex hmay hfree => ⟨fun h1 h2 => ?_, fun h1 h2 => ?_⟩, fun harr => ?_, fun harr => ?_, ?_, ?_, fun hd htyp => ⟨?_, ?_⟩⟩
  · exact sends_configuration (execConfigurationRead_send hex) hmay hfree h1 h2
  · exact sends_configuration (execConfigurationWrite_send hex) hmay hfree h1 h2
  · have hclear := foldl_pred (P := fun t : State => t.net = (s.received id p).net ∧ t.dram = s.dram)
      (f := fun t o => t.cfgClear p.home o) (fun t o ht => ⟨(t.cfgClear_keeps p.home o).1.trans ht.1,
        (t.cfgClear_keeps p.home o).2.trans ht.2⟩) (cfgWords off p.len) ⟨rfl, rfl⟩
    show Answers (execConfigurationRead (.arrive id) s) s p 8 0 _ _
    exact .of_arrive harr rfl ((congrArg Net.nextId hclear.1).trans (s.received_nextId id p)) hclear.2
  · show execConfigurationWrite (.arrive id) s = _
    exact ctlStep_arrive harr
  · rintro ⟨hd, htyp, habs⟩ haux
    show Answers (execConfigurationRead (.arrive id) s) s p 8 1 _ _
    exact answers_absent hd htyp haux habs
  · rintro ⟨hd, htyp, habs⟩ haux
    show Answers (execConfigurationWrite (.arrive id) s) s p 8 1 _ _
    exact answers_absent hd htyp haux habs
  · intro hopen
    exact ⟨_, (execControlResponse_eq hd htyp).trans (congrArg _ (if_pos hopen)), State.ctlOpen_closeCtl _ _ _, rfl, rfl⟩
  · intro hopen
    exact (execControlResponse_eq hd htyp).trans (congrArg _ (if_neg (by rw [hopen]; decide)))

end

section
/-! SUPPORT. The messages of a period: starts, acknowledgements and fault reports (R349, R435, R686). -/

namespace Sys2Proof.Machine

variable {s : State} {c k id : Nat} {p : Packet} {m : FaultMsg} {rest : List FaultMsg}

/-- A unit that keeps the packets as they were answers the control request that it has taken. -/
theorem Answers.of_arrive_net {α : Type} {cmd : Nat} {P : State → Prop} {need : α → Bool} {send : State → α → State}
    {f : State → Packet → State × List Byte} {r : State × List Byte} (h : CtlArrives s id p cmd)
    (hf : f (s.received id p) p = r) (hnet : r.1.net = (s.received id p).net) (hP : P (r.1.respond p.home p 0 r.2 0)) :
    Answers (ctlStep (.arrive id) cmd s need send f) s p 8 0 r.2 P :=
  .of_arrive h hf ((congrArg Net.nextId hnet).trans (s.received_nextId id p)) hP

theorem mem_addOnce (l : List Nat) (c : Nat) : c ∈ addOnce l c := by
  unfold addOnce
  split
  · next h => simpa using h
  · simp

/-! ### The period start -/

theorem State.sendPeriodStart_eq {q : Period} (hq : (s.part (s.coresPart c)).period = some q) (hrun : q.ended = .running)
    (htold : q.toldStart.contains c = false) (hin : s.inPresent c = true) :
    s.sendPeriodStart c =
      (s.modPeriod (s.coresPart c) (fun q => { q with toldStart := q.toldStart ++ [c] })).tellCore c 3 (leBytes 8 q.start0) := by
  simp only [sendPeriodStart, hq]
  exact when'_true (by simp only [hrun, htold, hin]; rfl)

theorem execPeriodStartCommand_send (hc : c < 258048) : execPeriodStartCommand (.send c) s = .next (s.sendPeriodStart c) :=
  ctlStep_send (decide_eq_true hc)

/-- An event that no counter is bound to changes nothing (R169). -/
theorem Core.event_unbound {x : Core} {src idx : Nat} (h : ∀ n, n < 16 → x.bound n src idx = false) (n : Nat) :
    x.event src idx n = x := by
  have hnone : (List.range 16).filter (fun n => x.bound n src idx) = [] :=
    List.filter_eq_nil_iff.mpr fun n hn => by simp [h n (List.mem_range.mp hn)]
  simp only [event, hnone]
  rfl

/-- The period start at a core that is awake and has no counter bound to period starts. -/
theorem Core.kindleEvent_awake {x : Core} (h : x.smoulder = false) :
    x.kindleEvent = { x with stayAwake := x.stayAwake || x.idleNow } := if_neg (by simp [h])

/-- A core with no counter bound to period starts takes one. -/
theorem Core.takePeriodStart_unbound {x : Core} (h : ∀ n, n < 16 → x.bound n 5 0 = false) :
    ({ x with between := false }.event 5 0 1).kindleEvent = { x with between := false }.kindleEvent := by
  have hb : ∀ n, n < 16 → { x with between := false }.bound n 5 0 = false := h
  rw [event_unbound hb]

/-- The core as a period start finds it, `RUN` set where it hosts a station and has not begun. -/
def Core.startedFor (x : Core) (placed : Bool) : Core :=
  if !x.begun && placed then { x with begun := true }.writeSeqCtrl (x.seqCtrl ||| 1#32) else x

theorem State.core_beginPeriod (s : State) (c s0 : Nat) :
    (s.beginPeriod c s0).core c =
      ({ (s.core c).startedFor (s.placed c) with between := false }.event 5 0 1).kindleEvent :=
  State.core_setCore_same _ _ _

theorem State.periodInvalidate_net (s : State) (k s0 : Nat) : (s.periodInvalidate k s0).net = s.net := by
  unfold periodInvalidate
  dsimp only
  split <;> rfl

theorem State.beginPeriod_net (s : State) (c s0 : Nat) : (s.beginPeriod c s0).net = s.net :=
  s.periodInvalidate_net (clusterOf c) s0

theorem nbit_or_one (v : Word) : nbit (v ||| 1#32).toNat 0 = true := by
  simp [nbit]

/-- `SEQ_CTRL` with `RUN` set leaves the counters' bindings and the core awake. -/
theorem Core.writeSeqCtrl_or_one (x : Core) :
    (x.writeSeqCtrl (x.seqCtrl ||| 1#32)).run = true ∧ (x.writeSeqCtrl (x.seqCtrl ||| 1#32)).begun = x.begun ∧
      (x.writeSeqCtrl (x.seqCtrl ||| 1#32)).bind = x.bind := by
  refine ⟨?_, ?_⟩
  · rw [run, (x.writeSeqCtrl_frame _).1, nbit_and_seqCtrl, nbit_or_one]
  · by_cases h : x.run = true
    · rw [writeSeqCtrl_keeps (.inl h)]; exact ⟨rfl, rfl⟩
    · rw [writeSeqCtrl_runs (by simpa using h) (nbit_or_one _)]
      obtain ⟨kindle, stay, he⟩ := (x.seqWritten (x.seqCtrl ||| 1#32)).loadCounters.kindleEvent_eq_with
      rw [he]; exact ⟨rfl, rfl⟩

/-- A core that has begun, or hosts no station, takes the start as it is. -/
theorem Core.startedFor_begun {x : Core} (h : x.begun = true) (b : Bool) : x.startedFor b = x := if_neg (by simp [h])

/-- A core that hosts a station and has not begun runs from its first period start on, with its counters bound as before. -/
theorem Core.startedFor_first {x : Core} (h : x.begun = false) :
    (x.startedFor true).run = true ∧ (x.startedFor true).begun = true ∧ (x.startedFor true).bind = x.bind := by
  rw [startedFor, if_pos (by simp [h])]
  exact { x with begun := true }.writeSeqCtrl_or_one

theorem State.core_beginPeriod_begun (s0 : Nat) (hsm : (s.core c).smoulder = false)
    (hb : ∀ n, n < 16 → (s.core c).bound n 5 0 = false) (hbegun : (s.core c).begun = true) :
    (s.beginPeriod c s0).core c =
      { s.core c with stayAwake := (s.core c).stayAwake || (s.core c).idleNow, between := false } := by
  rw [State.core_beginPeriod, Core.startedFor_begun hbegun, Core.takePeriodStart_unbound hb]
  exact Core.kindleEvent_awake hsm

theorem State.core_beginPeriod_first (s0 : Nat) (hb : ∀ n, n < 16 → (s.core c).bound n 5 0 = false)
    (hbegun : (s.core c).begun = false) (hplaced : s.placed c = true) :
    ((s.beginPeriod c s0).core c).run = true ∧ ((s.beginPeriod c s0).core c).begun = true := by
  obtain ⟨hrun, hbeg, hbind⟩ := Core.startedFor_first hbegun
  have hb' : ∀ n, n < 16 → ((s.core c).startedFor true).bound n 5 0 = false := fun n hn => by
    rw [Core.bound, hbind]; exact hb n hn
  rw [State.core_beginPeriod, hplaced, Core.takePeriodStart_unbound hb']
  obtain ⟨kindle, stay, he⟩ := { (s.core c).startedFor true with between := false }.kindleEvent_eq_with
  rw [he]
  exact ⟨hrun, hbeg⟩

/-! ### Acknowledgements -/

theorem execAcknowledge_send {ns : BitVec 32} (hc : c < 258048) : execAcknowledge (.send c) ns s = .next (s.sendCoreAck c) :=
  ctlStep_send (decide_eq_true hc)

theorem State.sendCoreAck_eq {a : Nat} {acks : List Nat} (h : (s.core c).acks = a :: acks) :
    s.sendCoreAck c = (s.setCore c { s.core c with acks := acks }).sendCtl (.core c) (s.controllerAt (fieldOf (clusterOf c)))
      ⟨7, fieldOf (clusterOf c) % 32⟩ 7 0 4 (leBytes 4 a) := by
  simp only [sendCoreAck, h]

/-- A core that keeps its operations keeps the transaction numbers that it uses. -/
theorem State.usedTxns_setCore (s : State) (c : Nat) {x : Core} (h : x.ops = (s.core c).ops) :
    (s.setCore c x).usedTxns (.core c) = s.usedTxns (.core c) := by
  simp only [usedTxns, State.core_setCore_same, h]
  rfl

theorem State.closeBoundary_keeps (s : State) (pt ns : Nat) :
    (s.closeBoundary pt ns).cores = s.cores ∧ (s.closeBoundary pt ns).net = s.net := by
  unfold closeBoundary
  split
  · split <;> exact ⟨rfl, rfl⟩
  · exact ⟨rfl, rfl⟩

/-- The boundary's end is noted in the period, and the acknowledgements stay. -/
theorem State.closeBoundary_period {pt : Nat} {q : Period} (hq : (s.part pt).period = some q) (ns : Nat) :
    ∃ b, ((s.closeBoundary pt ns).part pt).period = some { q with closed := b } := by
  simp only [closeBoundary, hq]
  split
  · exact ⟨true, State.part_modPeriod_period hq (fun q => { q with closed := true })⟩
  · exact ⟨q.closed, hq⟩

theorem State.takeAck_restarted {a ns : Nat} (h : a = 4) :
    s.takeAck c a ns = (s.modCore c (fun k => { k with restarted := true })).modPeriod (s.coresPart c)
      (fun q => { q with restarted := addOnce q.restarted c }) := if_pos h

/-- An acknowledged restart is noted at the core and in the period. -/
theorem State.takeAck_restarted_leaves {a ns : Nat} {q : Period} (h : a = 4) (hq : (s.part (s.coresPart c)).period = some q) :
    ((s.takeAck c a ns).core c).restarted = true ∧
      ∃ q', ((s.takeAck c a ns).part (s.coresPart c)).period = some q' ∧ c ∈ q'.restarted := by
  rw [State.takeAck_restarted h]
  have hq' : ((s.modCore c (fun k => { k with restarted := true })).part (s.coresPart c)).period = some q := hq
  exact ⟨congrArg Core.restarted (State.core_setCore_same _ _ _), _, State.part_modPeriod_period hq' _, mem_addOnce _ _⟩

/-- An acknowledged mordant command is noted in the period. -/
theorem State.takeAck_mordant_leaves (s : State) {a : Nat} (ns : Nat) {q : Period} (h : a ≠ 4)
    (hq : (s.part (s.coresPart c)).period = some q) :
    (s.takeAck c a ns).cores = s.cores ∧
      (∃ q', ((s.takeAck c a ns).part (s.coresPart c)).period = some q' ∧ c ∈ q'.mordants) ∧
      (s.takeAck c a ns).net = s.net := by
  rw [takeAck, if_neg h]
  obtain ⟨hcores, hnet⟩ := (s.modPeriod (s.coresPart c) fun q => { q with mordants := addOnce q.mordants c }).closeBoundary_keeps
    (s.coresPart c) ns
  obtain ⟨b, hb⟩ := State.closeBoundary_period
    (State.part_modPeriod_period hq fun q => { q with mordants := addOnce q.mordants c }) ns
  exact ⟨hcores, ⟨_, hb, mem_addOnce _ _⟩, hnet⟩

/-! ### Fault reports -/

theorem execFaultReport_send {u : Requester} (hu : u.exists_ = true) : execFaultReport (.send u) s = .next (s.sendFault u) :=
  ctlStep_send hu

theorem State.sendFault_core (h : (s.core c).sent = m :: rest) :
    s.sendFault (.core c) = (s.modCore c (fun x => { x with sent := rest })).sendCtl (.core c)
      ((s.modCore c (fun x => { x with sent := rest })).controllerAt (fieldOf (clusterOf c))) ⟨7, fieldOf (clusterOf c) % 32⟩
      8 0 16 (s.core c).log.bytes := by
  simp only [sendFault, h]
  rfl

theorem State.sendFault_router (h : (s.cluster k).sent = m :: rest) :
    s.sendFault (.router k) = (s.modCluster k (fun x => { x with sent := rest })).sendCtl (.router k)
      ((s.modCluster k (fun x => { x with sent := rest })).controllerAt (fieldOf k)) ⟨7, fieldOf k % 32⟩
      8 0 16 (leBytes 8 m.kind.record.2.1 ++ leBytes 8 m.id) := by
  simp only [sendFault, h]
  rfl

/-- What the report of a core's fault leaves at its field controller. -/
theorem State.reportCore_leaves (s : State) (c : Nat) (log : List Byte) :
    ((s.reportCore c log).core c).logPosted = true ∧
      (s.reportCore c log).blob (o3LastFault (clusterOf c)) = BitVec.ofNat 8 (coreIdx c) :: log ∧
      (s.reportCore c log).msc.posted = s.msc.posted ++ (if (s.core c).lethal log s.wt then [] else
        [(fieldOf (clusterOf c), ⟨s.wt, 0, 3, 1, clusterOf c, causeClass (leAt log 2 1), leAt log 2 1, 1, s.coresPart c,
          leAt log 8 8⟩)]) ∧ (s.reportCore c log).net = s.net := by
  have hblob := s.blob_setBlob_same (o3LastFault (clusterOf c)) (BitVec.ofNat 8 (coreIdx c) :: log)
  unfold reportCore
  dsimp only
  split <;> refine ⟨?_, hblob, ?_, rfl⟩
  · rw [State.modCore, State.core_setCore_same]
  · exact (List.append_nil _).symm
  · rw [State.modCore, State.core_setCore_same]
  · rfl

theorem State.reportRouter_leaves (s : State) (k : Nat) (d : List Byte) :
    let rp := s.partOfRegion (regionOfCluster k)
    let r := (routerFault (leAt d 0 8)).record
    (s.reportRouter k d).msc.posted = s.msc.posted ++ [(fieldOf k, ⟨s.wt, 0, 3, r.2.2.1, k, r.1, r.2.1, 1, rp, leAt d 8 8⟩)] ∧
      ((s.reportRouter k d).part rp).onWay = (s.part rp).onWay ++ [r.2.2.2] ∧
      (leAt d 0 8 = 0x33 → (s.reportRouter k d).num (o6LastSlotMiss rp) = leAt d 8 8) ∧ (s.reportRouter k d).net = s.net := by
  unfold reportRouter
  dsimp only
  by_cases hmiss : routerFault (leAt d 0 8) = .slotMiss
  · rw [if_pos hmiss]
    refine ⟨rfl, ?_, fun _ => s.num_setNum_same _ _, rfl⟩
    rw [State.pushCause, State.part_modPart_same]
    rfl
  · rw [if_neg hmiss]
    refine ⟨rfl, ?_, fun h => absurd (by rw [h]; rfl) hmiss, rfl⟩
    rw [State.pushCause, State.part_modPart_same]
    rfl

end Sys2Proof.Machine

open Sys2Proof Sys2Proof.Machine

/-- Settles O34: each message is a control request that its unit sends, and what its receiver notes. -/
theorem periodMessages : Obligations.PeriodMessages := by
  unfold Obligations.PeriodMessages
  intro s c k id a ns m rest acks p q x pt f fromCore log r hc
  refine ⟨fun hq hrun htold hin hmay => ?_, fun harr hdst hsm hb => ⟨fun hbegun => ?_, fun hbegun hplaced => ?_⟩,
    fun hacks hmay => ?_, fun harr hsrc hq => ⟨fun h4 => ?_, fun h4 => ?_⟩, fun hsent hmay => ?_, fun hk hsent hmay => ?_,
    ?_, ?_, fun harr hkind => ?_⟩
  · show Sends (execPeriodStartCommand (.send c) s) s (.fieldController f) 3 _ _ _ _
    exact .of_sendCtl (t := s.modPeriod pt (fun q => { q with toldStart := q.toldStart ++ [c] }))
      ((execPeriodStartCommand_send hc).trans (congrArg _ (State.sendPeriodStart_eq hq hrun htold hin))) hmay rfl rfl rfl
      (fun txn => State.part_modPeriod_period hq _)
  · subst hdst
    show Answers (execPeriodStartCommand (.arrive id) s) s p 8 0 [] _
    exact .of_arrive_net (r := (_, [])) harr rfl ((s.received id p).beginPeriod_net _ _)
      (State.core_beginPeriod_begun (s := s.received id p) (ofLe p.payload) hsm hb hbegun)
  · subst hdst
    show Answers (execPeriodStartCommand (.arrive id) s) s p 8 0 [] _
    exact .of_arrive_net (r := (_, [])) harr rfl ((s.received id p).beginPeriod_net _ _)
      (State.core_beginPeriod_first (s := s.received id p) (ofLe p.payload) hb hbegun hplaced)
  · show Sends (execAcknowledge (.send c) ns s) s (.core c) 7 _ _ _ _
    exact .of_sendCtl ((execAcknowledge_send hc).trans (congrArg _ (State.sendCoreAck_eq hacks))) hmay
      (s.usedTxns_setCore c rfl) rfl rfl (fun txn => congrArg Core.acks (State.core_setCore_same _ _ _))
  · subst hsrc
    show Answers (execAcknowledge (.arrive id) ns s) s p 8 0 [] _
    exact .of_arrive (r := ((s.received id p).takeAck p.srcCore (ofLe p.payload) ns.toNat, [])) harr rfl
      (by rw [State.takeAck_restarted h4]; rfl) (State.takeAck_restarted_leaves (s := s.received id p) h4 hq)
  · subst hsrc
    show Answers (execAcknowledge (.arrive id) ns s) s p 8 0 [] _
    have hack := (s.received id p).takeAck_mordant_leaves ns.toNat h4 hq
    exact .of_arrive_net (r := ((s.received id p).takeAck p.srcCore (ofLe p.payload) ns.toNat, [])) harr rfl
      hack.2.2 ⟨hack.1, hack.2.1⟩
  · show Sends (execFaultReport (.send (.core c)) s) s (.core c) 8 _ _ _ _
    exact .of_sendCtl ((execFaultReport_send (u := .core c) (decide_eq_true hc)).trans (congrArg _ (State.sendFault_core hsent))) hmay
      (s.usedTxns_setCore c rfl) rfl rfl (fun txn => congrArg Core.sent (State.core_setCore_same _ _ _))
  · show Sends (execFaultReport (.send (.router k)) s) s (.router k) 8 _ _ _ _
    exact .of_sendCtl ((execFaultReport_send (u := .router k) (decide_eq_true hk)).trans (congrArg _ (State.sendFault_router hsent))) hmay
      rfl rfl rfl (fun txn => congrArg Cluster.sent (s.cluster_modCluster_same k fun x => { x with sent := rest }))
  · rintro harr ⟨hkind, hsrc⟩ hgone
    subst hsrc
    have hleaves := (s.received id p).reportCore_leaves p.srcCore p.payload
    show Answers (execFaultReport (.arrive id) s) s p 8 0 [] _
    exact .of_arrive_net (r := ((s.received id p).reportCore p.srcCore p.payload, [])) harr
      (by rw [if_neg (by simp [hkind]), if_neg (by rw [show (s.received id p).coreGone p.srcCore = false from hgone]; decide)])
      hleaves.2.2.2 ⟨hleaves.1, hleaves.2.1, hleaves.2.2.1⟩
  · rintro harr ⟨hkind, hsrc⟩ hgone
    subst hsrc
    show Answers (execFaultReport (.arrive id) s) s p 8 0 [] _
    exact .of_arrive (r := (s.received id p, [])) harr
      (by rw [if_neg (by simp [hkind]), if_pos (show (s.received id p).coreGone p.srcCore = true from hgone)])
      rfl ⟨rfl, rfl, rfl⟩
  · have hleaves := (s.received id p).reportRouter_leaves p.origin p.payload
    show Answers (execFaultReport (.arrive id) s) s p 8 0 [] _
    exact .of_arrive_net (r := ((s.received id p).reportRouter p.origin p.payload, [])) harr
      (by rw [if_pos hkind]) hleaves.2.2.2 ⟨hleaves.1, hleaves.2.1, hleaves.2.2.1⟩

end

section
/-! SUPPORT. The patrol scrub over an error map that lists a line twice (R375, R380). -/

namespace Sys2Proof.Machine

/-- A state whose error map is not in its canonical form: it lists line 0 with a correctable error, and again behind it with an
error of the address. -/
def State.lineListedTwice : State :=
  { State.reset with dram := ⟨[], [(0, .symbol 0), (0, .address)], [(0, { Chan.reset with chState := 2 })]⟩ }

/-- The scrub takes the correctable error away, and the line then reads as uncorrectable. -/
theorem scrubRead_lineListedTwice :
    ∃ t, execScrubRead 0 0 State.lineListedTwice = .next t ∧ t.dram.mark 0 = some true :=
  ⟨_, rfl, rfl⟩

end Sys2Proof.Machine

open Sys2Proof Sys2Proof.Machine

/-- Refutes O40: the statement is about every state, also one whose error map lists a line twice (no hypothesis asks for the
canonical form of the map). There the scrub read takes away the correctable error that the line shows, and the second entry
of the line then shows an uncorrectable one. -/
theorem not_channelEvents : ¬ Obligations.ChannelEvents := by
  unfold Obligations.ChannelEvents
  intro h
  obtain ⟨-, hscrub, -⟩ := h State.lineListedTwice 0 0 0 (by decide) (by decide)
  obtain ⟨t, ht, -, hnone, -⟩ := hscrub rfl rfl (by decide)
  obtain ⟨u, hu, hsome⟩ := scrubRead_lineListedTwice
  obtain rfl : t = u := by
    have htu := ht.symm.trans hu
    injection htu
  exact absurd (hnone.symm.trans hsome) (by decide)

end

section
/-! SUPPORT. Requests at their home: core store, scratch and DRAM (R344, R365, R376, R378, R403, R407, R408). -/

namespace Sys2Proof.Machine

variable {s : State} {id : Nat} {p : Packet} {P : State → Prop}

/-! ### Requests that the checks let pass -/

/-- A request that the checks let pass is served. -/
theorem State.serve_eq (href : s.refused p = false) (habs : s.absentAt p = false) (hkind : p.dst.kind ≠ 3) (f : State → State) :
    s.serve p f = f s := by
  rw [serve, if_neg (by simp [href]), if_neg (by simp [habs]), if_neg hkind]

theorem State.serve_refused (href : s.refused p = true) (f : State → State) :
    s.serve p f = (s.protect p).respond p.home p 2 [] 0 := if_pos href

/-- A request of type `typ` that is delivered is answered with what its service answers. -/
theorem Answers.of_serve {ok : Packet → Bool} {f : State → Packet → State → State} {t : State} {typ status auxB : Nat} {d : List Byte}
    (hd : Deliverable s id p) (hok : ok p = true) (href : (s.received id p).refused p = false)
    (habs : (s.received id p).absentAt p = false) (hkind : p.dst.kind ≠ 3)
    (hf : f (s.received id p) p (s.received id p) = t.respond p.home p status d auxB) (hnet : t.net = (s.received id p).net)
    (htyp : (if p.typ = 6 then 4 else if p.typ = 7 then 8 else p.typ + 3) = typ) (hP : P (t.respond p.home p status d auxB)) :
    Answers (deliver id s ok fun s p => s.serve p (f s p)) s p typ status d P :=
  .of_respond ((deliver_eq hd hok).trans (congrArg _ ((State.serve_eq href habs hkind _).trans hf)))
    ((congrArg Net.nextId hnet).trans (s.received_nextId id p)) htyp hP

/-! ### DRAM without errors -/

/-- Where no line holds an error, correcting lines only counts. -/
theorem State.correct_clean (h : s.dram.err = []) (lines : List Nat) (off : Nat) :
    ∃ chans, s.correct lines off = { s with dram := { s.dram with chans := chans } } := by
  cases lines with
  | nil => exact ⟨s.dram.chans, rfl⟩
  | cons l r =>
    have hnil : (s.dram.err.filter fun p => !(l :: r).contains p.1 || p.2.uncorrectable) = s.dram.err := by rw [h]; rfl
    exact ⟨_, congrArg (fun e => { s with dram := { s.dram with err := e } }.modChan (chanOf l)
      (fun x => x.bump off ((l :: r).countP fun k => decide (s.dram.mark k = some false)))) hnil⟩

theorem Dram.mark_clean (h : s.dram.err = []) (line : Nat) : s.dram.mark line = none := by
  rw [mark, h]; rfl

/-- A read of DRAM without errors answers its bytes, and only counts. -/
theorem State.dramRead_clean (h : s.dram.err = []) (key n : Nat) :
    ∃ chans, s.dramRead key n = ({ s with dram := { s.dram with chans := chans } }, some (Sparse.dense s.dram.mem key n)) := by
  have hnone : (homeLines key n).filter (fun l => decide (s.dram.mark l = some true)) = [] :=
    List.filter_eq_nil_iff.mpr fun l _ => by simp [Dram.mark_clean h]
  obtain ⟨chans, hc⟩ := State.correct_clean h (homeLines key n) 0x30
  simp only [dramRead, hnone, hc]
  exact ⟨_, rfl⟩

/-- A write of DRAM at an address, by its bytes. -/
def Mem.Written (m m' : Mem) (a : Nat) (d : List Byte) : Prop :=
  (∀ j, j < d.length → Sparse.rd m' (a + j) = d.getD j 0) ∧
    ∀ y, (y < a ∨ a + d.length ≤ y) → Sparse.rd m' y = Sparse.rd m y

theorem Mem.written_blit (m : Mem) (a : Nat) (d : List Byte) : Mem.Written m (Sparse.blit m a d) a d :=
  ⟨fun _ h => rd_blit_inside m h, fun _ h => rd_blit_outside m h⟩

theorem homeLines_line {key : Nat} (h : key % 64 = 0) : homeLines key 64 = [key] := by
  have hsame : (key + 64 - 1) / 64 - key / 64 + 1 = 1 := by omega
  rw [homeLines, if_neg (by decide), hsame]
  simp only [List.range_one, List.map_cons, List.map_nil, List.cons.injEq, and_true]
  omega

theorem sliceB_whole (d : List Byte) : sliceB d 0 d.length = d := by
  simp [sliceB]

/-- A write of a whole line of DRAM is done. -/
theorem State.dramWrite_line {key : Nat} {d : List Byte} (hkey : key % 64 = 0) (hd : d.length = 64) :
    ∃ err chans, s.dramWrite key d = ({ s with dram := ⟨Sparse.blit s.dram.mem key d, err, chans⟩ }, true) := by
  have hin : inLine key 64 key = (key, key + 64) := by simp [inLine]
  have hslice : sliceB d (key - key) 64 = d := by rw [Nat.sub_self, ← hd, sliceB_whole]
  have hone : ∃ err chans, s.dramLine key d key =
      ({ s with dram := ⟨Sparse.blit s.dram.mem key d, err, chans⟩ }, true) := by
    simp only [dramLine, hd, hin, hslice, Nat.add_sub_cancel_left, if_true]
    exact ⟨_, _, rfl⟩
  obtain ⟨err, chans, h⟩ := hone
  rw [dramWrite, hd, homeLines_line hkey]
  exact ⟨err, chans, congrArg (fun r : State × Bool => (r.1, true && r.2)) h⟩

/-- An atomic in DRAM without errors answers the old word and writes the new one. -/
theorem State.dramAtomic_clean (h : s.dram.err = []) (key op a b : Nat) :
    ∃ err chans, s.dramAtomic key op a b =
      ({ s with dram := ⟨Sparse.blit s.dram.mem key (leBytes 4 (amoResult op (BitVec.ofNat 32 (ofLe (Sparse.dense s.dram.mem key 4)))
        (BitVec.ofNat 32 a) (BitVec.ofNat 32 b)).toNat), err, chans⟩ }, some (ofLe (Sparse.dense s.dram.mem key 4))) := by
  obtain ⟨chans, hc⟩ := State.correct_clean h [key / 64 * 64] 0x30
  rw [dramAtomic, if_neg (by simp [Dram.mark_clean h])]
  simp only [hc]
  exact ⟨_, _, rfl⟩

/-! ### Requests at a DRAM channel that works -/

theorem State.serveRead_dram {t : State} {d : List Byte} (hkind : p.dst.kind = 2)
    (hch : (s.chan (chanOf (s.dramKey p.addr))).chState ≠ 3) (h : s.dramRead (s.dramKey p.addr) p.len = (t, some d)) :
    s.serveRead p = t.respond p.home p 0 d 0 := by
  simp only [serveRead, hkind, if_neg hch, h]

theorem State.serveWrite_dram {t : State} (hkind : p.dst.kind = 2)
    (hch : (s.chan (chanOf (s.dramKey p.addr))).chState ≠ 3) (h : s.dramWrite (s.dramKey p.addr) p.payload = (t, true)) :
    s.serveWrite p = t.respond p.home p 0 [] 0 := by
  simp only [serveWrite, hkind, if_neg hch, h, if_true]

theorem State.serveAtomic_dram {t : State} {old : Nat} (hkind : p.dst.kind = 2)
    (hch : (s.chan (chanOf (s.dramKey p.addr))).chState ≠ 3)
    (h : s.dramAtomic (s.dramKey p.addr) p.amoOp p.auxA p.auxB = (t, some old)) :
    s.serveAtomic p = t.respond p.home p 0 [] old := by
  simp only [serveAtomic, hkind, if_neg hch, h]

end Sys2Proof.Machine

open Sys2Proof Sys2Proof.Machine

/-- Settles O38: each home answers what it reads, and changes what is written. -/
theorem requestsAtTheirHome : Obligations.RequestsAtTheirHome := by
  unfold Obligations.RequestsAtTheirHome
  intro s id p c off sc x key usable hd
  refine ⟨fun ⟨href, habs⟩ htyp hfetch => ⟨fun hkind hbad => ?_, fun hkind hbad => ?_, fun hkind hch herr => ?_⟩,
    fun ⟨href, habs⟩ htyp => ⟨fun hkind herr => ?_, fun hkind hch herr hal hlen => ?_⟩,
    fun ⟨href, habs⟩ htyp hkind hch herr => ?_, fun href htyp => ?_⟩
  · have hread : (s.core p.dstCore).load (nfld p.addr 0 17) p.len = _ := Core.load_of_clean hbad
    have hserve : (s.received id p).serveRead p = ((s.received id p).setCore c ((s.core c).bumpCount 0x50
        (softWords (s.core c).storeErr off p.len))).respond p.home p 0 (Sparse.dense (s.core c).store off p.len) 0 := by
      simp only [State.serveRead, hkind, State.core_received, hread]
      rfl
    show Answers (execReadRequest id s) s p 3 0 _ _
    exact .of_serve hd (by simp [htyp, hfetch]) href habs (by omega) hserve rfl (by simp [htyp]) rfl
  · have hread : ((s.received id p).cluster p.home).scratchRead (nfld p.addr 0 21) p.len =
        (x.bump 0xA1088 (softWords x.cmemErr sc p.len), some (Sparse.dense x.cmem sc p.len)) := by
      rw [Cluster.scratchRead, show badWord ((s.received id p).cluster p.home).cmemErr (nfld p.addr 0 21) p.len = none from hbad]
    have hserve : (s.received id p).serveRead p = ((s.received id p).setCluster p.home (x.bump 0xA1088
        (softWords x.cmemErr sc p.len))).respond p.home p 0 (Sparse.dense x.cmem sc p.len) 0 := by
      simp only [State.serveRead, hkind, hread]
    show Answers (execReadRequest id s) s p 3 0 _ _
    exact .of_serve hd (by simp [htyp, hfetch]) href habs (by omega) hserve rfl (by simp [htyp]) rfl
  · obtain ⟨chans, hread⟩ := State.dramRead_clean (s := s.received id p) herr key p.len
    have hserve : (s.received id p).serveRead p = { s.received id p with dram := { s.dram with chans := chans } }.respond
        p.home p 0 (Sparse.dense s.dram.mem key p.len) 0 := 
      State.serveRead_dram hkind hch hread
    show Answers (execReadRequest id s) s p 3 0 _ _
    exact .of_serve hd (by simp [htyp, hfetch]) href habs (by omega) hserve rfl (by simp [htyp]) ⟨rfl, rfl⟩
  · have hstore : (s.core p.dstCore).storeBytes (nfld p.addr 0 17) p.payload = _ := Core.storeBytes_clean herr _ _
    have hserve : (s.received id p).serveWrite p = ((s.received id p).setCore c
        ({ s.core c with store := Sparse.blit (s.core c).store off p.payload, storeErr := [] }.bumpCount 0x50 0)).respond
        p.home p 0 [] 0 := by
      simp only [State.serveWrite, hkind, State.core_received, hstore]
      rfl
    show Answers (execWriteRequest id s) s p 4 0 _ _
    refine .of_serve hd (by simp [htyp]) href habs (by omega) hserve rfl (by simp [htyp]) ?_
    rw [State.respond, State.core_addPacket, State.core_setCore_same]
    exact Mem.written_blit _ _ _
  · obtain ⟨err, chans, hwrite⟩ := State.dramWrite_line (s := s.received id p) hal hlen
    have hserve : (s.received id p).serveWrite p = { s.received id p with dram := ⟨Sparse.blit s.dram.mem key p.payload, err,
        chans⟩ }.respond p.home p 0 [] 0 := 
      State.serveWrite_dram hkind hch hwrite
    show Answers (execWriteRequest id s) s p 4 0 _ _
    refine .of_serve hd (by simp [htyp]) href habs (by omega) hserve rfl (by simp [htyp]) ?_
    have hw := Mem.written_blit s.dram.mem key p.payload
    rw [Mem.Written, hlen] at hw
    exact hw
  · obtain ⟨err, chans, hatomic⟩ := State.dramAtomic_clean (s := s.received id p) herr key p.amoOp p.auxA p.auxB
    intro old new
    have hserve : (s.received id p).serveAtomic p = { s.received id p with dram := ⟨Sparse.blit s.dram.mem key
        (leBytes 4 new.toNat), err, chans⟩ }.respond p.home p 0 [] old := 
      State.serveAtomic_dram hkind hch hatomic
    show Answers (execAtomicRequest id s) s p 5 0 _ _
    refine .of_serve hd (by simp [htyp]) href habs (by omega) hserve rfl (by simp [htyp]) ⟨?_, ?_⟩
    · exact ⟨_, State.addPacket_look _ _, if_neg (by omega)⟩
    · have hw := Mem.written_blit s.dram.mem key (leBytes 4 new.toNat)
      rw [Mem.Written, length_leBytes] at hw
      exact hw
  · show Answers (execWriteRequest id s) s p 4 2 _ _
    refine .of_respond ((deliver_eq hd (by simp [htyp])).trans (congrArg _ (State.serve_refused href _))) rfl ?_ ⟨rfl, rfl⟩
    rw [State.responseTo_typ, htyp]
    rfl

end

section
/-! SUPPORT. Retained copies and inbox deliveries at their core (R126, R129, R296 to R298). -/

namespace Sys2Proof.Machine

variable {s : State} {id slot gen : Nat} {p : Packet} {k : Core}

/-! ### Retained copies -/

theorem execRetainedCopyFetch_eq (hd : Deliverable s id p) (htyp : p.typ = 0) (hfetch : p.fetch = some (slot, gen))
    (href : (s.received id p).refused p = false) (habs : (s.received id p).absentAt p = false) (hkind : p.dst.kind = 0) :
    execRetainedCopyFetch id s = .next ((s.received id p).serveFetch p slot gen) := by
  refine (deliver_eq hd (by simp [htyp, hfetch])).trans (congrArg _ ((State.serve_eq href habs (by omega) _).trans ?_))
  rw [hfetch]

/-- A copy whose generation stands is answered from the ring (R126). -/
theorem State.serveFetch_copy (hslot : slot < (s.core p.dstCore).retainDepth)
    (hgen : ((s.core p.dstCore).ringAt slot).gen = gen) (herr : (s.core p.dstCore).storeErr = []) :
    s.serveFetch p slot gen = (s.setCore p.dstCore ((s.core p.dstCore).bumpCount 0x50
      (softWords (s.core p.dstCore).storeErr (((s.core p.dstCore).retainBase + slot) * 2048) 2048))).respond p.home p 0
      (Sparse.dense (s.core p.dstCore).store (((s.core p.dstCore).retainBase + slot) * 2048) 2048) 0 := by
  have hread := Core.load_of_clean (k := s.core p.dstCore) (a := ((s.core p.dstCore).retainBase + slot) * 2048) (n := 2048)
    (by rw [herr]; exact badWord_nil _ _)
  have hstands : ¬ ((s.core p.dstCore).retainDepth ≤ slot ∨ ((s.core p.dstCore).ringAt slot).gen ≠ gen) := by
    simp only [hgen, ne_eq, not_true, or_false]; omega
  simp only [serveFetch, if_neg hstands, hread]

theorem State.serveFetch_absent (hgen : ((s.core p.dstCore).ringAt slot).gen ≠ gen) :
    s.serveFetch p slot gen = s.respond p.home p 1 [] 0 := if_pos (.inr hgen)

/-! ### Inbox deliveries -/

/-- A bank that holds packets to be drained does not swap (R298). -/
theorem Core.inboxSwap_drains {d : Long} {b : Nat} (h : (k.inboxAt b).drainLens ≠ []) : k.inboxSwap d b = k :=
  if_neg (by simp [h])

theorem Core.inboxAt_put (k : Core) (b : Nat) (x : Inbox) : { k with inbox := k.inbox.put b x }.inboxAt b = x :=
  SMap.get_put_same _ _ _ _

/-- A packet written into the filling bank of a core store without errors, while the other bank drains. -/
theorem Core.inboxPut_fills {d : Long} {b : Nat} (herr : k.storeErr = []) (hdrain : (k.inboxAt b).drainLens ≠ []) :
    (k.inboxPut d b p).2 = 0 ∧
      ((k.inboxPut d b p).1.inboxAt b).fillLens = (k.inboxAt b).fillLens ++ [inboxSize p.payload.length] ∧
      ((k.inboxPut d b p).1.inboxAt b).drainLens = (k.inboxAt b).drainLens := by
  simp only [inboxPut, Core.storeBytes_clean herr]
  rw [Core.inboxSwap_drains (by rw [Core.inboxAt_put]; exact hdrain), Core.inboxAt_put]
  exact ⟨trivial, rfl, rfl⟩

/-- A delivery that need not wait is served. -/
theorem execInboxDelivery_eq (hd : Deliverable s id p) (htyp : p.typ = 6) (hready : s.inboxReady p = true) :
    execInboxDelivery id s = .next ((s.received id p).serveInbox p) := by
  simp only [execInboxDelivery, hd.1]
  rw [if_neg (by simp [hready])]
  exact deliver_eq hd (decide_eq_true htyp)

theorem execInboxDelivery_waits (hd : Deliverable s id p) (htyp : p.typ = 6) (hready : s.inboxReady p = false) :
    execInboxDelivery id s = .next (s.draw.2.modCluster p.home (fun x => x.bump 0xA0068 (Config.freeNat s.draw.1))) := by
  simp only [execInboxDelivery, hd.1]
  exact if_pos (by simp [htyp, hd.2, hready])

theorem serveInbox_large (href : s.refused p = false) (habs : s.absentAt p = false)
    (hlarge : bankBytes ((s.cluster p.home).inboxDesc p.dst.num p.inbox) < inboxSize p.payload.length) :
    s.serveInbox p = (s.modCluster p.home (fun x => x.bump 0xA0060 1)).respond p.home p 4 [] 0 := by
  rw [State.serveInbox, if_neg (by simp [href]), if_neg (by simp [habs]), if_pos hlarge]

theorem serveInbox_fits (href : s.refused p = false) (habs : s.absentAt p = false)
    (hfits : inboxSize p.payload.length ≤ bankBytes ((s.cluster p.home).inboxDesc p.dst.num p.inbox))
    (hput : ((s.core p.dstCore).inboxPut ((s.cluster p.home).inboxDesc p.dst.num p.inbox) p.inbox p).2 = 0) :
    s.serveInbox p = s.setCore p.dstCore
      ((s.core p.dstCore).inboxPut ((s.cluster p.home).inboxDesc p.dst.num p.inbox) p.inbox p).1 := by
  rw [State.serveInbox, if_neg (by simp [href]), if_neg (by simp [habs]), if_neg (Nat.not_lt.mpr hfits)]
  exact if_pos hput

end Sys2Proof.Machine

open Sys2Proof Sys2Proof.Machine

/-- Settles O39: copies answered by generation (R126), and deliveries into a bank with room, too small, or full (R297). -/
theorem copiesAndInboxes : Obligations.CopiesAndInboxes := by
  unfold Obligations.CopiesAndInboxes
  intro s id slot gen p s1 c k d size hd href habs
  refine ⟨fun htyp hfetch hkind => ⟨fun hslot hgen herr => ?_, fun hgen => ?_⟩,
    fun htyp hkind href' habs' => ⟨fun hroom hfits hdrain herr => ?_, fun hlarge => ?_, fun hroom => ?_⟩⟩
  · show Answers (execRetainedCopyFetch id s) s p 3 0 _ _
    refine .of_respond ((execRetainedCopyFetch_eq hd htyp hfetch href habs hkind).trans
      (congrArg _ (State.serveFetch_copy (s := s1) hslot hgen herr))) rfl ?_ rfl
    rw [State.responseTo_typ, htyp]; rfl
  · show Answers (execRetainedCopyFetch id s) s p 3 1 _ _
    refine .of_respond ((execRetainedCopyFetch_eq hd htyp hfetch href habs hkind).trans
      (congrArg _ (State.serveFetch_absent (s := s1) hgen))) rfl ?_ rfl
    rw [State.responseTo_typ, htyp]; rfl
  · obtain ⟨hput, hfill, hdr⟩ := Core.inboxPut_fills (p := p) (d := d) herr hdrain
    show Gives (execInboxDelivery id s) _
    refine ⟨_, (execInboxDelivery_eq hd htyp (by simp [State.inboxReady, hroom])).trans
      (congrArg _ (serveInbox_fits (s := s1) href habs hfits hput)), ?_⟩
    dsimp only
    rw [State.core_setCore_same]
    exact ⟨hfill, hdr, rfl⟩
  · have hroom : s.inboxRoom p = true := by
      simp only [State.inboxRoom, Bool.or_eq_true, decide_eq_true_eq]
      exact .inr hlarge
    show Answers (execInboxDelivery id s) s p 4 4 _ _
    refine .of_respond ((execInboxDelivery_eq hd htyp (by simp [State.inboxReady, hroom])).trans
      (congrArg _ (serveInbox_large (s := s1) href habs hlarge))) rfl ?_ rfl
    rw [State.responseTo_typ, htyp]; rfl
  · show Gives (execInboxDelivery id s) _
    exact ⟨_, execInboxDelivery_waits hd htyp (by simp [State.inboxReady, hroom, href', habs']), rfl, rfl⟩

end

section
/-! SUPPORT. Responses at the core that asked (R126, R129, R130, R202, R205, R347). -/

namespace Sys2Proof.Machine

variable {s : State} {id key txn status : Nat} {p : Packet} {k : Core} {o : MsgOp} {q : ReqPart} {d : List Byte}

/-! ### Operations of one part -/

theorem Core.raise_ops (k : Core) (cause detail : Nat) : (k.raise cause detail).ops = k.ops := by
  obtain ⟨counts, h⟩ := k.raise_eq_with_counts cause detail
  rw [h]; rfl

theorem Core.raise_rk (k : Core) (cause detail : Nat) : (k.raise cause detail).rk = k.rk := by
  obtain ⟨counts, h⟩ := k.raise_eq_with_counts cause detail
  rw [h]; rfl

theorem Core.raise_faulted (k : Core) (cause detail : Nat) : (k.raise cause detail).faulted = true := by
  obtain ⟨counts, h⟩ := k.raise_eq_with_counts cause detail
  rw [h]; rfl

theorem MsgOp.part_single (hparts : o.parts = [q]) (htxn : q.txn = txn) (hdone : q.done = false) : o.part txn = q := by
  simp [part, hparts, htxn, hdone]

/-- An operation of one part with its answer. -/
def MsgOp.answered (o : MsgOp) (q : ReqPart) (d : List Byte) (failed : Bool) : MsgOp :=
  { o with parts := [{ q with done := true, data := d }], failed := failed }

/-- The answer of its only part completes an operation. -/
theorem Core.answerPart_single (k : Core) (key : Nat) (hparts : o.parts = [q]) (htxn : q.txn = txn) (hdone : q.done = false)
    (status : Nat) (d : List Byte) :
    k.answerPart key o txn status d =
      (let k1 := match statusCause status with
        | some c => k.raise c q.addr
        | none => k
      { k1 with ops := k1.ops.del key }.complete (o.answered q d (o.failed || status ≠ 0))) := by
  simp only [answerPart, MsgOp.part_single hparts htxn hdone]
  simp only [hparts, hdone, htxn, List.map_cons, List.map_nil, Bool.not_false, decide_true, Bool.and_self, if_true,
    List.all_cons, List.all_nil]
  rfl

theorem Core.answerPart_done (k : Core) (key : Nat) (hparts : o.parts = [q]) (htxn : q.txn = txn) (hdone : q.done = false)
    (hfailed : o.failed = false) (d : List Byte) :
    k.answerPart key o txn 0 d = { k with ops := k.ops.del key }.complete (o.answered q d false) := by
  rw [k.answerPart_single key hparts htxn hdone, hfailed]
  rfl

/-- An answer with an error status raises its fault, and the operation does nothing more. -/
theorem Core.answerPart_failed (k : Core) (key : Nat) (hparts : o.parts = [q]) (htxn : q.txn = txn) (hdone : q.done = false)
    {cause : Nat} (hcause : statusCause status = some cause) (hstatus : status ≠ 0) (d : List Byte) :
    k.answerPart key o txn status d = { k.raise cause q.addr with ops := k.ops.del key } := by
  rw [k.answerPart_single key hparts htxn hdone, hcause]
  have hfail : (o.failed || decide (status ≠ 0)) = true := by simp [hstatus]
  rw [hfail]
  dsimp only
  rw [Core.raise_ops]
  rfl

/-- An operation whose only part is answered has that part's bytes. -/
theorem MsgOp.answered_data (o : MsgOp) (q : ReqPart) (d : List Byte) (b : Bool) :
    (o.answered q d b).parts.flatMap (·.data) = d := by
  simp [answered]

/-! ### Rekindle fetches -/

/-- A rekindle after one of its fetches has been answered (R126, R129, R130). -/
def Rekindle.fetched (r : Rekindle) (b : Bool) (status : Nat) (d : List Byte) (cycle : Nat) : Rekindle :=
  let r1 := { r with waitN := r.waitN - 1, lastCycle := max r.lastCycle cycle, timedOut := false }
  match status with
  | 0 => if b then { r1 with bufB := some d } else { r1 with bufA := some d }
  | 3 => { r1 with uncorrectable := true }
  | _ => { r1 with fellBack := true }

theorem Rekindle.fetched_waitN (r : Rekindle) (b : Bool) (status : Nat) (d : List Byte) (cycle : Nat) :
    (r.fetched b status d cycle).waitN = r.waitN - 1 ∧ (r.fetched b status d cycle).lastCycle = max r.lastCycle cycle := by
  unfold fetched
  split
  · cases b <;> exact ⟨rfl, rfl⟩
  · exact ⟨rfl, rfl⟩
  · exact ⟨rfl, rfl⟩

/-- On a status of neither success nor an uncorrectable copy the multiply falls back (R129). -/
theorem Rekindle.fetched_other (r : Rekindle) (b : Bool) (d : List Byte) (cycle : Nat) (h0 : status ≠ 0) (h3 : status ≠ 3) :
    r.fetched b status d cycle =
      { r with waitN := r.waitN - 1, lastCycle := max r.lastCycle cycle, timedOut := false, fellBack := true } := by
  unfold fetched
  split
  · exact absurd rfl h0
  · exact absurd rfl h3
  · rfl

theorem Core.answerFetch_leaves {r : Rekindle} (hrk : k.rk = some r) (key ga : Nat) (b : Bool) (status : Nat) (d : List Byte)
    (cycle : Nat) : (k.answerFetch key ga b status d cycle).ops = k.ops.del key ∧
      (k.answerFetch key ga b status d cycle).rk = some (r.fetched b status d cycle) := by
  simp only [answerFetch, hrk]
  split
  · exact ⟨rfl, rfl⟩
  · exact ⟨Core.raise_ops _ _ _, Core.raise_rk _ _ _⟩
  · next h0 h3 => exact ⟨rfl, by rw [r.fetched_other b d cycle h0 h3]⟩

theorem Core.answerFetch_uncorrectable {r : Rekindle} (hrk : k.rk = some r) (key ga : Nat) (b : Bool) (d : List Byte) (cycle : Nat) :
    k.answerFetch key ga b 3 d cycle = { k with ops := k.ops.del key, rk := some (r.fetched b 3 d cycle) }.raise 0x11 ga := by
  simp only [answerFetch, hrk]
  rfl

/-! ### Responses that are delivered -/

/-- The bytes that a response of a type carries to the operation of one part. -/
def Packet.carried (p : Packet) (q : ReqPart) : List Byte :=
  if p.typ = 3 then readBytes q p else if p.typ = 5 then leBytes 4 p.auxB else []

/-- A core's response answers the part that it is of. -/
theorem State.core_takeResponse (hkind : p.dst.kind = 0)
    (hop : (s.core (p.home * 32 + p.dst.num)).opOf p.txn = some (key, o)) (hpart : o.part p.txn = q) :
    (s.takeResponse p).core (p.home * 32 + p.dst.num) =
      (s.core (p.home * 32 + p.dst.num)).answerPart key o p.txn p.status (p.carried q) := by
  rw [takeResponse, if_pos hkind]
  simp only [coreResponse, hop, hpart]
  exact State.core_setCore_same _ _ _

theorem State.forFetch_eq (hkind : p.dst.kind = 0)
    (hop : (s.core (p.home * 32 + p.dst.num)).opOf p.txn = some (key, o)) : s.forFetch p = o.isFetch := by
  simp [forFetch, hkind, hop]

theorem execRekindleFetchResponse_eq {cycle : Nat} {b : Bool} (hd : Deliverable s id p) (htyp : p.typ = 3) (hkind : p.dst.kind = 0)
    (hop : (s.core (p.home * 32 + p.dst.num)).opOf p.txn = some (key, o)) (ho : o.kind = .fetch b) :
    execRekindleFetchResponse id cycle s = .next ((s.received id p).setCore (p.home * 32 + p.dst.num)
      ((s.core (p.home * 32 + p.dst.num)).answerFetch key o.ga b p.status p.payload cycle)) := by
  have hfetch : o.isFetch = true := by simp [MsgOp.isFetch, ho]
  refine (deliver_eq hd (by simp [htyp, State.forFetch_eq hkind hop, hfetch])).trans ?_
  have hop' : ((s.received id p).core (p.home * 32 + p.dst.num)).opOf p.txn = some (key, o) := hop
  simp only [hop', ho]
  rfl

end Sys2Proof.Machine

open Sys2Proof Sys2Proof.Machine

/-- Settles O37: the answer of an operation's only part completes it (R205), and a fetch is noted in its rekindle (R126). -/
theorem responsesAtTheCore : Obligations.ResponsesAtTheCore := by
  unfold Obligations.ResponsesAtTheCore
  intro s id cycle key p o q r b c k k1 hd hkind hop hparts htxn hdone
  have hpart := MsgOp.part_single hparts htxn hdone
  have hcore : ((s.received id p).takeResponse p).core c = k.answerPart key o p.txn p.status (p.carried q) :=
    State.core_takeResponse (s := s.received id p) hkind hop hpart
  refine ⟨fun htyp hst ho hfailed hlen hpay => ?_, fun htyp hst ho hfailed => ?_, fun htyp hst ho hfailed => ?_,
    fun cause hcause hfetch htyp => ?_, fun htyp ho hrk => ?_⟩
  · have hnofetch : s.forFetch p = false := by rw [State.forFetch_eq hkind hop, MsgOp.isFetch, ho]
    refine ⟨_, deliver_eq hd (by simp [htyp, hnofetch]), hcore.trans ?_⟩
    rw [hst, k.answerPart_done key hparts htxn hdone hfailed, Packet.carried, if_pos htyp, readBytes, if_pos (by omega),
      Core.complete, MsgOp.answered_data]
    simp only [MsgOp.answered, ho]
    rfl
  · refine ⟨_, deliver_eq hd (by simp [htyp]), hcore.trans ?_⟩
    rw [hst, k.answerPart_done key hparts htxn hdone hfailed, Core.complete]
    rcases ho with ho | ho <;> simp only [MsgOp.answered, ho] <;> rfl
  · refine ⟨_, deliver_eq hd (by simp [htyp]), hcore.trans ?_⟩
    rw [hst, k.answerPart_done key hparts htxn hdone hfailed, Packet.carried, if_neg (by omega), if_pos htyp,
      Core.complete, MsgOp.answered_data]
    simp only [MsgOp.answered, ho]
    rfl
  · have hstatus : statusCause p.status = some cause ∧ p.status ≠ 0 := by
      rcases hcause with ⟨h, rfl⟩ | ⟨h, rfl⟩ | ⟨h, rfl⟩ <;> rw [h] <;> exact ⟨rfl, by decide⟩
    exact ⟨_, deliver_eq hd (by simp [htyp]),
      hcore.trans (k.answerPart_failed key hparts htxn hdone hstatus.1 hstatus.2 _)⟩
  · refine ⟨_, execRekindleFetchResponse_eq hd htyp hkind hop ho, ?_⟩
    obtain ⟨hops, hrk'⟩ := Core.answerFetch_leaves hrk key o.ga b p.status p.payload cycle
    obtain ⟨hwait, hlast⟩ := r.fetched_waitN b p.status p.payload cycle
    rw [State.core_setCore_same]
    refine ⟨hops, _, hrk', hwait, hlast, ?_, ?_, fun h3 => ?_, fun h0 h3 => by rw [r.fetched_other b _ _ h0 h3]⟩
    · rintro h0 rfl
      rw [h0]; exact ⟨rfl, rfl⟩
    · rintro h0 rfl
      rw [h0]; exact ⟨rfl, rfl⟩
    · rw [h3, show (s.core c).answerFetch key o.ga b 3 p.payload cycle = _ from
        Core.answerFetch_uncorrectable hrk key o.ga b p.payload cycle]
      exact ⟨rfl, Core.raise_faulted _ _ _, rfl⟩

end

section
/-! SUPPORT. Nodes of the message plane after the operations on them (R318 to R320, R331, R352). -/

namespace Sys2Proof.Machine

variable {s : State} {k : Nat}

/-! ### One node changed -/

/-- What an update of a node keeps of it, every node keeps. -/
theorem State.modNode_keeps {α : Type} (π : Node → α) (s : State) {k : Nat} {g : Node → Node} (hg : ∀ x, π (g x) = π x) (j : Nat) :
    π ((s.modNode k g).node j) = π (s.node j) := by
  by_cases h : j = k
  · rw [h, node_modNode_same, hg]
  · rw [node_modNode_ne s g h]

@[simp] theorem Node.out_setOut (x : Node) (q : Nat) (o : LinkOut) : (x.setOut q o).out q = o := SMap.get_put_same _ _ _ _
@[simp] theorem Node.in_setIn (x : Node) (q : Nat) (i : LinkIn) : (x.setIn q i).in_ q = i := SMap.get_put_same _ _ _ _

/-! ### Operations that leave the nodes as they are, or but for their broadcast buffers -/

theorem State.node_collect (s : State) (id j : Nat) : (s.collect id).node j = s.node j := by
  unfold collect
  split
  · split <;> rfl
  · rfl

theorem State.node_collects (l : List Nat) (s : State) (j : Nat) : (l.foldl (fun s id => s.collect id) s).node j = s.node j :=
  foldl_pred (P := fun t : State => t.node j = s.node j) (fun t id h => (t.node_collect id j).trans h) l rfl

theorem State.node_notePeak (s : State) (k port j : Nat) : (s.notePeak k port).node j = s.node j := rfl

theorem State.node_modPacket (s : State) (id : Nat) (g : Packet → Packet) (j : Nat) : (s.modPacket id g).node j = s.node j := by
  unfold modPacket
  split <;> rfl

theorem State.node_portCount (s : State) (k port off n j : Nat) : (s.portCount k port off n).node j = s.node j := by
  unfold portCount
  split <;> rfl

/-- What does not speak of broadcast buffers, the release of one keeps. -/
theorem State.freeBc_keeps {α : Type} (π : Node → α) (hbc : ∀ x bc, π { x with bc := bc } = π x) (s : State) (k j : Nat) :
    π ((s.freeBc k).node j) = π (s.node j) := by
  unfold freeBc
  split
  · rfl
  · split
    · rw [node_collect]; exact modNode_keeps π s (fun x => hbc x none) j
    · rfl

theorem State.cutBc_keeps {α : Type} (π : Node → α) (hbc : ∀ x bc, π { x with bc := bc } = π x) (s : State) (k j : Nat) :
    π ((s.cutBc k).node j) = π (s.node j) := by
  unfold cutBc
  split
  · rfl
  · rw [freeBc_keeps π hbc]
    split <;> exact modNode_keeps π s (fun x => hbc x _) j

/-! ### Links that go down -/

/-- What an input does with packets that are cut leaves the outputs of every node as they are. -/
theorem State.outs_endCut (s : State) (k port j : Nat) : ((s.endCut k port).node j).outs = (s.node j).outs := by
  have hbc : ∀ (x : Node) bc, ({ x with bc := bc } : Node).outs = x.outs := fun _ _ => rfl
  unfold endCut
  dsimp only
  generalize hs1 : List.foldl _ s _ = s1
  have hopen : (s1.node j).outs = (s.node j).outs := by
    rw [← hs1]
    refine foldl_pred (P := fun t : State => (t.node j).outs = (s.node j).outs) ?_ _ rfl
    intro t e h
    rw [node_modPacket]
    exact (modNode_keeps Node.outs t (g := fun x => x.setBuf port e.1 (x.buf port e.1 ++ [cutFlit e.2 e.1])) (fun _ => rfl) j).trans h
  generalize hs2 : s1.modNode k _ = s2
  have hin : (s2.node j).outs = (s.node j).outs := by
    rw [← hs2]
    exact (modNode_keeps Node.outs s1 (g := fun x => x.setIn port { LinkIn.reset with freed := [] }) (fun _ => rfl) j).trans hopen
  generalize hs3 : (if k < 8064 then s2.notePeak k port else s2) = s3
  have h3 : (s3.node j).outs = (s.node j).outs := by rw [← hs3]; split <;> exact hin
  split
  · rw [cutBc_keeps Node.outs hbc]; exact h3
  · exact h3

/-- A direction of a link that goes down changes outputs of its sender alone. -/
theorem State.outs_cutLink_ne (s : State) {k j : Nat} (q k' port' why : Nat) (h : j ≠ k) :
    ((s.cutLink k q k' port' why).node j).outs = (s.node j).outs := by
  unfold cutLink
  dsimp only
  rw [node_collects, freeBc_keeps Node.outs (fun _ _ => rfl), node_modNode_ne _ _ h, outs_endCut, node_modNode_ne _ _ h]

theorem State.down_cutLink (s : State) (k q k' port' why : Nat) : (((s.cutLink k q k' port' why).node k).out q).down = why := by
  unfold cutLink
  dsimp only
  rw [node_collects, show ∀ x : Node, x.out q = x.outs.get LinkOut.reset q from fun _ => rfl,
    freeBc_keeps Node.outs (fun _ _ => rfl), node_modNode_same]
  show ((Node.setOut _ q _).out q).down = why
  rw [Node.out_setOut]
  show ((State.node _ k).outs.get LinkOut.reset q).down = why
  rw [outs_endCut, node_modNode_same]
  exact congrArg LinkOut.down (SMap.get_put_same _ _ _ _)

/-- A link that goes down is down at both ends. -/
theorem State.down_downLink {q k' q' : Nat} (hpeer : linkPeer k q = some (k', q')) (hne : k' ≠ k) (why : Nat) :
    (((s.downLink k q why).node k).out q).down = why ∧ (((s.downLink k q why).node k').out q').down = why := by
  have hnode : ∀ j, (s.downLink k q why).node j = ((s.cutLink k q k' q' why).cutLink k' q' k q why).node j := fun j => by
    simp only [downLink, hpeer]
    split <;> rfl
  rw [hnode, hnode]
  refine ⟨?_, State.down_cutLink _ _ _ _ _ _⟩
  show (Node.outs _ |>.get LinkOut.reset q).down = why
  rw [State.outs_cutLink_ne _ _ _ _ _ (Ne.symm hne)]
  exact s.down_cutLink k q k' q' why

/-- The report paths of ports are no part of the network. -/
theorem State.checkPath_net (s : State) (k : Nat) : (s.checkPath k).net = s.net :=
  foldl_pred (P := fun t : State => t.net = s.net) (f := State.applyPath) (fun _ _ h => h) _ rfl

end Sys2Proof.Machine

end

section
/-! SUPPORT. Flits that fail their check, links that go down, and requests that are given up (R318 to R320, R341, R345). -/

namespace Sys2Proof.Machine

variable {s : State} {k port k0 q0 c txn key : Nat} {err : BitVec 303} {f : Flit × Nat} {u : Requester} {o : MsgOp}

/-! ### A flit that fails its check -/

theorem execFlitNak_eq (hk : k < 8088) (hpeer : linkPeer k port = some (k0, q0)) (hr : (s.nextFlit k0 q0).2 = some f) :
    execFlitNak k port err s = .next (when' (s.linkUp k0 q0 && (s.nextFlit k0 q0).1.fails k0 q0 k port f err) s
      (((s.nextFlit k0 q0).1.transmit k0 q0 (some f) err (s.fabricIn (regionOfCluster k0))).freeBc k0)) := by
  rw [execFlitNak, onNode_eq hk]
  simp only [hpeer, hr]

/-- The word in which a node's output sends a flit, with the bits inverted on its way. -/
def State.wordSent (s : State) (k q : Nat) (f : Flit × Nat) (err : BitVec 303) : LinkWord :=
  let i := (s.node k).in_ q
  (linkWord (some f.1) f.2 i.expect i.nakDue i.freed.head?).hit err

/-- Sending changes inputs of the sender alone, and no cluster. -/
theorem State.transmit_eq (hpeer : linkPeer k0 q0 = some (k, port)) (f : Flit × Nat) (err : BitVec 303) (now : Nat) :
    ∃ s1 : State, s.transmit k0 q0 (some f) err now = s1.takeWord k port (s.wordSent k0 q0 f err) (some f.1) now ∧
      (∀ j, j ≠ k0 → s1.node j = s.node j) ∧ s1.clusters = s.clusters ∧ s1.regions = s.regions := by
  simp only [transmit, hpeer]
  refine ⟨_, rfl, fun j hj => ?_, ?_, ?_⟩ <;> split
  · exact State.node_modNode_ne _ _ hj
  all_goals rfl

/-- A word whose `CRC` fails is discarded, counted, and draws a `NAK`. -/
theorem State.takeWord_crc {w : LinkWord} (h : w.crcOk = false) (g : Option Flit) (now : Nat) :
    (((s.takeWord k port w g now).node k).in_ port).bad = true ∧ (((s.takeWord k port w g now).node k).in_ port).nakDue = true ∧
      (k < 8064 → Sparse.rd ((s.takeWord k port w g now).cluster k).counts (0xA0120 + 64 * port) =
        Sparse.rd (s.cluster k).counts (0xA0120 + 64 * port) + 1) := by
  rw [takeWord, if_pos (by simp [h]), State.node_modNode_same, Node.in_setIn]
  refine ⟨rfl, rfl, fun hk => ?_⟩
  rw [State.cluster_modNode, portCount, if_neg (by omega), State.cluster_modCluster_same,
    show 0xA0100 + 64 * port + 0x20 = 0xA0120 + 64 * port by omega]
  exact Sparse.rd_wr_same _ _ _

/-- A flit that is not the next one expected is discarded. -/
theorem State.takeWord_seq {w : LinkWord} (h : w.crcOk = true) (g : Flit) (now : Nat)
    (hseq : w.seq ≠ ((s.node k).in_ port).expect) :
    (((s.takeWord k port w (some g) now).node k).in_ port).bad = true := by
  rw [takeWord, if_neg (by simp [h])]
  dsimp only
  have hin : ∀ g : Node → LinkOut, ((s.modNode k (fun x => x.setOut port (g x))).node k).in_ port = (s.node k).in_ port := fun g => by
    rw [State.node_modNode_same]; rfl
  rw [hin, if_neg hseq, State.node_modNode_same, Node.in_setIn]

/-- The input that discards a flit awaits it again. -/
theorem State.transmit_fails (hpeer : linkPeer k0 q0 = some (k, port)) (hne : k0 ≠ k) (hfails : s.fails k0 q0 k port f err = true)
    (now : Nat) :
    (((s.transmit k0 q0 (some f) err now).node k).in_ port).bad = true ∧
      (k < 8064 → (s.wordSent k0 q0 f err).crcOk = false →
        Sparse.rd ((s.transmit k0 q0 (some f) err now).cluster k).counts (0xA0120 + 64 * port) =
          Sparse.rd (s.cluster k).counts (0xA0120 + 64 * port) + 1 ∧
        (((s.transmit k0 q0 (some f) err now).node k).in_ port).nakDue = true) := by
  obtain ⟨s1, he, hnode, hclusters, hregions⟩ := State.transmit_eq (s := s) hpeer f err now
  rw [he]
  cases hcrc : (s.wordSent k0 q0 f err).crcOk with
  | false =>
    obtain ⟨hbad, hnak, hcount⟩ := State.takeWord_crc (s := s1) (k := k) (port := port) hcrc (some f.1) now
    have hcluster : s1.cluster k = s.cluster k := by unfold State.cluster State.mpSeedFor; rw [hclusters, hregions]
    exact ⟨hbad, fun hk _ => ⟨(hcount hk).trans (by rw [hcluster]), hnak⟩⟩
  | true =>
    have hseq : (s.wordSent k0 q0 f err).seq ≠ ((s1.node k).in_ port).expect := by
      have h : (!(s.wordSent k0 q0 f err).crcOk || decide ((s.wordSent k0 q0 f err).seq ≠ ((s.node k).in_ port).expect)) = true :=
        hfails
      rw [hcrc] at h
      rw [hnode k (Ne.symm hne)]
      simpa using h
    exact ⟨State.takeWord_seq hcrc f.1 now hseq, fun _ h => absurd h (by decide)⟩

/-! ### Links that go down -/

theorem execLinkDown_eq {n : BitVec 64} (hk : k < 8088) :
    execLinkDown k port n s = .next (
      if !s.linkUp k port then s
      else if 16 ≤ ((s.node k).out port).tries then (s.downLink k port 1).checkPath k
      else if !((s.node k).out port).replay.isEmpty && ((s.node k).out port).since + 4096 ≤ n.toNat then
        (s.downLink k port 2).checkPath k
      else s) := onNode_eq hk

theorem State.down_checkPath {q : Nat} (hpeer : linkPeer k q = some (k0, q0)) (hne : k0 ≠ k) (why : Nat) :
    ((((s.downLink k q why).checkPath k).node k).out q).down = why ∧
      ((((s.downLink k q why).checkPath k).node k0).out q0).down = why := by
  have hnode : ∀ j, ((s.downLink k q why).checkPath k).node j = (s.downLink k q why).node j := fun j => by
    unfold State.node; rw [State.checkPath_net]
  rw [hnode, hnode]
  exact State.down_downLink hpeer hne why

/-! ### Requests that wait, or are given up -/

theorem onRequester_eq {g : State → State} (h : u.exists_ = true) : onRequester u s g = .next (g s) := if_pos h

/-- A held request goes on, as the latest of its unit. -/
theorem execHazardRelease_eq {id waited : Nat} {p : Packet} (hu : u.exists_ = true)
    (hfind : s.net.packets.find? (fun e => e.2.held && e.2.requester = u && !s.hazard e.2) = some (id, p)) :
    execHazardRelease u waited s = .next (State.modCluster { s.setPacket id { p with held := false, order := s.net.nextId } with
      net := { (s.setPacket id { p with held := false, order := s.net.nextId }).net with nextId := s.net.nextId + 1 } } p.origin
      (fun x => x.bump 0xA0058 waited)) := by
  rw [execHazardRelease, onRequester_eq hu]
  simp only [hfind]
  rfl

/-- A request that is given up is counted in its unit's router. -/
theorem execRequestTimeout_eq {t : State} (hu : u.exists_ = true) (hsent : s.wasSent u txn = true) (ht : s.giveUp u txn = some t) :
    execRequestTimeout u txn s = .next (t.modCluster (s.senderOf u).1 (fun x => x.bump 0xA0038 1)) := by
  rw [execRequestTimeout, onRequester_eq hu, if_pos hsent, ht]

theorem Cluster.rd_counts_bump (x : Cluster) (off n : Nat) :
    Sparse.rd (x.bump off n).counts off = Sparse.rd x.counts off + BitVec.ofNat 64 n := Sparse.rd_wr_same _ _ _

/-- A core's request that is given up, by its operation. -/
theorem State.giveUp_core (hopen : s.ctlOpen (.core c) txn = false) (hop : (s.core c).opOf txn = some (key, o)) :
    s.giveUp (.core c) txn = some (s.setCore c (if o.isFetch then (s.core c).fetchTimeout key
      else (s.core c).answerPart key o txn 5 [])) := by
  rw [giveUp, if_neg (by simp [hopen])]
  simp only [hop, Option.map_some]

end Sys2Proof.Machine

open Sys2Proof Sys2Proof.Machine

/-- Settles O36: what a failed check does at its input, a failed link at both ends, and a request that waits no longer. -/
theorem linksAndTimeouts : Obligations.LinksAndTimeouts := by
  unfold Obligations.LinksAndTimeouts
  intro s k port k0 q0 id c waited txn key err n f u p o r i w x gone
  have hgone : ∀ (t : State) (v : Requester), t.clusters = s.clusters → t.regions = s.regions →
      gone (t.modCluster (s.senderOf v).1 (fun x => x.bump 0xA0038 1)) v := fun t v hclusters hregions => by
    have hcluster : t.cluster (s.senderOf v).1 = s.cluster (s.senderOf v).1 := by
      unfold State.cluster State.mpSeedFor; rw [hclusters, hregions]
    dsimp only [gone]
    rw [State.cluster_modCluster_same, Cluster.rd_counts_bump, hcluster]
    rfl
  refine ⟨fun hk hpeer hpeer' hne => ⟨fun hup hr hfails => ?_, fun hr hfails => ?_, fun hup htries => ?_,
    fun hup htries hrep hsince => ?_, fun htries hsince => ?_⟩, fun hu hfind => ?_, fun hu hsent hopen => ?_,
    fun hc hsent hopen hop => ⟨fun hfetch => ?_, fun hfetch => ?_⟩⟩
  · obtain ⟨hbad, hcount⟩ := State.transmit_fails (s := r.1) (f := f) hpeer' hne hfails (s.fabricIn (regionOfCluster k0))
    refine ⟨_, (execFlitNak_eq hk hpeer hr).trans (congrArg _ (when'_true (by rw [hup]; exact hfails))), ?_⟩
    have hin : ∀ t : State, ((t.freeBc k0).node k).in_ port = (t.node k).in_ port := fun t =>
      State.freeBc_keeps (fun y => y.in_ port) (fun _ _ => rfl) t k0 k
    dsimp only
    rw [hin, State.cluster_freeBc]
    exact ⟨hbad, hcount⟩
  · exact (execFlitNak_eq hk hpeer hr).trans (congrArg _ (when'_false (by rw [hfails, Bool.and_false])))
  · refine ⟨_, (execLinkDown_eq hk).trans (congrArg _ ((if_neg (by simp [hup])).trans (if_pos htries))), ?_⟩
    exact State.down_checkPath hpeer hne 1
  · refine ⟨_, (execLinkDown_eq hk).trans (congrArg _ ((if_neg (by simp [hup])).trans ((if_neg (Nat.not_le.mpr htries)).trans (if_pos ?_)))), ?_⟩
    · simpa using ⟨hrep, hsince⟩
    · exact State.down_checkPath hpeer hne 2
  · refine (execLinkDown_eq hk).trans (congrArg _ ?_)
    split
    · rfl
    · rw [if_neg (Nat.not_le.mpr htries), if_neg (by rw [decide_eq_false (Nat.not_le.mpr hsince), Bool.and_false]; decide)]
  · refine ⟨_, execHazardRelease_eq hu hfind, rfl, SMap.look_put_same _ _ _, ?_⟩
    dsimp only
    rw [State.cluster_modCluster_same, Cluster.rd_counts_bump]
    rfl
  · refine ⟨_, execRequestTimeout_eq hu hsent (if_pos hopen), State.ctlOpen_closeCtl _ _ _, rfl, hgone _ u rfl rfl⟩
  · refine ⟨_, execRequestTimeout_eq (decide_eq_true hc) hsent (State.giveUp_core hopen hop), ?_, hgone _ _ rfl rfl⟩
    rw [State.core_modCluster, State.core_setCore_same, hfetch]
    rfl
  · refine ⟨_, execRequestTimeout_eq (decide_eq_true hc) hsent (State.giveUp_core hopen hop), ?_, hgone _ _ rfl rfl, fun y hy => ?_⟩
    all_goals rw [State.core_modCluster, State.core_setCore_same, hfetch]
    · rfl
    · refine ⟨_, congrArg (Option.map _) hy, rfl, rfl, rfl⟩

end

section
/-! SUPPORT. What a node's output does in a cycle: counts of stalls, flits that leave their buffers, routes (R331 to R333, R360). -/

namespace Sys2Proof.Machine

variable {s t : State} {k port vc q : Nat}

/-! ### Counts of a router's ports -/

/-- The states differ in clusters alone, and in those neither in how they route nor in a count below the ports' blocks. -/
def State.CountsPorts (s t : State) : Prop :=
  (∃ cl, t = { s with clusters := cl }) ∧
    ∀ j, (t.cluster j).mpWindow = (s.cluster j).mpWindow ∧
      ∀ off, off < 0xA0100 → Sparse.rd (t.cluster j).counts off = Sparse.rd (s.cluster j).counts off

theorem State.CountsPorts.refl (s : State) : s.CountsPorts s := ⟨⟨s.clusters, rfl⟩, fun _ => ⟨rfl, fun _ _ => rfl⟩⟩

theorem State.CountsPorts.trans {u : State} (h : s.CountsPorts t) (h' : t.CountsPorts u) : s.CountsPorts u := by
  obtain ⟨⟨cl, rfl⟩, hst⟩ := h
  obtain ⟨⟨cl', rfl⟩, htu⟩ := h'
  exact ⟨⟨cl', rfl⟩, fun j => ⟨(htu j).1.trans (hst j).1, fun off hoff => ((htu j).2 off hoff).trans ((hst j).2 off hoff)⟩⟩

theorem State.modCluster_countsPorts {g : Cluster → Cluster} (hw : ∀ x, (g x).mpWindow = x.mpWindow)
    (hc : ∀ x off, off < 0xA0100 → Sparse.rd (g x).counts off = Sparse.rd x.counts off) : s.CountsPorts (s.modCluster k g) :=
  ⟨⟨_, rfl⟩, fun j => ⟨modCluster_keeps Cluster.mpWindow s hw j,
    fun off hoff => modCluster_keeps (fun x => Sparse.rd x.counts off) s (fun x => hc x off hoff) j⟩⟩

theorem State.portCount_countsPorts (s : State) (k port off n : Nat) : s.CountsPorts (s.portCount k port off n) := by
  unfold portCount
  split
  · exact .refl s
  · exact modCluster_countsPorts (fun _ => rfl) fun x o ho => Sparse.rd_wr_ne (by omega)

theorem State.stallOthers_countsPorts (s : State) (k q : Nat) (won : Option Nat) : s.CountsPorts (s.stallOthers k q won) := by
  unfold stallOthers
  split
  · exact .refl s
  · exact foldl_pred (P := fun t => s.CountsPorts t) (fun t i h => h.trans (t.portCount_countsPorts k i 0x10 1)) _ (.refl s)

theorem State.CountsPorts.node (h : s.CountsPorts t) (j : Nat) : t.node j = s.node j := by
  obtain ⟨⟨cl, rfl⟩, -⟩ := h; rfl

theorem State.CountsPorts.net (h : s.CountsPorts t) : t.net = s.net := by
  obtain ⟨⟨cl, rfl⟩, -⟩ := h; rfl

/-- Where a flit wants to go does not depend on the counts. -/
theorem State.CountsPorts.wants (h : s.CountsPorts t) (k port vc : Nat) : t.wants k port vc = s.wants k port vc := by
  obtain ⟨⟨cl, rfl⟩, hw⟩ := h
  have hside : ∀ (p : Packet) b, State.sidestep { s with clusters := cl } p b = s.sidestep p b := fun p b => by
    simp only [sidestep, Cluster.islandX0, Cluster.islandX1, Cluster.partX0, Cluster.partX1, (hw p.at_).1]
    rfl
  have hlink : ∀ j q, State.linkUp { s with clusters := cl } j q = s.linkUp j q := fun _ _ => rfl
  have hattach : ∀ n x, State.attachFor { s with clusters := cl } n x = s.attachFor n x := fun _ _ => rfl
  have hrouter : ∀ vc (p : Packet), State.routerPlan { s with clusters := cl } k vc p = s.routerPlan k vc p := fun vc p => by
    simp only [routerPlan, hside, hlink]
  have hplan : ∀ (p : Packet), State.plan { s with clusters := cl } k port vc p = s.plan k port vc p := fun p => by
    simp only [plan, hrouter, hattach]
  simp only [State.wants, hplan]
  rfl

/-! ### Buffers of a node -/

@[simp] theorem Node.buf_setBuf (x : Node) (port vc : Nat) (l : List Flit) : (x.setBuf port vc l).buf port vc = l := by
  cases l with
  | nil => simp [setBuf, buf, SMap.get, SMap.look_del]
  | cons f r => simp [setBuf, buf]

@[simp] theorem Node.out_setBuf (x : Node) (port vc q : Nat) (l : List Flit) : (x.setBuf port vc l).out q = x.out q := rfl
@[simp] theorem Node.in_setBuf (x : Node) (port vc q : Nat) (l : List Flit) : (x.setBuf port vc l).in_ q = x.in_ q := rfl
@[simp] theorem Node.feed_setBuf (x : Node) (port vc : Nat) (l : List Flit) : (x.setBuf port vc l).feed = x.feed := rfl
@[simp] theorem Node.buf_setIn (x : Node) (q : Nat) (i : LinkIn) (port vc : Nat) : (x.setIn q i).buf port vc = x.buf port vc := rfl
@[simp] theorem Node.out_setIn (x : Node) (q : Nat) (i : LinkIn) (j : Nat) : (x.setIn q i).out j = x.out j := rfl
@[simp] theorem Node.buf_setOut (x : Node) (q : Nat) (o : LinkOut) (port vc : Nat) : (x.setOut q o).buf port vc = x.buf port vc := rfl
@[simp] theorem Node.in_setOut (x : Node) (q : Nat) (o : LinkOut) (j : Nat) : (x.setOut q o).in_ j = x.in_ j := rfl
@[simp] theorem Node.buf_setRoute (x : Node) (p v : Nat) (f : Flit) (o v' port vc : Nat) :
    (x.setRoute p v f o v').buf port vc = x.buf port vc := rfl
@[simp] theorem Node.out_setRoute (x : Node) (p v : Nat) (f : Flit) (o v' q : Nat) : (x.setRoute p v f o v').out q = x.out q := rfl

/-- A node whose front flit of an input's channel has left. -/
def Node.popped (x : Node) (port vc : Nat) : Node :=
  let y := x.setBuf port vc (x.buf port vc).tail
  if port < 4 then y.setIn port { y.in_ port with freed := (y.in_ port).freed ++ [vc] } else y

@[simp] theorem Node.buf_popped (x : Node) (port vc : Nat) : (x.popped port vc).buf port vc = (x.buf port vc).tail := by
  unfold popped
  dsimp only
  split <;> simp

@[simp] theorem Node.out_popped (x : Node) (port vc q : Nat) : (x.popped port vc).out q = x.out q := by
  unfold popped
  dsimp only
  split <;> rfl

theorem Node.feed_popped (x : Node) (port vc : Nat) : (x.popped port vc).feed = x.feed := by
  unfold popped
  dsimp only
  split <;> rfl

/-- With nothing injected behind it, a flit just leaves its buffer. -/
theorem State.popFlit_eq (hfeed : port = 4 → (s.node k).feed.get [] vc = []) :
    s.popFlit k port vc = s.modNode k (fun x => x.popped port vc) := by
  show (if port = 4 then (s.modNode k (fun x => x.popped port vc)).refill k vc else s.modNode k (fun x => x.popped port vc)) = _
  split
  · next h =>
    have hempty : ((s.modNode k (fun x => x.popped port vc)).node k).feed.get [] vc = [] := by
      rw [State.node_modNode_same, Node.feed_popped]; exact hfeed h
    unfold refill
    dsimp only
    rw [hempty, if_pos (by simp)]
  · rfl

/-! ### Injected flits -/

/-- What stands at a node's local input of a channel, and behind it as far as that has no room. -/
def Node.localIn (x : Node) (vc : Nat) : List Flit := x.buf 4 vc ++ x.feed.get [] vc

/-- A list that is kept only where it is not empty is read back. -/
theorem SMap.get_moved {α : Type} (m : SMap (List α)) (vc : Nat) (l : List α) :
    (if l.isEmpty then m.del vc else m.put vc l).get [] vc = l := by
  cases l with
  | nil => simp [SMap.get, SMap.look_del]
  | cons a r => simp

/-- A node whose local input has taken flits, with the rest behind them. -/
def Node.moved (x : Node) (vc : Nat) (taken rest : List Flit) : Node :=
  { x.setBuf 4 vc (x.buf 4 vc ++ taken) with feed := if rest.isEmpty then x.feed.del vc else x.feed.put vc rest }

/-- How many flits a local input takes of those that are injected (R331). -/
def State.localRoom (s : State) (k vc : Nat) : Nat :=
  match localDepth k vc with
  | some d => d - ((s.node k).buf 4 vc).length
  | none => ((s.node k).feed.get [] vc).length

/-- A local input filled with up to `room` flits. -/
def State.refilled (s : State) (k vc room : Nat) : State :=
  let fs := (s.node k).feed.get [] vc
  if room = 0 || fs.isEmpty then s
  else
    let s1 := s.modNode k (fun x => x.moved vc (fs.take room) (fs.drop room))
    if 8064 ≤ k then s1 else (s1.portCount k 4 8 (fs.take room).length).notePeak k 4

theorem State.refill_eq (s : State) (k vc : Nat) : s.refill k vc = s.refilled k vc (s.localRoom k vc) := rfl

/-- Filling a local input moves its flits up, and loses none. -/
theorem State.localIn_refill (s : State) (k vc : Nat) : ((s.refill k vc).node k).localIn vc = (s.node k).localIn vc := by
  rw [refill_eq]
  generalize s.localRoom k vc = room
  unfold refilled
  dsimp only
  split
  · rfl
  · have hmoved : ∀ x : Node, (x.moved vc (((s.node k).feed.get [] vc).take room) (((s.node k).feed.get [] vc).drop room)).localIn vc =
        x.buf 4 vc ++ (s.node k).feed.get [] vc := fun x => by
      rw [Node.localIn, Node.moved, SMap.get_moved]
      show (x.setBuf 4 vc _).buf 4 vc ++ _ = _
      rw [Node.buf_setBuf, List.append_assoc, List.take_append_drop]
    split
    · rw [State.node_modNode_same]; exact hmoved _
    · rw [State.node_notePeak, State.node_portCount, State.node_modNode_same]; exact hmoved _

/-- A local input without a limit takes all that is injected. -/
theorem State.feed_refill (hdepth : localDepth k vc = none) : ((s.refill k vc).node k).feed.get [] vc = [] := by
  rw [refill_eq, show s.localRoom k vc = ((s.node k).feed.get [] vc).length by rw [localRoom, hdepth]]
  unfold refilled
  dsimp only
  split
  · next h => simpa using h
  · have hmoved : ∀ x : Node, (x.moved vc (((s.node k).feed.get [] vc).take ((s.node k).feed.get [] vc).length)
        (((s.node k).feed.get [] vc).drop ((s.node k).feed.get [] vc).length)).feed.get [] vc = [] := fun x => by
      rw [Node.moved, SMap.get_moved, List.drop_length]
    split
    · rw [State.node_modNode_same]; exact hmoved _
    · rw [State.node_notePeak, State.node_portCount, State.node_modNode_same]; exact hmoved _

end Sys2Proof.Machine

end

section
/-! SUPPORT. The injection of packets (R334, R339 to R342, R352 to R354, R363). -/

namespace Sys2Proof.Machine

variable {s : State} {k id : Nat} {p : Packet}

/-! ### Packets that enter a node -/

theorem State.enter_packet (s : State) (k id : Nat) (p : Packet) :
    (s.enter k id p).net.packets.look id = some { p with injected := true } := SMap.look_put_same _ _ _

/-- The flits of a packet that enters stand at the local input, or behind it. -/
theorem State.enter_localIn (s : State) (k id : Nat) (p : Packet) :
    ((s.enter k id p).node k).localIn p.vc = (s.node k).localIn p.vc ++ p.toFlits id p.vc := by
  show (((s.modNode k (fun x => { x with feed := x.feed.put p.vc (x.feed.get [] p.vc ++ p.toFlits id p.vc) })).refill k p.vc).node
    k).localIn p.vc = _
  rw [State.localIn_refill, State.node_modNode_same]
  show (s.node k).buf 4 p.vc ++ SMap.get (SMap.put _ _ _) [] p.vc = _
  rw [SMap.get_put_same, ← List.append_assoc]
  rfl

theorem State.enter_feed (id : Nat) (p : Packet) (hdepth : localDepth k p.vc = none) :
    ((s.enter k id p).node k).feed.get [] p.vc = [] :=
  State.feed_refill (s := s.modNode k (fun x => { x with feed := x.feed.put p.vc (x.feed.get [] p.vc ++ p.toFlits id p.vc) })) hdepth

/-- What the memory controller does with a request that passes is no part of the network. -/
theorem State.passController_net (s : State) (p : Packet) : (s.passController p).net = s.net := by
  unfold passController
  dsimp only
  split
  · rfl
  · split
    · split <;> rfl
    · split
      · rfl
      · split <;> rfl

theorem State.node_passController (s : State) (p : Packet) (j : Nat) : (s.passController p).node j = s.node j := by
  unfold State.node; rw [passController_net]

/-! ### What becomes of a packet at its source -/

/-- A packet that its unit has injected goes to its destination, by the leg and the intermediate that are drawn for it. -/
def Packet.routed (p : Packet) (leg midX midY : Nat) : Packet := { p with leg := leg, midX := midX, midY := midY }

theorem State.injectLocal_eq (s : State) (id : Nat) (p : Packet) :
    ∃ x leg mx my, s.injectLocal id p =
      ((s.setCluster p.at_ x).enter p.at_ id (p.routed leg mx my)).passController (p.routed leg mx my) := by
  unfold injectLocal
  dsimp only
  split <;> exact ⟨_, _, _, _, rfl⟩

/-- The better of what was found so far and the next one, by a rank of which the least is best. -/
def keepBest {α : Type} (r : α → Nat) (best : Option α) (c : α) : Option α :=
  match best with
  | none => some c
  | some b => if r c < r b then some c else some b

/-- Among candidates behind a first one, one of least rank is found. -/
theorem foldl_keepBest_some {α : Type} (r : α → Nat) (l : List α) (b : α) :
    ∃ c, l.foldl (keepBest r) (some b) = some c ∧ (c = b ∨ c ∈ l) ∧ r c ≤ r b ∧ ∀ d ∈ l, r c ≤ r d := by
  induction l generalizing b with
  | nil => exact ⟨b, rfl, .inl rfl, Nat.le_refl _, fun d hd => absurd hd List.not_mem_nil⟩
  | cons a l ih =>
    simp only [List.foldl_cons, keepBest]
    split
    · next h =>
      obtain ⟨c, hc, hmem, hle, hall⟩ := ih a
      refine ⟨c, hc, .inr ?_, by omega, fun d hd => ?_⟩
      · rcases hmem with rfl | hmem
        · exact List.mem_cons_self
        · exact List.mem_cons_of_mem _ hmem
      · rcases List.mem_cons.mp hd with rfl | hd
        · exact hle
        · exact hall d hd
    · next h =>
      obtain ⟨c, hc, hmem, hle, hall⟩ := ih b
      refine ⟨c, hc, hmem.imp_right (List.mem_cons_of_mem _), hle, fun d hd => ?_⟩
      rcases List.mem_cons.mp hd with rfl | hd
      · omega
      · exact hall d hd

/-- One of least rank is found among the candidates, if there is any. -/
theorem foldl_keepBest {α : Type} {r : α → Nat} {l : List α} {c : α} (h : l.foldl (keepBest r) none = some c) :
    c ∈ l ∧ ∀ d ∈ l, r c ≤ r d := by
  cases l with
  | nil => exact absurd h (by simp)
  | cons a l =>
    obtain ⟨c', hc, hmem, hle, hall⟩ := foldl_keepBest_some r l a
    obtain rfl : c = c' := Option.some.inj (h.symm.trans hc)
    refine ⟨List.mem_cons.mpr hmem, fun d hd => ?_⟩
    rcases List.mem_cons.mp hd with rfl | hd
    · exact hle
    · exact hall d hd

theorem foldl_keepBest_isSome {α : Type} (r : α → Nat) (l : List α) : (l.foldl (keepBest r) none).isSome = !l.isEmpty := by
  cases l with
  | nil => rfl
  | cons a l =>
    obtain ⟨c, hc, -⟩ := foldl_keepBest_some r l a
    show (l.foldl (keepBest r) (some a)).isSome = _
    rw [hc]; rfl

/-- The attach link of R354: among those that work, the one nearest to the column. -/
theorem State.attachFor_eq (s : State) (n x : Nat) :
    s.attachFor n x = ((List.range 4).filter (fun i => s.linkUp (engineNode n) i)).foldl
      (keepBest (fun i => dist (clusterX (portClusterAt n (3 * i + 1))) x)) none := by
  unfold attachFor
  congr 1
  funext best i
  cases best <;> rfl

/-- Whether there is an attach link does not depend on the column asked for. -/
theorem State.attachFor_isSome (s : State) (n x y : Nat) : (s.attachFor n x).isSome = (s.attachFor n y).isSome := by
  rw [attachFor_eq, attachFor_eq, foldl_keepBest_isSome, foldl_keepBest_isSome]

/-- The attach link that a packet takes works. -/
theorem State.linkUp_attachFor {n x i : Nat} (h : s.attachFor n x = some i) : s.linkUp (engineNode n) i = true := by
  rw [attachFor_eq] at h
  exact (List.mem_filter.mp (foldl_keepBest h).1).2

theorem State.injectPort_eq (hready : (s.attachFor p.src.num p.dstX).isSome = true) (id : Nat) :
    ∃ (t : State) (i leg mx my : Nat), s.injectPort id p = t.enter (engineNode p.src.num) id
        { p.byLink p.src.num i with at_ := engineNode p.src.num, leg := leg, midX := mx, midY := my } ∧
      t.net = s.net ∧ s.linkUp (engineNode p.src.num) i = true := by
  unfold injectPort
  dsimp only
  split
  · next h =>
    rw [s.attachFor_isSome p.src.num p.dstX, h] at hready
    exact absurd hready (by decide)
  · next i h =>
    refine ⟨_, i, _, _, _, rfl, ?_, State.linkUp_attachFor h⟩
    split <;> rfl

/-! ### Broadcasts -/

theorem Packet.flits_pos (p : Packet) : 0 < p.flits := by
  unfold flits; omega

/-- The tree's outputs do not depend on the packets or the counts. -/
theorem State.treeOuts_counted (s : State) (id : Nat) (p : Packet) (g : Cluster → Cluster) (hg : ∀ x, (g x).mpWindow = x.mpWindow)
    (k port : Nat) : ((s.setPacket id p).modCluster k g).treeOuts k port = s.treeOuts k port := by
  have hw : (((s.setPacket id p).modCluster k g).cluster k).mpWindow = (s.cluster k).mpWindow := by
    rw [State.cluster_modCluster_same, hg]; rfl
  unfold treeOuts
  dsimp only
  rw [hw]
  rfl

/-- A broadcast stands in its router's buffer whole, for every output of the tree (R352). -/
theorem State.injectBroadcast_leaves (s : State) (id : Nat) (p : Packet) (houts : s.treeOuts p.at_ 4 ≠ []) :
    (s.injectBroadcast id p).net.packets.look id = some { p with injected := true } ∧
      ∃ b, ((s.injectBroadcast id p).node p.at_).bc = some b ∧ b.id = id ∧ b.got = p.flits ∧
        b.outs = (s.treeOuts p.at_ 4).map (fun q => (q, 0)) := by
  have htree := s.treeOuts_counted id { p with injected := true } (fun x => (x.bump 0xA0020 1).bump 0xA0208 p.flits) (fun _ => rfl)
    p.at_ 4
  generalize hs1 : (s.setPacket id { p with injected := true }).modCluster p.at_
    (fun x => (x.bump 0xA0020 1).bump 0xA0208 p.flits) = s1 at htree
  have hlook : s1.net.packets.look id = some { p with injected := true } := by
    rw [← hs1]; exact SMap.look_put_same _ _ _
  generalize hs2 : (s1.bcHead p.at_ 4 id).modNode p.at_ (fun x => { x with bc := x.bc.map (fun b => { b with got := p.flits }) }) = s2
  have hbc : ∃ b, (s2.node p.at_).bc = some b ∧ b.id = id ∧ b.got = p.flits ∧ b.size = p.flits ∧
      b.outs = (s.treeOuts p.at_ 4).map (fun q => (q, 0)) := by
    rw [← hs2, State.node_modNode_same, State.bcHead, State.node_modNode_same, hlook, htree]
    exact ⟨_, rfl, rfl, rfl, rfl, rfl⟩
  have hnet : s2.net.packets = s1.net.packets := by rw [← hs2]; rfl
  have hfree : s.injectBroadcast id p = s2 := by
    obtain ⟨b, hb, -, -, hsize, hb_outs⟩ := hbc
    have hunfinished : b.finished = false := by
      obtain ⟨q, qs, hq⟩ := List.exists_cons_of_ne_nil houts
      have hpos := p.flits_pos
      simp [BcBuf.finished, hsize, hb_outs, hq, Nat.pos_iff_ne_zero.mp hpos]
    have : s.injectBroadcast id p = s2.freeBc p.at_ := by rw [← hs2, ← hs1]; rfl
    rw [this, State.freeBc, hb]
    exact if_neg (by simp [hunfinished])
  rw [hfree]
  obtain ⟨b, hb, hid, hgot, -, houts'⟩ := hbc
  exact ⟨by rw [hnet, hlook], b, hb, hid, hgot, houts'⟩

/-! ### The source router's choice -/

/-- The state in which the next place in the order of injection is taken. -/
def State.counted (s : State) : State := { s with net := { s.net with nextId := s.net.nextId + 1 } }

theorem execPacketInject_eq (hlook : s.net.packets.look id = some p) (hmay : s.mayInject p = true) :
    execPacketInject id s = .next (s.inject id p) := by
  simp only [execPacketInject, hlook, if_pos hmay]

/-- The aim of a packet is where it goes, whatever its place in the order. -/
theorem State.aim_order (s : State) (p : Packet) (n : Nat) : s.aim { p with order := n } = { s.aim p with order := n } := by
  unfold aim
  rw [show ({ p with order := n } : Packet).addressed = p.addressed from rfl]
  split <;> rfl

theorem State.aim_keeps (s : State) (p : Packet) :
    (s.aim p).typ = p.typ ∧ (s.aim p).src = p.src ∧ (s.aim p).at_ = p.at_ ∧ (s.aim p).payload = p.payload ∧ (s.aim p).txn = p.txn := by
  unfold aim
  split <;> exact ⟨rfl, rfl, rfl, rfl, rfl⟩

section
variable (habs : s.absentHere p = false) (hwait : ((p.addressed || p.configures) && s.hazard p) = false)
include habs hwait

theorem State.inject_broadcast (htyp : p.typ = 9) : s.inject id p = s.counted.injectBroadcast id { p with order := s.net.nextId } := by
  simp only [inject, habs, hwait, htyp]
  rfl

/-- A packet bound for beyond the island draws its answer, or is gone (R339). -/
theorem State.inject_outside (htyp : p.typ ≠ 9)
    (hout : ¬ ((s.cluster p.at_).islandX0 ≤ (s.aim p).dstX ∧ (s.aim p).dstX ≤ (s.cluster p.at_).islandX1)) :
    s.inject id p = if p.isRequest then
        (s.modCluster p.at_ (fun x => x.bump 0xA0030 1)).localAnswer id { s.aim p with order := s.net.nextId } 5
      else (s.modCluster p.at_ (fun x => x.bump 0xA0030 1)).dropPacket id := by
  have hbeyond : (s.aim p).dstX < (s.cluster (s.aim p).at_).islandX0 ∨ (s.cluster (s.aim p).at_).islandX1 < (s.aim p).dstX := by
    rw [(s.aim_keeps p).2.2.1]; omega
  have hreq : (s.aim p).isRequest = p.isRequest := by unfold Packet.isRequest; rw [(s.aim_keeps p).1]
  rw [inject, if_neg (by simp [habs]), if_neg (by rw [hwait]; decide), if_neg htyp]
  dsimp only
  rw [s.aim_order]
  refine (if_pos hbeyond).trans ?_
  rw [show ({ s.aim p with order := s.net.nextId } : Packet).isRequest = p.isRequest from hreq, (s.aim_keeps p).2.2.1]
  rfl

theorem State.inject_inside (htyp : p.typ ≠ 9)
    (hin : (s.cluster p.at_).islandX0 ≤ (s.aim p).dstX ∧ (s.aim p).dstX ≤ (s.cluster p.at_).islandX1) :
    s.inject id p = if (s.aim p).src.kind = 6 then s.counted.injectPort id { s.aim p with order := s.net.nextId }
      else s.counted.injectLocal id { s.aim p with order := s.net.nextId } := by
  have hwithin : ¬ ((s.aim p).dstX < (s.cluster (s.aim p).at_).islandX0 ∨ (s.cluster (s.aim p).at_).islandX1 < (s.aim p).dstX) := by
    rw [(s.aim_keeps p).2.2.1]; omega
  rw [inject, if_neg (by simp [habs]), if_neg (by rw [hwait]; decide), if_neg htyp]
  dsimp only
  rw [s.aim_order]
  refine (if_neg hwithin).trans ?_
  rw [counted]

end

end Sys2Proof.Machine

end

section
/-! SUPPORT. The cycles of a node's outputs (R316, R318, R331 to R335, R339, R356). -/

namespace Sys2Proof.Machine

variable {s t : State} {k q port vc vc' : Nat} {f : Flit} {rest : List Flit} {pl : Option Plan}

/-! ### What an arbiter grants -/

theorem State.arbiter_eq (s : State) (k q : Nat) :
    s.arbiter k q = ((s.before k q).filter (s.goes k q)).foldl (keepBest (fun c => rank ((s.node k).out q).last c.2.2)) none := by
  unfold arbiter
  dsimp only
  congr 1
  funext best c
  cases best <;> rfl

/-- A flit that alone stands before an output, and may go, is granted. -/
theorem State.arbiter_single {c : Nat × Nat × Nat} (hbefore : s.before k q = [c]) (hgoes : s.goes k q c = true) :
    s.arbiter k q = some c := by
  rw [arbiter_eq, hbefore, List.filter_cons_of_pos hgoes]
  rfl

theorem execPacketHop_link (hk : k < 8088) (hq : q < 4) : execPacketHop k q s = .next (when' (s.linkUp k q) s (s.linkCycle k q)) := by
  rw [execPacketHop, onNode_eq hk, if_neg (by omega)]

theorem execPacketHop_local (hk : k < 8088) : execPacketHop k 4 s = .next (s.localCycle k) := by
  rw [execPacketHop, onNode_eq hk, if_pos rfl]

/-! ### The word of a flit -/

theorem crc16_lt (l : List Bool) : crc16 l < 65536 := by
  refine foldl_pred (P := fun c : Nat => c < 65536) (fun c b _ => ?_) l (by decide)
  dsimp only
  split
  · exact Nat.xor_lt_two_pow (n := 16) (Nat.mod_lt _ (by decide)) (by decide)
  · exact Nat.mod_lt _ (by decide)

theorem LinkWord.hit_zero (w : LinkWord) : w.hit 0 = w := by
  simp [hit]

/-- The low 31 bits of a flit's sideband (R316). -/
def sideLow (f : Flit) (seq ack : Nat) (nak : Bool) (credit : Option Nat) : Nat :=
  seq % 256 * 2 ^ 23 + ack % 256 * 2 ^ 15 + b2n nak * 2 ^ 14 +
    (f.vc % 32 * 2 ^ 9 + b2n f.head * 2 ^ 8 + b2n f.tail * 2 ^ 7 + b2n f.cut * 2 ^ 6) +
    (match credit with | some v => v % 32 * 2 + 1 | none => 0)

theorem linkWord_eq (f : Flit) (seq ack : Nat) (nak : Bool) (credit : Option Nat) :
    linkWord (some f) seq ack nak credit = ⟨f.bits, BitVec.ofNat 47
      (crc16 (crcOver f.bits (sideLow f seq ack nak credit)) * 2 ^ 31 + sideLow f seq ack nak credit)⟩ := rfl

theorem b2n_lt_two (b : Bool) : b2n b < 2 := by cases b <;> decide

/-- The fields of the sideband stand one above the other. -/
theorem sideLow_bounds (f : Flit) (seq ack : Nat) (nak : Bool) (credit : Option Nat) :
    sideLow f seq ack nak credit < 2 ^ 31 ∧ sideLow f seq ack nak credit / 2 ^ 23 = seq % 256 := by
  have h1 := b2n_lt_two nak
  have h2 := b2n_lt_two f.head
  have h3 := b2n_lt_two f.tail
  have h4 := b2n_lt_two f.cut
  have hcredit : (match credit with | some v => v % 32 * 2 + 1 | none => 0) < 64 := by
    cases credit with
    | none => decide
    | some v => show v % 32 * 2 + 1 < 64; omega
  unfold sideLow
  generalize (match credit with | some v => v % 32 * 2 + 1 | none => 0) = back at *
  omega

/-- A word on which nothing was inverted passes its `CRC`, and carries its sequence number. -/
theorem linkWord_checks (f : Flit) {seq : Nat} (ack : Nat) (nak : Bool) (credit : Option Nat) (hseq : seq < 256) :
    (linkWord (some f) seq ack nak credit).crcOk = true ∧ (linkWord (some f) seq ack nak credit).seq = seq := by
  obtain ⟨hlow, hdiv⟩ := sideLow_bounds f seq ack nak credit
  rw [linkWord_eq]
  generalize sideLow f seq ack nak credit = low at *
  have hcrc := crc16_lt (crcOver f.bits low)
  have hfld : fld (BitVec.ofNat 47 (crc16 (crcOver f.bits low) * 2 ^ 31 + low)) 0 31 = low := by
    simp only [fld, nfld, Nat.shiftRight_eq_div_pow, BitVec.toNat_ofNat]; omega
  constructor
  · simp only [LinkWord.crcOk, hfld, decide_eq_true_eq]
    simp only [fld, nfld, Nat.shiftRight_eq_div_pow, BitVec.toNat_ofNat]; omega
  · simp only [LinkWord.seq, fld, nfld, Nat.shiftRight_eq_div_pow, BitVec.toNat_ofNat]; omega

/-! ### A flit that leaves its buffer for a link -/

theorem Flit.onward_keeps (f : Flit) (vc : Nat) (pl : Option Plan) :
    (f.onward vc pl).id = f.id ∧ (f.onward vc pl).vc = vc ∧ (f.onward vc pl).head = f.head ∧ (f.onward vc pl).tail = f.tail := by
  unfold onward
  split <;> exact ⟨rfl, rfl, rfl, rfl⟩

theorem State.node_takePlan (s : State) (k id : Nat) (pl : Option Plan) (j : Nat) : (s.takePlan k id pl).node j = s.node j := by
  unfold takePlan
  split
  · dsimp only
    split
    · exact State.node_portCount _ _ _ _ _ _
    · rfl
  · rfl

theorem LinkOut.served_keeps (o : LinkOut) (vc : Nat) : (o.served vc).replay = o.replay ∧ (o.served vc).seq = o.seq := by
  unfold served
  split <;> exact ⟨rfl, rfl⟩

/-- A flit that is granted leaves its buffer for the replay buffer of its output (R318, R332). -/
theorem State.takeFlit_leaves (hbuf : (s.node k).buf port vc = f :: rest) (hwants : s.wants k port vc = some (q, vc', pl))
    (hfeed : port = 4 → (s.node k).feed.get [] vc = []) :
    ∃ u g, s.takeFlit k q port vc = (u, some g) ∧ g = f.onward vc' pl ∧ (u.node k).buf port vc = rest ∧
      ((u.node k).out q).replay = ((s.node k).out q).replay ++ [g] ∧ ((u.node k).out q).seq = (((s.node k).out q).seq + 1) % 256 ∧
      ∀ j, j ≠ k → u.node j = s.node j := by
  have hfeed' : port = 4 → ((s.takePlan k f.id pl).node k).feed.get [] vc = [] := by rw [State.node_takePlan]; exact hfeed
  refine ⟨_, _, by simp only [takeFlit, hbuf, hwants]; rfl, rfl, ?_, ?_, ?_, fun j hj => ?_⟩
  all_goals rw [State.popFlit_eq hfeed']
  · rw [State.node_modNode_same, State.node_modNode_same, State.node_takePlan]
    simp [hbuf]
  · rw [State.node_modNode_same, State.node_modNode_same, State.node_takePlan]
    simp [(LinkOut.served_keeps _ _).1, LinkOut.push]
  · rw [State.node_modNode_same, State.node_modNode_same, State.node_takePlan]
    simp [(LinkOut.served_keeps _ _).2, LinkOut.push]
  · rw [State.node_modNode_ne _ _ hj, State.node_modNode_ne _ _ hj, State.node_takePlan]

/-- A link's output with nothing to resend sends the flit that is granted (R318). -/
theorem State.nextFlit_single (hbuf : (s.node k).buf port vc = f :: rest) (hwants : s.wants k port vc = some (q, vc', pl))
    (hfeed : port = 4 → (s.node k).feed.get [] vc = []) (hresend : ((s.node k).out q).resend = none)
    (hreplay : ((s.node k).out q).replay.length < 32) (harb : s.arbiter k q = some (port, vc, vc')) (hbc : s.bcNext k q = none) :
    ∃ u g, s.nextFlit k q = (u, some (g, ((s.node k).out q).seq)) ∧ g = f.onward vc' pl ∧ (u.node k).buf port vc = rest ∧
      ((u.node k).out q).replay = ((s.node k).out q).replay ++ [g] ∧ ((u.node k).out q).seq = (((s.node k).out q).seq + 1) % 256 ∧
      ∀ j, j ≠ k → u.node j = s.node j := by
  have hstall := s.stallOthers_countsPorts k q (some port)
  rw [← hstall.node k] at hbuf hfeed
  rw [← hstall.wants k port vc] at hwants
  obtain ⟨u, g, htake, hg, hrest, hrep, hseq, hother⟩ := State.takeFlit_leaves hbuf hwants hfeed
  rw [hstall.node k] at hrep hseq
  refine ⟨u.portCount k q 0 1, g, ?_, hg, ?_⟩
  · have hnew : s.newFlit k q = (u, some g) := by simp only [newFlit, harb, hbc, htake]
    simp only [nextFlit, hresend, Option.bind_none, if_neg (Nat.not_le.mpr hreplay), hnew]
  · simp only [State.node_portCount]
    exact ⟨hrest, hrep, hseq, fun j hj => (hother j hj).trans (hstall.node j)⟩

/-! ### A flit that the other end takes -/

/-- A flit that is accepted stands in its channel's buffer (R318, R331). -/
theorem State.accept_leaves (s : State) (k port : Nat) {f : Flit} (hvc : f.vc ≠ 20) :
    ((s.accept k port f).node k).buf port f.vc = (s.node k).buf port f.vc ++ [f] ∧
      ∀ j, j ≠ k → (s.accept k port f).node j = s.node j := by
  have hsame : ∀ u : State, (∀ j, u.node j = ((s.portCount k port 8 1).modNode k (fun x =>
      (x.setBuf port f.vc (x.buf port f.vc ++ [f])).setIn port { x.in_ port with
        open_ := if f.tail then (x.in_ port).open_.del f.vc else (x.in_ port).open_.put f.vc f.id })).node j) →
      (u.node k).buf port f.vc = (s.node k).buf port f.vc ++ [f] ∧ ∀ j, j ≠ k → u.node j = s.node j := fun u hu => by
    refine ⟨?_, fun j hj => ?_⟩
    · rw [hu, State.node_modNode_same, State.node_portCount]
      simp
    · rw [hu, State.node_modNode_ne _ _ hj, State.node_portCount]
  refine hsame _ fun j => ?_
  rw [accept, if_neg hvc]
  dsimp only
  split <;> split
  · rw [State.node_modPacket]
  · rfl
  · rw [State.node_notePeak, State.node_modPacket]
  · rw [State.node_notePeak]

/-- A word with the flit expected next is taken. -/
theorem State.takeWord_accepts {w : LinkWord} (hcrc : w.crcOk = true) (hseq : w.seq = ((s.node k).in_ port).expect) {g : Flit}
    (hvc : g.vc ≠ 20) (now : Nat) :
    ((s.takeWord k port w (some g) now).node k).buf port g.vc = (s.node k).buf port g.vc ++ [g] ∧
      ∀ j, j ≠ k → (s.takeWord k port w (some g) now).node j = s.node j := by
  rw [takeWord, if_neg (by simp [hcrc])]
  dsimp only
  generalize hs1 : s.modNode k _ = s1
  have hin : (s1.node k).in_ port = (s.node k).in_ port := by rw [← hs1, State.node_modNode_same]; rfl
  have hbuf : (s1.node k).buf port g.vc = (s.node k).buf port g.vc := by rw [← hs1, State.node_modNode_same]; rfl
  have hother : ∀ j, j ≠ k → s1.node j = s.node j := fun j hj => by rw [← hs1, State.node_modNode_ne _ _ hj]
  rw [if_pos (hin ▸ hseq)]
  obtain ⟨hacc, hacc'⟩ := (s1.modNode k (fun x => x.setIn port { (s1.node k).in_ port with
    expect := (((s1.node k).in_ port).expect + 1) % 256, bad := false })).accept_leaves k port hvc
  refine ⟨hacc.trans ?_, fun j hj => (hacc' j hj).trans ((State.node_modNode_ne _ _ hj).trans (hother j hj))⟩
  rw [State.node_modNode_same, Node.buf_setIn, hbuf]

/-- A flit on which nothing is inverted crosses the link. -/
theorem State.transmit_crosses {k' q' : Nat} (hpeer : linkPeer k q = some (k', q')) (hne : k' ≠ k) {g : Flit} {seq : Nat}
    (hseq : seq < 256) (hexp : ((s.node k').in_ q').expect = seq) (hvc : g.vc ≠ 20) (now : Nat) :
    ((s.transmit k q (some (g, seq)) 0 now).node k').buf q' g.vc = (s.node k').buf q' g.vc ++ [g] ∧
      (∀ p v, ((s.transmit k q (some (g, seq)) 0 now).node k).buf p v = (s.node k).buf p v) ∧
      ∀ p, ((s.transmit k q (some (g, seq)) 0 now).node k).out p = (s.node k).out p := by
  obtain ⟨hcrc, hwseq⟩ := linkWord_checks g ((s.node k).in_ q).expect ((s.node k).in_ q).nakDue ((s.node k).in_ q).freed.head? hseq
  have hsent : s.transmit k q (some (g, seq)) 0 now = (s.modNode k (fun x => x.setIn q { (s.node k).in_ q with
      nakDue := false, freed := ((s.node k).in_ q).freed.tail })).takeWord k' q' (linkWord (some g) seq
      ((s.node k).in_ q).expect ((s.node k).in_ q).nakDue ((s.node k).in_ q).freed.head?) (some g) now := by
    simp only [transmit, hpeer, LinkWord.hit_zero, Option.map_some, Option.getD_some, hcrc, if_true]
  rw [hsent]
  generalize hs1 : s.modNode k (fun x => x.setIn q { (s.node k).in_ q with
      nakDue := false, freed := ((s.node k).in_ q).freed.tail }) = s1
  have hpeer' : s1.node k' = s.node k' := by rw [← hs1, State.node_modNode_ne _ _ hne]
  have hown : s1.node k = (s.node k).setIn q { (s.node k).in_ q with
      nakDue := false, freed := ((s.node k).in_ q).freed.tail } := by rw [← hs1, State.node_modNode_same]
  obtain ⟨htake, hother⟩ := State.takeWord_accepts (s := s1) (k := k') (port := q') hcrc
    (by rw [hwseq, hpeer', hexp]) hvc now
  rw [hother k (Ne.symm hne), hown]
  exact ⟨htake.trans (by rw [hpeer']), fun _ _ => rfl, fun _ => rfl⟩

end Sys2Proof.Machine

end

section
/-! SUPPORT. The local side of a node (R333, R339, R356). -/

namespace Sys2Proof.Machine

variable {s : State} {k port vc vc' : Nat} {f : Flit} {rest : List Flit} {pl : Option Plan} {p : Packet}

/-- What a partition's fault leaves of the network and of the clusters. -/
theorem State.channelCut_keeps (s : State) (p : Packet) :
    (s.channelCut p).net = s.net ∧ ∀ j, (s.channelCut p).cluster j = s.cluster j := by
  unfold channelCut
  dsimp only
  split
  · unfold faultPart
    split <;> exact ⟨rfl, fun _ => rfl⟩
  · exact ⟨rfl, fun _ => rfl⟩

/-- A packet that cannot go on is counted, and a request among them answered (R339). -/
theorem State.unreachable_leaves (s : State) (k : Nat) (p : Packet) :
    (∀ j, (s.unreachable k p).node j = s.node j) ∧
      Sparse.rd ((s.unreachable k p).cluster k).counts 0xA0030 = Sparse.rd (s.cluster k).counts 0xA0030 + 1 ∧
      (p.isRequest = true → p.cut = false → ∃ r, (s.unreachable k p).net.packets.look s.net.nextId = some r ∧ r.status = 5 ∧
        r.dst = p.src ∧ r.txn = p.txn) := by
  obtain ⟨hnet, hcluster⟩ := s.channelCut_keeps p
  have hcount : Sparse.rd (((s.channelCut p).modCluster k (fun x => x.bump 0xA0030 1)).cluster k).counts 0xA0030 =
      Sparse.rd (s.cluster k).counts 0xA0030 + 1 := by
    rw [State.cluster_modCluster_same, Cluster.rd_counts_bump, hcluster]
    rfl
  have hnode : ∀ j, ((s.channelCut p).modCluster k (fun x => x.bump 0xA0030 1)).node j = s.node j := fun j => by
    rw [State.node_modCluster]; unfold State.node; rw [hnet]
  have hid : ((s.channelCut p).modCluster k (fun x => x.bump 0xA0030 1)).net.nextId = s.net.nextId := congrArg Net.nextId hnet
  unfold unreachable
  dsimp only
  split
  · exact ⟨hnode, hcount, fun _ _ => by
      rw [← hid]
      exact ⟨_, State.addPacket_look _ _, rfl, rfl, rfl⟩⟩
  · next h => exact ⟨hnode, hcount, fun hreq hcut => absurd (by simp [hreq, hcut]) h⟩

theorem State.look_collect_ne (s : State) {id n : Nat} (h : n ≠ id) :
    (s.collect id).net.packets.look n = s.net.packets.look n := by
  unfold collect
  split
  · split
    · exact (SMap.look_del _ _ _).trans (if_neg h)
    · rfl
  · rfl

theorem State.cluster_collect (s : State) (id j : Nat) : (s.collect id).cluster j = s.cluster j := by
  obtain ⟨net, h⟩ := s.collect_eq_with_net id
  rw [h]; rfl

/-- The local side has taken a flit: its input's buffer, its route and the turn. -/
def Node.tookLocal (x : Node) (port vc vc' : Nat) (f : Flit) (out : Nat) : Node :=
  { x with routes := x.routes.put (32 * port + vc) ⟨out, vc, f.id⟩ }.setOut 4 ((x.out 4).served vc')

/-- A packet's last flit lands (R333, R356). -/
theorem State.localFlit_lands (hbuf : (s.node k).buf port vc = f :: rest) (hwants : s.wants k port vc = some (4, vc', some .land))
    (hfeed : port = 4 → (s.node k).feed.get [] vc = []) (htail : f.tail = true) :
    s.localFlit k port vc = (((s.modNode k (fun x => x.popped port vc)).modNode k (fun x => x.tookLocal port vc vc f 4)).portCount
      k 4 0 1).localTail k port vc f.id := by
  have hhead : s.localHead k f.id (some .land) = s := rfl
  simp only [localFlit, hbuf, hwants, hhead, State.popFlit_eq hfeed, htail, if_true]
  rfl

theorem State.localTail_whole {id : Nat} (hlook : s.net.packets.look id = some p) (hcut : p.cut = false) (hk : k < 8064) :
    s.localTail k port vc id = (s.setPacket id { p with landed := true }).modCluster k (fun x => x.bump 0xA0028 1) := by
  simp only [localTail, hlook, hcut, Bool.false_eq_true, if_false]
  exact if_neg (by omega)

/-- A packet that cannot go on is taken away flit by flit (R339). -/
theorem State.localFlit_unreachable (hbuf : (s.node k).buf port vc = f :: rest)
    (hwants : s.wants k port vc = some (4, vc', some .unreachable)) (hlook : s.net.packets.look f.id = some p)
    (hfeed : port = 4 → (s.node k).feed.get [] vc = []) :
    (∀ j, ((s.localFlit k port vc).cluster j) = ((s.unreachable k p).cluster j)) ∧
      ∀ n, n ≠ f.id → (s.localFlit k port vc).net.packets.look n = (s.unreachable k p).net.packets.look n := by
  have hfeed' : port = 4 → ((s.unreachable k p).node k).feed.get [] vc = [] := by
    rw [(s.unreachable_leaves k p).1]; exact hfeed
  have hhead : s.localHead k f.id (some .unreachable) = s.unreachable k p := by simp only [localHead, hlook]
  simp only [localFlit, hbuf, hwants, hhead, State.popFlit_eq hfeed', Bool.false_eq_true, if_false]
  split
  · exact ⟨fun j => State.cluster_collect _ _ _, fun n hn => State.look_collect_ne _ hn⟩
  · exact ⟨fun _ => rfl, fun _ _ => rfl⟩

theorem State.localCycle_single (harb : s.arbiter k 4 = some (port, vc, vc')) :
    s.localCycle k = (s.stallOthers k 4 (some port)).localFlit k port vc := by
  simp only [localCycle, harb]

/-- A packet of a port engine that may be injected finds an attach link (R354). -/
theorem State.attachFor_ready (hmay : s.mayInject p = true) (hsrc : p.src.kind = 6) : (s.attachFor p.src.num p.dstX).isSome = true := by
  have hready : s.sourceReady p = true := by
    simp only [mayInject, Bool.and_eq_true] at hmay
    exact hmay.1.2
  rw [sourceReady, if_pos hsrc] at hready
  exact hready

/-- A flit at the front of its buffer goes where its router forwards it and the output takes it. -/
theorem State.goes_front {q : Nat} (hbuf : (s.node k).buf port vc = f :: rest) (hfwd : f.head = true → s.forwards k f.id = true)
    (htakes : q = 4 ∨ s.takes k q vc' f.head = true) : s.goes k q (port, vc, vc') = true := by
  have hhead : (!f.head || s.forwards k f.id) = true := by
    cases hh : f.head
    · rfl
    · exact hfwd hh
  simp only [goes, hbuf, hhead, Bool.true_and, Bool.or_eq_true, decide_eq_true_eq]
  exact htakes

end Sys2Proof.Machine

open Sys2Proof Sys2Proof.Machine

/-- Settles O35: what becomes of a packet at its source, and of a flit in a cycle of its node's output. -/
theorem packetMovement : Obligations.PacketMovement := by
  unfold Obligations.PacketMovement
  constructor
  · intro s id p a x waits inside localIn inj hlook hmay
    have hinj : ∀ {P : State → Prop}, P (s.inject id p) → inj P := fun hP => ⟨_, execPacketInject_eq hlook hmay, hP⟩
    refine ⟨fun habs => hinj ?_, fun habs => ⟨fun hwait => ?_, fun hwait htyp hout => hinj ?_, fun hwait htyp hin hsrc => hinj ?_,
      fun hwait htyp hin hsrc => hinj ?_, fun hwait htyp houts => hinj ?_⟩⟩
    · have hans : s.inject id p = s.localAnswer id p 1 := if_pos habs
      rw [hans]
      refine ⟨_, SMap.look_put_same _ _ _, rfl, rfl, ?_, rfl, rfl⟩
      have h6 : p.typ ≠ 6 := by
        intro h6
        rw [State.absentHere] at habs
        simp [Packet.addressed, Packet.configures, h6] at habs
      exact if_neg h6
    · refine (execPacketInject_eq hlook hmay).trans (congrArg _ ?_)
      exact (if_neg (by simp [habs])).trans (if_pos hwait)
    · rw [State.inject_outside habs hwait htyp hout]
      refine ⟨fun hreq => ?_, fun hreq => ?_⟩
      · rw [if_neg (by simp [hreq])]
        exact (SMap.look_del _ _ _).trans (if_pos rfl)
      · rw [if_pos hreq]
        exact ⟨_, SMap.look_put_same _ _ _, rfl, rfl, (s.aim_keeps p).2.1, (s.aim_keeps p).2.2.2.2⟩
    · rw [State.inject_inside habs hwait htyp hin, if_neg (by rw [(s.aim_keeps p).2.1]; exact hsrc)]
      obtain ⟨y, leg, mx, my, he⟩ := s.counted.injectLocal_eq id { s.aim p with order := s.net.nextId }
      obtain ⟨-, -, hat, hpay, htxn⟩ := s.aim_keeps p
      rw [he]
      refine ⟨_, (congrArg (fun n : Net => n.packets.look id) (State.passController_net _ _)).trans (State.enter_packet _ _ _ _),
        rfl, hat, rfl, rfl, rfl, hpay, htxn, ?_, fun hport hlocal => ?_⟩
      · refine (congrArg (fun y : Node => y.localIn _) (State.node_passController _ _ _)).trans ?_
        rw [← hat]
        exact State.enter_localIn _ _ id _
      · refine (congrArg (fun y : Node => y.feed.get [] _) (State.node_passController _ _ _)).trans ?_
        rw [← hat] at hport hlocal ⊢
        exact State.enter_feed id _ (if_neg (by
          show ¬ (decide (_ < 8064) && portRouter _) = true
          rw [hport, Bool.and_false]; decide))
    · rw [State.inject_inside habs hwait htyp hin, if_pos (by rw [(s.aim_keeps p).2.1]; exact hsrc)]
      obtain ⟨-, hsrc', -, hpay, -⟩ := s.aim_keeps p
      have hready : (s.counted.attachFor (s.aim p).src.num (s.aim p).dstX).isSome = true := by
        rw [hsrc', s.counted.attachFor_isSome _ _ p.dstX]
        exact State.attachFor_ready hmay hsrc
      obtain ⟨t, i, leg, mx, my, he, hnet, hlink⟩ :=
        State.injectPort_eq (s := s.counted) (p := { s.aim p with order := s.net.nextId }) hready id
      have hnode : ∀ j, t.node j = s.node j := fun j => by unfold State.node; rw [hnet]; rfl
      rw [he]
      refine ⟨_, State.enter_packet _ _ _ _, rfl, congrArg (fun e : Endpoint => engineNode e.num) hsrc', ?_, hpay, ?_⟩
      · rw [← hsrc']; exact hlink
      · refine (State.enter_localIn _ _ id _).trans ?_
        rw [hnode]; rfl
    · rw [State.inject_broadcast habs hwait htyp]
      obtain ⟨hpk, b, hb, hid, hgot, houts'⟩ := s.counted.injectBroadcast_leaves id { p with order := s.net.nextId } houts
      exact ⟨_, b, hpk, rfl, hb, hid, hgot, houts'⟩
  · intro s k q k' q' port vc vc' f rest pl p o hop single hk
    refine ⟨fun c hc => ?_, fun hq hup => ?_, fun hq hup hpeer hne hresend hrep hbc hsingle htakes hvc hseq hexp => ?_,
      fun hq hsingle hlocal hpl htail hlook hcut => ?_, fun hq hsingle hpl hlook hlt => ?_⟩
    · rw [State.arbiter_eq] at hc
      obtain ⟨hmem, hmin⟩ := foldl_keepBest hc
      obtain ⟨hbefore, hgoes⟩ := List.mem_filter.mp hmem
      exact ⟨hbefore, hgoes, fun d hd hg => hmin d (List.mem_filter.mpr ⟨hd, hg⟩)⟩
    · exact (execPacketHop_link hk hq).trans (congrArg _ (when'_false hup))
    · obtain ⟨hbuf, hbefore, hwants, hfwd, hfeed⟩ := hsingle
      have hgoes : s.goes k q (port, vc, vc') = true := State.goes_front hbuf hfwd (.inr htakes)
      obtain ⟨u, g, hnext, hg, hrest, hrep', hseq', hother⟩ := State.nextFlit_single hbuf hwants hfeed hresend hrep
        (State.arbiter_single hbefore hgoes) hbc
      obtain ⟨hgid, hgvc, hghead, hgtail⟩ := f.onward_keeps vc' pl
      rw [← hg] at hgid hgvc hghead hgtail
      have hgvc20 : g.vc ≠ 20 := by omega
      have hexp' : ((u.node k').in_ q').expect = o.seq := by rw [hother k' hne]; exact hexp
      obtain ⟨hcross, hbufs, houts⟩ := State.transmit_crosses (s := u) hpeer hne hseq hexp' hgvc20
        (s.fabricIn (regionOfCluster k))
      refine ⟨_, (execPacketHop_link hk hq).trans (congrArg _ (when'_true hup)), ?_⟩
      have hcycle : s.linkCycle k q = (u.transmit k q (some (g, o.seq)) 0 (s.fabricIn (regionOfCluster k))).freeBc k := by
        rw [State.linkCycle, hnext]
      have hfbuf : ∀ (t : State) (j p v : Nat), ((t.freeBc k).node j).buf p v = (t.node j).buf p v := fun t j p v =>
        State.freeBc_keeps (fun y => y.buf p v) (fun _ _ => rfl) t k j
      have hfout : ∀ (t : State) (j p : Nat), ((t.freeBc k).node j).out p = (t.node j).out p := fun t j p =>
        State.freeBc_keeps (fun y => y.out p) (fun _ _ => rfl) t k j
      dsimp only
      rw [hcycle, hfbuf, hfout, hbufs, houts]
      refine ⟨hrest, g, ?_, hgid, hgvc, hghead, hgtail, hrep', hseq'⟩
      rw [hfbuf, ← hgvc, hcross, hother k' hne]
    · subst hq
      obtain ⟨hbuf, hbefore, hwants, hfwd, hfeed⟩ := hsingle
      have hgoes : s.goes k 4 (port, vc, vc') = true := State.goes_front hbuf hfwd (.inl rfl)
      have hstall := s.stallOthers_countsPorts k 4 (some port)
      refine ⟨_, (execPacketHop_local hk).trans (congrArg _ (State.localCycle_single (State.arbiter_single hbefore hgoes))), ?_⟩
      rw [hpl] at hwants
      rw [← hstall.node k] at hbuf hfeed
      rw [← hstall.wants k port vc] at hwants
      rw [← hstall.net] at hlook
      generalize s.stallOthers k 4 (some port) = s0 at *
      rw [State.localFlit_lands hbuf hwants hfeed htail]
      generalize hs1 : (s0.modNode k (fun x => x.popped port vc)).modNode k (fun x => x.tookLocal port vc vc f 4) = s1
      have hcount := s1.portCount_countsPorts k 4 0 1
      have hnode : (s1.node k).buf port vc = rest := by
        rw [← hs1, State.node_modNode_same, State.node_modNode_same]
        show ((s0.node k).popped port vc).buf port vc = rest
        rw [Node.buf_popped, hbuf]; rfl
      have hcl : ∀ j, s1.cluster j = s0.cluster j := fun j => by rw [← hs1, State.cluster_modNode, State.cluster_modNode]
      have hlook1 : s1.net.packets.look f.id = some p := by rw [← hs1]; exact hlook
      rw [← hcount.net] at hlook1
      rw [← hcount.node k] at hnode
      have hrd := (hcount.2 k).2 0xA0028 (by decide)
      generalize s1.portCount k 4 0 1 = s2 at *
      rw [State.localTail_whole hlook1 hcut hlocal]
      refine ⟨SMap.look_put_same _ _ _, hnode, ?_⟩
      rw [State.cluster_modCluster_same, Cluster.rd_counts_bump, State.cluster_setPacket, hrd, hcl,
        (hstall.2 k).2 0xA0028 (by decide)]
      rfl
    · subst hq
      obtain ⟨hbuf, hbefore, hwants, hfwd, hfeed⟩ := hsingle
      have hgoes : s.goes k 4 (port, vc, vc') = true := State.goes_front hbuf hfwd (.inl rfl)
      have hstall := s.stallOthers_countsPorts k 4 (some port)
      refine ⟨_, (execPacketHop_local hk).trans (congrArg _ (State.localCycle_single (State.arbiter_single hbefore hgoes))), ?_⟩
      rw [hpl] at hwants
      have hrd := (hstall.2 k).2 0xA0030 (by decide)
      rw [← hstall.node k] at hbuf hfeed
      rw [← hstall.wants k port vc] at hwants
      rw [← hstall.net] at hlook hlt ⊢
      generalize s.stallOthers k 4 (some port) = s0 at *
      obtain ⟨-, hcount, hanswer⟩ := s0.unreachable_leaves k p
      obtain ⟨hcl, hlooks⟩ := State.localFlit_unreachable hbuf hwants hlook hfeed
      refine ⟨?_, fun hreq hcut => ?_⟩
      · rw [hcl, hcount, hrd]
      · rw [hlooks _ (by omega)]
        exact hanswer hreq hcut

end

section
/-! SUPPORT. A retraining that ends on a field that is lost with its region (R38, R311). -/

namespace Sys2Proof.Machine

/-- The crossing between fields 0 and 1 in row 0 retrains, and field 0 is lost with its region (R749): `FIELD_STATE` 3. -/
def State.retrainsLost : State :=
  { State.reset with fields :=
      [(0, { FieldSt.reset with
          dm := { DefectMap.reset with stitch := [(32, 6#8)] }
          crossings := [(32, { Crossing.reset with retraining := true })] }),
        (1, { FieldSt.reset with dm := { DefectMap.reset with stitch := [(24, 6#8)] } })] }.setNum (o2FieldState 0) 3

/-- A latency of 7 cycles, with no spare. -/
def sevenCycles : CrossingResult := ⟨some 7, []⟩

theorem crossingExists_retrainsLost :
    State.retrainsLost.crossingExists (0, 1, 0) = true ∧ State.retrainsLost.crossingExists (otherSide (0, 1, 0)) = true :=
  ⟨rfl, rfl⟩

theorem trainedByte_sevenCycles :
    (trainedByte (State.retrainsLost.withFuses (0, 1, 0) sevenCycles)).toNat = 7 := rfl

/-- The controller of a lost field rewrites no record: its byte stays. -/
theorem stitchRetrainComplete_retrainsLost :
    ∃ t, execStitchRetrainComplete 0 1 0 sevenCycles State.retrainsLost = .next t ∧ t.stitchByte 0 1 0 = 6 :=
  ⟨_, rfl, rfl⟩

end Sys2Proof.Machine

open Sys2Proof Sys2Proof.Machine

/-- Refutes O44: the last clause has both sides take the latency of a retraining wherever both records show the crossing. A field
that is lost with its region still shows its crossings, and its controller rewrites no record (R749): its byte stays 6 where the
retraining reached 7. -/
theorem not_stitchCrossings : ¬ Obligations.StitchCrossings := by
  unfold Obligations.StitchCrossings
  intro h
  obtain ⟨-, -, -, -, -, hend⟩ := h State.retrainsLost 0 1 0 0 0 0 0 0 sevenCycles (by decide)
  obtain ⟨hthis, hother⟩ := crossingExists_retrainsLost
  obtain ⟨t, ht, -, -, hbyte, -⟩ := (hend rfl rfl).1 hthis hother
  obtain ⟨u, hu, hstays⟩ := stitchRetrainComplete_retrainsLost
  obtain rfl : t = u := by
    have htu := ht.symm.trans hu
    injection htu
  exact absurd ((hstays.symm.trans hbyte).trans trainedByte_sevenCycles) (by decide)

end

section
/-! SUPPORT. Phases 3 to 6 of a start: fuses, selectors, crossings, channels (R636 to R643). -/

namespace Sys2Proof.Machine

variable {s t u : State} {f : Nat}

/-! ### Updates of defect-map records -/

theorem State.field_modField (s : State) (f : Nat) (g : FieldSt → FieldSt) (j : Nat) :
    (s.modField f g).field j = if j = f then g (s.field f) else s.field j := by
  split
  · next h => rw [h]; exact field_setField_same s f _
  · next h => exact SMap.get_put_ne h

/-- `t` is `s` but for the ports, the clocks' reference, the routers' windows, the posted records, the objects of scopes 1 and 4,
and the fields' records. -/
def State.SameButRecords (s t : State) : Prop :=
  t.cores = s.cores ∧ t.dram = s.dram ∧ (∀ n num, n < 65536 → num < 65536 → t.num (okey 2 n num) = s.num (okey 2 n num)) ∧
    (∀ num, num < 65536 → t.num (okey 0 0 num) = s.num (okey 0 0 num)) ∧ (∀ j, (t.cluster j).ldr = (s.cluster j).ldr) ∧
    ∀ j, ∃ d m, t.field j = { s.field j with dm := d, mscCopy := m }

theorem State.SameButRecords.refl (s : State) : s.SameButRecords s :=
  ⟨rfl, rfl, fun _ _ _ _ => rfl, fun _ _ => rfl, fun _ => rfl, fun j => ⟨(s.field j).dm, (s.field j).mscCopy, rfl⟩⟩

theorem State.SameButRecords.trans (h : s.SameButRecords t) (h' : t.SameButRecords u) : s.SameButRecords u := by
  obtain ⟨hc, hd, hn, hp, hl, hf⟩ := h
  obtain ⟨hc', hd', hn', hp', hl', hf'⟩ := h'
  refine ⟨hc'.trans hc, hd'.trans hd, fun n num h1 h2 => (hn' n num h1 h2).trans (hn n num h1 h2),
    fun num h => (hp' num h).trans (hp num h), fun j => (hl' j).trans (hl j), fun j => ?_⟩
  obtain ⟨d, m, hj⟩ := hf j
  obtain ⟨d', m', hj'⟩ := hf' j
  exact ⟨d', m', by rw [hj', hj]⟩

/-- An update that leaves cores, DRAM, loaders, fields and the dictionary. -/
theorem State.SameButRecords.of_eq (hc : t.cores = s.cores) (hd : t.dram = s.dram) (hf : t.fields = s.fields)
    (hn : t.dict = s.dict) (hl : ∀ j, (t.cluster j).ldr = (s.cluster j).ldr) : s.SameButRecords t :=
  ⟨hc, hd, fun _ _ _ _ => num_of_dict s hn _, fun _ _ => num_of_dict s hn _, hl, fun j =>
    ⟨(s.field j).dm, (s.field j).mscCopy, by simp [field, hf]⟩⟩

theorem State.SameButRecords.modField (s : State) (f : Nat) {g : FieldSt → FieldSt}
    (hg : ∀ x, ∃ d m, g x = { x with dm := d, mscCopy := m }) : s.SameButRecords (s.modField f g) := by
  refine ⟨rfl, rfl, fun _ _ _ _ => rfl, fun _ _ => rfl, fun _ => rfl, fun j => ?_⟩
  rw [field_modField]
  split
  · next h => rw [h]; exact hg _
  · exact ⟨(s.field j).dm, (s.field j).mscCopy, rfl⟩

theorem State.SameButRecords.setNum_port (s : State) (n num v : Nat) : s.SameButRecords (s.setNum (okey 4 n num) v) :=
  ⟨rfl, rfl, fun _ _ h1 h2 => num_setNum_ne _ _ (by unfold okey; omega), fun _ h =>
    num_setNum_ne _ _ (by unfold okey; omega), fun _ => rfl, fun j => ⟨(s.field j).dm, (s.field j).mscCopy, rfl⟩⟩

theorem State.SameButRecords.setNum_region (s : State) {r num : Nat} (hr : r < 12) (hnum : num < 65536) (v : Nat) :
    s.SameButRecords (s.setNum (okey 1 r num) v) :=
  ⟨rfl, rfl, fun _ _ h1 h2 => num_setNum_ne _ _ (by unfold okey; omega), fun _ h =>
    num_setNum_ne _ _ (by unfold okey; omega), fun _ => rfl, fun j => ⟨(s.field j).dm, (s.field j).mscCopy, rfl⟩⟩

theorem State.SameButRecords.foldl {α : Type} {f : State → α → State} (hf : ∀ (s : State) a, s.SameButRecords (f s a)) (l : List α)
    (s : State) : s.SameButRecords (l.foldl f s) :=
  foldl_pred (P := fun t : State => s.SameButRecords t) (fun _ a h => h.trans (hf _ a)) l (.refl s)

theorem State.sendMap_sameButRecords (s : State) (f : Nat) : s.SameButRecords (s.sendMap f) :=
  .modField s f fun x => ⟨x.dm, _, rfl⟩

theorem State.rewriteMap_sameButRecords (s : State) (f : Nat) {g : FieldSt → FieldSt}
    (hg : ∀ x, ∃ d m, g x = { x with dm := d, mscCopy := m }) : s.SameButRecords (s.rewriteMap f g) := by
  unfold rewriteMap
  split
  · exact .refl s
  · dsimp only
    split
    · exact ((SameButRecords.modField s f hg).trans (.modField _ f fun x => ⟨_, x.mscCopy, rfl⟩)).trans
        (sendMap_sameButRecords _ f)
    · exact .modField s f hg

theorem State.clampField_sameButRecords (s : State) (f : Nat) : s.SameButRecords (s.clampField f) := by
  refine (rewriteMap_sameButRecords s f fun x => ⟨_, x.mscCopy, rfl⟩).trans (.foldl (fun s e => ?_) _ _)
  unfold forgetEdge
  split
  · exact rewriteMap_sameButRecords s _ fun x => ⟨_, x.mscCopy, rfl⟩
  · exact .refl s

theorem State.portGone_sameButRecords (s : State) (n : Nat) : s.SameButRecords (s.portGone n) := by
  have hport : s.SameButRecords ((s.unmark n).modPort n (fun x => { PortSt.reset with gen := x.gen })) := .of_eq rfl rfl rfl rfl fun _ => rfl
  exact (((hport.trans (.setNum_port _ n 0x0A01 3)).trans (.setNum_port _ n 0x0A02 0)).trans (.setNum_port _ n 0x0A03 0)).trans
    (.setNum_port _ n 0x0A04 0)

theorem State.windows_sameButRecords (s : State) : s.SameButRecords s.windows := by
  unfold windows
  refine .foldl (fun s r => .foldl (fun s j => .foldl (fun s q => ?_) _ _) _ _) _ _
  dsimp only
  split
  · exact .refl s
  · refine .of_eq rfl rfl rfl rfl fun j => modCluster_keeps Cluster.ldr _ ?_ j
    intro x
    rfl

/-! ### A field that fails to start -/

/-- A quarantine after its state is set. -/
theorem State.startQuarantine_sameButRecords (s : State) (f : Nat) :
    (s.setNum (o2FieldState f) 2).SameButRecords (s.startQuarantine f) := by
  have hclamp := (s.setNum (o2FieldState f) 2).clampField_sameButRecords f
  unfold startQuarantine
  dsimp only
  split
  · refine hclamp.trans (.trans ?_ (windows_sameButRecords _))
    exact ((SameButRecords.setNum_region _ (Nat.mod_lt f (by decide)) (by decide) 2).trans (portGone_sameButRecords _ _)).trans
      (portGone_sameButRecords _ _)
  · exact hclamp

/-- What a failed start leaves, and its result. -/
theorem State.failStart_leaves (s : State) (hf : f < 84) (code : Nat) :
    ((s.setNum (o2StartResult f) code).setNum (o2FieldState f) 2).SameButRecords (s.failStart f code) ∧
      (s.failStart f code).num (o2StartResult f) = code ∧ (s.failStart f code).num (o2FieldState f) = 2 ∧
      ∀ num, num < 65536 → (s.failStart f code).num (okey 0 0 num) = s.num (okey 0 0 num) := by
  have h : ((s.setNum (o2StartResult f) code).setNum (o2FieldState f) 2).SameButRecords (s.failStart f code) :=
    (startQuarantine_sameButRecords _ f).trans (.of_eq rfl rfl rfl rfl fun _ => rfl)
  obtain ⟨-, -, hnum, hphase, -⟩ := id h
  refine ⟨h, (hnum f 0x0C00 (by omega) (by decide)).trans ?_, (hnum f 0x0103 (by omega) (by decide)).trans ?_,
    fun num hn => (hphase num hn).trans ?_⟩
  · exact (num_setNum_ne _ _ (by unfold o2FieldState okey; omega)).trans (num_setNum_same _ _ _)
  · exact num_setNum_same _ _ _
  · exact (num_setNum_ne _ _ (by unfold o2FieldState okey; omega)).trans (num_setNum_ne _ _ (by unfold o2StartResult okey; omega))

/-! ### Phase 3 -/

theorem State.rewriteMap_eq_with_fields (s : State) (f : Nat) (g : FieldSt → FieldSt) :
    ∃ fields, s.rewriteMap f g = { s with fields := fields } := by
  unfold rewriteMap
  split
  · exact ⟨s.fields, rfl⟩
  · dsimp only
    split
    · exact ⟨_, rfl⟩
    · exact ⟨_, rfl⟩

/-- What the new content of a record keeps of a field, the rewrite keeps. -/
theorem State.rewriteMap_pred {Q : FieldSt → Prop} {g : FieldSt → FieldSt} (hg : ∀ x, Q x → Q (g x))
    (hmap : ∀ x d m, Q x → Q { x with dm := d, mscCopy := m }) {j : Nat} (h : Q (s.field j)) (f : Nat) :
    Q ((s.rewriteMap f g).field j) := by
  have hmod : Q ((s.modField f g).field j) := by
    rw [field_modField]
    split
    · next hj => exact hg _ (hj ▸ h)
    · exact h
  unfold rewriteMap
  split
  · exact h
  · dsimp only
    split
    · obtain ⟨-, -, -, -, -, hf⟩ := (SameButRecords.modField (s.modField f g) f
        (g := fun x => { x with dm := { x.dm with generation := x.dm.generation + 1 } }) fun x => ⟨_, x.mscCopy, rfl⟩).trans
        (sendMap_sameButRecords _ f)
      obtain ⟨d, m, hj⟩ := hf j
      rw [hj]
      exact hmap _ _ _ hmod
    · exact hmod

theorem State.holdUnits_eq_with (s : State) (f : Nat) (which : Nat → Bool) :
    ∃ cores clusters, s.holdUnits f which = { s with cores := cores, clusters := clusters } := by
  unfold holdUnits
  refine foldl_pred (P := fun t : State => ∃ cores clusters, t = { s with cores := cores, clusters := clusters }) ?_ _
    ⟨s.cores, s.clusters, rfl⟩
  intro t k ht
  refine foldl_pred (P := fun t : State => ∃ cores clusters, t = { s with cores := cores, clusters := clusters }) ?_ _ ?_
  · rintro u i ⟨cores, clusters, rfl⟩
    exact ⟨_, clusters, rfl⟩
  · obtain ⟨cores, clusters, rfl⟩ := ht
    exact ⟨cores, _, rfl⟩

theorem State.sendMap_leaves (s : State) (f : Nat) : (∀ key, (s.sendMap f).num key = s.num key) ∧
    ((s.sendMap f).field f).hops = (s.field f).hops ∧ ((s.sendMap f).field f).dm = (s.field f).dm ∧
    ((s.sendMap f).field f).tested = (s.field f).tested := by
  have hfield : (s.sendMap f).field f = { s.field f with mscCopy := s.fieldRecord f } := by
    rw [sendMap, field_modField, if_pos rfl]
  rw [hfield]
  exact ⟨fun _ => rfl, rfl, rfl, rfl⟩

/-- A field has read its fuses, which are readable; cores and DRAM are `s`'s. -/
def State.Read (s : State) (f : Nat) (t : State) : Prop :=
  ((t.field f).tested = true ∧ (t.field f).fuses.ok = true) ∧ t.cores = s.cores ∧ t.dram = s.dram

theorem State.Read.rewriteMap (h : s.Read f t) {g : FieldSt → FieldSt}
    (hg : ∀ x, (g x).tested = x.tested ∧ (g x).fuses = x.fuses) (e : Nat) : s.Read f (t.rewriteMap e g) := by
  obtain ⟨hq, hcores, hdram⟩ := h
  obtain ⟨fields, he⟩ := t.rewriteMap_eq_with_fields e g
  refine ⟨rewriteMap_pred (Q := fun x => x.tested = true ∧ x.fuses.ok = true) ?_ (fun x d m hx => hx) hq e, ?_, ?_⟩
  · intro x hx
    rwa [(hg x).1, (hg x).2]
  · rw [he]; exact hcores
  · rw [he]; exact hdram

theorem State.Read.softApplied (h : s.Read f t) (kind loc : Nat) : s.Read f (t.softApplied f kind loc) := by
  unfold State.softApplied
  dsimp only
  split
  · exact h
  · split
    · refine h.rewriteMap (fun x => ?_) f
      exact ⟨rfl, rfl⟩
    · have hdraw : s.Read f t.draw.2 := h
      refine hdraw.rewriteMap (fun x => ?_) f
      split
      · exact ⟨rfl, rfl⟩
      · split
        · exact ⟨rfl, rfl⟩
        · exact ⟨rfl, rfl⟩

section
variable {fails : List TestFail} (hf : f < 84) (hdue : s.testDue f = true)
include hf hdue

theorem builtInTest_readable (hsoft : (s.field f).softFull = false) : Gives (execBuiltInTest f true fails s) (s.Read f) := by
  refine ⟨_, onField_eq hf, ?_⟩
  have hread : s.Read f (s.setField f { s.field f with
      tested := true, softFull := false, fuses := { (s.field f).fuses with ok := true } }) :=
    ⟨by simp, rfl, rfl⟩
  simp only [hdue, hsoft, if_true, Bool.not_true, Bool.false_eq_true, if_false]
  split
  · exact foldl_pred (fun t x h => h.softApplied _ _) fails hread
  · exact hread

theorem builtInTest_unreadable : Gives (execBuiltInTest f false fails s) (fun t => (t.field f).tested = true ∧
    t.num (o2StartResult f) = 2 ∧ t.num (o2FieldState f) = 2 ∧ (t.field f).dm.built = true) := by
  refine ⟨_, onField_eq hf, ?_⟩
  simp only [hdue, if_true, Bool.not_false]
  generalize hs1 : s.setField f { s.field f with
      tested := true, softFull := false, fuses := { (s.field f).fuses with ok := false } } = s1
  obtain ⟨⟨-, -, -, -, -, hfield⟩, hresult, hstate, -⟩ := s1.failStart_leaves hf 2
  obtain ⟨d, m, hd⟩ := hfield f
  have htested : ((s1.failStart f 2).field f).tested = true := by
    rw [hd, ← hs1]
    simp
  generalize hg : (fun y : FieldSt => { y with
    dm := y.dm.unread, gated := (List.range 108).map (fun q => (q, 2 ^ 36 - 1)) }) = g
  have hkeeps (x : FieldSt) : (g x).tested = x.tested ∧ (g x).dm.built = true := by
    rw [← hg]
    exact ⟨rfl, rfl⟩
  have hf2 : ((s1.failStart f 2).modField f g).field f = g ((s1.failStart f 2).field f) := by
    rw [State.field_modField, if_pos rfl]
  have hn2 (key : Nat) : ((s1.failStart f 2).modField f g).num key = (s1.failStart f 2).num key := rfl
  generalize (s1.failStart f 2).modField f g = s2 at *
  obtain ⟨cores, clusters, hhold⟩ := s2.holdUnits_eq_with f (fun _ => true)
  have hf3 : (s2.holdUnits f (fun _ => true)).field f = s2.field f := by rw [hhold]; rfl
  have hn3 (key : Nat) : (s2.holdUnits f (fun _ => true)).num key = s2.num key := by rw [hhold]; rfl
  generalize s2.holdUnits f (fun _ => true) = s3 at *
  obtain ⟨hnum, -, hdm, htested'⟩ := s3.sendMap_leaves f
  refine ⟨?_, ((hnum _).trans ((hn3 _).trans (hn2 _))).trans hresult, ((hnum _).trans ((hn3 _).trans (hn2 _))).trans hstate, ?_⟩
  · rw [htested', hf3, hf2, (hkeeps _).1, htested]
  · rw [hdm, hf3, hf2, (hkeeps _).2]

end

/-! ### Phase 4 -/

/-- A field's selectors are set, and its result is still to come. -/
def State.selected (s : State) (f hops : Nat) : State :=
  let d := (s.field f).spare
  let mark := fun (r : SoftFuse) => if 1 ≤ r.kind ∧ r.kind ≤ 5 then { r with applied := true } else r
  let s1 := ((s.setNum o0StartPhase 4).modField f (fun x => { x with
    dm := d, gated := x.gates, hops := hops, soft := x.soft.map mark, softWait := x.softWait.map mark }))
  let s1 := s1.holdUnits f (fun k => s1.clusterState k = 1)
  if hops = 0 then s1 else s1.postField f 5 3 4 0 0

theorem State.setSelectors_eq (s : State) (f hops : Nat) :
    s.setSelectors f hops = State.sendMap (
      if (s.selected f hops).num (o2StartResult f) ≠ 0 then s.selected f hops
      else if (s.field f).spare.void then (s.selected f hops).failStart f 6
      else ((s.selected f hops).setNum (o2FieldState f) 1).setNum (o2StartResult f) 1) f := rfl

theorem State.selected_leaves (s : State) (f hops : Nat) :
    (s.selected f hops).dict = (s.setNum o0StartPhase 4).dict ∧ ((s.selected f hops).field f).hops = hops ∧
      ((s.selected f hops).field f).dm = (s.field f).spare := by
  unfold selected
  dsimp only
  generalize hs1 : (s.setNum o0StartPhase 4).modField f _ = s1
  have hfield : (s1.field f).hops = hops ∧ (s1.field f).dm = (s.field f).spare := by
    rw [← hs1, field_modField, if_pos rfl]
    exact ⟨rfl, rfl⟩
  have hdict : s1.dict = (s.setNum o0StartPhase 4).dict := by rw [← hs1]; rfl
  obtain ⟨cores, clusters, hhold⟩ := s1.holdUnits_eq_with f (fun k => s1.clusterState k = 1)
  rw [hhold]
  split
  · exact ⟨hdict, hfield⟩
  · exact ⟨hdict, hfield⟩

theorem sparingSelect_gives {hops : BitVec 4} (hf : f < 84) (hdue : s.sparingDue f = true)
    (hnone : s.num (o2StartResult f) = 0) (hmore : (s.setSelectors f hops.toNat).allSpared = false) :
    Gives (execSparingSelect f hops s) (fun t => t.num o0StartPhase = 4 ∧ (t.field f).hops = hops.toNat ∧
      (if (s.field f).spare.void then t.num (o2StartResult f) = 6 ∧ t.num (o2FieldState f) = 2
       else t.num (o2StartResult f) = 1 ∧ t.num (o2FieldState f) = 1 ∧ (t.field f).dm = (s.field f).spare)) := by
  refine ⟨s.setSelectors f hops.toNat, (onField_eq hf).trans ?_, ?_⟩
  · simp only [hdue, if_true, hmore, Bool.false_eq_true, if_false]
  obtain ⟨hdict, hhops, hdm⟩ := s.selected_leaves f hops.toNat
  have hphase : (s.selected f hops.toNat).num o0StartPhase = 4 := (State.num_of_dict _ hdict _).trans (State.num_setNum_same _ _ _)
  have hresult : (s.selected f hops.toNat).num (o2StartResult f) = 0 :=
    ((State.num_of_dict _ hdict _).trans (State.num_setNum_ne _ _ (by unfold o2StartResult o0StartPhase okey; omega))).trans hnone
  rw [State.setSelectors_eq, if_neg (not_not.mpr hresult)]
  generalize s.selected f hops.toNat = s1 at *
  cases hvoid : (s.field f).spare.void with
  | true =>
    obtain ⟨⟨-, -, -, -, -, hfield⟩, hcode, hstate, hkeep⟩ := s1.failStart_leaves hf 6
    obtain ⟨d, m, hd⟩ := hfield f
    rw [if_pos rfl, if_pos rfl]
    generalize s1.failStart f 6 = s2 at *
    obtain ⟨hnum, hhops', -⟩ := s2.sendMap_leaves f
    exact ⟨(hnum _).trans ((hkeep 0x0C08 (by decide)).trans hphase), hhops'.trans ((congrArg FieldSt.hops hd).trans hhops), (hnum _).trans hcode,
      (hnum _).trans hstate⟩
  | false =>
    rw [if_neg Bool.false_ne_true, if_neg Bool.false_ne_true]
    generalize hs2 : (s1.setNum (o2FieldState f) 1).setNum (o2StartResult f) 1 = s2
    have hfield : s2.field f = s1.field f := by rw [← hs2]; rfl
    obtain ⟨hnum, hhops', hdm', -⟩ := s2.sendMap_leaves f
    refine ⟨(hnum _).trans ?_, hhops'.trans ((congrArg FieldSt.hops hfield).trans hhops), (hnum _).trans ?_, (hnum _).trans ?_,
      hdm'.trans ((congrArg FieldSt.dm hfield).trans hdm)⟩
    · rw [← hs2, State.num_setNum_ne _ _ (by unfold o2StartResult o0StartPhase okey; omega),
        State.num_setNum_ne _ _ (by unfold o2FieldState o0StartPhase okey; omega), hphase]
    · rw [← hs2, State.num_setNum_same]
    · rw [← hs2, State.num_setNum_ne _ _ (by unfold o2StartResult o2FieldState okey; omega), State.num_setNum_same]

/-! ### Phase 5 -/

theorem fieldAcross_ne {n edge : Nat} (h : fieldAcross f edge = some n) : n ≠ f := by
  unfold fieldAcross at h
  split at h
  · simp only [Option.ite_none_right_eq_some, Option.some.injEq] at h; omega
  · simp only [Option.ite_none_right_eq_some, Option.some.injEq] at h; omega
  · simp only [Option.ite_none_right_eq_some, Option.some.injEq] at h; omega
  · simp only [Option.ite_none_right_eq_some, Option.some.injEq] at h; omega
  · cases h

/-- A crossing that takes part has a far side, in another field; both fields serve. -/
theorem State.crossingLive_sides {h : Nat × Nat × Nat} (hlive : s.crossingLive h = true) :
    (otherSide h).1 ≠ h.1 ∧ s.num (o2FieldState h.1) = 1 ∧ s.num (o2FieldState (otherSide h).1) = 1 := by
  unfold crossingLive at hlive
  unfold otherSide
  cases hn : fieldAcross h.1 h.2.1 with
  | none => rw [hn] at hlive; cases hlive
  | some n =>
    simp only [hn, Bool.and_eq_true, decide_eq_true_eq] at hlive
    exact ⟨fieldAcross_ne hn, hlive.1, hlive.2⟩

theorem State.rewriteMap_stitch (s : State) (f : Nat) (g : FieldSt → FieldSt) (h : s.num (o2FieldState f) ≠ 3) (j : Nat) :
    ((s.rewriteMap f g).field j).dm.stitch = if j = f then (g (s.field f)).dm.stitch else (s.field j).dm.stitch := by
  rw [rewriteMap, if_neg h]
  dsimp only
  split
  · simp only [sendMap, field_modField]
    split
    · simp
    · rfl
  · rw [field_modField]
    split
    · rfl
    · rfl

/-- A side that takes a training shows its byte; the other fields' bytes stay. -/
theorem State.takeTraining_stitch (s : State) (h : Nat × Nat × Nat) (r : CrossingResult) (hup : s.num (o2FieldState h.1) ≠ 3) :
    (s.takeTraining h r).dict = s.dict ∧ (s.takeTraining h r).stitchByte h.1 h.2.1 h.2.2 = (trainedByte r).toNat ∧
      ∀ j e i, j ≠ h.1 → (s.takeTraining h r).stitchByte j e i = s.stitchByte j e i := by
  unfold takeTraining
  dsimp only
  generalize hs1 : s.modCrossing h _ = s1
  have hup1 : s1.num (o2FieldState h.1) ≠ 3 := by rw [← hs1]; exact hup
  refine ⟨?_, ?_, fun j e i hj => ?_⟩
  · obtain ⟨fields, he⟩ := s1.rewriteMap_eq_with_fields h.1 _
    rw [he, ← hs1]
    rfl
  · rw [stitchByte, rewriteMap_stitch _ _ _ hup1, if_pos rfl, Sparse.rd_wr_same]
  · rw [stitchByte, rewriteMap_stitch _ _ _ hup1, if_neg hj, ← hs1, modCrossing, field_modField, if_neg hj, stitchByte]

theorem State.keepCrossing_stitchByte (s : State) (h : Nat × Nat × Nat) (r : CrossingResult) (j e i : Nat) :
    (s.keepCrossing h r).dict = s.dict ∧ (s.keepCrossing h r).stitchByte j e i = s.stitchByte j e i := by
  unfold keepCrossing
  dsimp only
  split
  · refine ⟨rfl, ?_⟩
    rw [stitchByte, field_modField]
    split
    · next hj => rw [stitchByte, hj]
    · rfl
  · exact ⟨rfl, rfl⟩

/-- Both sides of a crossing show what it takes. -/
theorem stitchTraining_gives {edge idx : Nat} {seen : Option (Bool × Nat)} {r q : CrossingResult} (hf : f < 84)
    (hdue : s.crossingDue (f, edge, idx) = true) (htakes : s.crossingTakes (f, edge, idx) seen r = q) :
    Gives (execStitchTraining f edge idx seen r s) (fun t =>
      t.num o0StartPhase = 5 ∧ t.stitchByte f edge idx = (trainedByte q).toNat ∧
      t.stitchByte (otherSide (f, edge, idx)).1 (otherSide (f, edge, idx)).2.1 idx = (trainedByte q).toNat) := by
  have hlive : s.crossingLive (f, edge, idx) = true := by
    simp only [State.crossingDue, Bool.and_eq_true] at hdue
    exact hdue.1.2
  obtain ⟨hne, hthis, hother⟩ := s.crossingLive_sides hlive
  have hidx : (otherSide (f, edge, idx)).2.2 = idx := by
    unfold otherSide
    cases fieldAcross f edge <;> rfl
  refine ⟨_, onField_eq hf, ?_⟩
  simp only [hdue, if_true, htakes]
  generalize hs0 : s.setNum o0StartPhase 5 = s0
  have hnum (g : Nat) : s0.num (o2FieldState g) = s.num (o2FieldState g) := by
    rw [← hs0]
    exact State.num_setNum_ne _ _ (by unfold o2FieldState o0StartPhase okey; omega)
  have hphase : s0.num o0StartPhase = 5 := by rw [← hs0]; exact State.num_setNum_same _ _ _
  obtain ⟨hd1, hb1, -⟩ := s0.takeTraining_stitch (f, edge, idx) q (by rw [hnum, hthis]; decide)
  generalize s0.takeTraining (f, edge, idx) q = s1 at *
  obtain ⟨hd2, hb2, hkeep⟩ := s1.takeTraining_stitch (otherSide (f, edge, idx)) q
    (by rw [State.num_of_dict _ hd1, hnum, hother]; decide)
  generalize s1.takeTraining (otherSide (f, edge, idx)) q = s2 at *
  have hkept := s2.keepCrossing_stitchByte (f, edge, idx) q
  generalize s2.keepCrossing (f, edge, idx) q = s3 at *
  have hall : s3.num o0StartPhase = 5 ∧ s3.stitchByte f edge idx = (trainedByte q).toNat ∧
      s3.stitchByte (otherSide (f, edge, idx)).1 (otherSide (f, edge, idx)).2.1 idx = (trainedByte q).toNat := by
    refine ⟨?_, ((hkept _ _ _).2.trans (hkeep _ _ _ hne.symm)).trans hb1, (hkept _ _ _).2.trans ?_⟩
    · rw [State.num_of_dict _ (hkept 0 0 0).1, State.num_of_dict _ hd2, State.num_of_dict _ hd1, hphase]
    · rw [← hb2, hidx]
  split
  · exact hall
  · exact hall

/-! ### Phase 6 -/

section
variable {ch : Nat} {d : ChannelResult} (hf : f < 84) (hch : ch < 24) (hdue : s.dramDue f ch = true)
include hf hch hdue

theorem dramTraining_fails (hd : d.ok = false) : Gives (execDramTraining f ch d s) (fun t =>
    (t.chan (f * 24 + ch)).chState = 3 ∧ t.num (o2StartResult f) = 4 ∧ t.num (o2FieldState f) = 2) := by
  refine ⟨_, (onChan_eq hf hch).trans (congrArg _ (when'_true hdue)), ?_⟩
  unfold State.trainDram
  dsimp only
  rw [hd, Bool.false_and, Bool.false_and, if_neg Bool.false_ne_true]
  generalize hs1 : (State.modField (State.modChan _ (f * 24 + ch) (fun c => { c with chState := 3 })) f
    (fun x => { x with dramBad := [] })) = s1
  have hchan : (s1.chan (f * 24 + ch)).chState = 3 := by rw [← hs1]; simp
  obtain ⟨⟨-, hdram, -⟩, hcode, hstate, -⟩ := s1.failStart_leaves hf 4
  refine ⟨?_, hcode, hstate⟩
  rw [State.chan, hdram]
  exact hchan

theorem dramTraining_passes (hd : d.ok = true) (hsoft : (s.field f).softRows ch = [])
    (hfuse : (s.field f).fuses.rows.get [] ch = []) (hrows : d.rows = []) (hbad : (s.field f).dramBad.contains ch = false) :
    Gives (execDramTraining f ch d s) (fun t =>
      (t.chan (f * 24 + ch)).chState = 2 ∧ (t.chan (f * 24 + ch)).spared = []) := by
  have hmark : (s.field f).records.map (fun q : SoftFuse =>
      if q.kind = 6 && q.loc / 2 ^ 24 % 32 = ch then { q with applied := true } else q) = (s.field f).records := by
    simp only [FieldSt.softRows, List.map_eq_nil_iff, List.filter_eq_nil_iff] at hsoft
    exact (List.map_congr_left (g := id) fun q hq => if_neg (hsoft q hq)).trans (List.map_id _)
  refine ⟨_, (onChan_eq hf hch).trans (congrArg _ (when'_true hdue)), ?_⟩
  unfold State.trainDram
  simp only [hrows, List.map_nil, List.eraseDups_nil, List.foldl_nil, State.field_setNum, hfuse, hsoft, List.append_nil,
    hmark, if_true, hd, hbad]
  simp

end

end Sys2Proof.Machine

open Sys2Proof Sys2Proof.Machine

/-- Settles O17, phase by phase: a failed start rewrites records, and leaves its result and its field's state. -/
theorem fieldBringUp : Obligations.FieldBringUp := by
  unfold Obligations.FieldBringUp
  intro s f edge idx ch fails hops seen r d hf
  refine ⟨fun hdue hsoft => ⟨?_, builtInTest_unreadable hf hdue⟩, fun hdue hnone hmore => sparingSelect_gives hf hdue hnone hmore,
    fun hdue => ⟨fun hcold => stitchTraining_gives hf hdue ?_, fun q m hwarm hkept hseen hm => stitchTraining_gives hf hdue ?_⟩,
    fun hch hdue => ?_⟩
  · obtain ⟨t, ht, ⟨htested, hok⟩, hcores, hdram⟩ := builtInTest_readable (fails := fails) hf hdue hsoft
    exact ⟨t, ht, htested, hok, hcores, hdram⟩
  · simp only [State.crossingTakes, hcold]
  · simp [State.crossingTakes, hwarm, hkept, hseen, hm]
  · cases hd : d.ok with
    | false =>
      obtain ⟨t, ht, hfails⟩ := dramTraining_fails hf hch hdue hd
      exact ⟨t, ht, fun _ => hfails, fun h => Bool.noConfusion h⟩
    | true =>
      refine ⟨_, onChan_eq hf hch, fun h => Bool.noConfusion h, fun _ hsoft hfuse hrows hbad => ?_⟩
      obtain ⟨t, ht, hpasses⟩ := dramTraining_passes hf hch hdue hd hsoft hfuse hrows hbad
      exact Host.Outcome.next.inj ((onChan_eq hf hch).symm.trans ht) ▸ hpasses

end

section
/-! SUPPORT. The rounds of the firmware broadcast (R645 to R654). -/

namespace Sys2Proof.Machine

variable {s t : State} {b : Bcast} {f k chunk : Nat}

/-! ### Rounds -/

theorem firmwareBroadcast_gives {image : List Byte} (hdue : s.broadcastDue = true) (hok : manifestOk image = true)
    (hlen : image.length = manifestLen image + mfLength image) :
    Gives (execFirmwareBroadcast image s) (fun t => t.num o0StartPhase = 7 ∧
      t.num o0BcastRounds = 0 ∧ t.num o0BcastUnicasts = 0 ∧ t.msc.manifest = image.take (manifestLen image) ∧
      t.msc.firmware = image.drop (manifestLen image) ∧ t.msc.bcast.isSome = true) := by
  refine ⟨_, congrArg Host.Outcome.next (when'_true (by simp [hdue, hok, hlen])), ?_⟩
  unfold State.beginBroadcast
  dsimp only
  refine ⟨State.num_setNum_same _ _ _, ?_, ?_, rfl, rfl, rfl⟩
  · rw [State.num_setNum_ne _ _ (by decide), State.num_setNum_ne _ _ (by decide), State.num_setNum_same]
  · rw [State.num_setNum_ne _ _ (by decide), State.num_setNum_same]

/-- What a round broadcasts changes neither the controller nor the dictionary. -/
theorem State.sendRound_keeps (s : State) (round : Nat) (missing : List Nat) :
    (s.sendRound round missing).msc = s.msc ∧ (s.sendRound round missing).dict = s.dict := by
  unfold sendRound
  dsimp only
  have hkeeps (t : State) (kind index : Nat) (d : List Byte) (h : t.msc = s.msc ∧ t.dict = s.dict) :
      (t.broadcast kind index d).msc = s.msc ∧ (t.broadcast kind index d).dict = s.dict := h
  refine hkeeps _ _ _ _ ?_
  refine foldl_pred (P := fun t : State => t.msc = s.msc ∧ t.dict = s.dict) (fun t c h => hkeeps t _ _ _ h) _ ?_
  exact foldl_pred (P := fun t : State => t.msc = s.msc ∧ t.dict = s.dict) (fun t c h => hkeeps t _ _ _ h) _ ⟨rfl, rfl⟩

theorem State.beginRound_leaves (s : State) (b : Bcast) :
    (s.beginRound b).num o0BcastRounds = b.rounds + 1 ∧ (s.beginRound b).msc.bcast =
      some { b with rounds := b.rounds + 1, missing := s.missingAfter b, waiting := (List.range 84).filter s.counts,
                    maps := [], sentEnd := true } := by
  unfold beginRound
  dsimp only
  generalize hs1 : ({ s with msc := { s.msc with bcast := some { b with
    rounds := b.rounds + 1, missing := s.missingAfter b, waiting := (List.range 84).filter s.counts, maps := [], sentEnd := true } } } :
    State) = s1
  have hfold : (((List.range 84).filter s.counts).foldl (fun s f => s.modField f (fun x => { x with tuples := [] })) s1).msc =
      s1.msc := by
    refine foldl_pred (P := fun t : State => t.msc = s1.msc) ?_ _ rfl
    intro t f h
    exact h
  generalize ((List.range 84).filter s.counts).foldl _ s1 = s2 at *
  obtain ⟨hmsc, hdict⟩ := (s2.setNum o0BcastRounds (b.rounds + 1)).sendRound_keeps (b.rounds + 1) (s.missingAfter b)
  refine ⟨(State.num_of_dict _ hdict _).trans (num_setNum_same _ _ _), ?_⟩
  rw [hmsc]
  exact (congrArg Msc.bcast hfold).trans (by rw [← hs1])

theorem execBroadcastRound_round (hb : s.msc.bcast = some b) (hdue : s.roundDue b = true) :
    execBroadcastRound s = .next (s.beginRound b) := by
  rw [execBroadcastRound, hb]
  exact congrArg _ (if_pos hdue)

theorem sum_pow_le (l : List Nat) (p : Nat → Bool) : ((l.filter p).map (2 ^ ·)).sum ≤ (l.map (2 ^ ·)).sum :=
  ((List.filter_sublist (p := p) (l := l)).map _).sum_le_sum (by simp)

/-- The install broadcast that ends the procedure. -/
theorem broadcastRound_installs (hb : s.msc.bcast = some b) (hdue : s.roundDue b = false) (hover : s.roundsOver b = true)
    (hall : s.allLoaded b = true) (hinst : b.install = false) :
    Gives (execBroadcastRound s) (fun t => t.msc.bcast = some { b with install := true } ∧ t.num o0StartPhase = 8 ∧
      ∃ q, t.net.packets.look s.net.nextId = some q ∧ q.typ = 9 ∧ nfld q.auxA 12 4 = 3) := by
  refine ⟨({ s with msc := { s.msc with bcast := some { b with install := true } } }.setNum o0StartPhase 8).broadcast 3 0 (leBytes 4 0),
    ?_, rfl, State.num_setNum_same _ _ _, ?_⟩
  · rw [execBroadcastRound, hb]
    exact congrArg Host.Outcome.next ((if_neg (by simp [hdue])).trans (if_pos (by simp [hover, hall, hinst])))
  · unfold State.broadcast
    dsimp only
    refine ⟨_, State.addPacket_look _ _, rfl, ?_⟩
    generalize State.island _ _ = i
    have hmask := sum_pow_le (List.range 12) (fun r => decide (i.1 ≤ r) && decide (r ≤ i.2))
    have hfull : ((List.range 12).map (2 ^ ·)).sum = 4095 := by decide
    show nfld (3 * 2 ^ 12 + _) 12 4 = 3
    unfold nfld
    omega

/-! ### Bitmaps -/

theorem giveMap_due {m : List Nat} (hb : s.msc.bcast = some b) (hsent : b.sentEnd = true)
    (hwaits : (s.bcastFields b).contains f = true) (hnone : s.reported b f = false) :
    s.giveMap f m = { s with msc := { s.msc with bcast := some { b with maps := b.maps.put f m } } } := by
  rw [State.giveMap, hb]
  exact if_pos (by simp [hsent, hnone, -List.contains_eq_mem, hwaits])

theorem mem_fallback {silent : List Nat} {c : Nat} (hc : c < 256) :
    c ∈ (List.range 256).filter (fun c => (s.presentIn f).any silent.contains ||
        (s.presentIn f).any (fun k => (s.cluster k).ldr.missing.contains c)) ↔
      ∃ k, k ∈ s.presentIn f ∧ (k ∈ silent ∨ c ∈ (s.cluster k).ldr.missing) := by
  simp only [List.mem_filter, List.mem_range, hc, true_and, Bool.or_eq_true, List.any_eq_true, List.contains_iff_mem]
  constructor
  · rintro (⟨k, hk, hs⟩ | ⟨k, hk, hm⟩)
    · exact ⟨k, hk, .inl hs⟩
    · exact ⟨k, hk, .inr hm⟩
  · rintro ⟨k, hk, hs | hm⟩
    · exact .inl ⟨k, hk, hs⟩
    · exact .inr ⟨k, hk, hm⟩

/-! ### Unicasts -/

/-- The broadcast with one more unicast of a chunk to a loader. -/
def Bcast.retried (b : Bcast) (k chunk : Nat) : Bcast :=
  { b with tries := (k, chunk, b.tried k chunk + 1) :: b.tries.filter (fun e => e.1 ≠ k || e.2.1 ≠ chunk) }

theorem Bcast.tried_retried (b : Bcast) (k chunk j c : Nat) :
    (b.retried k chunk).tried j c = if j = k ∧ c = chunk then b.tried k chunk + 1 else b.tried j c := by
  unfold retried tried
  dsimp only
  split
  · next h =>
    rw [List.find?_cons_of_pos (by simp [h.1, h.2])]
    rfl
  · next h =>
    rw [List.find?_cons_of_neg (by simpa using fun h1 h2 => h ⟨Eq.symm h1, Eq.symm h2⟩), List.find?_filter]
    congr 2
    congr 1
    funext e
    by_cases he : e.1 = j ∧ e.2.1 = c
    · obtain ⟨rfl, rfl⟩ := he
      simpa [← imp_iff_not_or] using h
    · simp only [not_and_or] at he
      rcases he with he | he
      · simp [he]
      · simp [he]

/-- A unicast changes its loader's cluster alone, and has the chunk hashed. -/
theorem State.unicast_hashes (s : State) (k chunk : Nat) (htaken : (s.cluster k).ldr.taken = true)
    (hmiss : (s.cluster k).ldr.missing.contains chunk = true) (herr : (s.cluster k).cmemErr = [])
    (hwf : Sparse.wf (s.cluster k).cmem = true) (hman : (s.cluster k).ldr.manifest = s.msc.manifest) :
    (∃ m, s.unicast k chunk = { s with clusters := m }) ∧ (∀ j, j ≠ k → (s.unicast k chunk).cluster j = s.cluster j) ∧
      ((s.unicast k chunk).cluster k).ldr = (s.cluster k).ldr.hashed chunk
        (decide (sha256 (sliceB s.msc.firmware (4096 * chunk) (mfChunkLen s.msc.manifest chunk)) =
          mfHash (s.cluster k).ldr.manifest chunk)) := by
  unfold unicast
  dsimp only
  generalize hd : sliceB s.msc.firmware (4096 * chunk) (mfChunkLen s.msc.manifest chunk) = data
  have hlen : data.length = mfChunkLen (s.cluster k).ldr.manifest chunk := by
    rw [← hd, hman]
    unfold sliceB
    simp
  obtain ⟨-, -, hldr⟩ := Cluster.scratchWrite_clean herr (stagingAt chunk) data
  have hwritten := chunkWritten_ldr (j := chunk) herr hwf hlen
  generalize ((s.cluster k).scratchWrite (stagingAt chunk) data).1 = x at *
  have hdone : (s.setCluster k x).chunkDone k chunk = (s.setCluster k x).hashChunk k chunk := by
    rw [chunkDone, cluster_setCluster_same]
    exact if_pos (by rw [hldr, htaken, hmiss]; rfl)
  rw [hdone]
  refine ⟨⟨_, rfl⟩, fun j hj => ?_, hwritten⟩
  exact (cluster_setCluster_ne _ _ hj).trans (cluster_setCluster_ne _ _ hj)

/-- The loaders that miss a chunk depend on the records, the loaders and the manifest. -/
theorem State.mem_lacking {j : Nat} : j ∈ s.lacking f ↔
    j ∈ s.presentIn f ∧ ∃ c, c ∈ (s.cluster j).ldr.missing ∧ c < mfChunks s.msc.manifest := by
  simp [lacking, List.any_eq_true]

/-- The tries are over once a loader misses a chunk and every chunk that a loader misses has had three. -/
theorem State.triesOver_of {j c : Nat} (hj : j ∈ s.presentIn f) (hc : c ∈ (s.cluster j).ldr.missing)
    (hlow : c < mfChunks s.msc.manifest)
    (hall : ∀ j c, j ∈ s.presentIn f → c ∈ (s.cluster j).ldr.missing → c < mfChunks s.msc.manifest → 3 ≤ b.tried j c) :
    s.triesOver b f = true := by
  have hlack : j ∈ s.lacking f := mem_lacking.mpr ⟨hj, c, hc, hlow⟩
  rw [triesOver, Bool.and_eq_true, List.all_eq_true]
  refine ⟨?_, fun i hi => List.all_eq_true.mpr fun e he => ?_⟩
  · rw [Bool.not_eq_true', List.isEmpty_eq_false_iff]
    exact List.ne_nil_of_mem hlack
  · obtain ⟨hi, -⟩ := mem_lacking.mp hi
    by_cases hle : mfChunks s.msc.manifest ≤ e
    · simp [hle]
    · simp [hall i e hi he (by omega)]

/-- A field that fails to load: its result, and what its loaders show. -/
theorem State.failLoading_leaves (s : State) (hf : f < 84) :
    (s.failLoading f).num (o2StartResult f) = 5 ∧ (s.failLoading f).num (o2FieldState f) = 2 ∧
      (∀ num, num < 65536 → (s.failLoading f).num (okey 0 0 num) = s.num (okey 0 0 num)) ∧
      ∀ j, ((s.failLoading f).cluster j).ldr = (s.cluster j).ldr := by
  unfold failLoading
  have hsoft : ∃ n fields, (s.lacking f).foldl (fun s k => s.draw.2.softFuse f 5 (s.physCluster k) s.freeByte) s =
      { s with free := n, fields := fields } := by
    refine foldl_pred (P := fun t : State => ∃ n fields, t = { s with free := n, fields := fields }) ?_ _
      ⟨s.free, s.fields, rfl⟩
    rintro t k ⟨n, fields, rfl⟩
    obtain ⟨fields', he⟩ := State.rewriteMap_eq_with_fields
      ({ s with free := n + 1, fields := fields } : State) f _
    exact ⟨_, _, he⟩
  obtain ⟨n, fields, he⟩ := hsoft
  rw [he]
  obtain ⟨⟨-, -, -, -, hldr, -⟩, hcode, hstate, hnum⟩ := ({ s with free := n, fields := fields } : State).failStart_leaves hf 5
  exact ⟨hcode, hstate, hnum, hldr⟩

section
variable (hk : k < 8064) (hb : s.msc.bcast = some b) (hdue : s.unicastDue b k chunk = true)
  (htaken : (s.cluster k).ldr.taken = true) (herr : (s.cluster k).cmemErr = []) (hwf : Sparse.wf (s.cluster k).cmem = true)
  (hman : (s.cluster k).ldr.manifest = s.msc.manifest)
include hk hb hdue htaken herr hwf hman

theorem chunkUnicastCheck_gives :
    Gives (execChunkUnicastCheck k chunk s) (fun t =>
      t.num o0BcastUnicasts = (s.num o0BcastUnicasts + 1) % 2 ^ 64 ∧
      (sha256 (sliceB s.msc.firmware (4096 * chunk) (mfChunkLen s.msc.manifest chunk)) = mfHash (s.cluster k).ldr.manifest chunk →
        (t.cluster k).ldr.missing = (s.cluster k).ldr.missing.filter (· ≠ chunk)) ∧
      (sha256 (sliceB s.msc.firmware (4096 * chunk) (mfChunkLen s.msc.manifest chunk)) ≠ mfHash (s.cluster k).ldr.manifest chunk →
        b.tried k chunk = 2 →
        (∀ j c, j ∈ s.presentIn (fieldOf k) → c ∈ (s.cluster j).ldr.missing → c < mfChunks (s.cluster k).ldr.manifest →
          (j = k ∧ c = chunk) ∨ 3 ≤ b.tried j c) →
        t.num (o2StartResult (fieldOf k)) = 5 ∧ t.num (o2FieldState (fieldOf k)) = 2)) := by
  have hf : fieldOf k < 84 := by unfold fieldOf; omega
  have hdue' := hdue
  simp only [State.unicastDue, Bool.and_eq_true, decide_eq_true_eq] at hdue'
  obtain ⟨⟨⟨⟨-, hlow⟩, hpres⟩, hmiss⟩, -⟩ := hdue'
  refine ⟨s.checkUnicast b k chunk, (onCluster_eq hk).trans ?_, ?_⟩
  · rw [hb]
    exact congrArg Host.Outcome.next (when'_true hdue)
  have hcheck : s.checkUnicast b k chunk =
      let s1 := ({ s with msc := { s.msc with bcast := some (b.retried k chunk) } }.addNum o0BcastUnicasts 1).unicast k chunk
      if s1.triesOver (b.retried k chunk) (fieldOf k) then s1.failLoading (fieldOf k) else s1 := rfl
  rw [hcheck]
  dsimp only
  generalize hs0 : State.addNum { s with msc := { s.msc with bcast := some (b.retried k chunk) } } o0BcastUnicasts 1 = s0
  have hcl (j : Nat) : s0.cluster j = s.cluster j := by rw [← hs0]; rfl
  have hm0 : s0.msc.manifest = s.msc.manifest ∧ s0.msc.firmware = s.msc.firmware := by rw [← hs0]; exact ⟨rfl, rfl⟩
  have hp0 : s0.presentIn (fieldOf k) = s.presentIn (fieldOf k) := by rw [← hs0]; rfl
  have hn0 : s0.num o0BcastUnicasts = (s.num o0BcastUnicasts + 1) % 2 ^ 64 := by
    rw [← hs0, State.num_addNum_same]; rfl
  obtain ⟨⟨x, hx⟩, hother, hldr⟩ := s0.unicast_hashes k chunk (by rwa [hcl]) (by rwa [hcl]) (by rwa [hcl]) (by rwa [hcl])
    (by rw [hcl, hman, hm0.1])
  rw [hcl, hm0.1, hm0.2] at hldr
  have hp1 : (s0.unicast k chunk).presentIn (fieldOf k) = s.presentIn (fieldOf k) := by rw [hx]; exact hp0
  have hm1 : (s0.unicast k chunk).msc.manifest = s.msc.manifest := by rw [hx]; exact hm0.1
  have hn1 : (s0.unicast k chunk).num o0BcastUnicasts = (s.num o0BcastUnicasts + 1) % 2 ^ 64 := by rw [hx]; exact hn0
  generalize s0.unicast k chunk = s1 at *
  obtain ⟨hcode, hstate, hnum, hldrs⟩ := s1.failLoading_leaves hf
  refine ⟨?_, fun hok => ?_, fun hbad htwo hthree => ?_⟩
  · split
    · exact (hnum 0x0C0B (by decide)).trans hn1
    · exact hn1
  · have hmatch : (s1.cluster k).ldr.missing = (s.cluster k).ldr.missing.filter (· ≠ chunk) := by
      rw [hldr, decide_eq_true hok]
      rfl
    split
    · rw [hldrs, hmatch]
    · exact hmatch
  · have hstays : (s1.cluster k).ldr.missing = (s.cluster k).ldr.missing := by
      rw [hldr, decide_eq_false hbad]
      rfl
    have hover : s1.triesOver (b.retried k chunk) (fieldOf k) = true := by
      refine State.triesOver_of (j := k) (c := chunk) (by rw [hp1]; exact List.contains_iff_mem.mp hpres)
        (by rw [hstays]; exact List.contains_iff_mem.mp hmiss) (by rwa [hm1]) fun j c hj hc hcl' => ?_
      rw [hp1] at hj
      rw [hm1] at hcl'
      have hc' : c ∈ (s.cluster j).ldr.missing := by
        by_cases hjk : j = k
        · rw [hjk, hstays] at hc
          rwa [hjk]
        · rwa [hother j hjk, hcl] at hc
      rw [Bcast.tried_retried]
      split
      · omega
      · next hne => exact (hthree j c hj hc' (by rwa [hman])).resolve_left hne
    rw [if_pos hover]
    exact ⟨hcode, hstate⟩

end

end Sys2Proof.Machine

open Sys2Proof Sys2Proof.Machine

/-- Settles O18: a round, a bitmap and a unicast change the broadcast as R652 says, and a third failed try fails the field. -/
theorem broadcastRounds : Obligations.BroadcastRounds := by
  unfold Obligations.BroadcastRounds
  intro s image b f k chunk silent
  refine ⟨firmwareBroadcast_gives, fun hb hdue => ?_, broadcastRound_installs, fun hf hb hsent hwaits hnone => ⟨?_, ?_⟩,
    fun hk hb hdue htaken herr hwf hman => chunkUnicastCheck_gives hk hb hdue htaken herr hwf hman⟩
  · obtain ⟨hrounds, hbcast⟩ := s.beginRound_leaves b
    exact ⟨_, execBroadcastRound_round hb hdue, hrounds, _, hbcast, rfl, rfl, rfl, rfl⟩
  · show onField f s (fun s => s.giveMap f (List.range 256)) = _
    rw [onField_eq hf, giveMap_due hb hsent hwaits hnone]
  · show Gives (execRoundBitmapFallback f silent s) _
    refine ⟨_, onField_eq hf, _, ?_, fun c hc => mem_fallback hc⟩
    dsimp only
    rw [giveMap_due hb hsent hwaits hnone]

end

section
/-! SUPPORT. Firmware updates and licences (R659 to R665). -/

namespace Sys2Proof.Machine

variable {s : State} {u : Update} {sigOk : Bool}

/-! ### Banks -/

/-- A bank that the controller rewrites, and the others. -/
theorem State.bank_of_put {t : State} {b : Nat} {x : Bank} (h : t.msc.banks = s.msc.banks.put b x) (j : Nat) :
    t.bank j = if j = b then x else s.bank j := by
  rw [bank, h]
  split
  · next hj => rw [hj, SMap.get_put_same]
  · next hj => exact SMap.get_put_ne hj

theorem fwUpdateOpen_gives {len : BitVec 32} (hpos : 0 < len.toNat) (hmax : len.toNat ≤ 536870912) (hnone : s.msc.upd = none)
    (hflash : s.inhibited = false) :
    Gives (execFwUpdateOpen len s) (fun t => t.msc.upd = some ⟨1 - s.num o0BootBank % 2, len.toNat, []⟩ ∧
      (t.bank (1 - s.num o0BootBank % 2)).state = 3 ∧ t.num o0FwUpdateResult = 1 ∧
      t.bank (1 - (1 - s.num o0BootBank % 2)) = s.bank (1 - (1 - s.num o0BootBank % 2))) := by
  refine ⟨_, congrArg (fun r : State × Nat => Host.Outcome.next r.1) ((if_neg (by omega)).trans ((if_neg (by omega)).trans
    ((if_neg (by simp [hnone])).trans (if_neg (by simp [hflash]))))), ?_⟩
  dsimp only
  have hbank := State.bank_of_put (s := s) (t := State.setNum { s with msc := { s.msc with
        upd := some ⟨1 - s.num o0BootBank % 2, len.toNat, []⟩, updLost := false
        banks := s.msc.banks.put (1 - s.num o0BootBank % 2) ⟨3, 0, len.toNat, []⟩ } } o0FwUpdateResult 1) rfl
  refine ⟨rfl, ?_, State.num_setNum_same _ _ _, ?_⟩
  · rw [hbank, if_pos rfl]
  · rw [hbank, if_neg (by omega)]

theorem fwUpdateOpen_abandons (hu : s.msc.upd = some u) :
    Gives (execFwUpdateOpen 0 s) (fun t => t.msc.upd = none ∧ (t.bank u.bank).state = 2 ∧ t.num o0FwUpdateResult = 5) := by
  refine ⟨s.abandonUpdate, rfl, ?_⟩
  rw [State.abandonUpdate, hu]
  dsimp only
  refine ⟨rfl, ?_, State.num_setNum_same _ _ _⟩
  rw [State.bank_of_put (s := s) rfl, if_pos rfl]

theorem execFwUpdateData_eq {data : List Byte} (hu : s.msc.upd = some u) (hlen : data.length = 16392)
    (halign : leAt data 0 8 % 16384 = 0) (hoff : leAt data 0 8 < u.len) :
    execFwUpdateData data s = .next { s with msc := { s.msc with
      upd := some { u with blocks := u.blocks.put (leAt data 0 8) ((data.drop 8).take (u.len - leAt data 0 8)) } } } := by
  rw [execFwUpdateData, State.writeFwData, if_neg (not_not.mpr hlen), hu]
  exact congrArg (fun r : State × Nat => Host.Outcome.next r.1) (if_neg (by omega))

theorem execFwUpdateCommit_short (hu : s.msc.upd = some u) (hmiss : u.whole = false) :
    execFwUpdateCommit 1 sigOk s = .next (s.setNum o0FwUpdateResult 3) := by
  rw [execFwUpdateCommit, State.writeFwCommit, if_neg (by decide), hu]
  exact congrArg (fun r : State × Nat => Host.Outcome.next r.1) (if_pos (by simp [hmiss]))

theorem fwUpdateCommit_gives (hu : s.msc.upd = some u) (hwhole : u.whole = true) :
    Gives (execFwUpdateCommit 1 sigOk s) (fun t => t.msc.upd = none ∧
      (t.bank u.bank).image = u.image ∧ (t.bank u.bank).version = leAt u.image 8 4 ∧
      (s.verifies u.image u.len sigOk = true → (t.bank u.bank).state = 1 ∧ t.num o0FwUpdateResult = 2 ∧
        t.num o0NextBootBank = u.bank) ∧
      (s.verifies u.image u.len sigOk = false → (t.bank u.bank).state = 2 ∧ t.num o0FwUpdateResult = 4 ∧
        t.num o0NextBootBank = s.num o0NextBootBank)) := by
  refine ⟨(s.writeFwCommit 1 sigOk).1, rfl, ?_⟩
  rw [State.writeFwCommit, if_neg (by decide), hu]
  simp only [hwhole, Bool.not_true, Bool.false_eq_true, if_false]
  cases hok : s.verifies u.image u.len sigOk with
  | true =>
    simp only [if_true]
    rw [State.bank_of_put (s := s) rfl, if_pos rfl]
    refine ⟨rfl, rfl, rfl, fun _ => ⟨rfl, State.num_setNum_same _ _ _, ?_⟩, fun h => absurd h (by decide)⟩
    rw [State.num_setNum_ne _ _ (by decide), State.num_setNum_same]
  | false =>
    simp only [Bool.false_eq_true, if_false]
    rw [State.bank_of_put (s := s) rfl, if_pos rfl]
    exact ⟨rfl, rfl, rfl, fun h => absurd h (by decide),
      fun _ => ⟨rfl, State.num_setNum_same _ _ _, State.num_setNum_ne _ _ (by decide)⟩⟩

/-! ### Licences -/

theorem State.showLicences_leaves (s : State) :
    s.showLicences.msc = s.msc ∧ s.showLicences.num o7Features = featuresOf s.msc.licences ∧
      s.showLicences.num o7StreamTier = tierOf (featuresOf s.msc.licences) ∧
      s.showLicences.num o7LicenceResult = s.num o7LicenceResult := by
  unfold showLicences
  dsimp only
  refine ⟨rfl, ?_, ?_, ?_⟩
  · rw [num_setNum_ne _ _ (by decide), num_setNum_ne _ _ (by decide), num_setNum_same]
  · rw [num_setNum_ne _ _ (by decide), num_setNum_same]
  · rw [num_setNum_ne _ _ (by decide), num_setNum_ne _ _ (by decide), num_setNum_ne _ _ (by decide)]

theorem licenceRow_refused {d : List Byte} {reason : Nat}
    (h : (licenceForm d = false ∧ reason = 1) ∨ (licenceForm d = true ∧ sigOk = false ∧ reason = 2) ∨
      (licenceForm d = true ∧ sigOk = true ∧ sliceB d 0x10 32 ≠ idDigest ∧ reason = 3)) :
    s.licenceRow d sigOk = (reason, 7) ∧ reason ≠ 0 := by
  unfold State.licenceRow
  rcases h with ⟨hform, rfl⟩ | ⟨hform, hsig, rfl⟩ | ⟨hform, hsig, hid, rfl⟩
  · exact ⟨if_pos (by simp [hform]), by decide⟩
  · exact ⟨(if_neg (by simp [hform])).trans (if_pos (by simp [hsig])), by decide⟩
  · exact ⟨(if_neg (by simp [hform])).trans ((if_neg (by simp [hsig])).trans (if_pos hid)), by decide⟩

section
variable {d : List Byte} (hlen : d.length = 16288)
include hlen

theorem execLicenceInstall_refused {reason status : Nat} (hrow : s.licenceRow d sigOk = (reason, status)) (hne : reason ≠ 0) :
    execLicenceInstall d sigOk s = .next (s.setNum o7LicenceResult reason) := by
  rw [execLicenceInstall, State.writeLicence, if_neg (not_not.mpr hlen), hrow]
  exact congrArg (fun r : State × Nat => Host.Outcome.next r.1) (if_neg hne)

theorem licenceInstall_gives (hform : licenceForm d = true) (hsig : sigOk = true) (hid : sliceB d 0x10 32 = idDigest)
    (hflash : s.inhibited = false) (hnew : s.msc.licences.any (fun x => x.id = leAt d 8 8) = false)
    (hroom : s.msc.licences.length < 16) :
    Gives (execLicenceInstall d sigOk s) (fun t => t.msc.licences = s.msc.licences ++ [⟨d.take 64, true⟩] ∧
      t.num o7LicenceResult = 0 ∧ t.num o7Features = featuresOf (s.msc.licences ++ [⟨d.take 64, true⟩]) ∧
      t.num o7StreamTier = tierOf (featuresOf (s.msc.licences ++ [⟨d.take 64, true⟩]))) := by
  have hrow : s.licenceRow d sigOk = (0, 0) := by
    rw [State.licenceRow, if_neg (by simp [hform]), if_neg (by simp [hsig]), if_neg (not_not.mpr hid),
      if_neg (Bool.eq_false_iff.mp hnew), if_neg (by omega), if_neg (Bool.eq_false_iff.mp hflash)]
  refine ⟨_, by rw [execLicenceInstall, State.writeLicence, if_neg (not_not.mpr hlen), hrow], ?_⟩
  obtain ⟨hmsc, hfeat, htier, hres⟩ := State.showLicences_leaves { s.setNum o7LicenceResult 0 with
    msc := { s.msc with licences := s.msc.licences ++ [⟨d.take 64, true⟩] } }
  exact ⟨congrArg Msc.licences hmsc, hres.trans (State.num_setNum_same _ _ _), hfeat, htier⟩

end

section
variable {id : BitVec 64}

theorem licenceRemove_gives (hthere : s.msc.licences.any (fun x => x.id = id.toNat) = true)
    (hfree : s.withdraws (featuresOf (s.msc.licences.filter (fun x => x.id ≠ id.toNat))) = false) (hflash : s.inhibited = false) :
    Gives (execLicenceRemove id s) (fun t => t.msc.licences = s.msc.licences.filter (fun x => x.id ≠ id.toNat) ∧
      t.num o7Features = featuresOf (s.msc.licences.filter (fun x => x.id ≠ id.toNat)) ∧
      t.num o7StreamTier = tierOf (featuresOf (s.msc.licences.filter (fun x => x.id ≠ id.toNat)))) := by
  refine ⟨_, congrArg (fun r : State × Nat => Host.Outcome.next r.1) ((if_neg (by simp only [hthere]; decide)).trans
    ((if_neg (Bool.eq_false_iff.mp hfree)).trans (if_neg (Bool.eq_false_iff.mp hflash)))), ?_⟩
  obtain ⟨hmsc, hfeat, htier, -⟩ := State.showLicences_leaves { s with
    msc := { s.msc with licences := s.msc.licences.filter (fun x => x.id ≠ id.toNat) } }
  exact ⟨congrArg Msc.licences hmsc, hfeat, htier⟩

theorem execLicenceRemove_refused (h : s.withdraws (featuresOf (s.msc.licences.filter (fun x => x.id ≠ id.toNat))) = true ∨
    s.inhibited = true) : execLicenceRemove id s = .next s := by
  refine congrArg Host.Outcome.next ?_
  unfold State.writeLicenceRemove
  split
  · rfl
  · dsimp only
    rcases h with h | h
    · rw [if_pos h]
    · rw [h]
      split
      · rfl
      · rfl

end

end Sys2Proof.Machine

open Sys2Proof Sys2Proof.Machine

/-- Settles O27: an open update is a bank erased, its blocks and its commit; the stored licences give features and tier. -/
theorem firmwareAndLicences : Obligations.FirmwareAndLicences := by
  unfold Obligations.FirmwareAndLicences
  refine ⟨fun s len data u sigOk => ⟨fwUpdateOpen_gives, fwUpdateOpen_abandons, execFwUpdateData_eq, execFwUpdateCommit_short,
    fwUpdateCommit_gives⟩, fun s d sigOk id => ?_⟩
  dsimp only
  intro hlen
  refine ⟨licenceInstall_gives hlen, fun reason h => ?_, licenceRemove_gives, execLicenceRemove_refused⟩
  obtain ⟨hrow, hne⟩ := licenceRow_refused (s := s) h
  exact execLicenceInstall_refused hlen hrow hne

end

section
/-! SUPPORT. Graph loads (R240 to R256, R678). -/

namespace Sys2Proof.Machine

variable {s t : State} {p : Nat}

/-! ### The copy of a package -/

theorem State.softFuse_cores (s : State) (f kind loc cause : Nat) : (s.softFuse f kind loc cause).cores = s.cores := by
  unfold softFuse recordFuse
  dsimp only
  generalize (fun y : FieldSt => _) = g
  obtain ⟨fields, he⟩ := s.rewriteMap_eq_with_fields f g
  rw [he]

theorem State.rowFuse_cores (s : State) (line : Nat) : (s.rowFuse line).cores = s.cores := by
  unfold rowFuse
  split
  · exact softFuse_cores _ _ _ _ _
  · split
    · rfl
    · rfl

theorem State.lineError_cores (s : State) (line off : Nat) : (s.lineError line off).cores = s.cores :=
  rowFuse_cores _ line

theorem State.correct_cores (s : State) (lines : List Nat) (off : Nat) : (s.correct lines off).cores = s.cores := by
  unfold correct
  split
  · rfl
  · rfl

theorem State.dramRead_cores (s : State) (key n : Nat) : (s.dramRead key n).1.cores = s.cores := by
  unfold dramRead
  dsimp only
  split
  · exact foldl_pred (P := fun t : State => t.cores = s.cores) (fun t l h => (lineError_cores t l _).trans h) _
      (correct_cores s _ _)
  · exact correct_cores s _ _

theorem State.readLine_cores (s : State) (a n : Nat) : (s.readLine a n).1.cores = s.cores := by
  unfold readLine
  split
  · rfl
  · refine foldl_pred (P := fun x : State × Option (List Byte) => x.1.cores = s.cores) ?_ _ rfl
    intro x q h
    dsimp only
    split
    · exact h
    · exact (dramRead_cores _ _ _).trans h

theorem State.readLines_cores (a len n off : Nat) (acc : List Byte) (s : State) :
    (readLines a len n off acc s).1.cores = s.cores := by
  induction n generalizing off acc s with
  | zero => rfl
  | succ n ih =>
    have hline := s.readLine_cores (a + off) (min 64 (len - off))
    rw [readLines]
    split
    · rfl
    · split
      · next s' d heq => rw [heq] at hline; exact (ih _ _ _).trans hline
      · next s' heq => rw [heq] at hline; exact hline

theorem State.copyPackage_cores (s : State) (a : Nat) : (s.copyPackage a).1.cores = s.cores := by
  unfold copyPackage
  dsimp only
  split
  · exact readLines_cores _ _ _ _ _ _
  · exact (readLines_cores _ _ _ _ _ _).trans (readLines_cores _ _ _ _ _ _)

/-! ### A load -/

/-- The code of a result leads its detail. -/
theorem leAt_loadValues {code : Nat} (h : code < 256) (va vb : Nat) : leAt (loadValues code va vb) 0 1 = code := by
  have hfirst : sliceB (loadValues code va vb) 0 1 = [BitVec.ofNat 8 code] := by simp [sliceB, loadValues, loadDetail]
  simp only [leAt, hfirst, ofLe, BitVec.toNat_ofNat]
  omega

section
variable {addr : BitVec 64} (hp : p < 12) (hpart : s.isPart p = true) (hspace : gaSpace addr.toNat = 4)
  (hid : nfld addr.toNat 56 4 = p) (hvalid : s.gaValid addr.toNat 1 = true) (hcut : s.cutOff (s.partRegions p) = false)
include hp hpart hspace hid hvalid hcut

theorem execGraphLoad_eq : execGraphLoad p addr s = .next
    (if s.num (o6GraphState p) ≠ 0 then s.recordLoad p (loadValues 1 0 0)
     else ((s.copyPackage addr.toNat).1.setNum (o6GraphState p) 1).modPart p
       (fun x => { x with copy := some (s.copyPackage addr.toNat).2 })) := by
  refine (onPart_eq hp).trans (congrArg _ ((when'_true hpart).trans ?_))
  rw [State.writeLoad, if_neg (by simp [hspace, hid, hvalid]), if_neg (Bool.eq_false_iff.mp hcut)]
  split
  · rfl
  · rfl

theorem graphLoad_begins (hnone : s.num (o6GraphState p) = 0) : Gives (execGraphLoad p addr s) (fun t =>
    t.num (o6GraphState p) = 1 ∧ (t.part p).copy = some (s.copyPackage addr.toNat).2 ∧ t.cores = s.cores) := by
  refine ⟨_, (execGraphLoad_eq hp hpart hspace hid hvalid hcut).trans (congrArg _ (if_neg (not_not.mpr hnone))), ?_, ?_, ?_⟩
  · exact State.num_setNum_same _ _ _
  · rw [State.part_modPart_same]
  · exact s.copyPackage_cores addr.toNat

theorem graphLoad_refused (hsome : s.num (o6GraphState p) ≠ 0) : Gives (execGraphLoad p addr s) (fun t =>
    t.num (o6LoadResult p) = 1 ∧ t.num (o6GraphState p) = s.num (o6GraphState p) ∧ t.parts = s.parts) := by
  refine ⟨_, (execGraphLoad_eq hp hpart hspace hid hvalid hcut).trans (congrArg _ (if_pos hsome)), ?_, ?_, rfl⟩
  · exact (State.num_setNum_same _ _ _).trans (leAt_loadValues (by decide) 0 0)
  · exact State.num_setNum_ne _ _ (by unfold o6GraphState o6LoadResult okey; omega)

end

/-! ### The loader -/

theorem State.failLoad_leaves (s : State) (p : Nat) (d : List Byte) :
    (s.failLoad p d).num (o6GraphState p) = 0 ∧ (s.failLoad p d).num (o6LoadResult p) = leAt d 0 1 ∧
      (s.failLoad p d).blob (o6LoadDetail p) = d ∧ ((s.failLoad p d).part p).copy = none ∧
      (s.failLoad p d).cores = s.cores ∧ (s.failLoad p d).clusters = s.clusters := by
  refine ⟨?_, State.num_setNum_same _ _ _, State.blob_setBlob_same _ _ _, ?_, rfl, rfl⟩
  · exact (num_setNum_ne _ _ (by unfold o6GraphState o6LoadResult okey; omega)).trans (num_setNum_same _ _ _)
  · have hpart : (s.failLoad p d).part p = ((s.setNum (o6GraphState p) 0).modPart p (fun x => { x with copy := none })).part p := rfl
    rw [hpart, part_modPart_same]

theorem State.showFrame_keeps (s : State) (p : Nat) {key : Nat} (hlen : key ≠ o6FrameLen p) (hturns : key ≠ o6Turns p) :
    (s.showFrame p).num key = s.num key ∧ (s.showFrame p).parts = s.parts ∧ (s.showFrame p).cores = s.cores ∧
      (s.showFrame p).clusters = s.clusters := by
  unfold showFrame
  split
  · exact ⟨(num_setNum_ne _ _ hturns).trans (num_setNum_ne _ _ hlen), rfl, rfl, rfl⟩
  · exact ⟨rfl, rfl, rfl, rfl⟩

/-- The graph of a loaded partition and the counts that start again. -/
def State.withGraph (s : State) (p : Nat) (g : Package) (alts : SMap Nat) : State :=
  let s1 := s.modPart p (fun x => { x with
    copy := none, pkg := some g, variants := alts, lost := [], period := none, admitted := none, planned := 0, holds := [] })
  let s2 := ((s1.setNum (o6GraphState p) 2).setNum (o6GraphId p) g.graphId).setNum (o6AlternatesActive p) alts.length
  ((s2.setNum (o6MordantDeadCores p) 0).setNum (o6StitchDrops p) 0).setNum (o6DeadCores p) 0

/-- A loaded partition before its frame shows. -/
def State.loadedBare (s : State) (p : Nat) (g : Package) (alts : SMap Nat) : State :=
  if s.holdsFailed p then s.withGraph p g alts else (s.withGraph p g alts).setNum (o6PartitionState p) 0

theorem State.loaded_eq (s : State) (p : Nat) (g : Package) (alts : SMap Nat) :
    s.loaded p g alts = ((s.loadedBare p g alts).showFrame p).recordLoad p (loadValues 0 0 0) := rfl

theorem State.withGraph_leaves (s : State) (p : Nat) (g : Package) (alts : SMap Nat) :
    (s.withGraph p g alts).num (o6GraphState p) = 2 ∧ (s.withGraph p g alts).num (o6GraphId p) = g.graphId ∧
      (s.withGraph p g alts).num (o6PartitionState p) = s.num (o6PartitionState p) ∧
      ((s.withGraph p g alts).part p).pkg = some g ∧ ((s.withGraph p g alts).part p).copy = none ∧
      (s.withGraph p g alts).cores = s.cores ∧ (s.withGraph p g alts).clusters = s.clusters := by
  unfold withGraph
  dsimp only
  generalize hs1 : s.modPart p _ = s1
  have hpart : (s1.part p).pkg = some g ∧ (s1.part p).copy = none := by rw [← hs1, part_modPart_same]; exact ⟨rfl, rfl⟩
  have hrest : s1.num (o6PartitionState p) = s.num (o6PartitionState p) ∧ s1.cores = s.cores ∧ s1.clusters = s.clusters := by
    rw [← hs1]; exact ⟨rfl, rfl, rfl⟩
  simp only [part_setNum, setNum_cores, setNum_clusters]
  refine ⟨?_, ?_, ?_, hpart.1, hpart.2, hrest.2⟩
  · simp only [num_setNum, o6GraphState, o6GraphId, o6AlternatesActive, o6MordantDeadCores, o6StitchDrops, o6DeadCores,
      okey_eq_okey, Nat.reduceLT, Nat.reduceEqDiff, false_and, if_false, if_true]
  · simp only [num_setNum, o6GraphState, o6GraphId, o6AlternatesActive, o6MordantDeadCores, o6StitchDrops, o6DeadCores,
      okey_eq_okey, Nat.reduceLT, Nat.reduceEqDiff, false_and, if_false, if_true]
  · rw [← hrest.1]
    simp only [num_setNum, o6GraphState, o6GraphId, o6AlternatesActive, o6MordantDeadCores, o6StitchDrops, o6DeadCores,
      o6PartitionState, okey_eq_okey, Nat.reduceLT, Nat.reduceEqDiff, false_and, if_false]

theorem State.loadedBare_leaves (s : State) (p : Nat) (g : Package) (alts : SMap Nat) :
    (s.loadedBare p g alts).num (o6GraphState p) = 2 ∧ (s.loadedBare p g alts).num (o6GraphId p) = g.graphId ∧
      (s.loadedBare p g alts).num (o6PartitionState p) = (if s.holdsFailed p then s.num (o6PartitionState p) else 0) ∧
      ((s.loadedBare p g alts).part p).pkg = some g ∧ ((s.loadedBare p g alts).part p).copy = none ∧
      (s.loadedBare p g alts).cores = s.cores ∧ (s.loadedBare p g alts).clusters = s.clusters := by
  obtain ⟨hgraph, hid, hstate, hrest⟩ := s.withGraph_leaves p g alts
  unfold loadedBare
  by_cases hfailed : s.holdsFailed p = true
  · rw [if_pos hfailed, if_pos hfailed]
    exact ⟨hgraph, hid, hstate, hrest⟩
  · rw [if_neg hfailed, if_neg hfailed, part_setNum, setNum_cores, setNum_clusters, num_setNum_same,
      num_setNum_ne _ _ (by unfold o6GraphState o6PartitionState okey; omega),
      num_setNum_ne _ _ (by unfold o6GraphId o6PartitionState okey; omega)]
    exact ⟨hgraph, hid, rfl, hrest⟩

/-- The keys of a partition's objects that a load shows and those that its frame and its result write. -/
theorem State.loaded_num (s : State) (p : Nat) (g : Package) (alts : SMap Nat) {num : Nat}
    (h : num ≠ 0x0304 ∧ num ≠ 0x0501 ∧ num ≠ 0x0502) :
    (s.loaded p g alts).num (okey 6 p num) = (s.loadedBare p g alts).num (okey 6 p num) := by
  rw [loaded_eq]
  refine (num_setNum_ne _ _ ?_).trans (showFrame_keeps _ p ?_ ?_).1
  · unfold o6LoadResult okey; omega
  · unfold o6FrameLen okey; omega
  · unfold o6Turns okey; omega

theorem State.loaded_leaves (s : State) (p : Nat) (g : Package) (alts : SMap Nat) :
    (s.loaded p g alts).num (o6GraphState p) = 2 ∧ (s.loaded p g alts).num (o6GraphId p) = g.graphId ∧
      (s.loaded p g alts).num (o6LoadResult p) = 0 ∧
      (s.loaded p g alts).num (o6PartitionState p) = (if s.holdsFailed p then s.num (o6PartitionState p) else 0) ∧
      ((s.loaded p g alts).part p).pkg = some g ∧ ((s.loaded p g alts).part p).copy = none ∧
      (s.loaded p g alts).cores = s.cores ∧ (s.loaded p g alts).clusters = s.clusters := by
  obtain ⟨hgraph, hid, hstate, hpkg, hcopy, hcores, hclusters⟩ := s.loadedBare_leaves p g alts
  obtain ⟨-, hparts, hcores', hclusters'⟩ := (s.loadedBare p g alts).showFrame_keeps p (key := 0)
    (by unfold o6FrameLen okey; omega) (by unfold o6Turns okey; omega)
  have hpart : (s.loaded p g alts).part p = (s.loadedBare p g alts).part p := by
    rw [loaded_eq, part, part]
    exact congrArg (fun m : SMap PartSt => m.get PartSt.reset p) hparts
  have hresult : (s.loaded p g alts).num (o6LoadResult p) = 0 := by
    rw [loaded_eq]
    exact (num_setNum_same _ _ _).trans (leAt_loadValues (by decide) 0 0)
  have hunits : (s.loaded p g alts).cores = s.cores ∧ (s.loaded p g alts).clusters = s.clusters := by
    rw [loaded_eq]
    exact ⟨hcores'.trans hcores, hclusters'.trans hclusters⟩
  exact ⟨(s.loaded_num p g alts (by decide)).trans hgraph, (s.loaded_num p g alts (by decide)).trans hid,
    hresult, (s.loaded_num p g alts (by decide)).trans hstate, (congrArg PartSt.pkg hpart).trans hpkg,
    (congrArg PartSt.copy hpart).trans hcopy, hunits⟩

section
variable {b : List Byte} {silent : List Nat} (hp : p < 12) (hcopy : (s.part p).copy = some b)
include hp hcopy

theorem execGraphLoadRun_eq : execGraphLoadRun p silent s = .next (
    match s.checkLoad p b with
    | .error d => s.failLoad p d
    | .ok (s1, g, alts) =>
      match silent.find? (fun k => k < 8064 && s.partOfCluster k = p) with
      | some k => s.failLoad p (loadValues 0xD k 0)
      | none => s1.loaded p g alts) := by
  refine (onPart_eq hp).trans (congrArg _ ?_)
  simp only [hcopy] <;> rfl

end

end Sys2Proof.Machine

open Sys2Proof Sys2Proof.Machine

/-- Settles O28: what a load records, and what the loader leaves, by the outcome of the checks. -/
theorem graphLoads : Obligations.GraphLoads := by
  unfold Obligations.GraphLoads
  intro s p addr silent b hp hpart
  refine ⟨fun hspace hid hvalid hcut => ⟨fun hnone => graphLoad_begins hp hpart hspace hid hvalid hcut hnone,
    fun hsome => graphLoad_refused hp hpart hspace hid hvalid hcut hsome⟩, fun hcopy => ⟨fun d hd => ?_,
    fun s1 g alts hok hall => ?_, fun s1 g alts k hok hsilent => ?_⟩⟩
  · exact ⟨_, (execGraphLoadRun_eq hp hcopy).trans (by rw [hd]), s.failLoad_leaves p d⟩
  · exact ⟨_, (execGraphLoadRun_eq hp hcopy).trans (by rw [hok]; dsimp only; rw [hall]), s1.loaded_leaves p g alts⟩
  · obtain ⟨hgraph, hres, -, -, hcores, hclusters⟩ := s.failLoad_leaves p (loadValues 0xD k 0)
    exact ⟨_, (execGraphLoadRun_eq hp hcopy).trans (by rw [hok]; dsimp only; rw [hsilent]), hgraph,
      hres.trans (leAt_loadValues (by decide) k 0), hcores, hclusters⟩

end

section
/-! SUPPORT. What the engines of the module change beside the DRAM and the ports: messages that a port sends, and the DRAM reads
and writes of the module's own tables (R382, R462, R497, R682). -/

namespace Sys2Proof.Machine

variable {s t u : State}

/-- The numbers of the objects that the engines write: `POOL_FREE`, the counts of frames and segments sent, and
`PARTITION_STATE` and `PARTITION_FAULTS` of a partition that a failed channel faults. -/
def engineNums : List Nat := [0x0902, 0x0A0F, 0x0A13, 0x0D01, 0x0D02]

/-- `t` is `s` but for the ports, the DRAM, the fields' soft fuses, the posted records, the free values, what was sent, the requests
for a partition reset, and the objects that the engines write. -/
structure State.EnginesRan (s t : State) : Prop where
  cores : t.cores = s.cores
  clusters : t.clusters = s.clusters
  net : t.net = s.net
  wt : t.wt = s.wt
  clocks : t.clocks = s.clocks
  regions : t.regions = s.regions
  msc : ∃ l, t.msc = { s.msc with posted := l }
  part : ∀ p, ∃ r, t.part p = { s.part p with reset? := r }
  blobs : t.dict.blobs = s.dict.blobs
  num : ∀ key, key % 65536 ∉ engineNums → t.num key = s.num key

namespace State.EnginesRan

theorem refl (s : State) : s.EnginesRan s :=
  ⟨rfl, rfl, rfl, rfl, rfl, rfl, ⟨s.msc.posted, rfl⟩, fun p => ⟨(s.part p).reset?, rfl⟩, rfl, fun _ _ => rfl⟩

theorem trans (h : s.EnginesRan t) (h' : t.EnginesRan u) : s.EnginesRan u where
  cores := h'.cores.trans h.cores
  clusters := h'.clusters.trans h.clusters
  net := h'.net.trans h.net
  wt := h'.wt.trans h.wt
  clocks := h'.clocks.trans h.clocks
  regions := h'.regions.trans h.regions
  msc := by
    obtain ⟨l, hl⟩ := h.msc
    obtain ⟨l', hl'⟩ := h'.msc
    exact ⟨l', by rw [hl', hl]⟩
  part p := by
    obtain ⟨r, hr⟩ := h.part p
    obtain ⟨r', hr'⟩ := h'.part p
    exact ⟨r', by rw [hr', hr]⟩
  blobs := h'.blobs.trans h.blobs
  num key hk := (h'.num key hk).trans (h.num key hk)

theorem foldl {α : Type} {f : State → α → State} (hf : ∀ (s : State) a, s.EnginesRan (f s a)) (l : List α) (s : State) :
    s.EnginesRan (l.foldl f s) :=
  foldl_pred (P := fun t : State => s.EnginesRan t) (fun _ a h => h.trans (hf _ a)) l (refl s)

theorem modPort (s : State) (n : Nat) (g : PortSt → PortSt) : s.EnginesRan (s.modPort n g) :=
  ⟨rfl, rfl, rfl, rfl, rfl, rfl, ⟨s.msc.posted, rfl⟩, fun p => ⟨(s.part p).reset?, rfl⟩, rfl, fun _ _ => rfl⟩

theorem modChan (s : State) (ch : Nat) (g : Chan → Chan) : s.EnginesRan (s.modChan ch g) :=
  ⟨rfl, rfl, rfl, rfl, rfl, rfl, ⟨s.msc.posted, rfl⟩, fun p => ⟨(s.part p).reset?, rfl⟩, rfl, fun _ _ => rfl⟩

theorem setDram (s : State) (d : Dram) : s.EnginesRan { s with dram := d } :=
  ⟨rfl, rfl, rfl, rfl, rfl, rfl, ⟨s.msc.posted, rfl⟩, fun p => ⟨(s.part p).reset?, rfl⟩, rfl, fun _ _ => rfl⟩

theorem setFields (s : State) (m : SMap FieldSt) : s.EnginesRan { s with fields := m } :=
  ⟨rfl, rfl, rfl, rfl, rfl, rfl, ⟨s.msc.posted, rfl⟩, fun p => ⟨(s.part p).reset?, rfl⟩, rfl, fun _ _ => rfl⟩

theorem draw (s : State) : s.EnginesRan s.draw.2 :=
  ⟨rfl, rfl, rfl, rfl, rfl, rfl, ⟨s.msc.posted, rfl⟩, fun p => ⟨(s.part p).reset?, rfl⟩, rfl, fun _ _ => rfl⟩

theorem postField (s : State) (f source cls cause action detail : Nat) :
    s.EnginesRan (s.postField f source cls cause action detail) :=
  ⟨rfl, rfl, rfl, rfl, rfl, rfl, ⟨_, rfl⟩, fun p => ⟨(s.part p).reset?, rfl⟩, rfl, fun _ _ => rfl⟩

theorem setSent (s : State) (l : List Sent) : s.EnginesRan { s with sent := l } :=
  ⟨rfl, rfl, rfl, rfl, rfl, rfl, ⟨s.msc.posted, rfl⟩, fun p => ⟨(s.part p).reset?, rfl⟩, rfl, fun _ _ => rfl⟩

theorem setNum (s : State) {key : Nat} (hkey : key % 65536 ∈ engineNums) (v : Nat) : s.EnginesRan (s.setNum key v) where
  cores := rfl
  clusters := rfl
  net := rfl
  wt := rfl
  clocks := rfl
  regions := rfl
  msc := ⟨s.msc.posted, rfl⟩
  part p := ⟨(s.part p).reset?, rfl⟩
  blobs := rfl
  num _ hne := num_setNum_ne s v fun h => hne (h ▸ hkey)

theorem requestReset (s : State) (p : Nat) : s.EnginesRan (s.modPart p (fun x => { x with reset? := some true })) where
  cores := rfl
  clusters := rfl
  net := rfl
  wt := rfl
  clocks := rfl
  regions := rfl
  msc := ⟨s.msc.posted, rfl⟩
  part q := by
    by_cases hq : q = p
    · exact ⟨some true, by rw [hq, part_modPart_same]⟩
    · exact ⟨(s.part q).reset?, part_setPart_ne s _ hq⟩
  blobs := rfl
  num _ _ := rfl

end State.EnginesRan

theorem okey_mod (scope inst : Nat) {num : Nat} (h : num < 65536) : okey scope inst num % 65536 = num := by
  unfold okey; omega

/-! ### DRAM -/

theorem State.faultPart_engines (s : State) (p : Nat) : s.EnginesRan (s.faultPart p) := by
  unfold faultPart
  split
  · exact .refl s
  · exact ((EnginesRan.setNum s (by rw [o6PartitionState, okey_mod _ _ (by decide)]; decide) 3).trans
      (.setNum _ (by rw [o6PartitionFaults, okey_mod _ _ (by decide)]; decide) _)).trans (.requestReset _ p)

theorem State.softFuse_engines (s : State) (f kind loc cause : Nat) : s.EnginesRan (s.softFuse f kind loc cause) := by
  unfold softFuse recordFuse
  dsimp only
  generalize (fun y : FieldSt => _) = g
  obtain ⟨fields, he⟩ := s.rewriteMap_eq_with_fields f g
  rw [he]
  exact .setFields s fields

theorem State.lineError_engines (s : State) (line off : Nat) : s.EnginesRan (s.lineError line off) := by
  unfold lineError rowFuse
  dsimp only
  generalize hs1 : State.postField _ _ _ _ _ _ _ = s1
  have h1 : s.EnginesRan s1 := by
    rw [← hs1]
    exact ((EnginesRan.modChan s _ _).trans (.setFields _ _)).trans (.postField _ _ _ _ _ _ _)
  split
  · exact h1.trans (softFuse_engines _ _ _ _ _)
  · split
    · exact h1
    · exact h1.trans (.modChan _ _ _)

theorem State.correct_engines (s : State) (lines : List Nat) (off : Nat) : s.EnginesRan (s.correct lines off) := by
  unfold correct
  split
  · exact .refl s
  · exact (EnginesRan.setDram s _).trans (.modChan _ _ _)

theorem State.dramRead_engines (s : State) (key n : Nat) : s.EnginesRan (s.dramRead key n).1 := by
  unfold dramRead
  dsimp only
  split
  · exact (correct_engines s _ _).trans (.foldl (fun t l => lineError_engines t l _) _ _)
  · dsimp only
    exact (correct_engines s _ _).trans (.modChan _ _ _)

theorem State.dramLine_engines (s : State) (key : Nat) (d : List Byte) (line : Nat) : s.EnginesRan (s.dramLine key d line).1 := by
  unfold dramLine
  dsimp only
  split
  · exact ((EnginesRan.setDram s _).trans (.modChan _ _ _)).trans (.modChan _ _ _)
  · split
    · exact lineError_engines s _ _
    · dsimp only
      exact ((correct_engines s _ _).trans (.setDram _ _)).trans (.modChan _ _ _)

theorem State.dramLines_engines (s : State) (key : Nat) (d : List Byte) (lines : List Nat) (ok : Bool) :
    s.EnginesRan (s.dramLines key d lines ok).1 := by
  induction lines generalizing s ok with
  | nil => exact .refl s
  | cons l r ih => exact (dramLine_engines s key d l).trans (ih _ _)

theorem State.channelDown_engines (s : State) (key : Nat) : s.EnginesRan (s.channelDown key) := by
  unfold channelDown
  dsimp only
  split
  · exact .refl s
  · exact (EnginesRan.postField s _ _ _ _ _ _).trans (faultPart_engines _ _)

theorem State.engineRead_engines (s : State) (key n : Nat) : s.EnginesRan (s.engineRead key n).1 := by
  unfold engineRead
  split
  · exact channelDown_engines s key
  · exact dramRead_engines s key n

theorem State.gaRead_engines (s : State) (a n : Nat) : s.EnginesRan (s.gaRead a n).1 := by
  unfold gaRead
  refine foldl_pred (P := fun x : State × List Byte => s.EnginesRan x.1) ?_ _ (.refl s)
  intro x p h
  dsimp only
  split
  · exact h.trans (engineRead_engines _ _ _)
  · exact (h.trans (engineRead_engines _ _ _)).trans (.draw _)

theorem State.gaWrite_engines (s : State) (a : Nat) (d : List Byte) : s.EnginesRan (s.gaWrite a d) := by
  unfold gaWrite
  refine .foldl ?_ _ s
  intro t p
  dsimp only
  split
  · exact channelDown_engines t _
  · exact dramLines_engines t _ _ _ _

/-! ### Messages -/

theorem State.emit_engines (s : State) (x : Sent) : s.EnginesRan (s.emit x) := by
  unfold emit
  dsimp only
  split
  · exact (EnginesRan.setSent s _).trans (.setNum _ (by rw [o4FramesTx, okey_mod _ _ (by decide)]; decide) _)
  · exact .setSent s _

theorem State.pushPage_engines (s : State) (n a : Nat) : s.EnginesRan (s.pushPage n a) := by
  unfold pushPage
  dsimp only
  split
  · exact .refl s
  · exact ((gaWrite_engines s _ _).trans (.modPort _ _ _)).trans
      (.setNum _ (by rw [o4PoolFree, okey_mod _ _ (by decide)]; decide) _)

theorem State.unmapPages_engines (s : State) (n : Nat) (e : StreamEntry) : s.EnginesRan (s.unmapPages n e) := by
  unfold unmapPages
  refine .foldl ?_ _ s
  intro t j
  exact ((gaRead_engines t _ _).trans (pushPage_engines _ _ _)).trans (gaWrite_engines _ _ _)

theorem State.sweep_engines (s : State) (n : Nat) : s.EnginesRan (s.sweep n) := by
  unfold sweep
  dsimp only
  split
  · exact .refl s
  · exact (EnginesRan.foldl (fun t j => unmapPages_engines t n _) _ s).trans (.modPort _ _ _)

theorem State.sendSeg_engines (s : State) (n a : Nat) (g : OutSeg) : s.EnginesRan (s.sendSeg n a g) :=
  (emit_engines s _).trans (.setNum _ (by rw [o4HwtSegsTx, okey_mod _ _ (by decide)]; decide) _)

theorem State.sendNext_engines (s : State) (n : Nat) : s.EnginesRan (s.sendNext n) := by
  unfold sendNext
  split
  · exact .refl s
  · split
    · exact .refl s
    · exact ((EnginesRan.modPort s n _).trans (.modPort _ n _)).trans (sendSeg_engines _ n _ _)

theorem State.pump_engines (s : State) (n : Nat) : s.EnginesRan (s.pump n) := by
  unfold pump
  split
  · exact .refl s
  · exact (EnginesRan.foldl (fun t _ => sendNext_engines t n) _ s).trans (sweep_engines _ n)

theorem State.queueMsg_engines (s : State) (n a : Nat) (m : HwtMsg) : s.EnginesRan (s.queueMsg n a m) := by
  unfold queueMsg
  split
  · exact (EnginesRan.modPort s n _).trans (pump_engines _ n)
  · exact .refl s

theorem State.sendMsg_engines (s : State) (n a opcode status target : Nat) (payload : List Byte) :
    s.EnginesRan (s.sendMsg n a opcode status target payload) := by
  unfold sendMsg
  split
  · exact (EnginesRan.modPort s n _).trans (queueMsg_engines _ n _ _)
  · exact .refl s

theorem State.sendReport_engines (s : State) (n no end_ outcome : Nat) (recs : List (List Byte)) :
    s.EnginesRan (s.sendReport n no end_ outcome recs) := sendMsg_engines s n _ _ _ _ _

end Sys2Proof.Machine
end

section
/-! SUPPORT. The layout of partitions and their resets (R44 to R48, R669 to R678). -/

namespace Sys2Proof.Machine

variable {s t : State} {p : Nat}

/-! ### Splits -/

section
variable {v : BitVec 16}

/-- A split that is refused, and one that takes effect. -/
theorem execPartitionSplit_busy {r : Nat} (hr : r ∈ s.changedRegions v.toNat) (hbusy : s.num (o6GraphState (s.partOfRegion r)) = 2) :
    execPartitionSplit v s = .next s := by
  refine congrArg Host.Outcome.next ?_
  unfold State.writeSplit
  dsimp only
  split
  · rfl
  · rw [if_pos]
    exact List.any_eq_true.mpr ⟨r, hr, by simp [hbusy]⟩

/-- The regions whose membership changes are reset, their partitions start afresh, and the windows follow. -/
theorem execPartitionSplit_idle (hcut : (s.changedRegions v.toNat).any (fun r => s.regionUp r && s.cutOff [r]) = false)
    (hidle : ∀ r, r ∈ s.changedRegions v.toNat → s.num (o6GraphState (s.partOfRegion r)) = 0 ∧ s.openOf r = 0 ∧
      s.openOf (r + 12) = 0) :
    execPartitionSplit v s = .next (
      let rs := s.changedRegions v.toNat
      let s1 := (s.setNum o0PartitionSplit (v.toNat % 2048)).resetPlane rs
      let s2 := (rs.map s.partOfRegion ++ rs.map s1.partOfRegion).eraseDups.foldl State.freshPart s1
      (List.range 24).foldl State.closeWindows s2.windows) := by
  refine congrArg Host.Outcome.next ?_
  unfold State.writeSplit
  dsimp only
  rw [hcut, if_neg Bool.false_ne_true, if_neg]
  rw [Bool.not_eq_true, List.any_eq_false]
  intro r hr
  obtain ⟨hg, ho, ho'⟩ := hidle r hr
  simp [hg, ho, ho']

theorem State.resetPlane_dict (s : State) (rs : List Nat) : (s.resetPlane rs).dict = s.dict := rfl

theorem State.freshPart_split (s : State) (p : Nat) : (s.freshPart p).num o0PartitionSplit = s.num o0PartitionSplit := by
  have hremove : (s.removeGraph p).num o0PartitionSplit = s.num o0PartitionSplit := by
    unfold removeGraph
    dsimp only
    rw [num_setNum_ne _ _ (by unfold o0PartitionSplit o6Turns okey; omega),
      num_setNum_ne _ _ (by unfold o0PartitionSplit o6FrameLen okey; omega),
      num_setNum_ne _ _ (by unfold o0PartitionSplit o6AlternatesActive okey; omega),
      num_setNum_ne _ _ (by unfold o0PartitionSplit o6GraphId okey; omega),
      num_setNum_ne _ _ (by unfold o0PartitionSplit o6GraphState okey; omega), num_modPart]
  have hdict : (s.freshPart p).dict =
      ((s.removeGraph p).setNum (o6PartitionState p) (if s.holdsFailed p then 3 else 0)).dict := rfl
  rw [num_of_dict _ hdict, num_setNum_ne _ _ (by unfold o0PartitionSplit o6PartitionState okey; omega), hremove]

theorem State.windows_split (s : State) : s.windows.num o0PartitionSplit = s.num o0PartitionSplit := by
  obtain ⟨-, -, -, hnum, -⟩ := s.windows_sameButRecords
  exact hnum 0x0120 (by decide)

theorem State.closeWindows_num (s : State) (n key : Nat) : (s.closeWindows n).num key = s.num key := by
  unfold closeWindows
  refine foldl_pred (P := fun t : State => t.num key = s.num key) ?_ _ rfl
  intro t w ht
  dsimp only
  split
  · exact ht
  · exact ht

theorem partitionSplit_gives (hcut : (s.changedRegions v.toNat).any (fun r => s.regionUp r && s.cutOff [r]) = false)
    (hidle : ∀ r, r ∈ s.changedRegions v.toNat → s.num (o6GraphState (s.partOfRegion r)) = 0 ∧ s.openOf r = 0 ∧
      s.openOf (r + 12) = 0) :
    Gives (execPartitionSplit v s) (fun t => t.num o0PartitionSplit = v.toNat % 2048) := by
  refine ⟨_, execPartitionSplit_idle hcut hidle, ?_⟩
  dsimp only
  generalize hs1 : (s.setNum o0PartitionSplit (v.toNat % 2048)).resetPlane (s.changedRegions v.toNat) = s1
  have h1 : s1.num o0PartitionSplit = v.toNat % 2048 := by
    rw [State.num_of_dict _ (hs1 ▸ State.resetPlane_dict _ _), State.num_setNum_same]
  refine foldl_pred (P := fun t : State => t.num o0PartitionSplit = v.toNat % 2048)
    (fun t n ht => (t.closeWindows_num n _).trans ht) _ ((State.windows_split _).trans ?_)
  exact foldl_pred (P := fun t : State => t.num o0PartitionSplit = v.toNat % 2048)
    (fun t p ht => (t.freshPart_split p).trans ht) _ h1

end

/-! ### Requests -/

theorem State.askReset_leaves (s : State) (p : Nat) (remove : Bool) :
    (s.askReset p remove).num (o6PartitionState p) = (if s.num (o6PartitionState p) = 3 then 3 else 2) ∧
      ((s.askReset p remove).part p).reset? = some remove ∧ p ∈ (s.askReset p remove).msc.asked := by
  unfold askReset
  dsimp only
  refine ⟨?_, ?_, mem_addOnce _ _⟩
  · split
    · next h => exact h
    · exact num_setNum_same _ _ _
  · simp only [part, modPart, setPart, SMap.get_put_same]

section
variable (hp : p < 12) (hpart : s.isPart p = true)
include hp hpart

theorem partitionReset_gives {v : Nat} (hv : v = 1 ∨ v = 2) (hload : s.num (o6GraphState p) ≠ 1)
    (hfault : s.num (o6PartitionState p) ≠ 3) (hstart : s.msc.starting = none) :
    Gives (onPart p s fun s => when' (s.isPart p) s (s.writePartReset p v).1) (fun t => t.num (o6PartitionState p) = 2 ∧
      (t.part p).reset? = some (decide (v = 2)) ∧ p ∈ t.msc.asked) := by
  have hwrite : s.writePartReset p v = (s.askReset p (v = 2), 0) :=
    (if_neg (by omega)).trans ((if_neg (by omega)).trans (if_neg (by simp [hstart])))
  obtain ⟨hstate, hreset, hasked⟩ := s.askReset_leaves p (v = 2)
  refine ⟨_, (onPart_eq hp).trans (congrArg _ ((when'_true hpart).trans (congrArg Prod.fst hwrite))), ?_, hreset, hasked⟩
  rw [hstate, if_neg hfault]

theorem graphUnload_gives (hopen : s.openIn p = 0) (hgraph : s.num (o6GraphState p) = 2) :
    Gives (execGraphUnload p 1 s) (fun t => t.num (o6PartitionState p) = (if s.num (o6PartitionState p) = 3 then 3 else 2) ∧
      (t.part p).reset? = some true) := by
  have hwrite : s.writeUnload p 1 = (s.askReset p true, 0) :=
    (if_neg (by decide)).trans ((if_neg (by omega)).trans (if_neg (by omega)))
  obtain ⟨hstate, hreset, -⟩ := s.askReset_leaves p true
  exact ⟨_, (onPart_eq hp).trans (congrArg _ ((when'_true hpart).trans (congrArg Prod.fst hwrite))), hstate, hreset⟩

end

/-! ### Resets that run -/

theorem State.resetOver_leaves (s : State) (p : Nat) :
    ((s.resetOver p).part p) = { s.part p with reset? := none } ∧ p ∉ (s.resetOver p).msc.asked ∧
      (s.resetOver p).num (o6PartitionState p) ≠ 2 ∧ (s.resetOver p).num (o6GraphState p) = s.num (o6GraphState p) := by
  unfold resetOver
  dsimp only
  split
  · next h =>
    refine ⟨by simp only [part, modPart, setPart, SMap.get_put_same], by simp, ?_, rfl⟩
    rw [h]
    decide
  · refine ⟨by simp only [setNum_parts, part, modPart, setPart, SMap.get_put_same], by simp, ?_, num_setNum_ne _ _ (by unfold o6GraphState o6PartitionState okey; omega)⟩
    rw [num_setNum_same]
    decide

theorem State.holdPart_engines (s : State) (p : Nat) : s.EnginesRan (s.holdPart p) := by
  unfold holdPart
  refine .foldl ?_ _ s
  intro t n
  dsimp only
  split
  · exact .refl t
  · exact (EnginesRan.modPort t n _).trans (sendReport_engines _ n _ _ _ _)

theorem State.removeGraph_leaves (s : State) (p : Nat) :
    ((s.removeGraph p).part p).pkg = none ∧ (s.removeGraph p).num (o6GraphState p) = 0 := by
  unfold removeGraph
  dsimp only
  simp only [part_setNum, part_modPart_same, true_and]
  rw [num_setNum_ne _ _ (by unfold o6GraphState o6Turns okey; omega),
    num_setNum_ne _ _ (by unfold o6GraphState o6FrameLen okey; omega),
    num_setNum_ne _ _ (by unfold o6GraphState o6AlternatesActive okey; omega),
    num_setNum_ne _ _ (by unfold o6GraphState o6GraphId okey; omega), num_setNum_same]

theorem State.resetRemove_leaves (s : State) (p : Nat) :
    ((s.resetRemove p).part p).pkg = none ∧ (s.resetRemove p).num (o6GraphState p) = 0 := by
  unfold resetRemove
  generalize (s.resetPlane (s.partRegions p)).endWindow p s.wt = s1
  obtain ⟨hpkg, hgraph⟩ := s1.removeGraph_leaves p
  have hran := (s1.removeGraph p).holdPart_engines p
  obtain ⟨r, hr⟩ := hran.part p
  refine ⟨?_, (hran.num _ ?_).trans hgraph⟩
  · rw [hr]
    exact hpkg
  · rw [o6GraphState, okey_mod _ _ (by decide)]
    decide

section
variable (hp : p < 12) (hbound : (s.part p).boundary = true)
include hp hbound

theorem execPartitionResetRun_eq {remove : Bool} (hask : (s.part p).reset? = some remove) :
    execPartitionResetRun p s = .next
      ((if remove then (s.voidAdmission p).resetRemove p else (s.voidAdmission p).resetKeep p).resetOver p) := by
  refine (onPart_eq hp).trans (congrArg _ ?_)
  simp only [hask, hbound, if_true]

theorem partitionResetRun_removes (hask : (s.part p).reset? = some true) :
    Gives (execPartitionResetRun p s) (fun t => (t.part p).reset? = none ∧
      (t.part p).pkg = none ∧ t.num (o6GraphState p) = 0 ∧ p ∉ t.msc.asked ∧ t.num (o6PartitionState p) ≠ 2) := by
  obtain ⟨hpkg, hgraph⟩ := (s.voidAdmission p).resetRemove_leaves p
  obtain ⟨hpart, hasked, hstate, hkeep⟩ := ((s.voidAdmission p).resetRemove p).resetOver_leaves p
  refine ⟨_, (execPartitionResetRun_eq hp hbound hask).trans (congrArg _ (congrArg (State.resetOver · p) (if_pos rfl))), ?_, ?_,
    hkeep.trans hgraph, hasked, hstate⟩
  · rw [hpart]
  · rw [hpart]
    exact hpkg

theorem partitionResetRun_keeps (hask : (s.part p).reset? = some false) :
    Gives (execPartitionResetRun p s) (fun t => (t.part p).reset? = none ∧ p ∉ t.msc.asked ∧ t.num (o6PartitionState p) ≠ 2) := by
  obtain ⟨hpart, hasked, hstate, -⟩ := ((s.voidAdmission p).resetKeep p).resetOver_leaves p
  refine ⟨_, (execPartitionResetRun_eq hp hbound hask).trans
    (congrArg _ (congrArg (State.resetOver · p) (if_neg Bool.false_ne_true))), ?_, hasked, hstate⟩
  rw [hpart]

end

end Sys2Proof.Machine

open Sys2Proof Sys2Proof.Machine

/-- Settles O29: what a split, a request and a reset that runs write, in the order in which they write it. -/
theorem partitionSplitsAndResets : Obligations.PartitionSplitsAndResets := by
  unfold Obligations.PartitionSplitsAndResets
  intro s p v hp
  exact ⟨partitionSplit_gives, fun r hr hbusy => execPartitionSplit_busy hr hbusy,
    fun hpart hload hfault hstart => ⟨partitionReset_gives hp hpart (.inl rfl) hload hfault hstart,
      partitionReset_gives hp hpart (.inr rfl) hload hfault hstart⟩,
    fun hpart hopen hgraph => graphUnload_gives hp hpart hopen hgraph,
    fun hbound => ⟨partitionResetRun_removes hp hbound, partitionResetRun_keeps hp hbound⟩⟩

end

section
/-! SUPPORT. Dead cores, routers that fail, cluster resets and variants (R30, R35, R149, R668, R674, R677). -/

namespace Sys2Proof.Machine

variable {s t : State} {c k p : Nat}

/-! ### Core resets -/

theorem State.coreReset_core (s : State) (c d : Nat) :
    ((s.coreReset c).core d).dead = (s.core d).dead ∧
      (d = c → ((s.coreReset c).core d).firing = false ∧ ((s.coreReset c).core d).cnt = [] ∧ ((s.coreReset c).core d).store = []) ∧
      (d ≠ c → (s.coreReset c).core d = s.core d) := by
  have hcore : (s.coreReset c).core d = ((s.withdraw (· = c)).draw.2.setCore c
      { Core.resetWith (seedOf (Config.freeLong (s.withdraw (· = c)).draw.1)) with
        restore := (s.core c).restore, dead := (s.core c).dead, inReset := (s.core c).inReset || (s.core c).dead
        since := s.fabricIn (coreRegion c), sinceNs := s.wt }).core d := rfl
  rw [hcore]
  by_cases hd : d = c
  · rw [hd, core_setCore_same]
    exact ⟨rfl, fun _ => ⟨rfl, rfl, rfl⟩, fun h => absurd rfl h⟩
  · rw [core_setCore_ne _ _ hd]
    exact ⟨rfl, fun h => absurd h hd, fun _ => rfl⟩

/-- A core that has been reset is listed: what it reads depends on the cores alone. -/
theorem State.core_of_coreReset (s : State) (c : Nat) (h : t.cores = (s.coreReset c).cores) : t.core c = (s.coreReset c).core c := by
  have hlook : ∃ x, (s.coreReset c).cores.look c = some x := ⟨_, SMap.look_put_same _ _ _⟩
  obtain ⟨x, hx⟩ := hlook
  simp only [core, SMap.get, h, hx, Option.getD_some]

theorem State.num_draw (s : State) (key : Nat) : s.draw.2.num key = s.num key := rfl

theorem State.coreReset_keeps (s : State) (c : Nat) :
    (s.coreReset c).dict = s.dict ∧ (s.coreReset c).parts = s.parts := ⟨rfl, rfl⟩

/-! ### Dead cores -/

theorem State.num_rewriteMap (s : State) (f : Nat) (g : FieldSt → FieldSt) (key : Nat) : (s.rewriteMap f g).num key = s.num key := by
  obtain ⟨fields, he⟩ := s.rewriteMap_eq_with_fields f g
  rw [he]
  rfl

theorem State.cores_rewriteMap (s : State) (f : Nat) (g : FieldSt → FieldSt) : (s.rewriteMap f g).cores = s.cores := by
  obtain ⟨fields, he⟩ := s.rewriteMap_eq_with_fields f g
  rw [he]

theorem State.closeBoundary_num (s : State) (p ns : Nat) {key : Nat}
    (hkey : key ≠ o6MordantCommits p ∧ key ≠ o6MordantDiscards p ∧ key ≠ o6MordantLastNs p) :
    (s.closeBoundary p ns).num key = s.num key := by
  obtain ⟨hcommit, hdiscard, hns⟩ := hkey
  unfold closeBoundary
  split
  · next q _ =>
    split
    · refine (num_setNum_ne _ _ hns).trans ((num_addNum_ne _ _ ?_).trans rfl)
      split
      · exact hcommit
      · exact hdiscard
    · rfl
  · rfl

/-- What the death of a core leaves: the core dead and reset, and `DEAD_CORES` of its partition one more. -/
theorem State.coreDead_leaves (s : State) (c cls cause detail : Nat) :
    ((s.coreDead c cls cause detail).core c).dead = true ∧ ((s.coreDead c cls cause detail).core c).firing = false ∧
      ((s.coreDead c cls cause detail).core c).cnt = [] ∧
      (s.coreDead c cls cause detail).num (o6DeadCores (s.coresPart c)) = (s.num (o6DeadCores (s.coresPart c)) + 1) % 2 ^ 64 ∧
      (s.coreDead c cls cause detail).num (o6MordantDeadCores (s.coresPart c)) = s.num (o6MordantDeadCores (s.coresPart c)) := by
  unfold coreDead
  dsimp only
  generalize s.coresPart c = p
  obtain ⟨hdead, hreset, -⟩ := (s.modCore c (fun x => { x with dead := true })).coreReset_core c c
  obtain ⟨hfiring, hcnt, -⟩ := hreset rfl
  have hdead := hdead.trans (congrArg Core.dead (core_setCore_same s c _))
  obtain ⟨hdict, -⟩ := (s.modCore c (fun x => { x with dead := true })).coreReset_keeps c
  have hnum1 (key : Nat) := (num_of_dict _ hdict key).trans (num_modCore s c _ key)
  have hcore1 (u : State) := State.core_of_coreReset (t := u) (s.modCore c (fun x => { x with dead := true })) c
  generalize (s.modCore c (fun x => { x with dead := true })).coreReset c = s1 at *
  generalize hs2 : s1.softFuse (fieldOf (clusterOf c)) 1 _ cause = s2
  have hcores2 : s2.cores = s1.cores := hs2 ▸ s1.softFuse_cores _ _ _ _
  have hnum2 (key : Nat) (h : key % 65536 ∉ engineNums) : s2.num key = s1.num key := hs2 ▸ (s1.softFuse_engines _ _ _ _).num key h
  generalize hs3 : (if s2.clusterState (clusterOf c) = 0 then s2.setClusterState (clusterOf c) 3 else s2) = s3
  have hs3' : s3.cores = s2.cores ∧ ∀ key, s3.num key = s2.num key := by
    rw [← hs3]
    split
    · exact ⟨s2.cores_rewriteMap _ _, fun key => s2.num_rewriteMap _ _ key⟩
    · exact ⟨rfl, fun _ => rfl⟩
  have hclose (num : Nat) (h : num ≠ 0x0200 ∧ num ≠ 0x0201 ∧ num ≠ 0x0202) := (s3.addNum (o6DeadCores p) 1).closeBoundary_num p
    (s3.sinceBoundary p) (key := okey 6 p num) (by
      unfold o6MordantCommits o6MordantDiscards o6MordantLastNs okey
      omega)
  generalize hs4 : (s3.addNum (o6DeadCores p) 1).closeBoundary p (s3.sinceBoundary p) = s4 at *
  have hcores4 : s4.cores = s1.cores := by
    rw [← hs4, ((s3.addNum (o6DeadCores p) 1).closeBoundary_keeps p _).1]
    exact hs3'.1.trans hcores2
  have hmordant : s4.num (o6MordantDeadCores p) = s.num (o6MordantDeadCores p) := by
    refine (hclose 0x0203 (by decide)).trans ((num_addNum_ne _ _ (by unfold o6DeadCores okey; omega)).trans ?_)
    rw [hs3'.2, hnum2 _ (by rw [okey_mod _ _ (by decide)]; decide), hnum1, o6MordantDeadCores]
  have hcount : s4.num (o6DeadCores p) = (s.num (o6DeadCores p) + 1) % 2 ^ 64 := by
    refine (hclose 0x0D03 (by decide)).trans ((num_addNum_same _ _ _).trans ?_)
    rw [hs3'.2, o6DeadCores, hnum2 _ (by rw [okey_mod _ _ (by decide)]; decide), hnum1]
  generalize hs5 : s4.postField (fieldOf (clusterOf c)) 1 cls cause _ detail = s5
  have hcores5 : s5.cores = s1.cores := by rw [← hs5]; exact hcores4
  have hnum5 (key : Nat) : s5.num key = s4.num key := by rw [← hs5]; rfl
  have hlast : ∀ u : State, u.cores = s5.cores → (∀ key, key % 65536 ∉ engineNums → u.num key = s5.num key) →
      (u.core c).dead = true ∧ (u.core c).firing = false ∧ (u.core c).cnt = [] ∧
        u.num (o6DeadCores p) = (s.num (o6DeadCores p) + 1) % 2 ^ 64 ∧
        u.num (o6MordantDeadCores p) = s.num (o6MordantDeadCores p) := by
    intro u hu hn
    have hcore : u.core c = s1.core c := hcore1 u (hu.trans hcores5)
    rw [hcore, hn _ (by rw [o6DeadCores, okey_mod _ _ (by decide)]; decide),
      hn _ (by rw [o6MordantDeadCores, okey_mod _ _ (by decide)]; decide), hnum5, hnum5]
    exact ⟨hdead, hfiring, hcnt, hcount, hmordant⟩
  split
  · exact hlast _ (s5.faultPart_engines p).cores (s5.faultPart_engines p).num
  · split
    · exact hlast _ rfl fun _ _ => rfl
    · exact hlast _ rfl fun _ _ => rfl

/-- A drop cause on its way is no part of the cores or the dictionary. -/
theorem coreDead_gives {s' : State} {cls cause detail m d : Nat} (hpart : s'.coresPart c = p) (hm : s'.num (o6MordantDeadCores p) = m)
    (hd : s'.num (o6DeadCores p) = d) {out : Out} (hout : out = .next (s'.coreDead c cls cause detail)) :
    Gives out (fun t => (t.core c).dead = true ∧ (t.core c).firing = false ∧ (t.core c).cnt = [] ∧
      t.num (o6DeadCores p) = (d + 1) % 2 ^ 64 ∧ t.num (o6MordantDeadCores p) = m) := by
  obtain ⟨hdead, hfiring, hcnt, hcount, hmordant⟩ := s'.coreDead_leaves c cls cause detail
  rw [hpart] at hcount hmordant
  exact ⟨_, hout, hdead, hfiring, hcnt, hd ▸ hcount, hmordant.trans hm⟩

section
variable (hc : c < 258048) (hmortal : s.mortal c = true)
include hc hmortal

theorem execCoreDead_fault (hf : (s.core c).faulted = true) (hv : (s.core c).log.valid = true) (hcls : (s.core c).log.cls = 2)
    (hp : (s.core c).logPosted = true) :
    execCoreDead c s = .next (s.coreDead c 2 (s.core c).log.cause (s.core c).log.detail) := by
  rw [execCoreDead, onCore_eq hc]
  exact congrArg _ (if_pos (by simp [hmortal, hf, hv, hcls, hp]))

theorem execCoreDead_worn (hf : (s.core c).faulted = false) (hworn : (s.core c).worn = true) :
    execCoreDead c s = .next ((s.pushCause (s.coresPart c) 5).coreDead c 1 0x10
      ((((s.core c).ueHour.find? (fun e => withinHour e.2)).map (·.1)).getD 0)) := by
  rw [execCoreDead, onCore_eq hc]
  exact congrArg _ ((if_neg (by simp [hf])).trans (if_pos (by simp [hmortal, hworn])))

theorem execMordantAckTimeout_dead (he : (s.part (s.coresPart c)).ended = true) (ht : (s.part (s.coresPart c)).told true c = true)
    (ha : (s.part (s.coresPart c)).acked true c = false) :
    execMordantAckTimeout c s = .next ((s.addNum (o6MordantDeadCores (s.coresPart c)) 1).draw.2.coreDead c 2 s.freeByte 0) := by
  rw [execMordantAckTimeout, onCore_eq hc]
  exact congrArg _ (if_pos (by simp [hmortal, he, ht, ha]))

theorem execRestartAckTimeout_dead (he : (s.part (s.coresPart c)).ended = true) (ht : (s.part (s.coresPart c)).told false c = true)
    (ha : (s.part (s.coresPart c)).acked false c = false) :
    execRestartAckTimeout c s = .next (s.draw.2.coreDead c 2 s.freeByte 0) := by
  rw [execRestartAckTimeout, onCore_eq hc]
  exact congrArg _ (when'_true (by simp [hmortal, he, ht, ha]))

end

/-! ### Routers that fail -/

theorem State.freeBc_dict (s : State) (k : Nat) : (s.freeBc k).dict = s.dict := by
  obtain ⟨net, h⟩ := s.freeBc_eq_with_net k
  rw [h]

theorem State.collect_dict (s : State) (id : Nat) : (s.collect id).dict = s.dict := by
  obtain ⟨net, h⟩ := s.collect_eq_with_net id
  rw [h]

theorem State.cutBc_dict (s : State) (k : Nat) : (s.cutBc k).dict = s.dict := by
  unfold cutBc
  split
  · rfl
  · refine (freeBc_dict _ k).trans ?_
    split
    · rfl
    · rfl

theorem State.modPacket_dict (s : State) (id : Nat) (g : Packet → Packet) : (s.modPacket id g).dict = s.dict := by
  unfold modPacket
  split
  · rfl
  · rfl

theorem State.endCut_dict (s : State) (k port : Nat) : (s.endCut k port).dict = s.dict := by
  unfold endCut
  dsimp only
  generalize hs1 : List.foldl _ s ((s.node k).in_ port).open_ = s1
  have h1 : s1.dict = s.dict := by
    rw [← hs1]
    refine foldl_pred (P := fun t : State => t.dict = s.dict) ?_ _ rfl
    intro t e h
    exact (modPacket_dict _ _ _).trans h
  generalize hs2 : s1.modNode k (fun x => x.setIn port { LinkIn.reset with freed := [] }) = s2
  have h2 : s2.dict = s.dict := by rw [← hs2]; exact h1
  generalize hs3 : (if k < 8064 then s2.notePeak k port else s2) = s3
  have h3 : s3.dict = s.dict := by
    rw [← hs3]
    split
    · exact h2
    · exact h2
  split
  · exact (cutBc_dict s3 k).trans h3
  · exact h3

theorem State.cutLink_dict (s : State) (k q k' port' why : Nat) : (s.cutLink k q k' port' why).dict = s.dict := by
  unfold cutLink
  dsimp only
  refine foldl_pred (P := fun t : State => t.dict = s.dict) (fun t id h => (collect_dict t id).trans h) _ ?_
  exact (freeBc_dict _ k).trans (endCut_dict _ k' port')

theorem State.downLink_dict (s : State) (k q why : Nat) : (s.downLink k q why).dict = s.dict := by
  unfold downLink
  split
  · rfl
  · next k' port' _ =>
    have hcut := (cutLink_dict (s.cutLink k q k' port' why) k' port' k q why).trans (cutLink_dict s k q k' port' why)
    dsimp only
    split
    · exact hcut
    · exact hcut

theorem State.loseNode_dict (s : State) (k : Nat) : (s.loseNode k).dict = s.dict := by
  unfold loseNode
  dsimp only
  refine foldl_pred (P := fun t : State => t.dict = s.dict) (fun t id h => (collect_dict t id).trans h) _ ?_
  exact foldl_pred (P := fun t : State => t.dict = s.dict) (fun t q h => (downLink_dict t k q 0).trans h) (List.range 4) rfl

/-- A cluster's state as its field's controller, which has not lost its region, sets it. -/
theorem State.clusterState_setClusterState (s : State) {k v : Nat} (hv : v < 256) (hup : s.num (o2FieldState (fieldOf k)) ≠ 3) :
    (s.setClusterState k v).clusterState k = v := by
  have hbyte : ((s.setClusterState k v).field (fieldOf k)).dm.clState =
      Sparse.wr (s.field (fieldOf k)).dm.clState (k % 96) (BitVec.ofNat 8 v) := by
    unfold setClusterState
    rw [rewriteMap, if_neg hup]
    dsimp only
    split
    · simp only [sendMap, field_modField, if_true]
    · simp only [field_modField, if_true]
  rw [clusterState, hbyte, Sparse.rd_wr_same, BitVec.toNat_ofNat]
  omega

theorem State.clusterState_announceMove (s : State) (k j : Nat) : (s.announceMove k).clusterState j = s.clusterState j := by
  unfold announceMove
  dsimp only
  split
  · refine clusterState_modField s (fieldOf k) (g := fun x => { x with toTell := _ }) ?_ j
    intro x
    rfl
  · rfl

theorem State.checkPath_fields (s : State) (k : Nat) : (s.checkPath k).fields = s.fields :=
  foldl_pred (P := fun t : State => t.fields = s.fields) (f := State.applyPath) (fun _ _ h => h) _ rfl

theorem State.faultPart_fields (s : State) (p : Nat) : (s.faultPart p).fields = s.fields := by
  unfold faultPart
  split
  · rfl
  · rfl

theorem routerFailedInService_gives {msg : Bool} (hk : k < 8064) (hstate : s.fieldState (fieldOf k) = 1) (hok : s.routerOk k = true) :
    Gives (execRouterFailedInService k msg s) (fun t => t.clusterState k = 4) := by
  refine ⟨_, (onCluster_eq hk).trans (congrArg _ (if_pos (by simp [hstate, hok]))), ?_⟩
  dsimp only
  generalize hs1 : (s.draw.2.loseNode k).softFuse (fieldOf k) (if msg = true then 3 else 2) (s.physCluster k) s.freeByte = s1
  have hup : s1.num (o2FieldState (fieldOf k)) ≠ 3 := by
    rw [← hs1, (State.softFuse_engines _ _ _ _ _).num _ (by rw [o2FieldState, okey_mod _ _ (by decide)]; decide),
      State.num_of_dict _ (State.loseNode_dict _ k)]
    have hone : s.draw.2.num (o2FieldState (fieldOf k)) = 1 := hstate
    rw [hone]
    decide
  have hfour := ((s1.setClusterState k 4).clusterState_announceMove k k).trans (s1.clusterState_setClusterState (by decide) hup)
  generalize (s1.setClusterState k 4).announceMove k = s2 at *
  rw [← hfour]
  unfold State.clusterState State.field
  rw [State.faultPart_fields]
  exact congrArg (fun m : SMap FieldSt => (Sparse.rd (m.get FieldSt.reset (fieldOf k)).dm.clState (k % 96)).toNat)
    (s2.checkPath_fields k)

/-! ### Cluster resets -/

/-- Resets of other cores leave a core as it is; its own clears it. -/
theorem State.coreResets_core (s : State) {l : List Nat} {j : Nat} (hj : j ∈ l) (k : Nat) :
    let t := l.foldl (fun s j => s.coreReset (k * 32 + j)) s
    (t.core (k * 32 + j)).firing = false ∧ (t.core (k * 32 + j)).cnt = [] ∧ (t.core (k * 32 + j)).store = [] := by
  refine foldl_reaches (P := fun t : State => (t.core (k * 32 + j)).firing = false ∧ (t.core (k * 32 + j)).cnt = [] ∧
    (t.core (k * 32 + j)).store = []) (a := j) hj (fun b => ?_) (fun b a h => ?_) s
  · obtain ⟨-, hreset, -⟩ := b.coreReset_core (k * 32 + j) (k * 32 + j)
    exact hreset rfl
  · obtain ⟨-, hreset, hother⟩ := b.coreReset_core (k * 32 + a) (k * 32 + j)
    by_cases ha : k * 32 + j = k * 32 + a
    · exact hreset ha
    · rw [hother ha]
      exact h

/-- The state that a cluster reset leaves. -/
def State.clusterCleared (s : State) (k : Nat) : State :=
  ((List.range 32).foldl (fun s j => s.coreReset (k * 32 + j)) s).modCluster k (fun x => { x with
    steer := [], steerImg := [], cache := [], plru := [], fills := [],
    ldr := { Loader.reset with installed := x.ldr.installed, fwDigest := x.ldr.fwDigest } })

theorem State.clusterCleared_leaves (s : State) (k : Nat) :
    (∀ j, j < 32 → ((s.clusterCleared k).core (32 * k + j)).firing = false ∧ ((s.clusterCleared k).core (32 * k + j)).cnt = [] ∧
      ((s.clusterCleared k).core (32 * k + j)).store = []) ∧
    ((s.clusterCleared k).cluster k).cache = [] ∧ ((s.clusterCleared k).cluster k).steer = [] := by
  unfold clusterCleared
  refine ⟨fun j hj => ?_, ?_⟩
  · rw [State.core_modCluster, Nat.mul_comm 32 k]
    exact s.coreResets_core (List.mem_range.mpr hj) k
  · rw [State.cluster_modCluster_same]
    exact ⟨rfl, rfl⟩

theorem State.writeClusterReset_idle (hgraph : s.num (o6GraphState (s.partOfCluster k)) = 0) (hstart : s.msc.starting = none)
    (hreset : (s.part (s.partOfCluster k)).reset? = none) : s.writeClusterReset k 1 = (s.clusterCleared k, 0) := by
  unfold writeClusterReset
  dsimp only
  rw [if_neg (by decide), if_neg (by omega), if_neg (by simp [hstart, hreset])]
  rfl

theorem clusterReset_gives (hk : k < 8064) (hgraph : s.num (o6GraphState (s.partOfCluster k)) = 0) (hstart : s.msc.starting = none)
    (hreset : (s.part (s.partOfCluster k)).reset? = none) : Gives (execClusterReset k 1 s) (fun t =>
    (∀ j, j < 32 → (t.core (32 * k + j)).firing = false ∧ (t.core (32 * k + j)).cnt = [] ∧
      (t.core (32 * k + j)).store = []) ∧ (t.cluster k).cache = [] ∧ (t.cluster k).steer = []) :=
  ⟨_, (onCluster_eq hk).trans (congrArg (fun r : State × Nat => Host.Outcome.next r.1)
    (State.writeClusterReset_idle hgraph hstart hreset)), s.clusterCleared_leaves k⟩

/-! ### Variants -/

theorem State.writeSp_parts (s : State) (k off v : Nat) : (s.writeSp k off v).parts = s.parts := by
  simp only [writeSp, when', writePeriodStart, apply_ite State.parts, setCluster_parts, modCluster_parts, ite_self]

theorem State.hashChunk_parts (s : State) (k j : Nat) : (s.hashChunk k j).parts = s.parts := rfl

theorem State.writeLdr_parts (s : State) (k off v : Nat) : (s.writeLdr k off v).parts = s.parts := by
  simp only [writeLdr, modLdr, chunkDone, apply_ite State.parts, hashChunk_parts, modCluster_parts, ite_self]

theorem State.writeCm_parts (s : State) (k off v : Nat) : (s.writeCm k off v).parts = s.parts := by
  simp only [writeCm, apply_ite State.parts, setCluster_parts, ite_self]

theorem State.writeCfgWord_parts (s : State) (k off v : Nat) : (s.writeCfgWord k off v).parts = s.parts := by
  unfold writeCfgWord
  cases blockChan k with
  | none =>
    simp only [apply_ite State.parts, writeSp_parts, writeCm_parts, writeLdr_parts, modCore_parts, modCluster_parts, ite_self]
  | some ch =>
    simp only [apply_ite State.parts, writeSp_parts, writeCm_parts, writeLdr_parts, modCore_parts, modCluster_parts,
      modChan_parts, ite_self]

theorem State.writeCfgWords_parts (s : State) (k : Nat) (l : List (Nat × Nat)) : (s.writeCfgWords k l).parts = s.parts := by
  induction s, l using writeCfgWords.induct k with
  | case1 s => rfl
  | case2 s o v => exact writeCfgWord_parts s k o v
  | case3 s v o' v' r ih =>
    rw [writeCfgWords, if_pos rfl, ih]
    rfl
  | case4 s o v o' v' r h ih => rw [writeCfgWords, if_neg h, ih, writeCfgWord_parts]

theorem State.writeRec_parts (s : State) (r : CfgRec) : (s.writeRec r).parts = s.parts := by
  unfold writeRec
  split
  · rfl
  · exact writeCfgWords_parts _ _ _

theorem State.writeRecs_parts (l : List CfgRec) (s : State) : (l.foldl State.writeRec s).parts = s.parts :=
  foldl_pred (P := fun t : State => t.parts = s.parts) (fun t r h => (writeRec_parts t r).trans h) l rfl

theorem State.writeVariant_parts (s : State) (v : Variant) : (s.writeVariant v).parts = s.parts :=
  writeRecs_parts v.recs _

theorem State.place_parts (s : State) (g : Package) (t : Station) : (s.place g t).parts = s.parts := by
  unfold place
  split
  · rfl
  · rfl

/-- The install of a variant writes cores and clusters, not the partitions. -/
theorem State.installVariant_parts (s : State) (g : Package) (v : Variant) : (s.installVariant g v).parts = s.parts := by
  unfold installVariant
  dsimp only
  refine (writeVariant_parts _ v).trans ?_
  refine foldl_pred (P := fun t : State => t.parts = s.parts) (fun t x h => (place_parts t g x).trans h) _ ?_
  refine (writeRecs_parts _ _).trans ?_
  exact foldl_pred (P := fun t : State => t.parts = s.parts) (fun t j h => (coreReset_keeps t _).2.trans h) (List.range 32) rfl

section
variable {g : Package} {v : Variant} {silent : List Nat} (hp : p < 12) (hreset : (s.part p).reset? = none)
  (hbound : (s.part p).boundary = true) (hdone : s.boundaryDone p = true) (hgraph : s.num (o6GraphState p) = 2)
  (hlost : (s.part p).lost = [c]) (hpkg : (s.part p).pkg = some g) (hvar : g.variant (clusterOf c) (coreIdx c) = some v)
  (hfirst : (s.part p).variants.has (clusterOf c) = false) (hgood : g.variantBad v = false)
  (hthere : silent.contains (clusterOf c) = false)
include hp hreset hbound hdone hgraph hlost hpkg hvar hfirst hgood hthere

theorem alternateInstall_gives : Gives (execAlternateInstall p silent s) (fun t =>
    (t.part p).pkg = some (g.swap v) ∧ (t.part p).lost = [] ∧ (t.part p).variants.look (clusterOf c) = some (coreIdx c)) := by
  refine ⟨State.installAlternate p silent s c, ?_, ?_⟩
  · rw [execAlternateInstall, onPart_eq hp]
    refine congrArg _ ((if_pos (by simp [hreset, hbound, hdone, hgraph])).trans ?_)
    rw [hlost]
    rfl
  · have hpart (t : State) (h : t.parts = s.parts) : t.part p = s.part p := congrArg (fun m : SMap PartSt => m.get PartSt.reset p) h
    unfold State.installAlternate
    simp only [hpkg, hvar, hfirst, hgood, hthere, Bool.or_self, Bool.false_eq_true, if_false, State.part_setNum,
      State.part_modPart_same, hpart _ (s.installVariant_parts (g.swap v) v), hlost, SMap.look_put_same]
    simp

end

end Sys2Proof.Machine

open Sys2Proof Sys2Proof.Machine

/-- Settles O30: a core's death, a router's failure, a cluster reset and a variant's install, each by what it leaves. -/
theorem deadCoresAndResets : Obligations.DeadCoresAndResets := by
  unfold Obligations.DeadCoresAndResets
  intro s c k p msg silent
  dsimp only
  refine ⟨fun hc hmortal => ⟨fun hf hv hcls hpost => ?_, fun hf hworn => ?_, fun he ht ha => ?_, fun he ht ha => ?_⟩,
    routerFailedInService_gives, clusterReset_gives, fun hp hreset hbound hdone hgraph hlost g v hpkg hvar hfirst hgood hthere =>
      alternateInstall_gives hp hreset hbound hdone hgraph hlost hpkg hvar hfirst hgood hthere⟩
  · obtain ⟨t, ht, hdead, hfiring, hcnt, hcount, -⟩ := coreDead_gives rfl rfl rfl (execCoreDead_fault hc hmortal hf hv hcls hpost)
    exact ⟨t, ht, hdead, hfiring, hcnt, hcount⟩
  · obtain ⟨t, ht, hdead, -, -, hcount, -⟩ := coreDead_gives rfl rfl rfl (execCoreDead_worn hc hmortal hf hworn)
    exact ⟨t, ht, hdead, hcount⟩
  · have hpart : ((s.addNum (o6MordantDeadCores (s.coresPart c)) 1).draw.2).coresPart c = s.coresPart c := by
      rw [State.coresPart, State.partOfRegion, State.num_draw,
        State.num_addNum_ne _ _ (by unfold o0PartitionSplit o6MordantDeadCores okey; omega)]
      rfl
    obtain ⟨t, ht, hdead, -, -, hcount, hmordant⟩ := coreDead_gives hpart
      ((State.num_draw _ _).trans (State.num_addNum_same _ _ _))
      ((State.num_draw _ _).trans (State.num_addNum_ne _ _ (by unfold o6DeadCores o6MordantDeadCores okey; omega)))
      (execMordantAckTimeout_dead hc hmortal he ht ha)
    exact ⟨t, ht, hdead, hcount, hmordant⟩
  · obtain ⟨t, ht, hdead, -, -, hcount, -⟩ := coreDead_gives rfl rfl rfl (execRestartAckTimeout_dead hc hmortal he ht ha)
    exact ⟨t, ht, hdead, hcount⟩

end

section
/-! SUPPORT. The wafer supervisors and the fault records (R684 to R688). -/

namespace Sys2Proof.Machine

variable {s t : State} {p : Nat}

/-! ### Loads that are abandoned -/

/-- A graph load in progress ends with result 0x0D (R685). -/
def State.abandonLoad (s : State) (p : Nat) : State :=
  if s.num (o6GraphState p) = 1 then
    (((s.setNum (o6GraphState p) 0).setNum (o6LoadResult p) 0x0D).setBlob (o6LoadDetail p)
      (0x0D#8 :: List.replicate 23 0#8)).modPart p (fun x => { x with copy := none })
  else s

theorem State.abandonLoads_eq (s : State) : s.abandonLoads = (List.range 12).foldl State.abandonLoad s := rfl

/-- A load of `p` has ended with result 0x0D. -/
def State.LoadEnded (p : Nat) (t : State) : Prop :=
  t.num (o6GraphState p) = 0 ∧ t.num (o6LoadResult p) = 0x0D ∧ (t.blob (o6LoadDetail p)).headD 0 = 0x0D

theorem State.abandonLoad_ends (h : s.num (o6GraphState p) = 1) : (s.abandonLoad p).LoadEnded p := by
  rw [abandonLoad, if_pos h]
  refine ⟨?_, num_setNum_same _ _ _, ?_⟩
  · exact (num_setNum_ne _ _ (by unfold o6GraphState o6LoadResult okey; omega)).trans (num_setNum_same _ _ _)
  · rw [blob_modPart, blob_setBlob_same]
    rfl

theorem State.abandonLoad_idle (h : s.num (o6GraphState p) ≠ 1) : s.abandonLoad p = s := if_neg h

/-- What a load of another partition shows. -/
theorem State.abandonLoad_other {q : Nat} (h : q ≠ p) : (s.abandonLoad q).num (o6GraphState p) = s.num (o6GraphState p) ∧
    (s.abandonLoad q).num (o6LoadResult p) = s.num (o6LoadResult p) ∧
    (s.abandonLoad q).blob (o6LoadDetail p) = s.blob (o6LoadDetail p) := by
  unfold abandonLoad
  split
  · refine ⟨?_, ?_, ?_⟩
    · exact (num_setNum_ne _ _ (by unfold o6GraphState o6LoadResult okey; omega)).trans
        (num_setNum_ne _ _ (by unfold o6GraphState okey; omega))
    · exact (num_setNum_ne _ _ (by unfold o6LoadResult okey; omega)).trans
        (num_setNum_ne _ _ (by unfold o6LoadResult o6GraphState okey; omega))
    · exact blob_setBlob_ne _ _ (by unfold o6LoadDetail okey; omega)
  · exact ⟨rfl, rfl, rfl⟩

theorem State.LoadEnded.abandonLoad (h : t.LoadEnded p) (q : Nat) : (t.abandonLoad q).LoadEnded p := by
  by_cases hq : q = p
  · rw [hq, abandonLoad_idle (by rw [h.1]; decide)]
    exact h
  · obtain ⟨hgraph, hres, hdetail⟩ := State.abandonLoad_other (s := t) hq
    rw [LoadEnded, hgraph, hres, hdetail]
    exact h

theorem State.abandonLoads_ends (hp : p < 12) (h : s.num (o6GraphState p) = 1) : s.abandonLoads.LoadEnded p := by
  obtain ⟨before, after, hsplit⟩ := List.append_of_mem (List.mem_range.mpr hp)
  have hnot : p ∉ before := by
    have hnodup := List.nodup_range (n := 12)
    rw [hsplit, List.nodup_append] at hnodup
    exact fun hmem => hnodup.2.2 p hmem p (List.mem_cons_self ..) rfl
  have hstill : (before.foldl State.abandonLoad s).num (o6GraphState p) = 1 := by
    clear hsplit
    induction before generalizing s with
    | nil => exact h
    | cons q l ih =>
      rw [List.mem_cons, not_or] at hnot
      exact ih ((abandonLoad_other (Ne.symm hnot.1)).1.trans h) hnot.2
  rw [abandonLoads_eq, hsplit, List.foldl_append, List.foldl_cons]
  exact foldl_pred (P := fun t : State => t.LoadEnded p) (fun t q ht => ht.abandonLoad q) _ (abandonLoad_ends hstill)

/-- Loads that end leave the controller and the module's objects. -/
theorem State.abandonLoads_keeps (s : State) : s.abandonLoads.msc = s.msc ∧
    ∀ num, num < 65536 → s.abandonLoads.num (okey 0 0 num) = s.num (okey 0 0 num) := by
  rw [abandonLoads_eq]
  refine foldl_pred (P := fun t : State => t.msc = s.msc ∧ ∀ num, num < 65536 → t.num (okey 0 0 num) = s.num (okey 0 0 num))
    ?_ _ ⟨rfl, fun _ _ => rfl⟩
  rintro t q ⟨hmsc, hnum⟩
  unfold abandonLoad
  split
  · refine ⟨hmsc, fun num h => ((num_setNum_ne _ _ ?_).trans (num_setNum_ne _ _ ?_)).trans (hnum num h)⟩
    · unfold o6LoadResult okey; omega
    · unfold o6GraphState okey; omega
  · exact ⟨hmsc, hnum⟩

/-! ### The standby -/

/-- The broadcast starts afresh under the standby. -/
def State.withStandby (s : State) : State :=
  let s1 := { s with msc := { s.msc with failedOver := true, heartbeat := false } }
  let again := fun (b : Bcast) => { b with
    rounds := 0, missing := List.range (mfChunks s.msc.manifest), waiting := [], maps := [], sentEnd := false, tries := [],
    install := false }
  { s1 with msc := { s1.msc with bcast := s1.msc.bcast.map again } }

/-- The state in which the standby has taken over, but for the loads and the record. -/
def State.takenOver (s : State) : State :=
  ((if s.withStandby.msc.bcast.isSome then s.withStandby.setNum o0StartPhase 7 else s.withStandby).setNum o0WsPrimary 0x2A).addNum
    o0WsFailovers 1

theorem State.takenOver_leaves (s : State) : s.takenOver.num o0WsPrimary = 0x2A ∧
    s.takenOver.num o0WsFailovers = (s.num o0WsFailovers + 1) % 2 ^ 64 ∧ s.takenOver.msc.failedOver = true ∧
    ∀ p, s.takenOver.num (o6GraphState p) = s.num (o6GraphState p) := by
  unfold takenOver
  generalize hs3 : (if s.withStandby.msc.bcast.isSome then s.withStandby.setNum o0StartPhase 7 else s.withStandby) = s3
  have h3 : s3.msc.failedOver = true ∧ ∀ key, key ≠ o0StartPhase → s3.num key = s.num key := by
    rw [← hs3]
    split
    · exact ⟨rfl, fun key h => (num_setNum_ne _ _ h).trans rfl⟩
    · exact ⟨rfl, fun _ _ => rfl⟩
  refine ⟨?_, ?_, h3.1, fun p => ?_⟩
  · rw [num_addNum_ne _ _ (by decide), num_setNum_same]
  · rw [num_addNum_same, num_setNum_ne _ _ (by decide), h3.2 _ (by decide)]
  · rw [num_addNum_ne _ _ (by unfold o6GraphState o0WsFailovers okey; omega),
      num_setNum_ne _ _ (by unfold o6GraphState o0WsPrimary okey; omega),
      h3.2 _ (by unfold o6GraphState o0StartPhase okey; omega)]

theorem execHeartbeatTimeout_eq (hprim : s.num o0WsPrimary = 0x29) (hfirst : s.msc.failedOver = false) (hup : s.fieldState 42 = 1) :
    execHeartbeatTimeout s = .next (s.takenOver.abandonLoads.post 42 0 9 0 2 0 8 0xFF 0) :=
  congrArg Host.Outcome.next (if_pos (by simp [hprim, hfirst, hup]))

theorem heartbeatTimeout_gives (hprim : s.num o0WsPrimary = 0x29) (hfirst : s.msc.failedOver = false) (hup : s.fieldState 42 = 1) :
    Gives (execHeartbeatTimeout s) (fun t =>
      t.num o0WsPrimary = 0x2A ∧ t.num o0WsFailovers = (s.num o0WsFailovers + 1) % 2 ^ 64 ∧ t.msc.failedOver = true ∧
      ∀ p, p < 12 → s.num (o6GraphState p) = 1 → t.num (o6GraphState p) = 0 ∧ t.num (o6LoadResult p) = 0x0D ∧
        (t.blob (o6LoadDetail p)).headD 0 = 0x0D) := by
  refine ⟨_, execHeartbeatTimeout_eq hprim hfirst hup, ?_⟩
  obtain ⟨hws, hfail, hover, hgraph⟩ := s.takenOver_leaves
  obtain ⟨hmsc, hnum⟩ := s.takenOver.abandonLoads_keeps
  have hends := fun p (hp : p < 12) (hload : s.num (o6GraphState p) = 1) => State.abandonLoads_ends hp ((hgraph p).trans hload)
  have hws' := (hnum 0x0D13 (by decide)).trans hws
  generalize s.takenOver.abandonLoads = u at *
  exact ⟨hws', (hnum 0x0D14 (by decide)).trans hfail, (congrArg Msc.failedOver hmsc).trans hover, hends⟩

/-! ### Records -/

theorem execFaultRecord_eq {src : Nat} {r : FaultRec} (h : s.msc.posted.find? (fun e => e.1 = src) = some (src, r)) :
    execFaultRecord src s = .next ({ s with msc := { s.msc with posted := s.msc.posted.erase (src, r) } }.keepRecord r) := by
  rw [execFaultRecord, h]

/-- The record that is kept takes the next sequence number; of more than 256 the oldest goes. -/
theorem State.keepRecord_leaves (s : State) (r : FaultRec) :
    (s.keepRecord r).msc.posted = s.msc.posted ∧ (s.keepRecord r).num o0FaultSeq = (s.num o0FaultSeq + 1) % 2 ^ 32 ∧
      (s.keepRecord r).msc.records = (s.msc.records ++ [{ r with seq := (s.num o0FaultSeq + 1) % 2 ^ 32 }]).drop
        (s.msc.records.length + 1 - 256) ∧
      (s.keepRecord r).num o0FaultRecordsLost = (s.num o0FaultRecordsLost + (s.msc.records.length + 1 - 256)) % 2 ^ 64 := by
  unfold keepRecord
  dsimp only
  rw [List.length_append, List.length_singleton]
  generalize (s.num o0FaultSeq + 1) % 2 ^ 32 = n
  generalize s.msc.records.length + 1 - 256 = k
  refine ⟨rfl, ?_, rfl, ?_⟩
  · rw [num_addNum_ne _ _ (by decide), num_setNum_same]
  · rw [num_addNum_same, num_setNum_ne _ _ (by decide)]
    rfl

end Sys2Proof.Machine

open Sys2Proof Sys2Proof.Machine

/-- Settles O31: a takeover ends every load in progress, and a record that is kept is the last of at most 256. -/
theorem supervisorAndRecords : Obligations.SupervisorAndRecords := by
  unfold Obligations.SupervisorAndRecords
  intro s src r
  refine ⟨rfl, heartbeatTimeout_gives, fun hpost => ?_⟩
  obtain ⟨hposted, hseq, hrecords, hlost⟩ :=
    State.keepRecord_leaves { s with msc := { s.msc with posted := s.msc.posted.erase (src, r) } } r
  refine ⟨_, execFaultRecord_eq hpost, hposted, hseq, fun hshort => ?_, fun hfull => ⟨?_, ?_⟩⟩
  · rw [hrecords]
    dsimp only
    rw [Nat.sub_eq_zero_of_le (by omega), List.drop_zero]
    rfl
  · rw [hrecords]
    dsimp only
    rw [hfull, List.drop_append_of_le_length (by omega), ← List.drop_one]
    rfl
  · rw [hlost]
    dsimp only
    rw [hfull]
    rfl

end

section
/-! SUPPORT. A stream whose close report has left goes with the next sweep of its port (R461). -/

namespace Sys2Proof.Machine

/-- A stream of a running period, slot 0, of which a close report has left, beside one that may close. -/
def State.closesBoth : State :=
  { State.reset with ports := [(0, { PortSt.reset with
      streams := [(0, { StreamEntry.reset with state := 1, inPeriod := true }), (1, { StreamEntry.reset with state := 4 })]
      leaving := [(0, 0, 0)] })] }

/-- The stream in slot 0. -/
theorem entry_closesBoth : State.closesBoth.entry 0 0 = { StreamEntry.reset with state := 1, inPeriod := true } := rfl

/-- A close of the first frees both. -/
theorem streamClose_closesBoth :
    ∃ t, execStreamClose 0 1 State.closesBoth = .next t ∧ (t.entry 0 0).closeReq = false := ⟨_, rfl, rfl⟩

end Sys2Proof.Machine

open Sys2Proof Sys2Proof.Machine

/-- Refutes O45: a write of `STREAM_CLOSE` on a stream of a running period is to leave its entry with the request noted. The write
also frees what may close on its port, and the sweep that follows takes every stream whose close report has left, the one
that was named among them. -/
theorem not_streamRequests : ¬ Obligations.StreamRequests := by
  unfold Obligations.StreamRequests
  intro h
  obtain ⟨-, -, -, -, -, hclose, -⟩ := h State.closesBoth 0 0 0 0 ⟨0, 0, 0, 0, 0, [], false, 0⟩ 0 0 0 (by decide)
  obtain ⟨t, ht, hentry⟩ := hclose (by decide) (by rw [entry_closesBoth]; decide) (by rw [entry_closesBoth]; decide)
    (by rw [entry_closesBoth])
  obtain ⟨u, hu, hfalse⟩ := streamClose_closesBoth
  obtain rfl : t = u := by
    have htu := ht.symm.trans hu
    injection htu
  have htrue : (t.entry 0 0).closeReq = true := congrArg StreamEntry.closeReq hentry
  exact absurd (htrue.symm.trans hfalse) (by decide)

end

section
/-! SUPPORT. A stream whose close report has left goes when its port next sends (R451, R461). -/

namespace Sys2Proof.Machine

/-- A period that was dropped with cause 1, of which port 0 has still to end its part. -/
def Period.droppedAtPort0 : Period :=
  { no := 0, start := 0, start0 := 0, hz := 0, deadline := 0, ended := .dropped 1 0, endAt := 0, polled := none, portsDue := [0]
    causes := [], restarted := [], mordants := [], toldRestart := [], toldMordant := [], toldStart := [], closed := false
    drop0 := 0, began := 0 }

/-- A stream that took part in the period. -/
def StreamEntry.inDropped : StreamEntry := { StreamEntry.reset with state := 1, inPeriod := true }

/-- Port 0 is up, with the association of its reports; a close report of its only stream, which takes part in the dropped period,
has left. -/
def State.dropsReported : State :=
  (({ State.reset with
      ports := [(0, { PortSt.reset with
        streams := [(0, StreamEntry.inDropped)]
        leaving := [(0, 0, 7)]
        assocs := [(0, { Assoc.reset with ownAcked := true, peerTaken := true })] })]
      parts := [(0, { PartSt.reset with period := some Period.droppedAtPort0 })]
    }.setNum (o4PortState 0) 2).setNum (o2FieldState 0) 1).setBlob (assocKey 0 0) [0x80#8]

theorem period_dropsReported : (State.dropsReported.part (State.dropsReported.portPart 0)).period = some Period.droppedAtPort0 := rfl

theorem streams_dropsReported : (State.dropsReported.port 0).streams = [(0, StreamEntry.inDropped)] := rfl

/-- The report of the drop leaves, and the sweep frees the stream. -/
theorem periodDrop_dropsReported :
    ∃ t, execPeriodDrop 0 State.dropsReported = .next t ∧ (t.entry 0 0).dropped = 0 := ⟨_, rfl, rfl⟩

end Sys2Proof.Machine

open Sys2Proof Sys2Proof.Machine

/-- Refutes O46: a port that rolls a dropped period back is to leave its stream with the drop counted. It sends its report, and the
sweep that follows frees every stream whose close report has left (R461): nothing of the entry is left where that stream
took part. -/
theorem not_periodsOfAPartition : ¬ Obligations.PeriodsOfAPartition := by
  unfold Obligations.PeriodsOfAPartition
  intro h
  obtain ⟨-, hports⟩ := h
  obtain ⟨hend, -⟩ := hports State.dropsReported 0 0 StreamEntry.inDropped Period.droppedAtPort0 1 0 0
    ⟨0, none, [], 0, 0, none⟩ [] [] 0 0
  obtain ⟨-, hdrop⟩ := hend (by decide) period_dropsReported rfl streams_dropsReported rfl rfl (by decide)
  obtain ⟨t, ht, -, -, hcount, -⟩ := hdrop rfl
  obtain ⟨u, hu, hzero⟩ := periodDrop_dropsReported
  obtain rfl : t = u := by
    have htu := ht.symm.trans hu
    injection htu
  exact absurd (hcount.symm.trans hzero) (by decide)

end

section
/-! SUPPORT. Sample marks (R580 to R583). -/

namespace Sys2Proof.Machine

/-- The state with the pending marks of the module set changed. -/
def State.withMarks (s : State) (l : List Mark) : State := { s with clocks := { s.clocks with marks0 := l } }

theorem execModuleMark_due (s : State) (m : BitVec 64) (hi : s.num o0MarkIntervalMs ≠ 0) (hm : s.wt + 100000 ≤ m.toNat) :
    (s.clocks.marks0 = [] → exec (.moduleMark m) s = .next (s.withMarks [⟨m.toNat, 0, [], []⟩])) ∧
      (s.clocks.marks0 ≠ [] → exec (.moduleMark m) s =
        .next (s.setNum o0MarksIncomplete ((s.num o0MarksIncomplete + 1) % 2 ^ 64))) := by
  have hdue : ¬(s.num o0MarkIntervalMs = 0 ∨ m.toNat < s.wt + 100000) := by omega
  have hexec : exec (.moduleMark m) s = execModuleMark m s := rfl
  constructor
  · intro he
    rw [hexec, execModuleMark, if_neg hdue, he, State.withMarks, if_pos List.isEmpty_nil]
  · intro he
    rw [hexec, execModuleMark, if_neg hdue, if_neg (by simpa using he), State.addNum]

theorem execSampleMark_inRange (s : State) (lead : BitVec 32) (h1 : 100 ≤ lead.toNat) (h2 : lead.toNat ≤ 1000000) :
    (s.clocks.marks0 = [] → exec (.sampleMark lead) s = .next (s.withMarks [⟨s.wt + lead.toNat * 1000, 0, [], []⟩])) ∧
      (s.clocks.marks0 ≠ [] → exec (.sampleMark lead) s = .next s) := by
  have hin : ¬(lead.toNat < 100 ∨ 1000000 < lead.toNat) := by omega
  have hexec : exec (.sampleMark lead) s = .next (s.writeSampleMark lead.toNat).1 := rfl
  constructor
  · intro he
    rw [hexec, State.writeSampleMark, if_neg hin, he, State.withMarks, if_pos List.isEmpty_nil]
  · intro he
    rw [hexec, State.writeSampleMark, if_neg hin, if_neg (by simpa using he)]

theorem execSampleMark_outOfRange (s : State) (lead : BitVec 32) (h : lead.toNat < 100 ∨ 1000000 < lead.toNat) :
    exec (.sampleMark lead) s = .next s := by
  show Host.Outcome.next (s.writeSampleMark lead.toNat).1 = .next s
  rw [State.writeSampleMark, if_pos h]

/-! ### Latching -/

theorem Clocks.shadow_unit (x : Clocks) (which : Bool) (u : MarkUnit) : (x.shadow which u).unit = u := by
  unfold Clocks.shadow
  cases h : (x.shadows which).find? (fun h => h.unit = u) with
  | none => rfl
  | some y => simpa using List.find?_some h

/-- A unit's shadow, once the shadow `h` of it stands last and its older ones are gone. -/
theorem Clocks.shadow_replaced (x : Clocks) (which : Bool) (hs : List Shadow) (h : Shadow) (w : MarkUnit)
    (hx : x.shadows which = hs.filter (fun g => g.unit ≠ h.unit) ++ [h]) :
    x.shadow which w = if w = h.unit then h else ((hs.find? (fun g => g.unit = w)).getD ⟨w, 0, [], [], false, false⟩) := by
  unfold Clocks.shadow
  rw [hx, List.find?_append, List.find?_filter]
  by_cases hw : w = h.unit
  · subst hw
    have hnone : hs.find? (fun _ => false) = none := List.find?_eq_none.mpr (by simp)
    simp [hnone]
  · have hpred : (fun g : Shadow => decide (decide (g.unit ≠ h.unit) = true ∧ decide (g.unit = w) = true)) =
        fun g => decide (g.unit = w) := by
      funext g
      by_cases hg : g.unit = w <;> simp [hg, hw]
    rw [hpred, if_neg hw]
    simp [Ne.symm hw]

/-- The shadow that a unit's latch of the oldest mark leaves. -/
def State.latchedShadow (s : State) (u : MarkUnit) (a : Mark) : Shadow :=
  let old := s.clocks.shadow false u
  { old with
    m := a.m, counts := (s.atTime (max s.wt a.m)).unitCounts u, fromZero := old.anew || old.fromZero, anew := false }

/-- A latch of the oldest mark by a unit of a region that is not lost changes the clocks and wafer time alone, and of the shadows
the unit's. -/
theorem latch_oldest (s : State) (u : MarkUnit) (a : Mark) (rest : List Mark)
    (hregion : ∀ r, unitRegion u = some r → s.num (o1RegionState r) ≠ 3) (hmarks : s.clocks.marks0 = a :: rest)
    (hnew : u ∉ a.latched) :
    (s.latch false u).cores = s.cores ∧ (s.latch false u).clocks.shadows false =
      (s.clocks.shadows false).filter (fun g => g.unit ≠ u) ++ [s.latchedShadow u a] := by
  have hfind : (s.clocks.marks false).find? (fun m => s.markFor false u m && !m.latched.contains u) = some a := by
    show s.clocks.marks0.find? _ = _
    rw [hmarks, List.find?_cons_of_pos]
    simpa [State.markFor] using hnew
  unfold State.latch
  rw [hfind]
  cases hr : unitRegion u with
  | none => exact ⟨rfl, rfl⟩
  | some r =>
    simp only [hregion r hr, decide_false, Bool.false_eq_true, if_false]
    exact ⟨rfl, rfl⟩

theorem markLatch_takes_counts (s : State) (u : MarkUnit) (a : Mark) (rest : List Mark) (hu : unitExists u = true)
    (hregion : ∀ r, unitRegion u = some r → s.num (o1RegionState r) ≠ 3) (hmarks : s.clocks.marks0 = a :: rest)
    (hnew : u ∉ a.latched) :
    Gives (exec (.markLatch false u) s) (fun t =>
      (t.clocks.shadow false u).m = a.m ∧ (t.clocks.shadow false u).counts = (s.atTime (max s.wt a.m)).unitCounts u ∧
        (t.clocks.shadow false u).before = (s.clocks.shadow false u).before ∧ t.cores = s.cores ∧
        ∀ w, w ≠ u → t.clocks.shadow false w = s.clocks.shadow false w) := by
  obtain ⟨hcores, hshadows⟩ := latch_oldest s u a rest hregion hmarks hnew
  have hunit : (s.latchedShadow u a).unit = u := Clocks.shadow_unit s.clocks false u
  have hshadow := fun w => Clocks.shadow_replaced (s.latch false u).clocks false (s.clocks.shadows false)
    (s.latchedShadow u a) w (by rw [hunit]; exact hshadows)
  have hsame : (s.latch false u).clocks.shadow false u = s.latchedShadow u a := by rw [hshadow, hunit, if_pos rfl]
  refine ⟨s.latch false u, if_pos hu, ?_, ?_, ?_, hcores, ?_⟩
  · rw [hsame]; rfl
  · rw [hsame]; rfl
  · rw [hsame]; rfl
  · intro w hw
    rw [hshadow, hunit, if_neg hw]
    rfl

/-! ### The end of a mark -/

/-- The state with the coefficient energies of an interval added, region by region. -/
def State.addEnergies (s : State) (es : List Nat) : State :=
  (List.range 12).foldl (fun s r => s.addNum (o8CoefNj r) ((es[r]?).getD 0)) s

theorem addEnergies_clocks (s : State) (es : List Nat) : (s.addEnergies es).clocks = s.clocks := by
  unfold State.addEnergies
  refine foldl_pred (P := fun t : State => t.clocks = s.clocks) ?_ _ rfl
  intro t r h
  exact h

/-- The end of a module mark at `m`, once the energies of the regions were added: the module's energy, `MARK_LAST`, the shadows,
the mark off the list, and the table that the next mark begins with. -/
def State.endMark (s1 : State) (m total : Nat) (next : List Byte) : State :=
  let s2 := (s1.addNum (o8CoefNj 12) total).setNum o0MarkLast m
  { s2 with
    clocks := (s2.clocks.settle false m (fun _ => true)).setMarks false (s2.clocks.marks0.filter (fun n => n.m ≠ m))
    power := { s2.power with coefTab := s2.power.coefTab.put 0 next } }

theorem completeModule_eq (s : State) (a : Mark) :
    ∃ es total next, s.completeModule a = (s.addEnergies es).endMark a.m total next :=
  ⟨_, _, _, rfl⟩

theorem endMark_leaves (s : State) (m total : Nat) (next : List Byte) :
    (s.endMark m total next).num o0MarkLast = m ∧
      (s.endMark m total next).clocks.marks0 = s.clocks.marks0.filter (fun n => n.m ≠ m) ∧
      (s.endMark m total next).clocks.shadow0 =
        s.clocks.shadow0.map (fun h => if h.m = m ∧ true = true then { h with before := h.counts, fromZero := false } else h) :=
  ⟨State.num_setNum_same _ _ _, rfl, rfl⟩

theorem completeModule_leaves (s : State) (a : Mark) (hmarks : s.clocks.marks0 = [a]) :
    (s.completeModule a).num o0MarkLast = a.m ∧ (s.completeModule a).clocks.marks0 = [] ∧
      (s.completeModule a).clocks.shadow0 = s.clocks.shadow0.map
        (fun h => if h.m = a.m ∧ true = true then { h with before := h.counts, fromZero := false } else h) := by
  obtain ⟨es, total, next, heq⟩ := completeModule_eq s a
  have hclocks := addEnergies_clocks s es
  obtain ⟨hlast, hmarks0, hshadow⟩ := endMark_leaves (s.addEnergies es) a.m total next
  rw [heq]
  refine ⟨hlast, ?_, ?_⟩
  · rw [hmarks0, hclocks, hmarks]
    simp
  · rw [hshadow, hclocks]

theorem markComplete_done (s : State) (a : Mark) (hmarks : s.clocks.marks0 = [a]) (hdone : s.markDone false a = true) :
    Gives (exec (.markComplete false) s) (fun t => t.num o0MarkLast = a.m ∧ t.clocks.marks0 = [] ∧
      ∀ h, h ∈ s.clocks.shadow0 → h.m = a.m →
        ({ h with before := h.counts, fromZero := false } : Shadow) ∈ t.clocks.shadow0) := by
  obtain ⟨hlast, hnone, hshadow⟩ := completeModule_leaves s a hmarks
  refine ⟨s.completeModule a, ?_, hlast, hnone, ?_⟩
  · show execMarkComplete false s = _
    simp [execMarkComplete, Clocks.marks, hmarks, hdone]
  · intro h hmem hm
    rw [hshadow]
    exact List.mem_map.mpr ⟨h, hmem, if_pos ⟨hm, rfl⟩⟩

theorem markAbandon_incomplete (s : State) (a : Mark) (hmarks : s.clocks.marks0 = [a]) (hdone : s.markDone false a = false) :
    exec (.markComplete false) s = .next s ∧
      Gives (exec (.markAbandon false) s) (fun t => t.clocks.marks0 = [] ∧
        t.num o0MarksIncomplete = (s.num o0MarksIncomplete + 1) % 2 ^ 64 ∧ t.num o0MarkLast = s.num o0MarkLast) := by
  constructor
  · show execMarkComplete false s = _
    simp [execMarkComplete, Clocks.marks, hmarks, hdone]
  · refine ⟨(s.withMarks []).addNum o0MarksIncomplete 1, ?_, rfl, State.num_setNum_same _ _ _, ?_⟩
    · show execMarkAbandon false s = _
      simp [execMarkAbandon, Clocks.marks, hmarks, hdone, Clocks.setMarks, State.withMarks]
    · exact State.num_setNum_ne _ _ (by decide)

end Sys2Proof.Machine

open Sys2Proof Sys2Proof.Machine

/-- Settles O51: a placed mark is a branch of its writer, a latch replaces its unit's shadow alone, and the end of a mark takes it off
the list, with or without becoming the latest. -/
theorem sampleMarks : Obligations.SampleMarks := by
  unfold Obligations.SampleMarks
  intro s m lead u a rest set missed
  refine ⟨fun hi hm => execModuleMark_due s m hi hm, fun h1 h2 => execSampleMark_inRange s lead h1 h2,
    execSampleMark_outOfRange s lead, fun hu hr hmarks hnew => markLatch_takes_counts s u a rest hu hr hmarks hnew, ?_⟩
  intro hmarks
  exact ⟨markComplete_done s a hmarks, markAbandon_incomplete s a hmarks⟩
end

section
/-! SUPPORT. Updates of the dictionary alone, and the wafer held in reset (R616, R623). -/

namespace Sys2Proof.Machine

variable {s t u : State}

/-! ### Updates of the dictionary alone -/

/-- `t` is `s` but for the dictionary. -/
def State.OnlyDict (s t : State) : Prop := ∃ d, t = { s with dict := d }

theorem State.OnlyDict.refl (s : State) : s.OnlyDict s := ⟨s.dict, rfl⟩

theorem State.OnlyDict.trans (h : s.OnlyDict t) (h' : t.OnlyDict u) : s.OnlyDict u := by
  obtain ⟨d, rfl⟩ := h
  obtain ⟨d', rfl⟩ := h'
  exact ⟨d', rfl⟩

theorem State.OnlyDict.setNum (s : State) (key v : Nat) : s.OnlyDict (s.setNum key v) := ⟨_, rfl⟩

theorem State.OnlyDict.addNum (s : State) (key v : Nat) : s.OnlyDict (s.addNum key v) := ⟨_, rfl⟩

theorem State.OnlyDict.setBlob (s : State) (key : Nat) (v : List Byte) : s.OnlyDict (s.setBlob key v) := ⟨_, rfl⟩

theorem State.OnlyDict.foldl {α : Type} {f : State → α → State} (hf : ∀ (s : State) a, s.OnlyDict (f s a)) (l : List α) (s : State) :
    s.OnlyDict (l.foldl f s) :=
  foldl_pred (P := fun t : State => s.OnlyDict t) (fun _ a h => h.trans (hf _ a)) l (.refl s)

/-- The end of a boost changes `BOOST_STATE` and `BOOST_END_CAUSES`. -/
theorem State.endBoost_onlyDict (s : State) (cause : Nat) : s.OnlyDict (s.endBoost cause) := by
  unfold endBoost
  split
  · exact (OnlyDict.setNum s _ _).trans (.setBlob _ _ _)
  · exact .refl s

theorem State.num_endBoost (s : State) (cause : Nat) {key : Nat} (h : key ≠ o8BoostState) : (s.endBoost cause).num key = s.num key := by
  unfold endBoost
  split
  · rw [num_setBlob, num_setNum, if_neg h]
  · rfl

theorem State.num_endBoost_running (s : State) (cause : Nat) (h : s.num o8BoostState = 1) :
    (s.endBoost cause).num o8BoostState = 2 := by
  rw [endBoost, if_pos h, num_setBlob, num_setNum_same]

/-- A list's element brings a number about and the others leave it. -/
theorem State.num_foldl_keeps {α : Type} {f : State → α → State} {key : Nat} {l : List α} (hf : ∀ (t : State) a, (f t a).num key = t.num key)
    (s : State) : (l.foldl f s).num key = s.num key :=
  foldl_pred (P := fun t : State => t.num key = s.num key) (fun t a h => (hf t a).trans h) l rfl

/-! ### The wafer held in reset -/

/-- The objects of a port that is off. -/
def State.portOff (s : State) (n : Nat) : State :=
  (((s.setNum (o4PortState n) 0).setNum (o4PortRate n) 0).setNum (o4PortConfig n) 0).setNum (o4LanesUp n) 0

/-- What a field and a region show once the wafer is held. -/
def State.fieldHeld (s : State) (f : Nat) : State := s.setNum (o2FieldState f) (heldState (s.num (o2FieldState f)))
def State.regionHeld (s : State) (r : Nat) : State :=
  ((s.setNum (o1RegionState r) (heldState (s.num (o1RegionState r)))).setNum (o6GraphState r) 0).setNum (o6PartitionState r) 0

/-- The wafer reset, with every bank off. -/
def State.waferOff (s : State) : State :=
  { s.waferReset with regions := s.waferReset.regions.mapV (fun x => { x with powered := false }) }

/-- What the dictionary shows of the units of the wafer that is held. -/
def State.shownHeld (s : State) : State :=
  (List.range 12).foldl State.regionHeld ((List.range 84).foldl State.fieldHeld ((List.range 24).foldl State.portOff s))

/-- The end of the wafer's hold: the controller's part in a start. -/
def State.endHold (s : State) : State :=
  ({ s with msc := { s.msc with
    starting := if s.msc.booted then none else s.msc.starting, bcast := none, asked := [] } } : State).stopSigning.setNum o0ModuleState 3

theorem State.holdWafer_eq (s : State) : s.holdWafer = s.waferOff.shownHeld.endHold := rfl

theorem State.portOff_onlyDict (s : State) (n : Nat) : s.OnlyDict (s.portOff n) := ⟨_, rfl⟩
theorem State.fieldHeld_onlyDict (s : State) (f : Nat) : s.OnlyDict (s.fieldHeld f) := ⟨_, rfl⟩
theorem State.regionHeld_onlyDict (s : State) (r : Nat) : s.OnlyDict (s.regionHeld r) := ⟨_, rfl⟩

theorem State.shownHeld_onlyDict (s : State) : s.OnlyDict s.shownHeld :=
  ((OnlyDict.foldl portOff_onlyDict _ s).trans (.foldl fieldHeld_onlyDict _ _)).trans (.foldl regionHeld_onlyDict _ _)

/-- A number stays under a write of an object with another number. -/
theorem State.num_setNum_other (s : State) (scope inst : Nat) {n : Nat} (hn : n < 65536) (v : Nat) {key : Nat} (h : key % 65536 ≠ n) :
    (s.setNum (okey scope inst n) v).num key = s.num key :=
  num_setNum_ne s v (fun he => h (by rw [he, okey_mod _ _ hn]))

theorem State.num_portOff (s : State) (n : Nat) {key : Nat} (h : key % 65536 ∉ [0x0A01, 0x0A02, 0x0A03, 0x0A04]) :
    (s.portOff n).num key = s.num key := by
  simp only [List.mem_cons, List.not_mem_nil, or_false, not_or] at h
  obtain ⟨h1, h2, h3, h4⟩ := h
  unfold portOff o4PortState o4PortRate o4PortConfig o4LanesUp
  rw [num_setNum_other _ _ _ (by decide) _ h4, num_setNum_other _ _ _ (by decide) _ h3, num_setNum_other _ _ _ (by decide) _ h2,
    num_setNum_other _ _ _ (by decide) _ h1]

theorem State.num_fieldHeld (s : State) (f : Nat) {key : Nat} (h : key % 65536 ≠ 0x0103) : (s.fieldHeld f).num key = s.num key :=
  num_setNum_other _ _ _ (by decide) _ h

theorem State.num_regionHeld (s : State) (r : Nat) {key : Nat} (h : key % 65536 ∉ [0x0100, 0x0300, 0x0D01]) :
    (s.regionHeld r).num key = s.num key := by
  simp only [List.mem_cons, List.not_mem_nil, or_false, not_or] at h
  obtain ⟨h1, h2, h3⟩ := h
  unfold regionHeld o1RegionState o6GraphState o6PartitionState
  rw [num_setNum_other _ _ _ (by decide) _ h3, num_setNum_other _ _ _ (by decide) _ h2, num_setNum_other _ _ _ (by decide) _ h1]

theorem State.num_regionHeld_region (s : State) (r q : Nat) :
    (s.regionHeld r).num (o1RegionState q) = if q = r then heldState (s.num (o1RegionState r)) else s.num (o1RegionState q) := by
  have hnum : o1RegionState q % 65536 = 0x0100 := okey_mod _ _ (by decide)
  unfold regionHeld o6GraphState o6PartitionState
  rw [num_setNum_other _ _ _ (by decide) _ (by rw [hnum]; decide), num_setNum_other _ _ _ (by decide) _ (by rw [hnum]; decide),
    num_setNum]
  simp only [o1RegionState_inj]

/-- The numbers that the hold leaves. -/
theorem State.num_shownHeld (s : State) {key : Nat}
    (h : key % 65536 ∉ [0x0A01, 0x0A02, 0x0A03, 0x0A04, 0x0103, 0x0100, 0x0300, 0x0D01]) : s.shownHeld.num key = s.num key := by
  simp only [List.mem_cons, List.not_mem_nil, or_false, not_or] at h
  obtain ⟨h1, h2, h3, h4, h5, h6, h7, h8⟩ := h
  unfold shownHeld
  rw [num_foldl_keeps (fun t r => num_regionHeld t r (by simp [h6, h7, h8])), num_foldl_keeps (fun t f => num_fieldHeld t f h5),
    num_foldl_keeps (fun t n => num_portOff t n (by simp [h1, h2, h3, h4]))]

/-- `REGION_STATE` of the first regions, once they are held. -/
theorem State.num_regionsHeld (s : State) (n q : Nat) : ((List.range n).foldl regionHeld s).num (o1RegionState q) =
    if q < n then heldState (s.num (o1RegionState q)) else s.num (o1RegionState q) := by
  induction n with
  | zero => rfl
  | succ n ih =>
    rw [List.range_succ, List.foldl_append, List.foldl_cons, List.foldl_nil, num_regionHeld_region]
    by_cases hq : q = n
    · subst hq
      rw [if_pos rfl, ih, if_neg (Nat.lt_irrefl _), if_pos (Nat.lt_succ_self _)]
    · rw [if_neg hq, ih]
      simp only [Nat.lt_succ_iff_lt_or_eq, hq, or_false]

theorem State.num_shownHeld_region (s : State) {r : Nat} (hr : r < 12) :
    s.shownHeld.num (o1RegionState r) = heldState (s.num (o1RegionState r)) := by
  have hnum : o1RegionState r % 65536 = 0x0100 := okey_mod _ _ (by decide)
  unfold shownHeld
  rw [num_regionsHeld, if_pos hr, num_foldl_keeps (fun t f => num_fieldHeld t f (by rw [hnum]; decide)),
    num_foldl_keeps (fun t n => num_portOff t n (by rw [hnum]; decide))]

theorem State.num_stopSigning (s : State) (key : Nat) :
    s.stopSigning.num key = if key = o7AttestState ∧ s.num o7AttestState = 1 then 0 else s.num key := by
  unfold stopSigning
  by_cases ha : s.num o7AttestState = 1
  · rw [if_pos ha, num_setNum]
    simp only [ha, and_true]
    rfl
  · rw [if_neg ha, if_neg (fun h => ha h.2)]

theorem State.num_endHold (s : State) (key : Nat) : s.endHold.num key =
    if key = o0ModuleState then 3 else if key = o7AttestState ∧ s.num o7AttestState = 1 then 0 else s.num key := by
  unfold endHold
  rw [num_setNum, num_stopSigning]
  rfl

theorem State.stopSigning_keeps (s : State) : s.stopSigning.cores = s.cores ∧ s.stopSigning.net = s.net ∧
    s.stopSigning.power = s.power ∧ s.stopSigning.regions = s.regions := by
  unfold stopSigning
  split <;> exact ⟨rfl, rfl, rfl, rfl⟩

theorem State.endHold_keeps (s : State) : s.endHold.cores = s.cores ∧ s.endHold.net = s.net ∧ s.endHold.power = s.power ∧
    s.endHold.regions = s.regions :=
  stopSigning_keeps _

/-- What the wafer held in reset leaves. -/
theorem State.holdWafer_leaves (s : State) : s.holdWafer.cores = [] ∧ s.holdWafer.net = Net.reset ∧ s.holdWafer.power = s.power ∧
    s.holdWafer.regions = s.waferOff.regions ∧ s.holdWafer.num o0ModuleState = 3 := by
  obtain ⟨d, hd⟩ := s.waferOff.shownHeld_onlyDict
  obtain ⟨hcores, hnet, hpower, hregions⟩ := s.waferOff.shownHeld.endHold_keeps
  rw [holdWafer_eq, hcores, hnet, hpower, hregions, num_endHold, if_pos rfl, hd]
  exact ⟨rfl, rfl, rfl, rfl, rfl⟩

theorem State.num_holdWafer_region (s : State) {r : Nat} (hr : r < 12) :
    s.holdWafer.num (o1RegionState r) = heldState (s.num (o1RegionState r)) := by
  rw [holdWafer_eq, num_endHold, if_neg (by unfold o1RegionState o0ModuleState okey; omega),
    if_neg (fun h => absurd h.1 (by unfold o1RegionState o7AttestState okey; omega)), num_shownHeld_region _ hr]
  rfl

theorem State.num_holdWafer_fuse (s : State) (r : Nat) : s.holdWafer.num (o8FuseState r) = s.num (o8FuseState r) := by
  have hnum : o8FuseState r % 65536 = 0x0B03 := okey_mod _ _ (by decide)
  rw [holdWafer_eq, num_endHold, if_neg (by unfold o8FuseState o0ModuleState okey; omega),
    if_neg (fun h => absurd h.1 (by unfold o8FuseState o7AttestState okey; omega)), num_shownHeld _ (by rw [hnum]; decide)]
  rfl

end Sys2Proof.Machine
end

section
/-! SUPPORT. The reference and the fabric dividers (R555 to R565, R573). -/

namespace Sys2Proof.Machine

variable {s t : State} {r src : RefSource}

/-! ### The source in use -/

/-- The reference has changed to source `r`, and nothing runs on. -/
def State.Uses (s : State) (r : RefSource) (t : State) : Prop :=
  t.num o0RefSource = refCode r ∧ t.num o0RefSwitches = (s.num o0RefSwitches + 1) % 2 ^ 64 ∧ t.cores = s.cores ∧ t.wt = s.wt

theorem State.markSource_keeps (s : State) (r : RefSource) (ok : Bool) : (s.markSource r ok).dict = s.dict ∧
    (s.markSource r ok).cores = s.cores ∧ (s.markSource r ok).wt = s.wt := by
  cases r <;> exact ⟨rfl, rfl, rfl⟩

theorem State.refInUse_markSource (s : State) (r : RefSource) (ok : Bool) : (s.markSource r ok).refInUse = s.refInUse := by
  cases r <;> rfl

theorem State.uses_useSource (s : State) (r : RefSource) (h : s.dict = t.dict ∧ s.cores = t.cores ∧ s.wt = t.wt) :
    t.Uses r (s.useSource r) := by
  obtain ⟨hdict, hcores, hwt⟩ := h
  have hswitches : s.num o0RefSwitches = t.num o0RefSwitches := State.num_of_dict t hdict _
  refine ⟨?_, ?_, hcores, hwt⟩
  · rw [useSource, num_addNum, if_neg (by decide), num_setNum_same]
  · rw [useSource, num_addNum, if_pos rfl, num_setNum_ne _ _ (by decide), hswitches]

theorem State.loseSource_inUse (huse : s.refInUse = refRank src) (hfirst : (s.markSource src false).firstSource = some r) :
    s.loseSource src = (s.markSource src false).useSource r := by
  simp only [loseSource, refInUse_markSource, huse, if_true, hfirst]

theorem State.loseSource_other (huse : s.refInUse ≠ refRank src) : s.loseSource src = s.markSource src false := by
  simp only [loseSource, refInUse_markSource, huse, if_false]

theorem execRefSourceInvalid_eq (s : State) (src : RefSource) : exec (.refSourceInvalid src) s = .next (s.loseSource src) := rfl

theorem refRevert_gives {held : Nat} (hvalid : (s.markSource src true).sourceValid src = true) (hlost : s.refLost = false)
    (hrank : refRank src < s.refInUse) (hon : s.num o0RefRevertS ≠ 0) (hheld : s.num o0RefRevertS ≤ held) :
    Gives (exec (.refRevert src held) s) (s.Uses src) := by
  have hmark := s.markSource_keeps src true
  have hlost1 : (s.markSource src true).refLost = false := by
    cases src <;> exact hlost
  have hrevert : (s.markSource src true).num o0RefRevertS = s.num o0RefRevertS := State.num_of_dict s hmark.1 _
  refine ⟨(s.markSource src true).useSource src, ?_, State.uses_useSource _ src hmark⟩
  show execRefRevert src held s = _
  simp [execRefRevert, hvalid, hlost1, State.refInUse_markSource, hrank, hrevert, hon, hheld]

theorem refRevert_off {held : Nat} (hoff : s.num o0RefRevertS = 0) :
    exec (.refRevert src held) s = .next (if (s.markSource src true).sourceValid src = true then s.markSource src true else s) := by
  show execRefRevert src held s = _
  have hnum : (if (s.markSource src true).sourceValid src = true then s.markSource src true else s).num o0RefRevertS = 0 := by
    split
    · exact (State.num_of_dict s (s.markSource_keeps src true).1 _).trans hoff
    · exact hoff
  simp only [execRefRevert, hnum]
  simp

/-! ### Ports and the reference -/

theorem State.dropPort_state (s : State) (n : Nat) : (s.dropPort n).num (o4PortState n) = 3 := by
  show ((((s.unmark n).setNum (o4PortState n) 3).setNum (o4PortRate n) 0).setNum (o4PortConfig n) 0 |>.setNum (o4LanesUp n) 0).num
    (o4PortState n) = 3
  rw [num_setNum_ne _ _ (by unfold o4PortState o4LanesUp okey; omega), num_setNum_ne _ _ (by unfold o4PortState o4PortConfig okey; omega),
    num_setNum_ne _ _ (by unfold o4PortState o4PortRate okey; omega), num_setNum_same]

theorem State.dropPort_state_ne (s : State) {n p : Nat} (h : n ≠ p) : (s.dropPort n).num (o4PortState p) = s.num (o4PortState p) := by
  show ((((s.unmark n).setNum (o4PortState n) 3).setNum (o4PortRate n) 0).setNum (o4PortConfig n) 0 |>.setNum (o4LanesUp n) 0).num
    (o4PortState p) = s.num (o4PortState p)
  rw [num_setNum_ne _ _ (by unfold o4PortState o4LanesUp okey; omega), num_setNum_ne _ _ (by unfold o4PortState o4PortConfig okey; omega),
    num_setNum_ne _ _ (by unfold o4PortState o4PortRate okey; omega), num_setNum_ne _ _ (by unfold o4PortState okey; omega)]
  rfl

/-- The reference is lost for a port: one that trains or is up goes down, and is dark. -/
def State.darkPort (s : State) (n : Nat) : State :=
  if s.num (o4PortState n) = 1 ∨ s.num (o4PortState n) = 2 then (s.dropPort n).modPort n (fun x => { x with dark := true }) else s

/-- A port neither trains nor is up. -/
def State.PortQuiet (p : Nat) (t : State) : Prop := t.num (o4PortState p) ≠ 1 ∧ t.num (o4PortState p) ≠ 2

theorem State.darkPort_quiet (s : State) (p : Nat) : (s.darkPort p).PortQuiet p := by
  unfold darkPort
  split
  next h =>
    unfold PortQuiet
    rw [num_modPort, dropPort_state]
    decide
  next h => exact ⟨fun h1 => h (.inl h1), fun h2 => h (.inr h2)⟩

theorem State.PortQuiet.darkPort {p : Nat} (h : t.PortQuiet p) (n : Nat) : (t.darkPort n).PortQuiet p := by
  by_cases hn : n = p
  · subst hn
    exact t.darkPort_quiet n
  · unfold State.darkPort
    split
    · unfold State.PortQuiet
      rw [State.num_modPort, State.dropPort_state_ne _ hn]
      exact h
    · exact h

theorem State.darkPort_sameBelowPorts (s : State) (n : Nat) : s.SameBelowPorts (s.darkPort n) := by
  unfold darkPort
  split
  · exact (s.dropPort_sameBelowPorts n).trans (.modPort _ n _)
  · exact .refl s

/-- The ports that trained or were up are dark. -/
def State.darkPorts (s : State) : State := (List.range 24).foldl (fun s n => s.darkPort n) s

theorem State.darkPorts_leaves (s : State) : (∀ key, key < okey 4 0 0 → s.darkPorts.num key = s.num key) ∧
    ∀ p, p < 24 → s.darkPorts.PortQuiet p := by
  have hsame : s.SameBelowPorts s.darkPorts := .foldl darkPort_sameBelowPorts _ _
  refine ⟨hsame.2.2, fun p hp => ?_⟩
  unfold darkPorts
  exact foldl_reaches (P := fun t : State => t.PortQuiet p) (List.mem_range.mpr hp) (fun t => t.darkPort_quiet p)
    (fun t n h => h.darkPort n) s

/-- The state whose reference is lost. -/
def State.coasting (s : State) : State := (s.setNum o0RefSource 3).setNum o0TimeState 4

theorem referenceLost_gives (hnone : s.firstSource = none) (hlost : s.refLost = false) :
    Gives (exec .referenceLost s) (fun t => t.num o0RefSource = 3 ∧ t.num o0TimeState = 4 ∧
      ∀ p, p < 24 → t.num (o4PortState p) ≠ 1 ∧ t.num (o4PortState p) ≠ 2) := by
  have hexec : exec .referenceLost s = .next (s.coasting.darkPorts.post 96 0 10 0 6 3 0 0xFF 0) := by
    show execReferenceLost s = _
    unfold execReferenceLost State.darkPorts State.darkPort State.coasting
    rw [if_pos (by rw [hnone, hlost]; rfl)]
  have hsource : s.coasting.num o0RefSource = 3 := by
    rw [State.coasting, State.num_setNum_ne _ _ (by decide), State.num_setNum_same]
  have htime : s.coasting.num o0TimeState = 4 := State.num_setNum_same _ _ _
  obtain ⟨hnum, hquiet⟩ := s.coasting.darkPorts_leaves
  refine ⟨_, hexec, ?_⟩
  simp only [State.num_post]
  exact ⟨(hnum _ (by decide)).trans hsource, (hnum _ (by decide)).trans htime, hquiet⟩

theorem State.sendFrames_keeps (s : State) (n : Nat) (x : Train) :
    (s.sendFrames n x).cores = s.cores ∧ (s.sendFrames n x).wt = s.wt := by
  unfold sendFrames
  split
  · split
    · refine foldl_pred (P := fun t : State => t.cores = s.cores ∧ t.wt = s.wt) ?_ _ ⟨rfl, rfl⟩
      intro t lane h
      exact h
    · exact ⟨rfl, rfl⟩
  · exact ⟨rfl, rfl⟩

theorem State.keepTrain_keeps (s : State) (n : Nat) (x : Train) :
    (s.keepTrain n x).cores = s.cores ∧ (s.keepTrain n x).wt = s.wt :=
  sendFrames_keeps (s.modPort n (fun p => { p with train := some x })) n x

theorem State.applyPath_keeps (s : State) (n : Nat) : (s.applyPath n).cores = s.cores ∧ (s.applyPath n).wt = s.wt :=
  ⟨rfl, rfl⟩

theorem State.dropPort_keeps (s : State) (n : Nat) : (s.dropPort n).cores = s.cores ∧ (s.dropPort n).wt = s.wt := by
  unfold dropPort
  dsimp only
  rw [(applyPath_keeps _ _).1, (applyPath_keeps _ _).2]
  simp only [modPort_cores, modPort_wt, setNum_cores, setNum_wt]
  exact ⟨rfl, rfl⟩

theorem State.train_keeps (s : State) (n : Nat) : (s.train n).cores = s.cores ∧ (s.train n).wt = s.wt := by
  unfold train
  split
  · have hdrop := s.dropPort_keeps n
    generalize s.dropPort n = u at hdrop
    dsimp only
    rw [(keepTrain_keeps _ _ _).1, (keepTrain_keeps _ _ _).2]
    exact hdrop
  · exact ⟨rfl, rfl⟩

/-- Every port trains. -/
def State.trainPorts (s : State) : State := (List.range 24).foldl (fun s n => s.train n) s

theorem State.trainPorts_keeps (s : State) : (∀ key, key < okey 4 0 0 → s.trainPorts.num key = s.num key) ∧
    s.trainPorts.cores = s.cores ∧ s.trainPorts.wt = s.wt := by
  have hsame : s.SameBelowPorts s.trainPorts := .foldl train_sameBelowPorts _ _
  refine ⟨hsame.2.2, ?_⟩
  unfold trainPorts
  exact foldl_pred (P := fun t : State => t.cores = s.cores ∧ t.wt = s.wt)
    (fun t n h => ⟨(t.train_keeps n).1.trans h.1, (t.train_keeps n).2.trans h.2⟩) _ ⟨rfl, rfl⟩

theorem referenceRelock_gives (hlost : s.refLost = true) (hvalid : (s.markSource src true).sourceValid src = true) :
    Gives (exec (.referenceRelock src) s) (s.Uses src) := by
  have hexec : exec (.referenceRelock src) s =
      .next (((s.markSource src true).useSource src).setNum o0TimeState 3).trainPorts := by
    show execReferenceRelock src s = _
    unfold execReferenceRelock State.trainPorts
    dsimp only
    rw [hlost, hvalid, if_pos (by rfl)]
  obtain ⟨hsource, hswitches, hcores, hwt⟩ := State.uses_useSource _ src (s.markSource_keeps src true)
  generalize (s.markSource src true).useSource src = u at hexec hsource hswitches hcores hwt
  obtain ⟨hnum, hcores', hwt'⟩ := (u.setNum o0TimeState 3).trainPorts_keeps
  exact ⟨_, hexec, (hnum _ (by decide)).trans ((State.num_setNum_ne _ _ (by decide)).trans hsource),
    (hnum _ (by decide)).trans ((State.num_setNum_ne _ _ (by decide)).trans hswitches), hcores'.trans hcores, hwt'.trans hwt⟩

/-! ### The oscillators -/

/-- The state in which the smoulder clock is derived from the on-module oscillator. -/
def State.backedUp (s : State) : State := { s with clocks := { s.clocks with backup := true } }

theorem State.loseSource_onModule_keeps (s : State) :
    (s.loseSource .onModule).clocks = { s.clocks with oscFail := true } ∧ (s.loseSource .onModule).msc = s.msc := by
  unfold loseSource
  dsimp only
  split
  · split <;> exact ⟨rfl, rfl⟩
  · exact ⟨rfl, rfl⟩

theorem execOscillatorCheck_far {ppm : Int} (h : 200 < ppm ∨ ppm < -200) : ∃ l, exec (.oscillatorCheck ppm) s =
    .next { s.backedUp.loseSource .onModule with msc := { s.msc with posted := l } } := by
  have hmsc : (s.backedUp.loseSource .onModule).msc = s.msc := s.backedUp.loseSource_onModule_keeps.2
  have hexec : exec (.oscillatorCheck ppm) s = .next (if s.clocks.backup = true then s.backedUp.loseSource .onModule else
      (s.backedUp.loseSource .onModule).post 96 0 10 0 6 4 0 0xFF 0) := by
    show execOscillatorCheck ppm s = _
    rw [execOscillatorCheck, if_pos h]
    rfl
  rw [hexec]
  generalize s.backedUp.loseSource .onModule = u at hmsc
  by_cases hb : s.clocks.backup = true
  · exact ⟨s.msc.posted, by rw [if_pos hb, ← hmsc]⟩
  · exact ⟨_, by rw [if_neg hb, ← hmsc]; rfl⟩

theorem oscillatorCheck_far_gives {ppm : Int} (h : 200 < ppm ∨ ppm < -200) :
    Gives (exec (.oscillatorCheck ppm) s) (fun t => t.clocks.backup = true ∧ t.clocks.oscFail = true) := by
  obtain ⟨l, hl⟩ := execOscillatorCheck_far (s := s) h
  refine ⟨_, hl, ?_⟩
  show (s.backedUp.loseSource .onModule).clocks.backup = true ∧ (s.backedUp.loseSource .onModule).clocks.oscFail = true
  rw [(State.loseSource_onModule_keeps _).1]
  exact ⟨rfl, rfl⟩

theorem oscillatorCheck_moves {ppm : Int} (h : 200 < ppm ∨ ppm < -200) (huse : s.refInUse = 2)
    (hfirst : (s.markSource .onModule false).firstSource = some r) : Gives (exec (.oscillatorCheck ppm) s) (s.Uses r) := by
  obtain ⟨l, hl⟩ := execOscillatorCheck_far (s := s) h
  have hlose : s.backedUp.loseSource .onModule = (s.backedUp.markSource .onModule false).useSource r :=
    State.loseSource_inUse huse hfirst
  obtain ⟨hsource, hswitches, hcores, hwt⟩ := State.uses_useSource (t := s) (s.backedUp.markSource .onModule false) r ⟨rfl, rfl, rfl⟩
  refine ⟨_, hl, ?_⟩
  rw [hlose]
  exact ⟨hsource, hswitches, hcores, hwt⟩

/-- The state whose watchdog holds the controller. -/
def State.watchdogHeld (s : State) : State :=
  { s with hdp := s.hdp.restart, msc := { s.msc with booted := false, starting := none, bcast := none, watchdog := true } }

theorem State.watchdogHeld_leaves (s : State) : s.watchdogHeld.msc.watchdog = true ∧ s.watchdogHeld.msc.booted = false ∧
    s.watchdogHeld.msc.starting = none ∧ s.watchdogHeld.cores = s.cores ∧ s.watchdogHeld.hdp.sessions = [] ∧
    s.watchdogHeld.net = s.net := ⟨rfl, rfl, rfl, rfl, rfl, rfl⟩

theorem execMscWatchdogHold_eq (s : State) : exec .mscWatchdogHold s = .next
    ({ s with msc := { s.msc with updLost := s.msc.updLost || s.msc.upd.isSome } } : State).abandonUpdate.holdWafer.watchdogHeld := by
  show execMscWatchdogHold s = _
  unfold execMscWatchdogHold
  extract_lets lost m s1
  exact congrArg Host.Outcome.next (show _ = s1.watchdogHeld from rfl)

theorem mscWatchdogHold_gives (s : State) : Gives (exec .mscWatchdogHold s) (fun t => t.msc.watchdog = true ∧ t.msc.booted = false ∧
    t.msc.starting = none ∧ t.cores = [] ∧ t.hdp.sessions = [] ∧ t.net = Net.reset) := by
  rw [execMscWatchdogHold_eq]
  generalize ({ s with msc := { s.msc with updLost := s.msc.updLost || s.msc.upd.isSome } } : State).abandonUpdate = u
  obtain ⟨hcores, hnet, -, -, -⟩ := u.holdWafer_leaves
  obtain ⟨hwatch, hboot, hstart, hcores', hhdp, hnet'⟩ := u.holdWafer.watchdogHeld_leaves
  exact ⟨_, rfl, hwatch, hboot, hstart, hcores'.trans hcores, hhdp, hnet'.trans hnet⟩

/-! ### The fabric divider -/

/-- A field's clock unit after a step of its island's divider. -/
def ClkSt.stepped (target : Nat) (x : ClkSt) : ClkSt := { x with target := target, fabricD := stepTo x.fabricD target }

theorem State.clk_modClk (s : State) (f g : Nat) (h : ClkSt → ClkSt) :
    (s.modClk f h).clk g = if g = f then h (s.clk f) else s.clk g := by
  unfold clk modClk
  split
  next he => rw [he]; exact SMap.get_put_same _ _ _ _
  next hne => exact SMap.get_put_ne hne

theorem State.clk_foldl_modClk (h : ClkSt → ClkSt) {l : List Nat} (hl : l.Nodup) (s : State) (g : Nat) :
    (l.foldl (fun s f => s.modClk f h) s).clk g = if g ∈ l then h (s.clk g) else s.clk g := by
  induction l generalizing s with
  | nil => rfl
  | cons f l ih =>
    obtain ⟨hf, hl⟩ := List.nodup_cons.mp hl
    rw [List.foldl_cons, ih hl, clk_modClk]
    by_cases hg : g = f
    · subst hg
      simp [hf]
    · simp [hg]

theorem State.clk_runIsland (s : State) (i : Nat × Nat) (d : Int) (g : Nat) : (s.runIsland i d).clk g = s.clk g := by
  unfold runIsland
  dsimp only
  split <;> rfl

theorem State.clk_moveStarts (s : State) (root n g : Nat) : (s.moveStarts root n).clk g = s.clk g := by
  unfold moveStarts
  refine foldl_pred (P := fun t : State => t.clk g = s.clk g) ?_ _ rfl
  intro t p h
  split
  · exact h
  · exact h

theorem islandFields_nodup (i : Nat × Nat) : (islandFields i).Nodup := List.nodup_range.filter _

/-- An island whose divider steps at fabric count `n` of its root `f`. -/
def State.islandStepped (s : State) (f n : Nat) : State :=
  ((islandFields (s.island (f % 12))).foldl (fun t g => t.modClk g (ClkSt.stepped s.fabricTarget))
    ((s.atFabric (f * 96) n).retie f n)).moveStarts f n

theorem State.clk_islandStepped (s : State) (f n : Nat) {g : Nat} (hg : g ∈ islandFields (s.island (f % 12))) :
    (s.islandStepped f n).clk g = (s.clk g).stepped s.fabricTarget := by
  have htie : ((s.atFabric (f * 96) n).retie f n).clk g = s.clk g := s.clk_runIsland _ _ g
  rw [islandStepped, clk_moveStarts, clk_foldl_modClk _ (islandFields_nodup _), if_pos hg, htie]

/-- A step upwards of a fabric divider is noted for the permits (R609). -/
def State.noteUp (s : State) (up : Bool) : State := { s with power := { s.power with upStep := s.power.upStep || up } }

theorem execDividerStep_root {f : Nat} (n : BitVec 64) (hf : f < 84) (hroot : (s.clk f).root = true) :
    exec (.dividerStep f n) s = .next ((s.islandStepped f n.toNat).noteUp (decide (s.fabricTarget < (s.clk f).fabricD))) := by
  have hmod : f % 84 = f := Nat.mod_eq_of_lt hf
  show execDividerStep f n s = _
  unfold execDividerStep
  rw [if_pos (show f < 252 by omega), hmod, onField_eq hf, if_pos hf, if_pos hroot]
  extract_lets t s1 up s2
  exact congrArg Host.Outcome.next (show _ = s2.noteUp up from rfl)

theorem dividerStep_gives {f g : Nat} (n : BitVec 64) (hf : f < 84) (hroot : (s.clk f).root = true)
    (hg : g ∈ islandFields (s.island (f % 12))) :
    Gives (exec (.dividerStep f n) s) (fun t => (t.clk g).target = s.fabricTarget ∧
      (t.clk g).fabricD = stepTo (s.clk g).fabricD s.fabricTarget ∧ (t.clk g).dramD = (s.clk g).dramD ∧
      (t.clk g).ctlD = (s.clk g).ctlD) := by
  have hclk := s.clk_islandStepped f n.toNat hg
  rw [execDividerStep_root n hf hroot]
  generalize s.islandStepped f n.toNat = u at hclk
  have hup : ∀ up, (u.noteUp up).clk g = u.clk g := fun _ => rfl
  refine ⟨_, rfl, ?_⟩
  dsimp only
  rw [hup, hclk]
  exact ⟨rfl, rfl, rfl, rfl⟩

end Sys2Proof.Machine

open Sys2Proof Sys2Proof.Machine

/-- Settles O49: a source in use that is lost, reverted from or relocked is replaced by `useSource`; a lost reference leaves each port
quiet, and no port's training touches the reference; and a step of an island's divider is one `modClk` of each of its fields. -/
theorem referenceAndDividers : Obligations.ReferenceAndDividers := by
  unfold Obligations.ReferenceAndDividers
  intro s src r held f g ppm n off on uses
  refine ⟨?_, ?_, fun hv hl hr hon hh => refRevert_gives hv hl hr hon hh, fun h => refRevert_off h,
    fun h hl => referenceLost_gives h hl, fun hl hv => referenceRelock_gives hl hv, fun h => oscillatorCheck_far_gives h,
    fun h hu hf => oscillatorCheck_moves h hu hf, ?_, mscWatchdogHold_gives s, fun hf hr hg => dividerStep_gives n hf hr hg⟩
  · intro huse hfirst
    rw [execRefSourceInvalid_eq, State.loseSource_inUse huse hfirst]
    exact ⟨_, rfl, State.uses_useSource _ r (s.markSource_keeps src false)⟩
  · intro huse
    rw [execRefSourceInvalid_eq, State.loseSource_other huse]
  · intro h1 h2
    show execOscillatorCheck ppm s = _
    rw [execOscillatorCheck, if_neg (by omega)]
end

section
/-! SUPPORT. Wear, heat, fuses and supplies (R604 to R625). -/

namespace Sys2Proof.Machine

variable {s t : State} {r : Nat}

/-- What an update of every entry establishes, and the default has, holds of each entry and its old value. -/
theorem SMap.get_mapV_rel {α : Type} {Q : α → α → Prop} {g : α → α} {d : α} (h : ∀ x, Q x (g x)) (hd : Q d d) (m : SMap α) (q : Nat) :
    Q (m.get d q) ((m.mapV g).get d q) := by
  rw [SMap.get_mapV, SMap.get]
  cases m.look q with
  | none => exact hd
  | some x => exact h x

/-! ### Wear -/

theorem wearTick_gives {watts : Nat} {tj : Int} (hr : r < 12) (hlost : s.num (o1RegionState r) ≠ 3) (hq : -64 ≤ (tj - 85) / 10) :
    Gives (exec (.wearTick r watts tj) s) (fun t =>
      (t.region r).wear.get 0 ((tj - 85) % 10).toNat = (s.region r).wear.get 0 ((tj - 85) % 10).toNat +
        watts * watts * 2 ^ (64 + (tj - 85) / 10).toNat ∧
      ∀ q, q ≠ ((tj - 85) % 10).toNat → (t.region r).wear.get 0 q = (s.region r).wear.get 0 q) := by
  have hexec : exec (.wearTick r watts tj) s = .next ((s.modRegion r (fun x => { x with
      wear := x.wear.put ((tj - 85) % 10).toNat (x.wear.get 0 ((tj - 85) % 10).toNat +
        (if (tj - 85) / 10 < -64 then 0 else watts * watts * 2 ^ (64 + (tj - 85) / 10).toNat)) })).setNum (o8InputPowerW r)
      (f32Word ⟨watts, 1⟩)) := by
    show execWearTick r watts tj s = _
    rw [execWearTick, onRegion_eq hr, if_neg hlost]
  refine ⟨_, hexec, ?_⟩
  simp only [State.region_setNum, State.region_modRegion_same, if_neg (show ¬(tj - 85) / 10 < -64 by omega)]
  exact ⟨SMap.get_put_same _ _ _ _, fun q hq => SMap.get_put_ne hq⟩

theorem State.storeWear_stores (h : s.num o8FlashInhibit ≠ 1) (q : Nat) :
    (s.storeWear.region q).wearStored = (s.region q).wear ∧ (s.storeWear.region q).wear = (s.region q).wear := by
  rw [storeWear, if_neg h]
  exact SMap.get_mapV_rel (Q := fun x y : RegionSt => y.wearStored = x.wear ∧ y.wear = x.wear) (d := RegionSt.reset)
    (g := fun x => { x with wearStored := x.wear, wearWait := none }) (fun x => ⟨rfl, rfl⟩) ⟨rfl, rfl⟩ s.regions q

theorem State.storeWear_waits (h : s.num o8FlashInhibit = 1) : s.storeWear.power.wearDue = true ∧
    ∀ q, (s.storeWear.region q).wearStored = (s.region q).wearStored ∧ (s.storeWear.region q).wear = (s.region q).wear := by
  rw [storeWear, if_pos h]
  exact ⟨rfl, fun q => SMap.get_mapV_rel (Q := fun x y : RegionSt => y.wearStored = x.wearStored ∧ y.wear = x.wear)
    (d := RegionSt.reset) (g := fun x => { x with wearWait := some x.wear }) (fun x => ⟨rfl, rfl⟩) ⟨rfl, rfl⟩ s.regions q⟩

theorem State.flushWear_stores (s : State) (q : Nat) :
    (s.flushWear.region q).wearStored = (s.region q).wearWait.getD (s.region q).wearStored :=
  SMap.get_mapV_rel (Q := fun x y : RegionSt => y.wearStored = x.wearWait.getD x.wearStored) (d := RegionSt.reset)
    (g := fun x => { x with wearStored := x.wearWait.getD x.wearStored, wearWait := none }) (fun _ => rfl) rfl s.regions q

/-! ### Heat -/

/-- A bit of the rows that hold. -/
theorem nbit_rows (b : Nat → Bool) {j : Nat} (hj : j < 6) :
    nbit (((List.range 6).map (fun i => if b i = true then 2 ^ i else 0)).sum) j = b j := by
  have hsum : ((List.range 6).map (fun i => if b i = true then 2 ^ i else 0)).sum =
      (if b 0 = true then 1 else 0) + (if b 1 = true then 2 else 0) + (if b 2 = true then 4 else 0) +
        (if b 3 = true then 8 else 0) + (if b 4 = true then 16 else 0) + (if b 5 = true then 32 else 0) := by
    simp [List.range_succ, Nat.add_assoc]
  have hbits : ∀ c0 c1 c2 c3 c4 c5 : Bool, ∀ j : Fin 6, nbit ((if c0 = true then 1 else 0) + (if c1 = true then 2 else 0) +
      (if c2 = true then 4 else 0) + (if c3 = true then 8 else 0) + (if c4 = true then 16 else 0) + (if c5 = true then 32 else 0)) j =
        [c0, c1, c2, c3, c4, c5][j] := by decide
  rw [hsum, hbits (b 0) (b 1) (b 2) (b 3) (b 4) (b 5) ⟨j, hj⟩]
  interval_cases j <;> rfl

/-- The end of a boost on a condition. -/
def State.endBoostIf (s : State) (c : Bool) (cause : Nat) : State := if c then s.endBoost cause else s

theorem State.endBoostIf_leaves (s : State) (c : Bool) (cause : Nat) : s.OnlyDict (s.endBoostIf c cause) ∧
    ∀ key, key ≠ o8BoostState → (s.endBoostIf c cause).num key = s.num key := by
  cases c with
  | false => exact ⟨.refl s, fun _ _ => rfl⟩
  | true => exact ⟨s.endBoost_onlyDict cause, fun key hk => s.num_endBoost cause hk⟩

/-- The rows of a region that hold after a reading, as numbers and as records of those that begin to hold. -/
def State.rowsAfter (s : State) (r st jn : Nat) : Nat :=
  let x := s.region r
  let clear := if st < 91 ∧ jn < 102 then min 1000 (x.clearMs + 1) else 0
  ((List.range 6).map (fun j => if rowAfter x.rows st jn (1000 ≤ clear) j then 2 ^ j else 0)).sum

def State.postRows (s : State) (r rows before : Nat) : State :=
  (List.range 6).foldl (fun s j => if nbit rows j && !nbit before j then s.postRegion r 5 (j + 1) 0 else s) s

theorem State.postRows_keeps (s : State) (r rows before : Nat) : ∃ l, s.postRows r rows before = { s with msc := { s.msc with posted := l } } := by
  refine foldl_pred (P := fun t : State => ∃ l, t = { s with msc := { s.msc with posted := l } }) ?_ _ ⟨s.msc.posted, rfl⟩
  intro t j h
  obtain ⟨l, rfl⟩ := h
  split
  · exact ⟨_, rfl⟩
  · exact ⟨l, rfl⟩

/-- The coolant's readings, and what they bring about. -/
def State.coolantRead (s : State) (coolant : CoolantReading) : State :=
  ((s.modPower (fun p => { p with
    inlet := coolant.inlet, outlet := coolant.outlet, flow := coolant.flow
    hotModule := (List.range 12).any (fun r => nbit (s.region r).rows 3) })).setBlob o8Coolant
      (leBytes 4 coolant.inlet.toNat ++ leBytes 4 coolant.outlet.toNat ++ leBytes 4 coolant.flow.toNat)).setNum o8CoolantTermW
        (coolantTerm coolant.inlet coolant.flow)

/-- A region's readings. -/
def State.stacksRead (s : State) (r st jn : Nat) : State :=
  let clear := if st < 91 ∧ jn < 102 then min 1000 ((s.region r).clearMs + 1) else 0
  ((s.modRegion r (fun x => { x with rows := s.rowsAfter r st jn, clearMs := clear })).setNum (o8StackMaxC r) st).setNum
    (o8JunctionMaxC r) jn

theorem State.readHeat_eq (s : State) (r st jn : Nat) (coolant : CoolantReading) : s.readHeat r st jn coolant =
    ((((s.stacksRead r st jn).postRows r (s.rowsAfter r st jn) (s.region r).rows).coolantRead coolant).endBoostIf
      (nbit (s.rowsAfter r st jn) 1) 2).endBoostIf (Frac.le ⟨55, 1⟩ (sensor coolant.outlet)) 3 := rfl

theorem State.stacksRead_leaves (s : State) (r st jn : Nat) : (s.stacksRead r st jn).num (o8StackMaxC r) = st ∧
    (s.stacksRead r st jn).num (o8JunctionMaxC r) = jn ∧ ((s.stacksRead r st jn).region r).rows = s.rowsAfter r st jn ∧
    (s.stacksRead r st jn).cores = s.cores ∧ (s.stacksRead r st jn).dram = s.dram := by
  unfold stacksRead
  refine ⟨?_, num_setNum_same _ _ _, ?_, rfl, rfl⟩
  · rw [num_setNum_ne _ _ (by unfold o8StackMaxC o8JunctionMaxC okey; omega), num_setNum_same]
  · simp only [region_setNum, region_modRegion_same]

theorem State.readHeat_leaves (s : State) (r st jn : Nat) (coolant : CoolantReading) :
    (s.readHeat r st jn coolant).num (o8StackMaxC r) = st ∧ (s.readHeat r st jn coolant).num (o8JunctionMaxC r) = jn ∧
      (s.readHeat r st jn coolant).num o8CoolantTermW = coolantTerm coolant.inlet coolant.flow ∧
      (s.readHeat r st jn coolant).cores = s.cores ∧ (s.readHeat r st jn coolant).dram = s.dram ∧
      ((s.readHeat r st jn coolant).region r).rows = s.rowsAfter r st jn := by
  obtain ⟨hst, hjn, hrows, hcores, hdram⟩ := s.stacksRead_leaves r st jn
  rw [readHeat_eq]
  generalize s.rowsAfter r st jn = rows at hrows ⊢
  obtain ⟨l, hl⟩ := (s.stacksRead r st jn).postRows_keeps r rows (s.region r).rows
  rw [hl]
  generalize s.stacksRead r st jn = u at hst hjn hrows hcores hdram
  have hread : ∀ key, key ≠ o8CoolantTermW → (({ u with msc := { u.msc with posted := l } } : State).coolantRead coolant).num key =
      u.num key := fun key hk => num_setNum_ne _ _ hk
  have hterm : (({ u with msc := { u.msc with posted := l } } : State).coolantRead coolant).num o8CoolantTermW =
      coolantTerm coolant.inlet coolant.flow := num_setNum_same _ _ _
  have hkeep : (({ u with msc := { u.msc with posted := l } } : State).coolantRead coolant).cores = u.cores ∧
      (({ u with msc := { u.msc with posted := l } } : State).coolantRead coolant).dram = u.dram ∧
      (({ u with msc := { u.msc with posted := l } } : State).coolantRead coolant).region r = u.region r := ⟨rfl, rfl, rfl⟩
  generalize ({ u with msc := { u.msc with posted := l } } : State).coolantRead coolant = v at hread hterm hkeep
  obtain ⟨hvc, hvd, hvr⟩ := hkeep
  obtain ⟨hdict1, hnum1⟩ := v.endBoostIf_leaves (nbit rows 1) 2
  obtain ⟨hdict2, hnum2⟩ := (v.endBoostIf (nbit rows 1) 2).endBoostIf_leaves (Frac.le ⟨55, 1⟩ (sensor coolant.outlet)) 3
  have hnum : ∀ key, key ≠ o8BoostState → _ = v.num key := fun key hk => (hnum2 key hk).trans (hnum1 key hk)
  have hstack : o8StackMaxC r ≠ o8BoostState ∧ o8StackMaxC r ≠ o8CoolantTermW := by
    unfold o8StackMaxC o8BoostState o8CoolantTermW okey; omega
  have hjunction : o8JunctionMaxC r ≠ o8BoostState ∧ o8JunctionMaxC r ≠ o8CoolantTermW := by
    unfold o8JunctionMaxC o8BoostState o8CoolantTermW okey; omega
  obtain ⟨d, hd⟩ := hdict1.trans hdict2
  refine ⟨((hnum _ hstack.1).trans (hread _ hstack.2)).trans hst, ((hnum _ hjunction.1).trans (hread _ hjunction.2)).trans hjn,
    (hnum _ (by decide)).trans hterm, ?_, ?_, ?_⟩
  · rw [hd]; exact hvc.trans hcores
  · rw [hd]; exact hvd.trans hdram
  · rw [hd]; exact (congrArg RegionSt.rows hvr).trans hrows

/-! ### The wafer in reset -/

/-- The regions' fuses, tripped by a coolant shutdown. -/
def State.tripFuse (s : State) (r : Nat) : State := if s.num (o8FuseState r) = 0 then s.setNum (o8FuseState r) 2 else s

theorem o8FuseState_inj {q r : Nat} : o8FuseState q = o8FuseState r ↔ q = r := by
  unfold o8FuseState okey; omega

theorem State.num_tripFuse (s : State) (r q : Nat) : (s.tripFuse r).num (o8FuseState q) =
    if q = r ∧ s.num (o8FuseState r) = 0 then 2 else s.num (o8FuseState q) := by
  unfold tripFuse
  by_cases h : s.num (o8FuseState r) = 0
  · rw [if_pos h, num_setNum]
    simp [o8FuseState_inj, h]
  · rw [if_neg h, if_neg (fun hq => h hq.2)]

theorem State.num_tripFuses (s : State) (n q : Nat) : ((List.range n).foldl (fun s r => s.tripFuse r) s).num (o8FuseState q) =
    if q < n ∧ s.num (o8FuseState q) = 0 then 2 else s.num (o8FuseState q) := by
  induction n with
  | zero => simp
  | succ n ih =>
    rw [List.range_succ, List.foldl_append, List.foldl_cons, List.foldl_nil, num_tripFuse]
    by_cases hq : q = n
    · subst hq
      simp [ih]
    · rw [if_neg (fun h => hq h.1), ih]
      simp only [Nat.lt_succ_iff_lt_or_eq, hq, or_false]

theorem State.tripFuse_keeps (s : State) (r : Nat) : s.OnlyDict (s.tripFuse r) ∧
    ∀ key, key % 65536 ≠ 0x0B03 → (s.tripFuse r).num key = s.num key := by
  unfold tripFuse
  split
  · exact ⟨.setNum _ _ _, fun key hk => num_setNum_other _ _ _ (by decide) _ hk⟩
  · exact ⟨.refl s, fun _ _ => rfl⟩

/-- The fuses of the twelve regions, tripped. -/
def State.tripFuses (s : State) : State := (List.range 12).foldl (fun s r => s.tripFuse r) s

theorem State.tripFuses_keeps (s : State) : s.OnlyDict s.tripFuses ∧ ∀ key, key % 65536 ≠ 0x0B03 → s.tripFuses.num key = s.num key :=
  ⟨.foldl (fun s r => (s.tripFuse_keeps r).1) _ s, fun key hk => num_foldl_keeps (fun t r => (t.tripFuse_keeps r).2 key hk) s⟩

theorem execCoolantShutdown_eq (inlet : Bool) (s : State) : ∃ cause, exec (.coolantShutdown inlet) s =
    .next (((((s.endBoost 3).holdWafer).dropLoads.modPower (fun x => { x with shutdown := true })).tripFuses).postMsc 5 cause 7) :=
  ⟨_, rfl⟩

theorem State.dropLoads_lastW (s : State) (r : Nat) : (s.dropLoads.region r).lastW = 0 :=
  SMap.get_mapV_rel (Q := fun _ y : RegionSt => y.lastW = 0) (d := RegionSt.reset) (g := fun x => { x with lastW := 0 }) (fun _ => rfl)
    rfl s.regions r

theorem num_endBoost_region (s : State) (cause r : Nat) : (s.endBoost cause).num (o1RegionState r) = s.num (o1RegionState r) :=
  s.num_endBoost cause (by unfold o1RegionState o8BoostState okey; omega)

theorem coolantShutdown_gives (inlet : Bool) (s : State) (r : Nat) : Gives (exec (.coolantShutdown inlet) s) (fun t => t.cores = [] ∧
    t.power.shutdown = true ∧ t.num o0ModuleState = 3 ∧ (t.region r).lastW = 0 ∧
    (r < 12 → s.num (o8FuseState r) = 0 → t.num (o8FuseState r) = 2) ∧
    (r < 12 → t.num (o1RegionState r) = heldState (s.num (o1RegionState r)))) := by
  obtain ⟨cause, hexec⟩ := execCoolantShutdown_eq inlet s
  rw [hexec]
  obtain ⟨hcores, -, -, -, hmodule⟩ := (s.endBoost 3).holdWafer_leaves
  have hregion : r < 12 → _ := fun hr => ((s.endBoost 3).num_holdWafer_region hr).trans
    (congrArg heldState (num_endBoost_region s 3 r))
  have hfuse := ((s.endBoost 3).num_holdWafer_fuse r).trans
    (s.num_endBoost 3 (by unfold o8FuseState o8BoostState okey; omega))
  generalize (s.endBoost 3).holdWafer = u at hcores hmodule hregion hfuse
  have hload := u.dropLoads_lastW r
  have hnum : ∀ key, (u.dropLoads.modPower (fun x => { x with shutdown := true })).num key = u.num key := fun _ => rfl
  have hkeep : (u.dropLoads.modPower (fun x => { x with shutdown := true })).cores = u.cores ∧
      (u.dropLoads.modPower (fun x => { x with shutdown := true })).power.shutdown = true ∧
      (u.dropLoads.modPower (fun x => { x with shutdown := true })).region r = u.dropLoads.region r := ⟨rfl, rfl, rfl⟩
  generalize u.dropLoads.modPower (fun x => { x with shutdown := true }) = v at hnum hkeep
  obtain ⟨hvc, hvs, hvr⟩ := hkeep
  obtain ⟨⟨d, hd⟩, hother⟩ := v.tripFuses_keeps
  have htrip := v.num_tripFuses 12 r
  have hpost : ∀ w : State, (w.postMsc 5 cause 7).cores = w.cores ∧ (w.postMsc 5 cause 7).power = w.power ∧
      (w.postMsc 5 cause 7).region r = w.region r ∧ ∀ key, (w.postMsc 5 cause 7).num key = w.num key :=
    fun w => ⟨rfl, rfl, rfl, fun _ => rfl⟩
  obtain ⟨hpc, hpp, hpr, hpn⟩ := hpost v.tripFuses
  refine ⟨_, rfl, ?_, ?_, ?_, ?_, fun hr h0 => ?_, fun hr => ?_⟩
  · rw [hpc, hd]; exact hvc.trans hcores
  · rw [hpp, hd]; exact hvs
  · rw [hpn, hother _ (by decide), hnum, hmodule]
  · rw [hpr, hd]; exact (congrArg RegionSt.lastW hvr).trans hload
  · rw [hpn, State.tripFuses, htrip, hnum, hfuse, if_pos ⟨hr, h0⟩]
  · rw [hpn, hother _ (by rw [o1RegionState, okey_mod _ _ (by decide)]; decide), hnum, hregion hr]

/-- The state in which the plane's hold is noted. -/
def State.planeHeld (s : State) : State :=
  { s.modPower (fun x => { x with planeMv := min x.planeMv 45999 }) with msc := { s.msc with planeHeld := true } }

theorem execPlaneHold_eq (s : State) : exec .planeHold s = .next (((s.endBoost 4).holdWafer).planeHeld.postMsc 4 9 7) := rfl

theorem planeHold_gives (s : State) (r : Nat) : Gives (exec .planeHold s) (fun t => t.cores = [] ∧ t.net = Net.reset ∧
    t.msc.planeHeld = true ∧ t.num o0ModuleState = 3 ∧ t.power.planeMv < 46000 ∧
    (r < 12 → t.num (o1RegionState r) = heldState (s.num (o1RegionState r)))) := by
  rw [execPlaneHold_eq]
  obtain ⟨hcores, hnet, -, -, hmodule⟩ := (s.endBoost 4).holdWafer_leaves
  have hregion : r < 12 → _ := fun hr => ((s.endBoost 4).num_holdWafer_region hr).trans
    (congrArg heldState (num_endBoost_region s 4 r))
  generalize (s.endBoost 4).holdWafer = u at hcores hnet hmodule hregion
  have hmv : min u.power.planeMv 45999 < 46000 := by omega
  exact ⟨_, rfl, hcores, hnet, rfl, hmodule, hmv, hregion⟩

/-! ### Fuses and supplies -/

theorem State.planeAt_leaves (s : State) (mv : Nat) :
    (∃ d, s.planeAt mv = { s with power := { s.power with planeMv := mv }, dict := d }) ∧
      (s.planeAt mv).num o8FlashInhibit = s.num o8FlashInhibit := by
  have hstep : ∀ (t : State) (r : Nat), t.OnlyDict (if t.num (o1RegionState r) = 3 then t else t.setNum (o8BulkReservePct r) (bulkPct mv)) ∧
      (if t.num (o1RegionState r) = 3 then t else t.setNum (o8BulkReservePct r) (bulkPct mv)).num o8FlashInhibit = t.num o8FlashInhibit := by
    intro t r
    split
    · exact ⟨.refl t, rfl⟩
    · exact ⟨.setNum _ _ _, num_setNum_ne _ _ (by unfold o8FlashInhibit o8BulkReservePct okey; omega)⟩
  unfold planeAt
  extract_lets s1
  have hdict : (s.modPower (fun x => { x with planeMv := mv })).OnlyDict s1 := .foldl (fun t r => (hstep t r).1) _ _
  have hnum : s1.num o8FlashInhibit = s.num o8FlashInhibit := num_foldl_keeps (fun t r => (hstep t r).2) _
  clear_value s1
  obtain ⟨d, rfl⟩ := hdict
  split
  · obtain ⟨d', hd'⟩ := endBoost_onlyDict { s.modPower (fun x => { x with planeMv := mv }) with dict := d } 4
    exact ⟨⟨d', hd'⟩, (num_endBoost _ 4 (by decide)).trans hnum⟩
  · exact ⟨⟨d, rfl⟩, hnum⟩

theorem State.abandonUpdate_leaves (s : State) : s.abandonUpdate.msc.upd = none ∧
    ∀ key, key ≠ o0FwUpdateResult → s.abandonUpdate.num key = s.num key := by
  unfold abandonUpdate
  split
  · exact ⟨rfl, fun key hk => num_setNum_ne _ _ hk⟩
  next h => exact ⟨h, fun _ _ => rfl⟩

theorem flashInhibitSet_gives {planeMv auxMv : Nat} (h : planeMv < 50500 ∨ auxMv < 11200) :
    Gives (exec (.flashInhibitSet planeMv auxMv) s) (fun t => t.num o8FlashInhibit = 1 ∧ t.msc.upd = none) := by
  let u := ((s.planeAt planeMv).setNum o8AuxV (f32Word ⟨auxMv, 1000⟩)).abandonUpdate
  have hexec : exec (.flashInhibitSet planeMv auxMv) s =
      .next (if s.num o8FlashInhibit = 1 then u else (u.setNum o8FlashInhibit 1).postMsc 4 10 0) := by
    show execFlashInhibitSet planeMv auxMv s = _
    rw [execFlashInhibitSet, if_pos h]
  obtain ⟨hupd, hnum⟩ := ((s.planeAt planeMv).setNum o8AuxV (f32Word ⟨auxMv, 1000⟩)).abandonUpdate_leaves
  rw [hexec]
  by_cases hi : s.num o8FlashInhibit = 1
  · rw [if_pos hi]
    refine ⟨u, rfl, ?_, hupd⟩
    rw [hnum _ (by decide), State.num_setNum_ne _ _ (by decide), (s.planeAt_leaves planeMv).2, hi]
  · rw [if_neg hi]
    exact ⟨_, rfl, State.num_setNum_same _ _ _, hupd⟩

/-- The fields' soft fuses, once the writes that waited are made. -/
def State.softWritten (s : State) : State :=
  { s with fields := s.fields.mapV (fun x => { x with soft := x.soft ++ x.softWait, softWait := [] }) }

theorem execFlashInhibitClear_eq {planeMv auxMv : Nat} (hp : 51500 ≤ planeMv) (ha : 11600 ≤ auxMv) (hi : s.num o8FlashInhibit = 1) :
    ∃ u : State, u.regions = s.regions ∧ u.power.wearDue = s.power.wearDue ∧ u.num o8FlashInhibit = 0 ∧
      exec (.flashInhibitClear planeMv auxMv) s = .next (if u.power.wearDue = true then u.flushWear else u) := by
  obtain ⟨⟨d, hd⟩, -⟩ := s.planeAt_leaves planeMv
  refine ⟨(((s.planeAt planeMv).setNum o8AuxV (f32Word ⟨auxMv, 1000⟩)).setNum o8FlashInhibit 0).softWritten, ?_, ?_,
    State.num_setNum_same _ _ _, ?_⟩
  · rw [hd]; rfl
  · rw [hd]; rfl
  · show execFlashInhibitClear planeMv auxMv s = _
    rw [execFlashInhibitClear, if_pos ⟨hp, ha, hi⟩]
    rfl

theorem flashInhibitClear_gives {planeMv auxMv : Nat} (hp : 51500 ≤ planeMv) (ha : 11600 ≤ auxMv) (hi : s.num o8FlashInhibit = 1) :
    Gives (exec (.flashInhibitClear planeMv auxMv) s) (fun t => t.num o8FlashInhibit = 0 ∧
      (s.power.wearDue = true → ∀ q, (t.region q).wearStored = (s.region q).wearWait.getD (s.region q).wearStored)) := by
  obtain ⟨u, hregions, hdue, hnum, hexec⟩ := execFlashInhibitClear_eq hp ha hi
  rw [hexec]
  refine ⟨_, rfl, ?_, fun h q => ?_⟩
  · split
    · exact hnum
    · exact hnum
  · have hregion : u.region q = s.region q := by rw [State.region, State.region, hregions]
    rw [if_pos (hdue.trans h), u.flushWear_stores, hregion]

theorem feedLost_gives {b : Bool} (h : nbit (s.num o8FeedsOk) (b2n b) = true) :
    Gives (exec (.feedLost b) s) (fun t => t.num o8FeedsOk = s.num o8FeedsOk - 2 ^ b2n b) := by
  have hexec : exec (.feedLost b) s =
      .next ((((s.measureFeed b).setNum o8FeedsOk (s.num o8FeedsOk - 2 ^ b2n b)).endBoost 6).postMsc 4 8 0) := by
    show execFeedLost b s = _
    simp only [execFeedLost, h, if_true]
  refine ⟨_, hexec, ?_⟩
  exact (State.num_endBoost _ 6 (by decide)).trans (State.num_setNum_same _ _ _)

theorem feedSupplying_gives {b : Bool} (h : nbit (s.num o8FeedsOk) (b2n b) = false) :
    Gives (exec (.feedSupplying b) s) (fun t => t.num o8FeedsOk = s.num o8FeedsOk + 2 ^ b2n b) := by
  have hexec : exec (.feedSupplying b) s = .next ((s.measureFeed b).setNum o8FeedsOk (s.num o8FeedsOk + 2 ^ b2n b)) := by
    show execFeedSupplying b s = _
    simp only [execFeedSupplying, h, Bool.false_eq_true, if_false]
  exact ⟨_, hexec, State.num_setNum_same _ _ _⟩

theorem execCoefTable_eq {data : List Byte} (hlen : data.length = 64) (hi : s.num o8FlashInhibit ≠ 1) :
    exec (.coefTable data) s = .next (if coefOk data then s.setBlob o8CoefTable data else s) := by
  show Host.Outcome.next (s.writeCoef data).1 = _
  rw [State.writeCoef, if_neg (by simp [hlen]), if_neg hi]
  split <;> rfl

end Sys2Proof.Machine

open Sys2Proof Sys2Proof.Machine

/-- Settles O53: wear and stores act entry by entry, a reading is its rows, posts and boost ends in turn, and a hold of the wafer is the
reset followed by updates of the dictionary alone. -/
theorem heatAndSupplies : Obligations.HeatAndSupplies := by
  unfold Obligations.HeatAndSupplies
  intro s r watts cause planeMv auxMv j tj stackC junctionC coolant inlet b data x feeds st jn clear slot
  refine ⟨fun hr hl hq => wearTick_gives hr hl hq, fun h => ⟨_, rfl, State.storeWear_stores h⟩,
    fun h => ⟨_, rfl, State.storeWear_waits h⟩, ?_, ?_, coolantShutdown_gives inlet s r, ?_, ?_,
    fun h => flashInhibitSet_gives h, fun hp ha hi => flashInhibitClear_gives hp ha hi, fun h => feedLost_gives h,
    fun h => feedSupplying_gives h, planeHold_gives s r, fun hl hi => execCoefTable_eq hl hi⟩
  · intro hr u
    obtain ⟨hst, hjn, hterm, hcores, hdram, hrows⟩ := s.readHeat_leaves r st jn coolant
    have hexec : exec (.thermalSample r stackC junctionC coolant) s =
        .next (if nbit (u.region r).rows 5 && !nbit x.rows 5 then u.openFuse r 5 else u) := by
      show execThermalSample r stackC junctionC coolant s = _
      rw [execThermalSample, onRegion_eq hr]
    refine ⟨hexec, hst, hjn, hterm, hcores, hdram, fun hj => ?_⟩
    rw [hrows]
    exact nbit_rows _ hj
  · intro hr a
    have hexec : exec (.awakeCeilingStep r) s = .next (s.setNum (o8AwakeCeiling r)
        (if nbit (s.region r).rows 2 then max 5376 (a - 2688) else min 21504 (a + 2688))) := by
      show execAwakeCeilingStep r s = _
      rw [execAwakeCeilingStep, onRegion_eq hr]
    refine ⟨fun h => ?_, fun h => ?_⟩
    · rw [hexec, if_pos h]
    · rw [hexec, if_neg (by rw [h]; decide)]
  · intro hr h0 h1 h5 s1 s2
    exact (onRegion_eq hr).trans (congrArg Host.Outcome.next (if_pos ⟨h0, h1, h5⟩))
  · intro hr h0
    exact (onRegion_eq hr).trans (congrArg Host.Outcome.next (if_neg fun h => h0 h.1))
end

section
/-! SUPPORT. Permits, the governor, the lease and boost (R182, R594 to R609, R733, R736). -/

namespace Sys2Proof.Machine

variable {s t : State} {c r : Nat}

/-! ### Permits -/

theorem execKindle_gives (hc : c < 258048) (hk : (s.core c).kindling = true) : Gives (exec (.kindle c) s) (fun t =>
    t.core c = { s.core c with kindle := 2 } ∧
      (t.region (coreRegion c)).waiting = queueRequest (s.wt / 20) c (s.region (coreRegion c)).waiting) := by
  have hexec : exec (.kindle c) s = .next ((s.setCore c { s.core c with kindle := 2 }).modRegion (coreRegion c) (fun x => { x with
      waiting := queueRequest (s.wt / 20) c x.waiting })) := by
    show execKindle c s = _
    rw [execKindle, onCore_eq hc, if_pos hk]
  refine ⟨_, hexec, ?_, ?_⟩
  · rw [State.core_modRegion _ rfl rfl rfl, State.core_setCore_same]
  · simp only [State.region_modRegion_same, State.region_setCore]

theorem kindlePermitGrant_gives {waited when_ : Nat} {rest : List (Nat × Nat)} (hr : r < 12)
    (hfront : (s.region r).waiting = (when_, c) :: rest) (hkindle : (s.core c).kindle = 2) (hsm : (s.core c).smoulder = true)
    (hpermits : 0 < (s.region r).permits) (hhalt : s.power.halted = false) (hheld : (s.region r).held.length < s.awakeCeiling r) :
    Gives (exec (.kindlePermitGrant r waited) s) (fun t =>
      t.core c = ((((s.core c).leaveSmoulder (s.fabricIn r) s.wt).bumpCount 0x38 1).bumpCount 0x40 waited) ∧
      (t.region r).permits = (s.region r).permits - 1 ∧ c ∈ (t.region r).held ∧ ∀ d, d ≠ c → t.core d = s.core d) := by
  have hfilter : (s.region r).waiting.filter (fun e => (s.core e.2).kindle = 2 && (s.core e.2).smoulder) =
      (when_, c) :: rest.filter (fun e => (s.core e.2).kindle = 2 && (s.core e.2).smoulder) := by
    rw [hfront, List.filter_cons_of_pos (by simp [hkindle, hsm])]
  have hgranted : (decide (0 < (s.region r).permits) && !s.power.halted &&
      decide ((s.region r).held.length < s.awakeCeiling r)) = true := by simp [hpermits, hhalt, hheld]
  have hexec : exec (.kindlePermitGrant r waited) s = .next ((s.setCore c
      ((((s.core c).leaveSmoulder (s.fabricIn r) s.wt).bumpCount 0x38 1).bumpCount 0x40 waited)).modRegion r (fun x => { x with
        permits := x.permits - 1, waiting := rest.filter (fun e => (s.core e.2).kindle = 2 && (s.core e.2).smoulder)
        held := addOnce x.held c })) := by
    show execKindlePermitGrant r waited s = _
    rw [execKindlePermitGrant, onRegion_eq hr]
    dsimp only
    rw [hfilter]
    dsimp only
    rw [if_pos hgranted]
  refine ⟨_, hexec, ?_, ?_, ?_, fun d hd => ?_⟩
  · rw [State.core_modRegion _ rfl rfl rfl, State.core_setCore_same]
  · simp only [State.region_modRegion_same, State.region_setCore]
  · rw [State.region_modRegion_same]
    exact mem_addOnce _ _
  · rw [State.core_modRegion _ rfl rfl rfl, State.core_setCore_ne _ _ hd]

theorem permitRefill_gives (hr : r < 12) (hup : s.power.upStep = false) :
    Gives (exec (.permitRefill r) s) (fun t => (t.region r).permits = 1470 ∧ t.cores = s.cores) := by
  have hexec : exec (.permitRefill r) s = .next (s.modRegion r (fun x => { x with permits := min 1470 (x.permits + 1470) })) := by
    show execPermitRefill r s = _
    rw [execPermitRefill, onRegion_eq hr, hup]
    rfl
  refine ⟨_, hexec, ?_, rfl⟩
  rw [State.region_modRegion_same]
  show min 1470 ((s.region r).permits + 1470) = 1470
  omega

theorem permitRefill_held (hr : r < 12) (hup : s.power.upStep = true) : exec (.permitRefill r) s = .next s := by
  show execPermitRefill r s = _
  rw [execPermitRefill, onRegion_eq hr, hup]
  rfl

/-! ### The lease, the shed input and boost -/

theorem leaseGrant_gives {data : List Byte} (hlen : data.length = 16) (hg1 : 18000 ≤ leAt data 0 4) (hg2 : leAt data 0 4 ≤ 26000)
    (hb : leAt data 4 4 = 0 ∨ (leAt data 0 4 ≤ leAt data 4 4 ∧ leAt data 4 4 ≤ 26000)) (hms1 : 100 ≤ leAt data 8 4)
    (hms2 : leAt data 8 4 ≤ 60000) : Gives (exec (.leaseGrant data) s) (fun t => t.power.grant = leAt data 0 4 ∧
      t.power.boost = leAt data 4 4 ∧ t.power.leaseState = 1 ∧ t.power.leaseId = leAt data 12 4 ∧
      t.power.ticks / 10 = leAt data 8 4) := by
  let s1 := s.modPower (fun x => { x with
    grant := leAt data 0 4, boost := leAt data 4 4, ticks := leAt data 8 4 * 10 + 1, leaseId := leAt data 12 4, leaseState := 1 })
  have hexec : exec (.leaseGrant data) s = .next (s1.endBoost 5) := by
    show Host.Outcome.next (s.writeLease data).1 = _
    unfold State.writeLease
    rw [if_neg (by omega)]
    dsimp only
    rw [if_neg (by omega), if_neg (by omega), if_pos (by omega)]
  obtain ⟨d, hd⟩ := s1.endBoost_onlyDict 5
  refine ⟨_, hexec, ?_⟩
  rw [hd]
  refine ⟨rfl, rfl, rfl, rfl, ?_⟩
  show (leAt data 8 4 * 10 + 1) / 10 = leAt data 8 4
  omega

theorem leaseGrant_refused {data : List Byte} (hlen : data.length = 16)
    (h : leAt data 0 4 < 18000 ∨ 26000 < leAt data 0 4 ∨ leAt data 8 4 < 100 ∨ 60000 < leAt data 8 4) :
    exec (.leaseGrant data) s = .next s := by
  show Host.Outcome.next (s.writeLease data).1 = _
  unfold State.writeLease
  rw [if_neg (by omega)]
  dsimp only
  rw [if_pos (by omega)]

/-- The state with the shed input's end noted at a tick. -/
def State.shedNoted (s : State) : State := if s.num o0ShedInput = 0 then s.modPower (fun x => { x with shed := false }) else s

theorem State.shedNoted_leaves (s : State) : s.shedNoted.power = { s.power with shed := s.shedNoted.power.shed } ∧
    s.shedNoted.dict = s.dict ∧ (s.num o0ShedInput = 0 → s.shedNoted.power.shed = false) := by
  unfold shedNoted
  split
  · exact ⟨rfl, rfl, fun _ => rfl⟩
  next h => exact ⟨rfl, rfl, fun h0 => absurd h0 h⟩

theorem leaseTick_gives (hlease : s.power.leaseState = 1) : Gives (exec .leaseTick s) (fun t =>
    (1 < s.power.ticks → t.power.leaseState = 1 ∧ t.power.ticks = s.power.ticks - 1) ∧
    (s.power.ticks ≤ 1 → t.power.leaseState = 2 ∧ t.num o8LeaseExpiries = (s.num o8LeaseExpiries + 1) % 2 ^ 64) ∧
    (s.num o0ShedInput = 0 → t.power.shed = false)) := by
  obtain ⟨hpower, hdict, hshed⟩ := s.shedNoted_leaves
  have hstate : s.shedNoted.power.leaseState = 1 := by rw [hpower]; exact hlease
  have hticks : s.shedNoted.power.ticks = s.power.ticks := by rw [hpower]
  have hexpiries : s.shedNoted.num o8LeaseExpiries = s.num o8LeaseExpiries := State.num_of_dict s hdict _
  have hexec : exec .leaseTick s = .next (if s.shedNoted.power.ticks ≤ 1 then
      ((s.shedNoted.modPower (fun x => { x with ticks := 0, leaseState := 2 })).addNum o8LeaseExpiries 1).endBoost 5
      else s.shedNoted.modPower (fun x => { x with ticks := x.ticks - 1 })) := by
    show Host.Outcome.next (if s.shedNoted.power.leaseState = 1 then _ else s.shedNoted) = _
    rw [if_pos hstate]
    rfl
  rw [hexec, hticks]
  generalize s.shedNoted = u at hstate hticks hexpiries hshed
  by_cases h : s.power.ticks ≤ 1
  · rw [if_pos h]
    have hcount : ((u.modPower (fun x => { x with ticks := 0, leaseState := 2 })).addNum o8LeaseExpiries 1).num o8LeaseExpiries =
        (u.num o8LeaseExpiries + 1) % 2 ^ 64 := State.num_setNum_same _ _ _
    have hkeep : ((u.modPower (fun x => { x with ticks := 0, leaseState := 2 })).addNum o8LeaseExpiries 1).power =
        { u.power with ticks := 0, leaseState := 2 } := rfl
    generalize (u.modPower (fun x => { x with ticks := 0, leaseState := 2 })).addNum o8LeaseExpiries 1 = v at hcount hkeep
    have hnum := v.num_endBoost 5 (key := o8LeaseExpiries) (by decide)
    obtain ⟨d, hd⟩ := v.endBoost_onlyDict 5
    have hvp : (v.endBoost 5).power = v.power := by rw [hd]
    refine ⟨_, rfl, fun h1 => absurd h (by omega), fun _ => ⟨?_, ?_⟩, fun h0 => ?_⟩
    · rw [hvp, hkeep]
    · rw [hnum, hcount, hexpiries]
    · rw [hvp, hkeep]; exact hshed h0
  · rw [if_neg h]
    refine ⟨_, rfl, fun _ => ⟨hstate, ?_⟩, fun h1 => absurd h1 h, hshed⟩
    show u.power.ticks - 1 = s.power.ticks - 1
    rw [hticks]

theorem foldl_min_le {l : List Nat} {a b : Nat} (h : b ∈ l ∨ a ≤ b) : l.foldl min a ≤ b := by
  induction l generalizing a with
  | nil => exact h.resolve_left (by simp)
  | cons x l ih =>
    refine ih ?_
    obtain h | h := h
    · obtain rfl | h := List.mem_cons.mp h
      · exact .inr (Nat.min_le_right _ _)
      · exact .inl h
    · exact .inr (Nat.le_trans (Nat.min_le_left _ _) h)

/-- Without a lease in force the cap is at most 18 kW (R595). -/
theorem State.powerCap_of_shed (h : s.power.shed = true) : s.powerCap ≤ 18000 := by
  have hleased : s.leased = false := by simp [leased, h]
  refine foldl_min_le (.inl ?_)
  unfold capTerms
  simp [hleased]

theorem shedAssert_gives (h : s.num o0ShedInput ≠ 1) : Gives (exec .shedAssert s) (fun t => t.num o0ShedInput = 1 ∧
    t.num o0ShedEvents = (s.num o0ShedEvents + 1) % 2 ^ 64 ∧ t.power.shed = true ∧ t.powerCap ≤ 18000) := by
  let u := ((s.setNum o0ShedInput 1).addNum o0ShedEvents 1).modPower (fun x => { x with shed := true })
  have hexec : exec .shedAssert s = .next (u.endBoost 5) := by
    show execShedAssert s = _
    rw [execShedAssert, if_neg h]
  have hevents : u.num o0ShedEvents = (s.num o0ShedEvents + 1) % 2 ^ 64 := by
    show ((s.setNum o0ShedInput 1).addNum o0ShedEvents 1).num o0ShedEvents = _
    rw [State.num_addNum, if_pos rfl, State.num_setNum_ne _ _ (by decide)]
  have hinput : u.num o0ShedInput = 1 := by
    show ((s.setNum o0ShedInput 1).addNum o0ShedEvents 1).num o0ShedInput = _
    rw [State.num_addNum, if_neg (by decide), State.num_setNum_same]
  have hshed : u.power.shed = true := rfl
  rw [hexec]
  clear_value u
  obtain ⟨d, hd⟩ := u.endBoost_onlyDict 5
  have hshed' : (u.endBoost 5).power.shed = true := by rw [hd]; exact hshed
  exact ⟨_, rfl, (u.num_endBoost 5 (by decide)).trans hinput, (u.num_endBoost 5 (by decide)).trans hevents, hshed',
    State.powerCap_of_shed hshed'⟩

theorem boostTimeout_gives {why : Nat} (hrun : s.num o8BoostState = 1) (hwhy : why ≤ 1) :
    Gives (exec (.boostTimeout why) s) (fun t => t.num o8BoostState = 2 ∧ t.power = s.power) := by
  obtain ⟨d, hd⟩ := s.endBoost_onlyDict why
  refine ⟨s.endBoost why, ?_, s.num_endBoost_running why hrun, by rw [hd]⟩
  show Host.Outcome.next (when' (why ≤ 1) s (s.endBoost why)) = _
  rw [when'_true (by simpa using hwhy)]

/-! ### The governor -/

/-- The regions' metering of a microsecond. -/
def State.metered (s : State) (watts : List Nat) : State :=
  (List.range 12).foldl (fun s r => s.meter watts r) (s.modPower (fun x => { x with upStep := false }))

/-- The plane's power, as the regions' inputs sum it. -/
def State.planeWatts (s : State) : Nat := ((List.range 12).map (fun r => (s.region r).lastW)).sum

/-- The governor's samples of a microsecond. -/
def State.sampled (s : State) (aux : Nat) : State :=
  s.modPower (fun x => { x with
    samples := ((s.power.feedW.1 + s.power.feedW.2) :: x.samples).take 1000, auxSamples := (aux :: x.auxSamples).take 1000
    aux := x.aux + BitVec.ofNat 64 (aux * 1000) })

/-- A boost begins where the mean of the newest 1,000 samples asks for one. -/
def State.boostBegun (s : State) : State :=
  if s.boostPermitted && meanAbove s.power.samples 1000 100 26000 then (s.setNum o8BoostState 1).addNum o8Boosts 1 else s

/-- The governor's decisions from the samples. -/
def State.governed (s : State) (l : List Nat) (slot : Bool) : State :=
  let cap := s.powerCap
  let low := if meanBelow l 10 97 cap then s.power.lowUs + 1 else 0
  let d := s.power.limitD
  let d' := if slot && meanAbove l 10 100 cap then min 256 (d + 1)
    else if slot && 1000 ≤ low then max (dividerFor (s.num o0FabricMhzCeiling)) (d - 1) else d
  s.modPower (fun x => { x with halted := meanAbove l 10 105 cap, lowUs := min 1000 low, limitD := d' })

/-- The input powers that the dictionary shows. -/
def State.powersShown (s : State) (l : List Nat) : State :=
  (s.setNum (o8InputPowerW 12) (f32Word ⟨l.sum, l.length⟩)).setNum (o8InputPowerW 13)
    (f32Word ⟨s.power.auxSamples.sum, s.power.auxSamples.length⟩)

/-- A microsecond of the governor, from the samples on. -/
def State.decided (s : State) (slot : Bool) : State := (s.boostBegun.governed s.power.samples slot).powersShown s.power.samples

theorem execGovernorTick_eq (watts : List Nat) (aux : Nat) (slot : Bool) (s : State) : exec (.governorTick watts aux slot) s =
    .next ((((s.metered watts).sampleFeeds (s.metered watts).planeWatts).sampled aux).decided slot) := by
  show execGovernorTick watts aux slot s = _
  unfold execGovernorTick
  extract_lets m s0 p s1
  exact congrArg Host.Outcome.next (show _ = s1.decided slot from rfl)

/-! ### The feeds -/

/-- What feed A gives of the plane's power `p`: all of it or none where one feed supplies, else from `k` between the bounds that
`most` sets. -/
def feedShare (feeds p most k : Nat) : Nat :=
  match feeds % 4 with
  | 1 => p
  | 2 => 0
  | _ => (p - most) + k % (2 * most - p + 1)

theorem feedShare_le (feeds p k : Nat) {most : Nat} (hm : most = p ∨ most = 55 * p / 100) : feedShare feeds p most k ≤ p := by
  have hk := Nat.mod_lt k (show 0 < 2 * most - p + 1 by omega)
  unfold feedShare
  generalize k % (2 * most - p + 1) = j at hk
  split
  · exact Nat.le_refl p
  · exact Nat.zero_le p
  · omega

/-- With both feeds high neither carries more than 55 % (R736). -/
theorem feedShare_balanced {p : Nat} (hp : 10 ≤ p) (k : Nat) : 100 * feedShare 3 p (55 * p / 100) k ≤ 55 * p ∧
    100 * (p - feedShare 3 p (55 * p / 100) k) ≤ 55 * p := by
  have hk := Nat.mod_lt k (show 0 < 2 * (55 * p / 100) - p + 1 by omega)
  show 100 * ((p - 55 * p / 100) + k % (2 * (55 * p / 100) - p + 1)) ≤ 55 * p ∧
    100 * (p - ((p - 55 * p / 100) + k % (2 * (55 * p / 100) - p + 1))) ≤ 55 * p
  generalize k % (2 * (55 * p / 100) - p + 1) = j at hk
  omega

/-- The feeds' samples: only the free values, the measured voltages and the shares change. -/
theorem State.sampleFeeds_leaves (s : State) (p : Nat) : ∃ a free d,
    s.sampleFeeds p = { s with free := free, dict := d, power := { s.power with feedW := (a, p - a) } } ∧
      (∀ key, (s.sampleFeeds p).num key = s.num key) ∧ a ≤ p ∧ (s.num o8FeedsOk = 1 → a = p) ∧ (s.num o8FeedsOk = 2 → a = 0) ∧
      (s.num o8FeedsOk = 3 → (s.sampleFeeds p).feedsHigh = true → 10 ≤ p → 100 * a ≤ 55 * p ∧ 100 * (p - a) ≤ 55 * p) := by
  let t := (s.measureFeed false).measureFeed true
  let most := if t.feedsHigh then 55 * p / 100 else p
  let a := feedShare (t.num o8FeedsOk) p most (Config.freeNat t.draw.1)
  have hnum : t.num o8FeedsOk = s.num o8FeedsOk := rfl
  have heq : s.sampleFeeds p = t.draw.2.modPower (fun x => { x with feedW := (a, p - a) }) := rfl
  have hhigh : (s.sampleFeeds p).feedsHigh = t.feedsHigh := rfl
  have hmost : most = p ∨ most = 55 * p / 100 := by
    by_cases h : t.feedsHigh = true
    · exact .inr (if_pos h)
    · exact .inl (if_neg h)
  refine ⟨a, _, _, heq, fun _ => rfl, feedShare_le _ p _ hmost, fun h => ?_, fun h => ?_, fun h hh hp => ?_⟩
  · show feedShare (t.num o8FeedsOk) p most (Config.freeNat t.draw.1) = p
    rw [hnum, h]
    rfl
  · show feedShare (t.num o8FeedsOk) p most (Config.freeNat t.draw.1) = 0
    rw [hnum, h]
    rfl
  · have ha : a = feedShare 3 p (55 * p / 100) (Config.freeNat t.draw.1) := by
      show feedShare (t.num o8FeedsOk) p most (Config.freeNat t.draw.1) = _
      rw [hnum, h, show most = 55 * p / 100 from if_pos (hhigh.symm.trans hh)]
    rw [ha]
    exact feedShare_balanced hp _

/-! ### The cap -/

/-- The cap reads neither the input powers shown nor the governor's own decisions. -/
theorem State.powerCap_congr (hnum : ∀ key, key % 65536 ≠ 0x0B00 → t.num key = s.num key) (hregions : t.regions = s.regions)
    (hshed : t.power.shed = s.power.shed) (hstate : t.power.leaseState = s.power.leaseState) (hgrant : t.power.grant = s.power.grant)
    (hboost : t.power.boost = s.power.boost) (houtlet : t.power.outlet = s.power.outlet) : t.powerCap = s.powerCap := by
  have hregion : ∀ r, t.region r = s.region r := fun r => by rw [region, region, hregions]
  have hstates : ∀ r, t.num (o1RegionState r) = s.num (o1RegionState r) :=
    fun r => hnum _ (by rw [o1RegionState, okey_mod _ _ (by decide)]; decide)
  have hbulk : ∀ r, t.num (o8BulkReservePct r) = s.num (o8BulkReservePct r) :=
    fun r => hnum _ (by rw [o8BulkReservePct, okey_mod _ _ (by decide)]; decide)
  have hleased : t.leased = s.leased := by rw [leased, leased, hshed, hstate]
  have hbarred : t.boostBarred = s.boostBarred := by
    simp only [boostBarred, hregion, hstates, hbulk, hleased, houtlet, hboost, hnum o8FeedsOk (by decide)]
  have hceiling : t.boostCeiling = s.boostCeiling := by
    have hwear : t.wearS = s.wearS := funext fun r => by rw [wearS, wearS, hregion]
    simp only [boostCeiling, hstates, hwear]
  have hpermitted : t.boostPermitted = s.boostPermitted := by
    simp only [boostPermitted, boostLicence, hbarred, hceiling, hnum o8BoostState (by decide), hnum o7Features (by decide)]
  simp only [powerCap, capTerms, hpermitted, hceiling, hleased, hgrant, hboost, hnum o8BoostState (by decide),
    hnum o8FeedsOk (by decide), hnum o8CoolantTermW (by decide), hnum o8PowerCeilingW (by decide)]

/-! ### A tick -/

theorem State.metered_leaves (s : State) (watts : List Nat) : (s.metered watts).power = { s.power with upStep := false } ∧
    (s.metered watts).dict = s.dict ∧ (s.metered watts).cores = s.cores ∧ (s.metered watts).net = s.net := by
  refine foldl_pred (P := fun t : State => t.power = { s.power with upStep := false } ∧ t.dict = s.dict ∧ t.cores = s.cores ∧
    t.net = s.net) ?_ _ ⟨rfl, rfl, rfl, rfl⟩
  intro t r h
  exact h

theorem State.boostBegun_onlyDict (s : State) : s.OnlyDict s.boostBegun ∧ s.boostBegun.num o8FeedsOk = s.num o8FeedsOk ∧
    s.boostBegun.dict.blobs = s.dict.blobs := by
  unfold boostBegun
  split
  · refine ⟨(OnlyDict.setNum s _ _).trans (.addNum _ _ _), ?_, rfl⟩
    rw [num_addNum, if_neg (by decide), num_setNum_ne _ _ (by decide)]
  · exact ⟨.refl s, rfl, rfl⟩

theorem State.governed_leaves (s : State) (l : List Nat) (slot : Bool) : ∃ low d, s.governed l slot =
    { s with power := { s.power with halted := meanAbove l 10 105 s.powerCap, lowUs := low, limitD := d } } ∧
      (slot = false → d = s.power.limitD) := by
  refine ⟨_, _, rfl, ?_⟩
  intro h
  subst h
  simp

theorem State.powersShown_leaves (s : State) (l : List Nat) : s.OnlyDict (s.powersShown l) ∧
    (∀ key, key % 65536 ≠ 0x0B00 → (s.powersShown l).num key = s.num key) ∧ (s.powersShown l).dict.blobs = s.dict.blobs := by
  refine ⟨(OnlyDict.setNum s _ _).trans (.setNum _ _ _), fun key hk => ?_, rfl⟩
  unfold powersShown o8InputPowerW
  rw [num_setNum_other _ _ _ (by decide) _ hk, num_setNum_other _ _ _ (by decide) _ hk]

/-- What the governor's decisions leave. -/
theorem State.decided_leaves (s : State) (slot : Bool) :
    (s.decided slot).power.halted = meanAbove (s.decided slot).power.samples 10 105 (s.decided slot).powerCap ∧
      (s.decided slot).power.samples = s.power.samples ∧ (s.decided slot).power.upStep = s.power.upStep ∧
      (s.decided slot).power.feedW = s.power.feedW ∧ (slot = false → (s.decided slot).power.limitD = s.power.limitD) ∧
      (s.decided slot).regions = s.regions ∧ (s.decided slot).cores = s.cores ∧ (s.decided slot).net = s.net ∧
      (s.decided slot).dict.blobs = s.dict.blobs := by
  obtain ⟨⟨d, hd⟩, -, hblobs⟩ := s.boostBegun_onlyDict
  obtain ⟨low, lim, hgov, hlim⟩ := s.boostBegun.governed_leaves s.power.samples slot
  obtain ⟨⟨d', hd'⟩, hnum, hblobs'⟩ := (s.boostBegun.governed s.power.samples slot).powersShown_leaves s.power.samples
  have hpower : s.boostBegun.power = s.power := by rw [hd]
  have hcap : (s.decided slot).powerCap = s.boostBegun.powerCap :=
    powerCap_congr (fun key hk => (hnum key hk).trans (by rw [hgov]; rfl)) (by rw [decided, hd', hgov]) (by rw [decided, hd', hgov])
      (by rw [decided, hd', hgov]) (by rw [decided, hd', hgov]) (by rw [decided, hd', hgov]) (by rw [decided, hd', hgov])
  have hfinal : (s.decided slot).power =
      { s.power with halted := meanAbove s.power.samples 10 105 s.boostBegun.powerCap, lowUs := low, limitD := lim } := by
    rw [decided, hd', hgov, hpower]
  rw [hcap, hfinal]
  refine ⟨rfl, rfl, rfl, rfl, fun h => (hlim h).trans (by rw [hpower]), ?_, ?_, ?_, ?_⟩
  · rw [decided, hd', hgov, hd]
  · rw [decided, hd', hgov, hd]
  · rw [decided, hd', hgov, hd]
  · rw [decided, hblobs', hgov, hblobs]

theorem governorTick_gives (watts : List Nat) (aux : Nat) (slot : Bool) (s : State) :
    Gives (exec (.governorTick watts aux slot) s) (fun t =>
      t.power.halted = meanAbove t.power.samples 10 105 t.powerCap ∧ t.power.upStep = false ∧
      t.power.samples = (t.planeWatts :: s.power.samples).take 1000 ∧
      t.power.feedW.1 + t.power.feedW.2 = t.planeWatts ∧
      (s.num o8FeedsOk = 1 → t.power.feedW.2 = 0) ∧ (s.num o8FeedsOk = 2 → t.power.feedW.1 = 0) ∧
      (s.num o8FeedsOk = 3 → t.feedsHigh = true → 10 ≤ t.planeWatts →
        100 * t.power.feedW.1 ≤ 55 * t.planeWatts ∧ 100 * t.power.feedW.2 ≤ 55 * t.planeWatts) ∧
      (slot = false → t.power.limitD = s.power.limitD) ∧ t.cores = s.cores ∧ t.net = s.net) := by
  obtain ⟨hmp, hmd, hmc, hmn⟩ := s.metered_leaves watts
  rw [execGovernorTick_eq]
  generalize s.metered watts = m at hmp hmd hmc hmn
  have hok : m.num o8FeedsOk = s.num o8FeedsOk := State.num_of_dict s hmd _
  obtain ⟨a, free, d, heq, hnum, hap, h1, h2, h3⟩ := m.sampleFeeds_leaves m.planeWatts
  rw [hok] at h1 h2 h3
  have hfeed : (m.sampleFeeds m.planeWatts).power = { s.power with upStep := false, feedW := (a, m.planeWatts - a) } := by
    rw [heq, hmp]
  have hkeep : (m.sampleFeeds m.planeWatts).regions = m.regions ∧ (m.sampleFeeds m.planeWatts).cores = s.cores ∧
      (m.sampleFeeds m.planeWatts).net = s.net := by
    rw [heq]
    exact ⟨rfl, hmc, hmn⟩
  generalize m.sampleFeeds m.planeWatts = u at hfeed hkeep h3
  have hsampled : (u.sampled aux).power.samples = (m.planeWatts :: s.power.samples).take 1000 := by
    show ((u.power.feedW.1 + u.power.feedW.2) :: u.power.samples).take 1000 = _
    rw [hfeed]
    show ((a + (m.planeWatts - a)) :: s.power.samples).take 1000 = _
    rw [Nat.add_sub_cancel' hap]
  have hlimit : u.power.limitD = s.power.limitD := by rw [hfeed]
  obtain ⟨hhalt, hsamples, hup, hw, hlim, hregions, hcores, hnet, hblobs⟩ := (u.sampled aux).decided_leaves slot
  have hplane : ((u.sampled aux).decided slot).planeWatts = m.planeWatts := by
    simp only [State.planeWatts, State.region, hregions]
    show ((List.range 12).map (fun r => (u.regions.get RegionSt.reset r).lastW)).sum = _
    rw [hkeep.1]
  have hshare : ((u.sampled aux).decided slot).power.feedW = (a, m.planeWatts - a) := hw.trans (congrArg Power.feedW hfeed)
  have hhigh : ((u.sampled aux).decided slot).feedsHigh = u.feedsHigh := by
    simp only [State.feedsHigh, State.blob, hblobs]
    rfl
  refine ⟨_, rfl, hhalt, hup.trans (congrArg Power.upStep hfeed), hsamples.trans ?_, ?_, fun h => ?_, fun h => ?_, fun h hh hp => ?_,
    fun h => (hlim h).trans hlimit, hcores.trans hkeep.2.1, hnet.trans hkeep.2.2⟩
  · rw [hplane, hsampled]
  · rw [hplane, hshare]
    exact Nat.add_sub_cancel' hap
  · rw [hshare, h1 h]
    exact Nat.sub_self _
  · rw [hshare, h2 h]
  · rw [hplane] at hp ⊢
    rw [hshare]
    exact h3 h (hhigh.symm.trans hh) hp

end Sys2Proof.Machine

open Sys2Proof Sys2Proof.Machine

/-- Settles O52: permits and the lease are branches of their commands, and a governor's tick is metering, the feeds' samples and the
decisions, whose cap does not read what they change. -/
theorem permitsAndLease : Obligations.PermitsAndLease := by
  unfold Obligations.PermitsAndLease
  intro s c r waited aux why watts slot data when_ rest k x g b ms next
  refine ⟨fun hc hk => execKindle_gives hc hk, fun hr hf hk hs hp hh hl => kindlePermitGrant_gives hr hf hk hs hp hh hl,
    fun hr hu => permitRefill_gives hr hu, fun hr hu => permitRefill_held hr hu, governorTick_gives watts aux slot s,
    fun hl h1 h2 hb h3 h4 => leaseGrant_gives hl h1 h2 hb h3 h4, fun hl h => leaseGrant_refused hl h,
    fun h => leaseTick_gives h, fun h => shedAssert_gives h, ⟨_, rfl, State.num_setNum_same _ _ _, rfl⟩,
    fun h hw => boostTimeout_gives h hw, fun h => ?_⟩
  show Host.Outcome.next (when' (s.num o8BoostState = 2) s (s.setNum o8BoostState 0)) = _
  rw [when'_true (by simpa using h)]
end

section
/-! SUPPORT. Received Ethernet frames and the answers of an interface (R465 to R482, R517, R518). -/

namespace Sys2Proof.Machine

variable {s : State} {n : Nat} {fr : Frame} {i : Iface}

/-! ### Received frames -/

theorem execFrameReceive_long (hn : n < 24) (hup : s.portDown n = false) (hlen : 9216 < fr.len) :
    exec (.frameReceive n fr) s = .next (s.dropFrame n 1) := by
  show execFrameReceive n fr s = _
  rw [execFrameReceive, onPort_eq hn, if_neg (by simp [hup]), if_pos hlen]

theorem execFrameReceive_broken (hn : n < 24) (hup : s.portDown n = false) (hlen : fr.len ≤ 9216)
    (hbad : fr.len < 64 ∨ fr.fcsOk = false) : exec (.frameReceive n fr) s = .next (s.dropFrame n 2) := by
  show execFrameReceive n fr s = _
  rw [execFrameReceive, onPort_eq hn, if_neg (by simp [hup]), if_neg (by omega), if_pos (by simpa using hbad)]

/-- What a port does with a frame of a good length and check. -/
theorem execFrameReceive_whole (hn : n < 24) (hup : s.portDown n = false) (h1 : 64 ≤ fr.len) (h2 : fr.len ≤ 9216)
    (hfcs : fr.fcsOk = true) : exec (.frameReceive n fr) s = .next (if fr.body = .pause then s.addNum (o4PauseIgnored n) 1 else
      let inb := s.inbandFrame n fr
      let vid := match fr.tag with | some v => !inb && !s.inbandAsk n fr && !s.vidUsed n v.toNat | none => false
      if !s.frameForMe n fr then s.dropFrame n 0
      else if vid then s.dropFrame n 7
      else
        match s.bodyDrop n inb fr.body with
        | some r => s.dropFrame n r
        | none => if inb then s.passInband n fr.body else s.addNum (o4FramesRx n) 1) := by
  show execFrameReceive n fr s = _
  rw [execFrameReceive, onPort_eq hn, if_neg (by simp [hup]), if_neg (by omega), if_neg (by simp [hfcs]; omega)] <;> rfl

theorem execFrameReceive_pause (hn : n < 24) (hup : s.portDown n = false) (h1 : 64 ≤ fr.len) (h2 : fr.len ≤ 9216)
    (hfcs : fr.fcsOk = true) (hpause : fr.body = .pause) :
    exec (.frameReceive n fr) s = .next (s.addNum (o4PauseIgnored n) 1) := by
  rw [execFrameReceive_whole hn hup h1 h2 hfcs, if_pos hpause]

theorem execFrameReceive_notMine (hn : n < 24) (hup : s.portDown n = false) (h1 : 64 ≤ fr.len) (h2 : fr.len ≤ 9216)
    (hfcs : fr.fcsOk = true) (hpause : fr.body ≠ .pause) (hme : s.frameForMe n fr = false) :
    exec (.frameReceive n fr) s = .next (s.dropFrame n 0) := by
  rw [execFrameReceive_whole hn hup h1 h2 hfcs, if_neg hpause]
  dsimp only
  rw [if_pos (by simp [hme])]

theorem execFrameReceive_taken (hn : n < 24) (hup : s.portDown n = false) (h1 : 64 ≤ fr.len) (h2 : fr.len ≤ 9216)
    (hfcs : fr.fcsOk = true) (hpause : fr.body ≠ .pause) (hme : s.frameForMe n fr = true) (htag : fr.tag = none)
    (hbody : s.bodyDrop n false fr.body = none) : exec (.frameReceive n fr) s = .next (s.addNum (o4FramesRx n) 1) := by
  have hinband : s.inbandFrame n fr = false := by simp [State.inbandFrame, State.inbandTag, htag]
  rw [execFrameReceive_whole hn hup h1 h2 hfcs, if_neg hpause]
  dsimp only
  rw [if_neg (by simp [hme]), htag, if_neg (by simp), hinband, hbody]
  rfl

/-! ### Answers -/

theorem onIfc_eq (hi : ifcExists i = true) (f : State → State) : onIfc i s f = .next (f s) := if_pos hi

theorem execArpRequest_answered {mac : BitVec 48} {ip t : BitVec 32} (hi : ifcExists i = true) (hup : s.ifcUp i = true) (h0 : t ≠ 0)
    (hown : t.toNat = s.ifcV4 i) : exec (.arpRequest i mac ip t) s = .next (s.emit ⟨ifcVia i, 2, mac.toNat,
        beBytes 6 (s.ifcMac i) ++ beBytes 4 t.toNat ++ beBytes 6 mac.toNat ++ beBytes 4 ip.toNat, none,
        etherFrame mac.toNat (s.ifcMac i) (s.ifcTag i) 0x0806 (arpReply (s.ifcMac i) t.toNat mac.toNat ip.toNat)⟩) := by
  show execArpRequest i mac ip t s = _
  rw [execArpRequest, onIfc_eq hi, when'_true (by simp only [hup, hown]; simpa using h0)]

theorem execArpRequest_ignored {mac : BitVec 48} {ip t : BitVec 32} (hi : ifcExists i = true) (hother : t.toNat ≠ s.ifcV4 i) :
    exec (.arpRequest i mac ip t) s = .next s := by
  show execArpRequest i mac ip t s = _
  rw [execArpRequest, onIfc_eq hi, when'_false (by simp [hother])]

theorem execNeighbourSolicitation_answered {mac : BitVec 48} {ip t : BitVec 128} (hi : ifcExists i = true) (hup : s.ifcUp i = true)
    (h0 : t ≠ 0) (hown : (s.ifcV6 i).contains t.toNat = true) :
    let told := beBytes 16 t.toNat ++ beBytes 6 (s.ifcMac i) ++ beBytes 16 ip.toNat
    let d := s.answerTo i mac.toNat true t.toNat ip.toNat told
    exec (.neighbourSolicitation i mac ip t) s =
      .next (s.draw.2.emitIp (ifcVia i) 3 mac.toNat (s.ifcMac i) told (d.advertisement t.toNat (s.ifcMac i)) d) := by
  intro told d
  show execNeighbourSolicitation i mac ip t s = _
  rw [execNeighbourSolicitation, onIfc_eq hi]
  exact congrArg Host.Outcome.next (when'_true (by simp only [hup, hown]; simpa using h0))

/-- Whether an address is one of an interface's. -/
def State.OwnAddress (s : State) (i : Iface) (v6 : Bool) (dst : Nat) : Prop :=
  if v6 = true then (s.ifcV6 i).contains dst = true else dst = s.ifcV4 i

theorem execEchoRequest_eq {mac : BitVec 48} {v6 : Bool} {src dst : BitVec 128} {data : List Byte} (hi : ifcExists i = true) :
    let mine : Bool := if v6 then (s.ifcV6 i).contains dst.toNat else dst.toNat = s.ifcV4 i
    let w := if v6 then 16 else 4
    let d := s.answerTo i mac.toNat v6 dst.toNat src.toNat data
    exec (.echoRequest i mac v6 src dst data) s = .next (when' (s.ifcUp i && dst ≠ 0 && mine && echoes i) s
      (s.draw.2.emitIp (ifcVia i) 4 mac.toNat (s.ifcMac i) (beBytes w dst.toNat ++ beBytes w src.toNat ++ data) (d.echo data) d)) := by
  show execEchoRequest i mac v6 src dst data s = _
  rw [execEchoRequest, onIfc_eq hi]

theorem execEchoRequest_answered {mac : BitVec 48} {v6 : Bool} {src dst : BitVec 128} {data : List Byte} (hi : ifcExists i = true)
    (hup : s.ifcUp i = true) (h0 : dst ≠ 0) (hmine : s.OwnAddress i v6 dst.toNat) (hecho : echoes i = true) :
    let w := if v6 then 16 else 4
    let d := s.answerTo i mac.toNat v6 dst.toNat src.toNat data
    exec (.echoRequest i mac v6 src dst data) s = .next
      (s.draw.2.emitIp (ifcVia i) 4 mac.toNat (s.ifcMac i) (beBytes w dst.toNat ++ beBytes w src.toNat ++ data) (d.echo data) d) := by
  intro w d
  have hown : (if v6 then (s.ifcV6 i).contains dst.toNat else decide (dst.toNat = s.ifcV4 i)) = true := by
    cases v6
    · simpa [State.OwnAddress] using hmine
    · simpa [State.OwnAddress] using hmine
  rw [execEchoRequest_eq hi]
  exact congrArg Host.Outcome.next (when'_true (by rw [hup, hown, hecho]; simpa using h0))

theorem execEchoRequest_discarded {mac : BitVec 48} {v6 : Bool} {src dst : BitVec 128} {data : List Byte} (hi : ifcExists i = true)
    (hecho : echoes i = false) : exec (.echoRequest i mac v6 src dst data) s = .next s := by
  rw [execEchoRequest_eq hi]
  exact congrArg Host.Outcome.next (when'_false (by rw [hecho, Bool.and_false]))

/-- What a port's answer carries (R482). -/
theorem State.answerTo_port (s : State) {mac : Nat} {v6 : Bool} {own src : Nat} {data : List Byte}
    (hi : i = .port n ∨ i = .inband n) : (s.answerTo i mac v6 own src data).dscp = s.num (o4HwtDscp n) ∧
      (s.answerTo i mac v6 own src data).ttl = 64 ∧ (s.answerTo i mac v6 own src data).df = !v6 ∧
      (s.answerTo i mac v6 own src data).tag = s.ifcTag i ∧ (s.answerTo i mac v6 own src data).ecn = 0 := by
  obtain rfl | rfl := hi
  · exact ⟨rfl, rfl, rfl, rfl, rfl⟩
  · exact ⟨rfl, rfl, rfl, rfl, rfl⟩

end Sys2Proof.Machine

open Sys2Proof Sys2Proof.Machine

/-- Settles O48: a received frame takes one branch of the port's checks, and an interface answers where `when'` says that the target
is its own. -/
theorem framesAndAnswers : Obligations.FramesAndAnswers := by
  unfold Obligations.FramesAndAnswers
  intro s n fr i mac ip4 t4 ip6 t6 v6 data up from_ good got mine w told
  refine ⟨fun ⟨hn, hup⟩ hl => execFrameReceive_long hn hup hl, fun ⟨hn, hup⟩ hl hb => execFrameReceive_broken hn hup hl hb,
    fun ⟨hn, hup⟩ h1 h2 hf hp => execFrameReceive_pause hn hup h1 h2 hf hp,
    fun ⟨hn, hup⟩ ⟨h1, h2, hf, hp⟩ hm => execFrameReceive_notMine hn hup h1 h2 hf hp hm,
    fun ⟨hn, hup⟩ ⟨h1, h2, hf, hp⟩ hm ht hb => execFrameReceive_taken hn hup h1 h2 hf hp hm ht hb,
    fun hi hup h0 hown => execArpRequest_answered hi hup h0 hown, fun hi ho => execArpRequest_ignored hi ho,
    fun hi hup h0 hown => execNeighbourSolicitation_answered hi hup h0 hown,
    fun hi hup h0 hm he => execEchoRequest_answered hi hup h0 hm he, fun hi he => execEchoRequest_discarded hi he,
    fun hi => s.answerTo_port hi⟩
end

section
/-! SUPPORT. What the engines of the module change of a port: the DRAM's reads and writes nothing, and what a port sends only its
associations and its streams (R461, R488, R496, R497). -/

namespace Sys2Proof.Machine

variable {s t u : State}

/-! ### The DRAM leaves the ports -/

theorem State.rewriteMap_ports (s : State) (f : Nat) (g : FieldSt → FieldSt) : (s.rewriteMap f g).ports = s.ports := by
  obtain ⟨fields, he⟩ := s.rewriteMap_eq_with_fields f g
  rw [he]

theorem State.faultPart_ports (s : State) (p : Nat) : (s.faultPart p).ports = s.ports := by
  unfold faultPart
  split <;> rfl

theorem State.softFuse_ports (s : State) (f kind loc cause : Nat) : (s.softFuse f kind loc cause).ports = s.ports :=
  rewriteMap_ports s f _

theorem State.rowFuse_ports (s : State) (key : Nat) : (s.rowFuse key).ports = s.ports := by
  unfold rowFuse
  split
  · exact softFuse_ports s _ _ _ _
  · split <;> rfl

theorem State.lineError_ports (s : State) (line off : Nat) : (s.lineError line off).ports = s.ports := by
  unfold lineError
  dsimp only
  rw [rowFuse_ports]
  rfl

theorem State.correct_ports (s : State) (lines : List Nat) (off : Nat) : (s.correct lines off).ports = s.ports := by
  unfold correct
  split <;> rfl

theorem State.dramRead_ports (s : State) (key n : Nat) : (s.dramRead key n).1.ports = s.ports := by
  unfold dramRead
  dsimp only
  split
  · exact foldl_pred (P := fun t : State => t.ports = s.ports) (fun t l h => (lineError_ports t l _).trans h) _ (correct_ports s _ _)
  · exact correct_ports s _ _

theorem State.dramLine_ports (s : State) (key : Nat) (d : List Byte) (line : Nat) : (s.dramLine key d line).1.ports = s.ports := by
  unfold dramLine
  dsimp only
  split
  · rfl
  · split
    · exact lineError_ports s _ _
    · exact correct_ports s _ _

theorem State.dramLines_ports (s : State) (key : Nat) (d : List Byte) (lines : List Nat) (ok : Bool) :
    (s.dramLines key d lines ok).1.ports = s.ports := by
  induction lines generalizing s ok with
  | nil => rfl
  | cons l r ih => exact (ih _ _).trans (dramLine_ports s key d l)

theorem State.channelDown_ports (s : State) (key : Nat) : (s.channelDown key).ports = s.ports := by
  unfold channelDown
  dsimp only
  split
  · rfl
  · exact faultPart_ports _ _

theorem State.engineRead_ports (s : State) (key n : Nat) : (s.engineRead key n).1.ports = s.ports := by
  unfold engineRead
  split
  · exact channelDown_ports s key
  · exact dramRead_ports s key n

theorem State.gaRead_ports (s : State) (a n : Nat) : (s.gaRead a n).1.ports = s.ports := by
  unfold gaRead
  refine foldl_pred (P := fun x : State × List Byte => x.1.ports = s.ports) ?_ _ rfl
  intro x p h
  dsimp only
  split
  · exact (engineRead_ports _ _ _).trans h
  · exact (engineRead_ports _ _ _).trans h

theorem State.gaWrite_ports (s : State) (a : Nat) (d : List Byte) : (s.gaWrite a d).ports = s.ports := by
  unfold gaWrite
  refine foldl_pred (P := fun t : State => t.ports = s.ports) ?_ _ rfl
  intro t p h
  dsimp only
  split
  · exact (channelDown_ports t _).trans h
  · exact (dramLines_ports t _ _ _ _).trans h

/-! ### Ports whose streams were swept -/

/-- `y` is `x` but for its streams and its page pool. -/
def PortSt.Swept (x y : PortSt) : Prop := ∃ streams saved changed leaving pushAt, y =
  { x with streams := streams, saved := saved, changed := changed, leaving := leaving, pushAt := pushAt }

/-- `y` is `x` but for what a port sends: its associations, their turn, its streams and its page pool. -/
def PortSt.Served (x y : PortSt) : Prop := ∃ assocs turn streams saved changed leaving pushAt, y =
  { x with assocs := assocs, turn := turn, streams := streams, saved := saved, changed := changed, leaving := leaving
           pushAt := pushAt }

theorem PortSt.Swept.refl (x : PortSt) : x.Swept x := ⟨_, _, _, _, _, rfl⟩

theorem PortSt.Swept.trans {x y z : PortSt} (h : x.Swept y) (h' : y.Swept z) : x.Swept z := by
  obtain ⟨_, _, _, _, _, rfl⟩ := h
  obtain ⟨_, _, _, _, _, rfl⟩ := h'
  exact ⟨_, _, _, _, _, rfl⟩

theorem PortSt.Served.refl (x : PortSt) : x.Served x := ⟨_, _, _, _, _, _, _, rfl⟩

theorem PortSt.Served.trans {x y z : PortSt} (h : x.Served y) (h' : y.Served z) : x.Served z := by
  obtain ⟨_, _, _, _, _, _, _, rfl⟩ := h
  obtain ⟨_, _, _, _, _, _, _, rfl⟩ := h'
  exact ⟨_, _, _, _, _, _, _, rfl⟩

theorem PortSt.Swept.served {x y : PortSt} (h : x.Swept y) : x.Served y := by
  obtain ⟨_, _, _, _, _, rfl⟩ := h
  exact ⟨_, _, _, _, _, _, _, rfl⟩

theorem PortSt.Swept.assoc {x y : PortSt} (h : x.Swept y) (a : Nat) : y.assoc a = x.assoc a := by
  obtain ⟨_, _, _, _, _, rfl⟩ := h
  rfl

theorem State.port_modPort_ne (s : State) {n m : Nat} (g : PortSt → PortSt) (h : m ≠ n) : (s.modPort n g).port m = s.port m :=
  port_setPort_ne s _ h

theorem State.port_of_ports (h : t.ports = s.ports) (j : Nat) : t.port j = s.port j := by
  rw [port, port, h]

/-- A relation that every port keeps to itself is kept by an update of one port. -/
theorem State.port_modPort_rel {Q : PortSt → PortSt → Prop} (hrefl : ∀ x, Q x x) {n : Nat} {g : PortSt → PortSt}
    (hg : Q (s.port n) (g (s.port n))) (j : Nat) : Q (s.port j) ((s.modPort n g).port j) := by
  by_cases h : j = n
  · subst h
    rw [port_modPort_same]
    exact hg
  · rw [port_modPort_ne s g h]
    exact hrefl _

theorem State.pushPage_swept (s : State) (n a j : Nat) : (s.port j).Swept ((s.pushPage n a).port j) := by
  unfold pushPage
  dsimp only
  split
  · exact .refl _
  · have hports := port_of_ports (gaWrite_ports s (s.num (o4PoolBase n) + 8 * (s.port n).pushAt) (leBytes 8 a)) j
    rw [port_setNum, ← hports]
    exact port_modPort_rel PortSt.Swept.refl ⟨_, _, _, _, _, rfl⟩ j

theorem State.unmapPages_swept (s : State) (n : Nat) (e : StreamEntry) (j : Nat) : (s.port j).Swept ((s.unmapPages n e).port j) := by
  unfold unmapPages
  refine foldl_pred (P := fun t : State => (s.port j).Swept (t.port j)) ?_ _ (.refl _)
  intro t i h
  dsimp only
  rw [port_of_ports (gaWrite_ports _ _ _)]
  refine h.trans ?_
  rw [← port_of_ports (gaRead_ports t (e.kvRoot + 8 * i) 8)]
  exact pushPage_swept _ _ _ _

theorem State.sweep_swept (s : State) (n j : Nat) : (s.port j).Swept ((s.sweep n).port j) := by
  unfold sweep
  dsimp only
  split
  · exact .refl _
  · exact (foldl_pred (P := fun t : State => (s.port j).Swept (t.port j)) (fun t i h => h.trans (unmapPages_swept t n _ j)) _
      (.refl _)).trans (port_modPort_rel PortSt.Swept.refl ⟨_, _, _, _, _, rfl⟩ j)

/-! ### Ports that send -/

theorem State.modAssoc_served (s : State) (n a : Nat) (g : Assoc → Assoc) (j : Nat) :
    (s.port j).Served ((s.modAssoc n a g).port j) :=
  port_modPort_rel PortSt.Served.refl ⟨_, _, _, _, _, _, _, rfl⟩ j

theorem State.port_emitHwt (s : State) (n a kind : Nat) (body : List Byte) (j : Nat) : (s.emitHwt n a kind body).port j = s.port j :=
  port_emit s _ j

theorem State.port_sendSeg (s : State) (n a : Nat) (g : OutSeg) (j : Nat) : (s.sendSeg n a g).port j = s.port j :=
  port_emitHwt s n a 7 _ j

theorem State.sendNext_served (s : State) (n j : Nat) : (s.port j).Served ((s.sendNext n).port j) := by
  unfold sendNext
  split
  · exact .refl _
  · split
    · exact .refl _
    · rw [port_sendSeg]
      exact (modAssoc_served s n _ _ j).trans (port_modPort_rel PortSt.Served.refl ⟨_, _, _, _, _, _, _, rfl⟩ j)

theorem State.pump_served (s : State) (n j : Nat) : (s.port j).Served ((s.pump n).port j) := by
  unfold pump
  split
  · exact .refl _
  · exact (foldl_pred (P := fun t : State => (s.port j).Served (t.port j)) (fun t _ h => h.trans (sendNext_served t n j)) _
      (.refl _)).trans (sweep_swept _ n j).served

theorem State.queueMsg_served (s : State) (n a : Nat) (m : HwtMsg) (j : Nat) : (s.port j).Served ((s.queueMsg n a m).port j) := by
  unfold queueMsg
  split
  · exact (modAssoc_served s n a _ j).trans (pump_served _ n j)
  · exact .refl _

theorem State.sendMsg_served (s : State) (n a opcode status target : Nat) (payload : List Byte) (j : Nat) :
    (s.port j).Served ((s.sendMsg n a opcode status target payload).port j) := by
  unfold sendMsg
  split
  · exact (modAssoc_served s n a _ j).trans (queueMsg_served _ n _ _ j)
  · exact .refl _

theorem State.freeClosed_served (s : State) (n j : Nat) : (s.port j).Served ((s.freeClosed n).port j) := by
  unfold freeClosed
  dsimp only
  split
  · exact .refl _
  · exact ((port_modPort_rel PortSt.Served.refl ⟨_, _, _, _, _, _, _, rfl⟩ j).trans (sendMsg_served _ n _ _ _ _ _ j)).trans
      (sweep_swept _ n j).served

theorem State.freeClosed_engines (s : State) (n : Nat) : s.EnginesRan (s.freeClosed n) := by
  unfold freeClosed
  dsimp only
  split
  · exact .refl s
  · exact ((EnginesRan.modPort s n _).trans (sendReport_engines _ n _ _ _ _)).trans (sweep_engines _ n)

theorem State.applyPath_served (s : State) (n j : Nat) : (s.port j).Served ((s.applyPath n).port j) :=
  port_modPort_rel PortSt.Served.refl ⟨_, _, _, _, _, _, _, rfl⟩ j

/-! ### What an association sends -/

/-- `y` is `x` but for what it has sent; one with nothing to send is as it was. -/
def Assoc.Sent (x y : Assoc) : Prop :=
  (∃ flight queue txSeq, y = { x with flight := flight, queue := queue, txSeq := txSeq }) ∧ (x.queue = [] → y = x)

theorem Assoc.Sent.refl (x : Assoc) : x.Sent x := ⟨⟨_, _, _, rfl⟩, fun _ => rfl⟩

theorem Assoc.Sent.trans {x y z : Assoc} (h : x.Sent y) (h' : y.Sent z) : x.Sent z := by
  obtain ⟨⟨_, _, _, hy⟩, he⟩ := h
  obtain ⟨⟨_, _, _, hz⟩, he'⟩ := h'
  refine ⟨⟨_, _, _, by rw [hz, hy]⟩, fun hq => ?_⟩
  have hyx := he hq
  rw [he' (by rw [hyx, hq]), hyx]

theorem Assoc.sendHead_sent {x y : Assoc} {now : Nat} {g : OutSeg} (h : x.sendHead now = some (g, y)) : x.Sent y := by
  unfold sendHead at h
  split at h
  next hq =>
    split at h
    · injection h with h
      injection h with _ h
      exact ⟨⟨_, _, _, h.symm⟩, fun he => by rw [hq] at he; cases he⟩
    · cases h
  · cases h

theorem State.assoc_modAssoc (s : State) (n a : Nat) (g : Assoc → Assoc) (b : Nat) :
    (s.modAssoc n a g).assoc n b = if b = a then g (s.assoc n a) else s.assoc n b := by
  unfold assoc modAssoc
  rw [port_modPort_same]
  unfold PortSt.assoc
  split
  next h => rw [h]; exact SMap.get_put_same _ _ _ _
  next h => exact SMap.get_put_ne h

theorem State.assoc_modPort (s : State) (n a : Nat) {g : PortSt → PortSt} (hg : ∀ x, (g x).assocs = x.assocs) :
    (s.modPort n g).assoc n a = s.assoc n a := by
  unfold assoc
  rw [port_modPort_same]
  unfold PortSt.assoc
  rw [hg]

theorem State.assoc_sweep (s : State) (n m a : Nat) : (s.sweep n).assoc m a = s.assoc m a := (sweep_swept s n m).assoc a

theorem State.sendNext_sent (s : State) (n a : Nat) : (s.assoc n a).Sent ((s.sendNext n).assoc n a) := by
  unfold sendNext
  split
  · exact .refl _
  next b hb =>
    split
    · exact .refl _
    next g y hy =>
      have hport : ∀ v : State, (v.sendSeg n b g).assoc n a = v.assoc n a := fun v => by rw [assoc, assoc, port_sendSeg]
      have hturn : ∀ (v : State) (f : PortSt → Nat × Nat), (v.modPort n (fun x => { x with turn := f x })).assoc n a = v.assoc n a :=
        fun v f => assoc_modPort v n a (g := fun x => { x with turn := f x }) (fun _ => rfl)
      rw [hport, hturn, assoc_modAssoc]
      split
      next h =>
        subst h
        exact Assoc.sendHead_sent hy
      · exact .refl _

/-- What a port sends changes of an association only what it has sent. -/
theorem State.pump_sent (s : State) (n a : Nat) : (s.assoc n a).Sent ((s.pump n).assoc n a) := by
  unfold pump
  split
  · exact .refl _
  · rw [assoc_sweep]
    exact foldl_pred (P := fun t : State => (s.assoc n a).Sent (t.assoc n a)) (fun t _ h => h.trans (sendNext_sent t n a)) _ (.refl _)

end Sys2Proof.Machine
end

section
/-! SUPPORT. The 400 Gb/s lane mode and the training of a port (R467 to R477, R759). -/

namespace Sys2Proof.Machine

variable {s t : State} {n : Nat}

/-! ### Streams and lanes -/

theorem unprecode_precode {l : List Nat} (h : ∀ g ∈ l, g < 4) (p : Nat) : unprecode p (precode p l) = l := by
  induction l generalizing p with
  | nil => rfl
  | cons g l ih =>
    have hg : g < 4 := h g List.mem_cons_self
    rw [precode, unprecode, ih (fun x hx => h x (List.mem_cons_of_mem g hx))]
    congr 1
    omega

theorem deinterleave_interleave {x y : List Nat} (h : x.length = y.length) : deinterleave (interleave x y) = (x, y) := by
  induction x generalizing y with
  | nil =>
    obtain rfl : y = [] := List.length_eq_zero_iff.mp h.symm
    rfl
  | cons a x ih =>
    cases y with
    | nil => cases h
    | cons b y => rw [interleave, deinterleave, ih (Nat.succ.inj h)]

theorem mem_of_mem_interleave {x y : List Nat} {g : Nat} (h : g ∈ interleave x y) : g ∈ x ∨ g ∈ y := by
  induction x generalizing y with
  | nil => cases h
  | cons a x ih =>
    cases y with
    | nil => cases h
    | cons b y =>
      rw [interleave, List.mem_cons, List.mem_cons] at h
      obtain rfl | rfl | h := h
      · exact .inl List.mem_cons_self
      · exact .inr List.mem_cons_self
      · exact (ih h).imp (List.mem_cons_of_mem a) (List.mem_cons_of_mem b)

theorem laneReceive_laneSend {x y : List Nat} (p : Nat) (hlen : x.length = y.length) (h : ∀ g, g ∈ x ∨ g ∈ y → g < 4) :
    laneReceive p (laneSend p x y) = (x, y) := by
  rw [laneReceive, laneSend, unprecode_precode (fun g hg => h g (mem_of_mem_interleave hg)), deinterleave_interleave hlen]

/-! ### Training frames -/

theorem afterMarker_tops (k top : Nat) (r : List Nat) : afterMarker top 0 (List.replicate k 3 ++ r) = afterMarker (top + k) 0 r := by
  induction k generalizing top with
  | zero => rfl
  | succ k ih =>
    rw [List.replicate_succ, List.cons_append, afterMarker, if_pos rfl, if_pos rfl, ih]
    congr 1
    omega

theorem afterMarker_bottoms {top : Nat} (htop : 32 ≤ top) (r : List Nat) (k : Nat) {b : Nat} (hb : b + k = 31) :
    afterMarker top b (List.replicate (k + 1) 0 ++ r) = some r := by
  induction k generalizing b with
  | zero =>
    rw [List.replicate_succ, List.cons_append, afterMarker, if_neg (by decide), if_pos ⟨rfl, htop⟩, if_pos (by omega)]
    rfl
  | succ k ih =>
    rw [List.replicate_succ, List.cons_append, afterMarker, if_neg (by decide), if_pos ⟨rfl, htop⟩, if_neg (by omega)]
    exact ih (by omega)

theorem blockBits_bitSymbols (bits : List Bool) (r : List Nat) : blockBits bits.length (bits.flatMap bitSymbols ++ r) = some bits := by
  induction bits with
  | nil => rfl
  | cons b bits ih =>
    have hlen : (bitSymbols b).length = 8 := rfl
    have htake : (bitSymbols b ++ (bits.flatMap bitSymbols ++ r)).take 8 = bitSymbols b := by
      rw [← hlen, List.take_left]
    have hdrop : (bitSymbols b ++ (bits.flatMap bitSymbols ++ r)).drop 8 = bits.flatMap bitSymbols ++ r := by
      rw [← hlen, List.drop_left]
    rw [List.flatMap_cons, List.append_assoc, List.length_cons, blockBits, htake, hdrop, ih]
    cases b
    · rfl
    · rfl

theorem div_two_pow_eq (v m : Nat) : v / 2 ^ m = v / 2 ^ (m + 1) * 2 + b2n (v.testBit m) := by
  have hbit : b2n (v.testBit m) = v / 2 ^ m % 2 := by
    rw [Nat.testBit_eq_decide_div_mod_eq, b2n]
    have := Nat.mod_lt (v / 2 ^ m) (show 0 < 2 by decide)
    split <;> simp_all
  rw [hbit, Nat.pow_succ, ← Nat.div_div_eq_div_mul]
  omega

/-- The first `k` bits of a 128-bit number, read from the top, are its quotient by the others' power. -/
theorem foldl_topBits {v : Nat} (hv : v < 2 ^ 128) {k : Nat} (hk : k ≤ 128) :
    ((List.range k).map (fun j => v.testBit (127 - j))).foldl (fun w b => w * 2 + BitVec.ofNat 128 (b2n b)) 0 =
      BitVec.ofNat 128 (v / 2 ^ (128 - k)) := by
  induction k with
  | zero => rw [Nat.sub_zero, Nat.div_eq_of_lt hv]; rfl
  | succ k ih =>
    rw [List.range_succ, List.map_append, List.foldl_append, ih (by omega), List.map_singleton, List.foldl_cons, List.foldl_nil,
      show 128 - (k + 1) = 127 - k by omega, div_two_pow_eq v (127 - k), show 127 - k + 1 = 128 - k by omega, BitVec.ofNat_add,
      BitVec.ofNat_mul]
    rfl

theorem frameBlock_frameSymbols (cb : BitVec 128) (pattern : List Nat) : frameBlock (frameSymbols cb pattern) = some cb := by
  let bits := (List.range 128).map (fun j => cb.toNat.testBit (127 - j))
  have hblock : (List.range 128).flatMap (fun j => bitSymbols (cb.toNat.testBit (127 - j))) = bits.flatMap bitSymbols :=
    (List.flatMap_map _ _ _).symm
  have hmarker : afterMarker 0 0 (frameSymbols cb pattern) = some (bits.flatMap bitSymbols ++ pattern) := by
    rw [frameSymbols, hblock, List.append_assoc, List.append_assoc, afterMarker_tops, Nat.zero_add]
    exact afterMarker_bottoms (Nat.le_refl 32) _ 31 rfl
  have hbits : blockBits 128 (bits.flatMap bitSymbols ++ pattern) = some bits := by
    have hlen : bits.length = 128 := by simp [bits]
    rw [← hlen]
    exact blockBits_bitSymbols bits pattern
  have hfold : bits.foldl (fun v b => v * 2 + BitVec.ofNat 128 (b2n b)) 0 = cb := by
    rw [foldl_topBits cb.isLt (Nat.le_refl 128), Nat.sub_self, Nat.pow_zero, Nat.div_one, BitVec.ofNat_toNat, BitVec.setWidth_eq]
  rw [frameBlock, hmarker]
  dsimp only
  rw [hbits, Option.map_some, hfold]

/-! ### A port that trains -/

theorem State.sendFrames_eq_with (s : State) (n : Nat) (x : Train) : ∃ free sent, s.sendFrames n x = { s with free := free, sent := sent } := by
  unfold sendFrames
  split
  · split
    · refine foldl_pred (P := fun t : State => ∃ free sent, t = { s with free := free, sent := sent }) ?_ _ ⟨s.free, s.sent, rfl⟩
      intro t lane h
      obtain ⟨_, _, rfl⟩ := h
      exact ⟨_, _, rfl⟩
    · exact ⟨s.free, s.sent, rfl⟩
  · exact ⟨s.free, s.sent, rfl⟩

theorem State.keepTrain_leaves (s : State) (n : Nat) (x : Train) : (s.keepTrain n x).port n = { s.port n with train := some x } ∧
    ∀ key, (s.keepTrain n x).num key = s.num key := by
  obtain ⟨free, sent, h⟩ := (s.modPort n (fun p => { p with train := some x })).sendFrames_eq_with n x
  have hport : (s.modPort n (fun p => { p with train := some x })).port n = { s.port n with train := some x } :=
    port_modPort_same _ _ _
  rw [keepTrain, h]
  exact ⟨hport, fun _ => rfl⟩

/-- A port that has begun to train from `s`. -/
def State.Trains (s : State) (n : Nat) (t : State) : Prop :=
  t.num (o4PortState n) = 1 ∧ (t.port n).train = some (s.nextAttempt n 0 none) ∧
    t.num (o4PortTrains n) = (s.num (o4PortTrains n) + 1) % 2 ^ 64

theorem State.num_dropPort (s : State) (n : Nat) {key : Nat} (h : key % 65536 ∉ [0x0A01, 0x0A02, 0x0A03, 0x0A04]) :
    (s.dropPort n).num key = s.num key := by
  simp only [List.mem_cons, List.not_mem_nil, or_false, not_or] at h
  obtain ⟨h1, h2, h3, h4⟩ := h
  show ((((s.unmark n).setNum (o4PortState n) 3).setNum (o4PortRate n) 0).setNum (o4PortConfig n) 0 |>.setNum (o4LanesUp n) 0).num
    key = s.num key
  unfold o4PortState o4PortRate o4PortConfig o4LanesUp
  rw [num_setNum_other _ _ _ (by decide) _ h4, num_setNum_other _ _ _ (by decide) _ h3, num_setNum_other _ _ _ (by decide) _ h2,
    num_setNum_other _ _ _ (by decide) _ h1]
  rfl

theorem State.train_trains (h : s.mayTrain n = true) : s.Trains n (s.train n) := by
  have hcount : (s.dropPort n).num (o4PortTrains n) = s.num (o4PortTrains n) :=
    s.num_dropPort n (by rw [o4PortTrains, okey_mod _ _ (by decide)]; decide)
  rw [train, if_pos h]
  dsimp only
  generalize s.dropPort n = u at hcount
  obtain ⟨hport, hnum⟩ := (((u.setNum (o4PortState n) 1).addNum (o4PortTrains n) 1).modPort n (fun x =>
    { x with dark := false, taps := [] })).keepTrain_leaves n (s.nextAttempt n 0 none)
  refine ⟨?_, ?_, ?_⟩
  · rw [hnum, num_modPort, num_addNum, if_neg (by unfold o4PortState o4PortTrains okey; omega), num_setNum_same]
  · rw [hport]
  · rw [hnum, num_modPort, num_addNum, if_pos rfl, num_setNum_ne _ _ (by unfold o4PortState o4PortTrains okey; omega), hcount]

theorem portMode_trains {v : BitVec 8} (hn : n < 24) (hv : v.toNat < 3) (h : (s.setNum (o4PortMode n) v.toNat).mayTrain n = true) :
    Gives (exec (.portMode n v) s) ((s.setNum (o4PortMode n) v.toNat).Trains n) := by
  have hexec : exec (.portMode n v) s = .next ((s.setNum (o4PortMode n) v.toNat).train n) := by
    show execPortMode n v s = _
    rw [execPortMode, onPort_eq hn, State.writePortMode, if_neg (by omega)]
    dsimp only
    rw [if_neg (by omega)]
  exact ⟨_, hexec, State.train_trains h⟩

theorem State.dropPort_port (s : State) (n : Nat) : ((s.dropPort n).port n).train = none := by
  unfold dropPort
  dsimp only
  obtain ⟨_, _, _, _, _, _, _, h⟩ := (((((s.unmark n).setNum (o4PortState n) 3).setNum (o4PortRate n) 0).setNum (o4PortConfig n) 0).setNum
    (o4LanesUp n) 0 |>.modPort n (fun x => { x with train := none, asked := false })).applyPath_served n n
  rw [h, port_modPort_same]

theorem portMode_off (hn : n < 24) : Gives (exec (.portMode n 3) s) (fun t => t.num (o4PortMode n) = 3 ∧ t.num (o4PortState n) = 0 ∧
    (t.port n).train = none) := by
  have hmode : ((s.setNum (o4PortMode n) 3).dropPort n).num (o4PortMode n) = 3 :=
    (State.num_dropPort _ n (by rw [o4PortMode, okey_mod _ _ (by decide)]; decide)).trans (State.num_setNum_same _ _ _)
  have hport := (s.setNum (o4PortMode n) 3).dropPort_port n
  have hexec : exec (.portMode n 3) s = .next ((((s.setNum (o4PortMode n) 3).dropPort n).setNum (o4PortState n) 0).modPort n (fun x =>
      { x with dark := true })) := by
    show execPortMode n 3 s = _
    rw [execPortMode, onPort_eq hn]
    rfl
  rw [hexec]
  generalize (s.setNum (o4PortMode n) 3).dropPort n = u at hmode hport
  refine ⟨_, rfl, ?_, ?_, ?_⟩
  · rw [State.num_modPort, State.num_setNum_ne _ _ (by unfold o4PortMode o4PortState okey; omega), hmode]
  · rw [State.num_modPort, State.num_setNum_same]
  · rw [State.port_modPort_same, State.port_setNum]
    exact hport

theorem portMode_refused {v : BitVec 8} (hn : n < 24) (hv : 3 < v.toNat) : exec (.portMode n v) s = .next s := by
  show execPortMode n v s = _
  rw [execPortMode, onPort_eq hn, State.writePortMode, if_pos hv]

theorem portRetrain_asked {v : BitVec 8} (hn : n < 24) (ha : (s.port n).asked = true) (ht : (s.port n).train.isSome = true) :
    exec (.portRetrain n v) s = .next s := by
  show execPortRetrain n v s = _
  rw [execPortRetrain, onPort_eq hn, State.writeRetrain]
  split
  · rfl
  · rw [if_pos (by rw [ha, ht]; rfl)]

theorem portRetrain_trains (hn : n < 24) (h : s.mayTrain n = true) :
    (s.port n).asked = true ∧ (s.port n).train.isSome = true ∨ Gives (exec (.portRetrain n 1) s) (s.Trains n) := by
  by_cases ha : (s.port n).asked = true ∧ (s.port n).train.isSome = true
  · exact .inl ha
  · refine .inr ?_
    have hexec : exec (.portRetrain n 1) s = .next ((s.train n).modPort n (fun x => { x with asked := x.train.isSome })) := by
      show execPortRetrain n 1 s = _
      rw [execPortRetrain, onPort_eq hn, State.writeRetrain, if_neg (by decide), if_neg (by simpa using ha)]
    obtain ⟨hstate, htrain, hcount⟩ := State.train_trains h
    generalize s.train n = u at hexec hstate htrain hcount
    refine ⟨_, hexec, hstate, ?_, hcount⟩
    rw [State.port_modPort_same]
    exact htrain

theorem portTrainingStart_trains (hn : n < 24) (h : s.mayTrain n = true) (h1 : s.num (o4PortState n) ≠ 1) (h2 : s.num (o4PortState n) ≠ 2) :
    Gives (exec (.portTrainingStart n) s) (s.Trains n) := by
  refine ⟨_, ?_, State.train_trains h⟩
  show execPortTrainingStart n s = _
  rw [execPortTrainingStart, onPort_eq hn, when'_true (by simp [h1, h2])]

theorem portDarkRetry_trains (hn : n < 24) (h : s.mayTrain n = true) (hdark : (s.port n).dark = true) (h3 : s.num (o4PortState n) = 3) :
    Gives (exec (.portDarkRetry n) s) (s.Trains n) := by
  refine ⟨_, ?_, State.train_trains h⟩
  show execPortDarkRetry n s = _
  rw [execPortDarkRetry, onPort_eq hn, when'_true (by simp [hdark, h3])]

/-! ### A port in service -/

theorem execPortRetrainTrigger_up {bad : Nat} {aligned : Bool} (hn : n < 24) (h2 : s.num (o4PortState n) = 2) :
    exec (.portRetrainTrigger n bad aligned) s =
      .next (if !aligned || 1000 < bad then (s.countFec n bad).train n else s.countFec n bad) := by
  show execPortRetrainTrigger n bad aligned s = _
  rw [execPortRetrainTrigger, onPort_eq hn, if_pos h2]

theorem portRetrainTrigger_trains {bad : Nat} {aligned : Bool} (hn : n < 24) (h2 : s.num (o4PortState n) = 2)
    (h : (s.countFec n bad).mayTrain n = true) (hbad : aligned = false ∨ 1000 < bad) :
    Gives (exec (.portRetrainTrigger n bad aligned) s) ((s.countFec n bad).Trains n) := by
  rw [execPortRetrainTrigger_up hn h2, if_pos (by simpa using hbad)]
  exact ⟨_, rfl, State.train_trains h⟩

theorem State.dropPort_leaves (s : State) (n : Nat) : (s.dropPort n).num (o4PortState n) = 3 ∧ (s.dropPort n).num (o4PortRate n) = 0 ∧
    (s.dropPort n).num (o4LanesUp n) = 0 ∧ (s.dropPort n).cores = s.cores ∧ (s.dropPort n).dram = s.dram := by
  refine ⟨s.dropPort_state n, ?_, ?_, (s.dropPort_keeps n).1, ?_⟩
  · show ((((s.unmark n).setNum (o4PortState n) 3).setNum (o4PortRate n) 0).setNum (o4PortConfig n) 0 |>.setNum (o4LanesUp n) 0).num
      (o4PortRate n) = 0
    rw [num_setNum_ne _ _ (by unfold o4PortRate o4LanesUp okey; omega), num_setNum_ne _ _ (by unfold o4PortRate o4PortConfig okey; omega),
      num_setNum_same]
  · show ((((s.unmark n).setNum (o4PortState n) 3).setNum (o4PortRate n) 0).setNum (o4PortConfig n) 0 |>.setNum (o4LanesUp n) 0).num
      (o4LanesUp n) = 0
    exact num_setNum_same _ _ _
  · unfold dropPort applyPath
    simp only [modPort_dram, setNum_dram]
    rfl

theorem portDown_gives (hn : n < 24) (h2 : s.num (o4PortState n) = 2) (hup : s.portDown n = false) :
    Gives (exec (.portDown n) s) (fun t => t.num (o4PortState n) = 3 ∧ t.num (o4PortRate n) = 0 ∧ t.num (o4LanesUp n) = 0 ∧
      t.cores = s.cores ∧ t.dram = s.dram) := by
  have hexec : exec (.portDown n) s = .next ((s.dropPort n).postPort n 6) := by
    show execPortDown n s = _
    rw [execPortDown, onPort_eq hn, if_pos (by simp [h2, hup])]
  have hdrop := s.dropPort_leaves n
  generalize s.dropPort n = u at hexec hdrop
  exact ⟨_, hexec, hdrop⟩

/-! ### Training under way -/

/-- An attempt has moved to `y`, and the port trains on. -/
def State.Moves (s : State) (n : Nat) (y : Train) (t : State) : Prop :=
  (t.port n).train = some y ∧ t.num (o4PortState n) = s.num (o4PortState n)

theorem State.keepTrain_moves (s : State) (n : Nat) (y : Train) : s.Moves n y (s.keepTrain n y) := by
  obtain ⟨hport, hnum⟩ := s.keepTrain_leaves n y
  exact ⟨by rw [hport], hnum _⟩

section
variable {x : Train} {lane : Nat} {symbols ber : List Nat} {cb : BitVec 128}

theorem trainingFrame_unmarked (hn : n < 24) (ht : (s.port n).train = some x) (hb : frameBlock symbols = none) :
    exec (.trainingFrame n lane symbols) s = .next s := by
  show execTrainingFrame n lane symbols s = _
  rw [execTrainingFrame, onPort_eq hn, ht, hb]

theorem execTrainingFrame_block (hn : n < 24) (ht : (s.port n).train = some x) (hb : frameBlock symbols = some cb) :
    exec (.trainingFrame n lane symbols) s = .next (when' (vendorAttempt x.attempt && lane < 4 && controlOk cb && x.reached.isNone) s
      (s.trainFrame n x lane cb.toNat)) := by
  show execTrainingFrame n lane symbols s = _
  rw [execTrainingFrame, onPort_eq hn, ht, hb]

theorem trainingFrame_bad (hn : n < 24) (ht : (s.port n).train = some x) (hb : frameBlock symbols = some cb)
    (hok : controlOk cb = false) : exec (.trainingFrame n lane symbols) s = .next s := by
  rw [execTrainingFrame_block hn ht hb, when'_false (by simp [hok])]

theorem trainingFrame_failed (hn : n < 24) (ht : (s.port n).train = some x) (hb : frameBlock symbols = some cb)
    (hv : vendorAttempt x.attempt = true) (hl : lane < 4) (hok : controlOk cb = true) (hr : x.reached = none) (h3 : fld cb 113 3 = 3) :
    Gives (exec (.trainingFrame n lane symbols) s) (s.Moves n (s.nextAttempt n x.attempt x.pair)) := by
  rw [execTrainingFrame_block hn ht hb, when'_true (by simp [hv, hl, hok, hr]), State.trainFrame,
    if_pos (show nfld cb.toNat 113 3 = 3 from h3)]
  exact ⟨_, rfl, s.keepTrain_moves n _⟩

theorem trainingPhaseTimeout_reaches (hn : n < 24) (ht : (s.port n).train = some x) (ha : x.attempt ≤ 6) (hr : x.reached = none)
    (hp : x.phase = 3) (hall : (lanesOf x.lanes).all (laneOk ber) = true) :
    Gives (exec (.trainingPhaseTimeout n ber 0) s)
      (s.Moves n { x with reached := some (attemptConfig x.attempt x.lanes, x.lanes) }) := by
  let s1 := s.setNum (o4PreFecBer n)
    (f32Word ⟨((lanesOf x.lanes).map (fun j => (ber[j]?).getD 0)).foldl max 0, 1000000000⟩)
  have hexec : exec (.trainingPhaseTimeout n ber 0) s =
      .next (s1.keepTrain n { x with reached := some (attemptConfig x.attempt x.lanes, x.lanes) }) := by
    show execTrainingPhaseTimeout n ber 0 s = _
    rw [execTrainingPhaseTimeout, onPort_eq hn, ht]
    dsimp only
    rw [if_neg (by rw [hr]; simp; omega), hp, if_pos ⟨hall, rfl⟩] <;> rfl
  have hnum : s1.num (o4PortState n) = s.num (o4PortState n) :=
    State.num_setNum_ne _ _ (by unfold o4PortState o4PreFecBer okey; omega)
  obtain ⟨htrain, hstate⟩ := s1.keepTrain_moves n { x with reached := some (attemptConfig x.attempt x.lanes, x.lanes) }
  exact ⟨_, hexec, htrain, hstate.trans hnum⟩

/-- The state of a port that came up in configuration `c` on the lanes `l`, before it sends. -/
def State.cameUp (s : State) (n c l : Nat) (x : Train) : State :=
  ((((s.setNum (o4PortState n) 2).setNum (o4PortRate n) (configRate c)).setNum (o4PortConfig n) c).setNum (o4LanesUp n) l).modPort n
    (fun p => { p with train := none, dark := false, asked := false, taps := x.taps, lastCfg := some (c, l) })

theorem State.cameUp_leaves (s : State) (n c l : Nat) (x : Train) : (s.cameUp n c l x).num (o4PortState n) = 2 ∧
    (s.cameUp n c l x).num (o4PortRate n) = configRate c ∧ (s.cameUp n c l x).num (o4PortConfig n) = c ∧
    (s.cameUp n c l x).num (o4LanesUp n) = l ∧ ((s.cameUp n c l x).port n).train = none ∧
    ((s.cameUp n c l x).port n).taps = x.taps ∧ ((s.cameUp n c l x).port n).lastCfg = some (c, l) := by
  unfold cameUp
  simp only [port_modPort_same, num_modPort, num_setNum, o4PortState, o4PortRate, o4PortConfig, o4LanesUp,
    okey_eq_okey (show 0x0A01 < 65536 by decide) (show 0x0A02 < 65536 by decide)]
  refine ⟨?_, ?_, ?_, ?_, trivial, trivial, trivial⟩ <;> simp [okey]

theorem portTrainingEnd_up {c l : Nat} (hn : n < 24) (ht : (s.port n).train = some x) (hr : x.reached = some (c, l)) :
    Gives (exec (.portTrainingEnd n) s) (fun t => t.num (o4PortState n) = 2 ∧ t.num (o4PortRate n) = configRate c ∧
      t.num (o4PortConfig n) = c ∧ t.num (o4LanesUp n) = l ∧ (t.port n).train = none ∧ (t.port n).taps = x.taps ∧
      (t.port n).lastCfg = some (c, l)) := by
  have hexec : exec (.portTrainingEnd n) s = .next ((((s.cameUp n c l x).applyPath n).pump n).freeClosed n) := by
    show execPortTrainingEnd n s = _
    rw [execPortTrainingEnd, onPort_eq hn, ht]
    dsimp only
    rw [hr]
    rfl
  obtain ⟨hstate, hrate, hcfg, hlanes, htrain, htaps, hlast⟩ := s.cameUp_leaves n c l x
  generalize s.cameUp n c l x = u at hexec hstate hrate hcfg hlanes htrain htaps hlast
  have hran : u.EnginesRan (((u.applyPath n).pump n).freeClosed n) :=
    ((State.EnginesRan.modPort u n _).trans (State.pump_engines _ n)).trans (State.freeClosed_engines _ n)
  obtain ⟨_, _, _, _, _, _, _, hport⟩ := ((u.applyPath_served n n).trans (State.pump_served _ n n)).trans (State.freeClosed_served _ n n)
  refine ⟨_, hexec, (hran.num _ ?_).trans hstate, (hran.num _ ?_).trans hrate, (hran.num _ ?_).trans hcfg, (hran.num _ ?_).trans hlanes,
    ?_, ?_, ?_⟩
  · rw [o4PortState, okey_mod _ _ (by decide)]; decide
  · rw [o4PortRate, okey_mod _ _ (by decide)]; decide
  · rw [o4PortConfig, okey_mod _ _ (by decide)]; decide
  · rw [o4LanesUp, okey_mod _ _ (by decide)]; decide
  · rw [hport]; exact htrain
  · rw [hport]; exact htaps
  · rw [hport]; exact hlast

theorem portTrainingEnd_down (hn : n < 24) (ht : (s.port n).train = some x) (hr : x.reached = none) (ha : 6 < x.attempt) :
    Gives (exec (.portTrainingEnd n) s) (fun t => t.num (o4PortState n) = 3 ∧ t.num (o4PortRate n) = 0 ∧ (t.port n).train = none ∧
      (t.port n).dark = true) := by
  have hexec : exec (.portTrainingEnd n) s = .next (((s.dropPort n).modPort n (fun p => { p with dark := true })).postPort n 6) := by
    show execPortTrainingEnd n s = _
    rw [execPortTrainingEnd, onPort_eq hn, ht]
    dsimp only
    rw [hr]
    exact congrArg Host.Outcome.next (if_pos ha)
  obtain ⟨hstate, hrate, -, -, -⟩ := s.dropPort_leaves n
  have htrain := s.dropPort_port n
  generalize s.dropPort n = u at hexec hstate hrate htrain
  have hport : ((u.modPort n (fun p => { p with dark := true })).postPort n 6).port n = { u.port n with dark := true } :=
    (show (u.modPort n (fun p => { p with dark := true })).port n = _ from State.port_modPort_same _ _ _)
  refine ⟨_, hexec, hstate, hrate, ?_, ?_⟩
  · rw [hport]; exact htrain
  · rw [hport]

end

end Sys2Proof.Machine

open Sys2Proof Sys2Proof.Machine

/-- Settles O47: the lane's coding by induction over its symbols, the control block by its bits from the top, and a port's training by
what `train`, `keepTrain` and `dropPort` leave; what a port sends once it is up leaves its training. -/
theorem portTraining : Obligations.PortTraining := by
  unfold Obligations.PortTraining
  intro s n lane bad p v cb symbols pattern ber one two x c l trains moves s1 s2 hn
  refine ⟨fun hlen h => laneReceive_laneSend p hlen h, frameBlock_frameSymbols cb pattern, fun hv h => portMode_trains hn hv h,
    portMode_off hn, fun hv => portMode_refused hn hv, fun ha ht => portRetrain_asked hn ha ht, ?_, ?_,
    fun h2 h hb => portRetrainTrigger_trains hn h2 h (.inr hb), fun h2 h => portRetrainTrigger_trains hn h2 h (.inl rfl),
    fun h2 h => portDown_gives hn h2 h, ?_⟩
  · intro h
    exact ⟨portRetrain_trains hn h, fun h1 h2 => portTrainingStart_trains hn h h1 h2, fun hd h3 => portDarkRetry_trains hn h hd h3⟩
  · intro h2 hb
    rw [execPortRetrainTrigger_up hn h2, if_neg (by simp; omega)]
  · intro ht
    exact ⟨fun hb => trainingFrame_unmarked hn ht hb, fun hb ho => trainingFrame_bad hn ht hb ho,
      fun hb hv hl ho hr h3 => trainingFrame_failed hn ht hb hv hl ho hr h3,
      fun ha hr hp hall => trainingPhaseTimeout_reaches hn ht ha hr hp hall, fun hr => portTrainingEnd_up hn ht hr,
      fun hr ha => portTrainingEnd_down hn ht hr ha⟩
end

section
/-! SUPPORT. Saved configuration, credentials, identity and availability (R530, R538, R551, R552, R690 to R719, R728, R742). -/

namespace Sys2Proof.Machine

variable {s : State} {c : Nat}

/-! ### Configuration and credentials -/

theorem configSave_gives (h : s.inhibited = false) : Gives (exec (.configSave 1) s) (fun t => t.msc.saved = some s.savedDict ∧
    t.num o0ConfigSavedTime = s.wt) := by
  have hexec : exec (.configSave 1) s = .next (({ s with msc := { s.msc with saved := some s.savedDict } } : State).setNum
      o0ConfigSavedTime s.wt) := by
    show Host.Outcome.next (s.writeConfigSave 1).1 = _
    rw [State.writeConfigSave, if_neg (by decide), if_neg (by simp [h])]
  exact ⟨_, hexec, rfl, State.num_setNum_same _ _ _⟩

theorem configClear_gives (h : s.inhibited = false) : Gives (exec (.configClear 1) s) (fun t => t.msc.saved = none ∧
    t.num o0ConfigSavedTime = 0) := by
  have hexec : exec (.configClear 1) s = .next (({ s with msc := { s.msc with saved := none } } : State).setNum o0ConfigSavedTime 0) := by
    show Host.Outcome.next (s.writeConfigClear 1).1 = _
    rw [State.writeConfigClear, if_neg (by decide), if_neg (by simp [h])]
  exact ⟨_, hexec, rfl, State.num_setNum_same _ _ _⟩

theorem onCred_eq (h1 : 1 ≤ c) (h32 : c ≤ 32) (f : State → State) : onCred c s f = .next (f s) := if_pos ⟨h1, h32⟩

/-- The sessions that are left once those of a credential end. -/
theorem State.mem_endSessionsOf (s : State) (c : Nat) (y : Session) :
    y ∈ (s.endSessionsOf c).hdp.sessions ↔ y ∈ s.hdp.sessions ∧ y.cred ≠ c := by
  show y ∈ s.hdp.sessions.filter (fun y => !decide (y.cred = c)) ↔ _
  rw [List.mem_filter]
  simp

theorem credKey_gives {key : List Byte} (h : s.inhibited = false) (h1 : 1 ≤ c) (h32 : c ≤ 32) (hlen : key.length = 32) :
    Gives (exec (.credKey c key) s) (fun t => t.credKey c = some key ∧
      ∀ y, y ∈ t.hdp.sessions ↔ y ∈ s.hdp.sessions ∧ y.cred ≠ c) := by
  have hexec : exec (.credKey c key) s =
      .next (({ s with msc := { s.msc with credKeys := s.msc.credKeys.put c key } } : State).endSessionsOf c) := by
    show execCredKey c key s = _
    rw [execCredKey, onCred_eq h1 h32, State.writeCredKey, if_neg (by simp [hlen]), if_neg (by simp [h])]
  refine ⟨_, hexec, ?_, fun y => State.mem_endSessionsOf _ c y⟩
  show (match (s.msc.credKeys.put c key).look c with
    | some k => some k
    | none => if c = 1 then some ((List.range 32).map Config.factoryKey) else none) = some key
  rw [SMap.look_put_same]

theorem credRole_gives {role : BitVec 8} (h : s.inhibited = false) (h1 : 1 ≤ c) (h32 : c ≤ 32) (hrole : role.toNat ≤ 4)
    (hleft : (s.setNum (o7CredRole c) role.toNat).custodianRemains = true) :
    Gives (exec (.credRole c role) s) (fun t => t.num (o7CredRole c) = role.toNat ∧
      ∀ y, y ∈ t.hdp.sessions ↔ y ∈ s.hdp.sessions ∧ y.cred ≠ c) := by
  have hexec : exec (.credRole c role) s = .next ((s.setNum (o7CredRole c) role.toNat).endSessionsOf c) := by
    show execCredRole c role s = _
    rw [execCredRole, onCred_eq h1 h32, State.writeCredRole, if_neg (by omega), if_neg (by simp [h])]
    dsimp only
    rw [if_pos hleft]
  exact ⟨_, hexec, State.num_setNum_same _ _ _, fun y => State.mem_endSessionsOf _ c y⟩

theorem credRole_refused {role : BitVec 8} (h1 : 1 ≤ c) (h32 : c ≤ 32)
    (hleft : (s.setNum (o7CredRole c) role.toNat).custodianRemains = false) : exec (.credRole c role) s = .next s := by
  show execCredRole c role s = _
  rw [execCredRole, onCred_eq h1 h32, State.writeCredRole]
  dsimp only
  split
  · rfl
  · split
    · rfl
    · rw [if_neg (by simp [hleft])]

theorem execSessionKill_eq (sid : BitVec 32) (s : State) : exec (.sessionKill sid) s =
    .next (if (s.session sid.toNat).isSome then s.endSession sid.toNat else s) := by
  have hany : s.hdp.sessions.any (fun x => x.id = sid.toNat) = (s.session sid.toNat).isSome := by
    rw [State.session, Bool.eq_iff_iff, List.any_eq_true, List.find?_isSome]
  show Host.Outcome.next (s.writeSessionKill sid.toNat).1 = _
  rw [State.writeSessionKill, hany]
  split <;> rfl

/-! ### Security versions, the slot and decommissioning -/

theorem svnCommit_gives (h : s.inhibited = false)
    (hnew : max (s.num o7SvnCounter) (fiSvn s.msc.image) ≠ s.num o7SvnCounter ∨
      s.num o7KeysRevoked ||| fiRevoke s.msc.image % 4096 ≠ s.num o7KeysRevoked) :
    Gives (exec (.svnCommit 1) s) (fun t => t.num o7SvnCounter = max (s.num o7SvnCounter) (fiSvn s.msc.image) ∧
      t.num o7KeysRevoked = s.num o7KeysRevoked ||| fiRevoke s.msc.image % 4096) := by
  have hexec : exec (.svnCommit 1) s = .next (((s.setNum o7SvnCounter (max (s.num o7SvnCounter) (fiSvn s.msc.image))).setNum
      o7KeysRevoked (s.num o7KeysRevoked ||| fiRevoke s.msc.image % 4096)).recheckBanks) := by
    show Host.Outcome.next (s.writeSvn 1).1 = _
    unfold State.writeSvn
    dsimp only
    rw [if_neg (by decide), if_neg (fun he => hnew.elim (fun h => h he.1) (fun h => h he.2)), if_neg (by simp [h])]
  have hbanks : ∀ (t : State) key, t.recheckBanks.num key = t.num key := fun _ _ => rfl
  refine ⟨_, hexec, ?_, ?_⟩
  · rw [hbanks, State.num_setNum_ne _ _ (by decide), State.num_setNum_same]
  · rw [hbanks, State.num_setNum_same]

theorem slotAccept_gives (h : s.inhibited = false) (hslot : s.num o0SlotId ≠ 0) : Gives (exec (.slotAccept 1) s) (fun t =>
    t.msc.slotStored = some (s.num o0SlotId) ∧ t.num o0SlotChanged = 0) := by
  have hexec : exec (.slotAccept 1) s =
      .next (({ s with msc := { s.msc with slotStored := some (s.num o0SlotId) } } : State).setNum o0SlotChanged 0) := by
    show Host.Outcome.next (s.writeSlot 1).1 = _
    rw [State.writeSlot, if_neg (by decide), if_neg hslot, if_neg (by simp [h])]
  exact ⟨_, hexec, rfl, State.num_setNum_same _ _ _⟩

/-- The controller keeps nothing that its owner stored. -/
def Msc.Unowned (m : Msc) : Prop := m.credKeys = [] ∧ m.licences = [] ∧ m.saved = none ∧ m.slotStored = none

theorem State.bootFrom_unowned (h : s.msc.Unowned) (b : Nat) (second : Bool) : (s.bootFrom b second).msc.Unowned := by
  unfold bootFrom
  dsimp only
  split <;> split <;> exact h

theorem State.tryBoot_unowned (h : s.msc.Unowned) (a b : Bool) : (s.tryBoot a b).msc.Unowned := by
  cases haux : s.power.aux12 with
  | false => rw [tryBoot_absent haux]; exact h
  | true =>
    cases hn : s.bootable (s.num o0NextBootBank % 2) (if s.num o0NextBootBank % 2 = 0 then a else b) with
    | true => rw [tryBoot_first haux hn]; exact bootFrom_unowned h _ _
    | false =>
      cases hm : s.bootable (1 - s.num o0NextBootBank % 2) (if 1 - s.num o0NextBootBank % 2 = 0 then a else b) with
      | true => rw [tryBoot_second haux hn hm]; exact bootFrom_unowned h _ _
      | false => rw [tryBoot_none haux hn hm]; exact h

theorem State.abandonUpdate_unowned (h : s.msc.Unowned) : s.abandonUpdate.msc.Unowned := by
  unfold abandonUpdate
  split <;> exact h

theorem State.stopSigning_unowned (h : s.msc.Unowned) : s.stopSigning.msc.Unowned := by
  unfold stopSigning
  split <;> exact h

theorem State.startOver_unowned (h : s.msc.Unowned) (cold : Bool) : (s.startOver cold).msc.Unowned := by
  have h0 : ({ s with msc := { s.msc with updLost := s.msc.updLost || s.msc.upd.isSome } } : State).msc.Unowned := h
  exact stopSigning_unowned (abandonUpdate_unowned h0)

theorem State.beginCold_unowned (h : s.msc.Unowned) (a b : Bool) : (s.beginCold a b).msc.Unowned := by
  have hcold : s.coldReset.msc.Unowned := startOver_unowned h true
  rw [beginCold_eq]
  exact tryBoot_unowned hcold a b

theorem decommission_gives {digest : List Byte} {a b : Bool} (h : s.inhibited = false) (hid : digest = idDigest)
    (hlen : digest.length = 32) (hgraph : ∀ p, p < 12 → s.num (o6GraphState p) ≠ 2) :
    Gives (exec (.decommission digest a b) s) (fun t => t.msc.credKeys = [] ∧ t.msc.licences = [] ∧ t.msc.saved = none ∧
      t.msc.slotStored = none ∧ t.cores = []) := by
  have hnone : ¬(List.range 12).any (fun p => s.num (o6GraphState p) = 2) = true := by
    simpa using hgraph
  have hexec : exec (.decommission digest a b) s = .next (s.eraseOwner.storeWear.beginCold a b) := by
    show Host.Outcome.next (s.writeDecommission digest a b).1 = _
    rw [State.writeDecommission, if_neg (by simp [hlen]), if_neg (by simp [hid]), if_neg hnone, if_neg (by simp [h])]
  have herased : s.eraseOwner.msc.Unowned := ⟨rfl, rfl, rfl, rfl⟩
  obtain ⟨-, -, -, hmsc⟩ := s.eraseOwner.storeWear_keeps
  have hstored : s.eraseOwner.storeWear.msc.Unowned := by rw [hmsc]; exact herased
  obtain ⟨hkeys, hlic, hsaved, hslot⟩ := State.beginCold_unowned hstored a b
  obtain ⟨⟨hcores, -⟩, -⟩ := s.eraseOwner.storeWear.beginCold_leaves a b
  exact ⟨_, hexec, hkeys, hlic, hsaved, hslot, hcores⟩

theorem decommission_other {digest : List Byte} {a b : Bool} (hid : digest ≠ idDigest) :
    exec (.decommission digest a b) s = .next s := by
  show Host.Outcome.next (s.writeDecommission digest a b).1 = _
  rw [State.writeDecommission]
  by_cases hlen : digest.length = 32
  · rw [if_neg (by simp [hlen]), if_pos hid]
  · rw [if_pos hlen]

/-! ### Attestation -/

theorem attestRequest_gives {nonce : List Byte} (hlen : nonce.length = 32) (h0 : s.num o7AttestState = 0) :
    Gives (exec (.attestRequest nonce) s) (fun t => t.num o7AttestState = 1 ∧ t.msc.attest = s.attestBody nonce) := by
  have hexec : exec (.attestRequest nonce) s =
      .next ((({ s with msc := { s.msc with attest := s.attestBody nonce } } : State).setNum o7AttestState 1).setBlob
        o7AttestReport []) := by
    show Host.Outcome.next (s.writeAttest nonce).1 = _
    rw [State.writeAttest, if_neg (by simp [hlen]), if_neg (by rw [h0]; omega)]
  refine ⟨_, hexec, ?_, rfl⟩
  rw [State.num_setBlob, State.num_setNum_same]

theorem attestRequest_busy {nonce : List Byte} (h1 : s.num o7AttestState = 1) : exec (.attestRequest nonce) s = .next s := by
  show Host.Outcome.next (s.writeAttest nonce).1 = _
  unfold State.writeAttest
  split
  · rfl
  · rw [if_pos (.inl h1)]

/-- The state in which a report is signed. -/
def State.reportSigned (s : State) (sig : List Byte) : State :=
  let s1 := s.setBlob o7AttestReport (s.msc.attest ++ padTo 16224 sig)
  { s1 with msc := { s1.msc with attest := [], attestAt := s1.wt } }

theorem attestSigned_gives {sig : List Byte} (h1 : s.num o7AttestState = 1) : Gives (exec (.attestSigned sig) s) (fun t =>
    t.num o7AttestState = 2 ∧ t.blob o7AttestReport = s.msc.attest ++ padTo 16224 sig ∧
      t.num o7Attests = (s.num o7Attests + 1) % 2 ^ 64) := by
  have hexec : exec (.attestSigned sig) s = .next (((s.reportSigned sig).setNum o7AttestState 2).addNum o7Attests 1) := by
    show execAttestSigned sig s = _
    rw [execAttestSigned, if_pos h1]
    rfl
  have hblob : (s.reportSigned sig).blob o7AttestReport = s.msc.attest ++ padTo 16224 sig :=
    (s.blob_setBlob o7AttestReport _ o7AttestReport).trans (if_pos rfl)
  have hnum : ∀ key, (s.reportSigned sig).num key = s.num key := fun _ => rfl
  generalize s.reportSigned sig = u at hexec hblob hnum
  refine ⟨_, hexec, ?_, hblob, ?_⟩
  · rw [State.num_addNum, if_neg (by decide), State.num_setNum_same]
  · rw [State.num_addNum, if_pos rfl, State.num_setNum_ne _ _ (by decide), hnum]

/-! ### Links and availability -/

theorem mgtLinkChange_up {b : Bool} (hboot : s.msc.booted = true) (hoff : nbit (s.num o0MgtLink) (b2n b) = false) :
    exec (.mgtLinkChange b true) s = .next (s.setNum o0MgtLink (s.num o0MgtLink + 2 ^ b2n b)) := by
  show execMgtLinkChange b true s = _
  simp only [execMgtLinkChange, hoff, hboot]
  rfl

theorem mgtLinkChange_down {b : Bool} (hon : nbit (s.num o0MgtLink) (b2n b) = true) :
    exec (.mgtLinkChange b false) s = .next (s.setNum o0MgtLink (s.num o0MgtLink - 2 ^ b2n b)) := by
  show execMgtLinkChange b false s = _
  simp only [execMgtLinkChange, hon]
  rfl

theorem availClear_gives (s : State) : Gives (exec (.availClear 1) s) (fun t => t.num o0UnavailNs = 0 ∧ t.num o0ExcludedNs = 0 ∧
    t.num o0AvailSince = s.wt) := by
  have hexec : exec (.availClear 1) s =
      .next (((s.setNum o0UnavailNs 0).setNum o0ExcludedNs 0).setNum o0AvailSince s.wt) := by
    show Host.Outcome.next (s.writeAvailClear 1).1 = _
    rw [State.writeAvailClear, if_neg (by decide)]
  refine ⟨_, hexec, ?_, ?_, State.num_setNum_same _ _ _⟩
  · rw [State.num_setNum_ne _ _ (by decide), State.num_setNum_ne _ _ (by decide), State.num_setNum_same]
  · rw [State.num_setNum_ne _ _ (by decide), State.num_setNum_same]

/-- A count that grows wraps only past its 64 bits. -/
theorem add_mod_or_overflow (v d : Nat) : (v + d) % 2 ^ 64 = v + d ∨ 2 ^ 64 ≤ v + d := by
  by_cases h : v + d < 2 ^ 64
  · exact .inl (Nat.mod_eq_of_lt h)
  · exact .inr (Nat.le_of_not_lt h)

/-- The regions that serve, as the dictionary shows them. -/
def State.servingShown (s : State) : State :=
  let l := (List.range 12).filter s.regionServes
  (s.setNum o0RegionsServing l.length).setNum o0ServingMask (l.map (2 ^ ·)).sum

theorem State.servingShown_leaves (s : State) :
    s.servingShown.num o0RegionsServing = ((List.range 12).filter s.regionServes).length ∧
      s.servingShown.num o0UnavailNs = s.num o0UnavailNs ∧ s.servingShown.num o0ExcludedNs = s.num o0ExcludedNs := by
  unfold servingShown
  dsimp only
  generalize (((List.range 12).filter s.regionServes).map (2 ^ ·)).sum = mask
  refine ⟨?_, ?_, ?_⟩
  · rw [num_setNum_ne _ _ (by decide), num_setNum_same]
  · rw [num_setNum_ne _ _ (by decide), num_setNum_ne _ _ (by decide)]
  · rw [num_setNum_ne _ _ (by decide), num_setNum_ne _ _ (by decide)]

theorem execAvailabilityTick_eq (s : State) : exec .availabilityTick s =
    .next (if 11 ≤ ((List.range 12).filter s.regionServes).length then s.servingShown
      else if s.excluded then s.servingShown.addNum o0ExcludedNs 1000000 else s.servingShown.addNum o0UnavailNs 1000000) := rfl

theorem availabilityTick_gives (s : State) : Gives (exec .availabilityTick s) (fun t =>
    t.num o0RegionsServing = ((List.range 12).filter s.regionServes).length ∧
      (11 ≤ ((List.range 12).filter s.regionServes).length →
        t.num o0UnavailNs = s.num o0UnavailNs ∧ t.num o0ExcludedNs = s.num o0ExcludedNs) ∧
      (((List.range 12).filter s.regionServes).length < 11 →
        t.num o0UnavailNs + t.num o0ExcludedNs = s.num o0UnavailNs + s.num o0ExcludedNs + 1000000 ∨
          2 ^ 64 ≤ s.num o0UnavailNs + 1000000 ∨ 2 ^ 64 ≤ s.num o0ExcludedNs + 1000000)) := by
  rw [execAvailabilityTick_eq]
  obtain ⟨hserve, hun, hex⟩ := s.servingShown_leaves
  generalize s.servingShown = u at hserve hun hex
  generalize ((List.range 12).filter s.regionServes).length = m at hserve
  by_cases h11 : 11 ≤ m
  · rw [if_pos h11]
    exact ⟨u, rfl, hserve, fun _ => ⟨hun, hex⟩, fun h => absurd h11 (by omega)⟩
  · rw [if_neg h11]
    cases s.excluded with
    | true =>
      refine ⟨u.addNum o0ExcludedNs 1000000, rfl, ?_, fun h => absurd h h11, fun _ => ?_⟩
      · rw [State.num_addNum, if_neg (by decide), hserve]
      · rw [State.num_addNum, State.num_addNum, if_neg (by decide), if_pos rfl, hun, hex]
        obtain h | h := add_mod_or_overflow (s.num o0ExcludedNs) 1000000
        · rw [h]; exact .inl (Nat.add_assoc _ _ _).symm
        · exact .inr (.inr h)
    | false =>
      refine ⟨u.addNum o0UnavailNs 1000000, rfl, ?_, fun h => absurd h h11, fun _ => ?_⟩
      · rw [State.num_addNum, if_neg (by decide), hserve]
      · rw [State.num_addNum, State.num_addNum, if_pos rfl, if_neg (by decide), hun, hex]
        obtain h | h := add_mod_or_overflow (s.num o0UnavailNs) 1000000
        · rw [h]; exact .inl (Nat.add_right_comm _ _ _)
        · exact .inr (.inl h)

end Sys2Proof.Machine

open Sys2Proof Sys2Proof.Machine

/-- Settles O56: each write is the branch that its checks leave, a decommissioning is the erasure, which no part of the cold start
undoes, and a millisecond is counted on one side or the other. -/
theorem configurationAndIdentity : Obligations.ConfigurationAndIdentity := by
  unfold Obligations.ConfigurationAndIdentity
  intro s c role sid key nonce sig digest x sa sb b svn rev serving next
  refine ⟨fun h => ⟨configSave_gives h, configClear_gives h, fun h1 h32 hl => credKey_gives h h1 h32 hl,
      fun h1 h32 hr hl => credRole_gives h h1 h32 hr hl, fun h1 h32 hl => credRole_refused h1 h32 hl, fun hn => svnCommit_gives h hn,
      fun hs => slotAccept_gives h hs, fun hd hl hg => decommission_gives h hd hl hg, fun hd => decommission_other hd⟩,
    fun h => ?_, fun h => ?_, fun hl h0 => attestRequest_gives hl h0, fun h1 => ⟨attestRequest_busy h1, attestSigned_gives h1⟩, rfl,
    fun hb ho => mgtLinkChange_up hb ho, fun ho => mgtLinkChange_down ho, availClear_gives s, availabilityTick_gives s⟩
  · rw [execSessionKill_eq, h]
    rfl
  · rw [execSessionKill_eq, h]
    rfl
end

section
/-! SUPPORT. A close of a session with further requests waiting: `Obligations.DictionaryProtocol` states that the requests that wait stay as they
are, but the end of the session drops those of its own (R530). -/

namespace Sys2Proof.Machine

theorem State.sendHdp_hdp (s : State) (src : HdpSource) (l : List (List Byte)) : (s.sendHdp src l).hdp = s.hdp := by
  refine foldl_pred (P := fun t : State => t.hdp = s.hdp) ?_ _ rfl
  intro t d h
  exact (emit_hdp _ _).trans h

/-- A session's update keeps the requests that wait and the sessions' ids. -/
theorem State.putSession_keeps (s : State) (x : Session) : (s.putSession x).hdp.ready = s.hdp.ready ∧
    (s.putSession x).hdp.sessions.map (·.id) = s.hdp.sessions.map (·.id) := by
  refine ⟨rfl, ?_⟩
  show (s.hdp.sessions.map (fun y => if y.id = x.id then x else y)).map (·.id) = _
  rw [List.map_map]
  refine List.map_congr_left fun y _ => ?_
  show (if y.id = x.id then x else y).id = y.id
  split
  next h => exact h.symm
  · rfl

theorem State.replyIn_keeps (s : State) (x : Session) (typ reqId status : Nat) (body : List Byte) :
    (s.replyIn x typ reqId status body).hdp.ready = s.hdp.ready ∧
      (s.replyIn x typ reqId status body).hdp.sessions.map (·.id) = s.hdp.sessions.map (·.id) := by
  unfold replyIn
  dsimp only
  generalize replyDatagrams _ _ _ _ _ _ _ = l
  rw [← s.sendHdp_hdp x.src l]
  split
  · exact putSession_keeps _ _
  · exact ⟨rfl, rfl⟩

theorem State.answer_keeps (s : State) (x : Session) (typ reqId status : Nat) (body : List Byte) :
    (s.answer x typ reqId status body).hdp.ready = s.hdp.ready ∧
      (s.answer x typ reqId status body).hdp.sessions.map (·.id) = s.hdp.sessions.map (·.id) := by
  unfold answer
  dsimp only
  obtain ⟨hready, hids⟩ := s.replyIn_keeps x typ reqId status body
  generalize s.replyIn x typ reqId status body = u at hready hids
  split
  · obtain ⟨hready', hids'⟩ := u.putSession_keeps _
    exact ⟨hready'.trans hready, hids'.trans hids⟩
  · exact ⟨hready, hids⟩

/-- A session that ends takes the requests that wait in it along. -/
theorem State.endSession_drops {s : State} {sid : Nat} (hid : sid ∈ s.hdp.sessions.map (·.id))
    {e : HdpSource × Nat × Nat × Nat × List Byte} (he : e.2.1 = sid) : e ∉ (s.endSession sid).hdp.ready := by
  obtain ⟨y, hy, hyid⟩ := List.mem_map.mp hid
  intro hmem
  obtain ⟨-, hnone⟩ := List.mem_filter.mp hmem
  have hany : (s.hdp.sessions.filter (fun x => decide (x.id = sid))).any (fun y => y.id = e.2.1) = true :=
    List.any_eq_true.mpr ⟨y, List.mem_filter.mpr ⟨hy, by simpa using hyid⟩, by simpa [he] using hyid⟩
  rw [hany] at hnone
  cases hnone

/-- A client on the first management port, its open session, and two closes of it that wait. -/
def closeSource : HdpSource := ⟨.mgt false, 0, 0, 0⟩

def closeSession : Session := ⟨1, 1, 4, closeSource, true, [], [], [], [], none, [], 0, [], 0⟩

def closeWaiting : HdpSource × Nat × Nat × Nat × List Byte := (closeSource, 1, 8, 0x14, [])

def closeState : State :=
  { State.reset with hdp := { Hdp.reset with
      sessions := [closeSession], ready := [(closeSource, 1, 7, 0x14, []), closeWaiting] } }

theorem execClose_closeState : exec (.close 1 7) closeState = .next (((
    { closeState with hdp := { closeState.hdp with ready := [closeWaiting] } } : State).answer closeSession 0x94 7 0 []).endSession 1) :=
  rfl

end Sys2Proof.Machine

open Sys2Proof Sys2Proof.Machine

/-- Refutes O55: a close is answered and its session ends, which drops a second request of the session that waited behind it. -/
theorem not_dictionaryProtocol : ¬ Obligations.DictionaryProtocol := by
  intro h
  unfold Obligations.DictionaryProtocol at h
  obtain ⟨-, -, -, -, -, -, -, -, -, -, -, hclose, -⟩ := h closeState closeSource [] 0 1 7 0 closeSession ⟨[], [], [], [], 0⟩ [] [] []
    ⟨0, 0, 0, 0⟩ [closeWaiting]
  obtain ⟨t, ht, -, hready⟩ := hclose ⟨rfl, rfl, rfl, rfl⟩
  rw [execClose_closeState] at ht
  injection ht with ht
  obtain ⟨-, hids⟩ := ({ closeState with hdp := { closeState.hdp with ready := [closeWaiting] } } : State).answer_keeps closeSession
    0x94 7 0 []
  have hdrop := State.endSession_drops (sid := 1) (e := closeWaiting) (by rw [hids]; decide) rfl
  rw [ht, hready] at hdrop
  exact hdrop List.mem_cons_self
end

section
/-! SUPPORT. What the sends and the notes of a scheduled-plane router leave as it is (R258, R261, R265). -/

namespace Sys2Proof.Machine

variable {s t : State} {x y z : Cluster}

/-! ### The notes of a router -/

/-- `y` is `x` but for the counts, the reports and the telemetry of the router. -/
def Cluster.Noted (x y : Cluster) : Prop :=
  ∃ counts sent telem telemSeq, y = { x with counts := counts, sent := sent, telem := telem, telemSeq := telemSeq }

theorem Cluster.Noted.refl (x : Cluster) : x.Noted x := ⟨_, _, _, _, rfl⟩

theorem Cluster.Noted.trans (h : x.Noted y) (h' : y.Noted z) : x.Noted z := by
  obtain ⟨_, _, _, _, rfl⟩ := h
  obtain ⟨_, _, _, _, rfl⟩ := h'
  exact ⟨_, _, _, _, rfl⟩

theorem Cluster.Noted.bump (h : x.Noted y) (off n : Nat) : x.Noted (y.bump off n) := h.trans ⟨_, _, _, _, rfl⟩

theorem Cluster.Noted.report (h : x.Noted y) (kd : FaultKind) (id : Nat) : x.Noted (y.report kd id) := h.trans ⟨_, _, _, _, rfl⟩

theorem Cluster.postTelem_noted (x : Cluster) (ev port cycle : Nat) : x.Noted (x.postTelem ev port cycle) := by
  unfold postTelem
  dsimp only
  split
  · exact ⟨_, _, _, _, rfl⟩
  · exact ⟨_, _, _, _, rfl⟩

/-! ### Flights -/

/-- Trains that leave change nothing but the flights. -/
theorem State.sendOut_leaves (s : State) (k n : Nat) (faulty : Bool) (cargo : Cargo) (es : List (Nat × SlotEntry)) :
    ∃ fl nx, s.sendOut k n faulty cargo es = { s with net := { s.net with flights := fl, nextFlight := nx } } := by
  refine foldl_pred (P := fun t : State => ∃ fl nx, t = { s with net := { s.net with flights := fl, nextFlight := nx } }) ?_ _
    ⟨_, _, rfl⟩
  rintro t p ⟨fl, nx, rfl⟩
  dsimp only
  split
  · split
    · exact ⟨_, _, rfl⟩
    · exact ⟨_, _, rfl⟩
  · exact ⟨_, _, rfl⟩

/-- A departure changes nothing but the flights and the notes of its router. -/
theorem State.depart_leaves (s : State) (k n : Nat) (cargo : Cargo) (es : List (Nat × SlotEntry)) :
    ∃ fl nx y, s.depart k n cargo es = ({ s with net := { s.net with flights := fl, nextFlight := nx } } : State).setCluster k y ∧
      (s.cluster k).Noted y := by
  unfold depart
  split
  · exact ⟨_, _, _, rfl, ((Cluster.Noted.refl _).bump _ _).report _ _⟩
  · obtain ⟨fl, nx, he⟩ := s.sendOut_leaves k n false (cargo.take ((s.cluster k).before n cargo)) es
    dsimp only
    rw [he]
    split
    · exact ⟨_, _, _, rfl, (Cluster.Noted.refl _).bump _ _⟩
    · exact ⟨_, _, _, rfl, (Cluster.Noted.refl _).bump _ _⟩

/-- What a departure, and the run of the fabric cycles with it, leaves. -/
theorem State.departed_leaves (s : State) (k n : Nat) (cargo : Cargo) (es : List (Nat × SlotEntry)) :
    (s.cluster k).Noted (((s.depart k n cargo es).atFabric k n).cluster k) ∧
      (∀ c, ((s.depart k n cargo es).atFabric k n).core c = s.core c) := by
  obtain ⟨fl, nx, y, he, hy⟩ := s.depart_leaves k n cargo es
  refine ⟨?_, fun c => ?_⟩
  · rw [State.cluster_atFabric, he, State.cluster_setCluster_same]; exact hy
  · rw [State.core_atFabric, he]; rfl

end Sys2Proof.Machine
end

section
/-! SUPPORT. Merges, combining queues, and the period at a router and at its cores (R234, R235, R292 to R295, R260, R278, R301 to R304). -/

namespace Sys2Proof.Machine

variable {s : State} {k e st q d r : Nat} {n : Long} {g : Contribution} {x : Cluster}

/-! ### Rounds of a merge -/

/-- The state once a merge's round has its oldest beats taken. -/
def Steer.roundTaken (y : Steer) : Steer := { y with hold := y.hold.mapV (fun l => l.drop 1), base := y.base + 1 }

theorem Steer.held_roundTaken (y : Steer) (j : Nat) (b : Beat) (l : List Beat) (h : y.held j = b :: l) : y.roundTaken.held j = l := by
  unfold held roundTaken SMap.get at *
  dsimp only
  rw [SMap.look_mapV]
  cases hlook : y.hold.look j with
  | none => rw [hlook] at h; cases h
  | some v =>
    rw [hlook] at h
    show v.drop 1 = l
    rw [show v = b :: l from h]; rfl

theorem Steer.heads_two {y : Steer} {b0 b1 : Beat} {l0 l1 : List Beat} (hways : y.ways = [0, 1]) (h0 : y.held 0 = b0 :: l0)
    (h1 : y.held 1 = b1 :: l1) : y.ways.map (fun j => (y.held j).head?) = [some b0, some b1] := by
  rw [hways, List.map_cons, List.map_cons, List.map_nil, h0, h1]; rfl

/-- A round of two inputs, the second of which is null. -/
theorem execMergeRound_one {b0 b1 : Beat} {l0 l1 : List Beat} (hk : k < 8064) (hst : (s.cluster k).steer.has st = true)
    (hkind : ((s.cluster k).steerAt st).kind = 3) (hways : ((s.cluster k).steerAt st).ways = [0, 1])
    (h0 : ((s.cluster k).steerAt st).held 0 = b0 :: l0) (h1 : ((s.cluster k).steerAt st).held 1 = b1 :: l1)
    (hn0 : b0.null = false) (hn1 : b1.null = true) :
    execMergeRoundComplete k st s = .next (s.setCluster k ((s.cluster k).setSteer st
      { ((s.cluster k).steerAt st).roundTaken with out := ((s.cluster k).steerAt st).out ++ [some b0] })) := by
  have hheads := Steer.heads_two hways h0 h1
  have hfull : ([some b0, some b1].filterMap id).filter (fun b : Beat => !b.null) = [b0] := by simp [hn0, hn1]
  rw [execMergeRoundComplete, onCluster_eq hk]
  simp only [hheads]
  rw [if_pos (by simp [hst, hkind, hways])]
  simp only [hfull]
  rfl

/-- A round of two inputs with a tile in each. -/
theorem execMergeRound_conflict {b0 b1 : Beat} {l0 l1 : List Beat} (hk : k < 8064) (hst : (s.cluster k).steer.has st = true)
    (hkind : ((s.cluster k).steerAt st).kind = 3) (hways : ((s.cluster k).steerAt st).ways = [0, 1])
    (h0 : ((s.cluster k).steerAt st).held 0 = b0 :: l0) (h1 : ((s.cluster k).steerAt st).held 1 = b1 :: l1)
    (hn0 : b0.null = false) (hn1 : b1.null = false) :
    execMergeRoundComplete k st s = .next (s.setCluster k ((((s.cluster k).setSteer st
      { ((s.cluster k).steerAt st).roundTaken with out := ((s.cluster k).steerAt st).out ++ [none] }).bump mergeConflictCount 1).report
        .mergeConflict ((s.cluster k).steerAt st).station)) := by
  have hheads := Steer.heads_two hways h0 h1
  have hfull : ([some b0, some b1].filterMap id).filter (fun b : Beat => !b.null) = [b0, b1] := by simp [hn0, hn1]
  rw [execMergeRoundComplete, onCluster_eq hk]
  simp only [hheads]
  rw [if_pos (by simp [hst, hkind, hways])]
  simp only [hfull]
  rfl

theorem Cluster.steerAt_setSteer (x : Cluster) (j : Nat) (y : Steer) : (x.setSteer j y).steerAt j = y := SMap.get_put_same _ _ _ _

/-- A merge whose round raised a conflict has no beat ready. -/
theorem State.takeBeat_conflict {y : SlotEntry} {l : List (Option Beat)} (hsrc : y.srcKind = 3)
    (hkind : ((s.cluster k).steerAt y.srcUnit).kind = 3) (hout : ((s.cluster k).steerAt y.srcUnit).out = none :: l) :
    s.takeBeat k y = none := by
  have hready : ((s.cluster k).steerAt y.srcUnit).ready y.srcQ = none := by simp [Steer.ready, hkind, hout]
  simp [takeBeat, hsrc, hready]

/-- The slot of a round that raised a conflict passes without a slot miss. -/
theorem execSlotMiss_conflict {l : List (Option Beat)} (hk : k < 8064) (hopen : s.open? k e n.toNat = some (d, r))
    (hlane : ((s.cluster k).entry e).lane = 0) (hsrc : ((s.cluster k).entry e).srcKind = 3)
    (hr : r = ((s.cluster k).entry e).retries)
    (hkind : ((s.cluster k).steerAt ((s.cluster k).entry e).srcUnit).kind = 3)
    (hout : ((s.cluster k).steerAt ((s.cluster k).entry e).srcUnit).out = none :: l) :
    execSlotMiss k e n s = .next (((s.modCluster k (fun x => x.close (x.fanOut ((s.cluster k).entry e) n.toNat) n.toNat)).atFabric
      k n.toNat).modCluster k (fun x => x.setSteer ((s.cluster k).entry e).srcUnit
        { (s.cluster k).steerAt ((s.cluster k).entry e).srcUnit with out := l })) := by
  rw [execSlotMiss, onCluster_eq hk]
  simp only [hopen]
  rw [if_neg (by simp [hlane, hr, State.takeBeat_conflict hsrc hkind hout]), if_pos (by simp [hsrc, hout])]
  simp only [hout, List.drop_succ_cons, List.drop_zero]

/-! ### Combining queues -/

/-- A bank with a contribution copied or combined into it (R292). -/
def CombBank.taking (b : CombBank) (op : Nat) (ws : List Word) : CombBank :=
  ⟨b.count + 1, if b.count = 0 then ws else (b.words.zip ws).map (fun p => combineWord op p.1 p.2)⟩

/-- The queue after its only waiting contribution has been taken. -/
def Combine.taking (z : Combine) (g : Contribution) : Combine :=
  let y := ({ z with arrived := [] } : Combine).setBank g.bank ((z.bank g.bank).taking z.op g.words)
  if (z.bank g.bank).count + 1 = z.contributors then { y with rounds := y.rounds + 1 } else y

theorem Combine.bank_taking (z : Combine) (g : Contribution) : (z.taking g).bank g.bank = (z.bank g.bank).taking z.op g.words := by
  unfold taking setBank
  dsimp only
  cases g.bank <;> split <;> rfl

theorem Combine.arrived_taking (z : Combine) (g : Contribution) : (z.taking g).arrived = [] := by
  unfold taking setBank
  dsimp only
  cases g.bank <;> split <;> rfl

theorem execCombineContribution_takes {z : Combine} (hk : k < 8064) (hz : (s.cluster k).combine.get Combine.reset q = z)
    (harr : z.arrived = [g]) (hvalid : z.valid = true) (hlen : g.words.length = z.words)
    (hcount : (z.bank g.bank).count < z.contributors) :
    execCombineContribution k q s =
      .next (s.setCluster k { s.cluster k with combine := (s.cluster k).combine.put q (z.taking g) }) := by
  rw [execCombineContribution, onCluster_eq hk]
  simp only [hz, harr, nextContribution]
  rw [if_neg (by simp [hvalid, hlen, Nat.not_le.mpr hcount])]
  rfl

theorem execCombineContribution_mismatch {z : Combine} (hk : k < 8064) (hz : (s.cluster k).combine.get Combine.reset q = z)
    (harr : z.arrived = [g]) (hbad : g.words.length ≠ z.words ∨ z.contributors ≤ (z.bank g.bank).count) :
    execCombineContribution k q s = .next (s.setCluster k (({ s.cluster k with
      combine := (s.cluster k).combine.put q { z with arrived := [] } }.bump 0x80068 1).report .routeMismatch z.route)) := by
  rw [execCombineContribution, onCluster_eq hk]
  simp only [hz, harr, nextContribution]
  rw [if_pos (by simp only [Bool.or_eq_true, decide_eq_true_eq]; omega)]

/-- The queue after the result of its first bank has left. -/
def Combine.departed (v : Combine) : Combine := { v with bank0 := CombBank.reset, nextBank := true, pend := v.pend + 1 }

theorem execCombineResultDeparture_eq {v : Combine} {y : SlotEntry} (hk : k < 8064) (hy : (s.cluster k).entry e = y)
    (hv : (s.cluster k).combine.get Combine.reset y.srcUnit = v) (hopen : s.open? k e n.toNat = some (d, r)) (hlane : y.lane = 1)
    (hsrc : y.srcKind = 4) (hvalid : v.valid = true) (hcont : v.contributors ≠ 0) (hnext : v.nextBank = false)
    (hfull : v.bank0.count = v.contributors) :
    execCombineResultDeparture k e n s = .next (((s.setCluster k (({ s.cluster k with
      combine := (s.cluster k).combine.put y.srcUnit v.departed } : Cluster).close ((s.cluster k).fanOut y n.toNat) n.toNat)).depart k
        n.toNat (.token (tupleFlits y.check false v.bank0.words)) ((s.cluster k).fanOut y n.toNat)).atFabric k n.toNat) := by
  rw [execCombineResultDeparture, onCluster_eq hk]
  simp only [hopen, hy, hv]
  rw [if_neg (by simp [hlane, hsrc, hvalid, hnext, Combine.bank, hfull, hcont])]
  simp only [hnext, Combine.bank, Combine.setBank]
  rfl

/-! ### The period -/

theorem SMap.look_map_keys {α : Type} (m : SMap α) (P : Nat → Prop) [DecidablePred P] (g : Nat → α → α) (c : Nat) :
    SMap.look (m.map (fun p => if P p.1 then (p.1, g p.1 p.2) else p)) c = (m.look c).map (fun v => if P c then g c v else v) := by
  induction m with
  | nil => rfl
  | cons p r ih =>
    obtain ⟨j, v⟩ := p
    rw [List.map_cons]
    dsimp only
    by_cases hc : c = j
    · subst hc
      split <;> simp [SMap.look]
    · split <;> simp [SMap.look, hc, ih]

/-- A change of the listed cores of a cluster reaches a core of it that is listed, and no other. -/
theorem State.core_mapCores {t : State} {g : Nat → Core → Core}
    (ht : t.cores = s.cores.map (fun p => if clusterOf p.1 = k then (p.1, g p.1 p.2) else p)) (hr : t.regions = s.regions) (c : Nat) :
    (clusterOf c = k ∧ t.core c = g c (s.core c)) ∨ (t.core c = s.core c ∧ (clusterOf c = k → s.core c = s.freshCore c)) := by
  have hfresh : t.freshCore c = s.freshCore c := by unfold freshCore seedFor; rw [hr]
  have hlook : t.cores.look c = (s.cores.look c).map (fun v => if clusterOf c = k then g c v else v) := by
    rw [ht]; exact SMap.look_map_keys s.cores (fun j => clusterOf j = k) g c
  unfold core SMap.get
  rw [hlook, hfresh]
  cases s.cores.look c with
  | none => exact .inr ⟨rfl, fun _ => rfl⟩
  | some v =>
    by_cases hc : clusterOf c = k
    · exact .inl ⟨hc, if_pos hc⟩
    · exact .inr ⟨if_neg hc, fun h => absurd h hc⟩

theorem Core.got_startPeriod (x : Core) (q : Nat) : (x.startPeriod.inq q).got = 0 := by
  unfold startPeriod inq
  dsimp only
  rw [SMap.get_mapV]
  cases x.inQ.look q <;> rfl

theorem Core.n_startPeriod (x : Core) (q : Nat) : (x.startPeriod.inq q).n = (x.inq q).n := by
  unfold startPeriod inq
  dsimp only
  rw [SMap.get_mapV]
  unfold SMap.get
  cases x.inQ.look q <;> rfl

theorem Core.sentN_startPeriod (x : Core) (q : Nat) : (x.startPeriod.outq q).sentN = 0 := by
  unfold startPeriod outq
  dsimp only
  rw [SMap.get_mapV]
  cases x.outQ.look q <;> rfl

theorem Core.round_startPeriod (x : Core) (q : Nat) : (x.startPeriod.outw q).round = false := by
  unfold startPeriod outw
  dsimp only
  rw [SMap.get_mapV]
  cases x.outW.look q <;> rfl

/-! ### Drop windows -/

/-- `y` has the queues, the channels and the registers of `x`. -/
def Core.SameQueues (x y : Core) : Prop := y.inQ = x.inQ ∧ y.outQ = x.outQ ∧ y.inW = x.inW ∧ y.outW = x.outW ∧ y.regs = x.regs

theorem Core.inboxControl_sameQueues (x : Core) (m : SMap Inbox) (d : Long) (b : Inbox) :
    x.SameQueues ({ x with inbox := m }.inboxControl d b) := by
  unfold inboxControl storeBytes
  dsimp only
  split
  · next k' heq => split at heq <;> cases heq; exact ⟨rfl, rfl, rfl, rfl, rfl⟩
  · next k' w heq =>
      split at heq <;> cases heq
      unfold raise
      dsimp only
      split <;> exact ⟨rfl, rfl, rfl, rfl, rfl⟩

/-- A core with its queues and channels as a drop leaves them (R304). -/
def Core.clearQueues (x : Core) : Core :=
  { x with
    inQ := []
    outQ := x.outQ.mapV (fun y => { OutQ.reset with credits := y.depths, depths := y.depths, backs := y.depths.map (fun _ => 0) })
    inW := []
    outW := x.outW.mapV (fun y => { OutW.reset with credits := y.depths, depths := y.depths, comb := y.comb }) }

theorem Core.clearPlane_sameQueues (x : Core) (descs : Nat → Long) : x.clearQueues.SameQueues (x.clearPlane descs) := by
  refine foldl_pred (P := fun y : Core => x.clearQueues.SameQueues y) ?_ _ ⟨rfl, rfl, rfl, rfl, rfl⟩
  rintro y p ⟨h1, h2, h3, h4, h5⟩
  obtain ⟨h1', h2', h3', h4', h5'⟩ := y.inboxControl_sameQueues (y.inbox.put p.1 ⟨p.2.drain, 0, [], []⟩) (descs p.1)
    ⟨p.2.drain, 0, [], []⟩
  exact ⟨h1'.trans h1, h2'.trans h2, h3'.trans h3, h4'.trans h4, h5'.trans h5⟩

/-- The queues of a core that a drop has cleared are empty. -/
theorem Core.clearPlane_empty (x : Core) (descs : Nat → Long) (q : Nat) :
    ((x.clearPlane descs).inq q).n = 0 ∧ ((x.clearPlane descs).outq q).n = 0 ∧ ((x.clearPlane descs).inw q).buf = [] ∧
      ((x.clearPlane descs).outw q).buf = [] ∧ (x.clearPlane descs).regs = x.regs := by
  obtain ⟨hinq, houtq, hinw, houtw, hregs⟩ := x.clearPlane_sameQueues descs
  unfold inq outq inw outw
  rw [hinq, houtq, hinw, houtw]
  unfold clearQueues
  dsimp only
  rw [SMap.get_mapV, SMap.get_mapV]
  refine ⟨rfl, ?_, rfl, ?_, hregs⟩
  · cases x.outQ.look q <;> rfl
  · cases x.outW.look q <;> rfl

/-! ### The commands of a period -/

/-- A router in which a period starts (R260). -/
def Cluster.startPeriod (x : Cluster) : Cluster :=
  { x with
    discarding := false, doneOcc := []
    steer := x.steer.mapV (fun y => { y with
      got := [], sentN := [], base := 0, gotTok := 0, owed := 0, retried := 0, lost := [], missed := 0,
      backs := y.backs.mapV (fun l => l.map (fun _ => 0)) })
    combine := x.combine.mapV (fun q => { q with nextBank := false }) }

theorem execRouterPeriodStart_eq (hk : k < 8064) (hen : nbit (s.cluster k).spCtrl.toNat 0 = true)
    (hn : n.toNat = (s.cluster k).periodStart) : execRouterPeriodStart k n s =
      .next (((s.setCluster k (s.cluster k).startPeriod).modCores k Core.startPeriod).atFabric k n.toNat) := by
  rw [execRouterPeriodStart, onCluster_eq hk]
  exact congrArg _ (if_pos (by simp [hen, hn]))

theorem execPeriodStartWrite_eq (hk : k < 8064) : execPeriodStartWrite k n s = .next (s.modCluster k (fun x =>
    if n.toNat < s.fabricOf (fieldOf k) then x.report .startFault 0 else { x with periodStart := n.toNat })) := onCluster_eq hk ..

theorem execDropWindowStart_eq (hk : k < 8064) (hdrop : (s.cluster k).dropsAt n.toNat = true)
    (hdis : (s.cluster k).discarding = false) : execDropWindowStart k n s =
      .next (((s.modCluster k (fun x => { x with discarding := true })).clearPlane k).atFabric k n.toNat) := by
  rw [execDropWindowStart, onCluster_eq hk]
  exact congrArg _ (when'_true (by simp [hdrop, hdis]))

theorem execDropCycle_send (hk : k < 8064) : execDropCycle (.send k) s = .next (s.sendDropCycle k) :=
  ctlStep_send (decide_eq_true hk)

theorem execSootAdvance_eq (hk : k < 8064) (v : Word) :
    execSootAdvance k v s = .next (s.modCluster k (fun x => { x with soot := advance x.soot v })) := onCluster_eq hk ..

theorem execTelemAdvance_eq (hk : k < 8064) (v : Word) :
    execTelemAdvance k v s = .next (s.modCluster k (fun x => { x with telem := advance x.telem v })) := onCluster_eq hk ..

theorem advance_head (rest : List AdvItem) (seq : Nat) (item : Long) (v : Word) :
    advance ((seq, item) :: rest) v = if v.toNat % 65536 = seq then rest else (seq, item) :: rest := rfl

/-- What the begin of a drop window leaves of its router and of a core of it. -/
theorem State.dropped_leaves (s : State) (k n c : Nat) :
    (((s.modCluster k (fun x => { x with discarding := true })).clearPlane k).atFabric k n).cluster k =
      ({ s.cluster k with discarding := true } : Cluster).clearPlane ∧
    (clusterOf c = k →
      (∃ descs, (((s.modCluster k (fun x => { x with discarding := true })).clearPlane k).atFabric k n).core c =
        (s.core c).clearPlane descs) ∨
      ((((s.modCluster k (fun x => { x with discarding := true })).clearPlane k).atFabric k n).core c = s.core c ∧
        s.core c = s.freshCore c)) := by
  rw [State.cluster_atFabric, State.core_atFabric]
  unfold clearPlane
  dsimp only
  rw [State.cluster_modCluster_same]
  generalize hx : ({ s.cluster k with discarding := true } : Cluster) = x
  refine ⟨State.cluster_setCluster_same _ _ _, fun hc => ?_⟩
  obtain ⟨-, he⟩ | ⟨he, hfresh⟩ := State.core_mapCores (s := s) (k := k) (g := fun j y => y.clearPlane (x.inboxDesc (coreIdx j)))
    (t := { (s.modCluster k (fun x => { x with discarding := true })).setCluster k x.clearPlane with
      cores := s.cores.map (fun p => if clusterOf p.1 = k then (p.1, p.2.clearPlane (x.inboxDesc (coreIdx p.1))) else p) }) rfl rfl c
  · exact .inl ⟨_, he⟩
  · exact .inr ⟨he, hfresh hc⟩

end Sys2Proof.Machine

open Sys2Proof Sys2Proof.Machine

/-- Settles O43: each of the router's commands by the branch that its condition takes. -/
theorem combiningAndPeriods : Obligations.CombiningAndPeriods := by
  unfold Obligations.CombiningAndPeriods
  refine ⟨?_, ?_⟩
  · intro s k st q e d r n b0 b1 l0 l1 l g x m z bank y hk
    refine ⟨fun hst hkind hways h0 h1 => ⟨fun hn0 hn1 => ?_, fun hn0 hn1 => ?_⟩, fun hopen hlane hsrc hr hkind hout => ?_,
      fun harr hvalid => ⟨fun hlen hcount => ?_, fun hbad => ?_⟩, ?_⟩
    · refine ⟨_, execMergeRound_one hk hst hkind hways h0 h1 hn0 hn1, ?_⟩
      beta_reduce
      rw [State.cluster_setCluster_same, Cluster.steerAt_setSteer]
      exact ⟨rfl, m.held_roundTaken 0 b0 l0 h0, m.held_roundTaken 1 b1 l1 h1⟩
    · refine ⟨_, execMergeRound_conflict hk hst hkind hways h0 h1 hn0 hn1, ?_⟩
      beta_reduce
      rw [State.cluster_setCluster_same]
      exact ⟨Cluster.steerAt_setSteer _ _ _ ▸ rfl, rfl⟩
    · refine ⟨_, execSlotMiss_conflict hk hopen hlane hsrc hr hkind hout, ?_⟩
      beta_reduce
      rw [State.cluster_modCluster_same, State.cluster_atFabric, State.cluster_modCluster_same]
      exact ⟨rfl, congrArg Steer.out (Cluster.steerAt_setSteer _ _ _)⟩
    · refine ⟨_, execCombineContribution_takes hk rfl harr hvalid hlen hcount, ?_⟩
      beta_reduce
      rw [State.cluster_setCluster_same]
      dsimp only
      rw [SMap.get_put_same]
      have hbank : (if g.bank then (z.taking g).bank1 else (z.taking g).bank0) = bank.taking z.op g.words := z.bank_taking g
      refine ⟨z.arrived_taking g, ?_⟩
      rw [hbank]
      exact ⟨rfl, fun h0 => if_pos h0, fun h0 => (if_neg h0).trans List.map_zip_eq_zipWith⟩
    · refine ⟨_, execCombineContribution_mismatch hk rfl harr hbad, ?_⟩
      beta_reduce
      rw [State.cluster_setCluster_same]
      exact ⟨rfl, SMap.get_put_same _ _ _ _⟩
    · intro v hopen hlane hsrc hvalid hcont hnext hfull
      refine ⟨_, execCombineResultDeparture_eq hk rfl rfl hopen hlane hsrc hvalid hcont hnext hfull, ?_⟩
      obtain ⟨⟨_, _, _, _, he⟩, -⟩ := State.departed_leaves (s.setCluster k (({ x with
        combine := x.combine.put y.srcUnit v.departed } : Cluster).close (x.fanOut y n.toNat) n.toNat)) k n.toNat
        (.token (tupleFlits y.check false v.bank0.words)) (x.fanOut y n.toNat)
      rw [State.cluster_setCluster_same] at he
      rw [he]
      exact SMap.get_put_same _ _ _ _
  · intro s k c q id kc n v seq item rest p x hk
    refine ⟨fun hen hn => ?_, fun hle => ?_, fun hlt => ?_, fun hdrop hdis => ?_, fun hkc hmay => ?_, fun harr => ?_, fun hsoot => ?_,
      fun htelem => ?_⟩
    · refine ⟨_, execRouterPeriodStart_eq hk hen hn, ?_⟩
      have hcore := fun c => State.core_mapCores (s := s.setCluster k x.startPeriod) (k := k) (g := fun _ => Core.startPeriod)
        (t := ((s.setCluster k x.startPeriod).modCores k Core.startPeriod).atFabric k n.toNat) (State.atFabric_cores ..)
        (State.atFabric_regions ..) c
      have hcluster : (((s.setCluster k x.startPeriod).modCores k Core.startPeriod).atFabric k n.toNat).cluster k = x.startPeriod :=
        (State.cluster_atFabric ..).trans (s.cluster_setCluster_same k _)
      generalize ((s.setCluster k x.startPeriod).modCores k Core.startPeriod).atFabric k n.toNat = t at hcore hcluster
      beta_reduce
      rw [hcluster]
      refine ⟨rfl, rfl, fun hc => ?_, fun hc => ?_⟩
      · obtain ⟨-, he⟩ | ⟨he, hfresh⟩ := hcore c
        · rw [he]
          exact ⟨Core.got_startPeriod _ q, Core.sentN_startPeriod _ q, Core.round_startPeriod _ q, Core.n_startPeriod _ q, rfl⟩
        · rw [he, show s.core c = s.freshCore c from hfresh hc, hfresh hc]
          exact ⟨rfl, rfl, rfl, rfl, rfl⟩
      · obtain ⟨h, -⟩ | ⟨he, -⟩ := hcore c
        · exact absurd h hc
        · exact he
    · refine ⟨_, execPeriodStartWrite_eq hk, ?_⟩
      beta_reduce
      rw [State.cluster_modCluster_same, if_neg (Nat.not_lt.mpr hle)]
      exact ⟨rfl, rfl⟩
    · refine ⟨_, execPeriodStartWrite_eq hk, ?_⟩
      beta_reduce
      rw [State.cluster_modCluster_same, if_pos hlt]
      exact ⟨rfl, rfl⟩
    · refine ⟨_, execDropWindowStart_eq hk hdrop hdis, ?_⟩
      obtain ⟨hcluster, hcore⟩ := s.dropped_leaves k n.toNat c
      generalize ((s.modCluster k (fun x => { x with discarding := true })).clearPlane k).atFabric k n.toNat = t at hcluster hcore
      rw [hcluster]
      refine ⟨rfl, fun hc => ?_, rfl, rfl⟩
      obtain ⟨descs, he⟩ | ⟨he, hfresh⟩ := hcore hc
      · rw [he]
        exact Core.clearPlane_empty _ _ q
      · rw [he, hfresh]
        exact ⟨rfl, rfl, rfl, rfl, rfl⟩
    · refine .of_sendCtl (t := s) (addr := 0) (len := 8) ((execDropCycle_send hk).trans ?_) hmay rfl rfl rfl (fun txn => rfl)
      unfold State.sendDropCycle
      rw [hkc]
    · change Answers (execDropCycle (.arrive id) s) s p 8 0 [] _
      exact .of_arrive (r := ((s.received id p).modCluster p.home (fun y => { y with dropAt := ofLe p.payload }), [])) harr rfl rfl
        ⟨congrArg Cluster.dropAt ((s.received id p).cluster_modCluster_same p.home (fun y => { y with dropAt := ofLe p.payload })), rfl⟩
    · refine ⟨_, execSootAdvance_eq hk v, ?_⟩
      beta_reduce
      rw [State.cluster_modCluster_same]
      exact (congrArg (advance · v) hsoot).trans (hsoot ▸ advance_head ..)
    · refine ⟨_, execTelemAdvance_eq hk v, ?_⟩
      beta_reduce
      rw [State.cluster_modCluster_same]
      exact (congrArg (advance · v) htelem).trans (htelem ▸ advance_head ..)
end

section
/-! SUPPORT. The sources of the scheduled plane: occurrences, the flights of a departure, and what leaves at a slot (R224, R225, R264,
R271, R281, R282, R286). -/

namespace Sys2Proof.Machine

variable {s t : State} {x : Cluster} {k e d r : Nat} {n : Nat} {y : SlotEntry}

/-- What one element of a list brings about from every value that satisfies an invariant, and the others keep, holds at the list's
end. -/
theorem foldl_reaches_under {α β : Type} {I P : β → Prop} {f : β → α → β} {a : α} {l : List α} (ha : a ∈ l)
    (hI : ∀ b c, I b → I (f b c)) (hset : ∀ b, I b → P (f b a)) (hf : ∀ b c, c ∈ l → I b → P b → P (f b c)) {b : β} (hb : I b) :
    P (l.foldl f b) := by
  have hkeep : ∀ l' : List α, l' ⊆ l → ∀ b, I b → P b → P (l'.foldl f b) := by
    intro l' hsub
    induction l' with
    | nil => exact fun _ _ h => h
    | cons c r ih =>
      intro b hb h
      exact ih (fun _ hc => hsub (List.mem_cons_of_mem _ hc)) _ (hI b c hb) (hf b c (hsub List.mem_cons_self) hb h)
  obtain ⟨l₁, l₂, rfl⟩ := List.append_of_mem ha
  rw [List.foldl_append, List.foldl_cons]
  have hmid : I (l₁.foldl f b) := foldl_pred hI l₁ hb
  exact hkeep l₂ (fun _ h => List.mem_append_right _ (List.mem_cons_of_mem _ h)) _ (hI _ a hmid) (hset _ hmid)

/-! ### Occurrences -/

theorem SMap.mem_of_look {α : Type} {m : SMap α} {b : Nat} {v : α} (h : m.look b = some v) : (b, v) ∈ m := by
  induction m with
  | nil => cases h
  | cons p r ih =>
    obtain ⟨j, w⟩ := p
    simp only [SMap.look] at h
    split at h
    · next hj => cases h; rw [hj]; exact List.mem_cons_self
    · exact List.mem_cons_of_mem _ (ih h)

theorem State.open?_iff : s.open? k e n = some (d, r) ↔ s.spRuns k = true ∧ (s.cluster k).applies n = true ∧
    ((s.cluster k).entry e).valid = true ∧ ((s.cluster k).entry e).inPort = 4 ∧
    (s.cluster k).occurs ((s.cluster k).entry e) n = some (d, r) ∧ (s.cluster k).doneOcc.get 0 e ≤ d := by
  unfold open?
  dsimp only
  constructor
  · intro h
    split at h
    · next hc =>
        simp only [Bool.and_eq_true, decide_eq_true_eq] at hc
        obtain ⟨⟨⟨hrun, happ⟩, hval⟩, hin⟩ := hc
        split at h
        · next d' r' hocc =>
            split at h
            · next hle => cases h; exact ⟨hrun, happ, hval, hin, hocc, hle⟩
            · cases h
        · cases h
    · cases h
  · rintro ⟨hrun, happ, hval, hin, hocc, hle⟩
    rw [if_pos (by simp [hrun, happ, hval, hin]), hocc]
    exact if_pos hle

/-- A valid entry stands in the slot table. -/
theorem Cluster.mem_slots (h : (x.entry e).valid = true) : (e, x.entry e) ∈ x.slots := by
  unfold entry SMap.get at *
  cases hlook : x.slots.look e with
  | none => rw [hlook] at h; exact absurd h (by decide)
  | some v => exact SMap.mem_of_look hlook

/-- An entry with an occurrence that is open is in its own fan-out. -/
theorem State.mem_fanOut (h : s.open? k e n = some (d, r)) :
    (e, (s.cluster k).entry e) ∈ (s.cluster k).fanOut ((s.cluster k).entry e) n := by
  obtain ⟨-, happ, hval, hin, hocc, hle⟩ := State.open?_iff.mp h
  unfold Cluster.fanOut Cluster.expecting Cluster.occurring
  rw [if_neg (by simp [happ])]
  refine List.mem_filter.mpr ⟨List.mem_filter.mpr ⟨List.mem_filter.mpr ⟨Cluster.mem_slots hval, ?_⟩, ?_⟩, ?_⟩
  · simp [hval, hin, hocc]
  · simp [hocc, hle]
  · simp

theorem Cluster.fanOut_subset {p : Nat × SlotEntry} (h : p ∈ x.fanOut y n) : p ∈ x.slots := by
  unfold fanOut expecting occurring at h
  have h' := (List.mem_filter.mp (List.mem_filter.mp h).1).1
  split at h'
  · cases h'
  · exact (List.mem_filter.mp h').1

/-- An occurrence is closed for an entry that is in the list, where it is there with no other content. -/
theorem Cluster.doneOcc_close {es : List (Nat × SlotEntry)} (hmem : (e, y) ∈ es) (hone : ∀ p ∈ es, p.1 = e → p.2 = y)
    (hocc : x.occurs y n = some (d, r)) : (x.close es n).doneOcc.get 0 e = d + 1 := by
  show (es.foldl (fun m p => match x.occurs p.2 n with | some (d, _) => m.put p.1 (d + 1) | none => m) x.doneOcc).get 0 e = d + 1
  refine foldl_reaches_under (I := fun _ => True) (P := fun m : SMap Nat => m.get 0 e = d + 1) hmem (fun _ _ _ => trivial) ?_ ?_
    trivial
  · intro m _
    dsimp only
    rw [hocc]
    exact SMap.get_put_same _ _ _ _
  · rintro m ⟨j, w⟩ hj - hm
    dsimp only
    by_cases he : j = e
    · subst he
      rw [show w = y from hone _ hj rfl, hocc]
      exact SMap.get_put_same _ _ _ _
    · split
      · exact (SMap.get_put_ne (Ne.symm he)).trans hm
      · exact hm

/-- An occurrence that has had its head flit is open no more. -/
theorem State.open?_closed {x' : Cluster} (hx : t.cluster k = x') (hslots : x'.entry e = y) (hocc : x'.occurs y n = some (d, r))
    (hdone : x'.doneOcc.get 0 e = d + 1) : t.open? k e n = none := by
  cases h : t.open? k e n with
  | none => rfl
  | some o =>
    obtain ⟨-, -, -, -, hocc', hle⟩ := State.open?_iff.mp (show t.open? k e n = some (o.1, o.2) from h)
    rw [hx] at hocc' hle
    rw [hslots, hocc] at hocc'
    cases hocc'
    omega

/-- A router whose notes have changed has an occurrence closed that a departure closed. -/
theorem State.open?_departed {x' : Cluster} (hopen : s.open? k e n = some (d, r)) (hx' : ∃ y', (s.cluster k).Noted y' ∧
    (y'.close ((s.cluster k).fanOut ((s.cluster k).entry e) n) n).Noted x') (ht : t.cluster k = x')
    (hone : ∀ p ∈ (s.cluster k).slots, p.1 = e → p.2 = (s.cluster k).entry e) : t.open? k e n = none := by
  obtain ⟨-, -, -, -, hocc, -⟩ := State.open?_iff.mp hopen
  obtain ⟨y', ⟨_, _, _, _, rfl⟩, _, _, _, _, rfl⟩ := hx'
  exact State.open?_closed ht rfl hocc (Cluster.doneOcc_close (State.mem_fanOut hopen)
    (fun p hp => hone p (Cluster.fanOut_subset hp)) hocc)

/-! ### The flights of a departure -/

/-- A train that leaves by one port. -/
def State.sendPort (k n : Nat) (faulty : Bool) (cargo : Cargo) (es : List (Nat × SlotEntry)) (s : State) (p : Nat) : State :=
  if es.any (fun e => e.2.out p) && s.laneUp k p then
    match neighbour k p with
    | some k' => s.addFlight ⟨k', facing p, n + s.linkLatency k p, faulty, cargo⟩
    | none => s
  else s

/-- A flight that has set out, with a number below that of the next. -/
def State.Flies (s : State) (f : Flight) : Prop := ∃ id, id < s.net.nextFlight ∧ s.net.flights.look id = some f

theorem State.flies_addFlight (s : State) (f : Flight) : (s.addFlight f).Flies f :=
  ⟨s.net.nextFlight, Nat.lt_succ_self _, SMap.look_put_same _ _ _⟩

theorem State.Flies.addFlight {f : Flight} (h : s.Flies f) (g : Flight) : (s.addFlight g).Flies f := by
  obtain ⟨id, hid, hlook⟩ := h
  exact ⟨id, Nat.lt_succ_of_lt hid, (SMap.look_put_ne (Nat.ne_of_lt hid)).trans hlook⟩

theorem State.Flies.sendPort {f : Flight} (h : s.Flies f) (k n : Nat) (faulty : Bool) (cargo : Cargo)
    (es : List (Nat × SlotEntry)) (p : Nat) : (s.sendPort k n faulty cargo es p).Flies f := by
  unfold State.sendPort
  split
  · split
    · exact h.addFlight _
    · exact h
  · exact h

theorem mem_ports {p : Nat} (hp : p < 4) : p ∈ [0, 1, 2, 3] := by
  simp only [List.mem_cons, List.not_mem_nil, or_false]
  omega

/-- A train sets out by each output that an entry names and whose link carries it. -/
theorem State.flies_sendOut {k' p : Nat} {faulty : Bool} {cargo : Cargo} {es : List (Nat × SlotEntry)} (hp : p < 4)
    (hout : es.any (fun e => e.2.out p) = true) (hup : s.laneUp k p = true) (hnb : neighbour k p = some k') :
    (s.sendOut k n faulty cargo es).Flies ⟨k', facing p, n + s.linkLatency k p, faulty, cargo⟩ := by
  refine foldl_reaches_under (I := fun t : State => ∃ fl nx, t = { s with net := { s.net with flights := fl, nextFlight := nx } })
    (P := fun t : State => t.Flies ⟨k', facing p, n + s.linkLatency k p, faulty, cargo⟩)
    (f := State.sendPort k n faulty cargo es) (a := p) (mem_ports hp) ?_ ?_ ?_ ⟨s.net.flights, s.net.nextFlight, rfl⟩
  · rintro t q ⟨fl, nx, rfl⟩
    unfold State.sendPort
    split
    · split
      · exact ⟨_, _, rfl⟩
      · exact ⟨_, _, rfl⟩
    · exact ⟨_, _, rfl⟩
  · rintro t ⟨fl, nx, rfl⟩
    unfold State.sendPort
    rw [if_pos (by rw [hout]; exact hup), hnb]
    exact State.flies_addFlight _ _
  · intro t q _ _ h
    exact h.sendPort k n faulty cargo es q

theorem Cargo.take_flits (l : List Byte) : (Cargo.frame l).take (Cargo.frame l).flits = .frame l :=
  congrArg Cargo.frame (List.take_of_length_le (by show l.length ≤ 64 * ((l.length + 63) / 64); omega))

theorem Cluster.before_of_clear {c : Cargo} (h : ∀ j, j < c.flits → x.dropsAt (n + j) = false) : x.before n c = c.flits := by
  unfold before
  rw [List.find?_eq_none.mpr (fun j hj => by simp [h j (List.mem_range.mp hj)])]
  rfl

/-- A frame that departs whole sets out by each output that an entry names and whose link carries it. -/
theorem State.flies_depart {k' p : Nat} {l : List Byte} {es : List (Nat × SlotEntry)}
    (hcheck : ∀ q ∈ es, q.2.check = (Cargo.frame l).route)
    (hclear : ∀ j, j < (Cargo.frame l).flits → (s.cluster k).dropsAt (n + j) = false) (hp : p < 4)
    (hout : es.any (fun e => e.2.out p) = true) (hup : s.laneUp k p = true) (hnb : neighbour k p = some k') :
    (s.depart k n (.frame l) es).Flies ⟨k', facing p, n + s.linkLatency k p, false, .frame l⟩ := by
  unfold State.depart
  rw [List.find?_eq_none.mpr (fun q hq => by simp [hcheck q hq]), Cluster.before_of_clear hclear, Cargo.take_flits]
  have h := State.flies_sendOut (n := n) (faulty := false) (cargo := .frame l) hp hout hup hnb
  dsimp only
  generalize s.sendOut k n false (.frame l) es = t at h
  split
  · exact h.addFlight _
  · exact h

/-! ### Departures -/

theorem haveCredit_of_all {l : List Nat} (d : Long) (h : ∀ m ∈ l, m ≠ 0) : haveCredit (consumerCounts d l) = true :=
  List.all_eq_true.mpr fun m hm => decide_eq_true (h m (List.mem_of_mem_take hm))

/-- A tile queue with an entry and a credit from each consumer has its oldest entry ready, which leaves the ring. -/
theorem State.takeBeat_queue {q : OutQ} {td : Long} {k1 : Core} {l : List Byte} (hsrc : y.srcKind = 1)
    (hq : (s.core (k * 32 + y.srcUnit)).outq y.srcQ = q) (htd : (s.cluster k).outTile y.srcUnit y.srcQ = td) (hn : 0 < q.n)
    (hvalid : descValid td = true) (hcred : ∀ m ∈ q.credits, m ≠ 0)
    (hread : (s.core (k * 32 + y.srcUnit)).readEntry (entryAt td q.rd) = (k1, .ok l)) :
    s.takeBeat k y = some (.ok (frameBytes (descRoute td) q.sentN { frameBeat l with last := (q.send td).2.1 },
      s.setCore (k * 32 + y.srcUnit) { k1 with outQ := k1.outQ.put y.srcQ (q.send td).1 })) := by
  unfold takeBeat
  rw [if_pos hsrc]
  dsimp only
  rw [hq, htd, if_pos (by simp [haveCredit_of_all td hcred, hn, hvalid]), hread]
  rfl

/-- A tile queue without an entry has no beat ready. -/
theorem State.takeBeat_empty (hsrc : y.srcKind = 1) (hn : ((s.core (k * 32 + y.srcUnit)).outq y.srcQ).n = 0) :
    s.takeBeat k y = none := by
  unfold takeBeat
  rw [if_pos hsrc]
  dsimp only
  rw [if_neg (by simp [hn])]

theorem Cluster.noteRetry_noted {r idx : Nat} (hsrc : y.srcKind = 1) : x.Noted (x.noteRetry y r n idx) := by
  unfold noteRetry
  dsimp only
  split
  · exact .refl x
  · rw [if_pos (by simp [hsrc])]
    exact ((Cluster.Noted.refl x).bump _ _).trans (Cluster.postTelem_noted _ _ _ _)

/-- A beat that its source has ready departs. -/
theorem execSlotDeparture_eq {n : Long} {l : List Byte} {s1 : State} (hk : k < 8064) (hopen : s.open? k e n.toNat = some (d, r))
    (hy : (s.cluster k).entry e = y) (hlane : y.lane = 0) (hbeat : s.takeBeat k y = some (.ok (l, s1))) :
    execSlotDeparture k e n s = .next (((s1.modCluster k (fun x => (x.noteRetry y r n.toNat
      (((s.cluster k).steerAt y.srcUnit).sentN.get 0 y.srcQ)).close ((s.cluster k).fanOut y n.toNat) n.toNat)).depart k n.toNat (.frame l)
        ((s.cluster k).fanOut y n.toNat)).atFabric k n.toNat) := by
  rw [execSlotDeparture, onCluster_eq hk]
  simp only [hopen, hy]
  rw [if_neg (by simp [hlane]), hbeat]

/-- The last slot cycle of a tile queue without an entry. -/
theorem execSlotMiss_empty {n : Long} (hk : k < 8064) (hopen : s.open? k e n.toNat = some (d, r)) (hy : (s.cluster k).entry e = y)
    (hlane : y.lane = 0) (hsrc : y.srcKind = 1) (hr : r = y.retries)
    (hn : ((s.core (k * 32 + y.srcUnit)).outq y.srcQ).n = 0) :
    execSlotMiss k e n s = .next (((s.modCluster k (fun x => x.close (x.fanOut y n.toNat) n.toNat)).atFabric
      k n.toNat).modCluster k (fun x => (x.bump slotMissCount 1).report .slotMiss (s.producerId k y))) := by
  rw [execSlotMiss, onCluster_eq hk]
  simp only [hopen, hy]
  rw [if_neg (by simp [hlane, hr, State.takeBeat_empty hsrc hn]), if_neg (by simp [hsrc])]
  unfold Cluster.missSlot
  simp only [hsrc]
  rfl

/-- A tuple of a channel with a credit from each consumer departs. -/
theorem execTupleDeparture_eq {n : Long} {u : OutW} {wd : Long} {w : List Word} {ws : List (List Word)} (hk : k < 8064)
    (hopen : s.open? k e n.toNat = some (d, r)) (hy : (s.cluster k).entry e = y) (hlane : y.lane = 1) (hsrc : y.srcKind = 2)
    (hu : (s.core (k * 32 + y.srcUnit)).outw y.srcQ = u) (hwd : (s.cluster k).outWord y.srcUnit y.srcQ = wd) (hbuf : u.buf = w :: ws)
    (hvalid : descValid wd = true) (hadv : descAdvisory wd = false) (hcred : ∀ m ∈ u.credits, m ≠ 0) :
    execTupleDeparture k e n s = .next ((((s.setCore (k * 32 + y.srcUnit) { s.core (k * 32 + y.srcUnit) with
      outW := (s.core (k * 32 + y.srcUnit)).outW.put y.srcQ
        { u with buf := ws, round := !u.round, credits := u.credits.map (· - 1) } }).modCluster k (fun x =>
          x.close ((s.cluster k).fanOut y n.toNat) n.toNat)).depart k n.toNat (.token (tupleFlits (descRoute wd) u.round w))
            ((s.cluster k).fanOut y n.toNat)).atFabric k n.toNat) := by
  rw [execTupleDeparture, onCluster_eq hk]
  simp only [hopen, hy]
  rw [if_neg (by simp [hlane, hsrc])]
  simp only [hu, hwd, hbuf]
  rw [if_pos (by simp [hvalid, haveCredit_of_all wd hcred])]
  simp only [hadv]
  rfl

/-- A core that has given up what departs, and the occurrence of its entry, which is closed. -/
theorem State.sent_leaves (hopen : s.open? k e n = some (d, r)) (c : Nat) (z : Core) (cargo : Cargo) :
    let es := (s.cluster k).fanOut ((s.cluster k).entry e) n
    let t := (((s.setCore c z).modCluster k (fun x => x.close es n)).depart k n cargo es).atFabric k n
    t.core c = z ∧ ((∀ p ∈ (s.cluster k).slots, p.1 = e → p.2 = (s.cluster k).entry e) → t.open? k e n = none) := by
  intro es t
  obtain ⟨hrouter, hcores⟩ := ((s.setCore c z).modCluster k (fun x => x.close es n)).departed_leaves k n cargo es
  rw [State.cluster_modCluster_same] at hrouter
  exact ⟨(hcores c).trans (s.core_setCore_same c z), State.open?_departed hopen ⟨_, .refl _, hrouter⟩ rfl⟩

theorem State.takeCredits_queue {i : InQ} (hsrc : y.srcKind = 5) (hi : (s.core (k * 32 + y.srcUnit)).inq y.srcQ = i) :
    s.takeCredits k y = (i.pend, s.setCore (k * 32 + y.srcUnit) { s.core (k * 32 + y.srcUnit) with
      inQ := (s.core (k * 32 + y.srcUnit)).inQ.put y.srcQ { i with pend := 0 } }) := by
  unfold takeCredits
  rw [if_pos hsrc, ← hi]

/-- A credit slot with credits pending sends them, and one with none sends nothing. -/
theorem execCreditFlitSend_eq {n : Long} {i : InQ} (hk : k < 8064) (hopen : s.open? k e n.toNat = some (d, r))
    (hy : (s.cluster k).entry e = y) (hlane : y.lane = 1) (hsrc : y.srcKind = 5)
    (hi : (s.core (k * 32 + y.srcUnit)).inq y.srcQ = i) :
    execCreditFlitSend k e n s = .next (if i.pend = 0 then s else
      ((((s.setCore (k * 32 + y.srcUnit) { s.core (k * 32 + y.srcUnit) with
        inQ := (s.core (k * 32 + y.srcUnit)).inQ.put y.srcQ { i with pend := 0 } }).modCluster k (fun x =>
          x.close ((s.cluster k).fanOut y n.toNat) n.toNat)).depart k n.toNat
            (.token [creditFlit y.check (s.consumerIdx k y) i.pend]) ((s.cluster k).fanOut y n.toNat)).atFabric k n.toNat)) := by
  rw [execCreditFlitSend, onCluster_eq hk]
  simp only [hopen, hy]
  rw [if_neg (by simp [hlane])]
  simp only [State.takeCredits_queue hsrc hi]

end Sys2Proof.Machine

open Sys2Proof Sys2Proof.Machine

/-- Settles O41: an occurrence that is open is in its entry's own fan-out, which the departure closes. -/
theorem sourcesSend : Obligations.SourcesSend := by
  unfold Obligations.SourcesSend
  intro s k e d r n k1 l w ws x y c q u i td wd frame closed hk hopen
  refine ⟨fun hlane hsrc hn hvalid hcred hread => ?_, fun hlane hsrc hn hr => ?_, fun hlane hsrc hbuf hvalid hadv hcred => ?_,
    fun hlane hsrc hpend => ?_, fun hlane hsrc hpend => ?_⟩
  · have hbeat := State.takeBeat_queue hsrc rfl rfl hn hvalid hcred hread
    refine ⟨_, execSlotDeparture_eq hk hopen rfl hlane hbeat, ?_⟩
    beta_reduce
    have hnoted : x.Noted (x.noteRetry y r n.toNat ((x.steerAt y.srcUnit).sentN.get 0 y.srcQ)) := Cluster.noteRetry_noted hsrc
    generalize hs2 : (s.setCore (k * 32 + y.srcUnit) { k1 with outQ := k1.outQ.put y.srcQ (q.send td).1 }).modCluster k (fun x =>
      (x.noteRetry y r n.toNat (((s.cluster k).steerAt y.srcUnit).sentN.get 0 y.srcQ)).close ((s.cluster k).fanOut y n.toNat) n.toNat)
      = s2
    have hcluster : s2.cluster k = (x.noteRetry y r n.toNat ((x.steerAt y.srcUnit).sentN.get 0 y.srcQ)).close (x.fanOut y n.toNat)
        n.toNat := by rw [← hs2]; exact State.cluster_modCluster_same _ _ _
    have hcore : s2.core c = { k1 with outQ := k1.outQ.put y.srcQ (q.send td).1 } := by
      rw [← hs2]; exact s.core_setCore_same c _
    have hq : ({ k1 with outQ := k1.outQ.put y.srcQ (q.send td).1 } : Core).outq y.srcQ = (q.send td).1 := SMap.get_put_same _ _ _ _
    obtain ⟨hrouter, hcores⟩ := s2.departed_leaves k n.toNat (.frame frame) (x.fanOut y n.toNat)
    rw [hcluster] at hrouter
    rw [hcores c, hcore, hq]
    refine ⟨rfl, rfl, rfl, rfl, rfl, fun hone => State.open?_departed hopen ⟨_, hnoted, hrouter⟩ rfl hone,
      fun hclear hcheck hself p k' hp hout hup hnb => ?_⟩
    have hdrops : ∀ j, (s2.cluster k).dropsAt j = x.dropsAt j := by
      intro j
      rw [hcluster]
      obtain ⟨_, _, _, _, he⟩ := hnoted
      rw [he]; rfl
    have hlaneUp : s2.laneUp k p = s.laneUp k p := by rw [← hs2]; rfl
    have hlatency : s2.linkLatency k p = s.linkLatency k p := by rw [← hs2]; rfl
    obtain ⟨id, -, hlook⟩ := State.flies_depart (s := s2) (k := k) (n := n.toNat) hcheck
      (fun j hj => (hdrops _).trans (hclear j hj)) hp (List.any_eq_true.mpr ⟨_, hself, hout⟩) (hlaneUp.trans hup) hnb
    exact ⟨id, ⟨k', facing p, n.toNat + s2.linkLatency k p, false, .frame frame⟩, by rw [State.atFabric_net]; exact hlook, rfl, rfl, rfl,
      congrArg (n.toNat + ·) hlatency, rfl⟩
  · refine ⟨_, execSlotMiss_empty hk hopen rfl hlane hsrc hr hn, ?_⟩
    beta_reduce
    rw [State.cluster_modCluster_same, State.cluster_atFabric, State.cluster_modCluster_same]
    exact ⟨rfl, Sparse.rd_wr_same _ _ _, State.atFabric_cores ..⟩
  · refine ⟨_, execTupleDeparture_eq hk hopen rfl hlane hsrc rfl rfl hbuf hvalid hadv hcred, ?_⟩
    obtain ⟨hcore, hclosed⟩ := State.sent_leaves hopen c
      { s.core c with
        outW := (s.core c).outW.put y.srcQ { u with buf := ws, round := !u.round, credits := u.credits.map (· - 1) } }
      (.token (tupleFlits (descRoute wd) u.round w))
    refine ⟨?_, hclosed⟩
    rw [hcore]
    exact SMap.get_put_same _ _ _ _
  · refine ⟨_, (execCreditFlitSend_eq hk hopen rfl hlane hsrc rfl).trans (congrArg _ (if_neg hpend)), ?_⟩
    obtain ⟨hcore, hclosed⟩ := State.sent_leaves hopen c { s.core c with inQ := (s.core c).inQ.put y.srcQ { i with pend := 0 } }
      (.token [creditFlit y.check (s.consumerIdx k y) i.pend])
    refine ⟨?_, hclosed⟩
    rw [hcore]
    exact SMap.get_put_same _ _ _ _
  · exact (execCreditFlitSend_eq hk hopen rfl hlane hsrc rfl).trans (congrArg _ (if_pos hpend))
end

section
/-! SUPPORT. Trains that arrive at a router (R257, R261, R265, R266, R282, R287, R303): what the router notes of them, and what its
sinks take. -/

namespace Sys2Proof.Machine

variable {s t : State} {x y z : Cluster} {l l' : List FaultMsg} {offs offs' : List Nat} {f : Flight} {fixed k e : Nat} {bad : Bool}
  {y' : SlotEntry}

/-! ### What a router notes -/

/-- `y` is a router after `x` that has reported `l`, has its descriptors unchanged, and has counted at the offsets `offs` at most. -/
def Cluster.Notes (x y : Cluster) (l : List FaultMsg) (offs : List Nat) : Prop :=
  (y.desc = x.desc ∧ y.descInit = x.descInit) ∧ y.sent = x.sent ++ l ∧ ∀ off, off ∉ offs → Sparse.rd y.counts off = Sparse.rd x.counts off

theorem Cluster.Notes.refl (x : Cluster) : x.Notes x [] [] := ⟨⟨rfl, rfl⟩, (List.append_nil _).symm, fun _ _ => rfl⟩

theorem Cluster.Notes.trans (h : x.Notes y l offs) (h' : y.Notes z l' offs') : x.Notes z (l ++ l') (offs ++ offs') := by
  obtain ⟨⟨hdesc, hinit⟩, hsent, hcounts⟩ := h
  obtain ⟨⟨hdesc', hinit'⟩, hsent', hcounts'⟩ := h'
  refine ⟨⟨hdesc'.trans hdesc, hinit'.trans hinit⟩, ?_, fun off hoff => ?_⟩
  · rw [hsent', hsent, List.append_assoc]
  · rw [List.mem_append, not_or] at hoff
    exact (hcounts' off hoff.2).trans (hcounts off hoff.1)

theorem Cluster.Notes.bump (h : x.Notes y l offs) (off n : Nat) : x.Notes (y.bump off n) l (offs ++ [off]) := by
  rw [← List.append_nil l]
  exact h.trans ⟨⟨rfl, rfl⟩, (List.append_nil _).symm, fun o ho => Sparse.rd_wr_ne (by simpa using ho)⟩

theorem Cluster.Notes.report (h : x.Notes y l offs) (kd : FaultKind) (id : Nat) : x.Notes (y.report kd id) (l ++ [⟨kd, id⟩]) offs := by
  rw [← List.append_nil offs]
  exact h.trans ⟨⟨rfl, rfl⟩, rfl, fun _ _ => rfl⟩

theorem Cluster.Notes.close (h : x.Notes y l offs) (es : List (Nat × SlotEntry)) (n : Nat) : x.Notes (y.close es n) l offs := h

theorem Cluster.Notes.postTelem (h : x.Notes y l offs) (ev port cycle : Nat) :
    x.Notes (y.postTelem ev port cycle) l (offs ++ [0x80098]) := by
  rw [← List.append_nil l]
  refine h.trans ?_
  unfold Cluster.postTelem
  dsimp only
  split
  · exact ⟨⟨rfl, rfl⟩, (List.append_nil _).symm, fun o ho => Sparse.rd_wr_ne (by simpa using ho)⟩
  · exact ⟨⟨rfl, rfl⟩, (List.append_nil _).symm, fun _ _ => rfl⟩

theorem Cluster.Notes.mono (h : x.Notes y l offs) (hsub : offs ⊆ offs') : x.Notes y l offs' :=
  ⟨h.1, h.2.1, fun off hoff => h.2.2 off (fun hm => hoff (hsub hm))⟩

/-- A state after `s` in which cluster `k` has noted, and every core is as it was. -/
def State.Noted (s t : State) (k : Nat) (l : List FaultMsg) (offs : List Nat) : Prop :=
  (s.cluster k).Notes (t.cluster k) l offs ∧ t.cores = s.cores ∧ t.regions = s.regions

theorem State.Noted.core (h : s.Noted t k l offs) (c : Nat) : t.core c = s.core c := by
  obtain ⟨-, hcores, hregions⟩ := h
  unfold State.core State.freshCore State.seedFor
  rw [hcores, hregions]

theorem State.Noted.modCluster {g : Cluster → Cluster} (h : s.Noted t k l offs)
    (hg : ∀ x : Cluster, (s.cluster k).Notes x l offs → (s.cluster k).Notes (g x) l' offs') : s.Noted (t.modCluster k g) k l' offs' := by
  obtain ⟨hx, hcores, hregions⟩ := h
  exact ⟨by rw [State.cluster_modCluster_same]; exact hg _ hx, hcores, hregions⟩

theorem State.Noted.mismatch (h : s.Noted t k l offs) (id : Nat) :
    s.Noted (t.modCluster k (fun x => (x.bump 0x80068 1).report .routeMismatch id)) k (l ++ [⟨.routeMismatch, id⟩]) (offs ++ [0x80068]) :=
  h.modCluster fun _ hx => (hx.bump _ _).report _ _

theorem State.Noted.close (h : s.Noted t k l offs) (es : List (Nat × SlotEntry)) (n : Nat) :
    s.Noted (t.modCluster k (fun x => x.close es n)) k l offs := h.modCluster fun _ hx => hx.close es n

/-- The check groups of a train, as its router notes them. -/
theorem State.checkLanes_noted (s : State) (f : Flight) (fixed : Nat) (bad : Bool) (id : Nat) :
    s.Noted (s.checkLanes f fixed bad id) f.cluster (if bad then [⟨.laneFault, id⟩] else []) [0x80058, 0x80098, 0x80060] := by
  have hfixed : ∀ x : Cluster, x.Notes (if fixed = 0 then x.bump 0x80058 fixed else (x.bump 0x80058 fixed).postTelem 1 f.port f.cycle) []
      [0x80058, 0x80098] := by
    intro x
    split
    · exact ((Cluster.Notes.refl x).bump _ _).mono (by simp)
    · exact ((Cluster.Notes.refl x).bump _ _).postTelem _ _ _
  have h1 : s.Noted (s.modCluster f.cluster (fun x => if fixed = 0 then x.bump 0x80058 fixed
      else (x.bump 0x80058 fixed).postTelem 1 f.port f.cycle)) f.cluster [] [0x80058, 0x80098] :=
    ⟨by rw [State.cluster_modCluster_same]; exact hfixed _, rfl, rfl⟩
  unfold checkLanes
  cases bad with
  | false => exact ⟨h1.1.mono (by simp), h1.2⟩
  | true =>
    have h2 := h1.modCluster (g := fun x => (x.bump 0x80060 1).report .laneFault id) (fun x h => (h.bump 0x80060 1).report .laneFault id)
    have h3 : ∀ t : State, s.Noted t f.cluster [⟨.laneFault, id⟩] [0x80058, 0x80098, 0x80060] →
        s.Noted (t.countLaneFault f.cluster f.port) f.cluster [⟨.laneFault, id⟩] [0x80058, 0x80098, 0x80060] := by
      intro t ht
      unfold countLaneFault
      split
      · exact ht
      · exact ht
    exact h3 _ h2

/-! ### Trains that reach no sink -/

theorem State.arrive_dropped (hrun : s.spRuns f.cluster = true) (hdrop : (s.cluster f.cluster).dropsAt f.cycle = true) :
    s.arrive f fixed bad = s.modCluster f.cluster (fun x => x.bump 0x80080 f.cargo.flits) := by
  unfold arrive
  rw [if_neg (by simp [hrun]), if_pos hdrop]

/-- A train enters a working router outside its drop windows from another router. -/
def State.Lands (s : State) (f : Flight) : Prop :=
  s.spRuns f.cluster = true ∧ (s.cluster f.cluster).dropsAt f.cycle = false ∧ f.port ≠ 4 ∧ f.cargo.isIdle = false

theorem State.arrive_unexpected (hl : s.Lands f) (hexp : (s.cluster f.cluster).expecting f.port f.cargo.lane f.cycle = []) :
    ∃ j offs, s.Noted (s.arrive f fixed false) f.cluster [⟨.routeMismatch, j⟩] offs := by
  obtain ⟨hrun, hdrop, hport, hidle⟩ := hl
  unfold arrive
  rw [if_neg (by simp [hrun]), if_neg (by simp [hdrop]), if_neg hport, if_neg (by simp [hidle]), hexp]
  exact ⟨_, _, State.Noted.mismatch (s := s) (s.draw.2.checkLanes_noted f fixed false _) _⟩

theorem State.arrive_mismatch (hl : s.Lands f)
    (hexp : (s.cluster f.cluster).expecting f.port f.cargo.lane f.cycle = [(e, y')]) (hne : y'.check ≠ f.cargo.route) :
    ∃ offs, s.Noted (s.arrive f fixed bad) f.cluster ((if bad then [⟨.laneFault, y'.check⟩] else []) ++ [⟨.routeMismatch, y'.check⟩]) offs := by
  obtain ⟨hrun, hdrop, hport, hidle⟩ := hl
  unfold arrive
  rw [if_neg (by simp [hrun]), if_neg (by simp [hdrop]), if_neg hport, if_neg (by simp [hidle]), hexp]
  dsimp only
  rw [if_pos (by simp [hne])]
  exact ⟨_, ((s.checkLanes_noted f fixed bad y'.check).close _ _).mismatch _⟩

/-! ### Trains that are forwarded -/

/-- What a router with one entry for a train takes it for: a train with an uncorrectable error is garbled (R257). -/
def State.cargoTaken (s : State) (f : Flight) (fixed : Nat) (bad : Bool) (p : Nat × SlotEntry) : Cargo :=
  if bad then f.cargo.garbled (Config.freeNat ((s.checkLanes f fixed bad p.2.check).modCluster f.cluster
    (fun x => x.close [p] f.cycle)).draw.1) else f.cargo

/-- The state in which a router has forwarded an expected train with one entry. -/
def State.forwarded (s : State) (f : Flight) (fixed : Nat) (bad : Bool) (p : Nat × SlotEntry) : State :=
  let k := f.cluster
  let s1 := (s.checkLanes f fixed bad p.2.check).modCluster k (fun x => x.close [p] f.cycle)
  let s2 := if bad then s1.draw.2 else s1
  let c := s.cargoTaken f fixed bad p
  let m := (s.cluster k).before f.cycle c
  (s2.sendOut k f.cycle (f.faulty || bad) (c.take m) [p]).modCluster k (fun x =>
    (x.bump c.countAt (outCount [p])).bump 0x80080 (c.flits - m))

/-- The offsets at which a router counts as it forwards a train. -/
def forwardCounts : List Nat := [0x80058, 0x80098, 0x80060, 0x80040, 0x80048, 0x80050, 0x80080]

theorem Cargo.countAt_mem (c : Cargo) : c.countAt ∈ [0x80040, 0x80048, 0x80050] := by
  unfold countAt
  split
  · decide
  · split
    · decide
    · decide

theorem State.forwarded_noted (s : State) (f : Flight) (fixed : Nat) (bad : Bool) (p : Nat × SlotEntry) :
    s.Noted (s.forwarded f fixed bad p) f.cluster (if bad then [⟨.laneFault, p.2.check⟩] else []) forwardCounts := by
  unfold forwarded
  dsimp only
  have h1 := (s.checkLanes_noted f fixed bad p.2.check).close [p] f.cycle
  generalize (s.checkLanes f fixed bad p.2.check).modCluster f.cluster (fun x => x.close [p] f.cycle) = s1 at h1
  have h2 : s.Noted (if bad then s1.draw.2 else s1) f.cluster (if bad then [⟨.laneFault, p.2.check⟩] else [])
      [0x80058, 0x80098, 0x80060] := by
    cases bad with
    | true => exact h1
    | false => exact h1
  generalize (if bad then s1.draw.2 else s1) = s2 at h2
  generalize s.cargoTaken f fixed bad p = c
  obtain ⟨fl, nx, he⟩ := s2.sendOut_leaves f.cluster f.cycle (f.faulty || bad) (c.take ((s.cluster f.cluster).before f.cycle c)) [p]
  rw [he]
  refine State.Noted.modCluster (t := { s2 with net := { s2.net with flights := fl, nextFlight := nx } }) h2
    (fun x hx => ((hx.bump _ _).bump _ _).mono ?_)
  intro off hoff
  simp only [List.mem_append, List.mem_cons, List.not_mem_nil, or_false] at hoff
  obtain (h | rfl) | rfl := hoff
  · obtain rfl | rfl | rfl := h <;> decide
  · exact (by decide : [0x80040, 0x80048, 0x80050] ⊆ forwardCounts) c.countAt_mem
  · decide

theorem State.arrive_expected (hl : s.Lands f) (hres : f.cargo.isReserved = false)
    (hexp : (s.cluster f.cluster).expecting f.port f.cargo.lane f.cycle = [(e, y')]) (hck : y'.check = f.cargo.route) :
    s.arrive f fixed bad =
      if (s.cluster f.cluster).before f.cycle (s.cargoTaken f fixed bad (e, y')) < (s.cargoTaken f fixed bad (e, y')).flits ||
          ((f.faulty || bad) && (s.cargoTaken f fixed bad (e, y')).isFrame) then s.forwarded f fixed bad (e, y')
      else (s.forwarded f fixed bad (e, y')).sinkAll f.cluster f.cycle f.port (s.cargoTaken f fixed bad (e, y')) [(e, y')] := by
  obtain ⟨hrun, hdrop, hport, hidle⟩ := hl
  unfold arrive
  rw [if_neg (by simp [hrun]), if_neg (by simp [hdrop]), if_neg hport, if_neg (by simp [hidle]), hexp]
  dsimp only
  rw [if_neg (by simp [hck, hres])]
  rfl

/-- A frame with a lane fault is forwarded, and reaches no sink. -/
theorem State.arrive_faulted {b : List Byte} (hl : s.Lands f) (hb : f.cargo = .frame b)
    (hexp : (s.cluster f.cluster).expecting f.port f.cargo.lane f.cycle = [(e, y')]) (hck : y'.check = f.cargo.route) :
    s.arrive f fixed true = s.forwarded f fixed true (e, y') := by
  have hc : (s.cargoTaken f fixed true (e, y')).isFrame = true := by
    unfold cargoTaken
    rw [if_pos rfl, hb]
    rfl
  rw [State.arrive_expected hl (by rw [hb]; rfl) hexp hck, if_pos (by simp [hc])]

/-- A train that a drop window overtakes is forwarded as far as it goes, and reaches no sink. -/
theorem State.arrive_overtaken (hl : s.Lands f) (hres : f.cargo.isReserved = false)
    (hexp : (s.cluster f.cluster).expecting f.port f.cargo.lane f.cycle = [(e, y')]) (hck : y'.check = f.cargo.route)
    (hm : (s.cluster f.cluster).before f.cycle f.cargo < f.cargo.flits) :
    s.arrive f fixed false = s.forwarded f fixed false (e, y') :=
  (State.arrive_expected hl hres hexp hck).trans (if_pos (by simp [cargoTaken, hm]))

/-- A whole train without a fault reaches the local sink of its entry. -/
theorem State.arrive_whole (hl : s.Lands f) (hres : f.cargo.isReserved = false)
    (hexp : (s.cluster f.cluster).expecting f.port f.cargo.lane f.cycle = [(e, y')]) (hck : y'.check = f.cargo.route)
    (hsink : y'.out 4 = true) (hok : f.faulty = false)
    (hclear : ∀ j, j < f.cargo.flits → (s.cluster f.cluster).dropsAt (f.cycle + j) = false) :
    s.arrive f fixed false = (s.forwarded f fixed false (e, y')).sink f.cluster f.cycle f.port f.cargo y' := by
  refine (State.arrive_expected hl hres hexp hck).trans ((if_neg ?_).trans ?_)
  · simp [cargoTaken, hok, Cluster.before_of_clear hclear]
  · unfold sinkAll
    rw [show List.filter (fun p : Nat × SlotEntry => p.2.out 4) [(e, y')] = [(e, y')] by simp [hsink]]
    rfl

/-- What a router counts of a train that a drop window overtakes (R303). -/
theorem State.forwarded_discards (s : State) (f : Flight) (fixed : Nat) (p : Nat × SlotEntry) :
    Sparse.rd ((s.forwarded f fixed false p).cluster f.cluster).counts 0x80080 = Sparse.rd (s.cluster f.cluster).counts 0x80080 +
      BitVec.ofNat 64 (f.cargo.flits - (s.cluster f.cluster).before f.cycle f.cargo) := by
  have h1 := (s.checkLanes_noted f fixed false p.2.check).close [p] f.cycle
  unfold forwarded
  dsimp only
  generalize (s.checkLanes f fixed false p.2.check).modCluster f.cluster (fun x => x.close [p] f.cycle) = s1 at h1
  rw [show s.cargoTaken f fixed false p = f.cargo from rfl, State.cluster_modCluster_same, if_neg (by decide)]
  obtain ⟨fl, nx, he⟩ := s1.sendOut_leaves f.cluster f.cycle (f.faulty || false) (f.cargo.take ((s.cluster f.cluster).before f.cycle f.cargo)) [p]
  rw [he]
  obtain ⟨-, -, hcounts⟩ := h1.1.bump f.cargo.countAt (outCount [p])
  refine (Sparse.rd_wr_same _ _ _).trans (congrArg (· + _) (hcounts 0x80080 ?_))
  rw [List.mem_append, List.mem_singleton]
  rintro (h | h)
  · exact absurd h (by decide)
  · exact absurd (h ▸ f.cargo.countAt_mem) (by decide)

/-! ### Sinks -/

theorem Core.raise_sameQueues (x : Core) (cause detail : Nat) :
    x.SameQueues (x.raise cause detail) ∧ (x.raise cause detail).store = x.store := by
  unfold raise
  dsimp only
  split <;> exact ⟨⟨rfl, rfl, rfl, rfl, rfl⟩, rfl⟩

theorem Core.SameQueues.trans {x y z : Core} (h : x.SameQueues y) (h' : y.SameQueues z) : x.SameQueues z := by
  obtain ⟨h1, h2, h3, h4, h5⟩ := h
  obtain ⟨h1', h2', h3', h4', h5'⟩ := h'
  exact ⟨h1'.trans h1, h2'.trans h2, h3'.trans h3, h4'.trans h4, h5'.trans h5⟩

/-- An event changes counters and the faults of the core, and neither queues nor core store. -/
theorem Core.event_sameQueues (x : Core) (src idx m : Nat) :
    x.SameQueues (x.event src idx m) ∧ (x.event src idx m).store = x.store := by
  refine foldl_pred (P := fun y : Core => x.SameQueues y ∧ y.store = x.store) ?_ _
    (foldl_pred (P := fun y : Core => x.SameQueues y ∧ y.store = x.store) ?_ _ ⟨⟨rfl, rfl, rfl, rfl, rfl⟩, rfl⟩)
  · rintro y g ⟨hq, hs⟩
    obtain ⟨hq', hs'⟩ := y.raise_sameQueues g.1 g.2
    exact ⟨hq.trans hq', hs'.trans hs⟩
  · rintro y n ⟨hq, hs⟩
    exact ⟨hq.trans ⟨rfl, rfl, rfl, rfl, rfl⟩, hs⟩

/-- A frame that finds a free entry is written to it, in a core store without errors. -/
theorem Core.takeArrival_eq {x : Core} {d : Long} {q : Nat} (b : List Byte) (hdrop : (x.inq q).dropping = false)
    (hvalid : descValid d = true) (hroom : (x.inq q).n < inDepth d) (herr : x.storeErr = []) :
    ∃ z : Core, z.inQ = x.inQ.put q { x.inq q with got := (x.inq q).got + 1, n := (x.inq q).n + 1 } ∧
      z.store = Sparse.blit x.store (entryAt d (((x.inq q).rd + (x.inq q).n) % inDepth d)) b ∧
      x.takeArrival d q b = (z.event 1 q 1, 0) := by
  unfold takeArrival
  dsimp only
  rw [if_neg (by simp [hdrop]), if_neg (by simp [hvalid, hroom]), Core.storeBytes_clean herr]
  exact ⟨{ ({ x with store := Sparse.blit x.store _ b, storeErr := [] } : Core).bumpCount 0x50 0 with inQ := x.inQ.put q _ }, rfl, rfl, rfl⟩

theorem Core.takeArrival_delivers {x : Core} {d : Long} {q : Nat} (b : List Byte) (hdrop : (x.inq q).dropping = false)
    (hvalid : descValid d = true) (hroom : (x.inq q).n < inDepth d) (herr : x.storeErr = []) :
    ((x.takeArrival d q b).1.inq q).n = (x.inq q).n + 1 ∧ ((x.takeArrival d q b).1.inq q).got = (x.inq q).got + 1 ∧
      ∀ j, j < b.length →
        Sparse.rd (x.takeArrival d q b).1.store (entryAt d (((x.inq q).rd + (x.inq q).n) % inDepth d) + j) = b.getD j 0 := by
  obtain ⟨z, hinq, hstore, he⟩ := Core.takeArrival_eq b hdrop hvalid hroom herr
  obtain ⟨⟨hinq', -⟩, hstore'⟩ := z.event_sameQueues 1 q 1
  have hget : (z.event 1 q 1).inq q = { x.inq q with got := (x.inq q).got + 1, n := (x.inq q).n + 1 } := by
    unfold inq
    rw [hinq', hinq]
    exact SMap.get_put_same _ _ _ _
  rw [he, hget, hstore', hstore]
  exact ⟨rfl, rfl, fun j hj => rd_blit_inside _ hj⟩

theorem State.sinkFrame_queue {b : List Byte} (hkind : y'.sinkKind = 1) (hreset : (s.core (k * 32 + y'.sinkUnit)).inReset = false) :
    s.sinkFrame k y' b = (((s.setCore (k * 32 + y'.sinkUnit) ((s.core (k * 32 + y'.sinkUnit)).takeArrival
      ((s.cluster k).inTile y'.sinkUnit y'.sinkQ) y'.sinkQ b).1).modCluster k (fun x => x.bump 0x80078
        ((s.core (k * 32 + y'.sinkUnit)).takeArrival ((s.cluster k).inTile y'.sinkUnit y'.sinkQ) y'.sinkQ b).2)).checkSeq k y'
          (headSeq (frameHead b)) ((s.core (k * 32 + y'.sinkUnit)).inq y'.sinkQ).got) := by
  unfold sinkFrame
  rw [if_pos hkind]
  dsimp only
  rw [if_neg (by simp [hreset])]

theorem State.core_checkSeq (s : State) (k : Nat) (y : SlotEntry) (seq got c : Nat) : (s.checkSeq k y seq got).core c = s.core c := by
  unfold checkSeq
  split
  · rfl
  · rfl

/-- A frame out of order is counted and reported (R265). -/
theorem State.sinkFrame_seq {b : List Byte} (hkind : y'.sinkKind = 1) (hreset : (s.core (k * 32 + y'.sinkUnit)).inReset = false)
    (hseq : headSeq (frameHead b) ≠ ((s.core (k * 32 + y'.sinkUnit)).inq y'.sinkQ).got % 2 ^ 32) :
    Sparse.rd ((s.sinkFrame k y' b).cluster k).counts 0x80070 = Sparse.rd (s.cluster k).counts 0x80070 + 1 ∧
      ((s.sinkFrame k y' b).cluster k).sent = (s.cluster k).sent ++ [⟨.seqFault, y'.check⟩] := by
  rw [State.sinkFrame_queue hkind hreset]
  unfold checkSeq
  rw [if_neg hseq, State.cluster_modCluster_same, State.cluster_modCluster_same]
  exact ⟨(Sparse.rd_wr_same _ _ _).trans (congrArg (· + 1) (Sparse.rd_wr_ne (by decide))), rfl⟩

/-- A word channel after a tuple has joined it, and the core store with it. -/
theorem Core.inw_joined (z : Core) (q : Nat) (v : InW) : (({ z with inW := z.inW.put q v } : Core).event 3 q 1).inw q = v ∧
    (({ z with inW := z.inW.put q v } : Core).event 3 q 1).store = z.store := by
  obtain ⟨⟨-, -, hinw, -⟩, hstore⟩ := ({ z with inW := z.inW.put q v } : Core).event_sameQueues 3 q 1
  refine ⟨?_, hstore⟩
  unfold inw
  rw [hinw]
  exact SMap.get_put_same _ _ _ _

theorem State.sinkTuple_channel {n port : Nat} {round : Bool} {ws : List Word} (hkind : y'.sinkKind = 2)
    (hreset : (s.core (k * 32 + y'.sinkUnit)).inReset = false)
    (hvalid : descValid ((s.cluster k).inWord y'.sinkUnit y'.sinkQ) = true)
    (hadv : descAdvisory ((s.cluster k).inWord y'.sinkUnit y'.sinkQ) = false) :
    s.sinkTuple k n port y' round ws = s.setCore (k * 32 + y'.sinkUnit) (({ s.core (k * 32 + y'.sinkUnit) with
      inW := (s.core (k * 32 + y'.sinkUnit)).inW.put y'.sinkQ { (s.core (k * 32 + y'.sinkUnit)).inw y'.sinkQ with
        buf := ((s.core (k * 32 + y'.sinkUnit)).inw y'.sinkQ).buf ++ [ws] } } : Core).event 3 y'.sinkQ 1) := by
  unfold sinkTuple
  rw [if_pos hkind]
  dsimp only
  rw [if_neg (by simp [hreset, hvalid]), if_neg (by simp [hadv])]

/-- The credits of a word channel's producer. -/
theorem State.sinkCredit_channel {i m : Nat} (hkind : y'.sinkKind = 6) (hreset : (s.core (k * 32 + y'.sinkUnit)).inReset = false) :
    (((s.sinkCredit k y' i m).core (k * 32 + y'.sinkUnit)).outw y'.sinkQ).credits =
      ((s.core (k * 32 + y'.sinkUnit)).outw y'.sinkQ).credits.modify i (· + m) := by
  unfold sinkCredit
  rw [if_neg (by simp [hkind]), if_pos hkind]
  dsimp only
  rw [if_neg (by simp [hreset]), State.core_setCore_same]
  exact congrArg OutW.credits (SMap.get_put_same _ _ _ _)

/-- The credits of a tile queue's producer. -/
theorem State.sinkCredit_queue {i m : Nat} (hkind : y'.sinkKind = 5) (hreset : (s.core (k * 32 + y'.sinkUnit)).inReset = false) :
    (((s.sinkCredit k y' i m).core (k * 32 + y'.sinkUnit)).outq y'.sinkQ).credits =
      ((s.core (k * 32 + y'.sinkUnit)).outq y'.sinkQ).credits.modify i (· + m) := by
  unfold sinkCredit
  rw [if_pos hkind]
  dsimp only
  rw [if_neg (by simp [hreset]), State.core_setCore_same]
  unfold Core.releaseCommitted Core.outq
  dsimp only
  rw [(Core.event_sameQueues _ _ _ _).1.2.1]
  exact congrArg OutQ.credits (SMap.get_put_same _ _ _ _)

theorem State.sink_frame {n port : Nat} {b : List Byte} : s.sink k n port (.frame b) y' = s.sinkFrame k y' b := rfl

theorem State.sink_tuple {n port : Nat} {b : List Long} (h : tokenType b = 1) :
    s.sink k n port (.token b) y' = s.sinkTuple k n port y' (tokenRound b) (tokenWords b) := by
  unfold sink
  dsimp only
  rw [h]
  rfl

theorem State.sink_credit {n port : Nat} {b : List Long} (h : tokenType b = 2) :
    s.sink k n port (.token b) y' = s.sinkCredit k y' (tokenConsumer b) (tokenCount b) := by
  unfold sink
  dsimp only
  rw [h]
  rfl

/-! ### Arrivals -/

/-- The flits before a drop window are those before its first cycle. -/
theorem Cluster.before_of_first {c : Cargo} {n j : Nat} (hj : j < c.flits) (hat : x.dropsAt (n + j) = true)
    (hbefore : ∀ i, i < j → x.dropsAt (n + i) = false) : x.before n c = j := by
  unfold before
  rw [(List.find?_range_eq_some (p := fun i => x.dropsAt (n + i))).mpr ⟨hat, List.mem_range.mpr hj, fun i hi => by simp [hbefore i hi]⟩]
  rfl

/-- The state in which flight `id` has landed. -/
def State.landed (s : State) (id : Nat) : State := { s with net := { s.net with flights := s.net.flights.del id } }

theorem arrival_eq {id : Nat} {ok : Cargo → Bool} (hlook : s.net.flights.look id = some f) (hok : ok f.cargo = true) :
    arrival id fixed bad ok s = .next (((s.landed id).arrive f fixed bad).atFabric f.cluster f.cycle) := by
  unfold arrival
  simp only [hlook, hok]
  rfl

/-- What a train leaves of which the router takes no more than notes. -/
theorem Gives.of_noted {o : Out} {u : State} {n : Nat} (h : o = .next (u.atFabric k n)) (hu : s.Noted u k l offs) :
    Gives o (fun t => t.cores = s.cores ∧ (t.cluster k).sent = (s.cluster k).sent ++ l) :=
  ⟨_, h, (State.atFabric_cores ..).trans hu.2.1, (congrArg Cluster.sent (State.cluster_atFabric ..)).trans hu.1.2.1⟩

end Sys2Proof.Machine

open Sys2Proof Sys2Proof.Machine

/-- Settles O42: a train that arrives, by what its router's entries and drop windows make of it. -/
theorem trainsArrive : Obligations.TrainsArrive := by
  unfold Obligations.TrainsArrive
  intro s id fixed e f y k x c q u td wd lands expected good sent beat hlook
  have hbeat : ∀ {b : List Byte} (bad : Bool), f.cargo = .frame b →
      exec (.beatArrival id fixed bad) s = .next (((s.landed id).arrive f fixed bad).atFabric k f.cycle) :=
    fun bad hb => arrival_eq hlook (by rw [hb]; rfl)
  have hlands : lands → f.cargo.isIdle = false → (s.landed id).Lands f := fun ⟨hrun, hdrop, hport⟩ hidle => ⟨hrun, hdrop, hport, hidle⟩
  have hfwd : ∀ bad, s.Noted ((s.landed id).forwarded f fixed bad (e, y)) k (if bad then [⟨.laneFault, y.check⟩] else []) forwardCounts :=
    fun bad => (s.landed id).forwarded_noted f fixed bad (e, y)
  have hwhole : good → (s.landed id).arrive f fixed false =
      ((s.landed id).forwarded f fixed false (e, y)).sink k f.cycle f.port f.cargo y := by
    rintro ⟨⟨hl, hidle, hres, hsink, hexp⟩, hok, hck, -, hclear⟩
    exact State.arrive_whole (hlands hl hidle) hres hexp hck hsink hok hclear
  have hin : ((s.landed id).forwarded f fixed false (e, y)).core c = s.core c := (hfwd false).core c
  obtain ⟨⟨⟨hdesc, hinit⟩, hsent, hcounts⟩, -, -⟩ := hfwd false
  generalize hs3 : (s.landed id).forwarded f fixed false (e, y) = s3 at hwhole hin hdesc hinit hsent hcounts
  have hdescOf : ∀ i j, (s3.cluster k).descOf i j = x.descOf i j := by
    intro i j
    unfold Cluster.descOf
    rw [hdesc, hinit]
  refine ⟨fun b hb => ⟨fun hgood hkind hdrop hvalid hroom herr => ?_, fun hgood hkind hseq => ?_, fun hexp hne => ⟨?_, ?_⟩,
    fun hexp hck => ?_, fun hl hexp => ?_, fun hrun hdrop => ?_, fun hexp hok hck j hj hat hbefore => ?_⟩,
    fun b hb hgood => ⟨fun htype hkind hvalid hadv => ?_, fun htype hkind => ?_, fun htype hkind => ?_⟩⟩
  · refine ⟨_, (hbeat false hb).trans (by rw [hwhole hgood, hb, State.sink_frame]), ?_⟩
    obtain ⟨-, -, -, hreset, -⟩ := hgood
    rw [State.core_atFabric, State.sinkFrame_queue hkind (by rw [hin]; exact hreset), State.core_checkSeq, State.core_modCluster,
      State.core_setCore_same, hin]
    rw [show (s3.cluster k).inTile y.sinkUnit y.sinkQ = td from hdescOf _ _]
    exact Core.takeArrival_delivers b hdrop hvalid hroom herr
  · refine ⟨_, (hbeat false hb).trans (by rw [hwhole hgood, hb, State.sink_frame]), ?_⟩
    obtain ⟨-, -, -, hreset, -⟩ := hgood
    show _ ∧ (((s3.sinkFrame k y b).atFabric k f.cycle).cluster k).sent = x.sent ++ [⟨.seqFault, y.check⟩]
    rw [State.cluster_atFabric]
    obtain ⟨hcount, hrep⟩ := State.sinkFrame_seq (s := s3) (k := k) (b := b) hkind (by rw [hin]; exact hreset) (by rw [hin]; exact hseq)
    rw [hcount, hrep, hcounts 0x80070 (by decide), hsent]
    exact ⟨rfl, by simp; rfl⟩
  · obtain ⟨hl, hidle, -, -, hx⟩ := hexp
    obtain ⟨offs, hn⟩ := State.arrive_mismatch (s := s.landed id) (fixed := fixed) (bad := false) (hlands hl hidle) hx hne
    exact Gives.of_noted (hbeat false hb) hn
  · obtain ⟨hl, hidle, -, -, hx⟩ := hexp
    obtain ⟨offs, hn⟩ := State.arrive_mismatch (s := s.landed id) (fixed := fixed) (bad := true) (hlands hl hidle) hx hne
    exact Gives.of_noted (hbeat true hb) hn
  · obtain ⟨hl, hidle, -, -, hx⟩ := hexp
    exact Gives.of_noted (hbeat true hb) ((State.arrive_faulted (s := s.landed id) (hlands hl hidle) hb hx hck).symm ▸ hfwd true)
  · obtain ⟨j, offs, hn⟩ := State.arrive_unexpected (s := s.landed id) (fixed := fixed) (hlands hl (by rw [hb]; rfl)) hexp
    obtain ⟨t, ht, hcores, hrep⟩ := Gives.of_noted (hbeat false hb) hn
    exact ⟨t, ht, hcores, j, hrep⟩
  · refine ⟨_, (hbeat false hb).trans (by rw [State.arrive_dropped (s := s.landed id) hrun hdrop]), ?_⟩
    beta_reduce
    rw [State.cluster_atFabric, State.cluster_modCluster_same]
    exact ⟨State.atFabric_cores .., Sparse.rd_wr_same _ _ _⟩
  · obtain ⟨hl, hidle, hres, -, hx⟩ := hexp
    have hm : x.before f.cycle f.cargo = j := Cluster.before_of_first hj hat hbefore
    refine ⟨_, (hbeat false hb).trans (by rw [State.arrive_overtaken (s := s.landed id) (hlands hl hidle) hres hx hck
      (lt_of_eq_of_lt hm hj)]), ?_⟩
    beta_reduce
    rw [State.cluster_atFabric, State.atFabric_cores, State.forwarded_discards]
    exact ⟨(hfwd false).2.1, by rw [show ((s.landed id).cluster f.cluster).before f.cycle f.cargo = j from hm]; rfl⟩
  · have hexec : exec (.tupleArrival id fixed false) s = .next (((s.landed id).arrive f fixed false).atFabric k f.cycle) :=
      arrival_eq hlook (by rw [hb]; simp [Cargo.isTuple, htype])
    refine ⟨_, hexec.trans (by rw [hwhole hgood, hb, State.sink_tuple htype]), ?_⟩
    obtain ⟨-, -, -, hreset, -⟩ := hgood
    have hword : (s3.cluster k).inWord y.sinkUnit y.sinkQ = wd := hdescOf _ _
    rw [State.core_atFabric, State.sinkTuple_channel hkind (by rw [hin]; exact hreset) (by rw [hword]; exact hvalid)
      (by rw [hword]; exact hadv), State.core_setCore_same, hin]
    obtain ⟨hget, hstore⟩ := (s.core c).inw_joined y.sinkQ { u with buf := u.buf ++ [tokenWords b] }
    exact ⟨congrArg InW.buf hget, hstore⟩
  · have hexec : exec (.creditArrival id fixed false) s = .next (((s.landed id).arrive f fixed false).atFabric k f.cycle) :=
      arrival_eq hlook (by rw [hb]; simp [Cargo.isCredit, htype])
    refine ⟨_, hexec.trans (by rw [hwhole hgood, hb, State.sink_credit htype]), ?_⟩
    obtain ⟨-, -, -, hreset, -⟩ := hgood
    rw [State.core_atFabric, State.sinkCredit_channel hkind (by rw [hin]; exact hreset), hin]
  · have hexec : exec (.creditArrival id fixed false) s = .next (((s.landed id).arrive f fixed false).atFabric k f.cycle) :=
      arrival_eq hlook (by rw [hb]; simp [Cargo.isCredit, htype])
    refine ⟨_, hexec.trans (by rw [hwhole hgood, hb, State.sink_credit htype]), ?_⟩
    obtain ⟨-, -, -, hreset, -⟩ := hgood
    rw [State.core_atFabric, State.sinkCredit_queue hkind (by rw [hin]; exact hreset), hin]
end

section
/-! SUPPORT. Segments of the wafer transport (R489 to R494): what leaves on an association, and what a segment that arrives leaves of
it. -/

namespace Sys2Proof.Machine

variable {s t u : State} {n a : Nat} {src : SegFrom} {dg : List Byte} {h : SegHeader} {x y : Assoc}

/-! ### Datagrams that leave -/

theorem State.ipWire_congr (hs : t.sent = s.sent) (mac : Nat) (d : Dgram) (body icmp : List Byte) :
    t.ipWire mac d body icmp = s.ipWire mac d body icmp := by unfold ipWire; rw [hs]

/-- A datagram that leaves on an association (R482). -/
def State.LeavesHwt (s t : State) (n a kind : Nat) (d : List Byte) : Prop :=
  ∃ ip, t.sent = s.sent ++ [⟨n, kind, a, d, some ip, s.ipWire (s.portMac n) ip d []⟩] ∧
    ip.dscp = s.num (o4HwtDscp n) ∧ ip.ecn = 2 ∧ ip.ttl = 64

/-- What leaves from a state in which nothing has been sent since `s`. -/
theorem State.leaves_emitHwt (hsent : u.sent = s.sent) (hnum : u.num (o4HwtDscp n) = s.num (o4HwtDscp n)) (kind : Nat) (d : List Byte)
    (ht : t.sent = (u.emitHwt n a kind d).sent) : s.LeavesHwt t n a kind d := by
  obtain ⟨ip, he, hdscp, hecn, httl⟩ : ∃ ip : Dgram,
      u.emitHwt n a kind d = u.emit ⟨n, kind, a, d, some ip, u.ipWire (u.portMac n) ip d []⟩ ∧ ip.dscp = u.num (o4HwtDscp n) ∧
        ip.ecn = 2 ∧ ip.ttl = 64 := ⟨_, rfl, rfl, rfl, rfl⟩
  refine ⟨ip, ?_, hdscp.trans hnum, hecn, httl⟩
  rw [ht, he, State.emit_sent, hsent, State.ipWire_congr hsent]
  rfl

/-! ### Ports and associations -/

theorem State.assoc_of_port (hp : t.port n = s.port n) : t.assoc n a = s.assoc n a := by unfold assoc; rw [hp]

theorem Assoc.takeAck_keeps (x : Assoc) (h : SegHeader) : ∃ ownAcked flight acks acksCe,
    x.takeAck h = { x with ownAcked := ownAcked, flight := flight, acks := acks, acksCe := acksCe } := by
  unfold takeAck
  split
  · exact ⟨_, _, _, _, rfl⟩
  · exact ⟨x.ownAcked, x.flight, x.acks, x.acksCe, rfl⟩

theorem State.assoc_sendAck (s : State) (n a : Nat) :
    (s.sendAck n a).assoc n a = { s.assoc n a with unacked := 0, ce := false } := by
  unfold sendAck
  rw [State.assoc_modAssoc, if_pos rfl, State.assoc_of_port (State.port_emitHwt _ _ _ _ _ _)]
  rfl

theorem State.ready_modAssoc (s : State) (n a : Nat) (g : Assoc → Assoc) : ((s.modAssoc n a g).port n).ready = (s.port n).ready := by
  unfold modAssoc
  rw [State.port_modPort_same]

theorem State.ready_sendAck (s : State) (n a : Nat) : ((s.sendAck n a).port n).ready = (s.port n).ready := by
  unfold sendAck modAssoc
  rw [State.port_modPort_same, State.port_emitHwt]
  rfl

/-! ### Segments that arrive -/

theorem onSegment_discards {kind : Nat} {f : State → SegHeader → State} (hn : n < 24) (hup : s.portDown n = false)
    (hk : (if (segHeader dg).kind = 1 || (segHeader dg).kind = 2 then (segHeader dg).kind.toNat else 0) = kind)
    (hbad : s.segOk n src dg = false) : onSegment n kind src dg s f = .next (s.addNum (o4HwtDiscards n) 1) := by
  rw [onSegment, onPort_eq hn]
  dsimp only
  rw [hk, if_neg (by simp [hup]), if_neg (by simp [hbad])]

theorem onSegment_takes {kind : Nat} {f : State → SegHeader → State} (hn : n < 24) (hup : s.portDown n = false)
    (hk : (if (segHeader dg).kind = 1 || (segHeader dg).kind = 2 then (segHeader dg).kind.toNat else 0) = kind)
    (hok : s.segOk n src dg = true) : onSegment n kind src dg s f = .next (f s (segHeader dg)) := by
  rw [onSegment, onPort_eq hn]
  dsimp only
  rw [hk, if_neg (by simp [hup]), if_pos hok]

/-! ### Data -/

theorem rxAdvance_next (m e : Nat) : rxAdvance (m + 2) e [e] = ((e + 1) % 2 ^ 32, []) := by simp [rxAdvance]

/-- The next segment is accepted, where none was held behind it. -/
theorem State.assoc_acceptSeg {seq : Nat} {ce : Bool} (hy : s.assoc n a = y) (hseq : seq = y.rxNext) (hheld : y.rxHeld = []) :
    (s.acceptSeg n a seq ce).assoc n a =
      { y with rxNext := (y.rxNext + 1) % 2 ^ 32, rxHeld := [], unacked := y.unacked + 1, ce := y.ce || ce } := by
  unfold acceptSeg addNum
  rw [State.assoc_of_port (State.port_setNum _ _ _ _), State.assoc_modAssoc, if_pos rfl, hy]
  dsimp only
  rw [hheld, hseq, List.nil_append, rxAdvance_next 1023]

theorem State.ready_acceptSeg (s : State) (n a seq : Nat) (ce : Bool) : ((s.acceptSeg n a seq ce).port n).ready = (s.port n).ready := by
  unfold acceptSeg modAssoc addNum
  rw [State.port_setNum, State.port_modPort_same]

theorem joinSegs_whole (d : List Byte) : joinSegs [(0, d)] d.length = d := by
  simp [joinSegs, patchB]

/-- A message of one segment is whole and ready at once. -/
theorem State.plainSegment_whole {d : List Byte} {ce : Bool} (hreasm : (s.assoc n a).reasm.look (reasmKey h.opcode.toNat h.msgId.toNat) = none)
    (hlen : h.msgLen.toNat = d.length) (hoff : h.segOffset = 0) :
    s.plainSegment n a h d ce = ((s.acceptSeg n a h.seq.toNat ce).modAssoc n a (fun x =>
      { x with reasm := x.reasm.del (reasmKey h.opcode.toNat h.msgId.toNat) })).modPort n (fun p => { p with
        ready := p.ready ++ [(a, ⟨h.opcode.toNat, h.status.toNat, h.msgId.toNat, h.target.toNat, d⟩)] }) := by
  have hget : (s.assoc n a).reasm.get ⟨h.opcode.toNat, h.msgLen.toNat, h.target.toNat, h.status.toNat, []⟩
      (reasmKey h.opcode.toNat h.msgId.toNat) = ⟨h.opcode.toNat, h.msgLen.toNat, h.target.toNat, h.status.toNat, []⟩ := by
    unfold SMap.get
    rw [hreasm]
    rfl
  have hplain : h.opcode.toNat ≠ refusedMark := Nat.ne_of_lt h.opcode.isLt
  unfold plainSegment
  simp only [hget]
  rw [if_neg hplain, if_neg (by simp)]
  simp only [List.any_nil, Bool.false_eq_true, if_false, List.nil_append, hoff]
  rw [if_pos (by simp [hlen]), hlen]
  simp only [show BitVec.toNat (0 : BitVec 32) = 0 from rfl, joinSegs_whole]

/-- What a port has sent of an association, and acknowledgements taken, leave of it. -/
theorem State.assoc_acked (s : State) (n a : Nat) (h : SegHeader) (k v : Nat) :
    ∃ ownAcked flight acks acksCe queue txSeq, (((s.modAssoc n a (fun x => x.takeAck h)).pump n).addNum k v).assoc n a =
      { s.assoc n a with ownAcked := ownAcked, flight := flight, acks := acks, acksCe := acksCe, queue := queue, txSeq := txSeq } := by
  obtain ⟨⟨flight, queue, txSeq, hy⟩, -⟩ := State.pump_sent (s.modAssoc n a (fun x => x.takeAck h)) n a
  obtain ⟨ownAcked, _, acks, acksCe, hx⟩ := Assoc.takeAck_keeps (s.assoc n a) h
  refine ⟨ownAcked, flight, acks, acksCe, queue, txSeq, ?_⟩
  unfold addNum
  rw [State.assoc_of_port (State.port_setNum _ _ _ _), hy, State.assoc_modAssoc, if_pos rfl, hx]

/-- The next segment of an association, which holds a whole message that needs no ring and is no read. -/
theorem State.dataSegment_whole {d : List Byte} {ce : Bool} (hseq : h.seq.toNat = (s.assoc n a).rxNext) (hheld : (s.assoc n a).rxHeld = [])
    (hcode : 4 < h.opcode.toNat) (hread : h.opcode.toNat ≠ 9) (hmsg : s.msgRefused n a h.opcode.toNat h.msgLen.toNat = 0)
    (hreasm : (s.assoc n a).reasm.look (reasmKey h.opcode.toNat h.msgId.toNat) = none)
    (hrec : reasmKey h.opcode.toNat h.msgId.toNat = h.msgId.toNat → (s.assoc n a).openRec h.msgId.toNat = none)
    (hlen : h.msgLen.toNat = d.length) (hoff : h.segOffset = 0) :
    let u := s.dataSegment n a h d ce
    (u.assoc n a).rxNext = ((s.assoc n a).rxNext + 1) % 2 ^ 32 ∧ (u.assoc n a).rxHeld = [] ∧
      (u.assoc n a).unacked = (s.assoc n a).unacked + 1 ∧
      (u.port n).ready = (s.port n).ready ++ [(a, ⟨h.opcode.toNat, h.status.toNat, h.msgId.toNat, h.target.toNat, d⟩)] := by
  obtain ⟨_, _, _, _, _, _, hx⟩ := s.assoc_acked n a h (o4HwtCeReceived n) (b2n ce)
  have hready : ((((s.modAssoc n a (fun x => x.takeAck h)).pump n).addNum (o4HwtCeReceived n) (b2n ce)).port n).ready =
      (s.port n).ready := by
    unfold addNum
    rw [State.port_setNum]
    obtain ⟨_, _, _, _, _, _, _, he⟩ := (modAssoc_served s n a (fun x => x.takeAck h) n).trans (pump_served _ n n)
    rw [he]
  have hblobs : (((s.modAssoc n a (fun x => x.takeAck h)).pump n).addNum (o4HwtCeReceived n) (b2n ce)).dict.blobs = s.dict.blobs :=
    (State.pump_engines (s.modAssoc n a (fun x => x.takeAck h)) n).blobs
  unfold dataSegment
  dsimp only
  generalize ((s.modAssoc n a (fun x => x.takeAck h)).pump n).addNum (o4HwtCeReceived n) (b2n ce) = s0 at hx hready hblobs
  have hmsg0 : s0.msgRefused n a h.opcode.toNat h.msgLen.toNat = 0 := by
    rw [← hmsg]
    unfold msgRefused assocBytes
    rw [hblobs]
  have hrx : (s0.assoc n a).rxNext = (s.assoc n a).rxNext := by rw [hx]
  have hheld0 : (s0.assoc n a).rxHeld = [] := by rw [hx]; exact hheld
  have hun : (s0.assoc n a).unacked = (s.assoc n a).unacked := by rw [hx]
  have hreasm0 : (s0.assoc n a).reasm.look (reasmKey h.opcode.toNat h.msgId.toNat) = none := by rw [hx]; exact hreasm
  have hrec0 : reasmKey h.opcode.toNat h.msgId.toNat = h.msgId.toNat → (s0.assoc n a).openRec h.msgId.toNat = none := by
    rw [hx]; exact hrec
  have hfresh : seqBefore h.seq.toNat (s0.assoc n a).rxNext = false := by rw [hrx, ← hseq]; simp [seqBefore]
  have hnear : (h.seq.toNat + 2 ^ 32 - (s0.assoc n a).rxNext) % 2 ^ 32 = 0 := by rw [hrx, ← hseq]; simp
  have hnomark : ((s0.assoc n a).reasm.get ⟨0, 0, 0, 0, []⟩ (reasmKey h.opcode.toNat h.msgId.toNat)).opcode ≠ refusedMark := by
    unfold SMap.get
    rw [hreasm0]
    decide
  rw [hfresh, hheld0, hnear, hmsg0, if_neg (by simp), if_neg (by decide), if_neg hnomark, if_neg (by simp), if_neg (by omega),
    if_neg (fun hc => by rw [hrec0 hc.1] at hc; cases hc.2), if_neg (fun hc => hread hc.1), State.plainSegment_whole hreasm0 hlen hoff]
  have hacc := State.assoc_acceptSeg (ce := ce) (y := s0.assoc n a) rfl (hseq.trans hrx.symm) hheld0
  have hready1 := s0.ready_acceptSeg n a h.seq.toNat ce
  generalize s0.acceptSeg n a h.seq.toNat ce = s1 at hacc hready1
  rw [State.assoc_modPort _ _ _ (g := fun p => { p with ready := p.ready ++ _ }) (fun _ => rfl), State.assoc_modAssoc, if_pos rfl,
    State.port_modPort_same, hacc, hrx, hun]
  refine ⟨rfl, rfl, rfl, ?_⟩
  exact congrArg (· ++ _) ((s1.ready_modAssoc n a _).trans (hready1.trans hready))

theorem State.ackIfDue_leaves (s : State) (n a : Nat) : ((s.ackIfDue n a).assoc n a).rxNext = (s.assoc n a).rxNext ∧
    ((s.ackIfDue n a).assoc n a).rxHeld = (s.assoc n a).rxHeld ∧
    ((s.ackIfDue n a).assoc n a).unacked = (if 16 ≤ (s.assoc n a).unacked then 0 else (s.assoc n a).unacked) ∧
    ((s.ackIfDue n a).port n).ready = (s.port n).ready := by
  unfold ackIfDue
  split
  · rw [State.assoc_sendAck, State.ready_sendAck]
    exact ⟨rfl, rfl, rfl, rfl⟩
  · exact ⟨rfl, rfl, rfl, rfl⟩

/-! ### Acknowledgements and syncs -/

theorem State.tryUp_up (s : State) (n a : Nat) : s.tryUp n a true = s := if_neg (by simp)

/-- The streams of a port are no part of its associations. -/
theorem State.assoc_applyPath (s : State) (n a : Nat) : (s.applyPath n).assoc n a = s.assoc n a :=
  State.assoc_modPort s n a (fun _ => rfl)

/-- An association that comes up keeps what it has received. -/
theorem State.assoc_tryUp (s : State) (n a : Nat) (was : Bool) : ∃ rate alpha txSeq acks acksCe, (s.tryUp n a was).assoc n a =
    { s.assoc n a with rate := rate, alpha := alpha, txSeq := txSeq, acks := acks, acksCe := acksCe } := by
  unfold tryUp
  dsimp only
  split
  · rw [State.assoc_applyPath, State.assoc_modAssoc, if_pos rfl]
    exact ⟨_, _, _, _, _, rfl⟩
  · exact ⟨_, _, _, _, _, rfl⟩

theorem State.modAssoc_engines (s : State) (n a : Nat) (g : Assoc → Assoc) : s.EnginesRan (s.modAssoc n a g) := EnginesRan.modPort s n _

theorem State.applyPath_engines (s : State) (n : Nat) : s.EnginesRan (s.applyPath n) := by
  unfold applyPath
  exact EnginesRan.modPort s n _

theorem State.emitHwt_engines (s : State) (n a kind : Nat) (d : List Byte) : s.EnginesRan (s.emitHwt n a kind d) := emit_engines s _

theorem State.tryUp_engines (s : State) (n a : Nat) (was : Bool) : s.EnginesRan (s.tryUp n a was) := by
  unfold tryUp
  dsimp only
  split
  · exact (modAssoc_engines s n a _).trans (applyPath_engines _ n)
  · exact .refl s

theorem State.sendAck_engines (s : State) (n a : Nat) : s.EnginesRan (s.sendAck n a) :=
  ((EnginesRan.draw s).trans (emitHwt_engines _ n a 5 _)).trans (modAssoc_engines _ n a _)

/-- An association with nothing to send is not touched by what its port sends. -/
theorem State.assoc_pump_idle {g : Assoc → Assoc} (hq : (g (s.assoc n a)).queue = []) :
    ((s.modAssoc n a g).pump n).assoc n a = g (s.assoc n a) := by
  have he : (s.modAssoc n a g).assoc n a = g (s.assoc n a) := (State.assoc_modAssoc s n a g a).trans (if_pos rfl)
  rw [← he]
  exact (State.pump_sent (s.modAssoc n a g) n a).2 (he ▸ hq)

/-- An acknowledgement segment that arrives. -/
theorem execAcknowledgementSegment_gives (hn : n < 24) (hdown : s.portDown n = false) (hok : s.segOk n src dg = true)
    (hkind : (segHeader dg).kind = 1) (ha : (segHeader dg).assoc.toNat = a) (hup : (s.assoc n a).up = true)
    (hqueue : (s.assoc n a).queue = []) : Gives (execAcknowledgementSegment n src dg s) (fun t =>
      (t.assoc n a).flight = ((s.assoc n a).takeAck (segHeader dg)).flight ∧ (t.assoc n a).rxNext = (s.assoc n a).rxNext) := by
  refine ⟨_, onSegment_takes hn hdown (by rw [hkind]; rfl) hok, ?_⟩
  dsimp only
  rw [ha, hup, State.tryUp_up]
  obtain ⟨_, _, _, _, hx⟩ := Assoc.takeAck_keeps (s.assoc n a) (segHeader dg)
  rw [State.assoc_pump_idle (g := fun x => if (s.assoc n a).flight.any (fun g => g.resends = 0 && seqBefore g.seq (segHeader dg).ackSeq.toNat)
    then { x.takeAck (segHeader dg) with srtt := Config.freeNat s.draw.1 % 2 ^ 32, rttvar := Config.freeNat (s.draw.1 + 1) % 2 ^ 32 }
    else x.takeAck (segHeader dg)) ?_]
  · show (ite _ _ _ : Assoc).flight = _ ∧ (ite _ _ _ : Assoc).rxNext = _
    split
    · exact ⟨rfl, by rw [show s.draw.2.draw.2.assoc n a = s.assoc n a from rfl, hx]⟩
    · exact ⟨rfl, by rw [show s.draw.2.draw.2.assoc n a = s.assoc n a from rfl, hx]⟩
  · show (ite _ _ _ : Assoc).queue = []
    split
    · rw [show s.draw.2.draw.2.assoc n a = s.assoc n a from rfl, hx]; exact hqueue
    · rw [show s.draw.2.draw.2.assoc n a = s.assoc n a from rfl, hx]; exact hqueue

theorem o4HwtAssocDowns_engines (n : Nat) : o4HwtAssocDowns n % 65536 ∉ engineNums := by
  rw [o4HwtAssocDowns, okey_mod _ _ (by decide)]; decide

/-- An association that goes down is counted (R493). -/
theorem State.num_assocDown (s : State) (n a : Nat) :
    (s.assocDown n a).num (o4HwtAssocDowns n) = (s.num (o4HwtAssocDowns n) + 1) % 2 ^ 64 := by
  unfold assocDown
  dsimp only
  rw [(State.applyPath_engines _ n).num _ (o4HwtAssocDowns_engines n), (State.sweep_engines _ n).num _ (o4HwtAssocDowns_engines n)]
  refine foldl_pred (P := fun t : State => t.num (o4HwtAssocDowns n) = (s.num (o4HwtAssocDowns n) + 1) % 2 ^ 64)
    (f := fun (t : State) (q : OutReq) => t.respond q.req.home q.req 5 [] 0) (fun t q h => h) _ ?_
  rw [State.num_modPort, State.num_addNum_same, (State.modAssoc_engines _ n a _).num _ (o4HwtAssocDowns_engines n)]
  exact congrArg (fun v => (v + 1) % 2 ^ 64)
    ((EnginesRan.foldl (fun t r => State.gaWrite_engines t _ _) _ s).num _ (o4HwtAssocDowns_engines n))

/-- A sync that arrives (R490). -/
theorem execSyncSegment_gives (hn : n < 24) (hdown : s.portDown n = false) (hok : s.segOk n src dg = true)
    (hkind : (segHeader dg).kind = 2) (ha : (segHeader dg).assoc.toNat = a) : Gives (execSyncSegment n src dg s) (fun t =>
      (t.assoc n a).rxNext = (segHeader dg).seq.toNat ∧ (t.assoc n a).peerTaken = true ∧ (t.assoc n a).rxHeld = [] ∧
      (t.assoc n a).unacked = 0 ∧
      (s.assocUp n a = true → t.num (o4HwtAssocDowns n) = (s.num (o4HwtAssocDowns n) + 1) % 2 ^ 64)) := by
  refine ⟨_, onSegment_takes hn hdown (by rw [hkind]; rfl) hok, ?_⟩
  dsimp only
  rw [ha]
  generalize hs1 : (if s.assocUp n a = true then s.assocDown n a else s) = s1
  have hnum : s.assocUp n a = true → s1.num (o4HwtAssocDowns n) = (s.num (o4HwtAssocDowns n) + 1) % 2 ^ 64 := by
    intro hup
    rw [← hs1, if_pos hup]
    exact s.num_assocDown n a
  generalize (s1.assoc n a).up = was
  generalize hs2 : s1.modAssoc n a (fun x => { x.takeAck (segHeader dg) with
    rxNext := (segHeader dg).seq.toNat, rxHeld := [], peerTaken := true }) = s2
  have hx : s2.assoc n a = { (s1.assoc n a).takeAck (segHeader dg) with
      rxNext := (segHeader dg).seq.toNat, rxHeld := [], peerTaken := true } := by
    rw [← hs2, State.assoc_modAssoc, if_pos rfl]
  have hnum2 : s2.num (o4HwtAssocDowns n) = s1.num (o4HwtAssocDowns n) := by
    rw [← hs2]
    exact (State.modAssoc_engines s1 n a _).num _ (o4HwtAssocDowns_engines n)
  obtain ⟨_, _, _, _, _, he⟩ := (s2.sendAck n a).assoc_tryUp n a was
  rw [he, State.assoc_sendAck, hx]
  refine ⟨rfl, rfl, rfl, rfl, fun hup => ?_⟩
  rw [(State.tryUp_engines _ n a was).num _ (o4HwtAssocDowns_engines n), (State.sendAck_engines _ n a).num _ (o4HwtAssocDowns_engines n),
    hnum2]
  exact hnum hup

/-! ### Timers -/

theorem execSyncSend_eq {seq : BitVec 32} (hn : n < 24) (hdown : s.portDown n = false) (ha : a ≤ 63)
    (hen : aEnable (s.assocBytes n a) = true) (hup : (s.assoc n a).up = false) : execSyncSend n a seq s =
      .next ((s.emitHwt n a 6 (syncDatagram (leAt (s.assocBytes n a) 6 2) ((s.assoc n a).ownSeq.getD seq.toNat))).modAssoc n a (fun x =>
        { x with ownSeq := some ((s.assoc n a).ownSeq.getD seq.toNat) })) := by
  rw [execSyncSend, onPort_eq hn]
  exact congrArg _ (if_neg (by simp [hdown, hen, hup]; omega))

/-- A segment that was sent again, with the time at which it left. -/
def OutSeg.again (g : OutSeg) (now : Nat) : OutSeg := { g with resends := g.resends + 1, sentAt := now }

/-- A resend halves the rate (R494). -/
theorem execResendTimeout_resends {seq : BitVec 32} {g : OutSeg} (hn : n < 24) (hdown : s.portDown n = false)
    (hg : (s.assoc n a).flight.find? (fun y => y.seq = seq.toNat) = some g) (hfew : g.resends < 16) :
    execResendTimeout n a seq s =
      .next (((((s.atTime (max s.wt (g.sentAt + s.resendTime n a g))).modAssoc n a (fun x => { x with
        flight := x.flight.map (fun y => if y.seq = seq.toNat then
          y.again (s.atTime (max s.wt (g.sentAt + s.resendTime n a g))).wt else y)
        rate := Frac.max (Frac.mul x.rate ⟨1, 2⟩) ⟨s.num (o4RateMin n), 1⟩ })).sendSeg n a g).addNum (o4HwtResends n) 1)) := by
  rw [execResendTimeout, onPort_eq hn]
  dsimp only
  rw [if_neg (by simp [hdown]), hg]
  exact congrArg _ (if_neg (by omega))

theorem execResendTimeout_gives_up {seq : BitVec 32} {g : OutSeg} (hn : n < 24) (hdown : s.portDown n = false)
    (hg : (s.assoc n a).flight.find? (fun y => y.seq = seq.toNat) = some g) (hmany : 16 ≤ g.resends) :
    execResendTimeout n a seq s = .next ((s.atTime (max s.wt (g.sentAt + s.resendTime n a g))).assocDown n a) := by
  rw [execResendTimeout, onPort_eq hn]
  dsimp only
  rw [if_neg (by simp [hdown]), hg]
  exact congrArg _ (if_pos hmany)

theorem execAckTimer_eq (hn : n < 24) (hup : s.assocUp n a = true) (hun : (s.assoc n a).unacked ≠ 0) :
    execAckTimer n a s = .next (s.sendAck n a) := by
  rw [execAckTimer, onPort_eq hn]
  exact congrArg _ (when'_true (by simp [hup, hun]))

theorem execRateUpdate_eq (hn : n < 24) (hup : s.assocUp n a = true) : execRateUpdate n a s =
    .next (s.modAssoc n a (fun x => x.rateStep (s.num (o4RateMin n)) (s.num (o4RateStep n)) (s.portRateMb n))) := by
  rw [execRateUpdate, onPort_eq hn]
  exact congrArg _ (when'_true hup)

/-- Without congestion a rate grows by a step (R494). -/
theorem Assoc.rate_rateStep {lo step top : Nat} (hce : x.acksCe = 0) :
    (x.rateStep lo step top).rate = Frac.min (Frac.add x.rate ⟨step, 1⟩) ⟨top, 1⟩ := by
  unfold rateStep
  dsimp only
  rw [hce]
  exact if_pos (by split <;> rfl)

end Sys2Proof.Machine
end

section
/-! SUPPORT. Remote windows (R508 to R513): the operations of a port engine, and the answers of its peers. -/

namespace Sys2Proof.Machine

variable {s t u : State} {n a op : Nat} {m : HwtMsg} {write : Bool}

/-! ### Messages that wait -/

/-- The state in which a waiting message has been taken. -/
def State.readyTaken (s : State) (n a : Nat) (m : HwtMsg) : State := s.modPort n (fun p => { p with ready := p.ready.erase (a, m) })

theorem onReady_eq {f : State → HwtMsg → Option State} (hn : n < 24)
    (h : (s.port n).ready.find? (fun y => y.1 = a && y.2.opcode = op) = some (a, m)) :
    onReady n a op s f = .next ((f (s.readyTaken n a m) m).getD s) := by
  rw [onReady, onPort_eq hn, h]
  rfl

theorem State.port_readyTaken (s : State) (n a : Nat) (m : HwtMsg) :
    (s.readyTaken n a m).port n = { s.port n with ready := (s.port n).ready.erase (a, m) } := State.port_modPort_same s n _

theorem State.portTxns_readyTaken (s : State) (n a : Nat) (m : HwtMsg) : (s.readyTaken n a m).portTxns n = s.portTxns n := by
  unfold portTxns
  rw [State.port_readyTaken]
  rfl

/-! ### Operations on windows -/

/-- The requests for the parts of a message: none changes a port, one part is added for each, and none of these is answered yet. -/
theorem portParts_leaves (n a0 : Nat) (write : Bool) (d : List Byte) (l : List (Nat × Nat)) (done : List ReqPart) (s : State) :
    (portParts n a0 write d l done s).1.ports = s.ports ∧
      ∃ l', (portParts n a0 write d l done s).2 = done ++ l' ∧ l'.length = l.length ∧ ∀ p ∈ l', p.done = false := by
  induction l generalizing done s with
  | nil => exact ⟨rfl, [], (List.append_nil _).symm, rfl, fun _ h => absurd h List.not_mem_nil⟩
  | cons p r ih =>
    obtain ⟨b, len⟩ := p
    obtain ⟨q, he⟩ : ∃ q, portParts n a0 write d ((b, len) :: r) done s =
      portParts n a0 write d r (done ++ [⟨s.portTxn n (done.map (·.txn)), b, len, false, []⟩]) (s.addPacket q) := ⟨_, rfl⟩
    rw [he]
    obtain ⟨hports, l', hl, hlen, hdone⟩ := ih (done ++ [⟨s.portTxn n (done.map (·.txn)), b, len, false, []⟩]) (s.addPacket q)
    refine ⟨hports, ⟨s.portTxn n (done.map (·.txn)), b, len, false, []⟩ :: l', ?_, congrArg (· + 1) hlen, ?_⟩
    · rw [hl, List.append_assoc]
      rfl
    · intro q hq
      obtain rfl | hq := List.mem_cons.mp hq
      · rfl
      · exact hdone q hq

/-- An operation that begins stands at a free number of its port, its parts all open. -/
theorem State.startPortOp_begins {len : Nat} {data : List Byte}
    (hroom : (s.portTxns n).eraseDups.length +
      (cutParts 1026 (wInBase (s.windowBytes n (nfld m.target 49 6)) + nfld m.target 0 49) len).length ≤ 4096) :
    ∃ t o, s.startPortOp n a m write len data = some t ∧ (t.port n).ops.look (s.port n).ops.fresh = some o ∧ o.write = write ∧
      o.assoc = a ∧ o.msgId = m.msgId ∧ o.off = nfld m.target 0 49 ∧ o.len = len ∧
      o.parts.length = (cutParts 1026 (wInBase (s.windowBytes n (nfld m.target 49 6)) + nfld m.target 0 49) len).length ∧
      ∀ p ∈ o.parts, p.done = false := by
  obtain ⟨hports, l', hl, hlen, hdone⟩ := portParts_leaves n (wInBase (s.windowBytes n (nfld m.target 49 6)) + nfld m.target 0 49) write
    data (cutParts 1026 (wInBase (s.windowBytes n (nfld m.target 49 6)) + nfld m.target 0 49) len) [] s
  unfold startPortOp
  dsimp only
  generalize cutParts 1026 (wInBase (s.windowBytes n (nfld m.target 49 6)) + nfld m.target 0 49) len = parts at *
  rw [if_neg (by omega)]
  refine ⟨_, ⟨write, a, m.msgId, nfld m.target 49 6, nfld m.target 0 49, len, l', []⟩, rfl, ?_, rfl, rfl, rfl, rfl, rfl, hlen, hdone⟩
  rw [State.port_modPort_same, State.port_of_ports hports, hl]
  exact SMap.look_put_same _ _ _

/-- A read with a part that is open is not finished. -/
theorem State.finishRead_open {key : Nat} {o : PortOp} (hlook : (s.port n).ops.look key = some o) {p : ReqPart} (hp : p ∈ o.parts)
    (hopen : p.done = false) : s.finishRead n key = s := by
  unfold finishRead
  rw [hlook]
  exact if_neg (by simp; exact fun _ => ⟨p, hp, hopen⟩)

theorem cutParts_ne_nil {k b len : Nat} (h : 0 < len) : cutParts (k + 1) b len ≠ [] := by
  unfold cutParts
  rw [if_neg (by omega)]
  exact List.cons_ne_nil _ _

/-- What an operation that begins leaves. -/
def State.Begun (t : State) (n a : Nat) (m : HwtMsg) (write : Bool) (len parts : Nat) : Prop :=
  ∃ key p, (t.port n).ops.look key = some p ∧ p.write = write ∧ p.assoc = a ∧ p.msgId = m.msgId ∧ p.off = nfld m.target 0 49 ∧
    p.len = len ∧ p.parts.length = parts

theorem execRemoteWrite_refused {why : Nat} (hn : n < 24)
    (h : (s.port n).ready.find? (fun y => y.1 = a && y.2.opcode = 7) = some (a, m))
    (hwhy : windowNack (s.windowBytes n (nfld m.target 49 6)) a (nfld m.target 0 49) m.payload.length true = why) (hne : why ≠ 0) :
    execRemoteWrite n a s = .next ((s.readyTaken n a m).sendNack n a m.msgId why 7) := by
  subst hwhy
  exact (onReady_eq hn h).trans (congrArg (fun o : Option State => Host.Outcome.next (o.getD s)) (if_pos hne))

theorem execRemoteWrite_begins (hn : n < 24)
    (h : (s.port n).ready.find? (fun y => y.1 = a && y.2.opcode = 7) = some (a, m))
    (hwhy : windowNack (s.windowBytes n (nfld m.target 49 6)) a (nfld m.target 0 49) m.payload.length true = 0)
    (hroom : (s.portTxns n).eraseDups.length +
      (cutParts 1026 (wInBase (s.windowBytes n (nfld m.target 49 6)) + nfld m.target 0 49) m.payload.length).length ≤ 4096) :
    Gives (execRemoteWrite n a s) (fun t => t.Begun n a m true m.payload.length
      (cutParts 1026 (wInBase (s.windowBytes n (nfld m.target 49 6)) + nfld m.target 0 49) m.payload.length).length) := by
  obtain ⟨t, o, ht, hlook, hw, ha, hid, hoff, hlen, hparts, -⟩ := State.startPortOp_begins (s := s.readyTaken n a m) (a := a) (write := true)
    (data := m.payload) (by rw [State.portTxns_readyTaken]; exact hroom)
  refine ⟨t, (onReady_eq hn h).trans ?_, _, o, hlook, hw, ha, hid, hoff, hlen, hparts⟩
  exact congrArg (fun o : Option State => Host.Outcome.next (o.getD s)) ((if_neg (fun hc => hc hwhy)).trans ht)

/-- Why a read is refused (R512). -/
def State.readNack (s : State) (n a : Nat) (m : HwtMsg) : Nat :=
  if 2097150 < leAt m.payload 0 4 then 6 else if aPeerMax (s.assocBytes n a) < leAt m.payload 0 4 then 2
    else windowNack (s.windowBytes n (nfld m.target 49 6)) a (nfld m.target 0 49) (leAt m.payload 0 4) false

theorem execRemoteRead_refused (hn : n < 24)
    (h : (s.port n).ready.find? (fun y => y.1 = a && y.2.opcode = 9) = some (a, m)) (hne : s.readNack n a m ≠ 0) :
    execRemoteRead n a s = .next ((s.readyTaken n a m).sendNack n a m.msgId (s.readNack n a m) 9) :=
  (onReady_eq hn h).trans (congrArg (fun o : Option State => Host.Outcome.next (o.getD s)) (if_pos hne))

theorem execRemoteRead_begins (hn : n < 24)
    (h : (s.port n).ready.find? (fun y => y.1 = a && y.2.opcode = 9) = some (a, m)) (hwhy : s.readNack n a m = 0)
    (hroom : (s.portTxns n).eraseDups.length +
      (cutParts 1026 (wInBase (s.windowBytes n (nfld m.target 49 6)) + nfld m.target 0 49) (leAt m.payload 0 4)).length ≤ 4096)
    (hlen : 0 < leAt m.payload 0 4) :
    Gives (execRemoteRead n a s) (fun t => t.Begun n a m false (leAt m.payload 0 4)
      (cutParts 1026 (wInBase (s.windowBytes n (nfld m.target 49 6)) + nfld m.target 0 49) (leAt m.payload 0 4)).length) := by
  obtain ⟨t, o, ht, hlook, hw, ha, hid, hoff, hl, hparts, hopen⟩ := State.startPortOp_begins (s := s.readyTaken n a m) (a := a)
    (write := false) (data := []) (by rw [State.portTxns_readyTaken]; exact hroom)
  obtain ⟨p, hp⟩ : ∃ p, p ∈ o.parts := by
    refine List.exists_mem_of_length_pos ?_
    rw [hparts]
    exact List.length_pos_iff.mpr (cutParts_ne_nil hlen)
  have hwait : t.finishRead n ((s.readyTaken n a m).port n).ops.fresh = t := State.finishRead_open hlook hp (hopen p hp)
  have hbegin : ((s.readyTaken n a m).startPortOp n a m false (leAt m.payload 0 4) []).map (fun t =>
      t.finishRead n ((s.readyTaken n a m).port n).ops.fresh) = some t := by rw [ht, Option.map_some, hwait]
  refine ⟨t, (onReady_eq hn h).trans ?_, _, o, hlook, hw, ha, hid, hoff, hl, hparts⟩
  exact congrArg (fun o : Option State => Host.Outcome.next (o.getD s))
    ((if_neg (show ¬ (s.readNack n a m ≠ 0) from not_not_intro hwhy)).trans hbegin)

/-- A write whose parts are all answered is at its end. -/
theorem execRemoteWriteComplete_gives {o : PortOp} (hn : n < 24) (hlook : (s.port n).ops.look op = some o) (hw : o.write = true)
    (hdone : o.parts.all (·.done) = true) : Gives (execRemoteWriteComplete n op s) (fun t => (t.port n).ops.look op = none) := by
  have he : execRemoteWriteComplete n op s = .next (((s.modPort n (fun x => { x with ops := x.ops.del op })).notify n o).sendAnswer n
      o.assoc 8 (worstStatus o.statuses) o.msgId []) := by
    rw [execRemoteWriteComplete, onPort_eq hn, hlook]
    exact congrArg _ (if_pos (by simp [hw, hdone]))
  refine ⟨_, he, ?_⟩
  obtain ⟨_, _, _, _, _, _, _, hserved⟩ := State.queueMsg_served
    ((s.modPort n (fun x => { x with ops := x.ops.del op })).notify n o) n o.assoc ⟨8, worstStatus o.statuses, o.msgId, 0, []⟩ n
  have hports : ((s.modPort n (fun x => { x with ops := x.ops.del op })).notify n o).port n =
      { s.port n with ops := (s.port n).ops.del op } := by
    rw [← State.port_modPort_same s n (fun x => { x with ops := x.ops.del op })]
    unfold State.notify
    dsimp only
    split <;> rfl
  show (((State.queueMsg _ n o.assoc _).port n).ops).look op = none
  rw [hserved, hports]
  exact (SMap.look_del _ _ _).trans (if_pos rfl)

/-! ### Answers of a peer -/

/-- A core's request that is answered by its message's number. -/
theorem State.answerOut_eq {q : OutReq} {id typ status : Nat} {data : List Byte}
    (hq : (s.port n).outReqs.find? (fun y => y.assoc = a && y.msgId = id && (typ = 9 || y.req.typ = typ)) = some q) :
    s.answerOut n a id typ status data = (s.modPort n (fun p => { p with outReqs := p.outReqs.erase q })).respond q.req.home q.req status
      (if q.req.typ = 0 && status = 0 then data else []) 0 := by
  unfold answerOut
  rw [hq]

theorem OutReq.typ_of_find {q : OutReq} {l : List OutReq} {id typ : Nat} (h9 : typ ≠ 9)
    (h : l.find? (fun y => y.assoc = a && y.msgId = id && (typ = 9 || y.req.typ = typ)) = some q) : q.req.typ = typ := by
  have := List.find?_some h
  simp only [Bool.and_eq_true, Bool.or_eq_true, decide_eq_true_eq] at this
  exact this.2.resolve_left h9

theorem State.readyTaken_outReqs (s : State) (n a : Nat) (m : HwtMsg) : ((s.readyTaken n a m).port n).outReqs = (s.port n).outReqs := by
  rw [State.port_readyTaken]

/-- A message of a peer that answers a request of a core. -/
theorem Answers.of_peer {o : Out} {q : OutReq} {id typ status : Nat} {data d : List Byte} (h9 : typ ≠ 9)
    (hq : (s.port n).outReqs.find? (fun y => y.assoc = a && y.msgId = id && (typ = 9 || y.req.typ = typ)) = some q)
    (ho : o = .next ((s.readyTaken n a m).answerOut n a id typ status data)) (hd : (if typ = 0 && status = 0 then data else []) = d)
    (htyp : typ < 2) : Answers o s q.req (typ + 3) status d (fun t => t.dram = s.dram) := by
  have hreq := OutReq.typ_of_find h9 hq
  rw [State.answerOut_eq (by rw [State.readyTaken_outReqs]; exact hq), hreq, hd] at ho
  refine .of_respond ho rfl ?_ rfl
  rw [State.responseTo_typ, hreq, if_neg (by omega), if_neg (by omega)]

theorem execNack_eq {q : OutReq} (hn : n < 24)
    (h : (s.port n).ready.find? (fun y => y.1 = a && y.2.opcode = 0xF) = some (a, m))
    (hq : (s.port n).outReqs.find? (fun y => y.assoc = a && y.msgId = leAt m.payload 0 4 && ((9 : Nat) = 9 || y.req.typ = 9)) = some q) :
    execNack n a s = .next (((s.readyTaken n a m).addNum (o4HwtNacksReceived n) 1).answerOut n a (leAt m.payload 0 4) 9
      (nackStatus (leAt m.payload 4 1)) []) := by
  refine (onReady_eq hn h).trans (congrArg (fun o : State => Host.Outcome.next o) (if_pos ?_))
  rw [State.readyTaken_outReqs]
  have hp := List.find?_some hq
  simp only [Bool.and_eq_true, decide_eq_true_eq] at hp
  exact List.any_eq_true.mpr ⟨q, List.mem_of_find?_eq_some hq, by simp [hp.1.1, hp.1.2]⟩

/-! ### Writes of the tables -/

theorem State.assocWrite_gives {data : List Byte} (hn : n < 24) (ha : a ≤ 63) (hok : s.assocRefused n data = 0) :
    Gives (execAssocWrite n a data s) (fun t => t.assocBytes n a = data ∧ (t.assoc n a).up = false ∧ (t.assoc n a).flight = []) := by
  have he : execAssocWrite n a data s = .next ((((((if s.assocUp n a then s.assocDown n a else s).setBlob (assocKey n a) data).modAssoc n a
      (fun x => { Assoc.reset with msgNext := x.msgNext })).sweep n).applyPath n)) := by
    rw [execAssocWrite, onPort_eq hn, if_pos ha]
    unfold writeAssoc
    dsimp only
    rw [if_neg (fun hc => hc hok)]
  refine ⟨_, he, ?_⟩
  generalize (if s.assocUp n a then s.assocDown n a else s) = s1
  rw [State.assoc_applyPath, State.assoc_sweep, State.assoc_modAssoc, if_pos rfl]
  refine ⟨?_, rfl, rfl⟩
  unfold assocBytes
  rw [(State.applyPath_engines _ n).blobs, (State.sweep_engines _ n).blobs, (State.modAssoc_engines _ n a _).blobs]
  exact SMap.get_put_same _ _ _ _

theorem execAssocWrite_refused {data : List Byte} (hn : n < 24) (ha : a ≤ 63) (hbad : s.assocRefused n data ≠ 0) :
    execAssocWrite n a data s = .next s := by
  rw [execAssocWrite, onPort_eq hn, if_pos ha]
  unfold State.writeAssoc
  dsimp only
  rw [if_pos hbad]

theorem execWindowWrite_eq {data : List Byte} (hn : n < 24) (ha : a ≤ 63) :
    execWindowWrite n a data s = .next (if s.windowRefused n data = 0 then s.setBlob (windowKey n a) data else s) := by
  rw [execWindowWrite, onPort_eq hn, if_pos ha]
  unfold State.writeWindow
  dsimp only
  by_cases h : s.windowRefused n data = 0
  · rw [if_neg (fun hc => hc h), if_pos h]
  · rw [if_pos h, if_neg h]

end Sys2Proof.Machine
end

section
/-! SUPPORT. The transport's commands on segments and timers (R489 to R494), each with what it leaves. -/

namespace Sys2Proof.Machine

variable {s : State} {n a : Nat} {src : SegFrom} {dg : List Byte} {ce : Bool}

/-! ### Discarded segments -/

theorem execDataSegment_discards (hn : n < 24) (hdown : s.portDown n = false) (h1 : (segHeader dg).kind ≠ 1)
    (h2 : (segHeader dg).kind ≠ 2) (hbad : s.segOk n src dg = false) :
    execDataSegment n src dg ce s = .next (s.addNum (o4HwtDiscards n) 1) :=
  onSegment_discards hn hdown (if_neg (by simp; exact ⟨h1, h2⟩)) hbad

theorem execAcknowledgementSegment_discards (hn : n < 24) (hdown : s.portDown n = false) (h1 : (segHeader dg).kind = 1)
    (hbad : s.segOk n src dg = false) : execAcknowledgementSegment n src dg s = .next (s.addNum (o4HwtDiscards n) 1) :=
  onSegment_discards hn hdown (by rw [h1]; rfl) hbad

theorem execSyncSegment_discards (hn : n < 24) (hdown : s.portDown n = false) (h2 : (segHeader dg).kind = 2)
    (hbad : s.segOk n src dg = false) : execSyncSegment n src dg s = .next (s.addNum (o4HwtDiscards n) 1) :=
  onSegment_discards hn hdown (by rw [h2]; rfl) hbad

/-! ### Segments and timers -/

theorem execDataSegment_eq (hn : n < 24) (hdown : s.portDown n = false) (h0 : (segHeader dg).kind = 0) (hok : s.segOk n src dg = true)
    (ha : (segHeader dg).assoc.toNat = a) (hup : s.assocUp n a = true) :
    execDataSegment n src dg ce s = .next ((s.dataSegment n a (segHeader dg) (dg.drop 52) ce).ackIfDue n a) := by
  subst ha
  exact (onSegment_takes hn hdown (by rw [h0]; rfl) hok).trans (congrArg _ (when'_true hup))

/-- The next segment of an association that is up, with a whole message (R491). -/
theorem execDataSegment_gives (hn : n < 24) (hdown : s.portDown n = false) (h0 : (segHeader dg).kind = 0) (hok : s.segOk n src dg = true)
    (ha : (segHeader dg).assoc.toNat = a) (hup : s.assocUp n a = true) (hseq : (segHeader dg).seq.toNat = (s.assoc n a).rxNext)
    (hheld : (s.assoc n a).rxHeld = []) (hcode : 4 < (segHeader dg).opcode.toNat) (hread : (segHeader dg).opcode.toNat ≠ 9)
    (hmsg : s.msgRefused n a (segHeader dg).opcode.toNat (segHeader dg).msgLen.toNat = 0)
    (hreasm : (s.assoc n a).reasm.look (reasmKey (segHeader dg).opcode.toNat (segHeader dg).msgId.toNat) = none)
    (hrec : reasmKey (segHeader dg).opcode.toNat (segHeader dg).msgId.toNat = (segHeader dg).msgId.toNat →
      (s.assoc n a).openRec (segHeader dg).msgId.toNat = none)
    (hlen : (segHeader dg).msgLen.toNat = (dg.drop 52).length) (hoff : (segHeader dg).segOffset = 0) :
    Gives (execDataSegment n src dg ce s) (fun t => (t.assoc n a).rxNext = ((s.assoc n a).rxNext + 1) % 2 ^ 32 ∧
      (t.assoc n a).rxHeld = [] ∧ (t.assoc n a).unacked = (if 15 ≤ (s.assoc n a).unacked then 0 else (s.assoc n a).unacked + 1) ∧
      (t.port n).ready = (s.port n).ready ++ [(a, ⟨(segHeader dg).opcode.toNat, (segHeader dg).status.toNat, (segHeader dg).msgId.toNat,
        (segHeader dg).target.toNat, dg.drop 52⟩)]) := by
  refine ⟨_, execDataSegment_eq hn hdown h0 hok ha hup, ?_⟩
  obtain ⟨hnext, hheld', hun, hready⟩ := State.dataSegment_whole (ce := ce) hseq hheld hcode hread hmsg hreasm hrec hlen hoff
  generalize s.dataSegment n a (segHeader dg) (dg.drop 52) ce = u at hnext hheld' hun hready
  obtain ⟨hnext', hheld'', hun', hready'⟩ := u.ackIfDue_leaves n a
  refine ⟨hnext'.trans hnext, hheld''.trans hheld', ?_, hready'.trans hready⟩
  rw [hun', hun]
  exact if_congr (by omega) rfl rfl

theorem execSyncSend_gives {seq : BitVec 32} (hn : n < 24) (hdown : s.portDown n = false) (ha : a ≤ 63)
    (hen : aEnable (s.assocBytes n a) = true) (hup : (s.assoc n a).up = false) : Gives (execSyncSend n a seq s) (fun t =>
      (t.assoc n a).ownSeq = some ((s.assoc n a).ownSeq.getD seq.toNat) ∧
      s.LeavesHwt t n a 6 (syncDatagram (leAt (s.assocBytes n a) 6 2) ((s.assoc n a).ownSeq.getD seq.toNat))) := by
  refine ⟨_, execSyncSend_eq hn hdown ha hen hup, ?_, State.leaves_emitHwt rfl rfl _ _ rfl⟩
  rw [State.assoc_modAssoc, if_pos rfl]

theorem execAckTimer_gives (hn : n < 24) (hup : s.assocUp n a = true) (hun : (s.assoc n a).unacked ≠ 0) :
    Gives (execAckTimer n a s) (fun t => (t.assoc n a).unacked = 0 ∧ s.LeavesHwt t n a 5 (s.ackBody n a)) := by
  refine ⟨_, execAckTimer_eq hn hup hun, ?_, State.leaves_emitHwt (u := s.draw.2) rfl rfl _ _ rfl⟩
  rw [State.assoc_sendAck]

theorem execRateUpdate_gives (hn : n < 24) (hup : s.assocUp n a = true) (hce : (s.assoc n a).acksCe = 0) :
    Gives (execRateUpdate n a s) (fun t => (t.assoc n a).rate =
      Frac.min (Frac.add (s.assoc n a).rate ⟨s.num (o4RateStep n), 1⟩) ⟨s.portRateMb n, 1⟩ ∧ (t.assoc n a).acks = 0) := by
  refine ⟨_, execRateUpdate_eq hn hup, ?_⟩
  beta_reduce
  rw [State.assoc_modAssoc, if_pos rfl]
  exact ⟨Assoc.rate_rateStep hce, rfl⟩

theorem execWriteCompletion_eq {m : HwtMsg} (hn : n < 24)
    (h : (s.port n).ready.find? (fun y => y.1 = a && y.2.opcode = 8) = some (a, m)) :
    execWriteCompletion n a s = .next ((s.readyTaken n a m).answerOut n a m.msgId 1 m.status []) := onReady_eq hn h

theorem execRemoteReadResponse_eq {m : HwtMsg} (hn : n < 24)
    (h : (s.port n).ready.find? (fun y => y.1 = a && y.2.opcode = 0xA) = some (a, m)) :
    execRemoteReadResponse n a s = .next ((s.readyTaken n a m).answerOut n a m.msgId 0 m.status m.payload) := onReady_eq hn h

/-- A NACK of a peer is counted, and answers the core's request (R500). -/
theorem execNack_gives {q : OutReq} {m : HwtMsg} (hn : n < 24)
    (h : (s.port n).ready.find? (fun y => y.1 = a && y.2.opcode = 0xF) = some (a, m))
    (hq : (s.port n).outReqs.find? (fun y => y.assoc = a && y.msgId = leAt m.payload 0 4 && ((9 : Nat) = 9 || y.req.typ = 9)) = some q) :
    Gives (execNack n a s) (fun t => t.num (o4HwtNacksReceived n) = (s.num (o4HwtNacksReceived n) + 1) % 2 ^ 64 ∧
      ∃ y, t.net.packets.look s.net.nextId = some y ∧ y.status = nackStatus (leAt m.payload 4 1) ∧ y.txn = q.req.txn) := by
  refine ⟨_, execNack_eq hn h hq, ?_⟩
  rw [State.answerOut_eq (q := q) (by unfold State.addNum; rw [State.port_setNum, State.readyTaken_outReqs]; exact hq)]
  exact ⟨(s.readyTaken n a m).num_addNum_same _ _, _, State.addPacket_look _ _, rfl, rfl⟩

theorem execResendTimeout_gives {seq : BitVec 32} {g : OutSeg} (hn : n < 24) (hdown : s.portDown n = false)
    (hg : (s.assoc n a).flight.find? (fun y => y.seq = seq.toNat) = some g) (hfew : g.resends < 16) :
    Gives (execResendTimeout n a seq s) (fun t => t.num (o4HwtResends n) = (s.num (o4HwtResends n) + 1) % 2 ^ 64 ∧
      (t.assoc n a).rate = Frac.max (Frac.mul (s.assoc n a).rate ⟨1, 2⟩) ⟨s.num (o4RateMin n), 1⟩ ∧
      { g with resends := g.resends + 1, sentAt := (s.atTime (max s.wt (g.sentAt + s.resendTime n a g))).wt } ∈ (t.assoc n a).flight ∧
      s.LeavesHwt t n a 7 (g.datagram (leAt (s.assocBytes n a) 6 2))) := by
  refine ⟨_, execResendTimeout_resends hn hdown hg hfew, ?_⟩
  generalize hv : max s.wt (g.sentAt + s.resendTime n a g) = v
  generalize hu : (s.atTime v).modAssoc n a (fun x => { x with
    flight := x.flight.map (fun y => if y.seq = seq.toNat then y.again (s.atTime v).wt else y)
    rate := Frac.max (Frac.mul x.rate ⟨1, 2⟩) ⟨s.num (o4RateMin n), 1⟩ }) = u
  have hx : u.assoc n a = { s.assoc n a with
      flight := (s.assoc n a).flight.map (fun y => if y.seq = seq.toNat then y.again (s.atTime v).wt else y)
      rate := Frac.max (Frac.mul (s.assoc n a).rate ⟨1, 2⟩) ⟨s.num (o4RateMin n), 1⟩ } := by
    rw [← hu, State.assoc_modAssoc, if_pos rfl]
    rfl
  have hbytes : u.assocBytes n a = s.assocBytes n a := by rw [← hu]; rfl
  have hnum : ∀ key, u.num key = s.num key := by intro key; rw [← hu]; rfl
  have hsent : u.sent = s.sent := by rw [← hu]; rfl
  have hport : ((u.sendSeg n a g).addNum (o4HwtResends n) 1).port n = u.port n := by
    unfold State.addNum
    rw [State.port_setNum, State.port_sendSeg]
  refine ⟨?_, ?_, ?_, ?_⟩
  · rw [State.num_addNum_same, (State.sendSeg_engines u n a g).num _ (by rw [o4HwtResends, okey_mod _ _ (by decide)]; decide), hnum]
  · rw [State.assoc_of_port hport, hx]
  · rw [State.assoc_of_port hport, hx]
    refine List.mem_map.mpr ⟨g, List.mem_of_find?_eq_some hg, if_pos ?_⟩
    have hseq := List.find?_some hg
    exact of_decide_eq_true hseq
  · rw [← hbytes]
    exact State.leaves_emitHwt hsent (hnum _) _ _ rfl

end Sys2Proof.Machine

open Sys2Proof Sys2Proof.Machine

/-- Settles O54: each command of the transport by what it does to its association, port and message. -/
theorem transportCommands : Obligations.TransportCommands := by
  unfold Obligations.TransportCommands
  intro s n a op src dg data ce seq g o q m x h body code peer discarded b off oldest taken parts room begun named asked readNack leaves
    late hn
  refine ⟨fun hdown => ⟨fun hbad => ⟨fun h1 h2 => execDataSegment_discards hn hdown h1 h2 hbad,
      fun h1 => execAcknowledgementSegment_discards hn hdown h1 hbad, fun h2 => execSyncSegment_discards hn hdown h2 hbad⟩,
      fun hok h0 ha hup hseq hheld hcode hread hmsg hreasm hrec hlen hoff =>
        execDataSegment_gives hn hdown h0 hok ha hup hseq hheld hcode hread hmsg hreasm hrec hlen hoff,
      fun hok h1 ha hup hqueue => execAcknowledgementSegment_gives hn hdown hok h1 ha hup hqueue,
      fun hok h2 ha => execSyncSegment_gives hn hdown hok h2 ha,
      fun ha hen hup => execSyncSend_gives hn hdown ha hen hup,
      fun hg => ⟨fun hfew => execResendTimeout_gives hn hdown hg hfew, fun hmany => execResendTimeout_gives_up hn hdown hg hmany⟩⟩,
    fun hup hun => execAckTimer_gives hn hup hun, fun hup hce => execRateUpdate_gives hn hup hce,
    fun hold => ⟨fun hne => execRemoteWrite_refused hn hold rfl hne, fun hwhy hroom => execRemoteWrite_begins hn hold hwhy hroom⟩,
    fun hold => ⟨fun hne => execRemoteRead_refused hn hold hne, fun hwhy hroom hlen => execRemoteRead_begins hn hold hwhy hroom hlen⟩,
    fun hlook hw hdone => execRemoteWriteComplete_gives hn hlook hw hdone, fun hold hq => ?_, fun hold hq => ?_, fun hold hq => ?_,
    fun ha => ⟨fun hok => State.assocWrite_gives hn ha hok, fun hbad => execAssocWrite_refused hn ha hbad, execWindowWrite_eq hn ha⟩⟩
  · exact .of_peer (typ := 1) (by decide) hq (execWriteCompletion_eq hn hold) rfl (by decide)
  · exact .of_peer (typ := 0) (by decide) hq (execRemoteReadResponse_eq hn hold) (if_congr (by simp) rfl rfl) (by decide)
  · exact execNack_gives hn hold hq
end
